-- ==== Sys2Proof/Word.lean ====
section
/-! DEFINITION. The plain data the rest of the model is written with: bytes and words, finite
tables, and the descriptors of registers (spec/00, R6, R9; spec/22, R581). -/

namespace Sys2Proof

/-- A byte of memory or of a payload. -/
abbrev Byte := BitVec 8

/-- A 32-bit register or header word (R6, R7). -/
abbrev Word32 := BitVec 32

/-- A 64-bit scalar register of a tile. -/
abbrev Word64 := BitVec 64

/-- A finite table: a list of keys with their values.  A key that is not listed holds the
default that the reader of the table names. -/
abbrev Tab (κ α : Type) := List (κ × α)

/-- The value of key `k`, or `d` when the table does not list it. -/
def Tab.get {κ α : Type} [DecidableEq κ] : Tab κ α → κ → α → α
  | [], _, d => d
  | (k', v) :: t, k, d => if k' = k then v else Tab.get t k d

/-- The value of key `k`, if the table lists it. -/
def Tab.look {κ α : Type} [DecidableEq κ] : Tab κ α → κ → Option α
  | [], _ => none
  | (k', v) :: t, k => if k' = k then some v else Tab.look t k

/-- The table with key `k` holding `v`. -/
def Tab.put {κ α : Type} [DecidableEq κ] : Tab κ α → κ → α → Tab κ α
  | [], k, v => [(k, v)]
  | (k', v') :: t, k, v => if k' = k then (k, v) :: t else (k', v') :: Tab.put t k v

/-- The table without key `k`. -/
def Tab.del {κ α : Type} [DecidableEq κ] (t : Tab κ α) (k : κ) : Tab κ α :=
  t.filter fun e => e.1 ≠ k

/-- The access codes of register fields (R9). -/
inductive Acc
  | ro | rw | rw1c | rw1s | wo | rwl | fuse
  deriving DecidableEq, Repr

/-- Where a field's reset value comes from.  `const` is a value the register table prints; the
others are the rules that stand in its place: `age` and `qen` depend on the virtual channel
(R163, R205), `meshPeer` on the quadrant (XBAR.MESHSTAT), `ctabA` on the channel (R419);
`fused` is a fuse of the part and `asFused` the fuse of another field. -/
inductive Rst
  | const (v : Nat) | age | meshPeer | qen | ctabA | fused | asFused (id : Nat)
  deriving DecidableEq, Repr

/-- One field of a register: its number in this model, its lowest bit, its width, its access
code and its reset value. -/
structure Fld where
  id : Nat
  lo : Nat
  w : Nat
  acc : Acc
  rst : Rst
  deriving DecidableEq, Repr

/-- The register blocks of R582, R583 and R593.  `mbxw` is a channel window (R423), `ring` the
ring window of a port, `schg`, `schq` and `scha` the global, port-queue and attach-queue
registers of the scheduler. -/
inductive Blk
  | hub | pwr | thd | sec | mbx | mbxw | flt | rst | oe | xbar | bpm | lnk | ring | rte
  | schg | schq | scha | red | col | tile | sram | hbm | nvs | tel
  deriving DecidableEq, Repr

/-- One register of a block: the offset of its element 0 in an instance's window, the step
between elements and their number, and its fields. -/
structure RegRow where
  name : String
  blk : Blk
  off : Nat
  stride : Nat
  count : Nat
  flds : List Fld
  deriving DecidableEq, Repr

/-- The place of one stored field: the field's number, the block instance and the element. -/
structure RegKey where
  id : Nat
  inst : Nat
  idx : Nat
  deriving DecidableEq, Repr

/-- Element `i` of a list of numbers, 0 beyond its end. -/
def nth (l : List Nat) (i : Nat) : Nat := l.getD i 0

end Sys2Proof
end

