-- ==== Sys2Proof/Packet.lean ====
section
/-! DEFINITION. What travels on a link: packets with their headers (spec/04, R93 to R97), flits
(R88, R91, R92), NEG flits (R129) and halyard words (R121, R122).  Header fields are numbers;
the widths are those of the header drawings and `WellFormed` holds them. -/

namespace Sys2Proof

/-- A pennant or a streamer: the routing header (R93), the class's own words (R94, R96) and the
payload bytes.  Fields that the class does not carry are 0.  `len` is the length field as sent:
PLEN in bytes for a pennant, PLEN4 in 4 B units for a streamer. -/
structure Packet where
  pclass : Nat := 1
  burgee : Nat := 0
  hoplim : Nat := 63
  dst : Nat := 0
  entropy : Nat := 0
  src : Nat := 0
  tag : Nat := 0
  typ : Nat := 0
  opcode : Nat := 0
  len : Nat := 0
  nidem : Bool := false
  ts : Bool := false
  arg5 : Nat := 0
  arg6 : Nat := 0
  arg7 : Nat := 0
  exact : Bool := false
  fmt : Nat := 0
  epoch : Nat := 0
  collId : Nat := 0
  contrib : Nat := 0
  offset : Nat := 0
  region : Nat := 0
  trigger : Nat := 0
  trigV : Bool := false
  payload : List Nat := []
  deriving DecidableEq, Repr

/-- A DATA flit (R91).  The flit that opens a packet carries the packet; the flits after it
carry its next 244 B, which the model does not repeat.  `auth` is the batch number of the
LINK_AUTH that covers it when the link encrypts (R553). -/
structure DataFlit where
  vc : Nat := 0
  sop : Bool := true
  eop : Bool := true
  stomp : Bool := false
  seq : Nat := 0
  ack : Nat := 0
  crV : Bool := false
  crVc : Nat := 0
  crCum : Nat := 0
  pkt : Option Packet := none
  deriving DecidableEq, Repr

/-- A link control flit (R92): `cum` holds the cumulative credit count of VC0 to VC7. -/
structure Lcf where
  nak : Bool := false
  nakSeq : Nat := 0
  ack : Nat := 0
  cum : List Nat := []
  deriving DecidableEq, Repr

/-- A NEG flit (R129).  `nstep` is 0 OFFER, 1 CONFIRM, 2 RESYNC. -/
structure NegFlit where
  maxv : Nat := 0x30
  minv : Nat := 0x21
  nstep : Nat := 0
  nseq : Nat := 0
  maxOut : Nat := 0
  eseq : Nat := 0
  caps : Nat := 0
  srcDev : Nat := 0
  echoNseq : Nat := 0
  turnNs : Nat := 0xFFFFFF
  initCr : List Nat := []
  agreed : Nat := 0
  repoch : Nat := 0
  deriving DecidableEq, Repr

/-- A halyard word (R121, R122): HTYPE, HSEQ, bits [15:8] and [7:0] of word 0, and words 1
to 3. -/
structure Haly where
  htype : Nat := 0
  hseq : Nat := 0
  b1 : Nat := 0
  b0 : Nat := 0
  w1 : Nat := 0
  w2 : Nat := 0
  w3 : Nat := 0
  deriving DecidableEq, Repr

/-- A holder of a stored packet (R153): the egress whose queue holds its descriptor (a port ID,
or 0x200 + 8q + a for attach point a of quadrant q, as counters number them in R516), the VC it
leaves on, and the internal target code of R171 behind an attach point.  The target codes 0x1000
(none: a port) and 0x1FE (the retention store controller) are the model's own. -/
structure Holder where
  eg : Nat
  vc : Nat
  tgt : Nat := 0x1000
  mirror : Bool := false
  deriving DecidableEq, Repr

/-- Where a stored packet lies (R144): cells of pool `k` of quadrant `q`, or slots of the ring of
source `e` (coded as `Holder.eg`) on virtual channel `v`. -/
inductive Storage
  | pool (q k : Nat) (cells : List Nat)
  | ring (e v : Nat) (slots : Nat)
  deriving DecidableEq, Repr

/-- A marker word as received (R62), with the verdict of its CRC. -/
structure Marker where
  crcOk : Bool := true
  phyVer : Nat := 1
  state : Nat := 0
  width : Nat := 1
  pos : Nat := 0
  srcLane : Nat := 0
  srcOe : Nat := 0
  srcDev : Nat := 0
  activeNext : Nat := 0
  activeNow : Nat := 0
  margin : Nat := 0
  txReq : Nat := 0
  txAck : Nat := 0
  sfCount : Nat := 0
  deriving DecidableEq, Repr

end Sys2Proof
end

