-- ==== Sys2Proof/Machine/StateNet.lean ====
section
/-! DEFINITION. State of the fabric side: lanes and ports (spec/03), links (spec/04), stored
packets, rings, pools and egress queues (spec/05), routing tables (spec/06), schedulers and
tenants (spec/07).  Egress and ingress codes are those of `Holder.eg`. -/

namespace Sys2Proof.Machine

/-! ### Lanes and ports (spec/03) -/

/-- What a lane of an optical engine holds beside its OE registers: when its bring-up step began, when
bring-up starts again (R75), the failed attempts in a row and the failed qualifications (R75), the
failed retrainings (R79), the times of recent uncorrectable codewords and the bad frames in a row
(R81), bad markers in a row (R63), blocks still to be passed on poisoned (R61), the run of codewords
beyond the gain range and the range decided (R78), the corrected symbols of the running window and the
windows above the threshold (R79), the announced and received power-state changes (R85, R86), what the
peer's last valid marker word said (R62), whether the transmitter is on, and the requests ignored under R512. -/
structure Lane where
  stepAt : Nat := 0
  retryAt : Option Nat := none
  tries : Nat := 0
  qualTries : Nat := 0
  retrainFails : Nat := 0
  wantRetrain : Bool := false
  uncTimes : List Nat := []
  badFrames : Nat := 0
  badMarkers : Nat := 0
  poison : Nat := 0
  gainRun : Nat := 0
  gainNext : Option Nat := none
  csym : Nat := 0
  overs : Nat := 0
  stbyNext : Bool := false
  darkNext : Bool := false
  peerStbyNext : Bool := false
  peerDarkNext : Bool := false
  wakeAt : Option Nat := none
  txOn : Bool := false
  failed : Bool := false
  mState : Nat := 15
  mWidth : Nat := 0
  mPos : Nat := 0
  mLane : Nat := 0
  mOe : Nat := 0
  mDev : Nat := 0
  mNow : Nat := 0
  mReq : Nat := 0
  sfCount : Nat := 0
  lctlIgnored : Nat := 0
  deriving DecidableEq, Repr

/-- What a port holds above its lanes: whether the PHY has passed it up, the lane masks in force
(bit i: the lane at position i), the mask announced for the next superframe (R82), when its first
lane became READY (R74), the state PORT_STATE commands with its journal entry (R84), whether
PORT_WIDTH has been raised (R73), and the peer (R190). -/
structure Port where
  up : Bool := false
  txMask : Nat := 0
  rxMask : Nat := 0
  nextMask : Nat := 0
  readyAt : Option Nat := none
  cmdState : Nat := 0
  job : Option Nat := none
  sfCount : Nat := 0
  widthEvent : Bool := false
  peerDev : Nat := 0
  deriving DecidableEq, Repr

/-- A laser input (R58): when its power fell low and when it came back, and whether the loss has
been acted on. -/
structure Laser where
  lowSince : Option Nat := none
  acted : Bool := false
  deriving DecidableEq, Repr

/-! ### Links (spec/04) -/

/-- A DATA flit kept until it is acknowledged (R105): the packet it belongs to, for the records
of R133, and when it was last sent (R109). -/
structure TxFlit where
  seq : Nat
  vc : Nat
  sop : Bool
  eop : Bool
  stomp : Bool := false
  pkt : Packet
  ing : Nat := 0
  sentAt : Nat
  deriving DecidableEq, Repr

/-- A packet open at the receiver (R102): the stored packet it fills once it has arrived, its
header, the flits accepted and the flits it must have. -/
structure OpenPkt where
  pkt : Packet
  seq : Nat := 0
  got : Nat
  total : Nat
  pid : Option Nat := none
  discard : Bool := false
  deriving DecidableEq, Repr

/-- A packet whose first flit has passed its check and that waits for PACKET_ARRIVAL (R596). -/
structure Arrival where
  port : Nat
  vc : Nat
  pkt : Packet
  seq : Nat
  stamp : Nat
  got : Nat := 1
  deriving DecidableEq, Repr

/-- The streamer open on an egress (R116): the stored packet, its VC, the flits it has and has
sent, and the allowance A. -/
structure TxOpen where
  pid : Nat
  vc : Nat
  pkt : Packet
  ing : Nat := 0
  total : Nat
  sent : Nat
  allow : Nat
  sinceGrow : Nat
  hold : Holder
  stomp : Bool := false
  deriving DecidableEq, Repr

/-- A pennant that the scheduler has started and the transmitter has not yet sent. -/
structure TxPen where
  pid : Nat
  vc : Nat
  pkt : Packet
  ing : Nat := 0
  hold : Holder
  deriving DecidableEq, Repr

/-- A halyard word to be sent: the copies left and the slot it must be sent by (R120). -/
structure HalyOut where
  word : Haly
  left : Nat
  deriving DecidableEq, Repr

/-- A link's transmitter, receiver and negotiation (R104 to R134), its fabric-time servo inputs
(R127, R447) and its authentication (R548 to R554). -/
structure Link where
  -- transmitter
  txSeq : Nat := 0
  lastAck : Nat := 0xFFFF
  replay : List TxFlit := []
  replayFrom : Option Nat := none
  timeouts : Nat := 0
  txOpen : Option TxOpen := none
  txReady : List TxPen := []
  crAvail : List Nat := [0, 0, 0, 0, 0, 0, 0, 0]
  crTaken : List Nat := [0, 0, 0, 0, 0, 0, 0, 0]
  halyOut : List HalyOut := []
  halySeq : Tab Nat Nat := []
  lcfDue : Bool := false
  lcfNak : Option Nat := none
  lastLcf : Nat := 0
  budget : List Bool := []
  -- receiver
  eseq : Nat := 0
  nakPending : Bool := false
  nakAt : Nat := 0
  ackDue : Option Nat := none
  granted : List Nat := [0, 0, 0, 0, 0, 0, 0, 0]
  accepted : List Nat := [0, 0, 0, 0, 0, 0, 0, 0]
  returned : List Nat := [0, 0, 0, 0, 0, 0, 0, 0]
  reported : List Nat := [0, 0, 0, 0, 0, 0, 0, 0]
  unrepAt : List (Option Nat) := [none, none, none, none, none, none, none, none]
  opens : Tab Nat OpenPkt := []
  openStreamer : Option Nat := none
  ilvSeen : Nat := 0
  halyLast : Tab Nat Nat := []
  -- pauses of the peer (R123): none, until a time, or indefinite
  pauseUntil : List (Option Nat) := [none, none, none, none, none, none, none, none]
  -- negotiation
  negSeq : Nat := 0
  negNext : Nat := 0
  negPeerSeq : Option Nat := none
  negPeerAt : Nat := 0
  negSent : List (Nat × Nat) := []
  negRtt : Option Nat := none
  initCr : List Nat := [0, 0, 0, 0, 0, 0, 0, 0]
  firstConfirm : Nat := 0
  enteredAt : Nat := 0
  repoch : Nat := 0
  lateRepoch : Option Nat := none
  noverSeen : Bool := false
  peerInitCr : List Nat := []
  peerCaps : Nat := 0
  peerDev : Nat := 0
  -- time words (R127)
  timeNext : Nat := 0
  timeSent : List (Nat × Nat) := []
  timePeer : Option (Nat × Nat) := none
  -- admission, attestation and the per-link key (R548 to R554)
  attState : Nat := 0
  attCause : Nat := 0
  attAt : Nat := 0
  attNext : Nat := 0
  key : Bool := false
  nonceLast : Nat := 0
  enc : Bool := false
  txb : Nat := 0
  txBatch : Nat := 0
  rxBatch : Nat := 0
  rxHeld : List DataFlit := []
  rxBad : Bool := false
  authFails : Nat := 0
  peerReq : Bool := false
  digest : List Nat := []
  meas : List Nat := []
  badBatches : Nat := 0
  deriving DecidableEq, Repr

/-! ### Stored packets and queues (spec/05) -/

/-- The trace record that a tagged packet gathers (R523). -/
structure Trace where
  t0 : Nat
  routed : Option Nat := none
  stored : Option Nat := none
  chosen : Option Nat := none
  sent : Option Nat := none
  depth : Nat := 0
  first : Nat := 0x1FF
  nHold : Nat := 0
  deriving DecidableEq, Repr

/-- A stored packet (R139 to R155): its ingress code and VC, its home quadrant, the flits it has
and has so far, where it lies, its reference count and the holders that have not released it. -/
structure Stored where
  pkt : Packet
  ing : Nat
  vc : Nat
  home : Nat
  flits : Nat
  have_ : Nat
  store : Storage
  count : Nat
  holders : List Holder := []
  begun : List Holder := []
  done : List Holder := []
  stomped : Bool := false
  eccAt : Option Nat := none
  tag : Option Trace := none
  -- the context that made a result (R255), and what a holder sends in place of the packet (R291, R530)
  ctx : Option Nat := none
  patch : List (Holder × Packet) := []
  deriving DecidableEq, Repr

/-- A descriptor in an egress queue: the packet, its holder, when it was entered and the mark of
a flush with its reason (R163, R164). -/
structure Desc where
  pid : Nat
  hold : Holder
  at_ : Nat
  flits : Nat
  mark : Option Nat := none
  deriving DecidableEq, Repr

/-- An egress queue (R140, R163, R195, R209): its descriptors in order, the ageing count in
100 µs steps, the tags of its head, the flits of the head prefetched into the landing store
(R142), the sample since the last period, and the shaper's tokens in eightieths of a byte (R199). -/
structure Queue where
  descs : List Desc := []
  age : Nat := 0
  tickAt : Option Nat := none
  stag : Nat := 0
  ftag : Nat := 0
  landed : Nat := 0
  maxDepth : Nat := 0
  maxDelay : Nat := 0
  tokens : Int := 0
  tokAt : Nat := 0
  deriving DecidableEq, Repr

/-- A slot range of a ring, from head to tail (R151, R152).  `cred` is the credits it returns when
fewer flits than slots were accepted (R103). -/
structure RingEnt where
  pid : Nat
  slots : Nat
  freed : Bool := false
  cred : Option Nat := none
  deriving DecidableEq, Repr

/-- A pool cell in use: the source that holds it and the burgee of its packet (R149, R203). -/
structure CellUse where
  cell : Nat
  src : Nat
  burgee : Nat
  deriving DecidableEq, Repr

/-- What a failure record names (R476): the item's routing fields, what it was, and where it
goes; `pid` is the stored packet, where it was one.  `toBlock` is the internal target whose item it was, when the source is an internal block
(R165, R478); `hist` false marks a record of a mirror copy that goes nowhere else (R531). -/
structure FailRec where
  reason : Nat
  item : Nat := 0
  burgee : Nat := 0
  dst : Nat := 0
  entropy : Nat := 0
  tag : Nat := 0
  vc : Nat := 0
  cls : Nat := 0
  typ : Nat := 0
  itemDst : Nat := 0
  name : Nat := 0
  status : Nat := 0
  blk : Nat := 0
  inst : Nat := 0
  at_ : Nat := 0
  offset : Nat := 0
  toBlock : Option Nat := none
  histOnly : Bool := false
  via : Option Nat := none
  pid : Option Nat := none
  deriving DecidableEq, Repr

/-! ### Routing (spec/06) -/

/-- An FEID window (R168). -/
structure Window where
  v : Bool := false
  base : Nat := 0
  limit : Nat := 0
  shift : Nat := 0
  tbase : Nat := 0
  deriving DecidableEq, Repr

/-- A route entry (R169).  KIND 0 INVALID, 1 SPRAY, 2 LOCAL, 3 MCAST. -/
structure RouteEnt where
  kind : Nat := 0
  psetV : Bool := false
  set : Nat := 0
  pset : Nat := 0
  rgrp : Nat := 0
  alt : Nat := 0
  altV : Bool := false
  deriving DecidableEq, Repr

/-- A spray set: base slot and slot count (R170). -/
structure SpraySet where
  base : Nat := 0
  n : Nat := 1
  deriving DecidableEq, Repr

/-- A slot of a spray set (R170). -/
structure Slot where
  tgt : Nat := 0
  int : Bool := false
  deriving DecidableEq, Repr

/-- A port attribute (R177). -/
structure PortAttr where
  edge : Bool := false
  dline : Bool := false
  axis : Nat := 0
  nrelay : Bool := false
  noticeV : Bool := false
  noticeId : Nat := 0
  expDev : Nat := 0
  deriving DecidableEq, Repr

/-- A notice table entry (R178). -/
structure NoticeEnt where
  v : Bool := false
  rgrp : Nat := 0
  relayId : Nat := 0
  relayV : Bool := false
  deriving DecidableEq, Repr

/-- One bank of a quadrant's routing tables (R167).  `nSets`, `nSlots` are the counts the image
loaded; entries beyond a count read as 0. -/
structure Bank where
  valid : Bool := false
  epoch : Nat := 0
  digest : Nat := 0
  windows : List Window := []
  routes : Tab Nat RouteEnt := []
  sets : Tab Nat SpraySet := []
  slots : Tab Nat Slot := []
  attrs : Tab Nat PortAttr := []
  notices : Tab Nat NoticeEnt := []
  nSets : Nat := 0
  nSlots : Nat := 0
  deriving DecidableEq, Repr

/-- A route notice held for a newer epoch (R181). -/
structure HeldNotice where
  port : Nat
  restore : Bool
  origin : Nat
  nseq : Nat
  epoch : Nat
  ids : List Nat
  until_ : Nat
  deriving DecidableEq, Repr

/-- What the device keeps of a port for R180 and R190: whether it is excluded locally, when its
notice is repeated, when it was restored and the repeats left. -/
structure PortRoute where
  excl : Bool := true
  noticeAt : Option Nat := none
  goodSince : Option Nat := none
  restoreAt : Option Nat := none
  restoresLeft : Nat := 0
  mismatch : Bool := false
  srcDev : Nat := 0
  deriving DecidableEq, Repr

/-- The armed bank switch (R186, R188): its mode, T, whether the drain has begun, joined its
hoist, the journal entry of the commit that armed it. -/
structure Armed where
  mode : Nat
  t : Nat
  draining : Bool := false
  joined : Bool := false
  hoist : Nat := 0
  aseq : Nat := 0
  dets : Nat := 0
  deriving DecidableEq, Repr

/-! ### Scheduling and tenants (spec/07) -/

/-- A burgee table entry with its policer, whose tokens are eighths of a byte (R201, R204). -/
structure BurgeeEnt where
  pmode : Nat := 0
  pmask : Nat := 0
  prate : Nat := 0
  quota : Nat := 0
  pburst : Nat := 0
  tokens : Int := 0
  tokAt : Nat := 0
  deriving DecidableEq, Repr

/-- A quench applied at a local attach point (R207). -/
structure Quench where
  eg : Nat
  src : Nat
  burgee : Nat
  dst : Nat
  mask : Nat
  until_ : Nat
  deriving DecidableEq, Repr

/-- The fabric side of the device. -/
structure Net where
  lanes : Tab Nat Lane := []
  ports : Tab Nat Port := []
  lasers : Tab Nat Laser := []
  links : Tab Nat Link := []
  arrivals : List Arrival := []
  nextPid : Nat := 0
  pkts : Tab Nat Stored := []
  queues : Tab (Nat × Nat) Queue := []
  crossing : List (Nat × Holder) := []
  attachIn : Tab Nat (List (Nat × Holder)) := []
  rings : Tab (Nat × Nat) (List RingEnt) := []
  pools : Tab (Nat × Nat) (List CellUse) := []
  quarantined : Tab (Nat × Nat) (List Nat) := []
  retiredCells : Tab (Nat × Nat) (List Nat) := []
  retiredSlots : Tab Nat Nat := []
  badSlots : Tab Nat Nat := []
  recq : Tab Nat (List FailRec) := []
  held : List Nat := []
  banks : Tab Nat (Bank × Bank) := []
  masks : Tab (Nat × Nat) (List Nat) := []
  portRoute : Tab Nat PortRoute := []
  noticeSeq : Nat := 0
  relayed : List (Nat × Nat) := []
  heldNotices : List HeldNotice := []
  armed : Option Armed := none
  drainUnpause : Option Nat := none
  vtime : Tab Nat Nat := []
  burgees : Tab (Nat × Nat) BurgeeEnt := []
  allow : Tab Nat (List Nat) := []
  quenchFilter : Tab (Nat × Nat) ((Nat × Nat × Nat) × Nat) := []
  quenches : List Quench := []
  dedupe : List (Nat × Nat × Nat × List Nat) := []
  deriving DecidableEq, Repr

end Sys2Proof.Machine
end

