-- ==== Sys2Proof/Machine/StateRed.lean ====
section
/-! DEFINITION. State of in-network reduction (spec/09) and of collectives, triggers and expert dispatch
(spec/10). -/

namespace Sys2Proof.Machine

/-- An input key entry with its weight (R240). -/
structure KeyEnt where
  key : Nat := 0
  child : Bool := false
  wv : Bool := false
  weight : Nat := 0
  deriving DecidableEq, Repr

/-- An input in a chunk's arrival bitmap (R249): its rank, the check of its payload, and what its
record would name. -/
structure Arr where
  rank : Nat
  chk : Nat
  src : Nat
  tag : Nat
  burgee : Nat
  entropy : Nat
  dst : Nat
  ing : Nat
  deriving DecidableEq, Repr

/-- A chunk slot (R249 to R252): its arrivals, the inputs held by rank, the accumulator (one word per
element), the ranks combined so far, the elements whose INT32 sum has wrapped, whether the chunk is
complete, and the histogram bins its result counted. -/
structure ChunkSlot where
  n : Nat
  ins : List Arr := []
  held : List (Nat × Nat) := []
  acc : Option (List Nat) := none
  done : Nat := 0
  wrapped : List Nat := []
  complete : Bool := false
  deriving DecidableEq, Repr

/-- A collective context (R242, R244): its nine descriptor words, state and cause, LOW, RES_COUNT, the
inputs deferred and forwarded (by stored packet), its chunk slots, its counts and histogram, when its
arrival timer last restarted, when it became a stub, the results passed down, and its own first chunk
(R258). -/
structure Ctx where
  w : List Nat := []
  state : Nat := 0
  cause : Nat := 0
  low : Nat := 0
  first : Nat := 0
  resCount : Nat := 0
  deferred : List Nat := []
  fwd : List (Nat × Holder) := []
  slots : List ChunkSlot := []
  down : List Nat := []
  dups : Nat := 0
  conflicts : Nat := 0
  hist : List Nat := []
  timer : Nat := 0
  stubAt : Nat := 0
  units : Nat := 0
  neighbour : Option Nat := none
  token : Option Nat := none
  deriving DecidableEq, Repr

/-- A region entry (R272). -/
structure Region where
  check : Nat := 0
  v : Bool := false
  wr : Bool := false
  rd : Bool := false
  target : Nat := 0
  burgee : Nat := 0
  base : Nat := 0
  len : Nat := 0
  deriving DecidableEq, Repr

/-- A result binding (R274). -/
structure Binding where
  v : Bool := false
  region : Nat := 0
  base : Nat := 0
  trig : Nat := 0
  trigV : Bool := false
  deriving DecidableEq, Repr

/-- A trigger entry (R276), with a disarm that waits for its operation's end.  STATE: 0 FREE, 1 ARMED,
2 FIRING, 3 DONE, 4 FAILED. -/
structure Trig where
  state : Nat := 0
  burgee : Nat := 0
  rep : Bool := false
  runs : Nat := 0
  count : Nat := 0
  thresh : Nat := 0
  op : Nat := 0
  owner : Nat := 0
  disarm : Bool := false
  jobs : List Nat := []
  deriving DecidableEq, Repr

/-- A triggered operation in progress (R281): its entry's words, the bytes a SEND has sent and the
packets it waits for, the TAG and deadline of a REMOTE, and its outcome as a status once known. -/
structure RunOp where
  trig : Nat
  words : List Nat
  off : Nat := 0
  pids : List Nat := []
  tag : Nat := 0
  deadline : Nat := 0
  outcome : Option Nat := none
  deriving DecidableEq, Repr

/-- A dispatch group (R288). -/
structure Group where
  v : Bool := false
  burgee : Nat := 0
  tile : Nat := 0
  k : Nat := 1
  cfmt : Nat := 0
  chunk : Nat := 0
  ovf : Bool := false
  cls : Bool := false
  ret : Nat := 0
  gateTo : Nat := 1
  cmbBase : Nat := 0
  cmbN : Nat := 0
  keyBase : Nat := 0
  holdBase : Nat := 0
  expBase : Nat := 0
  deriving DecidableEq, Repr

/-- An expert map entry (R288). -/
structure Expert where
  feid : Nat := 0
  entropy : Nat := 0
  v : Bool := false
  deriving DecidableEq, Repr

/-- A token slot (R290): the stored token with its header and ingress, its group, when its gate record is due,
and its combine context once that is open. -/
structure Token where
  pid : Nat
  group : Nat
  pkt : Packet
  ing : Nat
  due : Nat
  ctx : Option Nat := none
  deriving DecidableEq, Repr

/-- A landing in progress (R273): the packet and its holder, where its bytes go, the region's number, and the
trigger it advances when they are visible. -/
structure Landing where
  pid : Nat
  hold : Holder
  target : Nat
  addr : Nat
  region : Nat
  trig : Option Nat
  deriving DecidableEq, Repr

/-- A collective schedule of an image (R285): trigger entries, operation entries, result bindings and region
entries as words, with the indices of the first three relative to the bases of a launch, and the entry
advanced first. -/
structure Schedule where
  trigs : List (Nat × List Nat) := []
  ops : List (Nat × List Nat) := []
  binds : List (Nat × List Nat) := []
  regions : List (Nat × List Nat) := []
  first : Nat := 0
  deriving DecidableEq, Repr

/-- A gate record that a tile has posted (R291, R323): its tile, the token of its GPOST and its 12 words. -/
structure GateRec where
  tile : Nat
  token : Nat
  words : List Nat
  deriving DecidableEq, Repr

/-- Reduction and collectives.  Contexts, bindings and operations are keyed by their device-wide index,
key, holder, region and dispatch entries by quadrant and index. -/
structure Red where
  ctxs : Tab Nat Ctx := []
  keys : Tab (Nat × Nat) KeyEnt := []
  holders : Tab (Nat × Nat) Slot := []
  busyFrom : Tab Nat Nat := []
  regions : Tab (Nat × Nat) Region := []
  bindings : Tab Nat Binding := []
  landings : List Landing := []
  deregs : List (Nat × Nat) := []
  trigs : Tab Nat Trig := []
  ops : Tab Nat (List Nat) := []
  running : List RunOp := []
  opTag : Nat := 0
  groups : Tab (Nat × Nat) Group := []
  experts : Tab (Nat × Nat) Expert := []
  tokens : Tab (Nat × Nat) Token := []
  tokenWait : Tab Nat (List (Nat × Holder × Nat)) := []
  gateRecs : Tab Nat (List GateRec) := []
  dispCheck : Tab Nat Nat := []
  schedules : Tab Nat Schedule := []
  answered : List (Nat × Nat × Nat × Nat) := []
  deriving DecidableEq, Repr

end Sys2Proof.Machine
end

