-- ==== Sys2Proof/Machine/StateTel.lean ====
section
/-! DEFINITION. State of telemetry (spec/19) and of fabric time and hoists (spec/16). -/

namespace Sys2Proof.Machine

/-- A bunting ring (R525 to R528): its settings, its entries oldest first, the entries written
since it was armed, the entries dropped since the last one, and, once triggered, the entries
left before it freezes. -/
structure BuntRing where
  log2 : Nat
  freeze : Bool
  dir : Nat
  vcmask : Nat
  haly : Bool
  linkCh : Bool
  freezeAfter : Nat
  entries : List (List Nat) := []
  gap : Nat := 0
  leftAfter : Option Nat := none
  frozen : Bool := false
  deriving DecidableEq, Repr

/-- A mirror session (R529) with its copy count (R530). -/
structure Mirror where
  en : Bool := false
  port : Nat := 0
  portV : Bool := false
  dir : Nat := 0
  feid : Nat := 0
  feidDst : Bool := false
  feidV : Bool := false
  burgee : Nat := 0
  bV : Bool := false
  vcmask : Nat := 0
  aport : Nat := 0
  remote : Bool := false
  rfeid : Nat := 0
  trunc : Nat := 0
  maxDepth : Nat := 0
  copies : Nat := 0
  deriving DecidableEq, Repr

/-- A snapshot set (R518, R519): 0 free, 1 armed, 2 taken; the counters it lists, T, the burgee of
the tenant that armed it, and the entries taken: ID, LIFE, RSTAT, value and stamp. -/
structure SnapSet where
  state : Nat := 0
  ids : List Nat := []
  t : Nat := 0
  tenant : Option Nat := none
  chan : Nat := 0
  taken : List (List Nat) := []
  deriving DecidableEq, Repr

/-- Telemetry.  `rate` counts what was written in the running second, by kind and instance
(R524, R527); `life` is the LIFE of a power domain's counters (R515); `offEpoch` is when a domain
last came on. -/
structure Tel where
  trace : Tab Nat (List (List Nat)) := []
  traceSeq : Tab Nat Nat := []
  rate : Tab (Nat × Nat) (Nat × Nat) := []
  tagN : Tab Nat Nat := []
  tagKey : Nat := 0
  bunting : Tab Nat BuntRing := []
  mirrors : Tab Nat Mirror := []
  snaps : Tab Nat SnapSet := []
  samplePorts : List Nat := []
  sampleAttach : Bool := false
  sampleLog2 : Nat := 0
  sampleRing : Tab Nat (List (List Nat)) := []
  sampleSeq : Tab Nat Nat := []
  sampleAt : Tab Nat Nat := []
  life : Tab Nat Nat := []
  deriving DecidableEq, Repr

/-- A hoist entry (R454). -/
structure HoistEnt where
  v : Bool := false
  root : Bool := false
  burgee : Nat := 0
  nChild : Nat := 0
  nLocal : Nat := 0
  step : Bool := false
  slot : Bool := false
  parentPort : Nat := 0
  myRank : Nat := 0
  deadline : Nat := 0
  lead : Nat := 0
  seq : Nat := 0
  deriving DecidableEq, Repr

/-- A local join of a hoist (R455): a command by its journal entry, a HOIST action by its trigger
entry, or the drain of a bank switch (R188); `base` is the STEP_BASE of a lockstep start. -/
inductive Join
  | cmd (aseq : Nat)
  | lock (aseq base : Nat)
  | act (trig : Nat)
  | drain
  deriving DecidableEq, Repr

/-- The open instance of a hoist entry (R456, R457): the ranks counted with their arrival ports, the
local joins, the arrivals held for the next instance, the time of the first arrival and its
deadline, and whether ARRIVE or FAIL has been sent to the parent. -/
structure HoistInst where
  ranks : List (Nat × Nat) := []
  joins : List Join := []
  heldRanks : List (Nat × Nat) := []
  heldJoins : List Join := []
  first : Option Nat := none
  deadlineAt : Nat := 0
  sentArrive : Bool := false
  sentFail : Bool := false
  deriving DecidableEq, Repr

/-- A decided COMPLETE that waits for its release time (R458): the entry, T_REL, whether RELEASE came after
it, the local joins, and the burgee whose step counter advances. -/
structure HoistRel where
  ent : Nat
  trel : Nat
  late : Bool
  joins : List Join
  step : Option Nat
  deriving DecidableEq, Repr

/-- What an injection that waits for its slot starts (R462): a block of a tile, a chunk of a context, a
root chunk, the streamers of a SEND, a triggered operation, or a tile launch. -/
inductive SlotAct
  | block (tile : Nat)
  | chunk (ctx n : Nat)
  | root (ctx n : Nat)
  | send (trig : Nat)
  | op (trig : Nat)
  | launch (tile : Nat)
  deriving DecidableEq, Repr

/-- An injection that waits (R462): its source index, the slot in which it became ready, and what it
starts. -/
structure SlotItem where
  src : Nat
  slot : Nat
  act : SlotAct
  deriving DecidableEq, Repr

/-- Fabric time (R446, R447), step counters and lockstep (R452, R463), hoists, the injections
that wait for a slot (R462), the determinism mode (0 off, 1 DET_BITS, 2 DET_TIME) and the reduction
class default (0 FAST, 1 EXACT) (R37). -/
structure TimeSt where
  rate : Int := 0
  good : Nat := 0
  bad : Nat := 0
  followed : Option Nat := none
  steps : Tab Nat Nat := []
  lockstep : List Nat := []
  hoists : Tab Nat HoistEnt := []
  insts : Tab Nat HoistInst := []
  releases : List HoistRel := []
  cutOffs : List Nat := []
  dupArrivals : Nat := 0
  slotReady : List SlotItem := []
  det : Nat := 0
  redClass : Nat := 0
  deriving DecidableEq, Repr

end Sys2Proof.Machine
end

