-- ==== Sys2Proof/Image.lean ====
section
/-! DEFINITION. What a configuration image says (spec/18, R507).  The spec draws an image's header and its section
table; the layout of a section's content it leaves to the image tool, so that a CFG_COMMIT carries the content of
its sections as this file's data, in the order of the section table (assumption log, row 31). -/

namespace Sys2Proof.Machine

/-- A buffer profile of a quadrant (R157): the cells of each pool, the enabled pools, ALPHA, and the 32-bit entry
of each port and VC. -/
structure BufProf where
  en : Nat := 0
  alpha : Nat := 0
  cells : List Nat := [0, 0, 0, 0]
  entries : Tab (Nat × Nat) Nat := []
  deriving DecidableEq, Repr

/-- A route image (R184): its epoch, the epoch and digest of the image it follows, UNION_SAFE, the drain hoist, and
the tables of a bank with the counts of the entries it loads. -/
structure RouteImg where
  epoch : Nat := 0
  prev : Nat := 0
  prevDigest : Nat := 0
  unionSafe : Bool := false
  hoist : Nat := 0
  nRoutes : Nat := 0
  nNotices : Nat := 0
  bank : Bank := {}
  deriving DecidableEq, Repr

/-- The content of one section (R507): settings of registers, and the tables that its TYPE names. -/
structure CfgBody where
  sets : List (RegKey × Nat) := []
  prof : BufProf := {}
  route : RouteImg := {}
  burgees : List (Nat × BurgeeEnt) := []
  allow : List (Nat × List Nat) := []
  keys : List (Nat × KeyEnt) := []
  holders : List (Nat × Slot) := []
  hoists : List (Nat × HoistEnt) := []
  groups : List (Nat × Group) := []
  experts : List (Nat × Expert) := []
  scheds : List (Nat × Schedule) := []
  deriving DecidableEq, Repr

/-- A section with the TYPE and QMASK of its descriptor. -/
structure CfgSect where
  ty : Nat
  qmask : Nat
  body : CfgBody
  deriving DecidableEq, Repr

/-- The ranges of a section's content: the sizes of the tables (R167, R201, R240, R288, R454). -/
def CfgBody.wf (b : CfgBody) : Bool :=
  b.prof.en < 16 && b.prof.alpha < 8 && b.prof.cells.length = 4
    && (b.prof.entries.all fun e => e.1.1 < 512 && e.1.2 < 8 && e.2 < 2 ^ 32)
    && b.route.epoch < 256 && b.route.prev < 256 && b.route.hoist < 2 ^ 32
    && b.route.bank.windows.length ≤ 32
    && (b.burgees.all fun e => e.1 < 512) && (b.allow.all fun e => e.1 < 512)
    && (b.keys.all fun e => e.1 < 65536) && (b.holders.all fun e => e.1 < 32768)
    && (b.hoists.all fun e => e.1 < 1024) && (b.groups.all fun e => e.1 < 256)
    && (b.experts.all fun e => e.1 < 4096) && (b.scheds.all fun e => e.1 < 65536)

end Sys2Proof.Machine
end

