-- ==== Sys2Proof/Operand.lean ====
section
/-! DEFINITION. Ranges of the operands that commands carry: the widths of the header drawings
(spec/04, R91 to R97, R121, R129), port, lane and attach codes (spec/01, R13; spec/22, R583). -/

namespace Sys2Proof

/-- A port or an attach point: port IDs 0 to 511 (R13), and 0x200 + 8q + a for the five attach points
of a quadrant (R516, R583). -/
def isEgress (e : Nat) : Bool := e < 512 || (e < 544 && e % 8 < 5)

/-- What the ECC of a tile's SRAM finds in the words that one step reads (R367): the words with an uncorrectable
error, and the words with one corrected bit, each with its bit number. -/
structure EccHits where
  unc : List Nat := []
  corr : List (Nat × Nat) := []
  deriving DecidableEq, Repr

/-- Whose access finds an uncorrectable block of a stack (R376): none but the scrubber, a SPILL context, the load of a
model slot from the cache, a parked session, or entry `k` of the bunting ring of a port. -/
inductive HbmUser
  | none
  | ctx (i : Nat)
  | load (slot : Nat)
  | park (slot session : Nat)
  | bunting (port k : Nat)
  deriving DecidableEq, Repr

/-- What one step of a resident model gives a session (R355, R356): the logits of its rows, as FP32 bits, and the
window cache bytes of its positions. -/
structure SessOut where
  sess : Nat
  logits : List (List Nat) := []
  kv : List (List Nat) := []
  deriving DecidableEq, Repr

/-- The ranges of a step's results. -/
def SessOut.wf (x : SessOut) : Bool :=
  x.sess < 4096 && x.logits.all (fun l => l.all (· < 2 ^ 32)) && x.kv.all fun l => l.all (· < 256)

/-- What the root of trust finds when it checks a firmware slot (R537, R539): the header and length are well formed,
the signature verifies under a key that is not revoked, the digest matches, and the security version and version of
the header. -/
structure FwCheck where
  hdr : Bool
  sig : Bool
  dig : Bool
  svn : Nat
  ver : Nat
  deriving DecidableEq, Repr

/-- The ranges of a firmware header. -/
def FwCheck.wf (c : FwCheck) : Bool := c.svn < 256 && c.ver < 2 ^ 32

/-- What an SPDM exchange with a peer has established (R548): the peer supports SPDM 1.3 and the algorithms, its
chain verifies to Smierost's root, or to the root whose key is given, both signatures verify; its identity digest
and the digest of its measurements as 12 words each; and whether the peer requires encryption. -/
structure AttResult where
  version : Bool
  algo : Bool
  chain : Bool
  root : Option (List Nat)
  sigs : Bool
  digest : List Nat
  meas : List Nat
  crypt : Bool
  deriving DecidableEq, Repr

/-- The ranges of an attestation's result. -/
def AttResult.wf (r : AttResult) : Bool :=
  r.digest.length = 12 && r.digest.all (· < 2 ^ 32) && r.meas.length = 12 && r.meas.all (· < 2 ^ 32)
    && (match r.root with
      | some k => k.length = 97 && k.all (· < 256)
      | none => true)

/-- The way an SPDM message comes (R547): an MCTP binding (1 PCIe VDM, 2 SMBus or I3C) with EID and message tag, or a
pennant that the hub's attach point holds. -/
inductive SpdmVia
  | mctp (intf eid mtag : Nat)
  | vc7 (pid : Nat)
  deriving DecidableEq, Repr

/-- An SPDM message: its request or response code, whether it is secured inside a session, whether more of what it
answers is to come, and what the exchange has established with it. -/
structure SpdmMsg where
  code : Nat
  secured : Bool
  more : Bool := false
  att : Option AttResult := none
  deriving DecidableEq, Repr

/-- The ranges of an SPDM message. -/
def SpdmMsg.wf (m : SpdmMsg) : Bool :=
  m.code < 256 && (match m.att with
    | some r => r.wf
    | none => true)

/-- A PLDM message (R556): of type 0 by its command, of type 2 (the PDR repository, the event receiver, a sensor), and
of type 5 (RequestUpdate, the data that RequestFirmwareData asked for, with the check of the whole slot on the
last, ActivateFirmware, CancelUpdate). -/
inductive PldmMsg
  | base (cmd : Nat)
  | getPdr (handle : Nat)
  | setEventReceiver (eid : Nat)
  | sensor (id : Nat)
  | requestUpdate
  | firmwareData (off : Nat) (bytes : List Nat) (last : Option FwCheck)
  | activateFirmware
  | cancelUpdate
  deriving DecidableEq, Repr

/-- The ranges of a PLDM message. -/
def PldmMsg.wf : PldmMsg → Bool
  | .base c => c < 256
  | .getPdr h => h < 2 ^ 32
  | .setEventReceiver e => e < 256
  | .sensor i => i < 65536
  | .firmwareData off bs last => off < 2 ^ 32 && bs.all (· < 256) && (match last with
    | some c => c.wf
    | none => true)
  | _ => true

/-- An MCTP control message (R556): Set Endpoint ID, Get Endpoint ID, Get Message Type Support, or another. -/
inductive MctpCtl
  | setEid (eid : Nat)
  | getEid
  | getTypes
  | other (cmd : Nat)
  deriving DecidableEq, Repr

/-- The ranges of an MCTP control message. -/
def MctpCtl.wf : MctpCtl → Bool
  | .setEid e => e < 256
  | .other c => c < 256
  | _ => true

/-- A JTAG instruction (R557): the public ones, the two of the debug challenge, and a debug instruction. -/
inductive JtagOp
  | bypass
  | idcode
  | samplePreload
  | extest
  | extestPulse
  | extestTrain
  | clamp
  | highz
  | challenge
  | unlock (sig : Bool)
  | debug (n : Nat)
  deriving DecidableEq, Repr

/-- A target as discovery finds it: its number 8 × channel + CE, whether its parameter page shows every
property of R381 but the geometry, its raw bytes, its blocks and its rated erases. -/
structure TargetInfo where
  t : Nat
  ok : Bool
  raw : Nat
  blocks : Nat
  rated : Nat
  deriving DecidableEq, Repr

/-- The ranges of a target. -/
def TargetInfo.wf (x : TargetInfo) : Bool := x.t < 64 && x.raw < 2 ^ 64 && x.blocks < 2 ^ 32 && x.rated < 2 ^ 32

/-- A holder's egress and VC lie in range. -/
def Holder.wf (h : Holder) : Bool := isEgress h.eg && h.vc < 8

/-- The field widths of a packet's headers (R93, R94, R96). -/
def Packet.wf (k : Packet) : Bool :=
  (k.pclass = 1 || k.pclass = 2) && k.burgee < 512 && k.hoplim < 64 && k.dst < 2 ^ 20
    && k.entropy < 4096 && k.src < 2 ^ 20 && k.tag < 2 ^ 32 && k.typ < 16 && k.opcode < 256
    && k.len < (if k.pclass = 1 then 256 else 8192) && k.arg5 < 2 ^ 32 && k.arg6 < 2 ^ 32
    && k.arg7 < 2 ^ 32 && k.fmt < 64 && k.epoch < 256 && k.collId < 2 ^ 32 && k.contrib < 2 ^ 18
    && k.offset < 2 ^ 64 && k.region < 2 ^ 32 && k.trigger < 2 ^ 17 && k.payload.all (· < 256)

/-- The field widths of a DATA flit (R91). -/
def DataFlit.wf (f : DataFlit) : Bool :=
  f.vc < 8 && f.seq < 65536 && f.ack < 65536 && f.crVc < 8 && f.crCum < 65536 &&
    (match f.pkt with
      | some k => k.wf
      | none => true)

/-- The field widths of a link control flit (R92). -/
def Lcf.wf (f : Lcf) : Bool :=
  f.nakSeq < 65536 && f.ack < 65536 && f.cum.length = 8 && f.cum.all (· < 65536)

/-- The field widths of a NEG flit (R129). -/
def NegFlit.wf (f : NegFlit) : Bool :=
  f.maxv < 256 && f.minv < 256 && f.nstep < 16 && f.nseq < 2 ^ 16 && f.eseq < 65536
    && f.srcDev < 2 ^ 32 && f.initCr.length = 8 && f.repoch < 256

/-- The field widths of a halyard word (R121). -/
def Haly.wf (w : Haly) : Bool :=
  w.htype < 256 && w.hseq < 256 && w.b1 < 256 && w.b0 < 256 && w.w1 < 2 ^ 32 && w.w2 < 2 ^ 32
    && w.w3 < 2 ^ 32

/-- The field widths of a marker word (R62). -/
def Marker.wf (m : Marker) : Bool :=
  m.phyVer < 16 && m.state < 16 && m.width < 4 && m.pos < 8 && m.srcLane < 32 && m.srcOe < 32
    && m.srcDev < 2 ^ 32 && m.activeNext < 256 && m.activeNow < 256 && m.margin < 256
    && m.txReq < 2 ^ 16 && m.txAck < 2 ^ 16 && m.sfCount < 2 ^ 32

end Sys2Proof
end

