-- ==== Sys2Proof/Syntax.lean ====
section
/-! DEFINITION. The commands of the block: one constructor for each row of the opcode table, in the
table's order, with the operands the event or command carries. -/

namespace Sys2Proof

/-- A command. -/
inductive Instr
  /-- PACKET_ARRIVAL (R596). -/
  | packetArrival (p : Nat)
  /-- DESCRIPTOR_ENTRY (R140). -/
  | descriptorEntry (pid : Nat) (h : Holder)
  /-- SCHEDULER_PACKET_START (R194). -/
  | schedulerPacketStart (e : Nat)
  /-- PENNANT_SLOT (R116). -/
  | pennantSlot (p : Nat)
  /-- HOLDER_RELEASE (R154). -/
  | holderRelease (pid : Nat) (h : Holder) (loc : Storage)
  /-- BUFFER_ECC_UNCORRECTABLE (R161). -/
  | bufferEccUncorrectable (pid flit : Nat) (bad : Bool)
  /-- AGEING_TICK (R163). -/
  | ageingTick (e v : Nat)
  /-- FLUSH_RECORD_ROOM (R165). -/
  | flushRecordRoom (e v : Nat)
  /-- FAILURE_RECORD_ISSUE (R165). -/
  | failureRecordIssue (q : Nat)
  /-- MESH_SUBLINK_FAIL (R143). -/
  | meshSublinkFail (pair sub : Nat)
  /-- MESH_LINK_FAIL (R143). -/
  | meshLinkFail (pair : Nat)
  /-- QUADRANT_RELAY_DRAINED (R159). -/
  | quadrantRelayDrained (q : Nat)
  /-- BUF_PROFILE_DRAIN_TIMEOUT (R159). -/
  | bufProfileDrainTimeout
  /-- OP_SET (R31). -/
  | opSet (aseq : Nat)
  /-- RAIL_RAMP_SETTLED (R32). -/
  | railRampSettled (v : List Nat)
  /-- OP3_DRAIN_COMPLETE (R34). -/
  | op3DrainComplete
  /-- OP3_DRAIN_TIMEOUT (R35). -/
  | op3DrainTimeout
  /-- OP3_EXIT_COMPLETE (R34). -/
  | op3ExitComplete
  /-- REGULATION (R36). -/
  | regulation (pv : Nat)
  /-- QMARGIN_WINDOW (R44). -/
  | qmarginWindow (q m : Nat)
  /-- BELOW_LINE_PENNANT_REPEAT (R44). -/
  | belowLinePennantRepeat (q : Nat)
  /-- QMARGIN_BELOW_SEEN_CLEAR (R44). -/
  | qmarginBelowSeenClear (q : Nat)
  /-- JUNCTION_TEMPERATURE_CHANGE (R46). -/
  | junctionTemperatureChange (tj sensor : Nat)
  /-- POWER_LIMIT_WINDOW (R48). -/
  | powerLimitWindow (watts : Nat)
  /-- PD_SET (R51). -/
  | pdSet (aseq : Nat)
  /-- DOMAIN_ON_COMPLETE (R53). -/
  | domainOnComplete (pd : Nat)
  /-- DOMAIN_OFF_COMPLETE (R52). -/
  | domainOffComplete (pd : Nat)
  /-- OE_CLASS (R41). -/
  | oeClass (aseq : Nat)
  /-- LASER_LOW (R58). -/
  | laserLow (e input : Nat)
  /-- LASER_INPUT_RESTORED (R575). -/
  | laserInputRestored (e input power : Nat)
  /-- CODEWORD_RECEIVED (R61). -/
  | codewordReceived (x errs blocks : Nat)
  /-- BLOCK_RECEIVED (R68). -/
  | blockReceived (x byte0 : Nat)
  /-- MARKER_WORD_RECEIVED (R63). -/
  | markerWordReceived (x : Nat) (m : Marker)
  /-- SUPERFRAME_BOUNDARY (R82). -/
  | superframeBoundary (p : Nat)
  /-- LANE_BRINGUP_START (R71). -/
  | laneBringupStart (x : Nat)
  /-- LANE_RING_LOCK (R71). -/
  | laneRingLock (x : Nat)
  /-- LANE_LIGHT_DETECTED (R71). -/
  | laneLightDetected (x : Nat)
  /-- LANE_CDR_LOCK (R71). -/
  | laneCdrLock (x : Nat)
  /-- LANE_FRAME_LOCK (R72). -/
  | laneFrameLock (x : Nat) (inv : Bool)
  /-- LANE_EQ_TRAINED (R71). -/
  | laneEqTrained (x : Nat)
  /-- LANE_QUALIFIED (R71). -/
  | laneQualified (x errs total : Nat)
  /-- LANE_IDENTITY_CHECK (R73). -/
  | laneIdentityCheck (p : Nat)
  /-- LANE_ALIGNED (R69). -/
  | laneAligned (p skew : Nat)
  /-- PORT_UP (R74). -/
  | portUp (p : Nat)
  /-- PORT_UP_TIMER (R74). -/
  | portUpTimer (p : Nat)
  /-- LANE_STEP_TIMEOUT (R75). -/
  | laneStepTimeout (x : Nat)
  /-- LANE_RETRY_TIMER (R75). -/
  | laneRetryTimer (x : Nat)
  /-- GAIN_RANGE_CHANGE (R78). -/
  | gainRangeChange (x g : Nat)
  /-- MARGIN_MONITOR_WINDOW (R79). -/
  | marginMonitorWindow (x : Nat)
  /-- LANE_RETRAIN_COMPLETE (R79). -/
  | laneRetrainComplete (x : Nat) (ok : Bool)
  /-- LANE_LOSS_OF_LIGHT (R81). -/
  | laneLossOfLight (x : Nat)
  /-- LANE_FRAME_SYNC_LOSS (R81). -/
  | laneFrameSyncLoss (x : Nat)
  /-- LANE_UNCORRECTABLE_BURST (R81). -/
  | laneUncorrectableBurst (x : Nat)
  /-- RING_LOCK_LOST (R81). -/
  | ringLockLost (x : Nat)
  /-- LIGHT_IN_STANDBY (R87). -/
  | lightInStandby (x : Nat)
  /-- WAKE_TIMEOUT (R86). -/
  | wakeTimeout (x : Nat)
  /-- PORT_STATE (R84). -/
  | portState (aseq : Nat)
  /-- DATA_FLIT_RECEIVED (R106). -/
  | dataFlitReceived (p : Nat) (f : DataFlit)
  /-- FAILED_FLIT (R107). -/
  | failedFlit (p : Nat)
  /-- RESERVED_FLIT_KIND (R89). -/
  | reservedFlitKind (p byte0 : Nat)
  /-- LCF_RECEIVED (R113). -/
  | lcfReceived (p : Nat) (f : Lcf)
  /-- NEG_FLIT_RECEIVED (R130). -/
  | negFlitReceived (p : Nat) (f : NegFlit)
  /-- HALYARD_BLOCK_RECEIVED (R121). -/
  | halyardBlockReceived (p : Nat) (words : List Haly) (ok tagOk : Bool)
  /-- LINK_AUTH_RECEIVED (R554). -/
  | linkAuthReceived (p firstSeq cnt : Nat) (ok : Bool)
  /-- ACK_HOLD_EXPIRY (R108). -/
  | ackHoldExpiry (p : Nat)
  /-- LCF_PERIODIC (R108). -/
  | lcfPeriodic (p : Nat)
  /-- CREDIT_REPORT_DUE (R113). -/
  | creditReportDue (p v : Nat)
  /-- NAK_HOLDOFF_EXPIRY (R107). -/
  | nakHoldoffExpiry (p : Nat)
  /-- REPLAY_TIMEOUT (R109). -/
  | replayTimeout (p : Nat)
  /-- NEG_FLIT_TIMER (R130). -/
  | negFlitTimer (p : Nat)
  /-- CONFIRM_TIMEOUT (R130). -/
  | confirmTimeout (p : Nat)
  /-- RESYNC_TIMEOUT (R130). -/
  | resyncTimeout (p : Nat)
  /-- TIME_WORD_TIMER (R127). -/
  | timeWordTimer (p : Nat)
  /-- PAUSE_EXPIRY (R123). -/
  | pauseExpiry (p : Nat)
  /-- LINK_ADMIT (R550). -/
  | linkAdmit (aseq : Nat)
  /-- ROUTE_NOTICE_REPEAT (R180). -/
  | routeNoticeRepeat (p : Nat)
  /-- RESTORE_HOLD_EXPIRY (R180). -/
  | restoreHoldExpiry (p : Nat)
  /-- ROUTE_RESTORE_REPEAT (R180). -/
  | routeRestoreRepeat (p : Nat)
  /-- ROUTE_NOTICE_RECEIVED (R181). -/
  | routeNoticeReceived (pid : Nat)
  /-- NOTICE_HOLD_EXPIRY (R181). -/
  | noticeHoldExpiry
  /-- AT_TIME_SWITCH (R186). -/
  | atTimeSwitch
  /-- DRAIN_START (R188). -/
  | drainStart
  /-- DRAIN_COMPLETE (R188). -/
  | drainComplete
  /-- DRAIN_PAUSE_CANCEL (R188). -/
  | drainPauseCancel
  /-- QUENCH_EXPIRY (R207). -/
  | quenchExpiry
  /-- QUEUE_SAMPLE_TIMER (R209). -/
  | queueSampleTimer (q : Nat)
  /-- CTX_OPEN (R243). -/
  | ctxOpen (aseq : Nat)
  /-- CTX_CLOSE (R244). -/
  | ctxClose (aseq : Nat)
  /-- CTX_ABORT (R262). -/
  | ctxAbort (aseq : Nat)
  /-- CTX_MIGRATE (R265). -/
  | ctxMigrate (aseq : Nat)
  /-- CTX_REPARENT (R267). -/
  | ctxReparent (aseq : Nat)
  /-- CTX_BIND (R274). -/
  | ctxBind (aseq : Nat)
  /-- CTX_STAT (R441). -/
  | ctxStat (aseq : Nat)
  /-- CONTRIBUTION_TAKEN (R247). -/
  | contributionTaken (pid : Nat)
  /-- CHUNK_COMPLETE (R254). -/
  | chunkComplete (i n : Nat)
  /-- ROOT_CHUNK_COMPLETE (R255). -/
  | rootChunkComplete (i n : Nat)
  /-- RESULT_ARRIVAL (R256). -/
  | resultArrival (p : Nat)
  /-- ARRIVAL_TIMEOUT (R261). -/
  | arrivalTimeout (i : Nat)
  /-- ACC_ECC (R262). -/
  | accEcc (i : Nat)
  /-- FAIL_PENNANT_RECEIVED (R478). -/
  | failPennantReceived (pid : Nat)
  /-- STUB_RETIRE (R266). -/
  | stubRetire (i : Nat)
  /-- TRIG_ARM (R276). -/
  | trigArm (aseq : Nat)
  /-- TRIG_DISARM (R276). -/
  | trigDisarm (aseq : Nat)
  /-- TRIG_ADVANCE (R277). -/
  | trigAdvance (aseq : Nat)
  /-- OPERATION_END (R277). -/
  | operationEnd (t : Nat)
  /-- REMOTE_RSP_RECEIVED (R281). -/
  | remoteRspReceived (pid : Nat)
  /-- REMOTE_RSP_TIMEOUT (R281). -/
  | remoteRspTimeout (t : Nat)
  /-- OP_WRITE (R280). -/
  | opWrite (aseq : Nat)
  /-- COLL_LAUNCH (R285). -/
  | collLaunch (aseq : Nat)
  /-- REGION_REG (R272). -/
  | regionReg (aseq : Nat)
  /-- REGION_DEREG (R272). -/
  | regionDereg (aseq : Nat)
  /-- REGION_DEREG_COMPLETE (R272). -/
  | regionDeregComplete (no : Nat)
  /-- STREAMER_LANDING (R273). -/
  | streamerLanding (pid t : Nat)
  /-- LANDING_COMPLETE (R273). -/
  | landingComplete (pid t : Nat)
  /-- TRIG_PENNANT_RECEIVED (R283). -/
  | trigPennantReceived (pid : Nat)
  /-- DISPATCH_TOKEN_RECEIVED (R289). -/
  | dispatchTokenReceived (pid t : Nat)
  /-- TOKEN_SLOT_AVAILABLE (R290). -/
  | tokenSlotAvailable (q : Nat)
  /-- GATE_RECORD_TAKEN (R291). -/
  | gateRecordTaken (q : Nat)
  /-- GATE_TIMEOUT (R294). -/
  | gateTimeout (q slot : Nat)
  /-- EXPERT_FAIL_RECEIVED (R293). -/
  | expertFailReceived (pid : Nat)
  /-- TILE_LAUNCH (R300). -/
  | tileLaunch (aseq : Nat)
  /-- TILE_NOP (R304). -/
  | tileNop (t : Nat) (bad : EccHits)
  /-- ADD (R304). -/
  | add (t : Nat) (bad : EccHits)
  /-- SUB (R304). -/
  | sub (t : Nat) (bad : EccHits)
  /-- MUL (R304). -/
  | mul (t : Nat) (bad : EccHits)
  /-- AND (R304). -/
  | and (t : Nat) (bad : EccHits)
  /-- OR (R304). -/
  | or (t : Nat) (bad : EccHits)
  /-- XOR (R304). -/
  | xor (t : Nat) (bad : EccHits)
  /-- SHL (R304). -/
  | shl (t : Nat) (bad : EccHits)
  /-- SHR (R304). -/
  | shr (t : Nat) (bad : EccHits)
  /-- SRA (R304). -/
  | sra (t : Nat) (bad : EccHits)
  /-- SLT (R304). -/
  | slt (t : Nat) (bad : EccHits)
  /-- SLTU (R304). -/
  | sltu (t : Nat) (bad : EccHits)
  /-- ADDI (R304). -/
  | addi (t : Nat) (bad : EccHits)
  /-- ANDI (R304). -/
  | andi (t : Nat) (bad : EccHits)
  /-- ORI (R304). -/
  | ori (t : Nat) (bad : EccHits)
  /-- XORI (R304). -/
  | xori (t : Nat) (bad : EccHits)
  /-- SHLI (R304). -/
  | shli (t : Nat) (bad : EccHits)
  /-- SHRI (R304). -/
  | shri (t : Nat) (bad : EccHits)
  /-- SRAI (R304). -/
  | srai (t : Nat) (bad : EccHits)
  /-- LUI (R304). -/
  | lui (t : Nat) (bad : EccHits)
  /-- LD (R304). -/
  | ld (t : Nat) (bad : EccHits)
  /-- ST (R304). -/
  | st (t : Nat) (bad : EccHits)
  /-- AMO (R327). -/
  | amo (t : Nat) (bad : EccHits)
  /-- BR (R304). -/
  | br (t : Nat) (bad : EccHits)
  /-- JAL (R304). -/
  | jal (t : Nat) (bad : EccHits)
  /-- JALR (R304). -/
  | jalr (t : Nat) (bad : EccHits)
  /-- FENCE_LD (R326). -/
  | fenceLd (t : Nat) (bad : EccHits)
  /-- FENCE_ST (R326). -/
  | fenceSt (t : Nat) (bad : EccHits)
  /-- FENCE_SC (R326). -/
  | fenceSc (t : Nat) (bad : EccHits)
  /-- FENCE_TN (R326). -/
  | fenceTn (t : Nat) (bad : EccHits)
  /-- WAIT (R316). -/
  | wait (t : Nat) (bad : EccHits)
  /-- HALT (R302). -/
  | halt (t : Nat) (bad : EccHits)
  /-- TRAP (R331). -/
  | trap (t : Nat) (bad : EccHits)
  /-- RETE (R332). -/
  | rete (t : Nat) (bad : EccHits)
  /-- CSRR (R337). -/
  | csrr (t : Nat) (bad : EccHits)
  /-- CSRW (R337). -/
  | csrw (t : Nat) (bad : EccHits)
  /-- VLD (R314). -/
  | vld (t : Nat) (bad : EccHits)
  /-- VST (R314). -/
  | vst (t : Nat) (bad : EccHits)
  /-- VADD (R304). -/
  | vadd (t : Nat) (bad : EccHits)
  /-- VSUB (R304). -/
  | vsub (t : Nat) (bad : EccHits)
  /-- VMUL (R304). -/
  | vmul (t : Nat) (bad : EccHits)
  /-- VFMA (R304). -/
  | vfma (t : Nat) (bad : EccHits)
  /-- VMAX (R304). -/
  | vmax (t : Nat) (bad : EccHits)
  /-- VMIN (R304). -/
  | vmin (t : Nat) (bad : EccHits)
  /-- VDIV (R219). -/
  | vdiv (t : Nat) (bad : EccHits)
  /-- VSQRT (R219). -/
  | vsqrt (t : Nat) (bad : EccHits)
  /-- VCMP (R304). -/
  | vcmp (t : Nat) (bad : EccHits)
  /-- VSEL (R304). -/
  | vsel (t : Nat) (bad : EccHits)
  /-- VBCAST (R304). -/
  | vbcast (t : Nat) (bad : EccHits)
  /-- VREDSUM (R315). -/
  | vredsum (t : Nat) (bad : EccHits)
  /-- VREDMAX (R315). -/
  | vredmax (t : Nat) (bad : EccHits)
  /-- VEXTR (R304). -/
  | vextr (t : Nat) (bad : EccHits)
  /-- VEXP2 (R313). -/
  | vexp2 (t : Nat) (bad : EccHits)
  /-- VLOG2 (R313). -/
  | vlog2 (t : Nat) (bad : EccHits)
  /-- VRCP (R313). -/
  | vrcp (t : Nat) (bad : EccHits)
  /-- VRSQRT (R313). -/
  | vrsqrt (t : Nat) (bad : EccHits)
  /-- VTANH (R313). -/
  | vtanh (t : Nat) (bad : EccHits)
  /-- VSIGM (R313). -/
  | vsigm (t : Nat) (bad : EccHits)
  /-- VRNG (R450). -/
  | vrng (t : Nat) (bad : EccHits)
  /-- MMA (R306). -/
  | mma (t : Nat) (bad : EccHits)
  /-- MMA_C (R318). -/
  | mmaC (t : Nat) (bad : EccHits)
  /-- XFER (R317). -/
  | xfer (t : Nat) (bad : EccHits)
  /-- CINJ (R320). -/
  | cinj (t : Nat) (bad : EccHits)
  /-- CBIND (R322). -/
  | cbind (t : Nat) (bad : EccHits)
  /-- TADV (R322). -/
  | tadv (t : Nat) (bad : EccHits)
  /-- TWAIT (R322). -/
  | twait (t : Nat) (bad : EccHits)
  /-- GPOST (R323). -/
  | gpost (t : Nat) (bad : EccHits)
  /-- RXWAIT (R323). -/
  | rxwait (t : Nat) (bad : EccHits)
  /-- RXDONE (R323). -/
  | rxdone (t : Nat) (bad : EccHits)
  /-- ASYNC_INSTRUCTION_COMPLETE (R316). -/
  | asyncInstructionComplete (t q : Nat) (bad : EccHits)
  /-- BLOCK_INJECTION (R286). -/
  | blockInjection (t q : Nat) (bad : EccHits)
  /-- STORE_PERFORMED (R324). -/
  | storePerformed (t i : Nat)
  /-- MODEL_FETCH (R397). -/
  | modelFetch (aseq : Nat)
  /-- MODEL_FETCH_COMPLETE (R397). -/
  | modelFetchComplete (sl : Nat) (sig : Bool)
  /-- MODEL_LOAD (R343). -/
  | modelLoad (aseq : Nat) (sig : Bool)
  /-- MODEL_LOAD_SECTIONS_WRITTEN (R343). -/
  | modelLoadSectionsWritten (sl : Nat)
  /-- MODEL_SWAP (R344). -/
  | modelSwap (aseq : Nat) (sig : Bool)
  /-- MODEL_SWAP_STEP_DRAINED (R344). -/
  | modelSwapStepDrained (sl : Nat)
  /-- MODEL_MOVE (R345). -/
  | modelMove (aseq : Nat)
  /-- MODEL_MOVE_STUB_EXPIRY (R345). -/
  | modelMoveStubExpiry (sl : Nat)
  /-- MODEL_EVICT (R340). -/
  | modelEvict (aseq : Nat)
  /-- SERVE_OPEN (R350). -/
  | serveOpen (pid : Nat)
  /-- SERVE_APPEND (R350). -/
  | serveAppend (pid : Nat)
  /-- SERVE_GENERATE (R350). -/
  | serveGenerate (pid : Nat)
  /-- SERVE_CANCEL (R350). -/
  | serveCancel (pid : Nat)
  /-- SERVE_PARK (R351). -/
  | servePark (pid : Nat)
  /-- SERVE_RESUME (R351). -/
  | serveResume (pid : Nat)
  /-- SERVE_SNAPSHOT (R398). -/
  | serveSnapshot (pid : Nat)
  /-- SERVE_RESTORE (R398). -/
  | serveRestore (pid : Nat)
  /-- SERVE_CLOSE (R350). -/
  | serveClose (pid : Nat)
  /-- SERVE_DATA_APPEND (R350). -/
  | serveDataAppend (pid : Nat)
  /-- SERVE_STORE_OP_COMPLETE (R398). -/
  | serveStoreOpComplete (sl i : Nat)
  /-- MODEL_STEP (R356). -/
  | modelStep (sl dur : Nat) (out : List SessOut)
  /-- SRAM_ECC_RESET_TIMER (R369). -/
  | sramEccResetTimer (t : Nat)
  /-- SRAM_SCRUB_PERIOD (R370). -/
  | sramScrubPeriod (t : Nat) (hits : EccHits)
  /-- SRAM_TEST (R372). -/
  | sramTest (aseq : Nat)
  /-- MARCH_TEST_COMPLETE (R373). -/
  | marchTestComplete (t : Nat) (lines : List Nat) (spareBad : Bool) (unc : List Nat)
  /-- HBM_UNCORRECTABLE (R376). -/
  | hbmUncorrectable (q addr : Nat) (user : HbmUser)
  /-- HBM_PATROL_SCRUB (R376). -/
  | hbmPatrolScrub (q : Nat) (unc corr : List Nat) (ondie : Nat)
  /-- HBM_REFRESH_DUE (R377). -/
  | hbmRefreshDue (q : Nat)
  /-- HBM_TEMP_CHECK (R378). -/
  | hbmTempCheck (q temp : Nat)
  /-- HBM_CHANNEL_RETRAIN_DONE (R378). -/
  | hbmChannelRetrainDone (q : Nat) (ok : Bool)
  /-- HBM_CHANNEL_RETRAIN_NEXT (R378). -/
  | hbmChannelRetrainNext (q : Nat)
  /-- HBM_RETRAIN_RETRY (R378). -/
  | hbmRetrainRetry (q : Nat)
  /-- NVS_DISCOVERY_COMPLETE (R382). -/
  | nvsDiscoveryComplete (ts : List TargetInfo)
  /-- UNIT_READ_COMPLETE (R385). -/
  | unitReadComplete (h u step : Nat) (heavy : Bool)
  /-- PROGRAM_COMPLETE (R401). -/
  | programComplete (id : Nat) (ok : Bool)
  /-- ERASE_COMPLETE (R401). -/
  | eraseComplete (t b : Nat) (ok : Bool)
  /-- TARGET_TIMEOUT (R401). -/
  | targetTimeout (t : Nat)
  /-- STORE_DATA_ARRIVAL (R392). -/
  | storeDataArrival (id n : Nat)
  /-- FILL_TO_EXPIRY (R392). -/
  | fillToExpiry
  /-- ABSORB_RESULT_RECEIVED (R394). -/
  | absorbResultReceived (pid : Nat)
  /-- RETENTION_SCAN (R400). -/
  | retentionScan (t b i step : Nat) (heavy : Bool)
  /-- BLOCK_REFRESH_COMPLETE (R400). -/
  | blockRefreshComplete (t b : Nat)
  /-- MAP_CHECKPOINT (R406). -/
  | mapCheckpoint
  /-- REBUILD_COMPLETE (R406). -/
  | rebuildComplete
  /-- STORE_FORMAT (R387). -/
  | storeFormat (aseq : Nat)
  /-- STORE_STAT (R391). -/
  | storeStat (aseq : Nat)
  /-- STORE_QUIESCE (R405). -/
  | storeQuiesce (aseq : Nat)
  /-- OBJ_CREATE (R390). -/
  | objCreate (aseq : Nat)
  /-- OBJ_WRITE (R389). -/
  | objWrite (aseq : Nat)
  /-- OBJ_READ (R391). -/
  | objRead (aseq : Nat)
  /-- OBJ_SEAL (R389). -/
  | objSeal (aseq : Nat)
  /-- OBJ_DELETE (R391). -/
  | objDelete (aseq : Nat)
  /-- OBJ_STAT (R388). -/
  | objStat (aseq : Nat)
  /-- ABSORB_BIND (R394). -/
  | absorbBind (aseq : Nat)
  /-- STORE_TRANSFER_COMPLETE (R391). -/
  | storeTransferComplete (aseq : Nat)
  /-- PWRFAIL_ASSERTED (R402). -/
  | pwrfailAsserted
  /-- HOLDUP_DONE (R402). -/
  | holdupDone
  /-- PWRFAIL_DEASSERTED (R580). -/
  | pwrfailDeasserted
  /-- RAIL_UNDERVOLTAGE (R568). -/
  | railUndervoltage (r : Nat)
  /-- COMMAND_TAKEN (R434). -/
  | commandTaken
  /-- COMMAND_BEGIN (R435). -/
  | commandBegin (aseq : Nat)
  /-- MBX_SEND_DMWR (R424). -/
  | mbxSendDmwr (fn ch off : Nat) (ws : List Nat)
  /-- MBX_DOORBELL_WRITE (R426). -/
  | mbxDoorbellWrite (fn ch : Nat) (wrong : Bool)
  /-- MBX_CPL_HEAD_WRITE (R427). -/
  | mbxCplHeadWrite (fn ch n : Nat)
  /-- MBX_EMPTY_ARM_WRITE (R428). -/
  | mbxEmptyArmWrite (fn ch : Nat)
  /-- MBX_CTL_LOCK_WRITE (R420). -/
  | mbxCtlLockWrite
  /-- CHANNEL_REBIND_EFFECTIVE (R420). -/
  | channelRebindEffective (ch : Nat)
  /-- MCTP_COMMAND_MESSAGE (R431). -/
  | mctpCommandMessage (intf eid mtag : Nat) (ws : List Nat)
  /-- CMD_PENNANT_RECEIVED (R432). -/
  | cmdPennantReceived (pid : Nat)
  /-- FUNCTION_LEVEL_RESET (R429). -/
  | functionLevelReset (fn : Nat)
  /-- PERST (R571). -/
  | perst
  /-- NOP (R441). -/
  | nop (aseq : Nat)
  /-- DEV_INFO (R441). -/
  | devInfo (aseq : Nat)
  /-- CMD_CAPS (R441). -/
  | cmdCaps (aseq : Nat)
  /-- CHAN_BIND (R420). -/
  | chanBind (aseq : Nat)
  /-- CHAN_LOCK (R420). -/
  | chanLock (aseq : Nat)
  /-- CMD_CANCEL (R438). -/
  | cmdCancel (aseq : Nat)
  /-- CFG_COMMIT (R509). -/
  | cfgCommit (aseq : Nat) (bodies : List Machine.CfgBody) (sig : Bool)
  /-- CFG_COMMIT_CANCEL (R186). -/
  | cfgCommitCancel (aseq : Nat)
  /-- CFG_COMMIT_DRAIN_COMPLETE (R509). -/
  | cfgCommitDrainComplete
  /-- FLT_HIST_READ (R475). -/
  | fltHistRead (aseq : Nat)
  /-- FLT_CLEAR (R470). -/
  | fltClear (aseq : Nat)
  /-- RESET (R486). -/
  | reset (aseq : Nat)
  /-- TILE_RESET (R486). -/
  | tileReset (aseq : Nat)
  /-- JOB_ABORT (R491). -/
  | jobAbort (aseq : Nat)
  /-- HOIST_JOIN (R456). -/
  | hoistJoin (aseq : Nat)
  /-- LOCKSTEP_START (R463). -/
  | lockstepStart (aseq : Nat)
  /-- HOIST_ARRIVE (R456). -/
  | hoistArrive (pid : Nat)
  /-- HOIST_RELEASE_RECEIVED (R458). -/
  | hoistReleaseReceived (pid : Nat)
  /-- HOIST_FAIL_RECEIVED (R457). -/
  | hoistFailReceived (pid : Nat)
  /-- HOIST_RELEASE_TIME (R458). -/
  | hoistReleaseTime (i : Nat)
  /-- HOIST_DEADLINE (R457). -/
  | hoistDeadline (i : Nat)
  /-- CUT_OFF (R457). -/
  | cutOff (i : Nat)
  /-- SLOT_START (R462). -/
  | slotStart
  /-- SLOT_GUARD_BAND (R462). -/
  | slotGuardBand
  /-- QUIET_TIMER_EXPIRY (R470). -/
  | quietTimerExpiry
  /-- STRUCK_WINDOW_EXPIRY (R470). -/
  | struckWindowExpiry
  /-- WATCHDOG (R479). -/
  | watchdog (t : Nat)
  /-- ENGINE_HANG (R479). -/
  | engineHang (e : Nat)
  /-- SEQ_HANG (R479). -/
  | seqHang (q : Nat)
  /-- DISPATCH_HANG (R479). -/
  | dispatchHang (q : Nat)
  /-- CTRL_HANG (R479). -/
  | ctrlHang
  /-- THIDAN_HEARTBEAT (R480). -/
  | thidanHeartbeat
  /-- HEARTBEAT_LOST (R480). -/
  | heartbeatLost
  /-- THIDAN_RESTART_COMPLETE (R411). -/
  | thidanRestartComplete
  /-- RESTART_FAIL (R480). -/
  | restartFail
  /-- SENTINEL_KICK (R481). -/
  | sentinelKick
  /-- HW_WATCHDOG (R481). -/
  | hwWatchdog
  /-- RESET_RELEASE (R484). -/
  | resetRelease (level target : Nat)
  /-- RESET_HUNG (R487). -/
  | resetHung (level target : Nat)
  /-- FORCED_FLUSH_LIMIT (R488). -/
  | forcedFlushLimit
  /-- BRINGUP_START (R501). -/
  | bringupStart
  /-- COLD_RESET_ASSERTED (R571). -/
  | coldResetAsserted
  /-- FUSE_LOAD_COMPLETE (R535). -/
  | fuseLoadComplete
  /-- SECURE_BOOT_COMPLETE (R537). -/
  | secureBootComplete (goodA goodB : Bool)
  /-- HBM_TRAINING_COMPLETE (R501). -/
  | hbmTrainingComplete (q : Nat)
  /-- HBM_MEMTEST_COMPLETE (R503). -/
  | hbmMemtestComplete (q : Nat) (march retention disturb repaired : List Nat)
  /-- KAT_COMPLETE (R504). -/
  | katComplete (blk i : Nat) (ok : Bool)
  /-- TEST_RECORD_WRITTEN (R502). -/
  | testRecordWritten
  /-- DEVICE_READY (R506). -/
  | deviceReady
  /-- TEST_RECORD_SYNC (R502). -/
  | testRecordSync
  /-- OE_LCTL_RETRAIN_WRITE (R512). -/
  | oeLctlRetrainWrite (x : Nat)
  /-- HBM_CTL_RETRAIN_WRITE (R512). -/
  | hbmCtlRetrainWrite (q : Nat)
  /-- TEL_READ (R518). -/
  | telRead (aseq : Nat)
  /-- SNAP_ARM (R519). -/
  | snapArm (aseq : Nat)
  /-- SNAP_READ (R518). -/
  | snapRead (aseq : Nat)
  /-- TAG_SET (R522). -/
  | tagSet (aseq : Nat)
  /-- HIST (R532). -/
  | hist (aseq : Nat)
  /-- SAMPLE_SET (R533). -/
  | sampleSet (aseq : Nat)
  /-- SAMPLE_READ (R533). -/
  | sampleRead (aseq : Nat)
  /-- TRACE_READ (R524). -/
  | traceRead (aseq : Nat)
  /-- SNAPSHOT_TIME (R519). -/
  | snapshotTime (i : Nat)
  /-- BUNTING_SET (R525). -/
  | buntingSet (aseq : Nat)
  /-- BUNTING_ARM (R525). -/
  | buntingArm (aseq : Nat)
  /-- BUNTING_FREEZE (R528). -/
  | buntingFreeze (aseq : Nat)
  /-- BUNTING_READ (R525). -/
  | buntingRead (aseq : Nat)
  /-- BUNTING_FREE (R525). -/
  | buntingFree (aseq : Nat)
  /-- MIRROR_SET (R529). -/
  | mirrorSet (aseq : Nat)
  /-- TEL_CVAL_LO_READ (R517). -/
  | telCvalLoRead
  /-- HUB_FTIME_LO_READ (R588). -/
  | hubFtimeLoRead
  /-- HUB_STEPLO_READ (R588). -/
  | hubSteploRead
  /-- OWNER_AUTH_CHALLENGE (R544). -/
  | ownerAuthChallenge (aseq : Nat)
  /-- OWNER_AUTH_RESPONSE (R544). -/
  | ownerAuthResponse (aseq : Nat) (sig : Bool)
  /-- OWNER_AUTH_AUDIT_READ (R546). -/
  | ownerAuthAuditRead (aseq : Nat)
  /-- FUSE_WRITE (R545). -/
  | fuseWrite (aseq : Nat)
  /-- FUSE_BURN_COMPLETE (R545). -/
  | fuseBurnComplete
  /-- ARB_ADVANCE (R541). -/
  | arbAdvance (aseq : Nat)
  /-- KEY_INSTALL (R543). -/
  | keyInstall (aseq : Nat) (sig : Bool)
  /-- FW_STAGE (R539). -/
  | fwStage (aseq : Nat) (c : FwCheck)
  /-- FW_ACTIVATE (R539). -/
  | fwActivate (aseq : Nat)
  /-- STAGING_SESSION_TIMEOUT (R540). -/
  | stagingSessionTimeout
  /-- SPDM_MESSAGE_RECEIVED (R547). -/
  | spdmMessageReceived (via : SpdmVia) (m : SpdmMsg)
  /-- ATTESTATION_TIMEOUT (R549). -/
  | attestationTimeout (p : Nat)
  /-- ATTESTATION_RETRY (R549). -/
  | attestationRetry (p : Nat)
  /-- PLDM_MESSAGE (R556). -/
  | pldmMessage (intf eid mtag : Nat) (m : PldmMsg)
  /-- MCTP_CONTROL_MESSAGE (R556). -/
  | mctpControlMessage (intf eid mtag : Nat) (m : MctpCtl)
  /-- JTAG_INSTRUCTION (R557). -/
  | jtagInstruction (m : JtagOp)
  /-- REFCLK_LOSS (R570). -/
  | refclkLoss (ref : Nat)
  /-- REFCLK_FT_RETURN (R570). -/
  | refclkFtReturn
  /-- LMOD_FLT_CHANGE (R574). -/
  | lmodFltChange (m : Nat) (low : Bool)
  /-- LMOD_EN_OFF_DELAY (R574). -/
  | lmodEnOffDelay (m : Nat)
  /-- TILE_ERR_UNHANDLED_CLEAR (R332). -/
  | tileErrUnhandledClear (t : Nat)
  /-- TILE_ERR_RESET_SEEN_CLEAR (R334). -/
  | tileErrResetSeenClear (t : Nat)
  /-- REGISTER_WRITE (R584). -/
  | registerWrite (fn off len : Nat) (whole : Bool) (w0 w1 : Nat)
  /-- TRANSMIT_BLOCK_SLOT (R65). -/
  | transmitBlockSlot (p : Nat)
  /-- SHAPER_REFILL (R199). -/
  | shaperRefill (p v : Nat)
  /-- HOST_TRANSFER_COMPLETE (R417). -/
  | hostTransferComplete (aseq : Nat) (ok : Bool) (bytes : List Nat)
  /-- RAIL_IN_RANGE (R566). -/
  | railInRange (r : Nat)
  /-- REFCLK_RETURN (R570). -/
  | refclkReturn (ref : Nat)
  /-- D3HOT_ENTRY (R555). -/
  | d3hotEntry (fn : Nat)
  deriving DecidableEq, Repr

end Sys2Proof
end

