-- ==== Sys2Proof/WellFormed.lean ====
section
/-! DEFINITION. The range of every operand: what a command may carry (spec/01, R13; spec/04, R88 to
R97, R121, R129; spec/05, R143; spec/15, R412).  `wfInstr` is the whole check. -/

namespace Sys2Proof

/-- Whether every operand of a command lies in its range. -/
def wfInstr : Instr → Bool
  | .packetArrival p => p < 512
  | .descriptorEntry _ h => h.wf
  | .schedulerPacketStart e => isEgress e
  | .pennantSlot p => p < 512
  | .holderRelease _ h _ => h.wf
  | .bufferEccUncorrectable _ _ _ => true
  | .ageingTick e v => isEgress e && v < 8
  | .flushRecordRoom e v => isEgress e && v < 8
  | .failureRecordIssue q => q < 4
  | .meshSublinkFail pair sub => pair < 6 && sub < 16
  | .meshLinkFail pair => pair < 6
  | .quadrantRelayDrained q => q < 4
  | .bufProfileDrainTimeout => true
  | .opSet _ => true
  | .railRampSettled v => v.length = 4 && v.all (· < 256)
  | .op3DrainComplete => true
  | .op3DrainTimeout => true
  | .op3ExitComplete => true
  | .regulation pv => pv < 4
  | .qmarginWindow q m => q < 4 && m < 1024
  | .belowLinePennantRepeat q => q < 4
  | .qmarginBelowSeenClear q => q < 4
  | .junctionTemperatureChange _ sensor => sensor < 128
  | .powerLimitWindow _ => true
  | .pdSet _ => true
  | .domainOnComplete pd => pd < 112
  | .domainOffComplete pd => pd < 112
  | .oeClass _ => true
  | .laserLow e input => e < 32 && input < 2
  | .laserInputRestored e input power => e < 32 && input < 2 && power < 256
  | .codewordReceived x errs blocks => x < 1024 && errs < 545 && 1 ≤ blocks && blocks < 5
  | .blockReceived x byte0 => x < 1024 && byte0 < 256
  | .markerWordReceived x m => x < 1024 && m.wf
  | .superframeBoundary p => p < 512
  | .laneBringupStart x => x < 1024
  | .laneRingLock x => x < 1024
  | .laneLightDetected x => x < 1024
  | .laneCdrLock x => x < 1024
  | .laneFrameLock x _ => x < 1024
  | .laneEqTrained x => x < 1024
  | .laneQualified x _ _ => x < 1024
  | .laneIdentityCheck p => p < 512
  | .laneAligned p _ => p < 512
  | .portUp p => p < 512
  | .portUpTimer p => p < 512
  | .laneStepTimeout x => x < 1024
  | .laneRetryTimer x => x < 1024
  | .gainRangeChange x g => x < 1024 && g < 4
  | .marginMonitorWindow x => x < 1024
  | .laneRetrainComplete x _ => x < 1024
  | .laneLossOfLight x => x < 1024
  | .laneFrameSyncLoss x => x < 1024
  | .laneUncorrectableBurst x => x < 1024
  | .ringLockLost x => x < 1024
  | .lightInStandby x => x < 1024
  | .wakeTimeout x => x < 1024
  | .portState _ => true
  | .dataFlitReceived p f => p < 512 && f.wf
  | .failedFlit p => p < 512
  | .reservedFlitKind p byte0 => p < 512 && byte0 < 256
  | .lcfReceived p f => p < 512 && f.wf
  | .negFlitReceived p f => p < 512 && f.wf
  | .halyardBlockReceived p words _ _ => p < 512 && words.length ≤ 15 && words.all (·.wf)
  | .linkAuthReceived p firstSeq cnt _ => p < 512 && firstSeq < 65536 && cnt < 64
  | .ackHoldExpiry p => p < 512
  | .lcfPeriodic p => p < 512
  | .creditReportDue p v => p < 512 && v < 8
  | .nakHoldoffExpiry p => p < 512
  | .replayTimeout p => p < 512
  | .negFlitTimer p => p < 512
  | .confirmTimeout p => p < 512
  | .resyncTimeout p => p < 512
  | .timeWordTimer p => p < 512
  | .pauseExpiry p => p < 512
  | .linkAdmit _ => true
  | .routeNoticeRepeat p => p < 512
  | .restoreHoldExpiry p => p < 512
  | .routeRestoreRepeat p => p < 512
  | .routeNoticeReceived _ => true
  | .noticeHoldExpiry => true
  | .atTimeSwitch => true
  | .drainStart => true
  | .drainComplete => true
  | .drainPauseCancel => true
  | .quenchExpiry => true
  | .queueSampleTimer q => q < 4
  | .ctxOpen _ => true
  | .ctxClose _ => true
  | .ctxAbort _ => true
  | .ctxMigrate _ => true
  | .ctxReparent _ => true
  | .ctxBind _ => true
  | .ctxStat _ => true
  | .contributionTaken _ => true
  | .chunkComplete _ _ => true
  | .rootChunkComplete _ _ => true
  | .resultArrival p => p < 512
  | .arrivalTimeout _ => true
  | .accEcc _ => true
  | .failPennantReceived _ => true
  | .stubRetire _ => true
  | .trigArm _ => true
  | .trigDisarm _ => true
  | .trigAdvance _ => true
  | .operationEnd _ => true
  | .remoteRspReceived _ => true
  | .remoteRspTimeout _ => true
  | .opWrite _ => true
  | .collLaunch _ => true
  | .regionReg _ => true
  | .regionDereg _ => true
  | .regionDeregComplete _ => true
  | .streamerLanding _ t => t < 64
  | .landingComplete _ t => t < 64
  | .trigPennantReceived _ => true
  | .dispatchTokenReceived _ t => t < 64
  | .tokenSlotAvailable q => q < 4
  | .gateRecordTaken q => q < 4
  | .gateTimeout q slot => q < 4 && slot < 4096
  | .expertFailReceived _ => true
  | .tileLaunch _ => true
  | .tileNop t _ => t < 64
  | .add t _ => t < 64
  | .sub t _ => t < 64
  | .mul t _ => t < 64
  | .and t _ => t < 64
  | .or t _ => t < 64
  | .xor t _ => t < 64
  | .shl t _ => t < 64
  | .shr t _ => t < 64
  | .sra t _ => t < 64
  | .slt t _ => t < 64
  | .sltu t _ => t < 64
  | .addi t _ => t < 64
  | .andi t _ => t < 64
  | .ori t _ => t < 64
  | .xori t _ => t < 64
  | .shli t _ => t < 64
  | .shri t _ => t < 64
  | .srai t _ => t < 64
  | .lui t _ => t < 64
  | .ld t _ => t < 64
  | .st t _ => t < 64
  | .amo t _ => t < 64
  | .br t _ => t < 64
  | .jal t _ => t < 64
  | .jalr t _ => t < 64
  | .fenceLd t _ => t < 64
  | .fenceSt t _ => t < 64
  | .fenceSc t _ => t < 64
  | .fenceTn t _ => t < 64
  | .wait t _ => t < 64
  | .halt t _ => t < 64
  | .trap t _ => t < 64
  | .rete t _ => t < 64
  | .csrr t _ => t < 64
  | .csrw t _ => t < 64
  | .vld t _ => t < 64
  | .vst t _ => t < 64
  | .vadd t _ => t < 64
  | .vsub t _ => t < 64
  | .vmul t _ => t < 64
  | .vfma t _ => t < 64
  | .vmax t _ => t < 64
  | .vmin t _ => t < 64
  | .vdiv t _ => t < 64
  | .vsqrt t _ => t < 64
  | .vcmp t _ => t < 64
  | .vsel t _ => t < 64
  | .vbcast t _ => t < 64
  | .vredsum t _ => t < 64
  | .vredmax t _ => t < 64
  | .vextr t _ => t < 64
  | .vexp2 t _ => t < 64
  | .vlog2 t _ => t < 64
  | .vrcp t _ => t < 64
  | .vrsqrt t _ => t < 64
  | .vtanh t _ => t < 64
  | .vsigm t _ => t < 64
  | .vrng t _ => t < 64
  | .mma t _ => t < 64
  | .mmaC t _ => t < 64
  | .xfer t _ => t < 64
  | .cinj t _ => t < 64
  | .cbind t _ => t < 64
  | .tadv t _ => t < 64
  | .twait t _ => t < 64
  | .gpost t _ => t < 64
  | .rxwait t _ => t < 64
  | .rxdone t _ => t < 64
  | .asyncInstructionComplete t q _ => t < 64 && q < 3
  | .blockInjection t q _ => t < 64 && (q = 0 || q = 2)
  | .storePerformed t i => t < 64 && i < 16
  | .modelFetch _ => true
  | .modelFetchComplete sl _ => sl < 256
  | .modelLoad _ _ => true
  | .modelLoadSectionsWritten sl => sl < 256
  | .modelSwap _ _ => true
  | .modelSwapStepDrained sl => sl < 256
  | .modelMove _ => true
  | .modelMoveStubExpiry sl => sl < 256
  | .modelEvict _ => true
  | .serveOpen _ => true
  | .serveAppend _ => true
  | .serveGenerate _ => true
  | .serveCancel _ => true
  | .servePark _ => true
  | .serveResume _ => true
  | .serveSnapshot _ => true
  | .serveRestore _ => true
  | .serveClose _ => true
  | .serveDataAppend _ => true
  | .serveStoreOpComplete sl i => sl < 256 && i < 4096
  | .modelStep sl dur out => sl < 256 && dur < 2 ^ 32 && out.all SessOut.wf
  | .sramEccResetTimer t => t < 64
  | .sramScrubPeriod t _ => t < 64
  | .sramTest _ => true
  | .marchTestComplete t lines _ _ => t < 64 && lines.all (· < 196608)
  | .hbmUncorrectable q addr _ => q < 4 && addr < 0xC00000000
  | .hbmPatrolScrub q unc corr _ => q < 4 && unc.all (· < 0xC00000000) && corr.all (· < 0xC00000000)
  | .hbmRefreshDue q => q < 4
  | .hbmTempCheck q temp => q < 4 && temp < 256
  | .hbmChannelRetrainDone q _ => q < 4
  | .hbmChannelRetrainNext q => q < 4
  | .hbmRetrainRetry q => q < 4
  | .nvsDiscoveryComplete ts => ts.length ≤ 64 && ts.all TargetInfo.wf
  | .unitReadComplete _ _ step _ => step < 4
  | .programComplete _ _ => true
  | .eraseComplete t _ _ => t < 64
  | .targetTimeout t => t < 64
  | .storeDataArrival _ _ => true
  | .fillToExpiry => true
  | .absorbResultReceived _ => true
  | .retentionScan t _ _ step _ => t < 64 && step < 4
  | .blockRefreshComplete t _ => t < 64
  | .mapCheckpoint => true
  | .rebuildComplete => true
  | .storeFormat _ => true
  | .storeStat _ => true
  | .storeQuiesce _ => true
  | .objCreate _ => true
  | .objWrite _ => true
  | .objRead _ => true
  | .objSeal _ => true
  | .objDelete _ => true
  | .objStat _ => true
  | .absorbBind _ => true
  | .storeTransferComplete _ => true
  | .pwrfailAsserted => true
  | .holdupDone => true
  | .pwrfailDeasserted => true
  | .railUndervoltage r => r < 29
  | .commandTaken => true
  | .commandBegin _ => true
  | .mbxSendDmwr fn ch off ws => fn < 65 && ch < 128 && off < 128 && ws.length ≤ 1024 && ws.all (· < 2 ^ 32)
  | .mbxDoorbellWrite fn ch _ => fn < 65 && ch < 128
  | .mbxCplHeadWrite fn ch n => fn < 65 && ch < 128 && n < 64
  | .mbxEmptyArmWrite fn ch => fn < 65 && ch < 128
  | .mbxCtlLockWrite => true
  | .channelRebindEffective ch => ch < 128
  | .mctpCommandMessage intf eid mtag ws => (intf = 1 || intf = 2) && eid < 256 && mtag < 8 && ws.all (· < 2 ^ 32)
  | .cmdPennantReceived _ => true
  | .functionLevelReset fn => fn < 65
  | .perst => true
  | .nop _ => true
  | .devInfo _ => true
  | .cmdCaps _ => true
  | .chanBind _ => true
  | .chanLock _ => true
  | .cmdCancel _ => true
  | .cfgCommit _ bodies _ => bodies.all Machine.CfgBody.wf
  | .cfgCommitCancel _ => true
  | .cfgCommitDrainComplete => true
  | .fltHistRead _ => true
  | .fltClear _ => true
  | .reset _ => true
  | .tileReset _ => true
  | .jobAbort _ => true
  | .hoistJoin _ => true
  | .lockstepStart _ => true
  | .hoistArrive _ => true
  | .hoistReleaseReceived _ => true
  | .hoistFailReceived _ => true
  | .hoistReleaseTime i => i < 1024
  | .hoistDeadline i => i < 1024
  | .cutOff i => i < 1024
  | .slotStart => true
  | .slotGuardBand => true
  | .quietTimerExpiry => true
  | .struckWindowExpiry => true
  | .watchdog t => t < 64
  | .engineHang e => e < 64
  | .seqHang q => q < 4
  | .dispatchHang q => q < 4
  | .ctrlHang => true
  | .thidanHeartbeat => true
  | .heartbeatLost => true
  | .thidanRestartComplete => true
  | .restartFail => true
  | .sentinelKick => true
  | .hwWatchdog => true
  | .resetRelease level _ => level < 7
  | .resetHung level _ => level < 7
  | .forcedFlushLimit => true
  | .bringupStart => true
  | .coldResetAsserted => true
  | .fuseLoadComplete => true
  | .secureBootComplete _ _ => true
  | .hbmTrainingComplete q => q < 4
  | .hbmMemtestComplete q march retention disturb repaired => q < 4 && (march ++ retention ++ disturb ++ repaired).all (· < 2 ^ 25)
  | .katComplete blk i _ => blk < 32 && i < 64
  | .testRecordWritten => true
  | .deviceReady => true
  | .testRecordSync => true
  | .oeLctlRetrainWrite x => x < 1024
  | .hbmCtlRetrainWrite q => q < 4
  | .telRead _ => true
  | .snapArm _ => true
  | .snapRead _ => true
  | .tagSet _ => true
  | .hist _ => true
  | .sampleSet _ => true
  | .sampleRead _ => true
  | .traceRead _ => true
  | .snapshotTime i => i < 4
  | .buntingSet _ => true
  | .buntingArm _ => true
  | .buntingFreeze _ => true
  | .buntingRead _ => true
  | .buntingFree _ => true
  | .mirrorSet _ => true
  | .telCvalLoRead => true
  | .hubFtimeLoRead => true
  | .hubSteploRead => true
  | .ownerAuthChallenge _ => true
  | .ownerAuthResponse _ _ => true
  | .ownerAuthAuditRead _ => true
  | .fuseWrite _ => true
  | .fuseBurnComplete => true
  | .arbAdvance _ => true
  | .keyInstall _ _ => true
  | .fwStage _ c => c.wf
  | .fwActivate _ => true
  | .stagingSessionTimeout => true
  | .spdmMessageReceived _ m => m.wf
  | .attestationTimeout p => p < 512
  | .attestationRetry p => p < 512
  | .pldmMessage intf eid mtag m => (intf = 1 || intf = 2) && eid < 256 && mtag < 8 && m.wf
  | .mctpControlMessage intf eid mtag m => (intf = 1 || intf = 2) && eid < 256 && mtag < 8 && m.wf
  | .jtagInstruction _ => true
  | .refclkLoss ref => ref < 3
  | .refclkFtReturn => true
  | .lmodFltChange m _ => m < 16
  | .lmodEnOffDelay m => m < 16
  | .tileErrUnhandledClear t => t < 64
  | .tileErrResetSeenClear t => t < 64
  | .registerWrite fn off len _ w0 w1 => fn ≤ 64 && off < 2 ^ 26 && off + len ≤ 2 ^ 26 && w0 < 2 ^ 32 && w1 < 2 ^ 32
  | .transmitBlockSlot p => p < 512
  | .shaperRefill p v => p < 512 && v < 8
  | .hostTransferComplete _ _ bytes => bytes.all (· < 256)
  | .railInRange r => r < 29
  | .refclkReturn ref => ref = 0 || ref = 2
  | .d3hotEntry fn => fn < 65

end Sys2Proof
end

