-- ==== Sys2Proof/Decode.lean ====
section
/-! DEFINITION. The rows of the opcode table give no bits: no word spells a command (assumption log,
row 6). -/

namespace Sys2Proof

/-- The command that a word of `nbits` bits spells: none, for the table gives no row any bits. -/
def decodeTableWord (_nbits _w : Nat) : Option Instr := none

end Sys2Proof
end

