-- ==== Sys2Proof/Config.lean ====
section
/-! DEFINITION. What the part fixes and the manual does not: the fused values, and the values the
manual leaves open.  Every constant here is opaque: no proof can see its value, so every statement
holds for each value it could have. -/

namespace Sys2Proof.Config

/-- A free value: the value the manual leaves open at one use, named by the use's number
(assumption log, row 4). -/
opaque freeValue : Nat → Nat

/-- The fused value of a register field, by field number, block instance and element (R2, R535;
assumption log, row 3). -/
opaque fuse : Nat → Nat → Nat → Nat

/-- The bits of an approximate vector function, by function (with the numeric profile, for
the two functions in which the profiles differ) and FP32 input (R313, R465): the numeric profile of the
part gives them, and the manual only bounds them (assumption log, row 4). -/
opaque approx : Nat → Nat → Nat

end Sys2Proof.Config
end

