-- ==== Sys2Proof/Machine/Mem.lean ====
section
/-! DEFINITION. The memories of the device: the SRAM of each tile and the HBM of each stack (spec/13).  A
memory lists address and byte in one canonical form: addresses strictly rising, no listed byte zero.  An
unlisted address reads as 0 (assumption log, row 8). -/

namespace Sys2Proof.Machine

/-- A byte-addressed memory. -/
abbrev Mem := List Host.Cell

/-- What an unlisted address reads as. -/
def Mem.blank : Byte := 0

/-- The canonical form: every address above `lo`, strictly rising, and no byte equal to the blank. -/
def Mem.wfFrom : Option Nat → Mem → Bool
  | _, [] => true
  | lo, (a, b) :: t =>
    (match lo with
      | none => true
      | some l => decide (l < a)) && b != Mem.blank && Mem.wfFrom (some a) t

/-- The canonical form. -/
def Mem.wf (m : Mem) : Bool := Mem.wfFrom none m

/-- The byte at an address. -/
def Mem.readByte : Mem → Nat → Byte
  | [], _ => Mem.blank
  | (k, b) :: t, a => if k = a then b else Mem.readByte t a

/-- The memory with one byte written. -/
def Mem.writeByte : Mem → Nat → Byte → Mem
  | [], a, b => if b = Mem.blank then [] else [(a, b)]
  | (k, c) :: t, a, b =>
    if a < k then (if b = Mem.blank then (k, c) :: t else (a, b) :: (k, c) :: t)
    else if a = k then (if b = Mem.blank then t else (a, b) :: t)
    else (k, c) :: Mem.writeByte t a b

/-- `n` bytes from an address, lowest first, as numbers. -/
def Mem.readN (m : Mem) (a n : Nat) : List Nat :=
  (List.range n).map fun i => (m.readByte (a + i)).toNat

/-- Bytes written from an address on. -/
def Mem.writeN : Mem → Nat → List Nat → Mem
  | m, _, [] => m
  | m, a, b :: bs => Mem.writeN (m.writeByte a (BitVec.ofNat 8 b)) (a + 1) bs

/-- `n` bytes from an address on made zero: the listed ones are dropped. -/
def Mem.zero (m : Mem) (a n : Nat) : Mem := m.filter fun c => !(decide (a ≤ c.1) && decide (c.1 < a + n))

end Sys2Proof.Machine
end

