-- ==== Sys2Proof/Machine/RegMap.lean ====
section
/-! DEFINITION. The register fields of the device: one descriptor per field of the register
tables of chapters 02 to 22 (spec/22, R581 to R593), with its bits, its access code (R9) and
its reset value.  `regRows` lists the registers in the order of the chapters. -/

namespace Sys2Proof

namespace R

/-! PWR.QMARGIN (spec/02). -/

def PWR_QMARGIN_MARGIN : Fld := ⟨1, 0, 10, .ro, .const 0x0⟩
def PWR_QMARGIN_MARGIN_MIN : Fld := ⟨2, 16, 10, .ro, .const 0x3FF⟩
def PWR_QMARGIN_BELOW_LINE : Fld := ⟨3, 30, 1, .ro, .const 0⟩
def PWR_QMARGIN_BELOW_SEEN : Fld := ⟨4, 31, 1, .rw1c, .const 0⟩

/-! PWR.THERM (spec/02). -/

def PWR_THERM_TJ_HOT : Fld := ⟨5, 0, 8, .ro, .const 0x0⟩
def PWR_THERM_HOT_SENSOR : Fld := ⟨6, 8, 7, .ro, .const 0x0⟩
def PWR_THERM_WARN : Fld := ⟨7, 16, 1, .ro, .const 0⟩
def PWR_THERM_THROTTLE : Fld := ⟨8, 17, 1, .ro, .const 0⟩
def PWR_THERM_WARN_SEEN : Fld := ⟨9, 18, 1, .rw1c, .const 0⟩
def PWR_THERM_THROTTLE_SEEN : Fld := ⟨10, 19, 1, .rw1c, .const 0⟩
def PWR_THERM_GATE_PCT : Fld := ⟨11, 24, 8, .ro, .const 0x0⟩

/-! PWR.PLIMIT (spec/02). -/

def PWR_PLIMIT_LIMIT_W : Fld := ⟨12, 0, 12, .rwl, .const 0x960⟩

/-! PWR.PDSTAT (spec/02). -/

def PWR_PDSTAT_ON : Fld := ⟨13, 0, 32, .ro, .const 0⟩

/-! PWR.OPSTAT (spec/02). -/

def PWR_OPSTAT_OP_CUR : Fld := ⟨14, 0, 2, .ro, .const 0⟩
def PWR_OPSTAT_OP_TGT : Fld := ⟨15, 2, 2, .ro, .const 0⟩
def PWR_OPSTAT_RAMPING : Fld := ⟨16, 4, 1, .ro, .const 0⟩
def PWR_OPSTAT_LANES_STBY : Fld := ⟨17, 5, 1, .ro, .const 0⟩
def PWR_OPSTAT_DET : Fld := ⟨18, 6, 2, .ro, .const 0⟩
def PWR_OPSTAT_RED_CLASS : Fld := ⟨19, 8, 1, .ro, .const 0⟩
def PWR_OPSTAT_VCORE : Fld := ⟨20, 16, 8, .ro, .const 0x0⟩

/-! OE.PFORM (spec/03). -/

def OE_PFORM_X4 : Fld := ⟨21, 0, 8, .rwl, .const 0x0⟩
def OE_PFORM_X8 : Fld := ⟨22, 8, 4, .rwl, .const 0x0⟩
def OE_PFORM_HALF : Fld := ⟨23, 12, 16, .rwl, .const 0x0⟩

/-! OE.LASER (spec/03). -/

def OE_LASER_IN0_PWR : Fld := ⟨24, 0, 8, .ro, .const 0x0⟩
def OE_LASER_IN1_PWR : Fld := ⟨25, 8, 8, .ro, .const 0x0⟩
def OE_LASER_IN0_LOW : Fld := ⟨26, 16, 1, .ro, .const 0⟩
def OE_LASER_IN1_LOW : Fld := ⟨27, 17, 1, .ro, .const 0⟩
def OE_LASER_LOW_SEEN : Fld := ⟨28, 18, 1, .rw1c, .const 0⟩
def OE_LASER_CLASS : Fld := ⟨29, 19, 3, .ro, .const 1⟩
def OE_LASER_CLASS_NEXT : Fld := ⟨30, 22, 3, .ro, .const 1⟩

/-! OE.MONCFG (spec/03). -/

def OE_MONCFG_RETRAIN_CSYM : Fld := ⟨31, 0, 16, .rw, .const 0x108A⟩
def OE_MONCFG_MON_EN : Fld := ⟨32, 16, 1, .rw, .const 1⟩

/-! OE.LSTAT (spec/03). -/

def OE_LSTAT_STATE : Fld := ⟨33, 0, 4, .ro, .const 0x0⟩
def OE_LSTAT_PEER_STBY : Fld := ⟨34, 4, 1, .ro, .const 0⟩
def OE_LSTAT_POL_INV : Fld := ⟨35, 7, 1, .ro, .const 0⟩
def OE_LSTAT_PEER_POS : Fld := ⟨36, 8, 3, .ro, .const 0⟩
def OE_LSTAT_IN_MASK : Fld := ⟨37, 11, 1, .ro, .const 0⟩
def OE_LSTAT_GAIN : Fld := ⟨38, 12, 2, .ro, .const 0⟩
def OE_LSTAT_LAST_LOW : Fld := ⟨39, 14, 1, .ro, .const 0⟩
def OE_LSTAT_WAKE_SEEN : Fld := ⟨40, 15, 1, .rw1c, .const 0⟩
def OE_LSTAT_RETRAINS : Fld := ⟨41, 16, 8, .ro, .const 0x0⟩
def OE_LSTAT_FAIL_CAUSE : Fld := ⟨42, 24, 4, .ro, .const 0x0⟩
def OE_LSTAT_STEP : Fld := ⟨43, 28, 4, .ro, .const 0x0⟩

/-! OE.LMARG (spec/03). -/

def OE_LMARG_MARGIN : Fld := ⟨44, 0, 8, .ro, .const 0x0⟩
def OE_LMARG_PEER_MARGIN : Fld := ⟨45, 8, 8, .ro, .const 0x0⟩
def OE_LMARG_CSYM : Fld := ⟨46, 16, 16, .ro, .const 0x0⟩

/-! LNK.STAT (spec/04). -/

def LNK_STAT_STATE : Fld := ⟨47, 0, 3, .ro, .const 0⟩
def LNK_STAT_ADMITTED : Fld := ⟨48, 3, 1, .ro, .const 0⟩
def LNK_STAT_VER : Fld := ⟨49, 4, 4, .ro, .const 0x0⟩
def LNK_STAT_LANES : Fld := ⟨50, 8, 4, .ro, .const 0x0⟩
def LNK_STAT_RTT : Fld := ⟨51, 16, 16, .ro, .const 0x0⟩

/-! LNK.PEER (spec/04). -/

def LNK_PEER_MAX_OUT : Fld := ⟨52, 0, 16, .ro, .const 0x0⟩
def LNK_PEER_CAPS : Fld := ⟨53, 16, 5, .ro, .const 0x0⟩
def LNK_PEER_AGREED : Fld := ⟨54, 24, 8, .ro, .const 0x0⟩

/-! LNK.CFG (spec/04). -/

def LNK_CFG_REPLAY_TO : Fld := ⟨55, 0, 16, .rwl, .const 0x2EE⟩
def LNK_CFG_ILV_BURST : Fld := ⟨56, 16, 4, .rwl, .const 0x4⟩
def LNK_CFG_ILV_RATIO : Fld := ⟨57, 20, 4, .rwl, .const 0x4⟩
def LNK_CFG_MAX_TMO : Fld := ⟨58, 24, 4, .rwl, .const 0x4⟩

/-! LNK.HSTAT (spec/04). -/

def LNK_HSTAT_PAUSED_BY_PEER : Fld := ⟨59, 0, 8, .ro, .const 0x0⟩
def LNK_HSTAT_PAUSED_AT_PEER : Fld := ⟨60, 8, 8, .ro, .const 0x0⟩
def LNK_HSTAT_INDEF : Fld := ⟨61, 16, 8, .ro, .const 0x0⟩

/-! LNK.ERR (spec/04). -/

def LNK_ERR_FAILED_FLIT : Fld := ⟨62, 0, 1, .rw1c, .const 0⟩
def LNK_ERR_DUP : Fld := ⟨63, 1, 1, .rw1c, .const 0⟩
def LNK_ERR_GAP : Fld := ⟨64, 2, 1, .rw1c, .const 0⟩
def LNK_ERR_OOW : Fld := ⟨65, 3, 1, .rw1c, .const 0⟩
def LNK_ERR_FRAMING : Fld := ⟨66, 4, 1, .rw1c, .const 0⟩
def LNK_ERR_NOVER : Fld := ⟨67, 5, 1, .rw1c, .const 0⟩
def LNK_ERR_RRST_AUTH : Fld := ⟨68, 6, 1, .rw1c, .const 0⟩
def LNK_ERR_ILV_EXCESS : Fld := ⟨69, 7, 1, .rw1c, .const 0⟩
def LNK_ERR_STOMP_RX : Fld := ⟨70, 8, 1, .rw1c, .const 0⟩
def LNK_ERR_HALY_STATE : Fld := ⟨71, 9, 1, .rw1c, .const 0⟩
def LNK_ERR_RSVD_FKIND : Fld := ⟨72, 10, 1, .rw1c, .const 0⟩
def LNK_ERR_CREDIT_OVR : Fld := ⟨73, 11, 1, .rw1c, .const 0⟩

/-! LNK.CRED (spec/04). -/

def LNK_CRED_AVAIL : Fld := ⟨74, 0, 16, .ro, .const 0x0⟩
def LNK_CRED_GRANTED : Fld := ⟨75, 16, 16, .ro, .const 0x0⟩

/-! XBAR.AGE (spec/05). -/

def XBAR_AGE_AGE_MS : Fld := ⟨76, 0, 12, .rw, .age⟩

/-! XBAR.MESHSTAT (spec/05). -/

def XBAR_MESHSTAT_PEER : Fld := ⟨77, 0, 2, .ro, .meshPeer⟩
def XBAR_MESHSTAT_UP : Fld := ⟨78, 2, 1, .ro, .const 0⟩
def XBAR_MESHSTAT_RELAY : Fld := ⟨79, 3, 1, .ro, .const 0⟩
def XBAR_MESHSTAT_SUBLINKS : Fld := ⟨80, 4, 16, .ro, .const 0x0⟩
def XBAR_MESHSTAT_DOWN_SEEN : Fld := ⟨81, 20, 1, .rw1c, .const 0⟩

/-! BPM.PCFG (spec/05). -/

def BPM_PCFG_EN : Fld := ⟨82, 0, 4, .rwl, .const 0x0⟩
def BPM_PCFG_ALPHA : Fld := ⟨83, 4, 3, .rwl, .const 4⟩

/-! BPM.PPOOL (spec/05). -/

def BPM_PPOOL_CELLS : Fld := ⟨84, 0, 19, .ro, .const 0x0⟩

/-! BPM.PFREE (spec/05). -/

def BPM_PFREE_FREE : Fld := ⟨85, 0, 19, .ro, .const 0x0⟩

/-! BPM.PSTAT (spec/05). -/

def BPM_PSTAT_EMPTY : Fld := ⟨86, 0, 4, .ro, .const 0x0⟩
def BPM_PSTAT_EMPTY_SEEN : Fld := ⟨87, 4, 4, .rw1c, .const 0x0⟩
def BPM_PSTAT_RETIRED : Fld := ⟨88, 8, 8, .ro, .const 0x0⟩
def BPM_PSTAT_ECC_UNC_SEEN : Fld := ⟨89, 16, 1, .rw1c, .const 0⟩
def BPM_PSTAT_QUARANTINE : Fld := ⟨90, 17, 1, .ro, .const 0⟩
def BPM_PSTAT_LOCK_DISCARD : Fld := ⟨91, 18, 1, .rw1c, .const 0⟩

/-! BPM.PROFCHK (spec/05). -/

def BPM_PROFCHK_CHECK : Fld := ⟨92, 0, 4, .ro, .const 0x0⟩
def BPM_PROFCHK_PORT : Fld := ⟨93, 4, 7, .ro, .const 0x0⟩
def BPM_PROFCHK_VC : Fld := ⟨94, 11, 3, .ro, .const 0⟩
def BPM_PROFCHK_SHORT : Fld := ⟨95, 16, 16, .ro, .const 0x0⟩

/-! BPM.RING (spec/05). -/

def BPM_RING_SIZE : Fld := ⟨96, 0, 14, .ro, .const 0x0⟩
def BPM_RING_EN : Fld := ⟨97, 14, 1, .ro, .const 0⟩
def BPM_RING_OCC : Fld := ⟨98, 16, 14, .ro, .const 0x0⟩

/-! RTE.STAT (spec/06). -/

def RTE_STAT_ACT_EPOCH : Fld := ⟨99, 0, 8, .ro, .const 0x0⟩
def RTE_STAT_SHD_EPOCH : Fld := ⟨100, 8, 8, .ro, .const 0x0⟩
def RTE_STAT_SHD_VALID : Fld := ⟨101, 16, 1, .ro, .const 0⟩
def RTE_STAT_ARMED : Fld := ⟨102, 17, 1, .ro, .const 0⟩
def RTE_STAT_SW_MODE : Fld := ⟨103, 18, 2, .ro, .const 0⟩
def RTE_STAT_DRAINING : Fld := ⟨104, 20, 1, .ro, .const 0⟩
def RTE_STAT_TORUS : Fld := ⟨105, 21, 1, .ro, .const 0⟩

/-! RTE.HCFG (spec/06). -/

def RTE_HCFG_SALT : Fld := ⟨106, 0, 12, .rwl, .const 0x0⟩
def RTE_HCFG_TORUS : Fld := ⟨107, 12, 1, .rwl, .const 0⟩
def RTE_HCFG_RESTORE_HOLD : Fld := ⟨108, 13, 10, .rwl, .const 0x64⟩
def RTE_HCFG_DRAIN_TO : Fld := ⟨109, 23, 8, .rwl, .const 0xA⟩

/-! RTE.SWTIME_LO (spec/06). -/

def RTE_SWTIME_LO_T : Fld := ⟨110, 0, 32, .ro, .const 0x0⟩

/-! RTE.SWTIME_HI (spec/06). -/

def RTE_SWTIME_HI_T : Fld := ⟨111, 0, 32, .ro, .const 0x0⟩

/-! RTE.WIN_A (spec/06). -/

def RTE_WIN_A_BASE : Fld := ⟨112, 0, 20, .ro, .const 0x0⟩
def RTE_WIN_A_SHIFT : Fld := ⟨113, 24, 5, .ro, .const 0x0⟩
def RTE_WIN_A_V : Fld := ⟨114, 31, 1, .ro, .const 0⟩

/-! RTE.WIN_B (spec/06). -/

def RTE_WIN_B_LIMIT : Fld := ⟨115, 0, 20, .ro, .const 0x0⟩

/-! RTE.WIN_C (spec/06). -/

def RTE_WIN_C_TBASE : Fld := ⟨116, 0, 17, .ro, .const 0x0⟩

/-! RTE.LDOWN (spec/06). -/

def RTE_LDOWN_EXCL : Fld := ⟨117, 0, 32, .ro, .const 0xFFFFFFFF⟩

/-! RTE.PEERMM (spec/06). -/

def RTE_PEERMM_MM : Fld := ⟨118, 0, 32, .ro, .const 0x0⟩

/-! RTE.TACC (spec/06). -/

def RTE_TACC_TABLE : Fld := ⟨119, 0, 4, .rw, .const 0x0⟩
def RTE_TACC_INDEX : Fld := ⟨120, 8, 17, .rw, .const 0x0⟩
def RTE_TACC_BANK : Fld := ⟨121, 25, 1, .rw, .const 0⟩

/-! RTE.TDATA0 (spec/06). -/

def RTE_TDATA0_DATA : Fld := ⟨122, 0, 32, .ro, .const 0x0⟩

/-! RTE.TDATA1 (spec/06). -/

def RTE_TDATA1_DATA : Fld := ⟨123, 0, 32, .ro, .const 0x0⟩

/-! RTE.ERR (spec/06). -/

def RTE_ERR_NO_ROUTE_SEEN : Fld := ⟨124, 0, 1, .rw1c, .const 0⟩
def RTE_ERR_NO_PATH_SEEN : Fld := ⟨125, 1, 1, .rw1c, .const 0⟩
def RTE_ERR_ROUTE_CHECK_SEEN : Fld := ⟨126, 2, 1, .rw1c, .const 0⟩
def RTE_ERR_PEER_MISMATCH_SEEN : Fld := ⟨127, 3, 1, .rw1c, .const 0⟩
def RTE_ERR_NOTICE_EPOCH : Fld := ⟨128, 4, 1, .rw1c, .const 0⟩
def RTE_ERR_NOTICE_UNKNOWN : Fld := ⟨129, 5, 1, .rw1c, .const 0⟩
def RTE_ERR_SWITCH_ABANDON : Fld := ⟨130, 6, 1, .rw1c, .const 0⟩
def RTE_ERR_LOCK_DISCARD : Fld := ⟨131, 7, 1, .rw1c, .const 0⟩

/-! RTE.LOADCHK (spec/06). -/

def RTE_LOADCHK_CHECK : Fld := ⟨132, 0, 4, .ro, .const 0x0⟩
def RTE_LOADCHK_INDEX : Fld := ⟨133, 4, 17, .ro, .const 0x0⟩
def RTE_LOADCHK_TABLE : Fld := ⟨134, 21, 3, .ro, .const 0⟩

/-! SCH.QCFG (spec/07). -/

def SCH_QCFG_WEIGHT : Fld := ⟨135, 0, 8, .rwl, .const 0x10⟩
def SCH_QCFG_OVH : Fld := ⟨136, 8, 12, .rwl, .const 0x0⟩
def SCH_QCFG_QEN : Fld := ⟨137, 20, 1, .rwl, .qen⟩

/-! SCH.QSHAPE (spec/07). -/

def SCH_QSHAPE_RATE : Fld := ⟨138, 0, 16, .rwl, .const 0xFFFF⟩
def SCH_QSHAPE_BURST : Fld := ⟨139, 16, 16, .rwl, .const 0x44⟩

/-! SCH.QCONG (spec/07). -/

def SCH_QCONG_DEPTH_TH : Fld := ⟨140, 0, 16, .rwl, .const 0x1000⟩
def SCH_QCONG_DELAY_TH : Fld := ⟨141, 16, 16, .rwl, .const 0x64⟩

/-! SCH.QSTAT (spec/07). -/

def SCH_QSTAT_DEPTH : Fld := ⟨142, 0, 16, .ro, .const 0x0⟩
def SCH_QSTAT_HEAD_AGE : Fld := ⟨143, 16, 15, .ro, .const 0x0⟩
def SCH_QSTAT_CONG : Fld := ⟨144, 31, 1, .ro, .const 0⟩

/-! SCH.QTAG (spec/07). -/

def SCH_QTAG_FTAG : Fld := ⟨145, 0, 32, .ro, .const 0x0⟩

/-! SCH.GCFG (spec/07). -/

def SCH_GCFG_QTIME : Fld := ⟨146, 0, 16, .rwl, .const 0x32⟩
def SCH_GCFG_SAMPLE : Fld := ⟨147, 16, 10, .rwl, .const 0x64⟩

/-! SCH.TENANT (spec/07). -/

def SCH_TENANT_ISO : Fld := ⟨148, 0, 2, .fuse, .fused⟩

/-! SCH.ERR (spec/07). -/

def SCH_ERR_ISO_SEEN : Fld := ⟨149, 0, 1, .rw1c, .const 0⟩
def SCH_ERR_POLICE_SEEN : Fld := ⟨150, 1, 1, .rw1c, .const 0⟩
def SCH_ERR_QRELAY_DROP : Fld := ⟨151, 2, 1, .rw1c, .const 0⟩
def SCH_ERR_QUENCH_TENANT : Fld := ⟨152, 3, 1, .rw1c, .const 0⟩
def SCH_ERR_LOCK_DISCARD : Fld := ⟨153, 4, 1, .rw1c, .const 0⟩

/-! SCH.TACC (spec/07). -/

def SCH_TACC_TABLE : Fld := ⟨154, 0, 1, .rw, .const 0⟩
def SCH_TACC_INDEX : Fld := ⟨155, 8, 12, .rw, .const 0x0⟩

/-! SCH.TDATA0 (spec/07). -/

def SCH_TDATA0_DATA : Fld := ⟨156, 0, 32, .ro, .const 0x0⟩

/-! SCH.TDATA1 (spec/07). -/

def SCH_TDATA1_DATA : Fld := ⟨157, 0, 32, .ro, .const 0x0⟩

/-! HUB.FMTCAP_ARR (spec/08). -/

def HUB_FMTCAP_ARR_ARR : Fld := ⟨158, 0, 32, .ro, .const 0x11F1E⟩

/-! HUB.FMTCAP_RED (spec/08). -/

def HUB_FMTCAP_RED_RED : Fld := ⟨159, 0, 32, .ro, .const 0x31F1F⟩

/-! HUB.FMTCAP_VEC (spec/08). -/

def HUB_FMTCAP_VEC_VEC : Fld := ⟨160, 0, 32, .ro, .const 0x31F1F⟩

/-! RED.GCFG (spec/09). -/

def RED_GCFG_ARRIVE_TO : Fld := ⟨161, 0, 16, .rwl, .const 0xC8⟩
def RED_GCFG_STUB_MIN : Fld := ⟨162, 16, 10, .rwl, .const 0xA⟩

/-! RED.SCRATCH (spec/09). -/

def RED_SCRATCH_SIZE : Fld := ⟨163, 0, 7, .rwl, .const 0x0⟩

/-! RED.ERR (spec/09). -/

def RED_ERR_CONFLICT_SEEN : Fld := ⟨164, 0, 1, .rw1c, .const 0⟩
def RED_ERR_STALE_SEEN : Fld := ⟨165, 1, 1, .rw1c, .const 0⟩
def RED_ERR_UNKNOWN_SEEN : Fld := ⟨166, 2, 1, .rw1c, .const 0⟩
def RED_ERR_SHAPE_SEEN : Fld := ⟨167, 3, 1, .rw1c, .const 0⟩
def RED_ERR_ABORT_SEEN : Fld := ⟨168, 4, 1, .rw1c, .const 0⟩
def RED_ERR_ACC_ECC_SEEN : Fld := ⟨169, 5, 1, .rw1c, .const 0⟩
def RED_ERR_LOCK_DISCARD : Fld := ⟨170, 6, 1, .rw1c, .const 0⟩

/-! RED.CACC (spec/09). -/

def RED_CACC_CTX : Fld := ⟨171, 0, 16, .rw, .const 0x0⟩
def RED_CACC_WORD : Fld := ⟨172, 16, 7, .rw, .const 0x0⟩

/-! RED.CDATA (spec/09). -/

def RED_CDATA_DATA : Fld := ⟨173, 0, 32, .ro, .const 0x0⟩

/-! RED.ESTAT (spec/09). -/

def RED_ESTAT_UNITS_FREE : Fld := ⟨174, 0, 11, .ro, .const 0x400⟩
def RED_ESTAT_CTX_USED : Fld := ⟨175, 11, 11, .ro, .const 0x0⟩

/-! COL.TACC (spec/10). -/

def COL_TACC_TABLE : Fld := ⟨176, 0, 3, .rw, .const 0⟩
def COL_TACC_WORD : Fld := ⟨177, 3, 4, .rw, .const 0x0⟩
def COL_TACC_INDEX : Fld := ⟨178, 8, 15, .rw, .const 0x0⟩

/-! COL.TDATA (spec/10). -/

def COL_TDATA_DATA : Fld := ⟨179, 0, 32, .ro, .const 0x0⟩

/-! COL.TSTAT (spec/10). -/

def COL_TSTAT_TRIG_FREE : Fld := ⟨180, 0, 16, .ro, .const 0x8000⟩
def COL_TSTAT_SLOT_FREE : Fld := ⟨181, 16, 13, .ro, .const 0x1000⟩

/-! COL.ERR (spec/10). -/

def COL_ERR_REGION_SEEN : Fld := ⟨182, 0, 1, .rw1c, .const 0⟩
def COL_ERR_TRIG_INVALID_SEEN : Fld := ⟨183, 1, 1, .rw1c, .const 0⟩
def COL_ERR_OP_FAIL_SEEN : Fld := ⟨184, 2, 1, .rw1c, .const 0⟩
def COL_ERR_DISPATCH_SEEN : Fld := ⟨185, 3, 1, .rw1c, .const 0⟩
def COL_ERR_GATE_TO_SEEN : Fld := ⟨186, 4, 1, .rw1c, .const 0⟩
def COL_ERR_COUNT_SAT : Fld := ⟨187, 5, 1, .rw1c, .const 0⟩
def COL_ERR_LOCK_DISCARD : Fld := ⟨188, 6, 1, .rw1c, .const 0⟩

/-! TILE.STAT (spec/11). -/

def TILE_STAT_STATE : Fld := ⟨189, 0, 3, .ro, .const 0⟩
def TILE_STAT_EXC_ACTIVE : Fld := ⟨190, 3, 1, .ro, .const 0⟩
def TILE_STAT_LQ_DEPTH : Fld := ⟨191, 4, 3, .ro, .const 0⟩
def TILE_STAT_KEPT_ACC : Fld := ⟨192, 7, 1, .ro, .const 0⟩
def TILE_STAT_BURGEE : Fld := ⟨193, 8, 9, .ro, .const 0x0⟩

/-! TILE.PC (spec/11). -/

def TILE_PC_PC : Fld := ⟨194, 0, 24, .ro, .const 0x0⟩

/-! TILE.EXC0 (spec/11). -/

def TILE_EXC0_CAUSE : Fld := ⟨195, 0, 8, .ro, .const 0x0⟩
def TILE_EXC0_EINFO : Fld := ⟨196, 8, 8, .ro, .const 0x0⟩
def TILE_EXC0_VALID : Fld := ⟨197, 31, 1, .ro, .const 0⟩

/-! TILE.EXC1 (spec/11). -/

def TILE_EXC1_EPC : Fld := ⟨198, 0, 24, .ro, .const 0x0⟩

/-! TILE.EXC2 (spec/11). -/

def TILE_EXC2_EADDR : Fld := ⟨199, 0, 32, .ro, .const 0x0⟩

/-! TILE.EXC3 (spec/11). -/

def TILE_EXC3_EADDR : Fld := ⟨200, 0, 32, .ro, .const 0x0⟩

/-! TILE.RSTREC0 (spec/11). -/

def TILE_RSTREC0_DISCARDED : Fld := ⟨201, 0, 8, .ro, .const 0x0⟩
def TILE_RSTREC0_RCAUSE : Fld := ⟨202, 8, 4, .ro, .const 0x0⟩
def TILE_RSTREC0_VALID : Fld := ⟨203, 31, 1, .ro, .const 0⟩

/-! TILE.RSTREC1 (spec/11). -/

def TILE_RSTREC1_FIRST_EA : Fld := ⟨204, 0, 28, .ro, .const 0x0⟩

/-! TILE.ERR (spec/11). -/

def TILE_ERR_UNHANDLED : Fld := ⟨205, 0, 1, .rw1c, .const 0⟩
def TILE_ERR_NESTED : Fld := ⟨206, 1, 1, .rw1c, .const 0⟩
def TILE_ERR_REMOTE_DROP : Fld := ⟨207, 2, 1, .rw1c, .const 0⟩
def TILE_ERR_ECC_UNC : Fld := ⟨208, 3, 1, .rw1c, .const 0⟩
def TILE_ERR_LAUNCH_REFUSED : Fld := ⟨209, 4, 1, .rw1c, .const 0⟩
def TILE_ERR_RESET_SEEN : Fld := ⟨210, 5, 1, .rw1c, .const 0⟩

/-! THD.MCACHE (spec/12). -/

def THD_MCACHE_SIZE : Fld := ⟨211, 0, 8, .rwl, .const 0x0⟩

/-! THD.MDLSTAT (spec/12). -/

def THD_MDLSTAT_CACHED : Fld := ⟨212, 0, 9, .ro, .const 0x0⟩
def THD_MDLSTAT_RESIDENT : Fld := ⟨213, 9, 7, .ro, .const 0x0⟩
def THD_MDLSTAT_TILES_FREE : Fld := ⟨214, 16, 7, .ro, .const 0x0⟩
def THD_MDLSTAT_CACHE_FREE : Fld := ⟨215, 23, 9, .ro, .const 0x0⟩

/-! THD.MDLACC (spec/12). -/

def THD_MDLACC_SLOT : Fld := ⟨216, 0, 8, .rw, .const 0x0⟩
def THD_MDLACC_WORD : Fld := ⟨217, 8, 4, .rw, .const 0x0⟩

/-! THD.MDLDATA (spec/12). -/

def THD_MDLDATA_DATA : Fld := ⟨218, 0, 32, .ro, .const 0x0⟩

/-! THD.SERVEERR (spec/12). -/

def THD_SERVEERR_LOAD_FAIL : Fld := ⟨219, 0, 1, .rw1c, .const 0⟩
def THD_SERVEERR_MODEL_FAILED : Fld := ⟨220, 1, 1, .rw1c, .const 0⟩
def THD_SERVEERR_STALE_SEEN : Fld := ⟨221, 2, 1, .rw1c, .const 0⟩
def THD_SERVEERR_LOST_SEEN : Fld := ⟨222, 3, 1, .rw1c, .const 0⟩
def THD_SERVEERR_LOCK_DISCARD : Fld := ⟨223, 4, 1, .rw1c, .const 0⟩

/-! THD.MCFREE (spec/12). -/

def THD_MCFREE_FREE : Fld := ⟨224, 0, 11, .ro, .const 0x0⟩

/-! SRAM.STAT (spec/13). -/

def SRAM_STAT_CORR : Fld := ⟨225, 0, 16, .ro, .const 0x0⟩
def SRAM_STAT_POISONED : Fld := ⟨226, 16, 8, .ro, .const 0x0⟩
def SRAM_STAT_UNC_SEEN : Fld := ⟨227, 24, 1, .rw1c, .const 0⟩
def SRAM_STAT_PSTORE_DROP : Fld := ⟨228, 25, 1, .rw1c, .const 0⟩
def SRAM_STAT_SPARE_OUT : Fld := ⟨229, 26, 1, .rw1c, .const 0⟩

/-! SRAM.ERRADDR (spec/13). -/

def SRAM_ERRADDR_OFFSET : Fld := ⟨230, 0, 24, .ro, .const 0x0⟩
def SRAM_ERRADDR_PORT : Fld := ⟨231, 24, 1, .ro, .const 0⟩
def SRAM_ERRADDR_SCRUB : Fld := ⟨232, 25, 1, .ro, .const 0⟩
def SRAM_ERRADDR_VALID : Fld := ⟨233, 31, 1, .ro, .const 0⟩

/-! SRAM.SCRUB (spec/13). -/

def SRAM_SCRUB_PERIOD_S : Fld := ⟨234, 0, 8, .rw, .const 0xA⟩

/-! SRAM.MTEST (spec/13). -/

def SRAM_MTEST_MODE : Fld := ⟨235, 0, 2, .ro, .const 0⟩
def SRAM_MTEST_RESULT : Fld := ⟨236, 2, 2, .ro, .const 0⟩
def SRAM_MTEST_SPARED : Fld := ⟨237, 4, 10, .ro, .const 0x0⟩
def SRAM_MTEST_SPARES_USED : Fld := ⟨238, 14, 10, .ro, .const 0x0⟩

/-! HBM.AREA (spec/13). -/

def HBM_AREA_WIN : Fld := ⟨239, 0, 10, .rwl, .const 0x10⟩
def HBM_AREA_BUNT : Fld := ⟨240, 10, 10, .rwl, .const 0x4⟩

/-! HBM.MAPSTAT (spec/13). -/

def HBM_MAPSTAT_GENERAL_MIB : Fld := ⟨241, 0, 16, .ro, .const 0xBAFE⟩

/-! HBM.STAT (spec/13). -/

def HBM_STAT_TEMP : Fld := ⟨242, 0, 8, .ro, .const 0x0⟩
def HBM_STAT_TRAIN_TEMP : Fld := ⟨243, 8, 8, .ro, .const 0x0⟩
def HBM_STAT_TRAINING : Fld := ⟨244, 16, 1, .ro, .const 0⟩
def HBM_STAT_TRAIN_CH : Fld := ⟨245, 17, 5, .ro, .const 0x0⟩
def HBM_STAT_SELF_REFRESH : Fld := ⟨246, 22, 1, .ro, .const 0⟩

/-! HBM.ERR (spec/13). -/

def HBM_ERR_CORR : Fld := ⟨247, 0, 16, .ro, .const 0x0⟩
def HBM_ERR_ODECC : Fld := ⟨248, 16, 8, .ro, .const 0x0⟩
def HBM_ERR_UNC_SEEN : Fld := ⟨249, 24, 1, .rw1c, .const 0⟩
def HBM_ERR_SPARE_FULL : Fld := ⟨250, 25, 1, .rw1c, .const 0⟩
def HBM_ERR_TRAIN_FAIL : Fld := ⟨251, 26, 1, .rw1c, .const 0⟩
def HBM_ERR_LOCK_DISCARD : Fld := ⟨252, 27, 1, .rw1c, .const 0⟩

/-! HBM.ERRADDR_LO (spec/13). -/

def HBM_ERRADDR_LO_ADDR_LO : Fld := ⟨253, 0, 32, .ro, .const 0x0⟩

/-! HBM.ERRADDR_HI (spec/13). -/

def HBM_ERRADDR_HI_ADDR_HI : Fld := ⟨254, 0, 4, .ro, .const 0x0⟩
def HBM_ERRADDR_HI_CHANNEL : Fld := ⟨255, 4, 5, .ro, .const 0x0⟩
def HBM_ERRADDR_HI_VALID : Fld := ⟨256, 31, 1, .ro, .const 0⟩

/-! HBM.SPARE (spec/13). -/

def HBM_SPARE_THRESH : Fld := ⟨257, 0, 8, .rwl, .const 0x8⟩
def HBM_SPARE_SOFT_USED : Fld := ⟨258, 8, 11, .ro, .const 0x0⟩
def HBM_SPARE_HARD_DONE : Fld := ⟨259, 19, 11, .ro, .const 0x0⟩

/-! NVS.STAT (spec/14). -/

def NVS_STAT_STATE : Fld := ⟨260, 0, 3, .ro, .const 0⟩
def NVS_STAT_UNCLEAN : Fld := ⟨261, 3, 1, .ro, .const 0⟩
def NVS_STAT_TARGETS : Fld := ⟨262, 4, 7, .ro, .const 0x0⟩
def NVS_STAT_HOLDUP_DONE : Fld := ⟨263, 11, 1, .ro, .const 0⟩
def NVS_STAT_TORN : Fld := ⟨264, 12, 8, .ro, .const 0x0⟩

/-! NVS.CFG (spec/14). -/

def NVS_CFG_FILL_TO : Fld := ⟨265, 0, 8, .rwl, .const 0xA⟩
def NVS_CFG_RET_DAYS : Fld := ⟨266, 8, 8, .rwl, .const 0x7⟩
def NVS_CFG_RD_LIMIT : Fld := ⟨267, 16, 8, .rwl, .const 0x14⟩
def NVS_CFG_WL_SPREAD : Fld := ⟨268, 24, 8, .rwl, .const 0x14⟩

/-! NVS.CAP (spec/14). -/

def NVS_CAP_USER_GB : Fld := ⟨269, 0, 16, .ro, .const 0x0⟩
def NVS_CAP_FREE_GB : Fld := ⟨270, 16, 16, .ro, .const 0x0⟩

/-! NVS.WEAR (spec/14). -/

def NVS_WEAR_AVG_PCT : Fld := ⟨271, 0, 8, .ro, .const 0x0⟩
def NVS_WEAR_MAX_PCT : Fld := ⟨272, 8, 8, .ro, .const 0x0⟩
def NVS_WEAR_WA_X16 : Fld := ⟨273, 16, 8, .ro, .const 0x10⟩
def NVS_WEAR_RESERVE_PCT : Fld := ⟨274, 24, 8, .ro, .const 0x0⟩

/-! NVS.ERR (spec/14). -/

def NVS_ERR_UNREC_SEEN : Fld := ⟨275, 0, 1, .rw1c, .const 0⟩
def NVS_ERR_PROG_FAIL : Fld := ⟨276, 1, 1, .rw1c, .const 0⟩
def NVS_ERR_ERASE_FAIL : Fld := ⟨277, 2, 1, .rw1c, .const 0⟩
def NVS_ERR_TGT_FAIL : Fld := ⟨278, 3, 1, .rw1c, .const 0⟩
def NVS_ERR_REFUSED_SEEN : Fld := ⟨279, 4, 1, .rw1c, .const 0⟩
def NVS_ERR_RO_ENTERED : Fld := ⟨280, 5, 1, .rw1c, .const 0⟩
def NVS_ERR_WEAR_WARN : Fld := ⟨281, 6, 1, .rw1c, .const 0⟩
def NVS_ERR_LOCK_DISCARD : Fld := ⟨282, 7, 1, .rw1c, .const 0⟩

/-! NVS.TGT (spec/14). -/

def NVS_TGT_PRESENT : Fld := ⟨283, 0, 8, .ro, .const 0x0⟩
def NVS_TGT_UNSUPPORTED : Fld := ⟨284, 8, 8, .ro, .const 0x0⟩
def NVS_TGT_FAILED : Fld := ⟨285, 16, 8, .ro, .const 0x0⟩

/-! THD.STAT (spec/15). -/

def THD_STAT_STATE : Fld := ⟨286, 0, 3, .ro, .const 0⟩
def THD_STAT_RESTARTS : Fld := ⟨287, 3, 8, .ro, .const 0x0⟩
def THD_STAT_EXECUTING : Fld := ⟨288, 11, 7, .ro, .const 0x0⟩
def THD_STAT_JOURNAL : Fld := ⟨289, 18, 9, .ro, .const 0x0⟩

/-! THD.CMDCAP (spec/15). -/

def THD_CMDCAP_CVER_MAX : Fld := ⟨290, 0, 4, .ro, .const 0x1⟩
def THD_CMDCAP_IANA : Fld := ⟨291, 8, 24, .ro, .fused⟩

/-! MBX.CTL (spec/15). -/

def MBX_CTL_LOCK : Fld := ⟨292, 0, 1, .rw1s, .const 0⟩
def MBX_CTL_LOCK_DISCARD : Fld := ⟨293, 1, 1, .rw1c, .const 0⟩

/-! MBX.CTAB_A (spec/15). -/

def MBX_CTAB_A_ENTRY_A : Fld := ⟨294, 0, 32, .rwl, .ctabA⟩

/-! MBX.CTAB_B (spec/15). -/

def MBX_CTAB_B_ENTRY_B : Fld := ⟨295, 0, 32, .rwl, .const 0x0⟩

/-! MBX.SEND (spec/15). -/

def MBX_SEND_DATA : Fld := ⟨296, 0, 32, .wo, .const 0x0⟩

/-! MBX.STAGE (spec/15). -/

def MBX_STAGE_DATA : Fld := ⟨297, 0, 32, .rw, .const 0x0⟩

/-! MBX.DOORBELL (spec/15). -/

def MBX_DOORBELL_RING : Fld := ⟨298, 0, 32, .wo, .const 0x0⟩

/-! MBX.STAT (spec/15). -/

def MBX_STAT_INQ : Fld := ⟨299, 0, 5, .ro, .const 0x0⟩
def MBX_STAT_OUTST : Fld := ⟨300, 5, 6, .ro, .const 0x0⟩
def MBX_STAT_CPLQ : Fld := ⟨301, 11, 6, .ro, .const 0x0⟩
def MBX_STAT_FREE : Fld := ⟨302, 17, 1, .ro, .const 1⟩
def MBX_STAT_ORDER_HOLD : Fld := ⟨303, 18, 1, .ro, .const 0⟩
def MBX_STAT_BOUND : Fld := ⟨304, 19, 1, .ro, .const 0⟩
def MBX_STAT_DROPS : Fld := ⟨305, 20, 8, .ro, .const 0x0⟩

/-! MBX.IEN (spec/15). -/

def MBX_IEN_CPL_EN : Fld := ⟨306, 0, 1, .rw, .const 0⟩
def MBX_IEN_EMPTY_ARM : Fld := ⟨307, 1, 1, .rw1s, .const 0⟩

/-! MBX.IVEC (spec/15). -/

def MBX_IVEC_CPL_VEC : Fld := ⟨308, 0, 11, .rw, .const 0x0⟩
def MBX_IVEC_EMPTY_VEC : Fld := ⟨309, 16, 11, .rw, .const 0x0⟩

/-! MBX.CPL_HEAD (spec/15). -/

def MBX_CPL_HEAD_N : Fld := ⟨310, 0, 6, .wo, .const 0x0⟩

/-! MBX.ERR (spec/15). -/

def MBX_ERR_FULL_RETRY : Fld := ⟨311, 0, 1, .rw1c, .const 0⟩
def MBX_ERR_POSTED_DROP : Fld := ⟨312, 1, 1, .rw1c, .const 0⟩
def MBX_ERR_SEND_MALFORMED : Fld := ⟨313, 2, 1, .rw1c, .const 0⟩
def MBX_ERR_UNBOUND : Fld := ⟨314, 3, 1, .rw1c, .const 0⟩
def MBX_ERR_CPL_UNDERRUN : Fld := ⟨315, 4, 1, .rw1c, .const 0⟩
def MBX_ERR_LOST : Fld := ⟨316, 5, 1, .rw1c, .const 0⟩
def MBX_ERR_EVENT_DROP : Fld := ⟨317, 6, 1, .rw1c, .const 0⟩

/-! MBX.CPL (spec/15). -/

def MBX_CPL_DATA : Fld := ⟨318, 0, 32, .ro, .const 0x0⟩

/-! HUB.FTIME_LO (spec/16). -/

def HUB_FTIME_LO_T_LO : Fld := ⟨319, 0, 32, .ro, .const 0x0⟩

/-! HUB.FTIME_HI (spec/16). -/

def HUB_FTIME_HI_T_HI : Fld := ⟨320, 0, 32, .ro, .const 0x0⟩

/-! HUB.FTCFG (spec/16). -/

def HUB_FTCFG_UPPORT : Fld := ⟨321, 0, 9, .rwl, .const 0x0⟩
def HUB_FTCFG_UP_V : Fld := ⟨322, 9, 1, .rwl, .const 0⟩
def HUB_FTCFG_UPPORT2 : Fld := ⟨323, 10, 9, .rwl, .const 0x0⟩
def HUB_FTCFG_UP2_V : Fld := ⟨324, 19, 1, .rwl, .const 0⟩
def HUB_FTCFG_MASTER : Fld := ⟨325, 20, 1, .rwl, .const 0⟩

/-! HUB.FTSTAT (spec/16). -/

def HUB_FTSTAT_STATE : Fld := ⟨326, 0, 2, .ro, .const 0⟩
def HUB_FTSTAT_SRC_ALT : Fld := ⟨327, 2, 1, .ro, .const 0⟩
def HUB_FTSTAT_OFFSET : Fld := ⟨328, 4, 12, .ro, .const 0x0⟩
def HUB_FTSTAT_SLOT_OVERRUN : Fld := ⟨329, 16, 1, .rw1c, .const 0⟩
def HUB_FTSTAT_LATE_REL : Fld := ⟨330, 17, 1, .rw1c, .const 0⟩
def HUB_FTSTAT_CUT_OFF : Fld := ⟨331, 18, 1, .rw1c, .const 0⟩
def HUB_FTSTAT_UNLOCK_SEEN : Fld := ⟨332, 19, 1, .rw1c, .const 0⟩
def HUB_FTSTAT_LOCK_DISCARD : Fld := ⟨333, 20, 1, .rw1c, .const 0⟩

/-! HUB.FTRATE (spec/16). -/

def HUB_FTRATE_RATE : Fld := ⟨334, 0, 32, .ro, .const 0x0⟩

/-! HUB.NPROF (spec/16). -/

def HUB_NPROF_ID : Fld := ⟨335, 0, 16, .fuse, .fused⟩

/-! HUB.STEPACC (spec/16). -/

def HUB_STEPACC_BURGEE : Fld := ⟨336, 0, 9, .rw, .const 0x0⟩

/-! HUB.STEPLO (spec/16). -/

def HUB_STEPLO_STEP_LO : Fld := ⟨337, 0, 32, .ro, .const 0x0⟩

/-! HUB.STEPHI (spec/16). -/

def HUB_STEPHI_STEP_HI : Fld := ⟨338, 0, 32, .ro, .const 0x0⟩

/-! FLT.STAT (spec/17). -/

def FLT_STAT_STATE : Fld := ⟨339, 0, 2, .ro, .const 0⟩
def FLT_STAT_FAULT_SEEN : Fld := ⟨340, 2, 1, .rw1c, .const 0⟩
def FLT_STAT_STRUCK_SEEN : Fld := ⟨341, 3, 1, .rw1c, .const 0⟩
def FLT_STAT_WIN_RECOV : Fld := ⟨342, 8, 8, .ro, .const 0x0⟩
def FLT_STAT_QUIET_LEFT : Fld := ⟨343, 16, 16, .ro, .const 0x0⟩

/-! FLT.CNT0 (spec/17). -/

def FLT_CNT0_EVENTS : Fld := ⟨344, 0, 32, .ro, .const 0x0⟩

/-! FLT.CNT1 (spec/17). -/

def FLT_CNT1_RECOVERIES : Fld := ⟨345, 0, 16, .ro, .const 0x0⟩
def FLT_CNT1_UNREPORTED : Fld := ⟨346, 16, 16, .ro, .const 0x0⟩

/-! FLT.CFG (spec/17). -/

def FLT_CFG_QUIET_MS : Fld := ⟨347, 0, 10, .rwl, .const 0x64⟩
def FLT_CFG_STRUCK_N : Fld := ⟨348, 10, 4, .rwl, .const 0x8⟩
def FLT_CFG_STRUCK_WIN_S : Fld := ⟨349, 14, 10, .rwl, .const 0x3C⟩
def FLT_CFG_ABORT_HOPS : Fld := ⟨350, 24, 8, .rwl, .const 0x10⟩

/-! FLT.WDCFG (spec/17). -/

def FLT_WDCFG_TILE_MS : Fld := ⟨351, 0, 8, .rwl, .const 0xA⟩
def FLT_WDCFG_RED_MS : Fld := ⟨352, 8, 8, .rwl, .const 0xA⟩
def FLT_WDCFG_SEQ_MS : Fld := ⟨353, 16, 8, .rwl, .const 0xA⟩
def FLT_WDCFG_THD_HB_MS : Fld := ⟨354, 24, 8, .rwl, .const 0xA⟩

/-! FLT.HQSTAT (spec/17). -/

def FLT_HQSTAT_ENTRIES : Fld := ⟨355, 0, 7, .ro, .const 0x0⟩
def FLT_HQSTAT_NEWEST : Fld := ⟨356, 16, 16, .ro, .const 0x0⟩

/-! FLT.HQLOST (spec/17). -/

def FLT_HQLOST_LOST : Fld := ⟨357, 0, 32, .ro, .const 0x0⟩

/-! FLT.HQACC (spec/17). -/

def FLT_HQACC_POS : Fld := ⟨358, 0, 6, .rw, .const 0x0⟩
def FLT_HQACC_WORD : Fld := ⟨359, 6, 3, .rw, .const 0⟩

/-! FLT.HQDATA (spec/17). -/

def FLT_HQDATA_DATA : Fld := ⟨360, 0, 32, .ro, .const 0x0⟩

/-! FLT.ERR (spec/17). -/

def FLT_ERR_LOCK_DISCARD : Fld := ⟨361, 0, 1, .rw1c, .const 0⟩
def FLT_ERR_ABORT_TENANT : Fld := ⟨362, 1, 1, .rw1c, .const 0⟩
def FLT_ERR_RRST_SEEN : Fld := ⟨363, 2, 1, .rw1c, .const 0⟩
def FLT_ERR_FAIL_DROP : Fld := ⟨364, 3, 1, .rw1c, .const 0⟩

/-! RST.STAT (spec/17). -/

def RST_STAT_ACTIVE : Fld := ⟨365, 0, 1, .ro, .const 0⟩
def RST_STAT_LEVEL : Fld := ⟨366, 1, 3, .ro, .const 0⟩
def RST_STAT_LAST_ESC : Fld := ⟨367, 4, 1, .ro, .const 0⟩
def RST_STAT_ESCALATIONS : Fld := ⟨368, 12, 8, .ro, .const 0x0⟩

/-! RST.LAST (spec/17). -/

def RST_LAST_DURATION : Fld := ⟨369, 0, 32, .ro, .const 0x0⟩

/-! RST.CAUSE (spec/17). -/

def RST_CAUSE_CAUSE : Fld := ⟨370, 0, 4, .ro, .const 0x0⟩
def RST_CAUSE_FORCED : Fld := ⟨371, 4, 1, .ro, .const 0⟩

/-! HUB.BOOT (spec/18). -/

def HUB_BOOT_PHASE : Fld := ⟨372, 0, 4, .ro, .const 0x0⟩
def HUB_BOOT_MODE : Fld := ⟨373, 4, 2, .ro, .const 0⟩
def HUB_BOOT_FAIL_PHASE : Fld := ⟨374, 6, 4, .ro, .const 0x0⟩
def HUB_BOOT_DEGRADED : Fld := ⟨375, 10, 1, .ro, .const 0⟩
def HUB_BOOT_CFG_DONE : Fld := ⟨376, 11, 1, .ro, .const 0⟩
def HUB_BOOT_PCT : Fld := ⟨377, 16, 8, .ro, .const 0x0⟩

/-! HUB.BOOTCFG (spec/18). -/

def HUB_BOOTCFG_FORCE_COLD : Fld := ⟨378, 0, 1, .rw, .const 0⟩
def HUB_BOOTCFG_QS_LEFT : Fld := ⟨379, 4, 4, .ro, .const 0x0⟩
def HUB_BOOTCFG_QS_SLICE : Fld := ⟨380, 8, 3, .ro, .const 0⟩

/-! HUB.TMAP (spec/18). -/

def HUB_TMAP_SITE : Fld := ⟨381, 0, 32, .fuse, .fused⟩

/-! HUB.TMAPEFF (spec/18). -/

def HUB_TMAPEFF_SITE : Fld := ⟨382, 0, 32, .ro, .asFused R.HUB_TMAP_SITE.id⟩

/-! HUB.YIELD (spec/18). -/

def HUB_YIELD_TILES_OK : Fld := ⟨383, 0, 7, .ro, .const 0x0⟩
def HUB_YIELD_STACKS_FAILED : Fld := ⟨384, 7, 4, .ro, .const 0x0⟩

/-! HUB.ENGDIS_LO (spec/18). -/

def HUB_ENGDIS_LO_DIS : Fld := ⟨385, 0, 32, .ro, .const 0x0⟩

/-! HUB.ENGDIS_HI (spec/18). -/

def HUB_ENGDIS_HI_DIS : Fld := ⟨386, 0, 32, .ro, .const 0x0⟩

/-! HUB.LOCK (spec/18). -/

def HUB_LOCK_LOCKED : Fld := ⟨387, 0, 20, .ro, .const 0x0⟩

/-! HUB.CFGSTAT (spec/18). -/

def HUB_CFGSTAT_LAST_STATUS : Fld := ⟨388, 0, 16, .ro, .const 0x0⟩
def HUB_CFGSTAT_SECTION : Fld := ⟨389, 16, 4, .ro, .const 0x0⟩
def HUB_CFGSTAT_COMMITS : Fld := ⟨390, 20, 12, .ro, .const 0x0⟩

/-! OE.LMAP (spec/18). -/

def OE_LMAP_SLICE : Fld := ⟨391, 0, 6, .fuse, .fused⟩
def OE_LMAP_OVR : Fld := ⟨392, 6, 6, .fuse, .const 0x3F⟩
def OE_LMAP_EFF : Fld := ⟨393, 12, 6, .ro, .asFused R.OE_LMAP_SLICE.id⟩

/-! OE.LCTL (spec/18). -/

def OE_LCTL_RETRAIN : Fld := ⟨394, 0, 1, .wo, .const 0⟩

/-! HBM.CTL (spec/18). -/

def HBM_CTL_RETRAIN : Fld := ⟨395, 0, 1, .wo, .const 0⟩

/-! TEL.CSEL (spec/19). -/

def TEL_CSEL_ID : Fld := ⟨396, 0, 32, .rw, .const 0x0⟩

/-! TEL.CVAL_LO (spec/19). -/

def TEL_CVAL_LO_V_LO : Fld := ⟨397, 0, 32, .ro, .const 0x0⟩

/-! TEL.CVAL_HI (spec/19). -/

def TEL_CVAL_HI_V_HI : Fld := ⟨398, 0, 32, .ro, .const 0x0⟩

/-! TEL.CSTAMP_LO (spec/19). -/

def TEL_CSTAMP_LO_S_LO : Fld := ⟨399, 0, 32, .ro, .const 0x0⟩

/-! TEL.CSTAMP_HI (spec/19). -/

def TEL_CSTAMP_HI_S_HI : Fld := ⟨400, 0, 32, .ro, .const 0x0⟩

/-! TEL.CSTAT (spec/19). -/

def TEL_CSTAT_LIFE : Fld := ⟨401, 0, 16, .ro, .const 0x0⟩
def TEL_CSTAT_RSTAT : Fld := ⟨402, 16, 2, .ro, .const 0⟩

/-! TEL.TAGCFG (spec/19). -/

def TEL_TAGCFG_PKT_LOG2 : Fld := ⟨403, 0, 5, .rw, .const 0x0⟩
def TEL_TAGCFG_INS_LOG2 : Fld := ⟨404, 5, 5, .rw, .const 0x0⟩
def TEL_TAGCFG_TRACE_LOG2 : Fld := ⟨405, 10, 5, .rw, .const 0xC⟩

/-! TEL.PERMIT (spec/19). -/

def TEL_PERMIT_BLOCKS : Fld := ⟨406, 0, 21, .rw, .const 0x0⟩

/-! TEL.ERR (spec/19). -/

def TEL_ERR_TRACE_DROP : Fld := ⟨407, 0, 1, .rw1c, .const 0⟩
def TEL_ERR_BUNT_DROP : Fld := ⟨408, 1, 1, .rw1c, .const 0⟩
def TEL_ERR_MIRROR_DROP : Fld := ⟨409, 2, 1, .rw1c, .const 0⟩
def TEL_ERR_DENIED_SEEN : Fld := ⟨410, 3, 1, .rw1c, .const 0⟩
def TEL_ERR_ECC_DISCARD : Fld := ⟨411, 4, 1, .rw1c, .const 0⟩

/-! SEC.STAT (spec/20). -/

def SEC_STAT_OWNER_SET : Fld := ⟨412, 0, 1, .ro, .const 0⟩
def SEC_STAT_DEBUG_OPEN : Fld := ⟨413, 1, 1, .ro, .const 0⟩
def SEC_STAT_SLOT : Fld := ⟨414, 2, 1, .ro, .const 0⟩
def SEC_STAT_STAGING : Fld := ⟨415, 3, 1, .ro, .const 0⟩
def SEC_STAT_FW_ARB : Fld := ⟨416, 4, 7, .ro, .const 0x0⟩
def SEC_STAT_KEYS_ARB : Fld := ⟨417, 11, 7, .ro, .const 0x0⟩
def SEC_STAT_SVN : Fld := ⟨418, 18, 8, .ro, .const 0x0⟩

/-! SEC.FUSE (spec/20). -/

def SEC_FUSE_USED : Fld := ⟨419, 0, 16, .ro, .const 0x0⟩
def SEC_FUSE_PENDING : Fld := ⟨420, 16, 4, .ro, .const 0x0⟩

/-! SEC.ADMCFG (spec/20). -/

def SEC_ADMCFG_POLICY : Fld := ⟨421, 0, 2, .rwl, .const 1⟩

/-! SEC.OPENADM (spec/20). -/

def SEC_OPENADM_OPEN : Fld := ⟨422, 0, 32, .rwl, .const 0x0⟩

/-! SEC.CRYPT (spec/20). -/

def SEC_CRYPT_REQ : Fld := ⟨423, 0, 32, .rwl, .const 0x0⟩

/-! SEC.PACC (spec/20). -/

def SEC_PACC_PORT : Fld := ⟨424, 0, 9, .rw, .const 0x0⟩
def SEC_PACC_WORD : Fld := ⟨425, 9, 4, .rw, .const 0x0⟩

/-! SEC.PDATA (spec/20). -/

def SEC_PDATA_DATA : Fld := ⟨426, 0, 32, .ro, .const 0x0⟩

/-! SEC.ERR (spec/20). -/

def SEC_ERR_ATTEST_FAIL : Fld := ⟨427, 0, 1, .rw1c, .const 0⟩
def SEC_ERR_TAG_FAIL : Fld := ⟨428, 1, 1, .rw1c, .const 0⟩
def SEC_ERR_OWNER_FAIL : Fld := ⟨429, 2, 1, .rw1c, .const 0⟩
def SEC_ERR_LOCK_DISCARD : Fld := ⟨430, 3, 1, .rw1c, .const 0⟩

/-! PWR.RAILMON (spec/21). -/

def PWR_RAILMON_VIN_OK : Fld := ⟨431, 0, 4, .ro, .const 0x0⟩
def PWR_RAILMON_VOE_D_OK : Fld := ⟨432, 4, 4, .ro, .const 0x0⟩
def PWR_RAILMON_VOE_A_OK : Fld := ⟨433, 8, 4, .ro, .const 0x0⟩
def PWR_RAILMON_HBM_OK : Fld := ⟨434, 12, 4, .ro, .const 0x0⟩
def PWR_RAILMON_VHUB_OK : Fld := ⟨435, 16, 1, .ro, .const 0⟩
def PWR_RAILMON_VAON_OK : Fld := ⟨436, 17, 1, .ro, .const 0⟩
def PWR_RAILMON_VNAND_Q_OK : Fld := ⟨437, 18, 1, .ro, .const 0⟩
def PWR_RAILMON_VPCIE_OK : Fld := ⟨438, 19, 1, .ro, .const 0⟩
def PWR_RAILMON_VIO18_OK : Fld := ⟨439, 20, 1, .ro, .const 0⟩
def PWR_RAILMON_PFAIL_PIN : Fld := ⟨440, 21, 1, .ro, .const 0⟩
def PWR_RAILMON_PFAIL_SEEN : Fld := ⟨441, 22, 1, .rw1c, .const 0⟩
def PWR_RAILMON_UV_SEEN : Fld := ⟨442, 23, 1, .rw1c, .const 0⟩

/-! PWR.CLKSTAT (spec/21). -/

def PWR_CLKSTAT_PHY_OK : Fld := ⟨443, 0, 1, .ro, .const 0⟩
def PWR_CLKSTAT_FT_OK : Fld := ⟨444, 1, 1, .ro, .const 0⟩
def PWR_CLKSTAT_PCIE_OK : Fld := ⟨445, 2, 1, .ro, .const 0⟩
def PWR_CLKSTAT_FT_SRC : Fld := ⟨446, 3, 2, .ro, .const 0⟩
def PWR_CLKSTAT_PHY_LOST_SEEN : Fld := ⟨447, 5, 1, .rw1c, .const 0⟩
def PWR_CLKSTAT_FT_LOST_SEEN : Fld := ⟨448, 6, 1, .rw1c, .const 0⟩
def PWR_CLKSTAT_PCIE_LOST_SEEN : Fld := ⟨449, 7, 1, .rw1c, .const 0⟩

/-! PWR.LMOD (spec/21). -/

def PWR_LMOD_EN : Fld := ⟨450, 0, 16, .ro, .const 0x0⟩
def PWR_LMOD_FLT : Fld := ⟨451, 16, 16, .ro, .const 0x0⟩

/-! HUB.ID (spec/22). -/

def HUB_ID_PART : Fld := ⟨452, 0, 16, .ro, .const 0x5120⟩
def HUB_ID_STEPPING : Fld := ⟨453, 16, 8, .ro, .fused⟩
def HUB_ID_GRADE : Fld := ⟨454, 24, 1, .ro, .fused⟩

/-! HUB.FWVER (spec/22). -/

def HUB_FWVER_VERSION : Fld := ⟨455, 0, 32, .ro, .const 0⟩

/-! HUB.SHORTID (spec/22). -/

def HUB_SHORTID_ID : Fld := ⟨456, 0, 32, .ro, .const 0⟩

/-! HUB.DEVFEID (spec/22). -/

def HUB_DEVFEID_FEID : Fld := ⟨457, 0, 20, .rwl, .const 0x0⟩

/-! HUB.CAP0 (spec/22). -/

def HUB_CAP0_TILES : Fld := ⟨458, 0, 7, .ro, .const 0x40⟩
def HUB_CAP0_RED_ENG : Fld := ⟨459, 7, 8, .ro, .const 0x40⟩
def HUB_CAP0_QUADS : Fld := ⟨460, 15, 4, .ro, .const 0x4⟩
def HUB_CAP0_OES : Fld := ⟨461, 19, 6, .ro, .const 0x20⟩

/-! HUB.CAP1 (spec/22). -/

def HUB_CAP1_ISAVER : Fld := ⟨462, 0, 16, .ro, .const 0x1⟩
def HUB_CAP1_IMG_VER : Fld := ⟨463, 16, 8, .ro, .const 0x1⟩
def HUB_CAP1_CVER_MAX : Fld := ⟨464, 24, 4, .ro, .const 0x1⟩
def HUB_CAP1_CFG_FMT : Fld := ⟨465, 28, 4, .ro, .const 0x1⟩

/-! HUB.AFPVER (spec/22). -/

def HUB_AFPVER_MAXV : Fld := ⟨466, 0, 8, .ro, .const 0x30⟩
def HUB_AFPVER_MINV : Fld := ⟨467, 8, 8, .ro, .const 0x21⟩

/-! HUB.ISTAT (spec/22). -/

def HUB_ISTAT_PWR : Fld := ⟨468, 0, 1, .ro, .const 0⟩
def HUB_ISTAT_FLT : Fld := ⟨469, 1, 1, .ro, .const 0⟩

/-! HUB.IEN (spec/22). -/

def HUB_IEN_PWR_EN : Fld := ⟨470, 0, 1, .rw, .const 0⟩
def HUB_IEN_FLT_EN : Fld := ⟨471, 1, 1, .rw, .const 0⟩

/-! HUB.IVEC (spec/22). -/

def HUB_IVEC_VEC : Fld := ⟨472, 0, 11, .rw, .const 0x0⟩

/-! HUB.ERR (spec/22). -/

def HUB_ERR_UNMAPPED : Fld := ⟨473, 0, 1, .rw1c, .const 0⟩
def HUB_ERR_PARTIAL_WR : Fld := ⟨474, 1, 1, .rw1c, .const 0⟩
def HUB_ERR_OFF_ACCESS : Fld := ⟨475, 2, 1, .rw1c, .const 0⟩

/-! HUB.ERRADDR (spec/22). -/

def HUB_ERRADDR_OFFSET : Fld := ⟨476, 0, 26, .ro, .const 0x0⟩
def HUB_ERRADDR_VALID : Fld := ⟨477, 31, 1, .ro, .const 0⟩

/-! HUB.LOCKDISC (spec/22). -/

def HUB_LOCKDISC_DISC : Fld := ⟨478, 0, 20, .rw1c, .const 0x0⟩

/-! PWR.IEN (spec/22). -/

def PWR_IEN_WARN : Fld := ⟨479, 0, 1, .rw, .const 0⟩
def PWR_IEN_THROTTLE : Fld := ⟨480, 1, 1, .rw, .const 0⟩
def PWR_IEN_BELOW_LINE : Fld := ⟨481, 2, 1, .rw, .const 0⟩
def PWR_IEN_PV_FAULT : Fld := ⟨482, 3, 1, .rw, .const 0⟩
def PWR_IEN_UV : Fld := ⟨483, 4, 1, .rw, .const 0⟩
def PWR_IEN_CLK_LOST : Fld := ⟨484, 5, 1, .rw, .const 0⟩

/-! PWR.IPEND (spec/22). -/

def PWR_IPEND_WARN : Fld := ⟨485, 0, 1, .rw1c, .const 0⟩
def PWR_IPEND_THROTTLE : Fld := ⟨486, 1, 1, .rw1c, .const 0⟩
def PWR_IPEND_BELOW_LINE : Fld := ⟨487, 2, 1, .rw1c, .const 0⟩
def PWR_IPEND_PV_FAULT : Fld := ⟨488, 3, 1, .rw1c, .const 0⟩
def PWR_IPEND_UV : Fld := ⟨489, 4, 1, .rw1c, .const 0⟩
def PWR_IPEND_CLK_LOST : Fld := ⟨490, 5, 1, .rw1c, .const 0⟩

/-! PWR.ERR (spec/22). -/

def PWR_ERR_LOCK_DISCARD : Fld := ⟨491, 0, 1, .rw1c, .const 0⟩

/-! PWR.PVSTAT (spec/22). -/

def PWR_PVSTAT_VOUT : Fld := ⟨492, 0, 8, .ro, .const 0x0⟩
def PWR_PVSTAT_IOUT : Fld := ⟨493, 8, 10, .ro, .const 0x0⟩
def PWR_PVSTAT_TEMP : Fld := ⟨494, 18, 8, .ro, .const 0x0⟩
def PWR_PVSTAT_FAULT : Fld := ⟨495, 26, 1, .ro, .const 0⟩
def PWR_PVSTAT_FAULT_SEEN : Fld := ⟨496, 27, 1, .rw1c, .const 0⟩

/-! SCH.AQCFG (spec/07). -/

def SCH_AQCFG_WEIGHT : Fld := ⟨497, 0, 8, .rwl, .const 0x10⟩
def SCH_AQCFG_OVH : Fld := ⟨498, 8, 12, .rwl, .const 0x0⟩
def SCH_AQCFG_QEN : Fld := ⟨499, 20, 1, .rwl, .qen⟩

/-! SCH.AQSHAPE (spec/07). -/

def SCH_AQSHAPE_RATE : Fld := ⟨500, 0, 16, .rwl, .const 0xFFFF⟩
def SCH_AQSHAPE_BURST : Fld := ⟨501, 16, 16, .rwl, .const 0x44⟩

/-! SCH.AQCONG (spec/07). -/

def SCH_AQCONG_DEPTH_TH : Fld := ⟨502, 0, 16, .rwl, .const 0x1000⟩
def SCH_AQCONG_DELAY_TH : Fld := ⟨503, 16, 16, .rwl, .const 0x64⟩

/-! SCH.AQSTAT (spec/07). -/

def SCH_AQSTAT_DEPTH : Fld := ⟨504, 0, 16, .ro, .const 0x0⟩
def SCH_AQSTAT_HEAD_AGE : Fld := ⟨505, 16, 15, .ro, .const 0x0⟩
def SCH_AQSTAT_CONG : Fld := ⟨506, 31, 1, .ro, .const 0⟩

/-! SCH.AQTAG (spec/07). -/

def SCH_AQTAG_FTAG : Fld := ⟨507, 0, 32, .ro, .const 0x0⟩

end R

/-- Registers, part 1 of the table. -/
def regRows1 : List RegRow := [
  ⟨"PWR.QMARGIN", .pwr, 0x0, 4, 4,
    [R.PWR_QMARGIN_MARGIN, R.PWR_QMARGIN_MARGIN_MIN, R.PWR_QMARGIN_BELOW_LINE, R.PWR_QMARGIN_BELOW_SEEN]⟩,
  ⟨"PWR.THERM", .pwr, 0x10, 0, 1,
    [R.PWR_THERM_TJ_HOT, R.PWR_THERM_HOT_SENSOR, R.PWR_THERM_WARN, R.PWR_THERM_THROTTLE, R.PWR_THERM_WARN_SEEN, R.PWR_THERM_THROTTLE_SEEN, R.PWR_THERM_GATE_PCT]⟩,
  ⟨"PWR.PLIMIT", .pwr, 0x14, 0, 1,
    [R.PWR_PLIMIT_LIMIT_W]⟩,
  ⟨"PWR.PDSTAT", .pwr, 0x20, 4, 4,
    [R.PWR_PDSTAT_ON]⟩,
  ⟨"PWR.OPSTAT", .pwr, 0x30, 0, 1,
    [R.PWR_OPSTAT_OP_CUR, R.PWR_OPSTAT_OP_TGT, R.PWR_OPSTAT_RAMPING, R.PWR_OPSTAT_LANES_STBY, R.PWR_OPSTAT_DET, R.PWR_OPSTAT_RED_CLASS, R.PWR_OPSTAT_VCORE]⟩,
  ⟨"OE.PFORM", .oe, 0x0, 0, 1,
    [R.OE_PFORM_X4, R.OE_PFORM_X8, R.OE_PFORM_HALF]⟩,
  ⟨"OE.LASER", .oe, 0x8, 0, 1,
    [R.OE_LASER_IN0_PWR, R.OE_LASER_IN1_PWR, R.OE_LASER_IN0_LOW, R.OE_LASER_IN1_LOW, R.OE_LASER_LOW_SEEN, R.OE_LASER_CLASS, R.OE_LASER_CLASS_NEXT]⟩,
  ⟨"OE.MONCFG", .oe, 0xC, 0, 1,
    [R.OE_MONCFG_RETRAIN_CSYM, R.OE_MONCFG_MON_EN]⟩,
  ⟨"OE.LSTAT", .oe, 0x1000, 64, 32,
    [R.OE_LSTAT_STATE, R.OE_LSTAT_PEER_STBY, R.OE_LSTAT_POL_INV, R.OE_LSTAT_PEER_POS, R.OE_LSTAT_IN_MASK, R.OE_LSTAT_GAIN, R.OE_LSTAT_LAST_LOW, R.OE_LSTAT_WAKE_SEEN, R.OE_LSTAT_RETRAINS, R.OE_LSTAT_FAIL_CAUSE, R.OE_LSTAT_STEP]⟩,
  ⟨"OE.LMARG", .oe, 0x1004, 64, 32,
    [R.OE_LMARG_MARGIN, R.OE_LMARG_PEER_MARGIN, R.OE_LMARG_CSYM]⟩,
  ⟨"LNK.STAT", .lnk, 0x0, 0, 1,
    [R.LNK_STAT_STATE, R.LNK_STAT_ADMITTED, R.LNK_STAT_VER, R.LNK_STAT_LANES, R.LNK_STAT_RTT]⟩,
  ⟨"LNK.PEER", .lnk, 0x4, 0, 1,
    [R.LNK_PEER_MAX_OUT, R.LNK_PEER_CAPS, R.LNK_PEER_AGREED]⟩,
  ⟨"LNK.CFG", .lnk, 0x8, 0, 1,
    [R.LNK_CFG_REPLAY_TO, R.LNK_CFG_ILV_BURST, R.LNK_CFG_ILV_RATIO, R.LNK_CFG_MAX_TMO]⟩,
  ⟨"LNK.HSTAT", .lnk, 0xC, 0, 1,
    [R.LNK_HSTAT_PAUSED_BY_PEER, R.LNK_HSTAT_PAUSED_AT_PEER, R.LNK_HSTAT_INDEF]⟩,
  ⟨"LNK.ERR", .lnk, 0x10, 0, 1,
    [R.LNK_ERR_FAILED_FLIT, R.LNK_ERR_DUP, R.LNK_ERR_GAP, R.LNK_ERR_OOW, R.LNK_ERR_FRAMING, R.LNK_ERR_NOVER, R.LNK_ERR_RRST_AUTH, R.LNK_ERR_ILV_EXCESS, R.LNK_ERR_STOMP_RX, R.LNK_ERR_HALY_STATE, R.LNK_ERR_RSVD_FKIND, R.LNK_ERR_CREDIT_OVR]⟩,
  ⟨"LNK.CRED", .lnk, 0x20, 4, 8,
    [R.LNK_CRED_AVAIL, R.LNK_CRED_GRANTED]⟩,
  ⟨"XBAR.AGE", .xbar, 0x40, 4, 8,
    [R.XBAR_AGE_AGE_MS]⟩,
  ⟨"XBAR.MESHSTAT", .xbar, 0x80, 4, 3,
    [R.XBAR_MESHSTAT_PEER, R.XBAR_MESHSTAT_UP, R.XBAR_MESHSTAT_RELAY, R.XBAR_MESHSTAT_SUBLINKS, R.XBAR_MESHSTAT_DOWN_SEEN]⟩,
  ⟨"BPM.PCFG", .bpm, 0x0, 0, 1,
    [R.BPM_PCFG_EN, R.BPM_PCFG_ALPHA]⟩,
  ⟨"BPM.PPOOL", .bpm, 0x10, 4, 4,
    [R.BPM_PPOOL_CELLS]⟩]

/-- Registers, part 2 of the table. -/
def regRows2 : List RegRow := [
  ⟨"BPM.PFREE", .bpm, 0x20, 4, 4,
    [R.BPM_PFREE_FREE]⟩,
  ⟨"BPM.PSTAT", .bpm, 0x30, 0, 1,
    [R.BPM_PSTAT_EMPTY, R.BPM_PSTAT_EMPTY_SEEN, R.BPM_PSTAT_RETIRED, R.BPM_PSTAT_ECC_UNC_SEEN, R.BPM_PSTAT_QUARANTINE, R.BPM_PSTAT_LOCK_DISCARD]⟩,
  ⟨"BPM.PROFCHK", .bpm, 0x34, 0, 1,
    [R.BPM_PROFCHK_CHECK, R.BPM_PROFCHK_PORT, R.BPM_PROFCHK_VC, R.BPM_PROFCHK_SHORT]⟩,
  ⟨"BPM.RING", .ring, 0x0, 4, 8,
    [R.BPM_RING_SIZE, R.BPM_RING_EN, R.BPM_RING_OCC]⟩,
  ⟨"RTE.STAT", .rte, 0x0, 0, 1,
    [R.RTE_STAT_ACT_EPOCH, R.RTE_STAT_SHD_EPOCH, R.RTE_STAT_SHD_VALID, R.RTE_STAT_ARMED, R.RTE_STAT_SW_MODE, R.RTE_STAT_DRAINING, R.RTE_STAT_TORUS]⟩,
  ⟨"RTE.HCFG", .rte, 0x4, 0, 1,
    [R.RTE_HCFG_SALT, R.RTE_HCFG_TORUS, R.RTE_HCFG_RESTORE_HOLD, R.RTE_HCFG_DRAIN_TO]⟩,
  ⟨"RTE.SWTIME_LO", .rte, 0x8, 0, 1,
    [R.RTE_SWTIME_LO_T]⟩,
  ⟨"RTE.SWTIME_HI", .rte, 0xC, 0, 1,
    [R.RTE_SWTIME_HI_T]⟩,
  -- before RTE.WIN_A to RTE.WIN_C, whose windows 16 to 23 share these addresses (DESIGN CHOICE, log entry 116)
  ⟨"RTE.LDOWN", .rte, 0x200, 4, 16,
    [R.RTE_LDOWN_EXCL]⟩,
  ⟨"RTE.PEERMM", .rte, 0x240, 4, 16,
    [R.RTE_PEERMM_MM]⟩,
  ⟨"RTE.WIN_A", .rte, 0x100, 16, 32,
    [R.RTE_WIN_A_BASE, R.RTE_WIN_A_SHIFT, R.RTE_WIN_A_V]⟩,
  ⟨"RTE.WIN_B", .rte, 0x104, 16, 32,
    [R.RTE_WIN_B_LIMIT]⟩,
  ⟨"RTE.WIN_C", .rte, 0x108, 16, 32,
    [R.RTE_WIN_C_TBASE]⟩,
  ⟨"RTE.TACC", .rte, 0x300, 0, 1,
    [R.RTE_TACC_TABLE, R.RTE_TACC_INDEX, R.RTE_TACC_BANK]⟩,
  ⟨"RTE.TDATA0", .rte, 0x304, 0, 1,
    [R.RTE_TDATA0_DATA]⟩,
  ⟨"RTE.TDATA1", .rte, 0x308, 0, 1,
    [R.RTE_TDATA1_DATA]⟩,
  ⟨"RTE.ERR", .rte, 0x310, 0, 1,
    [R.RTE_ERR_NO_ROUTE_SEEN, R.RTE_ERR_NO_PATH_SEEN, R.RTE_ERR_ROUTE_CHECK_SEEN, R.RTE_ERR_PEER_MISMATCH_SEEN, R.RTE_ERR_NOTICE_EPOCH, R.RTE_ERR_NOTICE_UNKNOWN, R.RTE_ERR_SWITCH_ABANDON, R.RTE_ERR_LOCK_DISCARD]⟩,
  ⟨"RTE.LOADCHK", .rte, 0x314, 0, 1,
    [R.RTE_LOADCHK_CHECK, R.RTE_LOADCHK_INDEX, R.RTE_LOADCHK_TABLE]⟩,
  ⟨"SCH.QCFG", .schq, 0x0, 0, 1,
    [R.SCH_QCFG_WEIGHT, R.SCH_QCFG_OVH, R.SCH_QCFG_QEN]⟩,
  ⟨"SCH.QSHAPE", .schq, 0x4, 0, 1,
    [R.SCH_QSHAPE_RATE, R.SCH_QSHAPE_BURST]⟩]

/-- Registers, part 3 of the table. -/
def regRows3 : List RegRow := [
  ⟨"SCH.QCONG", .schq, 0x8, 0, 1,
    [R.SCH_QCONG_DEPTH_TH, R.SCH_QCONG_DELAY_TH]⟩,
  ⟨"SCH.QSTAT", .schq, 0xC, 0, 1,
    [R.SCH_QSTAT_DEPTH, R.SCH_QSTAT_HEAD_AGE, R.SCH_QSTAT_CONG]⟩,
  ⟨"SCH.QTAG", .schq, 0x10, 0, 1,
    [R.SCH_QTAG_FTAG]⟩,
  ⟨"SCH.GCFG", .schg, 0x0, 0, 1,
    [R.SCH_GCFG_QTIME, R.SCH_GCFG_SAMPLE]⟩,
  ⟨"SCH.TENANT", .schg, 0x4, 0, 1,
    [R.SCH_TENANT_ISO]⟩,
  ⟨"SCH.ERR", .schg, 0x8, 0, 1,
    [R.SCH_ERR_ISO_SEEN, R.SCH_ERR_POLICE_SEEN, R.SCH_ERR_QRELAY_DROP, R.SCH_ERR_QUENCH_TENANT, R.SCH_ERR_LOCK_DISCARD]⟩,
  ⟨"SCH.TACC", .schg, 0x10, 0, 1,
    [R.SCH_TACC_TABLE, R.SCH_TACC_INDEX]⟩,
  ⟨"SCH.TDATA0", .schg, 0x14, 0, 1,
    [R.SCH_TDATA0_DATA]⟩,
  ⟨"SCH.TDATA1", .schg, 0x18, 0, 1,
    [R.SCH_TDATA1_DATA]⟩,
  ⟨"HUB.FMTCAP_ARR", .hub, 0x40, 0, 1,
    [R.HUB_FMTCAP_ARR_ARR]⟩,
  ⟨"HUB.FMTCAP_RED", .hub, 0x44, 0, 1,
    [R.HUB_FMTCAP_RED_RED]⟩,
  ⟨"HUB.FMTCAP_VEC", .hub, 0x48, 0, 1,
    [R.HUB_FMTCAP_VEC_VEC]⟩,
  ⟨"RED.GCFG", .red, 0x0, 0, 1,
    [R.RED_GCFG_ARRIVE_TO, R.RED_GCFG_STUB_MIN]⟩,
  ⟨"RED.SCRATCH", .red, 0x4, 0, 1,
    [R.RED_SCRATCH_SIZE]⟩,
  ⟨"RED.ERR", .red, 0x10, 0, 1,
    [R.RED_ERR_CONFLICT_SEEN, R.RED_ERR_STALE_SEEN, R.RED_ERR_UNKNOWN_SEEN, R.RED_ERR_SHAPE_SEEN, R.RED_ERR_ABORT_SEEN, R.RED_ERR_ACC_ECC_SEEN, R.RED_ERR_LOCK_DISCARD]⟩,
  ⟨"RED.CACC", .red, 0x20, 0, 1,
    [R.RED_CACC_CTX, R.RED_CACC_WORD]⟩,
  ⟨"RED.CDATA", .red, 0x24, 0, 1,
    [R.RED_CDATA_DATA]⟩,
  ⟨"RED.ESTAT", .red, 0x40, 4, 16,
    [R.RED_ESTAT_UNITS_FREE, R.RED_ESTAT_CTX_USED]⟩,
  ⟨"COL.TACC", .col, 0x0, 0, 1,
    [R.COL_TACC_TABLE, R.COL_TACC_WORD, R.COL_TACC_INDEX]⟩,
  ⟨"COL.TDATA", .col, 0x4, 0, 1,
    [R.COL_TDATA_DATA]⟩]

/-- Registers, part 4 of the table. -/
def regRows4 : List RegRow := [
  ⟨"COL.TSTAT", .col, 0x8, 0, 1,
    [R.COL_TSTAT_TRIG_FREE, R.COL_TSTAT_SLOT_FREE]⟩,
  ⟨"COL.ERR", .col, 0xC, 0, 1,
    [R.COL_ERR_REGION_SEEN, R.COL_ERR_TRIG_INVALID_SEEN, R.COL_ERR_OP_FAIL_SEEN, R.COL_ERR_DISPATCH_SEEN, R.COL_ERR_GATE_TO_SEEN, R.COL_ERR_COUNT_SAT, R.COL_ERR_LOCK_DISCARD]⟩,
  ⟨"TILE.STAT", .tile, 0x0, 0, 1,
    [R.TILE_STAT_STATE, R.TILE_STAT_EXC_ACTIVE, R.TILE_STAT_LQ_DEPTH, R.TILE_STAT_KEPT_ACC, R.TILE_STAT_BURGEE]⟩,
  ⟨"TILE.PC", .tile, 0x4, 0, 1,
    [R.TILE_PC_PC]⟩,
  ⟨"TILE.EXC0", .tile, 0x8, 0, 1,
    [R.TILE_EXC0_CAUSE, R.TILE_EXC0_EINFO, R.TILE_EXC0_VALID]⟩,
  ⟨"TILE.EXC1", .tile, 0xC, 0, 1,
    [R.TILE_EXC1_EPC]⟩,
  ⟨"TILE.EXC2", .tile, 0x10, 0, 1,
    [R.TILE_EXC2_EADDR]⟩,
  ⟨"TILE.EXC3", .tile, 0x14, 0, 1,
    [R.TILE_EXC3_EADDR]⟩,
  ⟨"TILE.RSTREC0", .tile, 0x18, 0, 1,
    [R.TILE_RSTREC0_DISCARDED, R.TILE_RSTREC0_RCAUSE, R.TILE_RSTREC0_VALID]⟩,
  ⟨"TILE.RSTREC1", .tile, 0x1C, 0, 1,
    [R.TILE_RSTREC1_FIRST_EA]⟩,
  ⟨"TILE.ERR", .tile, 0x20, 0, 1,
    [R.TILE_ERR_UNHANDLED, R.TILE_ERR_NESTED, R.TILE_ERR_REMOTE_DROP, R.TILE_ERR_ECC_UNC, R.TILE_ERR_LAUNCH_REFUSED, R.TILE_ERR_RESET_SEEN]⟩,
  ⟨"THD.MCACHE", .thd, 0x1000, 0, 1,
    [R.THD_MCACHE_SIZE]⟩,
  ⟨"THD.MDLSTAT", .thd, 0x1004, 0, 1,
    [R.THD_MDLSTAT_CACHED, R.THD_MDLSTAT_RESIDENT, R.THD_MDLSTAT_TILES_FREE, R.THD_MDLSTAT_CACHE_FREE]⟩,
  ⟨"THD.MDLACC", .thd, 0x1008, 0, 1,
    [R.THD_MDLACC_SLOT, R.THD_MDLACC_WORD]⟩,
  ⟨"THD.MDLDATA", .thd, 0x100C, 0, 1,
    [R.THD_MDLDATA_DATA]⟩,
  ⟨"THD.SERVEERR", .thd, 0x1010, 0, 1,
    [R.THD_SERVEERR_LOAD_FAIL, R.THD_SERVEERR_MODEL_FAILED, R.THD_SERVEERR_STALE_SEEN, R.THD_SERVEERR_LOST_SEEN, R.THD_SERVEERR_LOCK_DISCARD]⟩,
  ⟨"THD.MCFREE", .thd, 0x1014, 0, 1,
    [R.THD_MCFREE_FREE]⟩,
  ⟨"SRAM.STAT", .sram, 0x0, 0, 1,
    [R.SRAM_STAT_CORR, R.SRAM_STAT_POISONED, R.SRAM_STAT_UNC_SEEN, R.SRAM_STAT_PSTORE_DROP, R.SRAM_STAT_SPARE_OUT]⟩,
  ⟨"SRAM.ERRADDR", .sram, 0x4, 0, 1,
    [R.SRAM_ERRADDR_OFFSET, R.SRAM_ERRADDR_PORT, R.SRAM_ERRADDR_SCRUB, R.SRAM_ERRADDR_VALID]⟩,
  ⟨"SRAM.SCRUB", .sram, 0x8, 0, 1,
    [R.SRAM_SCRUB_PERIOD_S]⟩]

/-- Registers, part 5 of the table. -/
def regRows5 : List RegRow := [
  ⟨"SRAM.MTEST", .sram, 0xC, 0, 1,
    [R.SRAM_MTEST_MODE, R.SRAM_MTEST_RESULT, R.SRAM_MTEST_SPARED, R.SRAM_MTEST_SPARES_USED]⟩,
  ⟨"HBM.AREA", .hbm, 0x0, 0, 1,
    [R.HBM_AREA_WIN, R.HBM_AREA_BUNT]⟩,
  ⟨"HBM.MAPSTAT", .hbm, 0x4, 0, 1,
    [R.HBM_MAPSTAT_GENERAL_MIB]⟩,
  ⟨"HBM.STAT", .hbm, 0x8, 0, 1,
    [R.HBM_STAT_TEMP, R.HBM_STAT_TRAIN_TEMP, R.HBM_STAT_TRAINING, R.HBM_STAT_TRAIN_CH, R.HBM_STAT_SELF_REFRESH]⟩,
  ⟨"HBM.ERR", .hbm, 0xC, 0, 1,
    [R.HBM_ERR_CORR, R.HBM_ERR_ODECC, R.HBM_ERR_UNC_SEEN, R.HBM_ERR_SPARE_FULL, R.HBM_ERR_TRAIN_FAIL, R.HBM_ERR_LOCK_DISCARD]⟩,
  ⟨"HBM.ERRADDR_LO", .hbm, 0x10, 0, 1,
    [R.HBM_ERRADDR_LO_ADDR_LO]⟩,
  ⟨"HBM.ERRADDR_HI", .hbm, 0x14, 0, 1,
    [R.HBM_ERRADDR_HI_ADDR_HI, R.HBM_ERRADDR_HI_CHANNEL, R.HBM_ERRADDR_HI_VALID]⟩,
  ⟨"HBM.SPARE", .hbm, 0x18, 0, 1,
    [R.HBM_SPARE_THRESH, R.HBM_SPARE_SOFT_USED, R.HBM_SPARE_HARD_DONE]⟩,
  ⟨"NVS.STAT", .nvs, 0x0, 0, 1,
    [R.NVS_STAT_STATE, R.NVS_STAT_UNCLEAN, R.NVS_STAT_TARGETS, R.NVS_STAT_HOLDUP_DONE, R.NVS_STAT_TORN]⟩,
  ⟨"NVS.CFG", .nvs, 0x4, 0, 1,
    [R.NVS_CFG_FILL_TO, R.NVS_CFG_RET_DAYS, R.NVS_CFG_RD_LIMIT, R.NVS_CFG_WL_SPREAD]⟩,
  ⟨"NVS.CAP", .nvs, 0x8, 0, 1,
    [R.NVS_CAP_USER_GB, R.NVS_CAP_FREE_GB]⟩,
  ⟨"NVS.WEAR", .nvs, 0xC, 0, 1,
    [R.NVS_WEAR_AVG_PCT, R.NVS_WEAR_MAX_PCT, R.NVS_WEAR_WA_X16, R.NVS_WEAR_RESERVE_PCT]⟩,
  ⟨"NVS.ERR", .nvs, 0x10, 0, 1,
    [R.NVS_ERR_UNREC_SEEN, R.NVS_ERR_PROG_FAIL, R.NVS_ERR_ERASE_FAIL, R.NVS_ERR_TGT_FAIL, R.NVS_ERR_REFUSED_SEEN, R.NVS_ERR_RO_ENTERED, R.NVS_ERR_WEAR_WARN, R.NVS_ERR_LOCK_DISCARD]⟩,
  ⟨"NVS.TGT", .nvs, 0x40, 4, 8,
    [R.NVS_TGT_PRESENT, R.NVS_TGT_UNSUPPORTED, R.NVS_TGT_FAILED]⟩,
  ⟨"THD.STAT", .thd, 0x0, 0, 1,
    [R.THD_STAT_STATE, R.THD_STAT_RESTARTS, R.THD_STAT_EXECUTING, R.THD_STAT_JOURNAL]⟩,
  ⟨"THD.CMDCAP", .thd, 0x4, 0, 1,
    [R.THD_CMDCAP_CVER_MAX, R.THD_CMDCAP_IANA]⟩,
  ⟨"MBX.CTL", .mbx, 0x0, 0, 1,
    [R.MBX_CTL_LOCK, R.MBX_CTL_LOCK_DISCARD]⟩,
  ⟨"MBX.CTAB_A", .mbx, 0x400, 8, 128,
    [R.MBX_CTAB_A_ENTRY_A]⟩,
  ⟨"MBX.CTAB_B", .mbx, 0x404, 8, 128,
    [R.MBX_CTAB_B_ENTRY_B]⟩,
  ⟨"MBX.SEND", .mbxw, 0x0, 4, 32,
    [R.MBX_SEND_DATA]⟩]

/-- Registers, part 6 of the table. -/
def regRows6 : List RegRow := [
  ⟨"MBX.STAGE", .mbxw, 0x80, 4, 32,
    [R.MBX_STAGE_DATA]⟩,
  ⟨"MBX.DOORBELL", .mbxw, 0x100, 0, 1,
    [R.MBX_DOORBELL_RING]⟩,
  ⟨"MBX.STAT", .mbxw, 0x104, 0, 1,
    [R.MBX_STAT_INQ, R.MBX_STAT_OUTST, R.MBX_STAT_CPLQ, R.MBX_STAT_FREE, R.MBX_STAT_ORDER_HOLD, R.MBX_STAT_BOUND, R.MBX_STAT_DROPS]⟩,
  ⟨"MBX.IEN", .mbxw, 0x108, 0, 1,
    [R.MBX_IEN_CPL_EN, R.MBX_IEN_EMPTY_ARM]⟩,
  ⟨"MBX.IVEC", .mbxw, 0x10C, 0, 1,
    [R.MBX_IVEC_CPL_VEC, R.MBX_IVEC_EMPTY_VEC]⟩,
  ⟨"MBX.CPL_HEAD", .mbxw, 0x110, 0, 1,
    [R.MBX_CPL_HEAD_N]⟩,
  ⟨"MBX.ERR", .mbxw, 0x114, 0, 1,
    [R.MBX_ERR_FULL_RETRY, R.MBX_ERR_POSTED_DROP, R.MBX_ERR_SEND_MALFORMED, R.MBX_ERR_UNBOUND, R.MBX_ERR_CPL_UNDERRUN, R.MBX_ERR_LOST, R.MBX_ERR_EVENT_DROP]⟩,
  ⟨"MBX.CPL", .mbxw, 0x200, 4, 16,
    [R.MBX_CPL_DATA]⟩,
  ⟨"HUB.FTIME_LO", .hub, 0x100, 0, 1,
    [R.HUB_FTIME_LO_T_LO]⟩,
  ⟨"HUB.FTIME_HI", .hub, 0x104, 0, 1,
    [R.HUB_FTIME_HI_T_HI]⟩,
  ⟨"HUB.FTCFG", .hub, 0x108, 0, 1,
    [R.HUB_FTCFG_UPPORT, R.HUB_FTCFG_UP_V, R.HUB_FTCFG_UPPORT2, R.HUB_FTCFG_UP2_V, R.HUB_FTCFG_MASTER]⟩,
  ⟨"HUB.FTSTAT", .hub, 0x10C, 0, 1,
    [R.HUB_FTSTAT_STATE, R.HUB_FTSTAT_SRC_ALT, R.HUB_FTSTAT_OFFSET, R.HUB_FTSTAT_SLOT_OVERRUN, R.HUB_FTSTAT_LATE_REL, R.HUB_FTSTAT_CUT_OFF, R.HUB_FTSTAT_UNLOCK_SEEN, R.HUB_FTSTAT_LOCK_DISCARD]⟩,
  ⟨"HUB.FTRATE", .hub, 0x110, 0, 1,
    [R.HUB_FTRATE_RATE]⟩,
  ⟨"HUB.NPROF", .hub, 0x114, 0, 1,
    [R.HUB_NPROF_ID]⟩,
  ⟨"HUB.STEPACC", .hub, 0x118, 0, 1,
    [R.HUB_STEPACC_BURGEE]⟩,
  ⟨"HUB.STEPLO", .hub, 0x11C, 0, 1,
    [R.HUB_STEPLO_STEP_LO]⟩,
  ⟨"HUB.STEPHI", .hub, 0x120, 0, 1,
    [R.HUB_STEPHI_STEP_HI]⟩,
  ⟨"FLT.STAT", .flt, 0x0, 0, 1,
    [R.FLT_STAT_STATE, R.FLT_STAT_FAULT_SEEN, R.FLT_STAT_STRUCK_SEEN, R.FLT_STAT_WIN_RECOV, R.FLT_STAT_QUIET_LEFT]⟩,
  ⟨"FLT.CNT0", .flt, 0x4, 0, 1,
    [R.FLT_CNT0_EVENTS]⟩,
  ⟨"FLT.CNT1", .flt, 0x8, 0, 1,
    [R.FLT_CNT1_RECOVERIES, R.FLT_CNT1_UNREPORTED]⟩]

/-- Registers, part 7 of the table. -/
def regRows7 : List RegRow := [
  ⟨"FLT.CFG", .flt, 0xC, 0, 1,
    [R.FLT_CFG_QUIET_MS, R.FLT_CFG_STRUCK_N, R.FLT_CFG_STRUCK_WIN_S, R.FLT_CFG_ABORT_HOPS]⟩,
  ⟨"FLT.WDCFG", .flt, 0x10, 0, 1,
    [R.FLT_WDCFG_TILE_MS, R.FLT_WDCFG_RED_MS, R.FLT_WDCFG_SEQ_MS, R.FLT_WDCFG_THD_HB_MS]⟩,
  ⟨"FLT.HQSTAT", .flt, 0x14, 0, 1,
    [R.FLT_HQSTAT_ENTRIES, R.FLT_HQSTAT_NEWEST]⟩,
  ⟨"FLT.HQLOST", .flt, 0x18, 0, 1,
    [R.FLT_HQLOST_LOST]⟩,
  ⟨"FLT.HQACC", .flt, 0x1C, 0, 1,
    [R.FLT_HQACC_POS, R.FLT_HQACC_WORD]⟩,
  ⟨"FLT.HQDATA", .flt, 0x20, 0, 1,
    [R.FLT_HQDATA_DATA]⟩,
  ⟨"FLT.ERR", .flt, 0x24, 0, 1,
    [R.FLT_ERR_LOCK_DISCARD, R.FLT_ERR_ABORT_TENANT, R.FLT_ERR_RRST_SEEN, R.FLT_ERR_FAIL_DROP]⟩,
  ⟨"RST.STAT", .rst, 0x0, 0, 1,
    [R.RST_STAT_ACTIVE, R.RST_STAT_LEVEL, R.RST_STAT_LAST_ESC, R.RST_STAT_ESCALATIONS]⟩,
  ⟨"RST.LAST", .rst, 0x4, 0, 1,
    [R.RST_LAST_DURATION]⟩,
  ⟨"RST.CAUSE", .rst, 0x8, 0, 1,
    [R.RST_CAUSE_CAUSE, R.RST_CAUSE_FORCED]⟩,
  ⟨"HUB.BOOT", .hub, 0x200, 0, 1,
    [R.HUB_BOOT_PHASE, R.HUB_BOOT_MODE, R.HUB_BOOT_FAIL_PHASE, R.HUB_BOOT_DEGRADED, R.HUB_BOOT_CFG_DONE, R.HUB_BOOT_PCT]⟩,
  ⟨"HUB.BOOTCFG", .hub, 0x204, 0, 1,
    [R.HUB_BOOTCFG_FORCE_COLD, R.HUB_BOOTCFG_QS_LEFT, R.HUB_BOOTCFG_QS_SLICE]⟩,
  ⟨"HUB.TMAP", .hub, 0x210, 4, 8,
    [R.HUB_TMAP_SITE]⟩,
  ⟨"HUB.TMAPEFF", .hub, 0x230, 4, 8,
    [R.HUB_TMAPEFF_SITE]⟩,
  ⟨"HUB.YIELD", .hub, 0x250, 0, 1,
    [R.HUB_YIELD_TILES_OK, R.HUB_YIELD_STACKS_FAILED]⟩,
  ⟨"HUB.ENGDIS_LO", .hub, 0x254, 0, 1,
    [R.HUB_ENGDIS_LO_DIS]⟩,
  ⟨"HUB.ENGDIS_HI", .hub, 0x258, 0, 1,
    [R.HUB_ENGDIS_HI_DIS]⟩,
  ⟨"HUB.LOCK", .hub, 0x25C, 0, 1,
    [R.HUB_LOCK_LOCKED]⟩,
  ⟨"HUB.CFGSTAT", .hub, 0x260, 0, 1,
    [R.HUB_CFGSTAT_LAST_STATUS, R.HUB_CFGSTAT_SECTION, R.HUB_CFGSTAT_COMMITS]⟩,
  ⟨"OE.LMAP", .oe, 0x1008, 64, 32,
    [R.OE_LMAP_SLICE, R.OE_LMAP_OVR, R.OE_LMAP_EFF]⟩]

/-- Registers, part 8 of the table. -/
def regRows8 : List RegRow := [
  ⟨"OE.LCTL", .oe, 0x100C, 64, 32,
    [R.OE_LCTL_RETRAIN]⟩,
  ⟨"HBM.CTL", .hbm, 0x1C, 0, 1,
    [R.HBM_CTL_RETRAIN]⟩,
  ⟨"TEL.CSEL", .tel, 0x0, 0, 1,
    [R.TEL_CSEL_ID]⟩,
  ⟨"TEL.CVAL_LO", .tel, 0x4, 0, 1,
    [R.TEL_CVAL_LO_V_LO]⟩,
  ⟨"TEL.CVAL_HI", .tel, 0x8, 0, 1,
    [R.TEL_CVAL_HI_V_HI]⟩,
  ⟨"TEL.CSTAMP_LO", .tel, 0xC, 0, 1,
    [R.TEL_CSTAMP_LO_S_LO]⟩,
  ⟨"TEL.CSTAMP_HI", .tel, 0x10, 0, 1,
    [R.TEL_CSTAMP_HI_S_HI]⟩,
  ⟨"TEL.CSTAT", .tel, 0x14, 0, 1,
    [R.TEL_CSTAT_LIFE, R.TEL_CSTAT_RSTAT]⟩,
  ⟨"TEL.TAGCFG", .tel, 0x20, 0, 1,
    [R.TEL_TAGCFG_PKT_LOG2, R.TEL_TAGCFG_INS_LOG2, R.TEL_TAGCFG_TRACE_LOG2]⟩,
  ⟨"TEL.PERMIT", .tel, 0x24, 0, 1,
    [R.TEL_PERMIT_BLOCKS]⟩,
  ⟨"TEL.ERR", .tel, 0x28, 0, 1,
    [R.TEL_ERR_TRACE_DROP, R.TEL_ERR_BUNT_DROP, R.TEL_ERR_MIRROR_DROP, R.TEL_ERR_DENIED_SEEN, R.TEL_ERR_ECC_DISCARD]⟩,
  ⟨"SEC.STAT", .sec, 0x0, 0, 1,
    [R.SEC_STAT_OWNER_SET, R.SEC_STAT_DEBUG_OPEN, R.SEC_STAT_SLOT, R.SEC_STAT_STAGING, R.SEC_STAT_FW_ARB, R.SEC_STAT_KEYS_ARB, R.SEC_STAT_SVN]⟩,
  ⟨"SEC.FUSE", .sec, 0x4, 0, 1,
    [R.SEC_FUSE_USED, R.SEC_FUSE_PENDING]⟩,
  ⟨"SEC.ADMCFG", .sec, 0x8, 0, 1,
    [R.SEC_ADMCFG_POLICY]⟩,
  ⟨"SEC.OPENADM", .sec, 0x40, 4, 16,
    [R.SEC_OPENADM_OPEN]⟩,
  ⟨"SEC.CRYPT", .sec, 0x80, 4, 16,
    [R.SEC_CRYPT_REQ]⟩,
  ⟨"SEC.PACC", .sec, 0x100, 0, 1,
    [R.SEC_PACC_PORT, R.SEC_PACC_WORD]⟩,
  ⟨"SEC.PDATA", .sec, 0x104, 0, 1,
    [R.SEC_PDATA_DATA]⟩,
  ⟨"SEC.ERR", .sec, 0x108, 0, 1,
    [R.SEC_ERR_ATTEST_FAIL, R.SEC_ERR_TAG_FAIL, R.SEC_ERR_OWNER_FAIL, R.SEC_ERR_LOCK_DISCARD]⟩,
  ⟨"PWR.RAILMON", .pwr, 0x60, 0, 1,
    [R.PWR_RAILMON_VIN_OK, R.PWR_RAILMON_VOE_D_OK, R.PWR_RAILMON_VOE_A_OK, R.PWR_RAILMON_HBM_OK, R.PWR_RAILMON_VHUB_OK, R.PWR_RAILMON_VAON_OK, R.PWR_RAILMON_VNAND_Q_OK, R.PWR_RAILMON_VPCIE_OK, R.PWR_RAILMON_VIO18_OK, R.PWR_RAILMON_PFAIL_PIN, R.PWR_RAILMON_PFAIL_SEEN, R.PWR_RAILMON_UV_SEEN]⟩]

/-- Registers, part 9 of the table. -/
def regRows9 : List RegRow := [
  ⟨"PWR.CLKSTAT", .pwr, 0x64, 0, 1,
    [R.PWR_CLKSTAT_PHY_OK, R.PWR_CLKSTAT_FT_OK, R.PWR_CLKSTAT_PCIE_OK, R.PWR_CLKSTAT_FT_SRC, R.PWR_CLKSTAT_PHY_LOST_SEEN, R.PWR_CLKSTAT_FT_LOST_SEEN, R.PWR_CLKSTAT_PCIE_LOST_SEEN]⟩,
  ⟨"PWR.LMOD", .pwr, 0x68, 0, 1,
    [R.PWR_LMOD_EN, R.PWR_LMOD_FLT]⟩,
  ⟨"HUB.ID", .hub, 0x0, 0, 1,
    [R.HUB_ID_PART, R.HUB_ID_STEPPING, R.HUB_ID_GRADE]⟩,
  ⟨"HUB.FWVER", .hub, 0x4, 0, 1,
    [R.HUB_FWVER_VERSION]⟩,
  ⟨"HUB.SHORTID", .hub, 0x8, 0, 1,
    [R.HUB_SHORTID_ID]⟩,
  ⟨"HUB.DEVFEID", .hub, 0xC, 0, 1,
    [R.HUB_DEVFEID_FEID]⟩,
  ⟨"HUB.CAP0", .hub, 0x10, 0, 1,
    [R.HUB_CAP0_TILES, R.HUB_CAP0_RED_ENG, R.HUB_CAP0_QUADS, R.HUB_CAP0_OES]⟩,
  ⟨"HUB.CAP1", .hub, 0x14, 0, 1,
    [R.HUB_CAP1_ISAVER, R.HUB_CAP1_IMG_VER, R.HUB_CAP1_CVER_MAX, R.HUB_CAP1_CFG_FMT]⟩,
  ⟨"HUB.AFPVER", .hub, 0x18, 0, 1,
    [R.HUB_AFPVER_MAXV, R.HUB_AFPVER_MINV]⟩,
  ⟨"HUB.ISTAT", .hub, 0x20, 0, 1,
    [R.HUB_ISTAT_PWR, R.HUB_ISTAT_FLT]⟩,
  ⟨"HUB.IEN", .hub, 0x24, 0, 1,
    [R.HUB_IEN_PWR_EN, R.HUB_IEN_FLT_EN]⟩,
  ⟨"HUB.IVEC", .hub, 0x28, 0, 1,
    [R.HUB_IVEC_VEC]⟩,
  ⟨"HUB.ERR", .hub, 0x2C, 0, 1,
    [R.HUB_ERR_UNMAPPED, R.HUB_ERR_PARTIAL_WR, R.HUB_ERR_OFF_ACCESS]⟩,
  ⟨"HUB.ERRADDR", .hub, 0x30, 0, 1,
    [R.HUB_ERRADDR_OFFSET, R.HUB_ERRADDR_VALID]⟩,
  ⟨"HUB.LOCKDISC", .hub, 0x264, 0, 1,
    [R.HUB_LOCKDISC_DISC]⟩,
  ⟨"PWR.IEN", .pwr, 0x40, 0, 1,
    [R.PWR_IEN_WARN, R.PWR_IEN_THROTTLE, R.PWR_IEN_BELOW_LINE, R.PWR_IEN_PV_FAULT, R.PWR_IEN_UV, R.PWR_IEN_CLK_LOST]⟩,
  ⟨"PWR.IPEND", .pwr, 0x44, 0, 1,
    [R.PWR_IPEND_WARN, R.PWR_IPEND_THROTTLE, R.PWR_IPEND_BELOW_LINE, R.PWR_IPEND_PV_FAULT, R.PWR_IPEND_UV, R.PWR_IPEND_CLK_LOST]⟩,
  ⟨"PWR.ERR", .pwr, 0x48, 0, 1,
    [R.PWR_ERR_LOCK_DISCARD]⟩,
  ⟨"PWR.PVSTAT", .pwr, 0x50, 4, 4,
    [R.PWR_PVSTAT_VOUT, R.PWR_PVSTAT_IOUT, R.PWR_PVSTAT_TEMP, R.PWR_PVSTAT_FAULT, R.PWR_PVSTAT_FAULT_SEEN]⟩,
  ⟨"SCH.AQCFG", .scha, 0x0, 0, 1,
    [R.SCH_AQCFG_WEIGHT, R.SCH_AQCFG_OVH, R.SCH_AQCFG_QEN]⟩]

/-- Registers, part 10 of the table. -/
def regRows10 : List RegRow := [
  ⟨"SCH.AQSHAPE", .scha, 0x4, 0, 1,
    [R.SCH_AQSHAPE_RATE, R.SCH_AQSHAPE_BURST]⟩,
  ⟨"SCH.AQCONG", .scha, 0x8, 0, 1,
    [R.SCH_AQCONG_DEPTH_TH, R.SCH_AQCONG_DELAY_TH]⟩,
  ⟨"SCH.AQSTAT", .scha, 0xC, 0, 1,
    [R.SCH_AQSTAT_DEPTH, R.SCH_AQSTAT_HEAD_AGE, R.SCH_AQSTAT_CONG]⟩,
  ⟨"SCH.AQTAG", .scha, 0x10, 0, 1,
    [R.SCH_AQTAG_FTAG]⟩]

/-- Every register of the device with its place in its block's window (R581 to R583, R593). -/
def regRows : List RegRow :=
  regRows1 ++ regRows2 ++ regRows3 ++ regRows4 ++ regRows5 ++ regRows6 ++ regRows7 ++ regRows8 ++ regRows9 ++ regRows10

end Sys2Proof
end

