-- ==== Sys2Proof/Machine/StateMgmt.lean ====
section
/-! DEFINITION. State of the hub and the always-on domain: mailboxes and the command journal
(spec/15), the fault collector, the history queue and resets (spec/17), power (spec/02,
spec/21). -/

namespace Sys2Proof.Machine

/-- The route by which a command packet came: a PCIe mailbox, an MCTP message (interface, EID,
message tag) or a CMD pennant (arrival port, SRC_FEID, TAG) (R421, R430, R432). -/
inductive Origin
  | pcie
  | mctp (intf eid mtag : Nat)
  | fabric (port src tag : Nat)
  deriving DecidableEq, Repr

/-- A command packet: its words (R412) and its origin. -/
structure CmdPkt where
  words : List Nat
  origin : Origin
  deriving DecidableEq, Repr

/-- How far a journalled command has come (R410, R411). -/
inductive JPhase
  | taken | begun | running | done
  deriving DecidableEq, Repr

/-- A journal entry (R410): its acceptance number, channel, packet, phase and, for a command that
waits for more than one later event, how many of them are still to come and the status it has
gathered; `res` and `detail` hold what its completion will carry.  `buf` holds the bytes of its input buffer once
the host has given them, and `host` says that its output is on the way to the host (R417); `lost` says that its
completion will be discarded (R429). -/
structure JEntry where
  aseq : Nat
  chan : Nat
  pkt : CmdPkt
  phase : JPhase := .taken
  waits : Nat := 0
  status : Nat := 0
  res : List Nat := []
  detail : Nat := 0
  buf : Option (List Nat) := none
  host : Bool := false
  lost : Bool := false
  deriving DecidableEq, Repr

/-- A channel (R418 to R431): its inbound and completion FIFOs, whether OWNER_AUTH has succeeded on
it (R422), a binding waiting to take effect (R420), when Thidan last took from it (R434), the
answers kept for 1 s (R431), the open owner challenge, by the number of its first free value, with its
end, and the digest of the owner key that succeeded (R544, R546). -/
structure Chan where
  inq : List CmdPkt := []
  cplq : List (List Nat) := []
  auth : Bool := false
  rebind : Option (Nat × Nat) := none
  lastTake : Option Nat := none
  recent : List (Nat × List Nat × Nat) := []
  challenge : Option (Nat × Nat) := none
  owner : List Nat := []
  lastPort : Option Nat := none
  deriving DecidableEq, Repr

/-- An entry of the history queue (R473). -/
structure HEntry where
  kind : Nat
  code : Nat
  eseq : Nat
  ftime : Nat
  blk : Nat := 0
  inst : Nat := 0
  d0 : Nat := 0
  d1 : Nat := 0
  d2 : Nat := 0
  count : Nat := 1
  status : Nat := 0
  deriving DecidableEq, Repr

/-- A reset that is running (R484): its level and target, when its steps began, its cause as RST.CAUSE and
TILE.RSTREC0 code it, the journal entries it completes and those of smaller resets it has taken over (R495),
the burgee that the first target ran (R483), the tiles that it holds, whether it escalated, and, at DEVICE
level, whether the flush runs without Thidan (R488) and whether the domains have been cleared. -/
structure RunReset where
  level : Nat
  target : Nat
  start : Nat
  cause : Nat := 0
  jobs : List Nat := []
  escJobs : List Nat := []
  burgee : Nat := 0
  tiles : List Nat := []
  escalated : Bool := false
  forced : Bool := false
  cleared : Bool := false
  deriving DecidableEq, Repr

/-- A packet of an internal block that waits for room in the ring of its attach point (R147): its attach
point, its VC, and its holders where no lookup gives them. -/
structure Waiting where
  pkt : Packet
  ing : Nat
  vc : Nat
  hs : Option (List Holder)
  deriving DecidableEq, Repr

/-- A CFG_COMMIT that waits for its quadrants to drain (R159, R509): its journal entry, its sections, the switch
mode with T, the determinism mode and class it sets (3 unchanged), whether its image is owner-local, the quadrants
to be re-laid and those found empty, whether they have been re-laid, the lanes of reformed ports, and when the
drain began. -/
structure CfgJob where
  aseq : Nat
  sects : List CfgSect
  mode : Nat
  t : Nat
  det : Nat
  cls : Nat
  isLocal : Bool
  quads : List Nat
  drained : List Nat := []
  relaid : Bool := false
  reform : List Nat := []
  start : Nat
  deriving DecidableEq, Repr

/-- Where an OP_SET stands (R32 to R35): none, a ramp between OP0, OP1 and OP2, the drain into OP3, the ramp into
OP3, or the way out of it. -/
inductive OpPhase
  | idle | ramp | drain | down | exit
  deriving DecidableEq, Repr

/-- The power controller (R31 to R53, R570 to R574): the OP_SET that executes, with its phase, LANES flag and the
time it was accepted; the PD_SET that executes with its steps left (domain, on), those queued behind it, and FORCE;
when each quadrant's pennant of R44 was last sent; whether a thermal trip holds; the power of the last window; the two gates of tile issue; when
each LMOD_EN is due to fall; the fault changes of laser modules counted; and since when REFCLK_FT is back. -/
structure PwrSt where
  opJob : Option Nat := none
  phase : OpPhase := .idle
  stby : Bool := false
  opAt : Nat := 0
  pdJob : Option Nat := none
  pdSteps : List (Nat × Bool) := []
  pdForce : Bool := false
  belowSent : Tab Nat Nat := []
  tripped : Bool := false
  watts : Nat := 0
  thermGate : Nat := 0
  powGate : Nat := 0
  lmodOff : Tab Nat Nat := []
  lmodFlts : Tab Nat Nat := []
  deriving DecidableEq, Repr

/-- Bring-up (R500 to R506): whether COLD_RST_N is asserted; when the phase in hand began; the tiles whose memory
test, the stacks whose training and whose test, and the engines (block code and instance) whose known-answer run are
awaited; whether the test record is written; the bring-ups in a row that have ended in FAILED or in a forced reset;
whether a trip holds bring-up until the device is cool; SEQ, QS_LEFT and QS_SLICE of the always-on copy of the test
record and its training settings; whether NAND discovery runs; whether the store failed its known-answer run; whether a
COLD_RST_N is held off by R402 (R580); and the rails in range. -/
structure Boot where
  held : Bool := true
  phaseAt : Nat := 0
  sram : List Nat := []
  train : List Nat := []
  hbm : List Nat := []
  kat : List (Nat × Nat) := []
  recDone : Bool := false
  fails : Nat := 0
  cooling : Bool := false
  seq : Nat := 0
  left : Nat := 0
  slice : Nat := 0
  training : List Nat := [0, 0, 0, 0]
  discover : Bool := false
  nvsBad : Bool := false
  cold : Bool := false
  rails : List Nat := []
  deriving DecidableEq, Repr

/-- The hub and the always-on domain: channels, journal and the next ASEQ; the history queue with its ESEQ; the
quiet timer's end, when FAULT began, and the recoveries remembered (R470); the abort filter (R492); the resets
running; the last heartbeat and kick, the restarts remembered, the restart not yet followed by a heartbeat, whether
Thidan's cores are down (R480), the latch of R481; the packets of internal blocks that wait for room, the commit that waits, the sections last committed from a
fabric and from an owner-local image (R511), the power controller, and since when the always-on copy of the test
record has been newer than the store's (R502), the channels still to be served in Thidan's round (R434), the PCIe functions in D3hot (R555), bring-up, and the words written to the
MSI-X tables, by function and DWORD (R581). -/
structure Mgmt where
  chans : Tab Nat Chan := []
  journal : List JEntry := []
  nextAseq : Nat := 0
  hist : List HEntry := []
  eseq : Nat := 0
  quietAt : Nat := 0
  faultSince : Nat := 0
  recov : List Nat := []
  abortFilter : List ((Nat × Nat × Nat) × Nat) := []
  resets : List RunReset := []
  heartbeat : Nat := 0
  kick : Nat := 0
  restarts : List Nat := []
  restartAt : Option Nat := none
  thdDown : Bool := false
  hwLatch : Bool := false
  outWait : List Waiting := []
  cfgJob : Option CfgJob := none
  cfgFabric : List CfgSect := []
  cfgLocal : List CfgSect := []
  pwr : PwrSt := {}
  recNew : Option Nat := none
  round : List Nat := []
  d3hot : List Nat := []
  boot : Boot := {}
  msix : Tab (Nat × Nat) Nat := []
  deriving DecidableEq, Repr

end Sys2Proof.Machine
end

