-- ==== Sys2Proof/Machine/StateModel.lean ====
section
/-! DEFINITION. State of resident models (spec/12) and of the retention store (spec/14). -/

namespace Sys2Proof.Machine

/-! ### Models (R338 to R360) -/

/-- A running GENERATE (R350, R353 to R355): its tag, MAX_NEW, TOP_K, TEMP, STOP and SEED, the tokens made
so far, the records not yet delivered and the steps since the last delivery, whether CANCEL or CLOSE waits
for the step in hand, and the arrival port of the request. -/
structure Gen where
  tag : Nat
  maxNew : Nat
  topK : Nat
  temp : Nat
  stop : Nat
  seed : Nat
  made : Nat := 0
  recs : List (Nat × Nat) := []
  steps : Nat := 0
  cancel : Bool := false
  closeTag : Option Nat := none
  deriving DecidableEq, Repr

/-- An APPEND that waits for its rows (R356): its tag, the tokens left and when it came, by the model's count. -/
structure AppendReq where
  tag : Nat
  left : List Nat
  seq : Nat := 0
  deriving DecidableEq, Repr

/-- A request answered once the egress has released the last delivery (R354), or once the store is done
(R398). -/
structure LateAns where
  tag : Nat
  op : Nat
  status : Nat
  made : Nat
  pkt : Option Packet
  ing : Nat := 0
  deriving DecidableEq, Repr

/-- A session (R346): its state (0 free, 1 open, 2 parked, 3 being restored), NEXT_POS, owner, delivery fields, last request,
the requests in progress, its state as it was parked, by relative tile, whether that has been
lost (R376), and the SNAPSHOT or RESTORE that the store carries out: its TAG, opcode and object (R398). -/
structure Session where
  state : Nat := 0
  nextPos : Nat := 0
  owner : Nat := 0
  burgee : Nat := 0
  region : Nat := 0
  base : Nat := 0
  trig : Nat := 0
  trigV : Bool := false
  nslot : Nat := 0
  deliver : Nat := 1
  dseq : Nat := 0
  last : Option (Nat × Nat × Nat × Nat) := none
  gen : Option Gen := none
  apps : List AppendReq := []
  late : List LateAns := []
  parked : List (List Nat) := []
  window : Mem := []
  slotNo : Nat := 0
  dead : Bool := false
  storing : Option (Nat × Nat × Nat) := none
  deriving DecidableEq, Repr

/-- A section descriptor of an image (R338): offset in 256 B units, length, SRAM offset and entry. -/
structure Section where
  off : Nat
  len : Nat
  sram : Nat
  entry : Nat
  deriving DecidableEq, Repr

/-- A model table slot (R340, R343): its state, what the image says, the image in the cache, the placement
with its epoch and until when the previous one is served, the sessions, the requests counted, the step counts,
the ready trigger, the command that a load, swap or move completes and the one that fetches, the slot and the mask
that come next and whether sessions are parked for it, the sessions to be resumed, when the load began, and whether
its sections are still to be written. -/
structure Model where
  state : Nat := 0
  id : Nat := 0
  tiles : Nat := 0
  users : Nat := 0
  rows : Nat := 1
  stateB : Nat := 0
  window : Nat := 0
  kvB : Nat := 0
  stepBeats : Nat := 0
  workB : Nat := 0
  bodyB : Nat := 0
  burgee : Nat := 0
  digest : List Nat := []
  sections : List Section := []
  image : Mem := []
  mask : Nat := 0
  nextMask : Nat := 0
  epoch : Nat := 0
  prevTill : Option Nat := none
  sess : Tab Nat Session := []
  arr : Nat := 0
  stepLast : Nat := 0
  stepMax : Nat := 0
  steps : Nat := 0
  ready : Option Nat := none
  job : Option Nat := none
  fetch : Option Nat := none
  incoming : Option Nat := none
  park : Bool := false
  moving : Bool := false
  resume : List Nat := []
  loadAt : Nat := 0
  loading : Bool := false
  deriving DecidableEq, Repr

/-! ### The retention store (R381 to R408) -/

/-- A library object (R388): the table entry, its bytes, the byte ranges written, the units programmed and
the units that are unrecoverable. -/
structure Obj where
  gen : Nat := 0
  state : Nat := 0
  burgee : Nat := 0
  kind : Nat := 0
  size : Nat := 0
  data : Mem := []
  ranges : List (Nat × Nat) := []
  programmed : List Nat := []
  bad : List Nat := []
  damaged : Bool := false
  digestV : Bool := false
  digest : List Nat := []
  sealing : Option Nat := none
  deriving DecidableEq, Repr

/-- Who moves data into or out of the store: a command, an ABSORB action, an absorbed result, a snapshot or
a restore of a session, the digest read of a seal, or a model fetch. -/
inductive StoreSrc
  | cmd (aseq : Nat)
  | act (trig : Nat)
  | result (pid : Nat) (h : Holder)
  | snap (slot session : Nat)
  | restore (slot session : Nat)
  | seal (aseq : Nat)
  | fetch (slot : Nat)
  deriving DecidableEq, Repr

/-- A transfer into or out of an object in progress (R391, R392, R395): who asked, the object by its handle,
the span, and the region and offset at the other end.  A write has moved `moved` bytes, from `data` when
that is not a region; a read still has the units of `left` to read, and gathers `data` when it goes to no
region.  `failed` is a status, `ended` says that the data has been accepted or read. -/
structure StoreJob where
  id : Nat
  src : StoreSrc
  obj : Nat
  off : Nat
  len : Nat
  write : Bool
  moved : Nat := 0
  left : List Nat := []
  target : Option Nat := none
  addr : Nat := 0
  data : Mem := []
  failed : Option Nat := none
  ended : Bool := false
  at_ : Nat := 0
  deriving DecidableEq, Repr

/-- A unit that waits to be programmed, or is being programmed (R392): its object and its number. -/
structure UnitRef where
  obj : Nat
  unit : Nat
  deriving DecidableEq, Repr

/-- A program unit (R392, R401): its number, target, block and units, and the attempts made. -/
structure ProgUnit where
  id : Nat
  target : Nat
  block : Nat
  units : List UnitRef
  metas : List Nat := []
  deriving DecidableEq, Repr

/-- A block of a target (R399 to R401): the units in it, its erase count and reads since its last erase,
whether it is retired, being erased or being refreshed, and when a unit of it was last sampled. -/
structure NBlock where
  units : List (Nat × Nat) := []
  erases : Nat := 0
  reads : Nat := 0
  state : Nat := 0
  sampled : Nat := 0
  deriving DecidableEq, Repr

/-- A target (R381): whether it is in use, its raw size in bytes, and its blocks. -/
structure NTarget where
  used : Bool := false
  raw : Nat := 0
  blocks : Nat := 0
  rated : Nat := 0
  deriving DecidableEq, Repr

/-- An absorb binding (R394). -/
structure AbsorbEnt where
  ctx : Nat
  obj : Nat
  base : Nat
  deriving DecidableEq, Repr

/-- A test record (R502): the device and the fuses it was written for (the fuses by SEC.FUSE.USED, which every
change of them changes: assumption log, row 34), SEQ, QS_LEFT and QS_SLICE; the training settings of each stack;
the soft-remap table of each stack; the spare line map of each tile, by bank and line; the sites in effect; the
disabled engines and the failed stacks. -/
structure TestRec where
  dev : Nat
  fuses : Nat
  seq : Nat
  left : Nat
  slice : Nat
  training : List Nat := []
  rows : Tab Nat (List Nat) := []
  lines : Tab Nat (Tab Nat Nat × List Nat) := []
  sites : List Nat := []
  engLo : Nat := 0
  engHi : Nat := 0
  hstacks : Nat := 0
  deriving DecidableEq, Repr

/-- The retention store.  `recA` and `recB` are the two copies of the test record (R502), `admA` and `admB` those of
the admission record with the number of the write (R550).  `assembly` holds the units assembled and not yet issued, `prog` the program
units in progress, `metas` the metadata records that wait to be programmed: each is a journal entry that
completes then. -/
structure Store where
  formatted : Bool := false
  clean : Bool := true
  opPct : Nat := 12
  targets : Tab Nat NTarget := []
  blocks : Tab (Nat × Nat) NBlock := []
  objs : Tab Nat Obj := []
  binds : List AbsorbEnt := []
  jobs : List StoreJob := []
  nextJob : Nat := 0
  assembly : List UnitRef := []
  fillAt : Option Nat := none
  prog : List ProgUnit := []
  nextProg : Nat := 0
  wseq : Nat := 0
  metas : List Nat := []
  formatJob : Option Nat := none
  quiesceJob : Option Nat := none
  lastMap : Nat := 0
  dirty : Bool := false
  rebuildBy : Option Nat := none
  holdup : Option Nat := none
  uncleanEvt : Bool := false
  recA : Option TestRec := none
  recB : Option TestRec := none
  admA : Option (Nat × Tab Nat (List Nat)) := none
  admB : Option (Nat × Tab Nat (List Nat)) := none
  unitsIssued : Nat := 0
  hostUnits : Nat := 0
  deriving DecidableEq, Repr

end Sys2Proof.Machine
end

