-- ==== Sys2Proof/Machine/StateOut.lean ====
section
/-! DEFINITION. What leaves the device.  The record of these is the model's own field: it lets a
statement say what was sent, and nothing in the device reads it (assumption log, row 5). -/

namespace Sys2Proof.Machine

/-- One thing that leaves the device, in the order it leaves. -/
inductive Out
  /-- An MSI-X message of a function on a vector (R428, R592). -/
  | msix (fn vec : Nat)
  /-- The completion of a DMWr (R424): 0 Successful, 1 Memory Request Retry Status, 2 Unsupported
  Request. -/
  | dmwr (chan status : Nat)
  /-- An AER Unsupported Request logged for a posted request of a function (R426). -/
  | aer (fn : Nat)
  /-- An MCTP message: interface, EID, message tag, kind and words: 0 control, 1 PLDM, 2 a completion (R430),
  5 SPDM (R547, R556). -/
  | mctp (intf eid mtag kind : Nat) (words : List Nat)
  /-- A write to host memory: bus address and bytes (R417). -/
  | host (addr : Nat) (bytes : List Nat)
  /-- A data word returned to the reader of a register (R584). -/
  | regRead (offset value : Nat)
  /-- A DATA flit, an LCF, a NEG flit, a halyard word, a LINK_AUTH flit or a filler in a block slot
  of a port (R65, R88). -/
  | flit (port : Nat) (f : DataFlit)
  | lcf (port : Nat) (f : Lcf)
  | neg (port : Nat) (f : NegFlit)
  | haly (port : Nat) (w : Haly)
  | auth (port batch : Nat)
  | filler (port : Nat)
  /-- A marker word's STATE and mask fields on a lane (R62), and a change of what the lane's
  transmitter sends: 0 dark, 1 PRBS13, 2 framed training, 3 traffic, 4 FAULT_IDLE. -/
  | marker (lane state mask : Nat)
  | laneTx (lane what : Nat)
  /-- A level driven on an output pin: 0 FAULT_N, 1 THERMTRIP_N, 2 SMB_ALERT_N, 16 + m LMOD_EN[m]. -/
  | pin (which level : Nat)
  /-- A failure record handed to the internal block whose item it names (R165, R478). -/
  | toBlock (tgt reason tag : Nat)
  /-- What the test access port shifts out (R557). -/
  | jtag (words : List Nat)
  deriving DecidableEq, Repr

end Sys2Proof.Machine
end

