-- ==== Sys2Proof/Machine/StateSec.lean ====
section
/-! DEFINITION. State of security, identity and the management interfaces (spec/20). -/

namespace Sys2Proof.Machine

/-- A firmware slot of the boot flash (R537, R539): its bytes, whether the slot has been checked whole, and the
security version and the version of what it holds. -/
structure FwSlot where
  data : Mem := []
  ok : Bool := false
  svn : Nat := 0
  ver : Nat := 0
  deriving DecidableEq, Repr

/-- A slot of the key store (R543): the burgee of a model-signing key, and the 97 bytes of the public key. -/
structure KeySlot where
  burgee : Nat
  key : List Nat
  deriving DecidableEq, Repr

/-- A change slot that is used (R545): the bytes of its value, and whether its valid bit is burned. -/
structure Change where
  value : List Nat
  valid : Bool
  deriving DecidableEq, Repr

/-- A change slot that is being burned (R545): the command, the setting, the slot and its audit entry. -/
structure Burn where
  aseq : Nat
  setting : Nat
  slot : Nat
  deriving DecidableEq, Repr

/-- Security, identity and the management interfaces.  `known` is the known-peer table (R550): the identity digest
of each port's admitted peer as 12 words.  `slots` are the firmware slots (0 A, 1 B), `active` the one that
booted last, `next` the one that FW_ACTIVATE has named, and `staging` the staging session: whether PLDM holds it,
and its last transfer (R540).  `fwArb` and `keysArb` are the anti-rollback counters (R541).  `keys` is the key
store with the KEYS value at which it was written (R543).  `changes` are the used change slots of each setting, in
order, `burn` the one that is being burned, and `audit` the entries of the audit log by their place (R545, R546).
`eids` are the EIDs of the two MCTP bindings, `spdm` the SPDM sessions by binding and EID (1 exchanging keys, 2
established), `receiver` the PLDM event receiver (R547, R556).  `tapIr` is the JTAG instruction in force, and
`debugOpen` and `debugChal` the debug lock (R557). -/
structure Sec where
  known : Tab Nat (List Nat) := []
  slots : Tab Nat FwSlot := []
  active : Nat := 0
  next : Option Nat := none
  staging : Option (Bool × Nat) := none
  fwArb : Nat := 0
  keysArb : Nat := 0
  keys : Tab Nat KeySlot := []
  keysAt : Nat := 0
  changes : Tab Nat (List Change) := []
  burn : Option Burn := none
  audit : Tab Nat (List Nat) := []
  eids : Tab Nat Nat := []
  spdm : Tab (Nat × Nat) Nat := []
  receiver : Option (Nat × Nat) := none
  tapIr : Nat := 0
  debugOpen : Bool := false
  debugChal : Option Nat := none
  deriving DecidableEq, Repr

end Sys2Proof.Machine
end

