-- ==== Sys2Proof/Machine/StateTile.lean ====
section
/-! DEFINITION. State of the tensor tiles (spec/11) and of the memories' protection (spec/13). -/

namespace Sys2Proof.Machine

/-- A launch (R300): its entry, argument and launch ID, its burgee, the trigger entry of the LAUNCH
action that made it, and the model slot whose serve program it is. -/
structure Launch where
  entry : Nat := 0
  arg : Nat := 0
  id : Nat := 0
  burgee : Nat := 0
  trig : Option Nat := none
  slot : Option Nat := none
  deriving DecidableEq, Repr

/-- A receive ring (R323): base, slot size and slots, head and tail, and the slots in use. -/
structure RxRing where
  base : Nat := 0
  slot : Nat := 0
  n : Nat := 0
  head : Nat := 0
  tail : Nat := 0
  used : Nat := 0
  deriving DecidableEq, Repr

/-- An entry of the store buffer (R325): the tile whose SRAM it goes to, the offset, the bytes, the
effective address of its instruction, and the number of FENCE.ST executed before it (R326). -/
structure StoreEnt where
  tile : Nat
  remote : Bool
  addr : Nat
  bytes : List Nat
  ea : Nat
  grp : Nat := 0
  deriving DecidableEq, Repr

/-- The asynchronous instructions (R316). -/
inductive AKind
  | mma | mmac | xfer | cinj | gpost
  deriving DecidableEq, Repr

/-- An instruction of a queue (R316): its kind, token and descriptor, whether its result has been written
to D, the blocks (chunk number and bytes) that the attach has still to inject, the packets it has
injected and not yet seen released, its first error, and the PC of a tagged instruction (R522). -/
structure AsyncOp where
  kind : AKind
  token : Nat
  descAt : Nat
  desc : List Nat
  written : Bool := false
  blocks : List (Nat × List Nat) := []
  pids : List Nat := []
  err : Option Nat := none
  posted : Bool := false
  issuedAt : Nat := 0
  tag : Option Nat := none
  deriving DecidableEq, Repr

/-- The accumulator kept in the array (R306, R308): its shape, class, and one word per element. -/
structure Kept where
  m : Nat
  n : Nat
  exact : Bool
  acc : List Nat
  deriving DecidableEq, Repr

/-- A tile (R297 to R337): the scalar registers, the vector and mask registers, PC, the CSRs, the running
launch and the launch queue, the store buffer, the three queues with their issue counts and the errors
not collected, the kept accumulator, the array beats, the fences and instructions counted since launch, and the status with which the program will end
once its queues and its store buffer are empty (R332). -/
structure Tile where
  g : List Word64 := List.replicate 32 0
  v : List (List Nat) := List.replicate 16 (List.replicate 64 0)
  m : List Nat := [0, 0, 0, 0]
  pc : Nat := 0
  evec : Nat := 0
  epc : Nat := 0
  ecause : Nat := 0
  einfo : Nat := 0
  eaddr : Nat := 0
  active : Bool := false
  rx0 : RxRing := {}
  rx1 : RxRing := {}
  rngKey : Nat := 0
  rngCtr : Nat := 0
  prog : Option Launch := none
  lq : List Launch := []
  buf : List StoreEnt := []
  queues : List (List AsyncOp) := [[], [], []]
  issued : List Nat := [0, 0, 0]
  doneErrs : List (Nat × Nat) := []
  kept : Option Kept := none
  beats : Nat := 0
  ending : Option Nat := none
  grp : Nat := 0
  nIns : Nat := 0
  deriving DecidableEq, Repr

/-- The protection of a tile's SRAM (R367 to R373): the poisoned words, the lines to be spared at the next
reset, the bits corrected once, the spare lines in use by bank, the remapped lines, when the containment
reset is due, the march test that runs with its journal entry and end, and when the next scrub pass
starts. -/
structure SramEcc where
  poison : List Nat := []
  badLines : List Nat := []
  corrOnce : List (Nat × Nat) := []
  spares : Tab Nat Nat := []
  remapped : List Nat := []
  resetAt : Option Nat := none
  march : Option (Nat × Option Nat) := none
  scrubAt : Nat := 0
  deriving DecidableEq, Repr

/-- A stack (R375 to R379): the poisoned 64 B blocks, the times of corrected reads by row, the remapped
rows, the retraining in progress (when the channel in hand ends, when the next begins, whether it is the retry of
one channel), the channels to be tried again, and when the stack was last refreshed, scrubbed and measured. -/
structure HbmSt where
  poison : List Nat := []
  corr : Tab Nat (List Nat) := []
  remap : List Nat := []
  holdTill : Option Nat := none
  nextAt : Option Nat := none
  single : Bool := false
  retry : List (Nat × Nat) := []
  refreshAt : Nat := 0
  scrubAt : Nat := 0
  tempAt : Nat := 0
  deriving DecidableEq, Repr

end Sys2Proof.Machine
end

