-- ==== Sys2Proof/Machine/Dev.lean ====
section
/-! DEFINITION. The device: fabric time, the register file, the counters and the state of every
block. -/

namespace Sys2Proof.Machine

/-- The whole device except the queue of commands waiting for it.
`now` is fabric time in ns (R446), `regs` the stored register fields, `counters` the telemetry
counters by ID (R516), `sram` and `hbm` the memories of tiles
and stacks, `ecc` and `hstacks` their protection, `models` the model table, `freeCtr` numbers the free values already used (assumption log, row 4). -/
structure Dev where
  now : Nat := 0
  freeCtr : Nat := 0
  regs : Tab RegKey Nat := []
  counters : Tab Nat Nat := []
  out : List Out := []
  net : Net := {}
  mgmt : Mgmt := {}
  tel : Tel := {}
  time : TimeSt := {}
  sec : Sec := {}
  red : Red := {}
  sram : Tab Nat Mem := []
  hbm : Tab Nat Mem := []
  ecc : Tab Nat SramEcc := []
  hstacks : Tab Nat HbmSt := []
  tiles : Tab Nat Tile := []
  models : Tab Nat Model := []
  store : Store := {}
  deriving DecidableEq, Repr

end Sys2Proof.Machine
end

