-- ==== Sys2Proof/Machine/Ops.lean ====
section
/-! DEFINITION. The named operations every meaning is written with: register fields (R9), counters
(R515, R516), free values, serial numbers (R104), the CRC-32C of RFC 3720 (R172), power domains
(R49) and the block interrupt (R592). -/

namespace Sys2Proof.Machine

/-! ### Numbers and bits -/

/-- Bits [hi:lo] of a word. -/
def bits (v hi lo : Nat) : Nat := (v >>> lo) % 2 ^ (hi + 1 - lo)

/-- Bit `i` of a word. -/
def bitOf (v i : Nat) : Bool := (v >>> i) % 2 = 1

/-- 1 for true, 0 for false. -/
def b2n (b : Bool) : Nat := if b then 1 else 0

/-- The word with bit `i` set or cleared. -/
def setBit (v i : Nat) (b : Bool) : Nat :=
  if bitOf v i then (if b then v else v - 2 ^ i) else (if b then v + 2 ^ i else v)

/-- ⌈a / b⌉, 0 when `b` is 0. -/
def ceilDiv (a b : Nat) : Nat := if b = 0 then 0 else (a + b - 1) / b

/-- The numbers below `n` whose bit is set in a mask. -/
def maskBits (m n : Nat) : List Nat := (List.range n).filter fun i => bitOf m i

/-- The mask with the listed bits set. -/
def maskOf (l : List Nat) : Nat := l.foldl (fun m i => setBit m i true) 0

/-- d(a, b) of R104: (a − b) mod M, negative when it is at least M/2. -/
def serialDiff (m a b : Nat) : Int :=
  let d := (a % m + m - b % m) % m
  if d * 2 < m then (d : Int) else (d : Int) - (m : Int)

/-- One bit step of the reflected CRC-32C. -/
def crcBit : Nat → Nat → Nat
  | 0, c => c
  | n + 1, c => crcBit n (if c % 2 = 1 then (c >>> 1) ^^^ 0x82F63B78 else c >>> 1)

/-- CRC-32C (RFC 3720) of bytes in order (R90, R172, R206). -/
def crc32c (bs : List Nat) : Nat :=
  (bs.foldl (fun c b => crcBit 8 (c ^^^ (b % 256))) 0xFFFFFFFF) ^^^ 0xFFFFFFFF

/-- The `n` bytes of a number, most significant first. -/
def bytesBE (n v : Nat) : List Nat :=
  (List.range n).map fun i => (v >>> (8 * (n - 1 - i))) % 256

/-- The `n` bytes of a number, least significant first (R595). -/
def bytesLE (n v : Nat) : List Nat :=
  (List.range n).map fun i => (v >>> (8 * i)) % 256

/-- The number that bytes spell, least significant first (R595). -/
def ofLE : List Nat → Nat
  | [] => 0
  | b :: bs => b % 256 + 256 * ofLE bs

/-- The number that bytes spell, most significant first (R7). -/
def ofBE (bs : List Nat) : Nat := bs.foldl (fun a b => a * 256 + b % 256) 0

/-- Element `i` of a list replaced. -/
def setAt {α : Type} : List α → Nat → α → List α
  | [], _, _ => []
  | _ :: t, 0, v => v :: t
  | h :: t, i + 1, v => h :: setAt t i v

/-- An element put before the first of a sorted list whose key is not less than its own. -/
def insertBy {α : Type} (k : α → Nat) (x : α) : List α → List α
  | [] => [x]
  | y :: t => if k x ≤ k y then x :: y :: t else y :: insertBy k x t

/-- A list in ascending order of a key, elements of one key in their order. -/
def sortBy {α : Type} (k : α → Nat) (l : List α) : List α := l.foldr (insertBy k) []

/-! ### Register fields -/

/-- The reset value of a field (R587). -/
def resetVal (f : Fld) (i k : Nat) : Nat :=
  match f.rst with
  | .const v => v
  | .age => if k ≤ 5 then 50 else if k = 6 then 500 else 20
  | .meshPeer => if k < i then k else k + 1
  | .qen => b2n (k = 2 || k = 3 || k = 6)
  | .ctabA =>
    if k = 0 then 0x85000000 else if k = 1 then 0xAC0FFFFF
    else if k = 2 then 0x9C0FFFFF else if k = 3 then 0xB90FFFFF else 0
  | .fused => Config.fuse f.id i k % 2 ^ f.w
  | .asFused id => Config.fuse id i k % 2 ^ f.w

/-- The stored value of a field of instance `i`, element `k`. -/
def Dev.rd (d : Dev) (f : Fld) (i : Nat := 0) (k : Nat := 0) : Nat :=
  d.regs.get ⟨f.id, i, k⟩ (resetVal f i k)

/-- The device with that field holding `v`, cut to the field's width. -/
def Dev.wr (d : Dev) (f : Fld) (v : Nat) (i : Nat := 0) (k : Nat := 0) : Dev :=
  { d with regs := d.regs.put ⟨f.id, i, k⟩ (v % 2 ^ f.w) }

/-- The device with that one-bit field set. -/
def Dev.set (d : Dev) (f : Fld) (i : Nat := 0) (k : Nat := 0) : Dev := d.wr f 1 i k

/-- The device with that field 0. -/
def Dev.clr (d : Dev) (f : Fld) (i : Nat := 0) (k : Nat := 0) : Dev := d.wr f 0 i k

/-- Whether a one-bit field is 1. -/
def Dev.on (d : Dev) (f : Fld) (i : Nat := 0) (k : Nat := 0) : Bool := d.rd f i k = 1

/-- The device with that field advanced by `n`, saturating at its greatest value. -/
def Dev.bump (d : Dev) (f : Fld) (i : Nat := 0) (k : Nat := 0) (n : Nat := 1) : Dev :=
  d.wr f (min (d.rd f i k + n) (2 ^ f.w - 1)) i k

/-- The device with that field holding `v`, saturating at the field's greatest value. -/
def Dev.wrSat (d : Dev) (f : Fld) (v : Nat) (i : Nat := 0) (k : Nat := 0) : Dev :=
  d.wr f (min v (2 ^ f.w - 1)) i k

/-- Bit `b` of a mask field set or cleared. -/
def Dev.wrBit (d : Dev) (f : Fld) (b : Nat) (v : Bool) (i : Nat := 0) (k : Nat := 0) : Dev :=
  d.wr f (setBit (d.rd f i k) b v) i k

/-- Whether bit `b` of a mask field is set. -/
def Dev.rdBit (d : Dev) (f : Fld) (b : Nat) (i : Nat := 0) (k : Nat := 0) : Bool :=
  bitOf (d.rd f i k) b

/-- The stored fields of one register block instance put back to their reset values (R587): every
field whose number lies in the list. -/
def Dev.resetFields (d : Dev) (ids : List Nat) (inst : Nat → Bool) : Dev :=
  { d with regs := d.regs.filter fun e => !(ids.contains e.1.id && inst e.1.inst) }

/-- The field numbers of a block that take reset values: those of fuses show the fuse shadow instead (R587). -/
def blkIds (b : Blk) : List Nat :=
  (regRows.filter fun r => r.blk = b).flatMap fun r => (r.flds.filter fun f => f.acc ≠ .fuse).map Fld.id

/-! ### Counters, output, free values -/

/-- The ID of a counter (R516). -/
def counterId (blk inst grp sub : Nat) : Nat :=
  blk * 2 ^ 24 + inst % 2 ^ 12 * 2 ^ 12 + grp % 16 * 256 + sub % 256

/-- The device with a counter advanced by `n`, modulo 2^64 (R515). -/
def Dev.count (d : Dev) (blk inst grp sub : Nat) (n : Nat := 1) : Dev :=
  let id := counterId blk inst grp sub
  { d with counters := d.counters.put id ((d.counters.get id 0 + n) % 2 ^ 64) }

/-- The device having sent one more thing out. -/
def Dev.emit (d : Dev) (o : Out) : Dev := { d with out := d.out ++ [o] }

/-- A fresh free value (assumption log, row 4). -/
def Dev.free (d : Dev) : Nat := Config.freeValue d.freeCtr

/-- The device having used a free value. -/
def Dev.usedFree (d : Dev) : Dev := { d with freeCtr := d.freeCtr + 1 }

/-- The fold of a function over a list of keys. -/
def Dev.each {α : Type} (d : Dev) (l : List α) (f : Dev → α → Dev) : Dev := l.foldl f d

/-! ### Places -/

/-- The quadrant of an egress or ingress code: port p lies in quadrant p / 128 (R13), attach code
0x200 + 8q + a in quadrant q (R516). -/
def quadOf (eg : Nat) : Nat := if eg < 512 then eg / 128 else (eg - 512) / 8

/-- The attach code of attach point `a` of quadrant `q`: 0 RC, 1 CDa, 2 CDb, 3 HUB, 4 RG (R583). -/
def attach (q a : Nat) : Nat := 512 + 8 * q + a

/-- Whether a code names a port. -/
def isPort (eg : Nat) : Bool := eg < 512

/-- The quadrant that holds tile `t` (code 8c + t of R171): dies 2q and 2q + 1 (R12). -/
def quadOfTile (t : Nat) : Nat := t / 16

/-- The attach code of an internal target code (R171): a tile's compute-die attach, a reduction
cluster, and the hub attach of Q0 for Thidan and the retention store controller. -/
def attachOf (tgt : Nat) : Nat :=
  if tgt < 64 then attach (tgt / 16) (1 + tgt / 8 % 2)
  else if 0x100 ≤ tgt ∧ tgt ≤ 0x103 then attach (tgt - 0x100) 0
  else attach 0 3

/-- The mesh pair number of two quadrants (R143). -/
def meshPair (a b : Nat) : Nat :=
  let lo := min a b
  let hi := max a b
  if lo = 0 then hi - 1 else if lo = 1 then hi + 1 else 5

/-- The two quadrants of a mesh pair (R143). -/
def pairQuads (p : Nat) : Nat × Nat :=
  if p = 0 then (0, 1) else if p = 1 then (0, 2) else if p = 2 then (0, 3)
  else if p = 3 then (1, 2) else if p = 4 then (1, 3) else (2, 3)

/-! ### Power domains (R49) -/

def pdOe (e : Nat) : Nat := e
def pdTile (t : Nat) : Nat := 32 + t
def pdQuad (q : Nat) : Nat := 96 + q
def pdRed (q : Nat) : Nat := 100 + q
def pdHbm (q : Nat) : Nat := 104 + q
def pdNand : Nat := 108
def pdPcie : Nat := 109
def pdHub : Nat := 110
def pdAon : Nat := 111

/-- Whether a power domain is on (PWR.PDSTAT). -/
def Dev.pdOn (d : Dev) (pd : Nat) : Bool := d.rdBit R.PWR_PDSTAT_ON (pd % 32) 0 (pd / 32)

/-- PWR.PDSTAT with one domain's bit written. -/
def Dev.setPd (d : Dev) (pd : Nat) (v : Bool) : Dev :=
  d.wrBit R.PWR_PDSTAT_ON (pd % 32) v 0 (pd / 32)

/-- The power domain that an internal target needs (R22, R171). -/
def pdOfTarget (tgt : Nat) : Nat :=
  if tgt < 64 then pdTile tgt else if 0x100 ≤ tgt ∧ tgt ≤ 0x103 then pdRed (tgt - 0x100)
  else pdHub

/-- The domains a domain depends on (R50). -/
def pdDeps (pd : Nat) : List Nat :=
  if pd < 32 then [pdQuad (pd / 8)]
  else if pd < 96 then [pdQuad ((pd - 32) / 16)]
  else if pd < 100 then [pdHub]
  else if pd < 104 then [pdQuad (pd - 100)]
  else if pd < 108 then [pdQuad (pd - 104)]
  else if pd = 108 ∨ pd = 109 then [pdHub]
  else if pd = 110 then [pdAon] else []

/-! ### Bring-up and the test record (R501, R502) -/

/-- Bring-up changed. -/
def Dev.modBoot (d : Dev) (f : Boot → Boot) : Dev := { d with mgmt := { d.mgmt with boot := f d.mgmt.boot } }

/-- The phases of HUB.BOOT.PHASE (R501). -/
def bpFuses : Nat := 0
def bpSecure : Nat := 1
def bpDomains : Nat := 2
def bpMemtest : Nat := 3
def bpKat : Nat := 4
def bpRecord : Nat := 5
def bpReady : Nat := 6
def bpFailed : Nat := 7

def Dev.bootPhase (d : Dev) : Nat := d.rd R.HUB_BOOT_PHASE

/-- The always-on copies of the test record or of the admission record have changed (R502, R550). -/
def Dev.recordNew (d : Dev) : Dev :=
  if d.mgmt.recNew.isSome then d else { d with mgmt := { d.mgmt with recNew := some d.now } }

/-! ### The key store (R543) -/

/-- The key store: empty while the KEYS counter stands above the value at which the store was written. -/
def Dev.keyStore (d : Dev) : Tab Nat KeySlot := if d.sec.keysAt < d.sec.keysArb then [] else d.sec.keys

/-- Whether the key store holds a fabric manager's key. -/
def Dev.fmKey (d : Dev) : Bool := d.keyStore.any fun k => k.1 < 2

/-- Whether the key store holds a model-signing key that admits a burgee. -/
def Dev.modelKey (d : Dev) (b : Nat) : Bool :=
  d.keyStore.any fun k => decide (2 ≤ k.1) && decide (k.1 < 34) && (k.2.burgee = 0 || k.2.burgee = b)

/-! ### Ports -/

/-- The lanes of port `p` under its engine's formation: 0 for an ID that is unused (R13, R66). -/
def Dev.portWidth (d : Dev) (p : Nat) : Nat :=
  let e := p / 16
  let n := p % 16
  if d.rdBit R.OE_PFORM_X8 (n / 4) e then (if n % 4 = 0 then 8 else 0)
  else if d.rdBit R.OE_PFORM_X4 (n / 2) e then (if n % 2 = 0 then 4 else 0)
  else 2

/-- Whether a port ID is formed (R13). -/
def Dev.formed (d : Dev) (p : Nat) : Bool := p < 512 && d.portWidth p != 0

/-- The lane numbers 32e + l of a port. -/
def Dev.portLanes (d : Dev) (p : Nat) : List Nat :=
  (List.range (d.portWidth p)).map fun i => 2 * p + i

/-- The port that a lane belongs to. -/
def Dev.lanePort (d : Dev) (lane : Nat) : Nat :=
  let p := lane / 2
  let e := p / 16
  let n := p % 16
  if d.rdBit R.OE_PFORM_X8 (n / 4) e then 16 * e + 4 * (n / 4)
  else if d.rdBit R.OE_PFORM_X4 (n / 2) e then 16 * e + 2 * (n / 2)
  else p

/-- Every formed port. -/
def Dev.formedPorts (d : Dev) : List Nat := (List.range 512).filter d.formed

def Dev.link (d : Dev) (p : Nat) : Link := d.net.links.get p {}
def Dev.setLink (d : Dev) (p : Nat) (l : Link) : Dev :=
  { d with net := { d.net with links := d.net.links.put p l } }
def Dev.modLink (d : Dev) (p : Nat) (f : Link → Link) : Dev := d.setLink p (f (d.link p))
def Dev.port (d : Dev) (p : Nat) : Port := d.net.ports.get p {}
def Dev.setPort (d : Dev) (p : Nat) (x : Port) : Dev :=
  { d with net := { d.net with ports := d.net.ports.put p x } }
def Dev.lane (d : Dev) (l : Nat) : Lane := d.net.lanes.get l {}
def Dev.setLane (d : Dev) (l : Nat) (x : Lane) : Dev :=
  { d with net := { d.net with lanes := d.net.lanes.put l x } }

/-- Link states of LNK.STAT.STATE (R130). -/
def lsDown : Nat := 0
def lsNegotiate : Nat := 1
def lsConfirm : Nat := 2
def lsUp : Nat := 3
def lsResync : Nat := 4

def Dev.linkState (d : Dev) (p : Nat) : Nat := d.rd R.LNK_STAT_STATE p
def Dev.admitted (d : Dev) (p : Nat) : Bool := d.on R.LNK_STAT_ADMITTED p
/-- Whether a link runs AFP 2.1 (LNK.STAT.VER = 1). -/
def Dev.afp21 (d : Dev) (p : Nat) : Bool := d.rd R.LNK_STAT_VER p = 1
/-- UP and ADMITTED. -/
def Dev.upAdm (d : Dev) (p : Nat) : Bool := d.linkState p = lsUp && d.admitted p
/-- The sequence modulus of a link (R104, R135). -/
def Dev.seqMod (d : Dev) (p : Nat) : Nat := if d.afp21 p then 4096 else 65536

/-- Flits of a packet (R99): one for a pennant, ⌈(48 + L) / 244⌉ for a streamer. -/
def flitsOf (k : Packet) : Nat := if k.pclass = 1 then 1 else ceilDiv (48 + 4 * k.len) 244

/-! ### The block interrupt (R592) -/

def Dev.istatPwr (d : Dev) : Nat :=
  b2n (d.on R.PWR_IPEND_WARN && d.on R.PWR_IEN_WARN
    || d.on R.PWR_IPEND_THROTTLE && d.on R.PWR_IEN_THROTTLE
    || d.on R.PWR_IPEND_BELOW_LINE && d.on R.PWR_IEN_BELOW_LINE
    || d.on R.PWR_IPEND_PV_FAULT && d.on R.PWR_IEN_PV_FAULT
    || d.on R.PWR_IPEND_UV && d.on R.PWR_IEN_UV
    || d.on R.PWR_IPEND_CLK_LOST && d.on R.PWR_IEN_CLK_LOST)

def Dev.istatFlt (d : Dev) : Nat :=
  b2n (d.on R.FLT_STAT_FAULT_SEEN || d.on R.FLT_STAT_STRUCK_SEEN)

/-- HUB.ISTAT AND HUB.IEN, as a two-bit mask. -/
def Dev.irqMask (d : Dev) : Nat :=
  d.istatPwr * d.rd R.HUB_IEN_PWR_EN + 2 * (d.istatFlt * d.rd R.HUB_IEN_FLT_EN)

/-- HUB.ISTAT brought up to date after a change, with the message of R592 when the masked source
passes from zero to non-zero, or stays non-zero after a write that cleared a source bit. -/
def Dev.irq (d : Dev) (before : Nat) (cleared : Bool := false) : Dev :=
  let d := (d.wr R.HUB_ISTAT_PWR d.istatPwr).wr R.HUB_ISTAT_FLT d.istatFlt
  if d.irqMask ≠ 0 ∧ (before = 0 ∨ cleared) then d.emit (.msix 0 (d.rd R.HUB_IVEC_VEC)) else d

/-- A PWR.IPEND bit set (its IEN bit gates only the interrupt). -/
def Dev.pend (d : Dev) (f : Fld) : Dev := (d.set f).irq d.irqMask

end Sys2Proof.Machine
end

