-- ==== Sys2Proof/Machine/Arith.lean ====
section
/-! DEFINITION. Number formats and arithmetic (spec/08, R210 to R235): exact values, the encodings of
R212, one rounding to nearest even, the FAST and EXACT classes, block scales and histogram bins. -/

namespace Sys2Proof.Machine

/-- An exact value: NaN, an infinity, or (−1)^neg × m × 2^e; a zero keeps its sign. -/
inductive Val
  | nan
  | inf (neg : Bool)
  | fin (neg : Bool) (m : Nat) (e : Int)
  deriving DecidableEq, Repr

/-- How a format's all-ones exponent is used (R212): as IEEE 754 does, as E4M3 does (one NaN), or for
values. -/
inductive Spc
  | ieee | e4m3 | none
  deriving DecidableEq, Repr

/-- A floating-point format (R212). -/
structure Fp where
  eb : Nat
  mb : Nat
  bias : Nat
  spc : Spc
  deriving DecidableEq, Repr

def fp32 : Fp := ⟨8, 23, 127, .ieee⟩
def bf16 : Fp := ⟨8, 7, 127, .ieee⟩
def fp16 : Fp := ⟨5, 10, 15, .ieee⟩
def e4m3 : Fp := ⟨4, 3, 7, .e4m3⟩
def e5m2 : Fp := ⟨5, 2, 15, .ieee⟩
def e3m2 : Fp := ⟨3, 2, 3, .none⟩
def e2m3 : Fp := ⟨2, 3, 1, .none⟩
def e2m1 : Fp := ⟨2, 1, 1, .none⟩

/-! ### Exact values -/

/-- ⌊log2⌋ of a nonzero finite value's magnitude. -/
def ilog (m : Nat) (e : Int) : Int := (Nat.log2 m : Int) + e

/-- m × 2^k rounded to an integer, to nearest, ties to even (R218). -/
def rne (m : Nat) (k : Int) : Nat :=
  if 0 ≤ k then m * 2 ^ k.toNat
  else
    let dv := 2 ^ (-k).toNat
    let q := m / dv
    let r := m % dv
    if dv < 2 * r ∨ (2 * r = dv ∧ q % 2 = 1) then q + 1 else q

/-- m × 2^k truncated to an integer. -/
def truncShift (m : Nat) (k : Int) : Nat :=
  if 0 ≤ k then m * 2 ^ k.toNat else m / 2 ^ (-k).toNat

/-- A signed integer as a value; zero is +0. -/
def ofInt (i : Int) (e : Int) : Val := .fin (decide (i < 0)) i.natAbs e

def Val.isNan : Val → Bool
  | .nan => true
  | _ => false
def Val.isInf : Val → Bool
  | .inf _ => true
  | _ => false
def Val.special (v : Val) : Bool := v.isNan || v.isInf
def Val.isZero : Val → Bool
  | .fin _ m _ => m = 0
  | _ => false
def Val.neg : Val → Bool
  | .nan => false
  | .inf n => n
  | .fin n _ _ => n
def Val.negate : Val → Val
  | .nan => .nan
  | .inf n => .inf (!n)
  | .fin n m e => .fin (!n) m e

/-- A value times 2^k. -/
def Val.scale (v : Val) (k : Int) : Val :=
  match v with
  | .fin n m e => .fin n m (e + k)
  | v => v

/-- The exact product (R221, R222). -/
def Val.mul (a b : Val) : Val :=
  match a, b with
  | .nan, _ => .nan
  | _, .nan => .nan
  | .inf s, .inf t => .inf (s != t)
  | .inf s, .fin t m _ => if m = 0 then .nan else .inf (s != t)
  | .fin s m _, .inf t => if m = 0 then .nan else .inf (s != t)
  | .fin s m e, .fin t n f => .fin (s != t) (m * n) (e + f)

/-- A finite value's signed integer at unit 2^k, exact when k is not above its exponent. -/
def Val.atUnit (v : Val) (k : Int) : Int :=
  match v with
  | .fin n m e => (if n then -1 else 1) * (truncShift m (e - k) : Int)
  | _ => 0

/-- The least exponent among finite values. -/
def minExp (vs : List Val) : Int :=
  vs.foldl (fun a v => match v with
    | .fin _ _ e => min a e
    | _ => a) (match vs with
      | .fin _ _ e :: _ => e
      | _ => 0)

/-- The value of a sum with a NaN or infinite term (R222). -/
def specialSum (vs : List Val) : Val :=
  if vs.any Val.isNan then .nan
  else if vs.any (fun v => v = .inf true) ∧ vs.any (fun v => v = .inf false) then .nan
  else .inf (vs.any fun v => v = .inf true)

/-- The sign of a zero sum: −0 when every addend is −0 (R221). -/
def zeroSign (vs : List Val) : Bool := vs != [] && vs.all fun v => v.isZero && v.neg

/-- The exact sum of terms (R221, R222). -/
def exactSum (vs : List Val) : Val :=
  if vs.any Val.special then specialSum vs
  else
    let k := minExp vs
    let s := vs.foldl (fun a v => a + v.atUnit k) (0 : Int)
    if s = 0 then .fin (zeroSign vs) 0 0 else ofInt s k

/-! ### Encodings (R212, R214) -/

def Fp.bits (f : Fp) : Nat := 1 + f.eb + f.mb
/-- The all-ones exponent field. -/
def Fp.emax (f : Fp) : Nat := 2 ^ f.eb - 1

/-- The value a word encodes. -/
def Fp.decode (f : Fp) (w : Nat) : Val :=
  let s := bitOf w (f.eb + f.mb)
  let e := w / 2 ^ f.mb % 2 ^ f.eb
  let m := w % 2 ^ f.mb
  if f.spc = .ieee ∧ e = f.emax then (if m = 0 then .inf s else .nan)
  else if f.spc = .e4m3 ∧ e = f.emax ∧ m = 2 ^ f.mb - 1 then .nan
  else if e = 0 then .fin s m (1 - f.bias - f.mb)
  else .fin s (m + 2 ^ f.mb) ((e : Int) - f.bias - f.mb)

/-- The canonical NaN (R214). -/
def Fp.nanBits (f : Fp) : Nat :=
  match f.spc with
  | .e4m3 => 0x7F
  | _ => f.emax * 2 ^ f.mb + 2 ^ (f.mb - 1)

/-- The largest finite magnitude's bits. -/
def Fp.maxBits (f : Fp) : Nat :=
  match f.spc with
  | .ieee => f.emax * 2 ^ f.mb - 1
  | .e4m3 => f.emax * 2 ^ f.mb + 2 ^ f.mb - 2
  | .none => f.emax * 2 ^ f.mb + 2 ^ f.mb - 1

/-- Whether a format has infinities. -/
def Fp.hasInf (f : Fp) : Bool := f.spc = .ieee

/-- An overflow or an infinity written (R223): `inf` is OVF = INF. -/
def Fp.overBits (f : Fp) (inf : Bool) : Nat :=
  if inf then
    match f.spc with
    | .ieee => f.emax * 2 ^ f.mb
    | .e4m3 => 0x7F
    | .none => f.maxBits
  else f.maxBits

/-- A value rounded to a format (R218, R220, R223), and whether it overflowed. -/
def Fp.round (f : Fp) (v : Val) (inf : Bool) : Nat × Bool :=
  let sgn (n : Bool) : Nat := b2n n * 2 ^ (f.eb + f.mb)
  match v with
  | .nan => (f.nanBits, false)
  | .inf n =>
    if f.hasInf then (sgn n + f.emax * 2 ^ f.mb, false)
    else if f.spc = .e4m3 ∧ inf then (0x7F, true)
    else (sgn n + f.overBits inf, true)
  | .fin n m e =>
    if m = 0 then (sgn n, false)
    else
      let emin : Int := 1 - f.bias
      let q := max (ilog m e) emin - f.mb
      let r := rne m (e - q)
      -- the field value: subnormal and normal encodings follow each other
      let fld : Int := (q + f.mb - emin) * 2 ^ f.mb + r
      let w := fld.toNat
      if f.maxBits < w then
        (if inf ∧ f.spc = .e4m3 then 0x7F else sgn n + f.overBits inf, true)
      else (sgn n + w, false)

/-- A value rounded to FP32. -/
def round32 (v : Val) (inf : Bool) : Nat := (fp32.round v inf).1

/-- FP32 bits as a value. -/
def of32 (w : Nat) : Val := fp32.decode w

/-- A value rounded to a two's-complement integer of `w` bits, saturating (R224), and whether it
saturated. -/
def toInt (w : Nat) (v : Val) : Int × Bool :=
  let hi : Int := 2 ^ (w - 1) - 1
  let lo : Int := -(2 ^ (w - 1))
  match v with
  | .nan => (0, false)
  | .inf n => (if n then lo else hi, true)
  | .fin n m e =>
    let i : Int := (if n then -1 else 1) * (rne m e : Int)
    if hi < i then (hi, true) else if i < lo then (lo, true) else (i, false)

/-- A two's-complement integer as bits, and back. -/
def intBits (w : Nat) (i : Int) : Nat := (i % (2 ^ w : Int)).toNat
def bitsInt (w b : Nat) : Int :=
  let b := b % 2 ^ w
  if b < 2 ^ (w - 1) then (b : Int) else (b : Int) - 2 ^ w

/-! ### Division and square root (R219) -/

/-- A quotient, with a sticky bit below at least 66 bits. -/
def Val.div (a b : Val) : Val :=
  match a, b with
  | .nan, _ => .nan
  | _, .nan => .nan
  | .inf _, .inf _ => .nan
  | .inf s, .fin t _ _ => .inf (s != t)
  | .fin s _ _, .inf t => .fin (s != t) 0 0
  | .fin s m e, .fin t n f =>
    if n = 0 then (if m = 0 then .nan else .inf (s != t))
    else
      let k := 66 + Nat.log2 n
      let x := m * 2 ^ k
      .fin (s != t) (2 * (x / n) + (if x % n = 0 then 0 else 1)) (e - f - k - 1)

/-- ⌊√x⌋ bit by bit from bit `n`. -/
def isqrtFrom : Nat → Nat → Nat → Nat
  | 0, _, r => r
  | n + 1, x, r => let r' := r + 2 ^ n; isqrtFrom n x (if r' * r' ≤ x then r' else r)

/-- A square root, with a sticky bit. -/
def Val.sqrt (a : Val) : Val :=
  match a with
  | .nan => .nan
  | .inf n => if n then .nan else .inf false
  | .fin n m e =>
    if m = 0 then .fin n 0 0
    else if n then .nan
    else
      let odd := e % 2 = 1
      let m1 := if odd then 2 * m else m
      let e1 := if odd then e - 1 else e
      let x := m1 * 2 ^ 128
      let r := isqrtFrom (Nat.log2 x / 2 + 1) x 0
      .fin false (2 * r + (if r * r = x then 0 else 1)) (e1 / 2 - 64 - 1)

/-! ### Format codes (R210, R215) -/

/-- Whether a FMT code is defined. -/
def fmtDefined (c : Nat) : Bool := c ≤ 4 || (8 ≤ c && c ≤ 12) || c = 16 || c = 17

def fmtMx (c : Nat) : Bool := 8 ≤ c && c ≤ 12
def fmtInt (c : Nat) : Bool := c = 16 || c = 17

/-- The element format of a floating-point or MX code. -/
def fmtFp (c : Nat) : Fp :=
  if c = 0 then fp32 else if c = 1 then bf16 else if c = 2 then fp16
  else if c = 3 ∨ c = 8 then e4m3 else if c = 4 ∨ c = 9 then e5m2
  else if c = 10 then e3m2 else if c = 11 then e2m3 else e2m1

/-- Bits of an element. -/
def fmtBits (c : Nat) : Nat :=
  if c = 0 ∨ c = 17 then 32 else if c = 1 ∨ c = 2 then 16
  else if c = 10 ∨ c = 11 then 6 else if c = 12 then 4 else 8

/-- Bytes of an MX group of 128 elements (R215). -/
def groupBytes (c : Nat) : Nat := 4 + 16 * fmtBits c

/-- Elements that `n` bytes hold. -/
def elemsIn (c n : Nat) : Nat :=
  if fmtMx c then n / groupBytes c * 128 else n / (fmtBits c / 8)

/-- The byte offset of element `k` (R595): for an MX format, of its group. -/
def elemOffset (c k : Nat) : Nat :=
  if fmtMx c then k / 128 * groupBytes c else k * (fmtBits c / 8)

/-- Element `k` of an MX group's element bytes (R215). -/
def mxElem (c : Nat) (bs : List Nat) (k : Nat) : Nat :=
  if fmtBits c = 8 then nth bs k
  else if fmtBits c = 4 then (if k % 2 = 0 then nth bs (k / 2) / 16 else nth bs (k / 2) % 16)
  else
    let j := k / 4
    let u := nth bs (3 * j) * 65536 + nth bs (3 * j + 1) * 256 + nth bs (3 * j + 2)
    u / 2 ^ (18 - 6 * (k % 4)) % 64

/-- The value of an MX element with scale byte `x` (R213, R217). -/
def mxVal (c x e : Nat) : Val :=
  if x = 0xFF then .nan else ((fmtFp c).decode e).scale ((x : Int) - 127)

/-- The values that one MX group holds. -/
def groupVals (c : Nat) (bs : List Nat) : List Val :=
  (List.range 128).map fun k => mxVal c (nth bs (k / 32)) (mxElem c (bs.drop 4) k)

/-- The values that bytes hold in a format. -/
def decodeVals (c : Nat) (bs : List Nat) : List Val :=
  if fmtMx c then
    (List.range (bs.length / groupBytes c)).flatMap fun g =>
      groupVals c ((bs.drop (g * groupBytes c)).take (groupBytes c))
  else
    let w := fmtBits c / 8
    (List.range (bs.length / w)).map fun k =>
      let x := ofLE ((bs.drop (k * w)).take w)
      if fmtInt c then ofInt (bitsInt (8 * w) x) 0 else (fmtFp c).decode x

/-- What an encoding counted: the elements saturated by conversion to INT8 or INT32 (R224), and the
histogram bins of its elements. -/
structure EncStat where
  sats : Nat := 0
  bins : List Nat := []
  deriving DecidableEq, Repr

/-- The histogram bin of a floating-point element (R234): `sub` whether its encoding is subnormal. -/
def binOf (v : Val) (sub : Bool) : Nat :=
  match v with
  | .nan => 63
  | .inf _ => 63
  | .fin _ m e =>
    if m = 0 then 0
    else
      let g := ilog m e
      if sub ∨ g < -30 then 1 else if 30 ≤ g then 62 else (g + 32).toNat

/-- The histogram bin of an integer element. -/
def binInt (i : Int) : Nat := if i = 0 then 0 else 2 + Nat.log2 i.natAbs

/-- Whether an encoding has a zero exponent field. -/
def Fp.isSub (f : Fp) (w : Nat) : Bool := w / 2 ^ f.mb % 2 ^ f.eb = 0

/-- One value written in a plain format: its bits, whether its conversion to an integer format saturated
(R224), and its bins, with bin 62 for a saturated one (R234). -/
def encodeOne (c : Nat) (v : Val) (inf : Bool) : Nat × Bool × List Nat :=
  if fmtInt c then
    let w := fmtBits c
    let (i, s) := toInt w v
    (intBits w i, s, if s then [binInt i, 62] else [binInt i])
  else
    let f := fmtFp c
    let b := (f.round v inf).1
    (b, false, [binOf (f.decode b) (f.isSub b)])

/-- The largest magnitude's ⌊log2⌋ among finite values, none when all are zero. -/
def amaxLog (vs : List Val) : Option Int :=
  vs.foldl (fun a v => match v with
    | .fin _ m e => if m = 0 then a else match a with
      | none => some (ilog m e)
      | some x => some (max x (ilog m e))
    | _ => a) none

/-- emax of an MX element format (R227). -/
def mxEmax (c : Nat) : Int :=
  if c = 8 then 8 else if c = 9 then 15 else if c = 10 then 4 else 2

/-- FP32's largest finite value. -/
def fp32Max (n : Bool) : Val := .fin n (2 ^ 24 - 1) 104

/-- A block of 32 FP32 values in an MX format (R227): scale byte and elements. -/
def toMxBlock (c : Nat) (vs : List Val) (inf : Bool) : Nat × List Nat :=
  let nanBlk : Nat × List Nat := (0xFF, vs.map fun _ => 0)
  if vs.any Val.isNan then nanBlk
  else if vs.any Val.isInf ∧ inf then nanBlk
  else
    let vs := vs.map fun v => match v with
      | .inf n => fp32Max n
      | v => v
    let x : Int := match amaxLog vs with
      | none => -127
      | some g => g - mxEmax c
    let big := decide (127 < x)
    let x := min (max x (-127)) 127
    if big && inf then nanBlk
    else
      ((x + 127).toNat, vs.map fun v => ((fmtFp c).round (v.scale (-x)) false).1)

/-- Element codes packed as R215 packs them. -/
def packElems (c : Nat) (es : List Nat) : List Nat :=
  if fmtBits c = 8 then es
  else if fmtBits c = 4 then
    (List.range (es.length / 2)).map fun j => nth es (2 * j) * 16 + nth es (2 * j + 1)
  else
    (List.range (es.length / 4)).flatMap fun j =>
      bytesBE 3 (nth es (4 * j) * 2 ^ 18 + nth es (4 * j + 1) * 2 ^ 12 + nth es (4 * j + 2) * 64
        + nth es (4 * j + 3))

/-- A whole group of 128 values in an MX format. -/
def encodeGroup (c : Nat) (vs : List Val) (inf : Bool) : List Nat × EncStat :=
  let blks := (List.range 4).map fun b => toMxBlock c ((vs.drop (32 * b)).take 32) inf
  let es := blks.flatMap fun b => b.2
  let bins := blks.flatMap fun b => b.2.map fun e =>
    let v := mxVal c b.1 e
    binOf v ((fmtFp c).isSub e)
  (blks.map (fun b => b.1) ++ packElems c es, { bins := bins })

/-- Values written in a format (R218, R223, R227), with what was counted (R234). -/
def encodeVals (c : Nat) (vs : List Val) (inf : Bool) : List Nat × EncStat :=
  if fmtMx c then
    let gs := (List.range (vs.length / 128)).map fun g =>
      encodeGroup c ((vs.drop (128 * g)).take 128) inf
    (gs.flatMap fun g => g.1, { bins := gs.flatMap fun g => g.2.bins })
  else
    let es := vs.map fun v => encodeOne c v inf
    (es.flatMap fun e => bytesLE (fmtBits c / 8) e.1,
     { sats := (es.filter fun e => e.2.1).length, bins := es.flatMap fun e => e.2.2 })

/-- A histogram of 64 bins with more elements counted, saturating (R235). -/
def histAdd (h : List Nat) (bins : List Nat) : List Nat :=
  (List.range 64).map fun i => min 0xFFFFFFFF (nth h i + bins.count i)

/-! ### The classes (R228 to R231) -/

/-- A FAST step (R228): terms aligned to the largest exponent with 3 guard bits, truncated, summed and
rounded once. -/
def fastStep (acc : Option Val) (terms : List Val) (inf : Bool) : Nat :=
  let vs := acc.toList ++ terms
  if vs.any Val.special then round32 (specialSum vs) inf
  else
    match amaxLog vs with
    | none => round32 (.fin (zeroSign vs) 0 0) inf
    | some g =>
      let k := g - 26
      let s := vs.foldl (fun a v => a + v.atUnit k) (0 : Int)
      if s = 0 then 0 else round32 (ofInt s k) inf

/-- An FP32 addition (R218, R221 to R223). -/
def add32 (a b : Nat) (inf : Bool) : Nat := round32 (exactSum [of32 a, of32 b]) inf

/-- Consecutive pieces of `n` elements; `fuel` bounds the pieces. -/
def piecesOf {α : Type} : Nat → Nat → List α → List (List α)
  | 0, _, _ => []
  | f + 1, n, l => match l with
    | [] => []
    | _ => l.take n :: piecesOf f n (l.drop n)

/-- An EXACT dot product of products, with an optional accumulator (R230). -/
def exactDot (ps : List Val) (c : Option Nat) (inf : Bool) : Nat :=
  let sums := (piecesOf ps.length 16 ps).map fun b => round32 (exactSum b) inf
  match c, sums with
  | some c, ss => ss.foldl (fun a s => add32 a s inf) c
  | none, [] => 0
  | none, s :: ss => ss.foldl (fun a s => add32 a s inf) s

/-- A FAST dot product: 32 terms a step, in ascending order (R229). -/
def fastDot (ps : List Val) (c : Option Nat) (inf : Bool) : Nat :=
  let r := (piecesOf ps.length 32 ps).foldl (fun a b => some (fastStep (a.map of32) b inf)) c
  r.getD 0

/-- An INT32 dot product, which wraps (R224). -/
def intDot (ps : List Val) (c : Nat) : Nat :=
  intBits 32 (ps.foldl (fun a v => a + v.atUnit 0) (bitsInt 32 c))

/-- An INT32 addition and whether it wrapped (R224). -/
def addInt32 (a b : Nat) : Nat × Bool :=
  let s := bitsInt 32 a + bitsInt 32 b
  (intBits 32 s, decide (s < -(2 ^ 31) ∨ 2 ^ 31 ≤ s))

end Sys2Proof.Machine
end

