-- ==== Sys2Proof/Machine/Route.lean ====
section
/-! DEFINITION. Route lookup (spec/06, R168 to R176, R185): windows, the spray hash, exclusions,
the order of R174 and the egress VC. -/

namespace Sys2Proof.Machine

/-- The outcome of a lookup (R174). -/
inductive RouteRes
  | refuse (reason : Nat)
  | port (p vc : Nat)
  | loc (tgt : Nat)
  | mcast (slots : List Slot) (noPath : Nat)
  deriving DecidableEq, Repr

def rNoRoute : Nat := 0x30
def rNoPath : Nat := 0x31
def rRouteCheck : Nat := 0x32
def rNotAdmitted : Nat := 0x17

/-- The active bank of a quadrant. -/
def Dev.bank (d : Dev) (q : Nat) : Bank := (d.net.banks.get q ({}, {})).1

/-- The attribute of a port in the active bank of its quadrant. -/
def Dev.attr (d : Dev) (q p : Nat) : PortAttr := (d.bank q).attrs.get p {}

/-- The window of a destination (R168). -/
def findWindow (b : Bank) (dst : Nat) : Option Window :=
  b.windows.find? fun w => w.v && decide (w.base ≤ dst) && decide (dst ≤ w.limit)

/-- The route entry of a destination; none when no window matches (R168). -/
def lookupRoute (b : Bank) (dst : Nat) : Option RouteEnt :=
  if dst = 0xFFFFE ∨ dst = 0xFFFFF then none
  else match findWindow b dst with
    | none => none
    | some w => some (b.routes.get (w.tbase + ((dst - w.base) >>> w.shift)) {})

/-- The spray hash H (R172). -/
def sprayHash (dst src entropy salt : Nat) : Nat :=
  crc32c (bytesBE 8 (dst * 2 ^ 44 + src * 2 ^ 24 + entropy * 2 ^ 12 + salt))

/-- Whether a port is excluded for a reason other than a reach-group mask (R173). -/
def Dev.localExcl (d : Dev) (p : Nat) : Bool :=
  !(d.formed p) || d.linkState p ≤ lsConfirm
    || (d.linkState p = lsUp && !(d.admitted p))
    || (d.net.portRoute.get p {}).mismatch

/-- Whether a port is excluded for an entry of reach group `rgrp` (R173). -/
def Dev.excluded (d : Dev) (q p rgrp : Nat) : Bool :=
  d.localExcl p || (rgrp != 0 && (d.net.masks.get (q, rgrp) []).contains p)

/-- The slots of a spray set (R170). -/
def setSlots (b : Bank) (set : Nat) : List Slot :=
  let s := b.sets.get set {}
  (List.range s.n).map fun i => b.slots.get (s.base + i) {}

/-- The primary slot of a set (R173). -/
def primarySlot (h n : Nat) : Nat := (h / 2 ^ 16 * n) >>> 16

/-- The slot chosen from a set, and whether it is a survivor of an excluded primary (R173). -/
def Dev.select (d : Dev) (q set rgrp h : Nat) : Option (Nat × Bool) :=
  let ss := setSlots (d.bank q) set
  let ps := ss.map Slot.tgt
  let p := nth ps (primarySlot h ps.length)
  if ps = [] then none
  else if !(d.excluded q p rgrp) then some (p, false)
  else
    let live := ps.filter fun x => !(d.excluded q x rgrp)
    if live = [] then none
    else some (nth live ((h % 2 ^ 16 * live.length) >>> 16), true)

/-- Whether torus mode is set in a quadrant (R189). -/
def Dev.torus (d : Dev) (q : Nat) : Bool := d.on R.RTE_HCFG_TORUS q

/-- The egress VC (R185). -/
def Dev.egressVc (d : Dev) (q vc ing p : Nat) : Nat :=
  if d.torus q && (vc = 2 || vc = 3) then
    let ain := if isPort ing then (d.attr q ing).axis else 0
    let a := d.attr q p
    if a.dline then 3 else if a.axis ≠ ain then 2 else vc
  else vc

/-- VC0, VC1, VC6 and VC7, which take PSET (R174). -/
def psetVc (vc : Nat) : Bool := vc = 0 || vc = 1 || vc = 6 || vc = 7

/-- Whether the primary port of a set is UP and not ADMITTED (R174). -/
def Dev.primaryUnadmitted (d : Dev) (q set h : Nat) : Bool :=
  let ps := (setSlots (d.bank q) set).map Slot.tgt
  let p := nth ps (primarySlot h ps.length)
  ps != [] && d.linkState p = lsUp && !(d.admitted p)

/-- The lookup of R174 for explicit header fields, and whether a survivor was taken. -/
def Dev.routeWith (d : Dev) (q dst src entropy vc ing : Nat) : RouteRes × Bool :=
  let b := d.bank q
  match lookupRoute b dst with
  | none => (.refuse rNoRoute, false)
  | some e =>
    if e.kind = 2 then (.loc e.set, false)
    else if e.kind = 3 then
      let ss := setSlots b e.set
      let live := ss.filter fun s => s.int || !(d.excluded q s.tgt e.rgrp)
      (.mcast live (ss.length - live.length), false)
    else if e.kind = 1 then
      let h := sprayHash dst src entropy (d.rd R.RTE_HCFG_SALT q)
      let s := if e.psetV && psetVc vc then e.pset else e.set
      let pick := match d.select q s e.rgrp h with
        | some x => some x
        | none => if e.altV then d.select q e.alt e.rgrp h else none
      match pick with
      | none => (.refuse (if d.primaryUnadmitted q s h then rNotAdmitted else rNoPath), false)
      | some (p, surv) =>
        if psetVc vc && (d.attr q p).dline && d.torus q then (.refuse rRouteCheck, surv)
        else (.port p (d.egressVc q vc ing p), surv)
    else (.refuse rNoRoute, false)

/-- The lookup of a packet in its home quadrant (R174). -/
def Dev.routePkt (d : Dev) (q : Nat) (k : Packet) (vc ing : Nat) : RouteRes × Bool :=
  d.routeWith q k.dst k.src k.entropy vc ing

/-- A refusal of the routing block counted, and its error bit (R192, R516). -/
def Dev.countRefusal (d : Dev) (q x : Nat) : Dev :=
  let d := d.count 0x06 q 1 x
  if x = rNoRoute then d.set R.RTE_ERR_NO_ROUTE_SEEN q
  else if x = rNoPath then d.set R.RTE_ERR_NO_PATH_SEEN q
  else if x = rRouteCheck then d.set R.RTE_ERR_ROUTE_CHECK_SEEN q else d

/-- The counters and error bits of a lookup (R192, R516). -/
def Dev.countRoute (d : Dev) (q : Nat) (r : RouteRes × Bool) : Dev :=
  let d := d.count 0x06 q 0 0
  let d := if r.2 then d.count 0x06 q 0 2 else d
  match r.1 with
  | .refuse x => d.countRefusal q x
  | _ => d

end Sys2Proof.Machine
end

