-- ==== Sys2Proof/Machine/Tel.lean ====
section
/-! DEFINITION. Observation as the traffic passes (spec/19): the counter generator (R449), tags and
trace records (R521 to R524), bunting rings (R525 to R528). -/

namespace Sys2Proof.Machine

/-! ### The counter generator (R449) -/

/-- Rotate a 32-bit word left. -/
def rotl32 (x n : Nat) : Nat := ((x <<< n) ||| (x >>> (32 - n))) % 2 ^ 32

/-- `n` rounds of the generator from round `r`. -/
def cgRounds : Nat → Nat → Nat → Nat → Nat → Nat → Nat
  | 0, _, _, _, _, b => b
  | n + 1, r, k0, k1, a, b =>
    let kr := ((if r % 2 = 0 then k0 else k1) + r * 0x9E3779B9) % 2 ^ 32
    let f := (rotl32 ((b + kr) % 2 ^ 32) 7) ^^^ ((b * 0x85EBCA6B) % 2 ^ 32)
    cgRounds n (r + 1) k0 k1 b (a ^^^ f)

/-- cg32 of a 64-bit key and counter (R449). -/
def cg32 (key ctr : Nat) : Nat :=
  cgRounds 10 0 (key % 2 ^ 32) (key / 2 ^ 32 % 2 ^ 32) (ctr % 2 ^ 32) (ctr / 2 ^ 32 % 2 ^ 32)

/-! ### Headers as on the wire (R93 to R96) -/

/-- The routing header, words 0 to 3 (R93). -/
def routeWords (k : Packet) : List Nat :=
  [k.pclass * 2 ^ 28 + k.burgee * 2 ^ 15 + k.hoplim * 2 ^ 9, k.dst * 2 ^ 12 + k.entropy,
   k.src * 2 ^ 12, k.tag]

/-- The header of a packet: 8 words for a pennant (R94), 12 for a streamer (R96). -/
def headerWords (k : Packet) : List Nat :=
  routeWords k ++
  if k.pclass = 1 then
    [k.typ * 2 ^ 28 + k.opcode * 2 ^ 20 + k.len * 2 ^ 12 + b2n k.nidem * 2 ^ 11
        + b2n k.ts * 2 ^ 10, k.arg5, k.arg6, k.arg7]
  else
    [k.typ * 2 ^ 28 + k.len * 2 ^ 15 + b2n k.exact * 2 ^ 14 + k.fmt * 2 ^ 8 + k.epoch, k.collId,
     k.contrib * 2 ^ 14, k.offset / 2 ^ 32, k.offset % 2 ^ 32, k.region,
     k.trigger * 2 ^ 15 + b2n k.trigV * 2 ^ 14, 0]

/-- Words of payload bytes, most significant byte first (R7). -/
def wordsBE (bs : List Nat) (n : Nat) : List Nat :=
  (List.range n).map fun i => ofBE ((List.range 4).map fun j => nth bs (4 * i + j))

/-- The first 48 B of a packet as on the wire (R526). -/
def head48 (k : Packet) : List Nat :=
  if k.pclass = 1 then headerWords k ++ wordsBE k.payload 4 else headerWords k

/-! ### Rates (R524, R527) -/

/-- Whether one more of `kind` for instance `i` fits the limit of the running second, and the
device with it counted (assumption log, row 21). -/
def Dev.rateOk (d : Dev) (kind i limit : Nat) : Dev × Bool :=
  let sec := d.now / 1000000000
  let (s, n) := d.tel.rate.get (kind, i) (sec, 0)
  let n := if s = sec then n else 0
  if n < limit then
    ({ d with tel := { d.tel with rate := d.tel.rate.put (kind, i) (sec, n + 1) } }, true)
  else (d, false)

/-! ### Trace records (R523, R524) -/

/-- A record of 16 words written to a quadrant's trace ring, with its SEQ in word 14; a record beyond
the rate is dropped, counted and sets TRACE_DROP (R524). -/
def Dev.traceWrite (d : Dev) (q : Nat) (ws : List Nat) : Dev :=
  match d.rateOk 0 q 1000000 with
  | (d, false) => (d.count 0x14 q 0 1).set R.TEL_ERR_TRACE_DROP
  | (d, true) =>
    let seq := d.tel.traceSeq.get q 0
    let ring := d.tel.trace.get q [] ++ [setAt ws 14 seq]
    let cap := 2 ^ d.rd R.TEL_TAGCFG_TRACE_LOG2
    let ring := ring.drop (ring.length - cap)
    { d with tel := { d.tel with trace := d.tel.trace.put q ring
                                 traceSeq := d.tel.traceSeq.put q ((seq + 1) % 2 ^ 32) } }

/-- A time after T0, 0xFFFF_FFFF when it does not apply (R523). -/
def since (t0 : Nat) (t : Option Nat) : Nat :=
  match t with
  | some t => (t - t0) % 2 ^ 32
  | none => 0xFFFFFFFF

/-- The trace record of a packet (R523): `pool` 4 for a ring, `first` the first holder's port or
0x1FF, `freed` whether its storage was freed just now. -/
def Dev.tracePacket (d : Dev) (q : Nat) (k : Packet) (ing vc : Nat) (t : Trace)
    (pool flits first nHold reason : Nat) (freed : Bool) : Dev :=
  d.traceWrite q
    [2 ^ 28 + ing % 2 ^ 12 * 2 ^ 16 + vc * 2 ^ 13, t.t0 / 2 ^ 32, t.t0 % 2 ^ 32,
     since t.t0 t.routed, since t.t0 t.stored, since t.t0 t.chosen, since t.t0 t.sent,
     since t.t0 (if freed then some d.now else none),
     first % 512 + nHold % 128 * 2 ^ 9 + flits % 128 * 2 ^ 16 + pool * 2 ^ 23,
     t.depth, k.src * 2 ^ 12, k.dst * 2 ^ 12, k.tag, reason % 256 + k.burgee * 2 ^ 8, 0, 0]

/-- Whether item `n` of an instance is tagged under a LOG2 (R522). -/
def Dev.tagged (d : Dev) (inst n log2 : Nat) : Bool :=
  log2 != 0 && cg32 d.tel.tagKey (inst * 2 ^ 48 + n) >>> (32 - log2) == 0

/-- The tag of a packet whose first flit an ingress has checked, and the ingress count advanced
(R522). -/
def Dev.tagPacket (d : Dev) (ing : Nat) : Dev × Option Trace :=
  let n := d.tel.tagN.get ing 0
  let d' := { d with tel := { d.tel with tagN := d.tel.tagN.put ing (n + 1) } }
  if d.tagged ing n (d.rd R.TEL_TAGCFG_PKT_LOG2) then
    (d'.count 0x14 (quadOf ing) 0 0, some { t0 := d.now })
  else (d', none)

/-! ### Bunting rings (R526 to R528) -/

def Dev.setBunt (d : Dev) (p : Nat) (r : BuntRing) : Dev :=
  { d with tel := { d.tel with bunting := d.tel.bunting.put p r } }

/-- One entry captured in a port's ring under the rates of R527; a FREEZE ring counts down its
entries after the trigger (R528). -/
def Dev.buntEntry (d : Dev) (p : Nat) (r : BuntRing) (kind dir vc seq flits : Nat) (stomp : Bool)
    (hdr : List Nat) : Dev :=
  if r.frozen then d else
  let (d, a) := d.rateOk 1 p 16000000
  let (d, b) := if a then d.rateOk 2 (p / 128) 64000000 else (d, false)
  if b then
    let e := [kind * 2 ^ 30 + dir * 2 ^ 29 + vc * 2 ^ 26 + min r.gap 1023 * 2 ^ 16 + seq % 2 ^ 16,
      d.now / 2 ^ 32, d.now % 2 ^ 32, flits % 128 + b2n stomp * 128]
      ++ (hdr ++ List.replicate 12 0).take 12
    let es := r.entries ++ [e]
    let es := es.drop (es.length - 2 ^ r.log2)
    let r := { r with entries := es, gap := 0 }
    let r := match r.leftAfter with
      | some n => { r with leftAfter := some (n - 1), frozen := decide (n ≤ 1) }
      | none => r
    (d.setBunt p r).count 0x14 (p / 128) 0 2
  else
    ((d.setBunt p { r with gap := r.gap + 1 }).count 0x14 (p / 128) 0 3).set R.TEL_ERR_BUNT_DROP

/-- A packet's header captured: direction 0 receive, 1 transmit (R526). -/
def Dev.buntPacket (d : Dev) (p dir vc seq : Nat) (k : Packet) (stomp : Bool) : Dev :=
  match d.tel.bunting.look p with
  | none => d
  | some r =>
    if bitOf r.dir dir ∧ bitOf r.vcmask vc then
      d.buntEntry p r 0 dir vc seq (flitsOf k) stomp (head48 k)
    else d

/-- A halyard word captured (R526). -/
def Dev.buntHaly (d : Dev) (p dir : Nat) (w : Haly) : Dev :=
  match d.tel.bunting.look p with
  | none => d
  | some r =>
    if r.haly ∧ bitOf r.dir dir then
      d.buntEntry p r 1 dir 0 w.hseq 0 false
        [w.htype * 2 ^ 24 + w.hseq * 2 ^ 16 + w.b1 * 2 ^ 8 + w.b0, w.w1, w.w2, w.w3]
    else d

/-- The word of a register as a number, from its fields (R584). -/
def Dev.regWord (d : Dev) (fs : List Fld) (i : Nat := 0) (k : Nat := 0) : Nat :=
  fs.foldl (fun a f => a + d.rd f i k * 2 ^ f.lo) 0

/-- A link state change captured, with LNK.STAT and LNK.HSTAT (R526). -/
def Dev.buntLink (d : Dev) (p : Nat) : Dev :=
  match d.tel.bunting.look p with
  | none => d
  | some r =>
    if r.linkCh then
      d.buntEntry p r 2 0 0 0 0 false
        [d.regWord [R.LNK_STAT_STATE, R.LNK_STAT_ADMITTED, R.LNK_STAT_VER, R.LNK_STAT_LANES,
            R.LNK_STAT_RTT] p,
         d.regWord [R.LNK_HSTAT_PAUSED_BY_PEER, R.LNK_HSTAT_PAUSED_AT_PEER,
            R.LNK_HSTAT_INDEF] p]
    else d

/-- A freeze trigger on a port's ring (R528): a WRAP ring ignores it unless a command makes it. -/
def Dev.buntTrigger (d : Dev) (p : Nat) (cmd : Bool := false) : Dev :=
  match d.tel.bunting.look p with
  | none => d
  | some r =>
    if (r.freeze || cmd) && r.leftAfter == none && !r.frozen then
      d.setBunt p (if r.freeze && r.freezeAfter != 0 then { r with leftAfter := some r.freezeAfter }
        else { r with leftAfter := some 0, frozen := true })
    else d

end Sys2Proof.Machine
end

