-- ==== Sys2Proof/Machine/Buffer.lean ====
section
/-! DEFINITION. The shared buffer (spec/05): pools and rings (R144 to R152, R203), stored packets
and their holders (R153, R154), egress queues (R140, R163), the failure records that wait for the
record generator (R165, R476) and the quench filter (R206). -/

namespace Sys2Proof.Machine

/-! ### Failure records waiting (R165, R476) -/

/-- ITEM of a packet (R476): contributions, results, dispatch tokens, store writes and serve
requests by type, everything else a packet (assumption log, row 20). -/
def itemOf (k : Packet) : Nat :=
  if k.pclass = 2 then
    (if k.typ = 1 then 1 else if k.typ = 2 then 2 else if k.typ = 3 then 8
     else if k.typ = 4 then 6 else if k.typ = 5 then 5 else 0)
  else if k.typ = 5 then 6 else if k.typ = 2 then 4 else 0

/-- NAME of a packet's record (R476). -/
def nameOf (k : Packet) : Nat :=
  let i := itemOf k
  if i = 1 ∨ i = 2 ∨ i = 8 then k.collId else if k.pclass = 2 ∧ k.typ = 0 then k.region else 0

/-- The failure record of a packet (R476). -/
def Dev.pktRec (d : Dev) (k : Packet) (vc ing reason blk inst : Nat) (status : Nat := 0) : FailRec :=
  { reason := reason, item := itemOf k, burgee := k.burgee, dst := k.src, entropy := k.entropy,
    tag := k.tag, vc := vc, cls := k.pclass - 1, typ := k.typ, itemDst := k.dst, name := nameOf k,
    status := status, blk := blk, inst := inst, at_ := d.now, offset := k.offset,
    toBlock := if isPort ing then none else some ing,
    histOnly := k.pclass = 2 && k.typ = 6 && !(isPort ing) }

/-- A failure record handed to the record generator of quadrant `q`.  No record is raised about a
FAIL pennant, whose discard sets FLT.ERR.FAIL_DROP (R478). -/
def Dev.record (d : Dev) (q : Nat) (r : FailRec) : Dev :=
  if r.cls = 0 ∧ r.typ = 4 ∧ r.item = 0 then d.set R.FLT_ERR_FAIL_DROP
  else { d with net := { d.net with recq := d.net.recq.put q (d.net.recq.get q [] ++ [r]) } }

/-- Whether the record generator of a quadrant has room for another record (R165). -/
def Dev.recRoom (d : Dev) (q : Nat) : Bool := (d.net.recq.get q []).length < 65536

/-! ### Halyard words out (R120, R121) -/

/-- A new halyard word for the peer of port `p`, with the next HSEQ of its type; PAUSE, QUENCH,
ABORT and REMOTE_RESET go out three times, TIME once (R120, R127). -/
def Dev.sendHaly (d : Dev) (p htype b1 b0 w1 w2 w3 : Nat) : Dev :=
  let l := d.link p
  let hs := (l.halySeq.get htype 0 + 1) % 256
  let w : Haly := ⟨htype, hs, b1, b0, w1, w2, w3⟩
  (d.setLink p { l with
    halySeq := l.halySeq.put htype hs
    halyOut := l.halyOut ++ [⟨w, if htype = 3 then 1 else 3⟩] }).count 0x03 p 2 htype

/-- A PAUSE of `mask` for PTIME µs on one port (R123), with LNK.HSTAT.PAUSED_AT_PEER. -/
def Dev.sendPause (d : Dev) (p mask ptime : Nat) : Dev :=
  let d := d.sendHaly p 1 mask 0 (ptime * 2 ^ 16) 0 0
  let cur := d.rd R.LNK_HSTAT_PAUSED_AT_PEER p
  d.wr R.LNK_HSTAT_PAUSED_AT_PEER
    (if ptime = 0 then maskOf ((maskBits cur 8).filter fun v => !(bitOf mask v))
     else maskOf ((List.range 8).filter fun v => bitOf cur v || bitOf mask v)) p

/-- VC0 to VC6. -/
def vc06 : Nat := 0x7F

/-! ### Pools (R145 to R150, R203) -/

def cellFlits (k : Nat) : Nat := if k = 0 then 1 else if k = 1 then 4 else if k = 2 then 16 else 68
def cellBytes (k : Nat) : Nat := 256 * cellFlits k

/-- The smallest enabled pool whose cell holds `f` flits, with one cell; or the largest enabled
pool with a chain (R145, R146). -/
def Dev.poolFor (d : Dev) (q f : Nat) : Option (Nat × Nat) :=
  let en := (List.range 4).filter fun k => d.rdBit R.BPM_PCFG_EN k q
  match en.find? fun k => f ≤ cellFlits k with
  | some k => some (k, 1)
  | none => match en.getLast? with
    | some k => some (k, ceilDiv f (cellFlits k))
    | none => none

/-- The cells of a pool that are not free: in use, quarantined or retired. -/
def Dev.busyCells (d : Dev) (q k : Nat) : List Nat :=
  (d.net.pools.get (q, k) []).map CellUse.cell ++ d.net.quarantined.get (q, k) []
    ++ d.net.retiredCells.get (q, k) []

/-- The free cells of a pool, lowest first (R150). -/
def Dev.freeCells (d : Dev) (q k : Nat) : List Nat :=
  let busy := d.busyCells q k
  (List.range (d.rd R.BPM_PPOOL_CELLS q k)).filter fun c => !(busy.contains c)

/-- BPM.PFREE and BPM.PSTAT.EMPTY brought up to date. -/
def Dev.syncPool (d : Dev) (q k : Nat) : Dev :=
  let n := (d.freeCells q k).length
  (d.wr R.BPM_PFREE_FREE n q k).wrBit R.BPM_PSTAT_EMPTY k (decide (n = 0) && bitOf (d.rd R.BPM_PCFG_EN q) k) q

/-- ALPHA as a fraction (R149, BPM.PCFG.ALPHA); none for no limit. -/
def alphaOf (a : Nat) : Option (Nat × Nat) :=
  if a = 7 then none else if a < 3 then some (1, 2 ^ (3 - a)) else some (2 ^ (a - 3), 1)

/-- Pool bytes held by packets of a burgee in a quadrant (R203). -/
def Dev.burgeeBytes (d : Dev) (q b : Nat) : Nat :=
  (List.range 4).foldl (fun n k =>
    n + cellBytes k * ((d.net.pools.get (q, k) []).filter fun c => c.burgee = b).length) 0

/-- Requester code of a source (R516, BPM group 0). -/
def requester (src : Nat) : Nat := if isPort src then 0 else 1 + (src - 512) % 8

/-- The burgee table entry of a quadrant. -/
def Dev.burgeeEnt (d : Dev) (q b : Nat) : BurgeeEnt := d.net.burgees.get (q, b) {}

/-- A pool allocation for a packet of `f` flits (R145 to R149, R203).  Answers the cells, or
nothing with the marks of a failed allocation (R148). -/
def Dev.alloc (d : Dev) (q f src burgee vc : Nat) : Dev × Option (Nat × List Nat) :=
  match d.poolFor q f with
  | none => (d, none)
  | some (k, n) =>
    let fr := d.freeCells q k
    let held := ((d.net.pools.get (q, k) []).filter fun c => c.src = src).length
    let srcOk := match alphaOf (d.rd R.BPM_PCFG_ALPHA q) with
      | none => true
      | some (a, b) => decide (held * b ≤ a * fr.length)
    let quota := (d.burgeeEnt q burgee).quota
    let quotaOk := vc = 7 || quota = 0xFFFF
      || d.burgeeBytes q burgee + n * cellBytes k ≤ quota * 4096
    if fr.length < n ∨ srcOk = false ∨ quotaOk = false then
      let d := d.count 0x05 q 0 (4 * requester src + k)
      let d := if fr.length = 0 then d.wrBit R.BPM_PSTAT_EMPTY_SEEN k true q else d
      let d := if quotaOk then d else d.count 0x07 (0x400 + burgee) 0 0
      (d, none)
    else
      let cs := fr.take n
      let us := cs.map fun c => (⟨c, src, if vc = 7 then 512 else burgee⟩ : CellUse)
      let d := { d with net := { d.net with
        pools := d.net.pools.put (q, k) (d.net.pools.get (q, k) [] ++ us) } }
      let d := if n > 1 then d.count 0x05 q 1 k else d
      (d.syncPool q k, some (k, cs))

/-! ### Rings (R144, R150 to R152) -/

/-- Slots of a ring: the profile's for a port, the fixed rings of R144 for an attach point. -/
def Dev.ringSize (d : Dev) (e v : Nat) : Nat :=
  if isPort e then d.rd R.BPM_RING_SIZE e v
  else if (e - 512) % 8 = 4 then (if v = 1 then 256 else 0) else 136

def Dev.ring (d : Dev) (e v : Nat) : List RingEnt := d.net.rings.get (e, v) []

/-- Slots from head to tail, with released slots behind an unreleased one. -/
def ringOcc (l : List RingEnt) : Nat := l.foldl (fun n r => n + r.slots) 0

def Dev.setRing (d : Dev) (e v : Nat) (l : List RingEnt) : Dev :=
  let d := { d with net := { d.net with rings := d.net.rings.put (e, v) l } }
  if isPort e then d.wr R.BPM_RING_OCC (ringOcc l) e v else d

/-- Room in an internal attach point's fixed ring (R147). -/
def Dev.ringRoom (d : Dev) (e v f : Nat) : Bool :=
  ringOcc (d.ring e v) + f ≤ d.ringSize e v

/-! ### Credits returned to a peer (R113, R151) -/

/-- The VCs that exist only under AFP 3.0 (R135). -/
def needsAfp3 (vc : Nat) : Bool := vc = 4 || vc = 5

/-- `n` credits returned on VC `v` of port `p`: the cumulative count advances, and the time of the
first unreported credit is kept.  A link that is neither UP nor in RESYNC, and VC0 to VC6 of a link
that is not admitted, are granted their free slots when they come to be granted any (R131, R134). -/
def Dev.returnCredit (d : Dev) (p v n : Nat) : Dev :=
  if n = 0 ∨ (d.linkState p ≠ lsUp ∧ d.linkState p ≠ lsResync) ∨ (v ≠ 7 ∧ d.admitted p = false)
    ∨ (d.afp21 p ∧ needsAfp3 v) then d else
  let l := d.link p
  let l := { l with
    returned := setAt l.returned v (nth l.returned v + n)
    granted := setAt l.granted v (nth l.granted v + n)
    unrepAt := setAt l.unrepAt v (match l.unrepAt.getD v none with
      | some t => some t
      | none => some d.now) }
  (d.setLink p l).wrSat R.LNK_CRED_GRANTED (nth l.granted v - nth l.accepted v) p v

/-- HUB.DEVFEID, the source of the device's own packets. -/
def Dev.devFeid (d : Dev) : Nat := d.rd R.HUB_DEVFEID_FEID

/-! ### Mirror copies (R529 to R531) -/

/-- The egress and depth limit test of a session's copy: the port whose VC6 queue takes it, or the reason of
a refused lookup (R530). -/
def Dev.mirrorPort (d : Dev) (q : Nat) (m : Mirror) : Except Nat Nat :=
  if m.remote then
    match (d.routeWith q m.rfeid d.devFeid 0 6 (attach q 3)).1 with
    | .port p _ => .ok p
    | .refuse r => .error r
    | _ => .error rNoRoute
  else .ok m.aport

/-- The port that a packet matches in a session, with 0 for receive and 1 for transmit; none when it does not
match (R529). -/
def mirrorMatch (m : Mirror) (k : Packet) (ing vc : Nat) (hs : List Holder) : Option (Nat × Nat) :=
  let rest := m.en && bitOf m.vcmask vc && (!m.bV || m.burgee = k.burgee)
    && (!m.feidV || m.feid = (if m.feidDst then k.dst else k.src))
  if rest = false then none
  else if m.portV = false then some (ing % 512, 0)
  else if bitOf m.dir 0 && isPort ing && ing = m.port then some (ing, 0)
  else if bitOf m.dir 1 && hs.any (fun h => h.eg = m.port && !h.mirror) then some (m.port, 1)
  else none

/-- The MIRROR streamer of a session's copy (R530). -/
def Dev.mirrorPkt (d : Dev) (m : Mirror) (sess : Nat) (k : Packet) (vc port dir stamp : Nat) : Packet :=
  let orig := (headerWords k).flatMap (bytesBE 4) ++ k.payload
  let hdr := [sess * 2 ^ 28 + dir * 2 ^ 27 + vc * 2 ^ 24 + port, stamp / 2 ^ 32, stamp % 2 ^ 32,
    orig.length].flatMap (bytesBE 4)
  let body := hdr ++ orig.take (4 * m.trunc)
  let body := body ++ List.replicate (256 - body.length) 0
  let body := body ++ List.replicate ((4 - body.length % 4) % 4) 0
  { pclass := 2, burgee := 0, hoplim := 63, dst := if m.remote then m.rfeid else 0xFFFFE
    src := d.devFeid, tag := m.copies, typ := 6, len := body.length / 4, payload := body }

/-- The copies of a packet as it is stored: at most four, by ascending session, each with its holder (R530).  A
copy not made is counted; one whose lookup is refused has its record in the history queue alone (R531). -/
def Dev.mirrorCopies (d : Dev) (k : Packet) (ing vc : Nat) (hs : List Holder) (stamp : Nat) :
    Dev × List (Holder × Packet) :=
  let q := quadOf ing
  (List.range 16).foldl (fun (a : Dev × List (Holder × Packet)) sess =>
    let d := a.1
    let m := d.tel.mirrors.get sess {}
    match mirrorMatch m k ing vc hs with
    | none => a
    | some (port, dir) =>
      let drop (d : Dev) : Dev := (d.count 0x14 q 0 5).set R.TEL_ERR_MIRROR_DROP
      match d.mirrorPort q m with
      | .error r =>
        let c := d.mirrorPkt m sess k vc port dir stamp
        (drop (d.record q { d.pktRec c 6 (attach q 3) r 0x14 q with histOnly := true }), a.2)
      | .ok p =>
        let depth := ((d.net.queues.get (p, 6) {}).descs).foldl (fun n c => n + c.flits) 0
        if 4 ≤ a.2.length ∨ m.maxDepth ≤ depth then (drop d, a.2)
        else
          let c := d.mirrorPkt m sess k vc port dir stamp
          let m' := { m with copies := (m.copies + 1) % 2 ^ 32 }
          let d := { d with tel := { d.tel with mirrors := d.tel.mirrors.put sess m' } }
          (d.count 0x14 q 0 4, a.2 ++ [(⟨p, 6, 0x2000 + sess, true⟩, c)])) (d, [])

/-! ### Storing a packet (R139, R147, R153) -/

/-- A packet stored in its home quadrant with its reference count set: in pool cells when the
allocation succeeds, else in the ring of its source.  `got` flits have arrived.  Nothing when an
internal attach point's ring lacks room (R147).  Mirror copies are further holders, whose descriptors cross to
their queues (R530). -/
def Dev.storePkt (d : Dev) (k : Packet) (ing vc got : Nat) (hs : List Holder) (tag : Option Trace)
    (ctx : Option Nat := none) (stamp : Option Nat := none) : Dev × Option Nat :=
  let q := quadOf ing
  let f := flitsOf k
  let pid := d.net.nextPid
  let rg := !(isPort ing) && (ing - 512) % 8 = 4
  let (d, a) := if rg then (d, none) else d.alloc q f ing k.burgee vc
  let add (d : Dev) (st : Storage) : Dev :=
    let (d, ms) := d.mirrorCopies k ing vc hs (stamp.getD d.now)
    let all := hs ++ ms.map Prod.fst
    let s : Stored :=
      { pkt := k, ing := ing, vc := vc, home := q, flits := f, have_ := got, store := st,
        count := all.length, holders := all, tag := tag, ctx := ctx, patch := ms }
    { d with net := { d.net with
      nextPid := pid + 1
      pkts := d.net.pkts.put pid s
      crossing := d.net.crossing ++ ms.map fun m => (pid, m.1) } }
  match a with
  | some (pk, cs) =>
    let d := add d (.pool q pk cs)
    (if isPort ing then d.returnCredit ing vc got else d, some pid)
  | none =>
    if isPort ing ∨ d.ringRoom ing vc f then
      ((add d (.ring ing vc f)).setRing ing vc (d.ring ing vc ++ [⟨pid, f, false, none⟩]), some pid)
    else (d, none)

def Dev.pkt? (d : Dev) (pid : Nat) : Option Stored := d.net.pkts.look pid
def Dev.setPkt (d : Dev) (pid : Nat) (s : Stored) : Dev :=
  { d with net := { d.net with pkts := d.net.pkts.put pid s } }

/-- The credits returned as a ring's head passes its leading released entries, and the ring left. -/
def ringAdvance : List RingEnt → Nat × List RingEnt
  | [] => (0, [])
  | r :: t =>
    if r.freed then ((ringAdvance t).1 + r.cred.getD r.slots, (ringAdvance t).2) else (0, r :: t)

/-- The storage of a packet freed (R150, R151, R161): cells return to the bitmap, but for a cell
whose readback failed, which is retired; ring slots are freed and the head advances, returning
their credits. -/
def Dev.freeStorage (d : Dev) (pid : Nat) (s : Stored) (badCell : Option Nat) : Dev :=
  match s.store with
  | .pool q k cs =>
    let left := (d.net.pools.get (q, k) []).filter fun c => !(cs.contains c.cell)
    let bad := match badCell with
      | some c => if cs.contains c then [c] else []
      | none => []
    let d := { d with net := { d.net with
      pools := d.net.pools.put (q, k) left
      retiredCells := d.net.retiredCells.put (q, k) (d.net.retiredCells.get (q, k) [] ++ bad) } }
    let d := if bad = [] then d else d.bump R.BPM_PSTAT_RETIRED q
    d.syncPool q k
  | .ring e v _ =>
    let (n, r) := ringAdvance ((d.ring e v).map fun x =>
      if x.pid = pid then { x with freed := true } else x)
    let d := d.setRing e v r
    let d := match badCell with
      | some _ => { d with net := { d.net with
          badSlots := d.net.badSlots.put s.home (d.net.badSlots.get s.home 0 + 1) } }
      | none => d
    if isPort e then d.returnCredit e v n else d

/-- The end of a tagged packet's trace (R523): one record in its quadrant's trace ring, written
when the storage is freed. -/
def Dev.traceEnd (d : Dev) (s : Stored) : Dev :=
  match s.tag with
  | none => d
  | some t =>
    let pool := match s.store with
      | .pool _ k _ => k
      | .ring _ _ _ => 4
    d.tracePacket s.home s.pkt s.ing s.vc t pool s.flits t.first t.nHold 0 true

/-- A holder of a stored packet releases it (R154): the count falls by one, and the release that
brings it to zero frees the storage.  A holder that has released already changes nothing here. -/
def Dev.release (d : Dev) (pid : Nat) (h : Holder) : Dev :=
  match d.pkt? pid with
  | none => d
  | some s =>
    if s.holders.contains h then
      let s := { s with holders := s.holders.erase h, count := s.count - 1,
                        begun := s.begun.erase h, done := s.done.erase h }
      let d := d.count 0x05 s.home 2 0
      if s.count = 0 then
        let d := { d with net := { d.net with pkts := d.net.pkts.del pid } }
        (d.freeStorage pid s s.eccAt).traceEnd s
      else d.setPkt pid s
    else d

/-! ### Egress queues (R140, R163, R195 to R197, R205, R209) -/

def Dev.queue (d : Dev) (e v : Nat) : Queue := d.net.queues.get (e, v) {}
def Dev.setQueue (d : Dev) (e v : Nat) (x : Queue) : Dev :=
  { d with net := { d.net with queues := d.net.queues.put (e, v) x } }

/-- Depth of a queue in flits (R209); descriptors marked for a flush count (R165). -/
def queueDepth (x : Queue) : Nat := x.descs.foldl (fun n c => n + c.flits) 0

/-- The register block instance and element of a queue: a port's queue registers, or those of
attach point a (instance 8q + a). -/
def qreg (f g : Fld) (e : Nat) : Fld × Nat := if isPort e then (f, e) else (g, e - 512)

def Dev.qget (d : Dev) (f g : Fld) (e v : Nat) : Nat :=
  d.rd (qreg f g e).1 (qreg f g e).2 v

def Dev.qWeight (d : Dev) (e v : Nat) : Nat :=
  max 1 (d.qget R.SCH_QCFG_WEIGHT R.SCH_AQCFG_WEIGHT e v)
def Dev.qOvh (d : Dev) (e v : Nat) : Nat := d.qget R.SCH_QCFG_OVH R.SCH_AQCFG_OVH e v

/-- The cost L of a packet (R195). -/
def Dev.pktCost (d : Dev) (e v flits : Nat) : Nat := 256 * flits + d.qOvh e v

/-- S and F of a head that becomes the head, or of a queue that wakes (R195, R196): VC7 keeps no
tags (R197). -/
def Dev.headTags (d : Dev) (e v : Nat) (x : Queue) (s : Nat) : Queue :=
  match x.descs with
  | [] => x
  | c :: _ =>
    if v = 7 then x
    else { x with stag := s,
                  ftag := (s + ceilDiv (d.pktCost e v c.flits * 256) (d.qWeight e v)) % 2 ^ 32 }

/-- The greater of two tags by serial comparison (R197). -/
def tagMax (a b : Nat) : Nat := if serialDiff (2 ^ 32) a b ≥ 0 then a else b

/-- A queue that wakes: S is raised to max(S, V), where S is the previous packet's F (R196). -/
def Dev.wake (d : Dev) (e v : Nat) (x : Queue) (s : Nat) : Queue :=
  d.headTags e v x (tagMax s (d.net.vtime.get e 0))

/-- HEAD_AGE of a queue in ns. -/
def Dev.headAge (d : Dev) (x : Queue) : Nat :=
  match x.descs with
  | [] => 0
  | c :: _ => d.now - c.at_

/-- Whether a queue is congested (R205). -/
def Dev.congested (d : Dev) (e v : Nat) (x : Queue) : Bool :=
  let dth := d.qget R.SCH_QCONG_DEPTH_TH R.SCH_AQCONG_DEPTH_TH e v
  let ath := d.qget R.SCH_QCONG_DELAY_TH R.SCH_AQCONG_DELAY_TH e v
  (dth != 0xFFFF && decide (dth ≤ queueDepth x))
    || (ath != 0xFFFF && x.descs != [] && decide (100 * ath ≤ d.headAge x))

/-- SCH.QSTAT and SCH.QTAG of a queue brought up to date. -/
def Dev.syncQueue (d : Dev) (e v : Nat) : Dev :=
  let x := d.queue e v
  let i := if isPort e then e else e - 512
  let f3 (a b : Fld) : Fld := if isPort e then a else b
  let d := d.wrSat (f3 R.SCH_QSTAT_DEPTH R.SCH_AQSTAT_DEPTH) (queueDepth x) i v
  let d := d.wrSat (f3 R.SCH_QSTAT_HEAD_AGE R.SCH_AQSTAT_HEAD_AGE) (d.headAge x / 100) i v
  let d := d.wr (f3 R.SCH_QSTAT_CONG R.SCH_AQSTAT_CONG) (b2n (d.congested e v x)) i v
  d.wr (f3 R.SCH_QTAG_FTAG R.SCH_AQTAG_FTAG)
    (if v = 7 ∨ x.descs = [] then 0 else x.ftag) i v

/-! ### Quenches (R205 to R207) -/

/-- Whether the quench filter lets a QUENCH out now, and the device with its entry overwritten
when it does (R206). -/
def Dev.filterQuench (d : Dev) (q src burgee dst qtime : Nat) : Dev × Bool :=
  let ix := crc32c (bytesBE 8 (src * 2 ^ 44 + burgee * 2 ^ 35 + dst * 2 ^ 15)) % 4096
  let hit := match d.net.quenchFilter.look (q, ix) with
    | some (key, t) => key = (src, burgee, dst) && decide (2 * (d.now - t) < 1000 * qtime)
    | none => false
  if hit then (d, false)
  else ({ d with net := { d.net with
    quenchFilter := d.net.quenchFilter.put (q, ix) ((src, burgee, dst), d.now) } }, true)

/-- A QUENCH applied at an attach point: it replaces the one of its key, QTIME 0 cancels it, and
bit 7 of VCMASK is ignored (R207). -/
def Dev.applyQuench (d : Dev) (eg src burgee dst mask qtime : Nat) : Dev :=
  let left := d.net.quenches.filter fun z =>
    !(z.eg = eg && z.src = src && z.burgee = burgee && z.dst = dst)
  let new : List Quench :=
    if qtime = 0 then [] else [⟨eg, src, burgee, dst, mask % 128, d.now + 1000 * qtime⟩]
  { d with net := { d.net with quenches := left ++ new } }

/-- Whether a quench holds a packet of an attach point on a VC (R207). -/
def Dev.quenched (d : Dev) (eg : Nat) (k : Packet) (vc : Nat) : Bool :=
  d.net.quenches.any fun z => z.eg = eg && z.src = k.src && z.burgee = k.burgee
    && (z.dst = 0xFFFFF || z.dst = k.dst) && bitOf z.mask vc && decide (d.now < z.until_)

/-- A QUENCH for the source of a packet that came in by `ing` (R204, R205), after the filter. -/
def Dev.quenchSource (d : Dev) (q ing src burgee dst mask qtime : Nat) : Dev :=
  let (d, go) := d.filterQuench q src burgee dst qtime
  if go = false then d.count 0x07 ing 2 3
  else if isPort ing then
    (d.sendHaly ing 2 mask 0 (src * 2 ^ 12 + burgee * 2 ^ 3) (dst * 2 ^ 12)
      (qtime * 2 ^ 16)).count 0x07 ing 2 0
  else (d.applyQuench ing src burgee dst mask qtime).count 0x07 ing 2 2

/-! ### Entering a descriptor (R140, R135, R164, R202, R205) -/

/-- The tenant-isolation policy in force: ENFORCED for any fused value but 0 (R202). -/
def Dev.enforced (d : Dev) (q : Nat) : Bool := d.rd R.SCH_TENANT_ISO q != 0

/-- Whether a port's allow mask holds a burgee (R202). -/
def Dev.allows (d : Dev) (p b : Nat) : Bool := (d.net.allow.get p []).contains b

/-- A holder released with a failure record (R17). -/
def Dev.failHolder (d : Dev) (pid : Nat) (h : Holder) (reason blk inst : Nat) : Dev :=
  match d.pkt? pid with
  | none => d
  | some s =>
    let r := d.pktRec s.pkt s.vc s.ing reason blk inst
    (d.record s.home { r with histOnly := r.histOnly || h.mirror, pid := some pid }).release pid h

/-- The congestion test after an entry (R205). -/
def Dev.congestTest (d : Dev) (e v pid : Nat) : Dev :=
  match d.pkt? pid with
  | none => d
  | some s =>
    if v ≠ 7 ∧ d.qget R.SCH_QCFG_QEN R.SCH_AQCFG_QEN e v = 1 ∧ d.congested e v (d.queue e v) then
      let mask := if s.vc = 2 ∨ s.vc = 3 then 0xC else 2 ^ s.vc
      d.quenchSource (quadOf e) s.ing s.pkt.src s.pkt.burgee s.pkt.dst mask
        (max 1 (d.rd R.SCH_GCFG_QTIME (quadOf e)))
    else d

/-- The first four flits of a remote queue's head prefetched into the landing store (R142). -/
def Dev.prefetch (d : Dev) (e v : Nat) : Dev :=
  let x := d.queue e v
  match x.descs with
  | [] => d.setQueue e v { x with landed := 0 }
  | c :: _ =>
    match d.pkt? c.pid with
    | some s => d.setQueue e v { x with landed := if s.home = quadOf e then 0 else min 4 s.have_ }
    | none => d

/-- A descriptor appended to its egress queue (R140): a queue that was empty wakes (R196), and a
remote head is prefetched. -/
def Dev.enqueue (d : Dev) (pid : Nat) (h : Holder) (flits : Nat) : Dev :=
  let x := d.queue h.eg h.vc
  let c : Desc := { pid := pid, hold := h, at_ := d.now, flits := flits }
  let x' := { x with descs := x.descs ++ [c] }
  let x' := { x' with maxDepth := max x'.maxDepth (queueDepth x') }
  let x' := if x.descs = [] then d.wake h.eg h.vc x' x.ftag else x'
  let d := (d.setQueue h.eg h.vc x').count 0x04 h.eg 0 h.vc
  let d := d.prefetch h.eg h.vc
  (d.congestTest h.eg h.vc pid).syncQueue h.eg h.vc

/-- The flits that a holder sends: those of its own packet, where it sends one in place of the stored one. -/
def heldFlits (s : Stored) (h : Holder) : Nat :=
  match s.patch.find? fun x => x.1 = h with
  | some x => flitsOf x.2
  | none => s.flits

/-- A holder's descriptor reaches its egress queue: refused for a port that is down (R164), for the
version of the egress link (R135) or by the egress isolation test (R202), else entered. -/
def Dev.enterDesc (d : Dev) (pid : Nat) (h : Holder) : Dev :=
  match d.pkt? pid with
  | none => d
  | some s =>
    if !(s.holders.contains h) then d
    else if isPort h.eg then
      if d.linkState h.eg = lsDown then d.failHolder pid h 0x10 0x04 h.eg
      else if d.afp21 h.eg ∧ needsAfp3 h.vc then d.failHolder pid h 0x13 0x03 h.eg
      else if h.vc ≠ 7 ∧ d.enforced (quadOf h.eg) ∧ (d.attr (quadOf h.eg) h.eg).edge
          ∧ !(d.allows h.eg (if h.mirror then 0 else s.pkt.burgee)) then
        (d.failHolder pid h 0x14 0x07 h.eg).set R.SCH_ERR_ISO_SEEN (quadOf h.eg)
      else d.enqueue pid h (heldFlits s h)
    else d.enqueue pid h (heldFlits s h)

/-- Descriptors of a new packet: each crosses to its egress queue (R140, R142). -/
def Dev.addCrossing (d : Dev) (pid : Nat) (hs : List Holder) : Dev :=
  { d with net := { d.net with crossing := d.net.crossing ++ hs.map fun h => (pid, h) } }

/-! ### Consumers (R168, R171, R245, R478) -/

/-- The attach point through which Thidan and the store controller reach the fabric: HUB of Q0
(assumption log, row 22). -/
def hubAttach : Nat := attach 0 3

/-- The internal target code of Thidan (R171). -/
def tgtThidan : Nat := 0x1FF

/-- The pennants that the blocks behind the hub attach consume: notices and SPDM, commands, hoists, records,
triggers and answers. -/
def hubTakes (k : Packet) : Bool :=
  k.pclass = 1 &&
    ((k.typ = 3 && (k.opcode = 0x40 || k.opcode = 0x41 || k.opcode = 0x10))
      || (k.typ = 2 && (k.opcode = 0x01 || k.opcode = 0x10))
      || (k.typ = 7 && decide (1 ≤ k.opcode) && decide (k.opcode ≤ 3))
      || k.typ = 4 || (k.typ = 6 && k.opcode = 1) || (k.typ = 1 && k.opcode = 1))

/-- The packets that a tile's attach point consumes: serve requests and their long prompts, and streamers that
land or are dispatched. -/
def tileTakes (k : Packet) : Bool :=
  (k.pclass = 1 && k.typ = 5 && decide (1 ≤ k.opcode) && decide (k.opcode ≤ 9))
    || (k.pclass = 2 && (k.typ = 0 || k.typ = 2 || k.typ = 3 || k.typ = 4 || k.typ = 5))

/-- Whether a packet is a contribution. -/
def isContrib (k : Packet) : Bool := k.pclass = 2 && k.typ = 1

/-- A record on its way to the fault collector. -/
def isFail (k : Packet) : Bool := k.pclass = 1 && k.typ = 4

/-- The reason of a contribution for a context that is not here (R269). -/
def rCtxUnknown : Nat := 0x50

/-- The holder of a packet routed LOCAL to a target, or the finding of the block there. -/
def localHolder (k : Packet) (vc t : Nat) : Except Nat Holder :=
  if isFail k then .ok ⟨hubAttach, vc, tgtThidan, false⟩
  else if t < 64 then (if tileTakes k then .ok ⟨attachOf t, vc, t, false⟩ else .error rNoRoute)
  else if 0x100 ≤ t ∧ t ≤ 0x103 then
    (if isContrib k then
      (if k.collId / 16384 % 4 = t - 0x100 then .ok ⟨attachOf t, vc, t, false⟩ else .error rCtxUnknown)
    else .error rNoRoute)
  else if t = tgtThidan ∧ hubTakes k then .ok ⟨hubAttach, vc, t, false⟩
  else .error rNoRoute

/-- The holders that a lookup gives a packet, with a reason for each slot of a multicast that gets none; or the
reason of a refusal (R168, R174, R176, R245). -/
def holdersOf (r : RouteRes) (k : Packet) (vc : Nat) : Except Nat (List Holder × List Nat) :=
  match r with
  | .refuse x => .error x
  | .port p v => .ok ([⟨p, v, 0x1000, false⟩], [])
  | .loc t => match localHolder k vc t with
    | .ok h => .ok ([h], [])
    | .error x => .error x
  | .mcast ss n =>
    if isContrib k then .error rNoRoute
    else
      let one (s : Slot) : Except Nat Holder :=
        if s.int then localHolder k vc s.tgt else .ok ⟨s.tgt, vc, 0x1000, false⟩
      let good := ss.filterMap fun s => match one s with
        | .ok h => some h
        | .error _ => none
      let bad := ss.filterMap fun s => match one s with
        | .ok _ => none
        | .error x => some x
      .ok (good, List.replicate n rNoPath ++ bad)

/-- The counters and error bits of a lookup and of what its consumers refuse (R192, R516). -/
def Dev.countLook (d : Dev) (q : Nat) (r : RouteRes × Bool) (hs : Except Nat (List Holder × List Nat)) : Dev :=
  let d := d.countRoute q r
  match r.1, hs with
  | .refuse _, _ => d
  | _, .error x => if x = rCtxUnknown then d else d.countRefusal q x
  | _, .ok (_, lost) => d.each lost fun d x => d.countRefusal q x

/-! ### Packets of internal blocks (R139, R147, R16) -/

/-- A packet that an internal block sends (R139): looked up in the tables of its attach point's quadrant, stored, and
its descriptors entered; a refusal, and each slot of a multicast that gets none, gives a record.  Answers what was
stored or the reason of a refusal, and nothing is done while the attach point's ring lacks room (R147). -/
def Dev.lookSend (d : Dev) (k : Packet) (ing vc : Nat) : Dev × Except Nat (Option Nat) :=
  let q := quadOf ing
  let r := d.routePkt q k vc ing
  let hs := holdersOf r.1 k vc
  let d' := d.countLook q r hs
  let rec_ (d : Dev) (x : Nat) : Dev := d.record q (d.pktRec k vc ing x 0x06 q)
  match hs with
  | .error x => (rec_ d' x, .error x)
  | .ok ([], lost) => (d'.each lost rec_, .error (nth lost 0))
  | .ok (hs, lost) => match d'.storePkt k ing vc (flitsOf k) hs none with
    | (_, none) => (d, .ok none)
    | (d, some pid) => ((d.each lost rec_).each hs fun d h => d.enterDesc pid h, .ok (some pid))

/-- A packet of an internal block by lookup.  Answers whether it was taken: false means that the ring lacks room and
the block waits (R147). -/
def Dev.inject (d : Dev) (k : Packet) (ing vc : Nat) : Dev × Bool :=
  match d.lookSend k ing vc with
  | (d, .ok none) => (d, false)
  | (d, _) => (d, true)

/-- A packet of an internal block stored for holders that need no lookup (R168, R245).  Answers whether it
was taken. -/
def Dev.injectTo (d : Dev) (k : Packet) (ing vc : Nat) (hs : List Holder) : Dev × Bool :=
  match d.storePkt k ing vc (flitsOf k) hs none with
  | (d, none) => (d, false)
  | (d, some pid) => (d.each hs (fun d h => d.enterDesc pid h), true)

/-- A packet of an internal block, by lookup or for given holders. -/
def Dev.tryOut (d : Dev) (w : Waiting) : Dev × Bool :=
  match w.hs with
  | none => d.inject w.pkt w.ing w.vc
  | some hs => d.injectTo w.pkt w.ing w.vc hs

/-- A packet of an internal block that waits in its block while the ring lacks room or the quadrant's attach points
are held (R159), behind those that wait already (R147). -/
def Dev.sendOut (d : Dev) (k : Packet) (ing vc : Nat) (hs : Option (List Holder) := none) : Dev :=
  let w : Waiting := ⟨k, ing, vc, hs⟩
  let wait (d : Dev) : Dev := { d with mgmt := { d.mgmt with outWait := d.mgmt.outWait ++ [w] } }
  if (d.mgmt.outWait.any fun x => x.ing = ing && x.vc = vc) || d.net.held.contains (quadOf ing) then wait d
  else match d.tryOut w with
    | (d', true) => d'
    | (_, false) => wait d

/-- The waiting packets tried again, in order. -/
def Dev.retryOut (d : Dev) : Dev :=
  let ws := d.mgmt.outWait
  ({ d with mgmt := { d.mgmt with outWait := [] } }).each ws fun d w => d.sendOut w.pkt w.ing w.vc w.hs

/-- A packet of an internal block that leaves by one named port, without a lookup (R168, 0xF_FFFE: the
device at the far end of the link). -/
def Dev.sendPort (d : Dev) (k : Packet) (ing vc p : Nat) : Dev :=
  d.sendOut k ing vc (some [⟨p, vc, 0x1000, false⟩])

end Sys2Proof.Machine
end

