-- ==== Sys2Proof/Machine/Mailbox.lean ====
section
/-! DEFINITION. Channels, completions and unsolicited events (spec/15, R414, R418 to R433). -/

namespace Sys2Proof.Machine

/-! ### Status codes (R442) -/

namespace St
def ok : Nat := 0x0000
def cmdUnknown : Nat := 0x0001
def cmdVersion : Nat := 0x0002
def cmdParam : Nat := 0x0003
def notPermitted : Nat := 0x0004
def cmdQueueFull : Nat := 0x0005
def cmdCancelled : Nat := 0x0006
def thdRestarted : Nat := 0x0007
def cmdDmaFault : Nat := 0x0008
def cfgLocked : Nat := 0x0009
def imgSignature : Nat := 0x000A
def descInvalid : Nat := 0x000B
def devStruck : Nat := 0x000C
def pwrBusy : Nat := 0x0101
def pwrParking : Nat := 0x0102
def pwrDrainTimeout : Nat := 0x0103
def pwrRegulation : Nat := 0x0104
def modeConflict : Nat := 0x0105
def pwrNotSwitchable : Nat := 0x0106
def pwrDependentOn : Nat := 0x0107
def pwrDependencyOff : Nat := 0x0108
def pwrDomainBusy : Nat := 0x0109
def pwrDomainOff : Nat := 0x010A
def bufProfileIllegal : Nat := 0x0201
def bufProfileBusy : Nat := 0x0202
def routeEpochOrder : Nat := 0x0203
def routeUnionMismatch : Nat := 0x0204
def routeTableInvalid : Nat := 0x0205
def routeMode : Nat := 0x0206
def routeBusy : Nat := 0x0207
def routeDrainTimeout : Nat := 0x0208
def hbmMapIllegal : Nat := 0x0209
def hbmMapBusy : Nat := 0x020A
def dispatchTableInvalid : Nat := 0x020B
def portInvalid : Nat := 0x020C
def ctxBusy : Nat := 0x0301
def ctxState : Nat := 0x0302
def redDescInvalid : Nat := 0x0303
def redNoSlots : Nat := 0x0304
def trigBusy : Nat := 0x0305
def trigInvalid : Nat := 0x0306
def regionInvalid : Nat := 0x0307
def regionArea : Nat := 0x0308
def tileBusy : Nat := 0x0401
def tileOff : Nat := 0x0402
def modelImgInvalid : Nat := 0x0403
def modelSramFit : Nat := 0x0404
def modelCacheFull : Nat := 0x0405
def modelTilesBusy : Nat := 0x0406
def modelState : Nat := 0x0407
def serveBusy : Nat := 0x0408
def serveNoModel : Nat := 0x0409
def serveNoSession : Nat := 0x040A
def servePosition : Nat := 0x040B
def serveLimit : Nat := 0x040C
def serveSessionLost : Nat := 0x040D
def storeNoTargets : Nat := 0x0501
def storeUnformatted : Nat := 0x0502
def storeUncorrectable : Nat := 0x0503
def storeFull : Nat := 0x0504
def storeReadOnly : Nat := 0x0505
def storeBusy : Nat := 0x0506
def objUnknown : Nat := 0x0507
def objTableFull : Nat := 0x0508
def objState : Nat := 0x0509
def objOverlap : Nat := 0x050A
def objRange : Nat := 0x050B
def objBusy : Nat := 0x050C
def resetEscalated : Nat := 0x0601
def telResource : Nat := 0x0701
def ownerAuthFail : Nat := 0x0801
def fuseExhausted : Nat := 0x0802
def antiRollback : Nat := 0x0803
def fwInvalid : Nat := 0x0804
def hoistFailed : Nat := 0x0901
def hoistBusy : Nat := 0x0902
end St

/-! ### The channel table (R418 to R421) -/

def Dev.chan (d : Dev) (ch : Nat) : Chan := d.mgmt.chans.get ch {}
def Dev.setChan (d : Dev) (ch : Nat) (c : Chan) : Dev :=
  { d with mgmt := { d.mgmt with chans := d.mgmt.chans.put ch c } }

/-- The binding words in force: those of the table, or the old ones while a change waits for the
channel's earlier commands (R420). -/
def Dev.bindA (d : Dev) (ch : Nat) : Nat :=
  match (d.chan ch).rebind with
  | some (a, _) => a
  | none => d.rd R.MBX_CTAB_A_ENTRY_A 0 ch
def Dev.bindB (d : Dev) (ch : Nat) : Nat :=
  match (d.chan ch).rebind with
  | some (_, b) => b
  | none => d.rd R.MBX_CTAB_B_ENTRY_B 0 ch

def Dev.chEn (d : Dev) (ch : Nat) : Bool := bitOf (d.bindA ch) 31
def Dev.chIntf (d : Dev) (ch : Nat) : Nat := bits (d.bindA ch) 30 28
/-- 0 TENANT, 1 OWNER, 2 FM, 3 BMC. -/
def Dev.chRole (d : Dev) (ch : Nat) : Nat := bits (d.bindA ch) 27 26
def Dev.chPrio (d : Dev) (ch : Nat) : Nat := bits (d.bindA ch) 25 25
def Dev.chEvents (d : Dev) (ch : Nat) : Bool := bitOf (d.bindA ch) 24
def Dev.chSrc (d : Dev) (ch : Nat) : Nat := bits (d.bindA ch) 19 0
def Dev.chBurgee (d : Dev) (ch : Nat) : Nat := bits (d.bindB ch) 31 23

/-- The channel that takes a packet of an identity (R421): the lowest enabled entry with the exact
source, or else the lowest wildcard of an MCTP or fabric interface. -/
def Dev.matchChan (d : Dev) (intf src : Nat) : Option Nat :=
  let en := (List.range 128).filter fun ch => d.chEn ch && d.chIntf ch = intf
  match en.find? fun ch => d.chSrc ch = src with
  | some ch => some ch
  | none => if intf = 0 then none else en.find? fun ch => d.chSrc ch = 0xFFFFF

/-- Accepted commands of a channel that have not completed. -/
def Dev.outstCmds (d : Dev) (ch : Nat) : Nat :=
  (d.chan ch).inq.length + (d.mgmt.journal.filter fun j => j.chan = ch && j.phase ≠ .done).length

/-- OUTST (R425). -/
def Dev.outst (d : Dev) (ch : Nat) : Nat := d.outstCmds ch + (d.chan ch).cplq.length

/-- A channel that is full, or whose binding is about to change (R420, R425). -/
def Dev.chFull (d : Dev) (ch : Nat) : Bool :=
  decide (16 ≤ (d.chan ch).inq.length) || decide (32 ≤ d.outst ch) || (d.chan ch).rebind.isSome

/-- Bit 22 of word 2: ORDERED (R436). -/
def isOrdered (ws : List Nat) : Bool := bitOf (nth ws 2) 22

/-- MBX.STAT and MBX.CPL of a channel and THD.STAT brought up to date. -/
def Dev.syncChan (d : Dev) (ch : Nat) : Dev :=
  let c := d.chan ch
  let head := c.cplq.headD []
  let d := d.each (List.range 16) fun d k => d.wr R.MBX_CPL_DATA (nth head k) ch k
  let d := d.wr R.MBX_STAT_INQ c.inq.length ch
  let d := d.wr R.MBX_STAT_OUTST (d.outst ch) ch
  let d := d.wr R.MBX_STAT_CPLQ c.cplq.length ch
  let d := d.wr R.MBX_STAT_FREE (b2n !(d.chFull ch)) ch
  let hold := match c.inq with
    | [] => false
    | p :: _ => isOrdered p.words && d.mgmt.journal.any fun j => j.chan = ch && j.phase ≠ .done
  let d := d.wr R.MBX_STAT_ORDER_HOLD (b2n hold) ch
  let d := d.wr R.MBX_STAT_BOUND (b2n (d.chEn ch && d.chIntf ch = 0)) ch
  let d := d.wr R.THD_STAT_JOURNAL d.mgmt.journal.length
  d.wr R.THD_STAT_EXECUTING (d.mgmt.journal.filter fun j => j.phase = .begun || j.phase = .running).length

/-! ### Pennants that the hub sends -/

/-- A pennant of the hub: by lookup, or out of a named port. -/
def Dev.hubSend (d : Dev) (k : Packet) (vc : Nat) (port : Option Nat := none) : Dev :=
  match port with
  | some p => d.sendPort k hubAttach vc p
  | none => d.sendOut k hubAttach vc

/-- The bytes of packet words in a pennant, most significant byte first (R413). -/
def wordsBytes (ws : List Nat) : List Nat := ws.flatMap (bytesBE 4)

/-- A STATUS pennant of the device (R97, R432, R433). -/
def Dev.statusPen (d : Dev) (dst opcode tag : Nat) (ws : List Nat) : Packet :=
  { pclass := 1, burgee := 0, hoplim := 63, dst := dst, src := d.devFeid, tag := tag, typ := 3,
    opcode := opcode, len := 4 * ws.length, payload := wordsBytes ws }

/-! ### Completions (R414, R427, R428, R431, R432) -/

/-- An entry added to a channel's completion FIFO, with CPL when the FIFO was empty (R428). -/
def Dev.postCpl (d : Dev) (ch : Nat) (ws : List Nat) : Dev :=
  let c := d.chan ch
  let d := d.setChan ch { c with cplq := c.cplq ++ [ws] }
  if c.cplq = [] ∧ d.on R.MBX_IEN_CPL_EN ch then
    d.emit (.msix (d.chSrc ch) (d.rd R.MBX_IVEC_CPL_VEC ch))
  else d

/-- The words of a completion (R414). -/
def cplWords (kind opcode tag status ch detail : Nat) (res : List Nat) : List Nat :=
  [2 ^ 28 + kind * 2 ^ 26 + res.length % 32 * 2 ^ 16 + opcode % 2 ^ 16, tag, status * 2 ^ 16 + ch,
   detail] ++ res

/-- An entry written to the history queue (R473, R474).  A RECORD merges into the newest entry when
that is a RECORD of the same code, block and instance under 1 ms old; a full queue loses its oldest
RECORD, or STATE, or EVENT. -/
def Dev.histPush (d : Dev) (e : HEntry) : Dev :=
  let h := d.mgmt.hist
  let merged := match h.getLast? with
    | some l => if e.kind = 1 ∧ l.kind = 1 ∧ l.code = e.code ∧ l.blk = e.blk ∧ l.inst = e.inst
        ∧ d.now - l.ftime < 1000000 then some { l with count := min 0xFFFF (l.count + 1) } else none
    | none => none
  match merged with
  | some l => { d with mgmt := { d.mgmt with hist := h.dropLast ++ [l] } }
  | none =>
    let seq := (d.mgmt.eseq + 1) % 2 ^ 16
    let (h, d) :=
      if h.length < 64 then (h, d) else
      let k := if h.any (fun x => x.kind = 1) then 1 else if h.any (fun x => x.kind = 2) then 2 else 0
      (h.eraseP (fun x => x.kind = k), d.bump R.FLT_HQLOST_LOST)
    let h := h ++ [{ e with eseq := seq, ftime := d.now }]
    let d := { d with mgmt := { d.mgmt with hist := h, eseq := seq } }
    (d.wr R.FLT_HQSTAT_ENTRIES h.length).wr R.FLT_HQSTAT_NEWEST seq

/-- The copy of a failure record in the history queue (R473, R476). -/
def Dev.histRecord (d : Dev) (r : FailRec) : Dev :=
  d.histPush { kind := 1, code := r.reason, eseq := 0, ftime := 0, blk := r.blk, inst := r.inst,
               d0 := r.dst * 2 ^ 12 + r.item, d1 := r.tag, d2 := r.name, status := r.status }

/-- A CMD_LOST record (R429, R432): to the history queue, and to a fabric source when `fabric`. -/
def Dev.cmdLost (d : Dev) (ch tag src : Nat) (fabric : Bool := false) : Dev :=
  let r : FailRec := { reason := 0x90, item := 4, dst := src, tag := tag, vc := 7, typ := 2,
                       itemDst := d.devFeid, blk := 0x13, inst := ch, at_ := d.now }
  let d := d.set R.MBX_ERR_LOST ch
  if fabric then d.record 0 r else (d.histRecord r).count 0x0F 0 1 0x90

/-- A completion delivered by its channel's route (R414, R427, R431, R432). -/
def Dev.deliver (d : Dev) (ch : Nat) (o : Origin) (tag : Nat) (ws : List Nat) : Dev :=
  match o with
  | .pcie => d.postCpl ch ws
  | .mctp intf eid mtag =>
    let c := d.chan ch
    let keep := c.recent.filter fun x => decide (d.now < x.2.2)
    let d := d.setChan ch { c with recent := keep ++ [(tag, ws, d.now + 1000000000)] }
    d.emit (.mctp intf eid mtag 2 ws)
  | .fabric port src ptag =>
    let c := d.chan ch
    let keep := c.recent.filter fun x => decide (d.now < x.2.2)
    let d := d.setChan ch { c with recent := keep ++ [(ptag + 2 ^ 32 * src, ws, d.now + 1000000000)] }
    let k := d.statusPen src 1 ptag ws
    if src = 0xFFFFE then d.hubSend k 7 (some port)
    else match (d.routePkt 0 k 7 hubAttach).1 with
      | .refuse _ => d.cmdLost ch tag src
      | _ => d.hubSend k 7

/-- A journalled command ends: its completion is delivered and the entry leaves the journal
(R410, R414). -/
def Dev.complete (d : Dev) (aseq status : Nat) (res : List Nat := []) (detail : Nat := 0) : Dev :=
  match d.mgmt.journal.find? fun j => j.aseq = aseq with
  | none => d
  | some j =>
    let ws := cplWords 0 (bits (nth j.pkt.words 0) 15 0) (nth j.pkt.words 1) status j.chan detail res
    let d := { d with mgmt := { d.mgmt with
      journal := d.mgmt.journal.filter fun x => x.aseq ≠ aseq } }
    let d := d.count 0x13 j.chan 0 (if status = 0 then 4 else 5)
    if j.lost then (d.cmdLost j.chan (nth j.pkt.words 1) 0).syncChan j.chan
    else (d.deliver j.chan j.pkt.origin (nth j.pkt.words 1) ws).syncChan j.chan

/-- A journal entry changed. -/
def Dev.modJob (d : Dev) (aseq : Nat) (f : JEntry → JEntry) : Dev :=
  { d with mgmt := { d.mgmt with
    journal := d.mgmt.journal.map fun j => if j.aseq = aseq then f j else j } }

def Dev.job? (d : Dev) (aseq : Nat) : Option JEntry :=
  d.mgmt.journal.find? fun j => j.aseq = aseq

/-- Word `n` of a journalled packet (R412). -/
def JEntry.w (j : JEntry) (n : Nat) : Nat := nth j.pkt.words n

/-- The opcode of a journalled packet. -/
def JEntry.op (j : JEntry) : Nat := bits (j.w 0) 15 0

/-- The burgee for which a journalled command acts (R412). -/
def JEntry.burgee (j : JEntry) : Nat := bits (j.w 2) 31 23

/-- The command of journal entry `aseq` carried out once it has begun, if its opcode is the one named:
the entry is running from then on (R410, R435). -/
def Dev.cmd (d : Dev) (aseq opcode : Nat) (f : JEntry → Dev → Dev) : Dev :=
  match d.job? aseq with
  | some j =>
    if j.phase = .begun ∧ j.op = opcode then f j (d.modJob aseq fun j => { j with phase := .running })
    else d
  | none => d

/-- A channel under a Function Level Reset (R429): the packets not yet taken are discarded with records, the
completions of the commands taken will be, and the window takes its reset values. -/
def Dev.chanFlr (d : Dev) (ch : Nat) : Dev :=
  let c := d.chan ch
  let d := d.setChan ch { c with inq := [], cplq := [] }
  let d := d.each c.inq fun d k => (d.cmdLost ch (nth k.words 1) 0).count 0x13 ch 0 2
  let d := { d with mgmt := { d.mgmt with
    journal := d.mgmt.journal.map fun (j : JEntry) => if j.chan = ch then { j with lost := true } else j } }
  (d.resetFields (blkIds .mbxw) fun i => i = ch).syncChan ch

/-- An unsolicited event (R433), with the words from word 5. -/
def Dev.sendEvent (d : Dev) (code : Nat) (ws : List Nat) : Dev :=
  let res := code :: ws
  (d.count 0x0E 0x100 0 2).each (List.range 128) fun d ch =>
    if d.chEn ch ∧ d.chEvents ch then
      let cw := cplWords 2 0 0 0 ch 0 res
      if d.chIntf ch = 3 ∧ d.chRole ch = 2 then
        if d.chSrc ch = 0xFFFFF then
          match (d.chan ch).lastPort with
          | some p => d.hubSend (d.statusPen 0xFFFFE 2 0 cw) 7 (some p)
          | none => d
        else d.hubSend (d.statusPen (d.chSrc ch) 2 0 cw) 7
      else if d.chIntf ch = 0 then
        if d.outst ch < 32 then (d.postCpl ch cw).syncChan ch
        else d.set R.MBX_ERR_EVENT_DROP ch
      else d
    else d

end Sys2Proof.Machine
end

