-- ==== Sys2Proof/Machine/Fault.lean ====
section
/-! DEFINITION. Fault events and the fault state (spec/17, R468 to R472). -/

namespace Sys2Proof.Machine

/-- FLT.STAT.STATE: 0 NORMAL, 1 FAULT, 2 STRUCK. -/
def Dev.fltState (d : Dev) : Nat := d.rd R.FLT_STAT_STATE

/-- QUIET_MS and STRUCK_WIN_S in ns; 0 is stored as 1 (FLT.CFG). -/
def Dev.quietNs (d : Dev) : Nat := 1000000 * max 1 (d.rd R.FLT_CFG_QUIET_MS)
def Dev.struckWinNs (d : Dev) : Nat := 1000000000 * max 1 (d.rd R.FLT_CFG_STRUCK_WIN_S)

/-- The quiet timer restarted (R470). -/
def Dev.restartQuiet (d : Dev) : Dev :=
  ({ d with mgmt := { d.mgmt with quietAt := d.now + d.quietNs } }).wrSat R.FLT_STAT_QUIET_LEFT
    (d.quietNs / 1000000)

/-- FAULT entered from NORMAL or STRUCK (R470, R472). -/
def Dev.enterFault (d : Dev) (ev blk cause : Nat) : Dev :=
  let irq0 := d.irqMask
  let d := { d with mgmt := { d.mgmt with faultSince := d.now } }
  let d := ((d.wr R.FLT_STAT_STATE 1).set R.FLT_STAT_FAULT_SEEN).irq irq0
  (d.restartQuiet).sendEvent 0x0010 [ev, blk, cause]

/-- One fault event (R468, R470): the EVENT entry and FLT.CNT0, then FAULT with its quiet timer.
The containment is the caller's. -/
def Dev.faultEvent (d : Dev) (blk cause inst : Nat) (d0 d1 : Nat := 0) (status : Nat := 0) : Dev :=
  let d := d.histPush { kind := 0, code := cause, eseq := 0, ftime := 0, blk := blk, inst := inst,
                        d0 := d0, d1 := d1, status := status }
  let d := (d.bump R.FLT_CNT0_EVENTS).count 0x0F 0 0 blk
  let d := if blk = 2 ∧ cause ≠ 1 ∧ cause ≠ 4 then d.buntTrigger (d.lanePort inst)
    else if (blk = 2 ∧ cause = 4) ∨ blk = 3 then d.buntTrigger inst else d
  if d.fltState = 0 then d.enterFault d.mgmt.eseq blk cause
  else if d.fltState = 1 then d.restartQuiet
  else d

/-- STRUCK latched (R470, R472). -/
def Dev.latchStruck (d : Dev) : Dev :=
  let irq0 := d.irqMask
  let d := ((d.wr R.FLT_STAT_STATE 2).set R.FLT_STAT_STRUCK_SEEN).wr R.FLT_STAT_QUIET_LEFT 0
  let d := d.irq irq0
  let d := d.histPush { kind := 2, code := 2, eseq := 0, ftime := 0, blk := 0x0F }
  d.sendEvent 0x0012 [d.mgmt.eseq, 0x0F, 2]

end Sys2Proof.Machine
end

