-- ==== Sys2Proof/Machine/LinkOps.lean ====
section
/-! DEFINITION. What several rows share about links and ports: route notices (R179, R180), stomped
packets (R103, R156), flushes (R163 to R165), LINK_LOST and a port that goes down (R133, R164), and
entry to RESYNC (R130, R132). -/

namespace Sys2Proof.Machine

/-! ### Route notices (R179, R180) -/

/-- A route notice (R179). -/
def Dev.noticePkt (d : Dev) (restore : Bool) (origin nseq epoch : Nat) (ids : List Nat) : Packet :=
  { pclass := 1, hoplim := 1, dst := 0xFFFFE, src := d.devFeid, typ := 3,
    opcode := if restore then 0x41 else 0x40, len := 4 * ids.length,
    arg5 := origin, arg6 := nseq % 2 ^ 16 * 2 ^ 16 + ids.length * 2 ^ 8 + epoch,
    payload := ids.flatMap fun i => bytesBE 4 (i * 2 ^ 18) }

/-- The ports on which notices go: UP, ADMITTED and NRELAY (R180). -/
def Dev.noticePorts (d : Dev) : List Nat :=
  (List.range 512).filter fun p => d.upAdm p && (d.attr (p / 128) p).nrelay

/-- A notice sent on every notice port but `skip`, counted under `sub` (R516). -/
def Dev.sendNotice (d : Dev) (restore : Bool) (origin nseq epoch : Nat) (ids : List Nat)
    (skip : Option Nat) (sub : Nat) : Dev :=
  let k := d.noticePkt restore origin nseq epoch ids
  d.each (d.noticePorts.filter fun p => skip ≠ some p) fun d p =>
    (d.sendPort k hubAttach 7 p).count 0x06 (p / 128) 2 sub

/-- HUB.SHORTID, the short device identity. -/
def Dev.shortId (d : Dev) : Nat := d.rd R.HUB_SHORTID_ID

/-- A notice or restore that this device originates, with the next NSEQ (R180). -/
def Dev.originate (d : Dev) (restore : Bool) (ids : List Nat) : Dev :=
  if ids = [] then d else
  let n := (d.net.noticeSeq + 1) % 2 ^ 16
  let d := { d with net := { d.net with noticeSeq := n } }
  d.sendNotice restore d.shortId n (d.bank 0).epoch ids none 0

def Dev.portRoute (d : Dev) (p : Nat) : PortRoute := d.net.portRoute.get p {}
def Dev.setPortRoute (d : Dev) (p : Nat) (x : PortRoute) : Dev :=
  { d with net := { d.net with portRoute := d.net.portRoute.put p x } }

/-- The bit of port `p` in RTE.LDOWN of the four quadrants. -/
def Dev.syncLdown (d : Dev) (p : Nat) (v : Bool) : Dev :=
  d.each [0, 1, 2, 3] fun d q => d.wrBit R.RTE_LDOWN_EXCL (p % 32) v q (p / 32)

/-- The local exclusion of a port brought up to date (R173, R180): a port that becomes excluded is
counted and originates its notice; one that is good again starts its RESTORE_HOLD. -/
def Dev.syncExcl (d : Dev) (p : Nat) : Dev :=
  let x := d.portRoute p
  let now := d.localExcl p
  if now = x.excl then d
  else if now then
    let d := (d.setPortRoute p { x with excl := true, goodSince := none, restoresLeft := 0,
                                        restoreAt := none }).syncLdown p true
    let d := d.count 0x06 (p / 128) 0 1
    let a := d.attr (p / 128) p
    if a.noticeV then
      (d.originate false [a.noticeId]).setPortRoute p
        { d.portRoute p with noticeAt := some (d.now + 100000000) }
    else d
  else
    (d.setPortRoute p { x with excl := false, noticeAt := none, goodSince := some d.now,
                               restoresLeft := 0, restoreAt := none }).syncLdown p false

/-! ### Stomped packets (R103, R156) and discarded holders -/

/-- The descriptors of a packet taken out of a queue. -/
def Dev.dropDesc (d : Dev) (pid : Nat) (h : Holder) : Dev :=
  let x := d.queue h.eg h.vc
  let left := x.descs.filter fun c => !(c.pid = pid && c.hold = h)
  if left.length = x.descs.length then d
  else
    let x' := { x with descs := left }
    let headGone := match x.descs with
      | c :: _ => c.pid = pid && c.hold = h
      | [] => false
    let x' := if headGone then d.headTags h.eg h.vc { x' with age := 0 } x.ftag else x'
    ((d.setQueue h.eg h.vc x').prefetch h.eg h.vc).syncQueue h.eg h.vc

/-- A stored packet given up (R156, R161): each holder that has begun to send it ends it with STOMP,
and each that has not releases it without sending. -/
def Dev.stompAll (d : Dev) (pid : Nat) : Dev :=
  match d.pkt? pid with
  | none => d
  | some s =>
    let d := d.setPkt pid { s with stomped := true }
    d.each s.holders fun d h =>
      if s.done.contains h then d
      else if s.begun.contains h ∧ isPort h.eg then
        d.modLink h.eg fun l => match l.txOpen with
          | some o => if o.pid = pid then { l with txOpen := some { o with stomp := true } } else l
          | none => l
      else
        let d := { d with net := { d.net with
          attachIn := d.net.attachIn.put h.eg ((d.net.attachIn.get h.eg []).filter fun x => x ≠ (pid, h)) } }
        (d.dropDesc pid h).release pid h

/-- A stored packet that cannot be completed at its ingress: one record from its home quadrant, then
R156. -/
def Dev.stompPkt (d : Dev) (pid reason : Nat) (blk inst : Nat) : Dev :=
  match d.pkt? pid with
  | none => d
  | some s =>
    if s.stomped then d
    else (d.record s.home { d.pktRec s.pkt s.vc s.ing reason blk inst with pid := some pid }).stompAll pid

/-! ### Flushes (R163 to R165) -/

/-- Every descriptor of a queue marked for a flush with a reason (R163 step 1). -/
def Dev.markQueue (d : Dev) (e v reason : Nat) : Dev :=
  let x := d.queue e v
  d.setQueue e v { x with
    descs := x.descs.map fun c => match c.mark with
      | some _ => c
      | none => { c with mark := some reason } }

/-- Marked descriptors taken out in queue order while the record generator has room: each packet is
released by that holder, with its record (R163 step 2, R165). -/
def Dev.takeMarked (d : Dev) (e v : Nat) : Dev :=
  let x := d.queue e v
  (x.descs.foldl (fun (a : Dev × Bool) c =>
    match c.mark with
    | none => (a.1, false)
    | some r =>
      let home := match a.1.pkt? c.pid with
        | some s => s.home
        | none => quadOf e
      if a.2 && a.1.recRoom home then
        let d := a.1.setQueue e v { a.1.queue e v with descs := (a.1.queue e v).descs.drop 1 }
        ((d.failHolder c.pid c.hold r 0x04 e).count 0x04 e 3 r, true)
      else (a.1, false)) (d, true)).1.syncQueue e v

/-- A flush of one queue (R163, R164): counted once by its reason. -/
def Dev.flushQueue (d : Dev) (e v reason : Nat) : Dev :=
  if (d.queue e v).descs = [] then d
  else
    let d := (d.count 0x04 e 2 reason).markQueue e v reason
    let d := d.takeMarked e v
    d.setQueue e v { d.queue e v with age := 0 }

/-- The eight queues of an egress flushed. -/
def Dev.flushAll (d : Dev) (e reason : Nat) : Dev :=
  d.each (List.range 8) fun d v => d.flushQueue e v reason

/-! ### LINK_LOST (R133) -/

/-- The packets of a list of flits, each once. -/
def flitPkts (l : List TxFlit) : List (Packet × Nat × Nat) :=
  (l.map fun f => (f.pkt, f.vc, f.ing)).eraseDups

/-- The receiver's open packets discarded (R133 step 2): a stored one is stomped, one not yet stored
gets the record alone. -/
def Dev.dropOpens (d : Dev) (p : Nat) : Dev :=
  let l := d.link p
  let d := d.each l.opens fun d o =>
    if o.2.discard then d else match o.2.pid with
    | some pid => d.stompPkt pid 0x12 0x03 p
    | none => d.record (p / 128) (d.pktRec o.2.pkt o.1 p 0x12 0x03 p)
  let d := { d with net := { d.net with arrivals := d.net.arrivals.filter fun a => a.port ≠ p } }
  d.modLink p fun l => { l with opens := [], openStreamer := none }

/-- The transmitter's unacknowledged packets (R133 step 1): each gets a LINK_LOST record, and the
streamer being sent is released. -/
def Dev.lostReplay (d : Dev) (p : Nat) : Dev :=
  let l := d.link p
  let ps := (flitPkts l.replay ++ l.txReady.map fun x => (x.pkt, x.vc, x.ing)).eraseDups
  let ps := match l.txOpen with
    | some o => if ps.any (fun x => x.1 = o.pkt) then ps else ps ++ [(o.pkt, o.vc, o.ing)]
    | none => ps
  let d := d.each ps fun d x => d.record (p / 128) (d.pktRec x.1 x.2.1 x.2.2 0x11 0x03 p)
  let d := d.each l.txReady fun d x => d.release x.pid x.hold
  match l.txOpen with
  | some o => d.release o.pid o.hold
  | none => d

/-- A link's credit and sequence state as it is before negotiation (R133 step 4, R551: the key and
the admission go with the link). -/
def freshLink (l : Link) : Link :=
  { halySeq := l.halySeq, halyLast := l.halyLast, negSeq := l.negSeq, repoch := l.repoch,
    digest := l.digest, badBatches := l.badBatches,
    pauseUntil := l.pauseUntil, noverSeen := l.noverSeen, timeSent := l.timeSent,
    timePeer := l.timePeer, timeNext := l.timeNext, attCause := l.attCause, attNext := l.attNext }

/-- SEC.PDATA brought up to date: the word of the port that SEC.PACC selects. -/
def Dev.syncPdata (d : Dev) : Dev :=
  let p := d.rd R.SEC_PACC_PORT
  let w := d.rd R.SEC_PACC_WORD
  let l := d.link p
  let known := d.sec.known.get p []
  d.wr R.SEC_PDATA_DATA
    (if w = 0 then l.attState % 4 + l.attCause % 16 * 4 + b2n l.enc * 64 + b2n l.key * 128 + b2n (known != []) * 256
        + min l.badBatches 0xFFFF * 2 ^ 16
      else if w ≤ 12 then nth known (w - 1) else 0)

/-- Packets lost and state discarded when the link passes through LINK_LOST or goes down (R133),
with the queues flushed for `reason`. -/
def Dev.linkLost (d : Dev) (p reason : Nat) : Dev :=
  let d := d.lostReplay p
  let d := d.dropOpens p
  let d := d.flushAll p reason
  let d := d.modLink p freshLink
  let d := d.each (List.range 8) fun d v =>
    (d.wr R.LNK_CRED_AVAIL 0 p v).wr R.LNK_CRED_GRANTED 0 p v
  ((d.clr R.LNK_STAT_ADMITTED p).count 0x03 p 0 8).syncPdata

/-! ### The followed link of fabric time (R447) -/

/-- The link the device follows, and whether it is the alternate: UPPORT, or UPPORT2 while the UPPORT
link is not UP. -/
def Dev.followedLink (d : Dev) : Option (Nat × Bool) :=
  let p := d.rd R.HUB_FTCFG_UPPORT
  let p2 := d.rd R.HUB_FTCFG_UPPORT2
  if d.on R.HUB_FTCFG_MASTER then none
  else if d.on R.HUB_FTCFG_UP_V ∧ d.linkState p = lsUp then some (p, false)
  else if d.on R.HUB_FTCFG_UP2_V ∧ d.linkState p2 = lsUp then some (p2, true)
  else none

/-- HUB.FTSTAT.STATE written: leaving LOCKED sets UNLOCK_SEEN. -/
def Dev.setServo (d : Dev) (st : Nat) : Dev :=
  let was := d.rd R.HUB_FTSTAT_STATE
  let d := if was = 2 ∧ st ≠ 2 then d.set R.HUB_FTSTAT_UNLOCK_SEEN else d
  let d := { d with time := { d.time with good := 0, bad := 0 } }
  d.wr R.HUB_FTSTAT_STATE st

/-- The servo brought up to date after a change of link states or of HUB.FTCFG (R447): 0 FREE_RUN,
1 ACQUIRE, 2 LOCKED, 3 HOLDOVER. -/
def Dev.syncServo (d : Dev) : Dev :=
  let f := d.followedLink
  let st := d.rd R.HUB_FTSTAT_STATE
  let port := f.map Prod.fst
  let old := d.time.followed
  let d := { d with time := { d.time with followed := port } }
  match f with
  | none =>
    if d.on R.HUB_FTCFG_MASTER then (if st = 0 then d else d.setServo 0)
    else if st = 2 then d.setServo 3
    else if st = 1 then d.setServo 0 else d
  | some (_, alt) =>
    let d := d.wr R.HUB_FTSTAT_SRC_ALT (b2n alt)
    if st = 0 ∨ st = 3 ∨ port ≠ old then d.setServo 1 else d

/-- The link's state written, captured and its exclusion brought up to date. -/
def Dev.setLinkState (d : Dev) (p st : Nat) : Dev :=
  let d := (d.wr R.LNK_STAT_STATE st p).modLink p fun l => { l with enteredAt := d.now }
  ((d.buntLink p).syncExcl p).syncServo

/-- LINK_LOST on the way to NEGOTIATE, one fault event (R130). -/
def Dev.toNegotiateLost (d : Dev) (p : Nat) : Dev :=
  let d := d.faultEvent 0x03 0x02 p
  let d := d.setLinkState p lsNegotiate
  let d := d.linkLost p 0x10
  let d := (d.wr R.LNK_STAT_VER 0 p).wr R.LNK_PEER_AGREED 0 p
  d.modLink p fun l => { l with enteredAt := d.now, negNext := d.now }

/-- The link of a port that has gone down at the PHY (R83, R130, R164). -/
def Dev.linkDown (d : Dev) (p : Nat) : Dev :=
  if d.linkState p = lsDown then d else
  let d := d.setLinkState p lsDown
  let d := d.linkLost p 0x10
  let d := d.modLink p fun l => { l with halyOut := [], timePeer := none, timeSent := [] }
  let d := (d.wr R.LNK_STAT_VER 0 p).wr R.LNK_STAT_LANES 0 p
  let d := (d.wr R.LNK_PEER_AGREED 0 p).wr R.LNK_STAT_RTT 0 p
  d.buntTrigger p

/-- RESYNC entered from UP, one fault event (R130, R132). -/
def Dev.enterResync (d : Dev) (p : Nat) : Dev :=
  if d.linkState p = lsUp then
    let d := (d.faultEvent 0x03 0x01 p).count 0x03 p 0 4
    let d := d.setLinkState p lsResync
    d.modLink p fun l => { l with repoch := (l.repoch + 1) % 256, negNext := d.now,
                                  replayFrom := none, timeouts := 0, nakPending := false,
                                  lcfNak := none }
  else d

end Sys2Proof.Machine
end

