-- ==== Sys2Proof/Machine/Switch.lean ====
section
/-! DEFINITION. What the switch core does at its own events (spec/05, spec/07): descriptor entry,
the scheduler's two decisions, releases, buffer errors, ageing, the record generator and mesh
failures. -/

namespace Sys2Proof.Machine

/-! ### The mesh (R142, R143) -/

/-- The element of XBAR.MESHSTAT of quadrant `q` that shows quadrant `o`. -/
def meshIdx (q o : Nat) : Nat := if o < q then o else o - 1

/-- Whether the mesh link of two quadrants has a sub-link up. -/
def Dev.meshLinkUp (d : Dev) (a b : Nat) : Bool := d.on R.XBAR_MESHSTAT_UP a (meshIdx a b)

/-- The relay quadrant of a failed mesh link: the lowest-numbered other quadrant whose links to both
ends are up (R143). -/
def Dev.relayOf (d : Dev) (a b : Nat) : Option Nat :=
  [0, 1, 2, 3].find? fun c => c ≠ a && c ≠ b && d.meshLinkUp a c && d.meshLinkUp b c

/-- Whether transfers between two quadrants can pass, directly or by relay. -/
def Dev.meshPath (d : Dev) (a b : Nat) : Bool := a = b || d.meshLinkUp a b || (d.relayOf a b).isSome

/-- XBAR.MESHSTAT of every pair brought up to date after a change of sub-links. -/
def Dev.syncMesh (d : Dev) : Dev :=
  let pairs := [0, 1, 2, 3, 4, 5].map pairQuads
  let d := d.each pairs fun d ab =>
    d.each [ab, (ab.2, ab.1)] fun d xy =>
      d.wr R.XBAR_MESHSTAT_UP
        (b2n (d.rd R.XBAR_MESHSTAT_SUBLINKS xy.1 (meshIdx xy.1 xy.2) != 0)) xy.1 (meshIdx xy.1 xy.2)
  d.each pairs fun d ab =>
    d.each [ab, (ab.2, ab.1)] fun d xy =>
      d.wr R.XBAR_MESHSTAT_RELAY
        (b2n (!(d.meshLinkUp xy.1 xy.2) && (d.relayOf xy.1 xy.2).isSome)) xy.1 (meshIdx xy.1 xy.2)

/-- A sub-link of a pair down at both ends, with DOWN_SEEN. -/
def Dev.subDown (d : Dev) (pair sub : Nat) : Dev :=
  let (a, b) := pairQuads pair
  d.each [(a, b), (b, a)] fun d xy =>
    (d.wrBit R.XBAR_MESHSTAT_SUBLINKS sub false xy.1 (meshIdx xy.1 xy.2)).set
      R.XBAR_MESHSTAT_DOWN_SEEN xy.1 (meshIdx xy.1 xy.2)

/-- Whether a sub-link of a pair is up. -/
def Dev.subUp (d : Dev) (pair sub : Nat) : Bool :=
  let (a, b) := pairQuads pair
  d.rdBit R.XBAR_MESHSTAT_SUBLINKS sub a (meshIdx a b)

/-- MESH_SUBLINK_FAIL (R143): the link narrows; one fault event, INSTANCE 16 × pair + sub-link. -/
def meshSublinkFail (pair sub : Nat) (d : Dev) : Dev :=
  if d.subUp pair sub ∧ sub < 16 ∧ pair < 6 then
    ((d.faultEvent 0x04 0x01 (16 * pair + sub)).subDown pair sub).syncMesh
  else d

/-- MESH_LINK_FAIL (R143): every sub-link of the pair fails, which is one fault event, and transfers
are relayed. -/
def meshLinkFail (pair : Nat) (d : Dev) : Dev :=
  let (a, b) := pairQuads pair
  if d.meshLinkUp a b ∧ pair < 6 then
    let d := d.faultEvent 0x04 0x02 pair
    (d.each (List.range 16) fun d i => d.subDown pair i).syncMesh
  else d

/-! ### Descriptor entry (R140, R142, R164, R196, R202, R205) -/

/-- DESCRIPTOR_ENTRY: the descriptor of holder `h` of stored packet `pid` reaches its egress queue,
across the mesh when the egress lies in another quadrant. -/
def descriptorEntry (pid : Nat) (h : Holder) (d : Dev) : Dev :=
  match d.pkt? pid with
  | none => d
  | some s =>
    if d.net.crossing.contains (pid, h) ∧ d.meshPath s.home (quadOf h.eg) then
      ({ d with net := { d.net with crossing := d.net.crossing.erase (pid, h) } }).enterDesc pid h
    else d

/-! ### The scheduler (R193 to R199, R116 to R118) -/

/-- The shaper's tokens now, in eightieths of a byte: they grow at RATE (100 Mb/s units, 12.5 B/µs) up to BURST
(R199). -/
def Dev.shaperTokens (d : Dev) (p v : Nat) : Int :=
  let x := d.queue p v
  let grown := x.tokens + (((d.now - x.tokAt) * d.rd R.SCH_QSHAPE_RATE p v : Nat) : Int)
  min grown ((80 * 256 * d.rd R.SCH_QSHAPE_BURST p v : Nat) : Int)

/-- Whether a queue's shaper lets its head start (R199): VC7, attach queues and RATE 0xFFFF have
none. -/
def Dev.shaperOk (d : Dev) (e v : Nat) : Bool :=
  v = 7 || !(isPort e) || d.rd R.SCH_QSHAPE_RATE e v = 0xFFFF || decide (0 ≤ d.shaperTokens e v)

/-- Whether VC `v` of a port is held by a PAUSE of the peer now (R123). -/
def Dev.paused (d : Dev) (p v : Nat) : Bool := d.rdBit R.LNK_HSTAT_PAUSED_BY_PEER v p

/-- The active lanes of a port (LNK.STAT.LANES). -/
def Dev.activeLanes (d : Dev) (p : Nat) : Nat := d.rd R.LNK_STAT_LANES p

/-- Whether a streamer may be cut through onto an egress, or is stored whole (R15, R141). -/
def Dev.cutThrough (d : Dev) (e : Nat) (s : Stored) : Bool :=
  s.pkt.pclass = 1 || s.have_ = s.flits || !(isPort s.ing)
    || (isPort e && decide (d.activeLanes e ≤ d.activeLanes s.ing)) || !(isPort e)

/-- Whether the head of a queue is eligible (R193). -/
def Dev.eligible (d : Dev) (e v : Nat) : Bool :=
  match (d.queue e v).descs with
  | [] => false
  | c :: _ =>
    match d.pkt? c.pid with
    | none => false
    | some s =>
      c.mark.isNone && d.shaperOk e v && d.cutThrough e s && decide (0 < s.have_) && !s.stomped
      && d.meshPath s.home (quadOf e)
      && (if isPort e then
            (d.linkState e = lsUp || d.linkState e = lsResync) && (v = 7 || d.admitted e)
              && decide (c.flits ≤ nth (d.link e).crAvail v) && !(d.paused e v)
          else true)

/-- The better of two queues of an egress: VC7 first, then the smaller finish tag, then the lower VC
(R194). -/
def Dev.betterVc (d : Dev) (e a b : Nat) : Nat :=
  if a = 7 then a else if b = 7 then b
  else
    let df := serialDiff (2 ^ 32) (d.queue e a).ftag (d.queue e b).ftag
    if df < 0 ∨ (df = 0 ∧ a < b) then a else b

/-- The queue the scheduler chooses among some VCs (R194). -/
def Dev.choose (d : Dev) (e : Nat) (vcs : List Nat) : Option Nat :=
  (vcs.filter (d.eligible e)).foldl (fun o v => match o with
    | none => some v
    | some a => some (d.betterVc e a v)) none

/-- The header a packet leaves with: HOPLIM falls by one when the device forwards it (R93). -/
def fwdPkt (s : Stored) : Packet :=
  if isPort s.ing then { s.pkt with hoplim := s.pkt.hoplim - 1 } else s.pkt

/-- The packet that a holder sends: its own, the copy of a mirror session (R530), or the token patched for an
expert (R291). -/
def sendPkt (s : Stored) (h : Holder) : Packet :=
  match s.patch.find? fun x => x.1 = h with
  | some x => x.2
  | none => fwdPkt s

/-- The trace of a stored packet changed. -/
def Dev.modTrace (d : Dev) (pid : Nat) (f : Trace → Trace) : Dev :=
  match d.pkt? pid with
  | some s => match s.tag with
    | some t => d.setPkt pid { s with tag := some (f t) }
    | none => d
  | none => d

/-- The head of a queue taken out to be sent: the next head takes S from its F (R196), V becomes F
but for VC7 (R197), and the shaper pays L (R199). -/
def Dev.popHead (d : Dev) (e v : Nat) (c : Desc) : Dev :=
  let x := d.queue e v
  let delay := d.now - c.at_
  let cost := d.pktCost e v c.flits
  let x' : Queue := { x with
    descs := x.descs.drop 1, age := 0, maxDelay := max x.maxDelay delay
    tokens := d.shaperTokens e v - ((80 * cost : Nat) : Int), tokAt := d.now }
  let d := if v = 7 then d else { d with net := { d.net with vtime := d.net.vtime.put e x.ftag } }
  let d := d.setQueue e v (d.headTags e v x' x.ftag)
  let d := (d.prefetch e v).syncQueue e v
  let d := d.count 0x07 e 0 v
  d.modTrace c.pid fun t => match t.chosen with
    | some _ => t
    | none => { t with chosen := some d.now, depth := queueDepth x,
                       first := if isPort e then e else 0x1FF }

/-- The credit of a packet reserved whole (R112). -/
def Dev.takeCredit (d : Dev) (p v n : Nat) : Dev :=
  let l := d.link p
  let a := nth l.crAvail v - n
  (d.setLink p { l with crAvail := setAt l.crAvail v a }).wrSat R.LNK_CRED_AVAIL a p v

/-- The start of a chosen head: on a port a streamer opens and a pennant is handed to the
transmitter; at an attach point the packet is handed to its block. -/
def Dev.startHead (d : Dev) (e v : Nat) (c : Desc) : Dev :=
  match d.pkt? c.pid with
  | none => d
  | some s =>
    let d := (d.setPkt c.pid { s with begun := s.begun ++ [c.hold] }).popHead e v c
    if isPort e then
      let k := sendPkt s c.hold
      let n := c.flits
      let d := d.takeCredit e v n
      if k.pclass = 2 then
        let o : TxOpen :=
          { pid := c.pid, vc := v, pkt := k, ing := s.ing, total := n, sent := 0,
            allow := d.rd R.LNK_CFG_ILV_BURST e, sinceGrow := 0, hold := c.hold }
        d.modLink e fun l => { l with txOpen := some o }
      else
        d.modLink e fun l => { l with txReady := l.txReady ++ [⟨c.pid, v, k, s.ing, c.hold⟩] }
    else
      let x := d.net.attachIn.get e [] ++ [(c.pid, c.hold)]
      { d with net := { d.net with attachIn := d.net.attachIn.put e x } }

/-- A holder that has taken the last of its packet: it may release (R154). -/
def Dev.markDone (d : Dev) (pid : Nat) (h : Holder) : Dev :=
  match d.pkt? pid with
  | none => d
  | some s =>
    if s.holders.contains h ∧ !(s.done.contains h) then d.setPkt pid { s with done := s.done ++ [h] }
    else d

/-- A packet handed to an internal block, by attach point, packet and internal target: taken out of the
attach point's list, with the holder that has it. -/
def Dev.takeAt (d : Dev) (e pid tgt : Nat) : Option (Stored × Holder × Dev) :=
  match (d.net.attachIn.get e []).find? fun x => x.1 = pid && x.2.tgt = tgt with
  | none => none
  | some x => match d.pkt? pid with
    | none => none
    | some s =>
      let left := (d.net.attachIn.get e []).erase x
      some (s, x.2, { d with net := { d.net with attachIn := d.net.attachIn.put e left } })

/-- A packet handed to an internal block, taken once it is stored whole. -/
def Dev.takeWhole (d : Dev) (e pid tgt : Nat) : Option (Stored × Holder × Dev) :=
  match d.takeAt e pid tgt with
  | some (s, h, d') => if s.have_ = s.flits && !s.stomped then some (s, h, d') else none
  | none => none

/-- SCHEDULER_PACKET_START: with no streamer open on the egress, the chosen queue starts its head
(R194). -/
def schedulerPacketStart (e : Nat) (d : Dev) : Dev :=
  if isPort e ∧ (d.link e).txOpen.isSome then d
  else match d.choose e (List.range 8) with
    | none => d
    | some v => match (d.queue e v).descs with
      | [] => d
      | c :: _ => d.startHead e v c

/-- Whether the head of a queue is a pennant. -/
def Dev.headPennant (d : Dev) (e v : Nat) : Bool :=
  match (d.queue e v).descs with
  | [] => false
  | c :: _ => match d.pkt? c.pid with
    | some s => s.pkt.pclass = 1 && !c.hold.mirror
    | none => false

/-- PENNANT_SLOT: while a streamer is open, a pennant of VC7, VC0 or VC1 takes one from the
allowance (R116, R194). -/
def pennantSlot (p : Nat) (d : Dev) : Dev :=
  match (d.link p).txOpen with
  | none => d
  | some o =>
    if o.allow = 0 ∨ d.rd R.LNK_CFG_ILV_RATIO p = 0 then d
    else match d.choose p ([0, 1, 7].filter (d.headPennant p)) with
      | none => d
      | some v => match (d.queue p v).descs with
        | [] => d
        | c :: _ => (d.startHead p v c).modLink p fun l =>
            { l with txOpen := some { o with allow := o.allow - 1 } }

/-- SHAPER_REFILL: the token count of a shaper reaches zero and its queue wakes (R196, R199). -/
def shaperRefill (p v : Nat) (d : Dev) : Dev :=
  let x := d.queue p v
  if isPort p ∧ v < 7 ∧ x.tokens < 0 ∧ 0 ≤ d.shaperTokens p v ∧ d.rd R.SCH_QSHAPE_RATE p v ≠ 0xFFFF
  then
    let x := { x with tokens := d.shaperTokens p v, tokAt := d.now }
    (d.setQueue p v (d.wake p v x x.stag)).syncQueue p v
  else d

/-! ### Releases (R154, R155) -/

/-- A holder that is done releases its packet.  A release that reaches storage
whose count is already zero is not applied: one fault event, QUARANTINE, and the cells of a pool
are held back until the quadrant core is reset (R155). -/
def Dev.holderGone (d : Dev) (pid : Nat) (h : Holder) (loc : Storage) : Dev :=
  match d.pkt? pid with
  | some s => if s.done.contains h then (d.release pid h).retryOut else d
  | none =>
    if d.net.nextPid ≤ pid then d
    else match loc with
      | .pool q k cs =>
        let d := (d.faultEvent 0x05 0x01 q).set R.BPM_PSTAT_QUARANTINE q
        let old := d.net.quarantined.get (q, k) []
        let free := cs.filter fun c => (d.freeCells q k).contains c
        ({ d with net := { d.net with quarantined := d.net.quarantined.put (q, k) (old ++ free) } }).syncPool
          q k
      | .ring e _ _ =>
        (d.faultEvent 0x05 0x01 (quadOf e)).set R.BPM_PSTAT_QUARANTINE (quadOf e)

/-! ### Buffer errors (R161) -/

/-- BUFFER_ECC_UNCORRECTABLE: an uncorrectable error in flit `flit` of a stored packet; `bad` is
whether the readback will fail when the storage is freed. -/
def bufferEccUncorrectable (pid flit : Nat) (bad : Bool) (d : Dev) : Dev :=
  match d.pkt? pid with
  | none => d
  | some s =>
    if s.stomped ∨ s.flits ≤ flit then d
    else
      let at_ := match s.store with
        | .pool _ k cs => cs.getD (flit / cellFlits k) 0
        | .ring _ _ _ => flit
      let d := (d.faultEvent 0x05 0x02 s.home).set R.BPM_PSTAT_ECC_UNC_SEEN s.home
      let d := d.setPkt pid { s with eccAt := if bad then some at_ else none }
      d.stompPkt pid 0x21 0x05 s.home

/-! ### Ageing and flushes (R163, R165) -/

/-- The ageing limit of a queue in 100 µs steps (XBAR.AGE). -/
def Dev.ageLimit (d : Dev) (e v : Nat) : Nat := 10 * max 1 (d.rd R.XBAR_AGE_AGE_MS (quadOf e) v)

/-- Whether a queue's ageing timer runs (R163). -/
def Dev.ageRuns (d : Dev) (e v : Nat) : Bool :=
  (match (d.queue e v).descs with
    | [] => false
    | c :: _ => c.mark.isNone)
  && !(isPort e && d.paused e v) && !(d.net.held.contains (quadOf e))

/-- AGEING_TICK: at a multiple of 100 µs the timer of a running queue advances, and at its limit the
queue is flushed with QUEUE_AGED, one fault event (R163). -/
def ageingTick (e v : Nat) (d : Dev) : Dev :=
  let x := d.queue e v
  if d.now % 100000 = 0 ∧ x.tickAt ≠ some d.now ∧ d.ageRuns e v then
    let n := x.age + 1
    let d := d.setQueue e v { x with age := n, tickAt := some d.now }
    if d.ageLimit e v ≤ n then (d.faultEvent 0x04 0x03 e).flushQueue e v 0x20 else d
  else d

/-- FLUSH_RECORD_ROOM: a flush takes out its next marked descriptors (R165). -/
def flushRecordRoom (e v : Nat) (d : Dev) : Dev := d.takeMarked e v

/-! ### The record generator (R165, R476, R478) -/

/-- The FAIL pennant of a record (R476). -/
def Dev.failPkt (d : Dev) (r : FailRec) : Packet :=
  { pclass := 1, burgee := r.burgee, hoplim := 63, dst := r.dst, entropy := r.entropy,
    src := d.devFeid, tag := r.tag, typ := 4, opcode := r.reason, len := 16,
    arg5 := r.item * 2 ^ 28 + r.vc * 2 ^ 25 + r.cls * 2 ^ 24 + r.typ * 2 ^ 20 + r.itemDst,
    arg6 := r.name, arg7 := r.status * 2 ^ 16 + r.blk * 2 ^ 8,
    payload := [r.at_ / 2 ^ 32, r.at_ % 2 ^ 32, r.offset / 2 ^ 32 % 2 ^ 32, r.offset % 2 ^ 32].flatMap
      (bytesBE 4) }

/-- The VC of a FAIL pennant: VC7 when the item travelled on VC7, else VC1 (R97). -/
def failVc (r : FailRec) : Nat := if r.vc = 7 then 7 else 1

/-- The record at the head of a quadrant's generator taken out, copied to the history queue and
counted (R474, R478). -/
def Dev.popRecord (d : Dev) (q : Nat) (r : FailRec) : Dev :=
  let d := { d with net := { d.net with recq := d.net.recq.put q ((d.net.recq.get q []).drop 1) } }
  (d.histRecord r).count 0x0F 0 1 r.reason

/-- The record generator's attach point of a quadrant. -/
def rgAttach (q : Nat) : Nat := attach q 4

/-- A FAIL pennant stored in the generator's ring and entered towards its holders.  Its own refusal
is discarded (R478). -/
def Dev.sendFail (d : Dev) (q : Nat) (r : FailRec) (hs : List Holder) : Dev :=
  match d.storePkt (d.failPkt r) (rgAttach q) 1 1 hs none with
  | (d, none) => d
  | (d, some pid) => d.each hs fun d h => d.enterDesc pid h

/-- FAILURE_RECORD_ISSUE: the generator of quadrant `q` issues its oldest record, to the internal
block whose item it names or as a FAIL pennant to the item's source (R165, R476, R478).  It waits
while its ring has no room. -/
def failureRecordIssue (q : Nat) (d : Dev) : Dev :=
  match d.net.recq.get q [] with
  | [] => d
  | r :: _ =>
    match r.toBlock with
    | some e => (d.popRecord q r).emit (.toBlock e r.reason r.tag)
    | none =>
      if r.histOnly then d.popRecord q r
      else if d.ringRoom (rgAttach q) 1 1 = false then d
      else match r.via with
        | some p => (d.popRecord q r).sendFail q r [⟨p, failVc r, 0x1000, false⟩]
        | none =>
          let res := d.routePkt q (d.failPkt r) (failVc r) (rgAttach q)
          let d := (d.popRecord q r).countRoute q res
          match res.1 with
          | .refuse _ => d.set R.FLT_ERR_FAIL_DROP
          | .loc t => d.emit (.toBlock t r.reason r.tag)
          | .port p v => d.sendFail q r [⟨p, v, 0x1000, false⟩]
          | .mcast _ _ => d

end Sys2Proof.Machine
end

