-- ==== Sys2Proof/Machine/Link.lean ====
section
/-! DEFINITION. The link layer (spec/04): reception of DATA, LCF and NEG flits, acknowledgement,
replay and credits, negotiation and resynchronisation, the transmitter's block slots, and the
admission of a link (spec/20, R550 to R554). -/

namespace Sys2Proof.Machine

/-! ### Wakes (R196) -/

/-- A change after which a queue whose head passes from not eligible to eligible wakes. -/
def Dev.waking (d : Dev) (e v : Nat) (f : Dev → Dev) : Dev :=
  let was := d.eligible e v
  let d := f d
  if !was && d.eligible e v && v != 7 then
    let x := d.queue e v
    (d.setQueue e v (d.wake e v x x.stag)).syncQueue e v
  else d

/-- The same for several VCs of a port. -/
def Dev.wakingAll (d : Dev) (e : Nat) (f : Dev → Dev) : Dev :=
  let was := (List.range 7).map fun v => d.eligible e v
  let d := f d
  d.each (List.range 7) fun d v =>
    if !(was.getD v false) && d.eligible e v then
      let x := d.queue e v
      (d.setQueue e v (d.wake e v x x.stag)).syncQueue e v
    else d

/-! ### Counting errors -/

/-- A bit of LNK.ERR set and counted (R516, group 3). -/
def Dev.linkErr (d : Dev) (p : Nat) (f : Fld) : Dev := (d.set f p).count 0x03 p 3 f.lo

/-! ### Acknowledgement and replay (R104 to R109) -/

/-- Flits the replay buffer of a port holds (R105). -/
def Dev.maxOutOwn (d : Dev) (p : Nat) : Nat := 1024 * (max 2 (d.portWidth p) / 2)

/-- The device's MAX_OUT in force on a link (R104). -/
def Dev.maxOutForce (d : Dev) (p : Nat) : Nat :=
  if d.afp21 p then min (d.maxOutOwn p) 2047 else d.maxOutOwn p

/-- An acknowledgement taken (R106): every flit through it is released. -/
def Dev.takeAck (d : Dev) (p a : Nat) : Dev :=
  let m := d.seqMod p
  let l := d.link p
  let a := a % m
  if serialDiff m a l.lastAck > 0 then
    let rf := match l.replayFrom with
      | some s =>
        if serialDiff m s a > 0 then some s
        else if (a + 1) % m = l.txSeq then none else some ((a + 1) % m)
      | none => none
    d.setLink p { l with
      replay := l.replay.filter fun f => decide (serialDiff m f.seq a > 0)
      lastAck := a, timeouts := 0, replayFrom := rf }
  else d

/-- The cumulative credit count of a VC taken (R113). -/
def Dev.takeCum (d : Dev) (p v cum : Nat) : Dev :=
  let l := d.link p
  let old := nth l.crTaken v
  let new := cum % 4096
  if new = old then d
  else d.waking p v fun d =>
    let a := nth l.crAvail v + (new + 4096 - old) % 4096
    (d.setLink p { l with crTaken := setAt l.crTaken v new, crAvail := setAt l.crAvail v a }).wrSat
      R.LNK_CRED_AVAIL a p v

/-- A NAK for ESEQ, unless one is outstanding (R107). -/
def Dev.nakOnce (d : Dev) (p : Nat) : Dev :=
  let l := d.link p
  if l.nakPending ∧ d.now < l.nakAt then d
  else (d.setLink p { l with
      nakPending := true, nakAt := d.now + 8 * d.rd R.LNK_STAT_RTT p + 1000
      lcfDue := true, lcfNak := some l.eseq }).count 0x03 p 0 2

/-- An acknowledgement owed within 64 ns (R108). -/
def Dev.scheduleAck (d : Dev) (p : Nat) : Dev :=
  d.modLink p fun l => { l with ackDue := some (l.ackDue.getD (d.now + 64)) }

/-- Replay from a sequence number: nothing when it is the next to be sent (R107, R132). -/
def Dev.replayAt (d : Dev) (p s : Nat) : Dev :=
  let m := d.seqMod p
  let d := d.takeAck p ((s + m - 1) % m)
  d.modLink p fun l => { l with replayFrom := if s = l.txSeq then none else some s }

/-- Whether a sequence number lies from the oldest unacknowledged flit to the next to be sent
(R107, R130). -/
def Dev.inReplayRange (d : Dev) (p s : Nat) : Bool :=
  let m := d.seqMod p
  let l := d.link p
  decide (s < m) && decide (0 < serialDiff m s l.lastAck) && decide (serialDiff m s l.txSeq ≤ 0)

/-- A flit that failed its check (R107). -/
def Dev.failedFlit (d : Dev) (p : Nat) : Dev := (d.linkErr p R.LNK_ERR_FAILED_FLIT).count 0x03 p 0 0

/-! ### Open packets and framing (R102, R103) -/

/-- The credits an early-ended packet's ring slots return: the flits accepted. -/
def Dev.capCredit (d : Dev) (pid got : Nat) : Dev :=
  match d.pkt? pid with
  | none => d
  | some s => match s.store with
    | .pool _ _ _ => d
    | .ring e v _ => d.setRing e v ((d.ring e v).map fun r =>
        if r.pid = pid then { r with cred := some got } else r)

/-- An arrival not yet taken dropped, with its credits. -/
def Dev.dropArrival (d : Dev) (p v seq : Nat) : Dev :=
  match d.net.arrivals.find? fun a => a.port = p && a.vc = v && a.seq = seq with
  | none => d
  | some a =>
    ({ d with net := { d.net with
      arrivals := d.net.arrivals.filter fun b => !(b.port = p && b.vc = v && b.seq = seq) } }).returnCredit
      p v a.got

/-- The packet open on a VC given up with a reason: stored, waiting to be stored, or already being
discarded. -/
def Dev.abandonOpen (d : Dev) (p v reason : Nat) : Dev :=
  let l := d.link p
  match l.opens.look v with
  | none => d
  | some o =>
    let d := d.setLink p { l with
      opens := l.opens.del v
      openStreamer := if l.openStreamer = some v then none else l.openStreamer }
    if o.discard then d
    else match o.pid with
      | some pid => (d.capCredit pid o.got).stompPkt pid reason 0x03 p
      | none => (d.dropArrival p v o.seq).record (p / 128) (d.pktRec o.pkt v p reason 0x03 p)

/-- Whether a DATA flit violates the framing (R102). -/
def framingBad (l : Link) (f : DataFlit) : Bool :=
  (f.stomp && !f.eop) ||
  match f.pkt with
  | some k =>
    (l.opens.look f.vc).isSome || (k.pclass = 1 && !f.eop)
      || (k.pclass = 2 && (l.openStreamer.isSome || (!f.stomp && f.eop != decide (flitsOf k = 1))))
  | none =>
    match l.opens.look f.vc with
    | none => true
    | some o => !o.discard && o.total != 0 && !f.stomp && f.eop != decide (o.got + 1 = o.total)

/-- A framing violation ended at the receiver (R102): the flit's credit is returned, what it touches
is discarded, and the link enters RESYNC. -/
def Dev.framing (d : Dev) (p : Nat) (f : DataFlit) : Dev :=
  let l := d.link p
  let d := (d.linkErr p R.LNK_ERR_FRAMING).returnCredit p f.vc 1
  let d := d.abandonOpen p f.vc 0x16
  let d := match l.openStreamer with
    | some v => d.abandonOpen p v 0x16
    | none => d
  let d := match f.pkt with
    | none => d
    | some k =>
      let d := d.record (p / 128) (d.pktRec k f.vc p 0x16 0x03 p)
      if f.eop ∨ k.pclass ≠ 2 then
        if f.eop then d else d.modLink p fun l =>
          { l with opens := l.opens.put f.vc ⟨k, f.seq, 1, 0, none, true⟩ }
      else d.modLink p fun l =>
          { l with opens := l.opens.put f.vc ⟨k, f.seq, 1, flitsOf k, none, true⟩,
                   openStreamer := some f.vc }
  d.enterResync p

/-- The bound of R117 for an open streamer of `f` flits, by this device's own values (R119). -/
def Dev.ilvBound (d : Dev) (p f : Nat) : Nat :=
  let r := d.rd R.LNK_CFG_ILV_RATIO p
  if r = 0 then 0 else d.rd R.LNK_CFG_ILV_BURST p + (f - 1) / r

/-- A pennant flit inside an open streamer tested against the bound (R119). -/
def Dev.ilvTest (d : Dev) (p : Nat) (k : Packet) : Dev :=
  let l := d.link p
  match l.openStreamer with
  | none => d
  | some v => match l.opens.look v with
    | none => d
    | some o =>
      if k.pclass ≠ 1 then d
      else
        let n := l.ilvSeen + 1
        let d := d.setLink p { l with ilvSeen := n }
        if d.ilvBound p o.total < n then d.linkErr p R.LNK_ERR_ILV_EXCESS else d

/-- The first flit of a packet delivered: the packet waits for its arrival, open until its EOP. -/
def Dev.openPacket (d : Dev) (p : Nat) (f : DataFlit) (k : Packet) : Dev :=
  let d := (d.ilvTest p k).buntPacket p 0 f.vc f.seq k f.stomp
  let a : Arrival := { port := p, vc := f.vc, pkt := k, seq := f.seq, stamp := d.now }
  let d := { d with net := { d.net with arrivals := d.net.arrivals ++ [a] } }
  if f.eop then d
  else
    let total := if k.pclass = 2 then flitsOf k else 0
    d.modLink p fun l =>
      { l with opens := l.opens.put f.vc ⟨k, f.seq, 1, total, none, false⟩,
               openStreamer := if k.pclass = 2 then some f.vc else l.openStreamer,
               ilvSeen := if k.pclass = 2 then 0 else l.ilvSeen }

/-- A packet's open entry closed. -/
def Dev.closeOpen (d : Dev) (p v : Nat) : Dev :=
  d.modLink p fun l => { l with
    opens := l.opens.del v
    openStreamer := if l.openStreamer = some v then none else l.openStreamer }

/-- A stomped packet ended at the receiver (R103): its flits are discarded and no record is
raised. -/
def Dev.stompEnd (d : Dev) (p : Nat) (f : DataFlit) (o : OpenPkt) : Dev :=
  let d := (d.linkErr p R.LNK_ERR_STOMP_RX).closeOpen p f.vc
  if o.discard then d.returnCredit p f.vc 1
  else match o.pid with
    | none => (d.dropArrival p f.vc o.seq).returnCredit p f.vc 1
    | some pid => match d.pkt? pid with
      | none => d.returnCredit p f.vc 1
      | some s =>
        let d := match s.store with
          | .pool _ _ _ => d.returnCredit p f.vc 1
          | .ring _ _ _ => d.capCredit pid (o.got + 1)
        d.stompAll pid

/-- A flit of a stored packet laid in its storage: a pool cell's credit returns at once (R151), and
the queues that waited for the last flit may wake (R141). -/
def Dev.storeFlit (d : Dev) (p v pid : Nat) : Dev :=
  match d.pkt? pid with
  | none => d.returnCredit p v 1
  | some s =>
    let hs := s.holders.filter fun h => !(s.begun.contains h)
    let was := hs.map fun h => d.eligible h.eg h.vc
    let d := d.setPkt pid { s with have_ := s.have_ + 1 }
    let d := match s.store with
      | .pool _ _ _ => d.returnCredit p v 1
      | .ring _ _ _ => d
    d.each (hs.zip was) fun d x =>
      if !x.2 && d.eligible x.1.eg x.1.vc && x.1.vc != 7 then
        let q := d.queue x.1.eg x.1.vc
        (d.setQueue x.1.eg x.1.vc (d.wake x.1.eg x.1.vc q q.stag)).syncQueue x.1.eg x.1.vc
      else d

/-- A later flit of an open packet delivered. -/
def Dev.nextFlit (d : Dev) (p : Nat) (f : DataFlit) (o : OpenPkt) : Dev :=
  if f.stomp then d.stompEnd p f o
  else
    let last := f.eop || (o.discard && o.total != 0 && o.got + 1 = o.total)
    let d := if last then d.closeOpen p f.vc
      else d.modLink p fun l => { l with opens := l.opens.put f.vc { o with got := o.got + 1 } }
    if o.discard then d.returnCredit p f.vc 1
    else match o.pid with
      | some pid => d.storeFlit p f.vc pid
      | none =>
        { d with net := { d.net with arrivals := d.net.arrivals.map fun a =>
            if a.port = p ∧ a.vc = f.vc ∧ a.seq = o.seq then { a with got := a.got + 1 } else a } }

/-- A DATA flit delivered (R106): framing, then its packet. -/
def Dev.deliverFlit (d : Dev) (p : Nat) (f : DataFlit) : Dev :=
  let l := d.link p
  if framingBad l f then d.framing p f
  else match f.pkt with
    | some k =>
      if f.stomp then ((d.buntPacket p 0 f.vc f.seq k true).linkErr p R.LNK_ERR_STOMP_RX).returnCredit p f.vc 1
      else d.openPacket p f k
    | none => match l.opens.look f.vc with
      | some o => d.nextFlit p f o
      | none => d

/-- Whether a flit arrives with every granted credit already used (R113). -/
def Dev.overrun (d : Dev) (p v : Nat) : Bool :=
  let l := d.link p
  decide (nth l.granted v ≤ nth l.accepted v)

/-- A good DATA flit received (R106, R113). -/
def Dev.receiveData (d : Dev) (p : Nat) (f : DataFlit) : Dev :=
  let m := d.seqMod p
  let d := d.takeAck p f.ack
  let d := if f.crV then d.takeCum p f.crVc f.crCum else d
  let l := d.link p
  let df := serialDiff m f.seq l.eseq
  let out : Int := (d.rd R.LNK_PEER_MAX_OUT p : Nat)
  if df < -out ∨ df ≥ out then (d.linkErr p R.LNK_ERR_OOW).enterResync p
  else if df < 0 then ((d.linkErr p R.LNK_ERR_DUP).count 0x03 p 0 1).scheduleAck p
  else if df > 0 then (d.linkErr p R.LNK_ERR_GAP).nakOnce p
  else if d.overrun p f.vc then (d.linkErr p R.LNK_ERR_CREDIT_OVR).nakOnce p
  else
    let acc := nth l.accepted f.vc + 1
    let d := d.setLink p { l with
      eseq := (l.eseq + 1) % m, nakPending := false
      accepted := setAt l.accepted f.vc acc }
    let d := (d.wrSat R.LNK_CRED_GRANTED (nth l.granted f.vc - acc) p f.vc).count 0x03 p 0 7
    (d.scheduleAck p).deliverFlit p f

/-- Whether a link takes traffic: UP, or in RESYNC with flits still in flight (R130, R132). -/
def Dev.takesData (d : Dev) (p : Nat) : Bool := d.linkState p = lsUp || d.linkState p = lsResync

/-- DATA_FLIT_RECEIVED: with encryption in force the flit is held until its batch verifies
(R554). -/
def dataFlitReceived (p : Nat) (f : DataFlit) (d : Dev) : Dev :=
  if !(d.takesData p) then d
  else if (d.link p).enc then d.modLink p fun l => { l with rxHeld := l.rxHeld ++ [f] }
  else d.receiveData p f

/-- FAILED_FLIT (R107): no field is used, and a NAK for ESEQ goes out. -/
def failedFlit (p : Nat) (d : Dev) : Dev :=
  if d.linkState p = lsDown then d
  else
    let d := d.failedFlit p
    if !(d.takesData p) then d
    else (d.modLink p fun l => { l with rxBad := l.enc }).nakOnce p

/-- RESERVED_FLIT_KIND (R89): a kind 0x5 to 0xE is discarded, counted and flagged; a first byte of 0xF1
to 0xFF is a failed flit. -/
def reservedFlitKind (p byte0 : Nat) (d : Dev) : Dev :=
  if d.linkState p = lsDown then d
  else if byte0 / 16 = 0xF then (if byte0 = 0xF0 then d else failedFlit p d)
  else if 5 ≤ byte0 / 16 then d.linkErr p R.LNK_ERR_RSVD_FKIND
  else d

/-- LCF_RECEIVED (R107, R113): acknowledgement, credits, and a NAK that starts a replay or, out of
range, RESYNC. -/
def lcfReceived (p : Nat) (f : Lcf) (d : Dev) : Dev :=
  if !(d.takesData p) then d
  else
    let d := d.takeAck p f.ack
    let d := d.each (List.range 8) fun d v => d.takeCum p v (nth f.cum v)
    if f.nak = false then d
    else if d.inReplayRange p f.nakSeq then d.replayAt p f.nakSeq
    else d.enterResync p

/-! ### Encrypted batches received (R554) -/

/-- LINK_AUTH_RECEIVED: `ok` is whether the tag verifies under the link key. -/
def linkAuthReceived (p firstSeq cnt : Nat) (ok : Bool) (d : Dev) : Dev :=
  let l := d.link p
  if !(d.takesData p) ∨ l.enc = false then d
  else
    let good := ok && !l.rxBad && l.rxHeld.length = cnt
      && (match l.rxHeld with
          | [] => false
          | f :: _ => f.seq = firstSeq)
    let d := d.setLink p { l with rxHeld := [], rxBad := false, rxBatch := l.rxBatch + 1
                                  authFails := if good then 0 else l.authFails + 1
                                  badBatches := if good then l.badBatches else l.badBatches + 1 }
    let d := d.syncPdata
    if good then d.each l.rxHeld fun d f => if d.takesData p then d.receiveData p f else d
    else
      let d := d.set R.SEC_ERR_TAG_FAIL
      if l.authFails + 1 < 16 then d.nakOnce p else d

/-! ### Admission (R550, R552, R134) -/

/-- Whether a link's peer is attested: attestable peers must be, others are not (R549). -/
def Dev.attestable (d : Dev) (p : Nat) : Bool := bitOf (d.link p).peerCaps 3 && !(d.afp21 p)

/-- Whether the device requires encryption on a port (R552). -/
def Dev.cryptReq (d : Dev) (p : Nat) : Bool := d.rdBit R.SEC_CRYPT_REQ (p % 32) 0 (p / 32)

/-- Free slots of a port's ring on a VC. -/
def Dev.ringFree (d : Dev) (p v : Nat) : Nat := d.ringSize p v - ringOcc (d.ring p v)

/-- The VCs that a link carries beside VC7. -/
def Dev.dataVcs (d : Dev) (p : Nat) : List Nat :=
  (List.range 7).filter fun v => !(d.afp21 p && needsAfp3 v)

/-- A link admitted (R550): ADMITTED, the credits of VC0 to VC6 raised (R134), encryption started
where it is in force (R552), and the peer's digest entered in the known-peer table. -/
def Dev.admitPort (d : Dev) (p : Nat) : Dev :=
  let l := d.link p
  if d.admitted p ∨ (d.cryptReq p ∧ !(bitOf l.peerCaps 2)) then d
  else
    let d := d.wakingAll p fun d => d.set R.LNK_STAT_ADMITTED p
    let d := d.modLink p fun l =>
      { l with enc := l.key && bitOf l.peerCaps 2 && (d.cryptReq p || l.peerReq), txBatch := 0,
               rxHeld := [], rxBad := false, authFails := 0 }
    let d := { d with sec := { d.sec with known :=
      if l.attState ≠ 2 then d.sec.known else d.sec.known.put p l.digest } }
    let d := d.recordNew
    ((d.each (d.dataVcs p) fun d v => d.returnCredit p v (d.ringFree p v)).syncExcl p).syncPdata

/-! ### Negotiation (R129 to R132) -/

/-- A port passed up by its PHY: DOWN to NEGOTIATE (R130), with the pauses cleared (R124). -/
def Dev.linkUpPhy (d : Dev) (p : Nat) : Dev :=
  let d := (d.wr R.LNK_HSTAT_PAUSED_BY_PEER 0 p).wr R.LNK_HSTAT_INDEF 0 p
  let d := d.wr R.LNK_HSTAT_PAUSED_AT_PEER 0 p
  let init := (List.range 8).map fun v => if v = 7 then d.ringFree p v else 0
  let d := d.modLink p fun l =>
    { freshLink l with
      pauseUntil := [none, none, none, none, none, none, none, none], negPeerSeq := none
      negNext := d.now, initCr := init, timeNext := d.now, timePeer := none, timeSent := []
      noverSeen := false }
  d.setLinkState p lsNegotiate

/-- The version two offers choose, if any (R131). -/
def chooseVersion (maxv minv : Nat) : Option Nat :=
  let v := min 0x30 maxv
  if 0x21 ≤ v ∧ minv ≤ v then some v else none

/-- Replay timeout floor from the round trip, in 16 ns units (R111). -/
def Dev.replayFloor (d : Dev) (p : Nat) : Nat := ceilDiv (8 * d.rd R.LNK_STAT_RTT p + 200) 16

/-- Whether the device is the requester of a port's attestation, and whether the three fields tie (R548): its own
identity, engine and lane against what the peer's marker words say on the lane at position 0. -/
def Dev.requester (d : Dev) (p : Nat) : Bool × Bool :=
  let x := d.lane (2 * p)
  let dev := d.shortId
  let oe := p / 16
  let ln := 2 * p % 32
  let r := decide (dev < x.mDev) || (dev = x.mDev && (decide (oe < x.mOe) || (oe = x.mOe && decide (ln < x.mLane))))
  (r, dev = x.mDev && oe = x.mOe && ln = x.mLane)

/-- An SPDM message on VC7 (R548): version and code as SPDM gives them, and the rest, its length included, free
(assumption log, row 4); a request goes in a CMD pennant, a response in a STATUS pennant. -/
def Dev.sendSpdm (d : Dev) (p : Nat) (req : Bool) (code tag : Nat) : Dev :=
  let n := d.free % 209
  let body := (List.range (2 + n)).map fun i => Config.freeValue (d.freeCtr + 1 + i) % 256
  let d' := { d with freeCtr := d.freeCtr + 3 + n }
  d'.sendPort { pclass := 1, hoplim := 1, dst := 0xFFFFE, src := d.devFeid, typ := if req then 2 else 3
                opcode := 0x10, tag := tag, len := 4 + n, payload := [0x13, code] ++ body } hubAttach 7 p

/-- Peer attestation started on a port (R548, R549): the requester's GET_VERSION leaves; on a tie nobody requests. -/
def Dev.attBegin (d : Dev) (p : Nat) : Dev :=
  let r := d.requester p
  let d := d.modLink p fun l =>
    { l with attState := 1, attCause := if r.2 then 7 else 0, attAt := d.now + 20000000 }
  (if r.1 then d.sendSpdm p true 0x84 0 else d).syncPdata

/-- UP entered from CONFIRM (R131, R111, R199, R548). -/
def Dev.enterUp (d : Dev) (p : Nat) : Dev :=
  let m := d.seqMod p
  let l := d.link p
  let zero := [0, 0, 0, 0, 0, 0, 0, 0]
  let peer := (List.range 8).map fun v =>
    if d.afp21 p && needsAfp3 v then 0 else nth l.peerInitCr v
  let d := match l.negRtt with
    | some r => d.wrSat R.LNK_STAT_RTT (r / 8) p
    | none => d
  let d := d.wrSat R.LNK_CFG_REPLAY_TO (max (d.rd R.LNK_CFG_REPLAY_TO p) (d.replayFloor p)) p
  let att := d.attestable p
  let d := d.setLink p { l with
    txSeq := 0, lastAck := m - 1, replay := [], replayFrom := none, timeouts := 0
    crAvail := peer, crTaken := zero, eseq := 0, nakPending := false, ackDue := none
    granted := l.initCr, accepted := zero, returned := zero, reported := zero
    unrepAt := [none, none, none, none, none, none, none, none], opens := [], openStreamer := none
    lateRepoch := none, lastLcf := d.now, lcfDue := false, lcfNak := none }
  let d := d.each (List.range 8) fun d v =>
    (d.wrSat R.LNK_CRED_AVAIL (nth peer v) p v).wrSat R.LNK_CRED_GRANTED (nth l.initCr v) p v
  let d := d.each (List.range 7) fun d v =>
    d.setQueue p v { d.queue p v with
      tokens := ((80 * 256 * d.rd R.SCH_QSHAPE_BURST p v : Nat) : Int), tokAt := d.now }
  let d := d.setLinkState p lsUp
  let d := d.returnCredit p 7 (d.ringFree p 7 - nth l.initCr 7)
  if att then d.attBegin p else d

/-- Back to NEGOTIATE without loss, from CONFIRM (R130). -/
def Dev.toNegotiate (d : Dev) (p : Nat) : Dev :=
  let d := d.setLinkState p lsNegotiate
  let d := (d.wr R.LNK_STAT_VER 0 p).wr R.LNK_PEER_AGREED 0 p
  d.modLink p fun l => { l with negNext := d.now }

/-- What every NEG flit leaves: the peer's CAPS, MAX_OUT and offer, and the round trip of its echo
(R129, R131). -/
def Dev.noteNeg (d : Dev) (p : Nat) (f : NegFlit) : Dev :=
  let l := d.link p
  let rtt := if f.turnNs = 0xFFFFFF then l.negRtt
    else match l.negSent.find? fun x => x.1 = f.echoNseq with
      | some x => some (d.now - x.2 - f.turnNs)
      | none => l.negRtt
  let d := d.wr R.LNK_PEER_CAPS f.caps p
  d.setLink p { l with negPeerSeq := some f.nseq, negPeerAt := d.now, negRtt := rtt
                       peerInitCr := f.initCr, peerCaps := f.caps, peerDev := f.srcDev }

/-- The version agreed, with both MAX_OUT in force (R104, R131). -/
def Dev.agree (d : Dev) (p v maxOut : Nat) : Dev :=
  let d := (d.wr R.LNK_PEER_AGREED v p).wr R.LNK_STAT_VER (if v < 0x30 then 1 else 2) p
  d.wr R.LNK_PEER_MAX_OUT (min maxOut (if v < 0x30 then 2047 else 32767)) p

/-- A peer's RESYNC that is not late, in RESYNC (R130, R132). -/
def Dev.resyncFrom (d : Dev) (p : Nat) (f : NegFlit) : Dev :=
  if d.inReplayRange p f.eseq then
    let d := (d.modLink p fun l => { l with lateRepoch := some f.repoch }).replayAt p f.eseq
    let d := d.modLink p fun l => { l with lastLcf := d.now, lcfDue := true }
    d.setLinkState p lsUp
  else d.toNegotiateLost p

/-- Whether an OFFER received in CONFIRM is stale (R130). -/
def staleOffer (l : Link) (f : NegFlit) : Bool :=
  f.turnNs = 0xFFFFFF || decide (serialDiff 256 f.echoNseq l.firstConfirm < 0)

/-- NEG_FLIT_RECEIVED: the state machine of R130. -/
def negFlitReceived (p : Nat) (f : NegFlit) (d : Dev) : Dev :=
  let st := d.linkState p
  if st = lsDown ∨ 2 < f.nstep then d
  else
    let d := d.noteNeg p f
    let l := d.link p
    if st = lsNegotiate then
      if f.nstep = 2 then d
      else match chooseVersion f.maxv f.minv with
        | some v =>
          let d := (d.agree p v f.maxOut).modLink p fun l =>
            { l with firstConfirm := (l.negSeq + 1) % 256, negNext := d.now }
          d.setLinkState p lsConfirm
        | none =>
          let d := d.linkErr p R.LNK_ERR_NOVER
          if l.noverSeen then d
          else (d.modLink p fun l => { l with noverSeen := true }).faultEvent 0x03 0x03 p
    else if st = lsConfirm then
      if f.nstep = 1 then
        (if f.agreed = d.rd R.LNK_PEER_AGREED p then d.enterUp p else d.toNegotiate p)
      else if f.nstep = 0 ∧ staleOffer l f = false then d.toNegotiate p
      else d
    else if f.nstep = 0 then d.toNegotiateLost p
    else if f.nstep = 1 ∨ l.lateRepoch = some f.repoch then d
    else if st = lsUp then d.enterResync p
    else d.resyncFrom p f

/-! ### Timers of the link layer -/

/-- ACK_HOLD_EXPIRY (R108). -/
def ackHoldExpiry (p : Nat) (d : Dev) : Dev :=
  let l := d.link p
  match l.ackDue with
  | some t => if t ≤ d.now ∧ d.linkState p = lsUp then
      d.setLink p { l with ackDue := none, lcfDue := true } else d
  | none => d

/-- LCF_PERIODIC (R108). -/
def lcfPeriodic (p : Nat) (d : Dev) : Dev :=
  let l := d.link p
  if d.linkState p = lsUp ∧ l.lastLcf + 1000 ≤ d.now then
    d.setLink p { l with lcfDue := true, lastLcf := d.now } else d

/-- CREDIT_REPORT_DUE (R113). -/
def creditReportDue (p v : Nat) (d : Dev) : Dev :=
  let l := d.link p
  let n := (nth l.returned v + 4096 - nth l.reported v) % 4096
  let due := match l.unrepAt.getD v none with
    | some t => decide (t + 64 ≤ d.now) || decide (2048 ≤ n + 64)
    | none => false
  if due && d.linkState p = lsUp then d.setLink p { l with lcfDue := true } else d

/-- NAK_HOLDOFF_EXPIRY (R107). -/
def nakHoldoffExpiry (p : Nat) (d : Dev) : Dev :=
  let l := d.link p
  if l.nakPending ∧ l.nakAt ≤ d.now then d.setLink p { l with nakPending := false } else d

/-- REPLAY_TIMEOUT (R109): the MAX_TMO-th consecutive timeout enters RESYNC. -/
def replayTimeout (p : Nat) (d : Dev) : Dev :=
  let l := d.link p
  match l.replay with
  | [] => d
  | f :: _ =>
    if d.linkState p = lsUp ∧ l.replayFrom = none ∧ f.sentAt + 16 * d.rd R.LNK_CFG_REPLAY_TO p ≤ d.now
    then
      if max 1 (d.rd R.LNK_CFG_MAX_TMO p) ≤ l.timeouts + 1 then d.enterResync p
      else d.setLink p { l with timeouts := l.timeouts + 1, replayFrom := some f.seq }
    else d

/-- Whether a link is in a state that sends NEG flits (R130). -/
def Dev.negotiating (d : Dev) (p : Nat) : Bool :=
  let s := d.linkState p
  s = lsNegotiate || s = lsConfirm || s = lsResync

/-- NEG_FLIT_TIMER (R130): a NEG flit becomes due every 1 µs; the next block slot sends it. -/
def negFlitTimer (p : Nat) (d : Dev) : Dev :=
  let l := d.link p
  if d.negotiating p ∧ l.negNext + 1000 ≤ d.now then d.setLink p { l with negNext := d.now } else d

/-- CONFIRM_TIMEOUT (R130). -/
def confirmTimeout (p : Nat) (d : Dev) : Dev :=
  if d.linkState p = lsConfirm ∧ (d.link p).enteredAt + 100000 ≤ d.now then d.toNegotiate p else d

/-- RESYNC_TIMEOUT (R130). -/
def resyncTimeout (p : Nat) (d : Dev) : Dev :=
  if d.linkState p = lsResync ∧ (d.link p).enteredAt + 100000 ≤ d.now then d.toNegotiateLost p else d

/-- TIME_WORD_TIMER (R127): a TIME word every 10 µs out of DOWN; T_TX and TURN are filled in when its
block leaves. -/
def timeWordTimer (p : Nat) (d : Dev) : Dev :=
  let l := d.link p
  if d.linkState p ≠ lsDown ∧ l.timeNext ≤ d.now then
    (d.setLink p { l with timeNext := d.now + 10000 }).sendHaly p 3 0 0 0 0 0xFFFFFFFF
  else d

/-- PAUSE_EXPIRY (R123): the VCs whose PTIME has run out may start packets again. -/
def pauseExpiry (p : Nat) (d : Dev) : Dev :=
  let l := d.link p
  let out := (List.range 8).filter fun v => match l.pauseUntil.getD v none with
    | some t => decide (t ≤ d.now)
    | none => false
  d.wakingAll p fun d =>
    let d := d.each out fun d v => d.wrBit R.LNK_HSTAT_PAUSED_BY_PEER v false p
    d.modLink p fun l => { l with
      pauseUntil := (List.range 8).map fun v =>
        if out.contains v then none else l.pauseUntil.getD v none }

/-! ### The transmitter's block slots (R65, R88, R108, R116, R120, R553) -/

/-- The slot budget of R117: at most 6 of 64 consecutive slots for LCFs and halyard blocks that repeat
words or carry TIME. -/
def Link.budgetOk (l : Link) : Bool := ((l.budget.take 63).filter fun b => b).length < 6

/-- The acknowledgement sent: the last flit accepted in order. -/
def Dev.ackOut (d : Dev) (p : Nat) : Nat :=
  let m := d.seqMod p
  ((d.link p).eseq + m - 1) % m

/-- A TIME word completed as it leaves (R127): T_TX, the echo of the peer's last word, and TURN. -/
def Dev.fillTime (d : Dev) (p : Nat) (w : Haly) : Haly :=
  match (d.link p).timePeer with
  | some (hs, at_) => { w with b1 := hs, w1 := d.now / 2 ^ 32, w2 := d.now % 2 ^ 32, w3 := d.now - at_ }
  | none => { w with w1 := d.now / 2 ^ 32, w2 := d.now % 2 ^ 32, w3 := 0xFFFFFFFF }

/-- A halyard block of up to 15 words (R120). -/
def Dev.sendHalyBlock (d : Dev) (p : Nat) : Dev :=
  let l := d.link p
  let go := l.halyOut.take 15
  let keep := go.filterMap fun h => if h.left ≤ 1 then none else some { h with left := h.left - 1 }
  let times := go.filterMap fun h => if h.word.htype = 3 then some (h.word.hseq, d.now) else none
  let ws := go.map fun h => if h.word.htype = 3 then d.fillTime p h.word else h.word
  let d := d.setLink p { l with
    halyOut := l.halyOut.drop 15 ++ keep
    timeSent := (l.timeSent ++ times).drop ((l.timeSent ++ times).length - 8) }
  d.each ws fun d w => (d.emit (.haly p w)).buntHaly p 1 w

/-- An LCF (R92, R108). -/
def Dev.sendLcf (d : Dev) (p : Nat) : Dev :=
  let l := d.link p
  let f : Lcf := { nak := l.lcfNak.isSome, nakSeq := l.lcfNak.getD 0, ack := d.ackOut p,
                   cum := l.returned.map fun n => n % 4096 }
  let d := d.setLink p { l with
    lcfDue := false, lcfNak := none, ackDue := none, lastLcf := d.now
    reported := l.returned, unrepAt := [none, none, none, none, none, none, none, none] }
  (d.count 0x03 p 0 5).emit (.lcf p f)

/-- The credit field of a DATA flit: the first VC with credits unreported (R113). -/
def Link.crField (l : Link) : Option Nat :=
  (List.range 8).find? fun v => (l.unrepAt.getD v none).isSome

/-- A DATA flit leaves: with the acknowledgement and a credit count of the moment, counted in the
open batch (R91, R108, R113, R553). -/
def Dev.emitData (d : Dev) (p : Nat) (t : TxFlit) : Dev :=
  let l := d.link p
  let cv := l.crField
  let v := cv.getD 0
  let f : DataFlit :=
    { vc := t.vc, sop := t.sop, eop := t.eop, stomp := t.stomp, seq := t.seq, ack := d.ackOut p
      crV := cv.isSome, crVc := v, crCum := if cv.isSome then nth l.returned v % 4096 else 0
      pkt := if t.sop then some t.pkt else none }
  let l := { l with ackDue := none, txBatch := if l.enc then l.txBatch + 1 else l.txBatch }
  let l := match cv with
    | some v => { l with reported := setAt l.reported v (nth l.returned v)
                         unrepAt := setAt l.unrepAt v none }
    | none => l
  (d.setLink p l).emit (.flit p f)

/-- A new DATA flit sent and kept for replay (R105), on egress counter XBAR group 1. -/
def Dev.sendNew (d : Dev) (p : Nat) (k : Packet) (ing vc : Nat) (sop eop stomp : Bool) : Dev :=
  let l := d.link p
  let t : TxFlit := { seq := l.txSeq, vc := vc, sop := sop, eop := eop, stomp := stomp, pkt := k,
                      ing := ing, sentAt := d.now }
  let d := d.setLink p { l with txSeq := (l.txSeq + 1) % d.seqMod p, replay := l.replay ++ [t] }
  let d := if sop then d.buntPacket p 1 vc t.seq k stomp else d
  ((d.emitData p t).count 0x03 p 0 6).count 0x04 p 1 vc

/-- A replayed flit (R109): no credit, its own header but for ACK and the credit fields. -/
def Dev.sendReplay (d : Dev) (p s : Nat) : Dev :=
  let l := d.link p
  let m := d.seqMod p
  match l.replay.find? fun f => f.seq = s with
  | none => d.setLink p { l with replayFrom := none }
  | some t =>
    let nxt := (s + 1) % m
    let d := d.setLink p { l with
      replay := l.replay.map fun f => if f.seq = s then { f with sentAt := d.now } else f
      replayFrom := if nxt = l.txSeq then none else some nxt }
    (d.emitData p t).count 0x03 p 0 3

/-- The trace time of the last flit handed to the link layer (R523). -/
def Dev.traceSent (d : Dev) (pid : Nat) : Dev :=
  d.modTrace pid fun t => match t.sent with
    | some _ => t
    | none => { t with sent := some d.now }

/-- The next flit of the open streamer, its last, or its STOMP (R103, R116, R154). -/
def Dev.sendStreamer (d : Dev) (p : Nat) (o : TxOpen) : Dev :=
  let close (d : Dev) : Dev := d.modLink p fun l => { l with txOpen := none }
  let addBack (d : Dev) (n : Nat) : Dev :=
    let l := d.link p
    let a := nth l.crAvail o.vc + n
    (d.setLink p { l with crAvail := setAt l.crAvail o.vc a }).wrSat R.LNK_CRED_AVAIL a p o.vc
  if o.stomp then
    if o.sent = 0 then ((addBack d o.total).release o.pid o.hold) |> close
    else
      let d := d.sendNew p o.pkt o.ing o.vc false true true
      close ((addBack d (o.total - o.sent - 1)).release o.pid o.hold)
  else
    let n := o.sent + 1
    let last := decide (n = o.total)
    let d := d.sendNew p o.pkt o.ing o.vc (decide (o.sent = 0)) last false
    if last then ((close d).traceSent o.pid).markDone o.pid o.hold
    else
      let r := d.rd R.LNK_CFG_ILV_RATIO p
      let g := o.sinceGrow + 1
      let grow := decide (r ≠ 0) && g = r
      let o' := { o with
        sent := n, sinceGrow := if grow then 0 else g
        allow := if grow then min (o.allow + 1) (d.rd R.LNK_CFG_ILV_BURST p) else o.allow }
      d.modLink p fun l => { l with txOpen := some o' }

/-- Whether the open streamer has a flit to send now: one that has arrived, or its STOMP. -/
def Dev.streamerReady (d : Dev) (o : TxOpen) : Bool :=
  o.stomp || o.hold.mirror || match d.pkt? o.pid with
    | some s => decide (o.sent < s.have_)
    | none => false

/-- A waiting pennant leaves (R99). -/
def Dev.sendPennant (d : Dev) (p : Nat) (t : TxPen) : Dev :=
  let d := d.modLink p fun l => { l with txReady := l.txReady.drop 1 }
  let d := d.sendNew p t.pkt t.ing t.vc true true false
  (d.traceSent t.pid).markDone t.pid t.hold

/-- A NEG flit for the state the link is in (R129, R130). -/
def Dev.sendNeg (d : Dev) (p : Nat) : Dev :=
  let l := d.link p
  let st := d.linkState p
  let ns := (l.negSeq + 1) % 256
  let f : NegFlit :=
    { nstep := if st = lsNegotiate then 0 else if st = lsConfirm then 1 else 2
      nseq := ns, maxOut := d.maxOutOwn p, eseq := l.eseq, caps := 0x1F, srcDev := d.shortId
      echoNseq := l.negPeerSeq.getD 0
      turnNs := if l.negPeerSeq.isSome then d.now - l.negPeerAt else 0xFFFFFF
      initCr := l.initCr, agreed := d.rd R.LNK_PEER_AGREED p, repoch := l.repoch }
  let sent := l.negSent ++ [(ns, d.now)]
  (d.setLink p { l with negSeq := ns, negNext := d.now + 1000
                        negSent := sent.drop (sent.length - 128) }).emit (.neg p f)

/-- The slot's use of the budget noted. -/
def Dev.slotUsed (d : Dev) (p : Nat) (b : Bool) : Dev :=
  d.modLink p fun l => { l with budget := b :: l.budget.take 62 }

/-- The DATA part of a slot: replay first, then the streamer's or a pennant's next flit, within
MAX_OUT (R104, R107). -/
def Dev.sendData (d : Dev) (p : Nat) : Option Dev :=
  let l := d.link p
  if d.linkState p ≠ lsUp then none
  else match l.replayFrom with
    | some s => some (d.sendReplay p s)
    | none =>
      if d.maxOutForce p ≤ l.replay.length then none
      else match l.txReady with
        | t :: _ => some (d.sendPennant p t)
        | [] => match l.txOpen with
          | some o => if d.streamerReady o then some (d.sendStreamer p o) else none
          | none => none

/-- TRANSMIT_BLOCK_SLOT: one block leaves the port.  A new halyard word goes first (R120), then the
LINK_AUTH of a closed batch (R553), an LCF that is due, halyard repeats, a NEG flit, DATA, and
otherwise a filler (R65). -/
def transmitBlockSlot (p : Nat) (d : Dev) : Dev :=
  let l := d.link p
  let fresh (h : HalyOut) : Bool := h.word.htype != 3 && h.left = 3
  if d.linkState p = lsDown then (if (d.port p).up then d.emit (.filler p) else d)
  else if l.halyOut.any fresh then
    let ord := l.halyOut.filter fresh ++ l.halyOut.filter fun h => !(fresh h)
    ((d.setLink p { l with halyOut := ord }).sendHalyBlock p).slotUsed p false
  else if l.enc ∧ (l.txBatch = 32 ∨ (0 < l.txBatch ∧ (d.sendData p).isNone)) then
    ((d.setLink p { l with txBatch := 0, txb := l.txb + 1 }).emit (.auth p l.txb)).slotUsed p false
  else if d.linkState p = lsUp ∧ l.lcfDue ∧ l.budgetOk then (d.sendLcf p).slotUsed p true
  else if l.halyOut ≠ [] ∧ l.budgetOk then (d.sendHalyBlock p).slotUsed p true
  else if d.negotiating p ∧ l.negNext ≤ d.now then (d.sendNeg p).slotUsed p false
  else match d.sendData p with
    | some d => d.slotUsed p false
    | none => (d.emit (.filler p)).slotUsed p false

end Sys2Proof.Machine
end

