-- ==== Sys2Proof/Machine/Lanes.lean ====
section
/-! DEFINITION. Optical engines, lanes and port formation (spec/03): bring-up, service, loss, the lane
power states and PORT_STATE.  Lane codes are 32e + l; the registers of a lane are OE fields of
instance e, element l. -/

namespace Sys2Proof.Machine

/-! ### Lane registers -/

def Dev.lrd (d : Dev) (f : Fld) (x : Nat) : Nat := d.rd f (x / 32) (x % 32)
def Dev.lwr (d : Dev) (f : Fld) (v x : Nat) : Dev := d.wr f v (x / 32) (x % 32)

/-- Lane states of OE.LSTAT.STATE. -/
def laOff : Nat := 0
def laDark : Nat := 1
def laWaitLaser : Nat := 2
def laWaitLight : Nat := 3
def laTraining : Nat := 4
def laReady : Nat := 5
def laActive : Nat := 6
def laRetrain : Nat := 7
def laStandby : Nat := 8
def laFailed : Nat := 9

def Dev.laneState (d : Dev) (x : Nat) : Nat := d.lrd R.OE_LSTAT_STATE x
def Dev.laneStep (d : Dev) (x : Nat) : Nat := d.lrd R.OE_LSTAT_STEP x
def Dev.setLaneState (d : Dev) (x st : Nat) : Dev := d.lwr R.OE_LSTAT_STATE st x
def Dev.modLane (d : Dev) (x : Nat) (f : Lane → Lane) : Dev := d.setLane x (f (d.lane x))

/-- A bring-up step begun (R71). -/
def Dev.beginStep (d : Dev) (x n : Nat) : Dev :=
  (d.lwr R.OE_LSTAT_STEP n x).modLane x fun l => { l with stepAt := d.now }

/-- A bring-up step begun in a lane state; a retraining lane keeps the state RETRAIN. -/
def Dev.advance (d : Dev) (x st n : Nat) : Dev :=
  let d := if d.laneState x = laRetrain then d else d.setLaneState x st
  d.beginStep x n

/-- The position of a lane in its port. -/
def Dev.lanePos (d : Dev) (x : Nat) : Nat := x - 2 * d.lanePort x

/-- The block code of OE counters (R516). -/
def Dev.laneCount (d : Dev) (x grp sub : Nat) (n : Nat := 1) : Dev := d.count 0x02 x grp sub n

/-- Whether both laser inputs of an engine are low (R58). -/
def Dev.bothLow (d : Dev) (e : Nat) : Bool := d.on R.OE_LASER_IN0_LOW e && d.on R.OE_LASER_IN1_LOW e

/-- Whether a marker STATE lets the peer's lane carry blocks (R82). -/
def peerReady (st : Nat) : Bool := st = 2 || st = 3

/-! ### Ports going down (R83) -/

/-- A port down at the PHY: its link goes DOWN and its queues are flushed (R83, R130, R164). -/
def Dev.portDown (d : Dev) (p : Nat) : Dev :=
  let x := d.port p
  let d := d.setPort p { x with up := false, txMask := 0, rxMask := 0, nextMask := 0,
                                readyAt := none }
  let d := d.each (d.portLanes p) fun d l => d.lwr R.OE_LSTAT_IN_MASK 0 l
  d.linkDown p

/-- Whether some lane of a port is READY, ACTIVE or held in STANDBY. -/
def Dev.portAlive (d : Dev) (p : Nat) : Bool :=
  (d.portLanes p).any fun l =>
    let s := d.laneState l
    s = laReady || s = laActive || s = laStandby

/-- The port of a lane that has left service goes down when it was the last (R83). -/
def Dev.checkPort (d : Dev) (p : Nat) : Dev :=
  if (d.port p).up ∧ d.portAlive p = false then d.portDown p else d

/-! ### Starting and failing lanes (R71, R75, R81) -/

/-- The slice that serves a lane (R498). -/
def Dev.laneSlice (d : Dev) (x : Nat) : Nat :=
  let o := d.rd R.OE_LMAP_OVR (x / 32) (x % 32)
  if o = 0x3F then d.rd R.OE_LMAP_SLICE (x / 32) (x % 32) else o

/-- Bring-up begun on a lane (R71, R76): with both laser inputs low it waits in WAIT_LASER. -/
def Dev.startBringup (d : Dev) (x : Nat) : Dev :=
  let e := x / 32
  let d := d.modLane x fun l =>
    { l with retryAt := none, qualTries := 0, badFrames := 0, badMarkers := 0, uncTimes := [],
             poison := 0, wakeAt := none, stbyNext := false, darkNext := false,
             peerStbyNext := false, peerDarkNext := false, mState := 15, wantRetrain := false }
  let d := d.lwr R.OE_LSTAT_PEER_STBY 0 x
  if d.bothLow e then (d.setLaneState x laWaitLaser).beginStep x 0
  else
    let d := d.wr R.OE_LASER_CLASS (d.rd R.OE_LASER_CLASS_NEXT e) e
    let d := d.wr R.OE_LMAP_EFF (d.laneSlice x) e (x % 32)
    (d.setLaneState x laTraining).beginStep x 1

/-- A lane fails in service (R81): one fault event, FAIL_CAUSE, FAULT_IDLE sent, and a retry in 10 ms
(R75). -/
def Dev.failLane (d : Dev) (x cause : Nat) : Dev :=
  let d := (d.lwr R.OE_LSTAT_FAIL_CAUSE cause x).laneCount x 0 cause
  let d := (d.faultEvent 0x02 0x02 x cause).setLaneState x laFailed
  let d := d.modLane x fun l =>
    { l with retryAt := some (d.now + 10000000), tries := 0, retrainFails := 0, failed := false,
             wantRetrain := false }
  (d.emit (.laneTx x 4)).checkPort (d.lanePort x)

/-- A bring-up attempt fails (R75): again in 10 ms; after three the lane is FAILED, one fault event,
and is retried once a second with no further events. -/
def Dev.failStep (d : Dev) (x cause : Nat) (event : Bool) : Dev :=
  let l := d.lane x
  let n := l.tries + 1
  if l.failed then d.modLane x fun l => { l with retryAt := some (d.now + 1000000000) }
  else if n < 3 then
    let d := if cause = 9 then (d.lwr R.OE_LSTAT_FAIL_CAUSE 9 x).setLaneState x laFailed else d
    d.modLane x fun l => { l with tries := n, retryAt := some (d.now + 10000000) }
  else
    let d := ((d.lwr R.OE_LSTAT_FAIL_CAUSE cause x).laneCount x 0 cause).setLaneState x laFailed
    let d := if event then d.faultEvent 0x02 0x03 x cause else d
    (d.modLane x fun l =>
      { l with failed := true, tries := n, retryAt := some (d.now + 1000000000) }).emit (.laneTx x 4)

/-- Whether a lane carries or may carry traffic: the states in which R81 applies. -/
def Dev.inService (d : Dev) (x : Nat) : Bool :=
  let s := d.laneState x
  s = laReady || s = laActive || s = laRetrain

/-- Whether a lane is past the wait for light, so that losing it ends the attempt. -/
def Dev.trainingLane (d : Dev) (x : Nat) : Bool := d.laneState x = laTraining && 3 ≤ d.laneStep x

/-- A condition of R81: a lane in service fails; a training lane's attempt fails. -/
def Dev.lossOf (d : Dev) (x cause : Nat) : Dev :=
  if d.inService x then d.failLane x cause
  else if d.trainingLane x then d.failStep x cause true
  else d

/-! ### Laser inputs (R58) -/

/-- LASER_LOW: an input below +17 dBm for 10 µs, one fault event; with both low every lane of the
engine fails with FAIL_CAUSE 10. -/
def laserLow (e input : Nat) (d : Dev) : Dev :=
  let f := if input = 0 then R.OE_LASER_IN0_LOW else R.OE_LASER_IN1_LOW
  if input < 2 ∧ d.on f e = false then
    let d := (d.faultEvent 0x02 0x01 (2 * e + input)).set f e
    let d := d.set R.OE_LASER_LOW_SEEN e
    if d.bothLow e then d.each ((List.range 32).map fun l => 32 * e + l) fun d x => d.lossOf x 10
    else d
  else d

/-- LASER_INPUT_RESTORED: light of `power` (0.1 dBm) on a low input (R575). -/
def laserInputRestored (e input power : Nat) (d : Dev) : Dev :=
  let f := if input = 0 then R.OE_LASER_IN0_LOW else R.OE_LASER_IN1_LOW
  let g := if input = 0 then R.OE_LASER_IN0_PWR else R.OE_LASER_IN1_PWR
  if input < 2 ∧ d.on f e ∧ 170 ≤ power then (d.clr f e).wrSat g power e else d

/-! ### Bring-up (R71 to R75) -/

/-- Whether bring-up may begin on a lane: its engine is on, its port is not held dark, and it waits
for its start or for laser light. -/
def Dev.mayStart (d : Dev) (x : Nat) : Bool :=
  let s := d.laneState x
  d.pdOn (pdOe (x / 32)) && (d.port (d.lanePort x)).cmdState != 2 && x < 1024
    && (s = laOff || (s = laWaitLaser && !(d.bothLow (x / 32))))

/-- LANE_BRINGUP_START (R71). -/
def laneBringupStart (x : Nat) (d : Dev) : Dev := if d.mayStart x then d.startBringup x else d

/-- LANE_RING_LOCK: step 2, PRBS13 with TRAIN_EQ, and the wait for light (R71); no transmitter runs without REFCLK_PHY
(R570). -/
def laneRingLock (x : Nat) (d : Dev) : Dev :=
  if d.laneState x = laTraining ∧ d.laneStep x = 1 ∧ d.on R.PWR_CLKSTAT_PHY_OK then
    let d := (d.advance x laWaitLight 2).modLane x fun l => { l with txOn := true }
    d.emit (.laneTx x 1)
  else d

/-- LANE_LIGHT_DETECTED: above −14 dBm (R71). -/
def laneLightDetected (x : Nat) (d : Dev) : Dev :=
  if d.laneState x = laWaitLight ∧ d.laneStep x = 2 then d.advance x laTraining 3 else d

/-- LANE_CDR_LOCK (R71). -/
def laneCdrLock (x : Nat) (d : Dev) : Dev :=
  if d.laneState x = laTraining ∧ d.laneStep x = 3 then d.advance x laTraining 4 else d

/-- LANE_FRAME_LOCK: sync in 32 consecutive frames; `inv` when it read 0b11 throughout (R72).  A lane
that wakes from STANDBY becomes READY (R86). -/
def laneFrameLock (x : Nat) (inv : Bool) (d : Dev) : Dev :=
  if d.laneState x = laTraining ∧ d.laneStep x = 4 then
    (d.lwr R.OE_LSTAT_POL_INV (b2n inv) x).advance x laTraining 5
  else if d.laneState x = laStandby ∧ (d.lane x).wakeAt.isSome then
    (d.setLaneState x laReady).modLane x fun l => { l with wakeAt := none }
  else d

/-- LANE_EQ_TRAINED: qualification begins (R71). -/
def laneEqTrained (x : Nat) (d : Dev) : Dev :=
  if (d.laneState x = laTraining ∨ d.laneState x = laRetrain) ∧ d.laneStep x = 5 then
    (d.advance x laTraining 6).emit (.laneTx x 2)
  else d

/-- LANE_QUALIFIED: at the end of 100 µs with `errs` symbol errors in `total` symbols; at most 1 in
10^5 makes the lane READY, and qualification is retried twice (R71, R75). -/
def laneQualified (x errs total : Nat) (d : Dev) : Dev :=
  if d.laneState x = laTraining ∧ d.laneStep x = 6 then
    if errs * 100000 ≤ total then
      let p := d.lanePort x
      let d := (d.setLaneState x laReady).beginStep x 7
      let y := d.port p
      if y.up ∨ y.readyAt.isSome then d else d.setPort p { y with readyAt := some d.now }
    else if (d.lane x).qualTries < 2 then
      (d.beginStep x 6).modLane x fun l => { l with qualTries := l.qualTries + 1 }
    else d.failStep x 7 true
  else d

/-- The lanes of a port at a step in state READY. -/
def Dev.readyAtStep (d : Dev) (p n : Nat) : List Nat :=
  (d.portLanes p).filter fun x => d.laneState x = laReady && d.laneStep x = n

/-- What the peers of a port's lanes must share (R73): SRC_DEV, WIDTH, SRC_OE and the peer's port. -/
def peerKey (l : Lane) : Nat × Nat × Nat × Nat :=
  let w := if l.mWidth = 0 then 1 else if l.mWidth = 1 then 2 else if l.mWidth = 2 then 4 else 8
  (l.mDev, l.mWidth, l.mOe, l.mLane / w)

/-- The value that most of a list's elements have, the first among equals. -/
def majority {α : Type} [DecidableEq α] (l : List α) : Option α :=
  l.foldl (fun o a => match o with
    | none => some a
    | some b => if l.count b < l.count a then some a else some b) none

/-- The WIDTH code of a formed width (R62). -/
def widthCode (w : Nat) : Nat := if w = 8 then 3 else if w = 4 then 2 else if w = 2 then 1 else 0

/-- A width or skew mismatch (R69, R73): each lane fails with FAIL_CAUSE 9, one PORT_WIDTH event until
the port has come up in between. -/
def Dev.portWidthFail (d : Dev) (p : Nat) (xs : List Nat) : Dev :=
  let y := d.port p
  let d := if y.widthEvent then d else d.faultEvent 0x02 0x04 p
  let d := d.setPort p { y with widthEvent := true, readyAt := none }
  d.each xs fun d x => d.failStep x 9 false

/-- LANE_IDENTITY_CHECK: at step 7 the lanes of a port are compared (R73). -/
def laneIdentityCheck (p : Nat) (d : Dev) : Dev :=
  let xs := d.readyAtStep p 7
  match majority (xs.map fun x => peerKey (d.lane x)) with
  | none => d
  | some k =>
    let odd := xs.filter fun x => peerKey (d.lane x) ≠ k
    let same := xs.filter fun x => peerKey (d.lane x) = k
    let d := d.each odd fun d x => d.failLane x 8
    if k.2.1 ≠ widthCode (d.portWidth p) then d.portWidthFail p same
    else
      let d := d.setPort p { d.port p with peerDev := k.1 }
      d.each same fun d x => (d.lwr R.OE_LSTAT_PEER_POS (d.lane x).mPos x).beginStep x 8

/-- LANE_ALIGNED: the lanes of a port aligned on SF_COUNT with a skew of `skew` ns; more than 150 ns
keeps the port down (R69). -/
def laneAligned (p skew : Nat) (d : Dev) : Dev :=
  let xs := d.readyAtStep p 8
  if xs = [] then d
  else if 150 < skew then d.portWidthFail p xs
  else d.each xs fun d x => d.beginStep x 9

/-- PEER_MISMATCH at a port that comes up (R190). -/
def Dev.checkPeer (d : Dev) (p : Nat) : Dev :=
  let exp := (d.attr (p / 128) p).expDev
  let dev := (d.port p).peerDev
  let d := d.setPortRoute p { d.portRoute p with srcDev := dev }
  if exp ≠ 0 ∧ exp ≠ dev then
    let d := d.faultEvent 0x06 0x01 p
    let d := (d.setPortRoute p { d.portRoute p with mismatch := true }).set
      R.RTE_ERR_PEER_MISMATCH_SEEN (p / 128)
    d.syncExcl p
  else d

/-- The mask of a list of lanes by position. -/
def Dev.posMask (d : Dev) (xs : List Nat) : Nat := maskOf (xs.map d.lanePos)

/-- A port comes up on some READY lanes (R74): they become ACTIVE and the link leaves DOWN. -/
def Dev.comeUp (d : Dev) (p : Nat) (xs : List Nat) : Dev :=
  let m := d.posMask xs
  let d := d.each xs fun d x =>
    let d := ((d.setLaneState x laActive).lwr R.OE_LSTAT_IN_MASK 1 x).lwr R.OE_LSTAT_FAIL_CAUSE 0 x
    (d.modLane x fun l => { l with tries := 0, failed := false }).emit (.laneTx x 3)
  let d := d.setPort p { d.port p with
    up := true, txMask := m, rxMask := m, nextMask := m, readyAt := none, widthEvent := false }
  let d := (d.wr R.LNK_STAT_LANES xs.length p).linkUpPhy p
  d.checkPeer p

/-- PORT_UP: every lane of the port is READY and aligned (R74). -/
def portUp (p : Nat) (d : Dev) : Dev :=
  let xs := d.readyAtStep p 9
  if (d.port p).up = false ∧ xs ≠ [] ∧ xs.length = (d.portLanes p).length then d.comeUp p xs else d

/-- PORT_UP_TIMER: 5 ms after the first lane became READY (R74). -/
def portUpTimer (p : Nat) (d : Dev) : Dev :=
  let xs := d.readyAtStep p 9
  match (d.port p).readyAt with
  | some t => if (d.port p).up = false ∧ xs ≠ [] ∧ t + 5000000 ≤ d.now then d.comeUp p xs else d
  | none => d

/-- The nominal span of a bring-up step in ns (R71). -/
def stepSpan (n : Nat) : Nat :=
  if n = 1 then 200000 else if n = 3 then 60000 else if n = 4 then 40000 else if n = 5 then 400000
  else if n = 6 then 100000 else if n = 7 then 30000 else if n = 8 then 70000
  else if n = 9 then 150000 else 0

/-- LANE_STEP_TIMEOUT: a step beyond five times its span fails the attempt (R75); the waits for laser
light and for light have no timeout. -/
def laneStepTimeout (x : Nat) (d : Dev) : Dev :=
  let n := d.laneStep x
  let s := d.laneState x
  if (s = laTraining ∨ s = laReady) ∧ (d.lane x).retryAt = none ∧ 0 < stepSpan n
      ∧ (d.lane x).stepAt + 5 * stepSpan n < d.now ∧ (d.port (d.lanePort x)).up = false then
    d.failStep x 7 true
  else d

/-- LANE_RETRY_TIMER: bring-up begins again (R75), once REFCLK_PHY is present (R570). -/
def laneRetryTimer (x : Nat) (d : Dev) : Dev :=
  match (d.lane x).retryAt with
  | some t =>
    if t ≤ d.now ∧ d.pdOn (pdOe (x / 32)) ∧ d.on R.PWR_CLKSTAT_PHY_OK then
      if d.laneState x = laRetrain then
        (d.beginStep x 5).modLane x fun l => { l with retryAt := none }
      else d.startBringup x
    else d
  | none => d

/-! ### In service (R61, R68, R77 to R80) -/

/-- CODEWORD_RECEIVED: `errs` symbol errors reach the outer code; up to 15 are corrected, more make the
codeword uncorrectable and its `blocks` (1 to 4) blocks poisoned (R61).  A gain range decided earlier
takes effect (R78). -/
def codewordReceived (x errs blocks : Nat) (d : Dev) : Dev :=
  if d.laneState x = laOff ∨ d.laneState x = laDark then d
  else
    let d := match (d.lane x).gainNext with
      | some g => (d.lwr R.OE_LSTAT_GAIN g x).modLane x fun l =>
          { l with gainNext := none, gainRun := 0 }
      | none => d
    if errs ≤ 15 then
      (d.modLane x fun l => { l with csym := l.csym + errs }).laneCount x 1 2 errs
    else
      let n := max 1 (min blocks 4)
      let recent := (d.lane x).uncTimes.filter fun t => decide (d.now < t + 100000)
      (d.modLane x fun l =>
        { l with poison := l.poison + n, uncTimes := recent ++ [d.now] }).laneCount x 1 1

/-- BLOCK_RECEIVED: a block of a lane merged into its port's stream, by its first byte: a poisoned block
is a failed flit (R61), a filler is deleted (R64), and a flit passes to the link layer. -/
def blockReceived (x byte0 : Nat) (d : Dev) : Dev :=
  if d.laneState x ≠ laActive ∨ d.lrd R.OE_LSTAT_IN_MASK x = 0 then d
  else if 0 < (d.lane x).poison then
    failedFlit (d.lanePort x) (d.modLane x fun l => { l with poison := l.poison - 1 })
  else if byte0 = 0xF0 then d.laneCount x 1 3
  else d

/-- GAIN_RANGE_CHANGE: one more codeword with the average power more than 1.5 dB beyond the boundary of
the range in force, towards range `g`; the 16th decides the change (R78). -/
def gainRangeChange (x g : Nat) (d : Dev) : Dev :=
  if d.inService x = false ∨ 3 < g ∨ g = d.lrd R.OE_LSTAT_GAIN x then
    d.modLane x fun l => { l with gainRun := 0 }
  else
    let n := (d.lane x).gainRun + 1
    d.modLane x fun l => { l with gainRun := n, gainNext := if 16 ≤ n then some g else l.gainNext }

/-- A lane dropped from service to be retrained (R79): RETRAIN sent, steps from 5. -/
def Dev.beginRetrain (d : Dev) (x : Nat) : Dev :=
  let d := (d.bump R.OE_LSTAT_RETRAINS (x / 32) (x % 32)).laneCount x 1 0
  let d := (d.setLaneState x laRetrain).beginStep x 5
  let d := d.lwr R.OE_LSTAT_LAST_LOW 0 x
  let e := x / 32
  let d := d.wr R.OE_LASER_CLASS (d.rd R.OE_LASER_CLASS_NEXT e) e
  let d := d.modLane x fun l => { l with wantRetrain := false, overs := 0, qualTries := 0 }
  (d.emit (.laneTx x 2)).emit (.marker x 7 (d.port (d.lanePort x)).nextMask)

/-- A lane that asks to retrain (R80): at most one of a port retrains at a time, and its last active
lane stays in service with LAST_LOW set. -/
def Dev.askRetrain (d : Dev) (x : Nat) : Dev :=
  let p := d.lanePort x
  let others := (d.portLanes p).filter fun y => y ≠ x
  if d.laneState x ≠ laActive then d
  else if others.any fun y => d.laneState y = laRetrain then
    d.modLane x fun l => { l with wantRetrain := true }
  else if others.all fun y => d.laneState y ≠ laActive then d.lwr R.OE_LSTAT_LAST_LOW 1 x
  else d.beginRetrain x

/-- The next lane of a port that waits to retrain. -/
def Dev.nextRetrain (d : Dev) (p : Nat) : Dev :=
  match (d.portLanes p).find? fun y => (d.lane y).wantRetrain with
  | some y => (d.modLane y fun l => { l with wantRetrain := false }).askRetrain y
  | none => d

/-- MARGIN_MONITOR_WINDOW: at the end of a 1 ms window the corrected symbols are compared with
RETRAIN_CSYM; three windows above it in a row ask for a retraining (R79).  The margin that the receiver estimates is a
free value. -/
def marginMonitorWindow (x : Nat) (d : Dev) : Dev :=
  let l := d.lane x
  let e := x / 32
  let d := (d.lwr R.OE_LMARG_MARGIN d.free x).usedFree
  let d := (d.lwr R.OE_LMARG_CSYM (min l.csym 0xFFFF) x).setLane x { l with csym := 0 }
  if d.on R.OE_MONCFG_MON_EN e ∧ d.laneState x = laActive ∧ d.rd R.OE_MONCFG_RETRAIN_CSYM e < l.csym
  then
    let n := l.overs + 1
    if 3 ≤ n then (d.modLane x fun l => { l with overs := 0 }).askRetrain x
    else d.modLane x fun l => { l with overs := n }
  else (d.modLane x fun l => { l with overs := 0 }).lwr R.OE_LSTAT_LAST_LOW 0 x

/-- LANE_RETRAIN_COMPLETE: a retraining lane qualifies and becomes READY to rejoin, or fails; the third
failure makes it FAILED with FAIL_CAUSE 6 (R79). -/
def laneRetrainComplete (x : Nat) (ok : Bool) (d : Dev) : Dev :=
  if d.laneState x ≠ laRetrain then d
  else if ok then
    let d := (d.setLaneState x laReady).lwr R.OE_LSTAT_STEP 8 x
    (d.modLane x fun l => { l with retrainFails := 0 }).nextRetrain (d.lanePort x)
  else
    let n := (d.lane x).retrainFails + 1
    if n < 3 then d.modLane x fun l => { l with retrainFails := n, retryAt := some (d.now + 10000000) }
    else
      let d := (d.failLane x 6).modLane x fun l =>
        { l with failed := true, retryAt := some (d.now + 1000000000) }
      d.nextRetrain (d.lanePort x)

/-! ### Losing lanes (R81, R85, R87) -/

/-- LANE_LOSS_OF_LIGHT: below −14 dBm for 1 µs.  After the peer's DARK_NEXT it is the port going dark, and
after STBY_NEXT it is standby (R85). -/
def laneLossOfLight (x : Nat) (d : Dev) : Dev :=
  let l := d.lane x
  if l.peerDarkNext ∧ (d.inService x ∨ d.laneState x = laStandby) then
    let d := (d.setLaneState x laWaitLight).lwr R.OE_LSTAT_STEP 2 x
    let d := d.modLane x fun l => { l with peerDarkNext := false, stepAt := d.now, mState := 15 }
    d.checkPort (d.lanePort x)
  else if l.peerStbyNext then d
  else d.lossOf x 1

/-- LANE_FRAME_SYNC_LOSS: one more frame whose sync mismatches; the fourth in a row fails the lane. -/
def laneFrameSyncLoss (x : Nat) (d : Dev) : Dev :=
  if d.inService x = false then d
  else
    let n := (d.lane x).badFrames + 1
    if n < 4 then d.modLane x fun l => { l with badFrames := n }
    else (d.modLane x fun l => { l with badFrames := 0 }).failLane x 2

/-- LANE_UNCORRECTABLE_BURST: 16 uncorrectable codewords within 100 µs. -/
def laneUncorrectableBurst (x : Nat) (d : Dev) : Dev :=
  let recent := (d.lane x).uncTimes.filter fun t => decide (d.now < t + 100000)
  if d.inService x ∧ 16 ≤ recent.length then
    (d.modLane x fun l => { l with uncTimes := [] }).failLane x 3
  else d

/-- RING_LOCK_LOST. -/
def ringLockLost (x : Nat) (d : Dev) : Dev := d.lossOf x 4

/-- LIGHT_IN_STANDBY: light without a WAKE marker on a lane held in STANDBY or DARK (R87). -/
def lightInStandby (x : Nat) (d : Dev) : Dev :=
  if d.laneState x = laStandby ∨ d.laneState x = laDark then
    d.set R.OE_LSTAT_WAKE_SEEN (x / 32) (x % 32)
  else d

/-- WAKE_TIMEOUT: no frame lock 1 ms after WAKE (R86). -/
def wakeTimeout (x : Nat) (d : Dev) : Dev :=
  match (d.lane x).wakeAt with
  | some t => if t + 1000000 ≤ d.now ∧ d.laneState x = laStandby then d.startBringup x else d
  | none => d

/-! ### Marker words and superframes (R62, R63, R82, R85) -/

/-- MARKER_WORD_RECEIVED: a bad CRC leaves the last values standing, and the third in a row fails the
lane; a reserved STATE is discarded and counted (R63).  A good word is noted and its STATE acted on. -/
def markerWordReceived (x : Nat) (m : Marker) (d : Dev) : Dev :=
  let p := d.lanePort x
  let s := d.laneState x
  if s = laOff ∨ s = laDark ∨ s = laWaitLaser then d
  else if m.crcOk = false then
    let n := (d.lane x).badMarkers + 1
    let d := (d.modLane x fun l => { l with badMarkers := n }).laneCount x 1 4
    if 3 ≤ n then (d.modLane x fun l => { l with badMarkers := 0 }).lossOf x 5 else d
  else
    let d := d.modLane x fun l => { l with badMarkers := 0, badFrames := 0 }
    if 8 < m.state then d.laneCount x 1 4
    else
      let d := d.modLane x fun l =>
        { l with mState := m.state, mWidth := m.width, mPos := m.pos, mLane := m.srcLane,
                 mOe := m.srcOe, mDev := m.srcDev, mNow := m.activeNext, mReq := m.txReq,
                 sfCount := m.sfCount }
      let d := d.lwr R.OE_LMARG_PEER_MARGIN m.margin x
      let d := d.setPort p { d.port p with rxMask := m.activeNow }
      if m.state = 4 then d.modLane x fun l => { l with peerStbyNext := true }
      else if m.state = 8 then d.modLane x fun l => { l with peerDarkNext := true }
      else if m.state = 7 ∧ s = laActive then d.beginRetrain x
      else if m.state = 5 ∧ s = laStandby ∧ d.lrd R.OE_LSTAT_PEER_STBY x = 1 then
        let d := (d.lwr R.OE_LSTAT_PEER_STBY 0 x).modLane x fun l =>
          { l with txOn := true, wakeAt := none }
        (d.setLaneState x laReady).emit (.laneTx x 3)
      else d

/-- Whether a lane belongs in the next superframe's mask (R82): its own receiver holds it READY or
ACTIVE, aligned, and the peer's last valid marker word shows READY or ACTIVE. -/
def Dev.announceable (d : Dev) (x : Nat) : Bool :=
  let s := d.laneState x
  (s = laReady || s = laActive) && 8 ≤ d.laneStep x && peerReady (d.lane x).mState
    && !((d.lane x).stbyNext) && !((d.lane x).darkNext)

/-- A lane's change at the end of a superframe (R82, R85). -/
def Dev.laneBoundary (d : Dev) (x mask : Nat) : Dev :=
  let l := d.lane x
  let s := d.laneState x
  if l.stbyNext then
    (((d.setLaneState x laStandby).lwr R.OE_LSTAT_PEER_STBY 0 x).modLane x fun l =>
      { l with stbyNext := false, txOn := false, peerStbyNext := false, wakeAt := none }).emit
      (.laneTx x 0)
  else if l.darkNext then
    ((d.setLaneState x laDark).modLane x fun _ => {}).emit (.laneTx x 0)
  else if l.peerStbyNext then
    (((d.setLaneState x laStandby).lwr R.OE_LSTAT_PEER_STBY 1 x).modLane x fun l =>
      { l with peerStbyNext := false, txOn := false, wakeAt := none }).emit (.laneTx x 0)
  else if bitOf mask (d.lanePos x) then
    (if s = laReady then (d.setLaneState x laActive).beginStep x 9 else d)
  else if s = laActive then d.setLaneState x laReady else d

/-- The journal entry of a PORT_STATE completed, when one waits. -/
def Dev.endPortJob (d : Dev) (p : Nat) : Dev :=
  match (d.port p).job with
  | some a => (d.setPort p { d.port p with job := none }).complete a St.ok
  | none => d

/-- SUPERFRAME_BOUNDARY: the announced mask takes effect, standby and dark are entered, and the next
mask is announced (R82, R85).  A port whose lanes have all gone dark goes down. -/
def superframeBoundary (p : Nat) (d : Dev) : Dev :=
  let y := d.port p
  if d.formed p = false then d
  else
    let xs := d.portLanes p
    let quiet := xs.any fun x => (d.lane x).stbyNext || (d.lane x).darkNext
    let d := d.each xs fun d x => d.laneBoundary x y.nextMask
    let d := d.each xs fun d x => d.lwr R.OE_LSTAT_IN_MASK
      (b2n (bitOf y.rxMask (d.lrd R.OE_LSTAT_PEER_POS x) && d.inService x)) x
    let next := d.posMask (xs.filter d.announceable)
    let act := xs.filter fun x => d.laneState x = laActive
    let d := d.setPort p { d.port p with
      txMask := d.posMask act, nextMask := if y.up then next else 0, sfCount := y.sfCount + 1 }
    let d := if y.up then d.wr R.LNK_STAT_LANES act.length p else d
    let d := d.each xs fun d x =>
      if (d.lane x).txOn then d.emit (.marker x (d.laneState x) next) else d
    let d := d.checkPort p
    if quiet then d.endPortJob p else d

/-! ### PORT_STATE (R84 to R87) -/

/-- Whether the link layer holds a flit for a port (R85). -/
def Dev.holdsFlit (d : Dev) (p : Nat) : Bool :=
  let l := d.link p
  l.txOpen.isSome || l.txReady != [] || l.replay != []
    || (List.range 8).any fun v => (d.queue p v).descs != []

/-- A lane announced for standby or dark (R85).  A lane already in STANDBY stays there by command from
now on, or goes dark at the next boundary; a lane that waits or trains goes there at once (R87). -/
def Dev.quietLane (d : Dev) (x : Nat) (dark : Bool) : Dev :=
  let s := d.laneState x
  if s = laOff then (if dark then d.setLaneState x laDark else d)
  else if s = laDark then d
  else if s = laStandby ∧ dark = false then d.lwr R.OE_LSTAT_PEER_STBY 0 x
  else if d.inService x ∨ s = laStandby then
    (d.modLane x fun l => { l with stbyNext := !dark, darkNext := dark }).emit
      (.marker x (if dark then 8 else 4) 0)
  else ((d.setLaneState x (if dark then laDark else laStandby)).modLane x fun _ => {}).emit
      (.laneTx x 0)

/-- A lane told to carry traffic again: WAKE from STANDBY (R86), full bring-up from DARK (R84). -/
def Dev.wakeLane (d : Dev) (x : Nat) : Dev :=
  let s := d.laneState x
  if s = laStandby then
    ((d.lwr R.OE_LSTAT_PEER_STBY 0 x).modLane x fun l =>
      { l with wakeAt := some d.now, txOn := true }).emit (.marker x 5 0)
  else if s = laDark then d.setLaneState x laOff
  else d

/-- PORT_STATE (R84 to R87): 0 ACTIVE, 1 STANDBY, 2 DARK.  STANDBY and DARK wait until the link layer
holds no flit: the row answers nothing while it does, and can be given again. -/
def portState (aseq : Nat) (d : Dev) : Dev :=
  match d.job? aseq with
  | none => d
  | some j =>
    let p := bits (j.w 4) 8 0
    let st := bits (j.w 4) 10 9
    if d.formed p ∧ d.pdOn (pdOe (p / 16)) ∧ (st = 1 ∨ st = 2) ∧ d.holdsFlit p then d
    else d.cmd aseq 0x0202 fun _ d =>
      if d.formed p = false then d.complete aseq St.portInvalid
      else if st = 3 then d.complete aseq St.cmdParam
      else if d.pdOn (pdOe (p / 16)) = false then d.complete aseq St.pwrDomainOff
      else
        let d := d.setPort p { d.port p with cmdState := st }
        if st = 0 then (d.each (d.portLanes p) fun d x => d.wakeLane x).complete aseq St.ok
        else
          let d := d.each (d.portLanes p) fun d x => d.quietLane x (decide (st = 2))
          if (d.portLanes p).any fun x => (d.lane x).stbyNext || (d.lane x).darkNext then
            d.setPort p { d.port p with job := some aseq }
          else (d.checkPort p).complete aseq St.ok

end Sys2Proof.Machine
end

