-- ==== Sys2Proof/Machine/Notices.lean ====
section
/-! DEFINITION. Faults in the fabric and bank switches (spec/06, R179 to R187), quenches that run out or
are relayed (spec/07, R207), and the queue samples (R209; spec/19, R533). -/

namespace Sys2Proof.Machine

/-- A packet handed to Thidan, of a class, type and OPCODE, taken and released. -/
def Dev.takeHub (d : Dev) (pid : Nat) (want : Packet → Bool) : Option (Stored × Dev) :=
  match d.takeAt hubAttach pid tgtThidan with
  | some (s, h, d') => if want s.pkt then some (s, (d'.release pid h).retryOut) else none
  | none => none

/-! ### Notices repeated and restored (R180) -/

/-- ROUTE_NOTICE_REPEAT: a port that stays excluded, every 100 ms. -/
def routeNoticeRepeat (p : Nat) (d : Dev) : Dev :=
  let x := d.portRoute p
  match x.noticeAt with
  | some t =>
    if t ≤ d.now ∧ d.localExcl p then
      (d.originate false [(d.attr (p / 128) p).noticeId]).setPortRoute p
        { x with noticeAt := some (d.now + 100000000) }
    else d
  | none => d

/-- RESTORE_HOLD in ns (10 ms units). -/
def Dev.restoreHold (d : Dev) (p : Nat) : Nat := 10000000 * d.rd R.RTE_HCFG_RESTORE_HOLD (p / 128)

/-- RESTORE_HOLD_EXPIRY: a port UP, ADMITTED and free of PEER_MISMATCH for RESTORE_HOLD. -/
def restoreHoldExpiry (p : Nat) (d : Dev) : Dev :=
  let x := d.portRoute p
  let a := d.attr (p / 128) p
  match x.goodSince with
  | some t =>
    if t + d.restoreHold p ≤ d.now ∧ d.upAdm p ∧ x.mismatch = false then
      let d := d.setPortRoute p { x with
        goodSince := none, restoresLeft := if a.noticeV then 2 else 0
        restoreAt := if a.noticeV then some (d.now + 100000000) else none }
      if a.noticeV then d.originate true [a.noticeId] else d
    else d
  | none => d

/-- ROUTE_RESTORE_REPEAT: twice more, 100 ms apart. -/
def routeRestoreRepeat (p : Nat) (d : Dev) : Dev :=
  let x := d.portRoute p
  match x.restoreAt with
  | some t =>
    if t ≤ d.now ∧ 0 < x.restoresLeft then
      (d.originate true [(d.attr (p / 128) p).noticeId]).setPortRoute p { x with
        restoresLeft := x.restoresLeft - 1
        restoreAt := if x.restoresLeft = 1 then none else some (d.now + 100000000) }
    else d
  | none => d

/-! ### Notices received (R181) -/

/-- The mask bit of a port set or cleared for a reach group in all four quadrants (R181 step 3). -/
def Dev.setMask (d : Dev) (rgrp port : Nat) (v : Bool) : Dev :=
  d.each [0, 1, 2, 3] fun d q =>
    let old := (d.net.masks.get (q, rgrp) []).filter fun x => x ≠ port
    { d with net := { d.net with
      masks := d.net.masks.put (q, rgrp) (if v then old ++ [port] else old) } }

/-- A notice applied (R181 steps 3 and 4). -/
def Dev.applyNotice (d : Dev) (n : HeldNotice) : Dev :=
  let q := n.port / 128
  let b := d.bank q
  let d := d.each n.ids fun d i =>
    let e := b.notices.get i {}
    if e.v then d.setMask e.rgrp n.port (!n.restore)
    else (d.count 0x06 q 2 4).set R.RTE_ERR_NOTICE_UNKNOWN q
  let relay := n.ids.filterMap fun i =>
    let e := b.notices.get i {}
    if e.v && e.relayV then some e.relayId else none
  if relay ≠ [] ∧ d.net.relayed.contains (n.origin, n.nseq) = false then
    let log := d.net.relayed ++ [(n.origin, n.nseq)]
    let d := { d with net := { d.net with relayed := log.drop (log.length - 256) } }
    d.sendNotice n.restore n.origin n.nseq n.epoch relay (some n.port) 2
  else d

/-- A notice discarded for its epoch (R181 steps 1 and 2). -/
def Dev.dropNotice (d : Dev) (port : Nat) : Dev :=
  (d.count 0x06 (port / 128) 2 3).set R.RTE_ERR_NOTICE_EPOCH (port / 128)

/-- A notice judged by its epoch: discarded, held or applied (R181). -/
def Dev.judgeNotice (d : Dev) (n : HeldNotice) : Dev :=
  let df := serialDiff 256 n.epoch (d.bank (n.port / 128)).epoch
  if df < 0 then d.dropNotice n.port
  else if 0 < df then
    if n.until_ ≤ d.now then d.dropNotice n.port
    else { d with net := { d.net with heldNotices := d.net.heldNotices ++ [n] } }
  else d.applyNotice n

/-- Whether a packet is a route notice or restore (R179). -/
def isNotice (k : Packet) : Bool := k.pclass = 1 && k.typ = 3 && (k.opcode = 0x40 || k.opcode = 0x41)

/-- ROUTE_NOTICE_RECEIVED: the STATUS pennant `pid` that the hub has taken. -/
def routeNoticeReceived (pid : Nat) (d : Dev) : Dev :=
  match d.takeHub pid isNotice with
  | none => d
  | some (s, d) =>
    let n := min 8 (s.pkt.arg6 / 256 % 256)
    let h : HeldNotice :=
      { port := s.ing, restore := decide (s.pkt.opcode = 0x41), origin := s.pkt.arg5
        nseq := s.pkt.arg6 / 65536, epoch := s.pkt.arg6 % 256
        ids := (wordsBE s.pkt.payload n).map fun w => w / 2 ^ 18, until_ := d.now + 1000000 }
    (d.count 0x06 (s.ing / 128) 2 1).judgeNotice h

/-- NOTICE_HOLD_EXPIRY: the notices held for a newer epoch are judged again: each whose epoch has come is
applied, and each whose 1 ms has passed is discarded. -/
def noticeHoldExpiry (d : Dev) : Dev :=
  let hs := d.net.heldNotices
  ({ d with net := { d.net with heldNotices := [] } }).each hs fun d n => d.judgeNotice n

/-! ### Bank switches (R187, R190) -/

/-- RTE.STAT of the four quadrants brought up to date. -/
def Dev.syncRteStat (d : Dev) : Dev :=
  d.each [0, 1, 2, 3] fun d q =>
    let b := d.net.banks.get q ({}, {})
    let d := (d.wr R.RTE_STAT_ACT_EPOCH b.1.epoch q).wr R.RTE_STAT_SHD_EPOCH b.2.epoch q
    let d := (d.wr R.RTE_STAT_SHD_VALID (b2n b.2.valid) q).wr R.RTE_STAT_TORUS
      (d.rd R.RTE_HCFG_TORUS q) q
    match d.net.armed with
    | some a =>
      let d := (d.wr R.RTE_STAT_ARMED 1 q).wr R.RTE_STAT_SW_MODE a.mode q
      let d := d.wr R.RTE_STAT_DRAINING (b2n a.draining) q
      (d.wr R.RTE_SWTIME_LO_T (a.t % 2 ^ 32) q).wr R.RTE_SWTIME_HI_T (a.t / 2 ^ 32) q
    | none =>
      ((d.wr R.RTE_STAT_ARMED 0 q).wr R.RTE_STAT_SW_MODE 0 q).wr R.RTE_STAT_DRAINING 0 q

/-- A list cut into pieces of at most eight; `fuel` bounds the pieces. -/
def chunks8 : Nat → List Nat → List (List Nat)
  | 0, _ => []
  | n + 1, l => if l = [] then [] else l.take 8 :: chunks8 n (l.drop 8)

/-- PEER_MISMATCH cleared where the new bank expects the peer, or any (R190). -/
def Dev.recheckPeers (d : Dev) : Dev :=
  d.each ((List.range 512).filter fun p => (d.portRoute p).mismatch) fun d p =>
    let exp := (d.attr (p / 128) p).expDev
    let x := d.portRoute p
    if exp = 0 ∨ exp = x.srcDev then (d.setPortRoute p { x with mismatch := false }).syncExcl p else d

/-- A bank switch in all four quadrants (R187): the masks are cleared, the old bank becomes the shadow and
is invalid, and every port still excluded that has NOTICE_V gives its notice under the new epoch. -/
def Dev.switchBanks (d : Dev) : Dev :=
  let d := d.each [0, 1, 2, 3] fun d q =>
    let b := d.net.banks.get q ({}, {})
    ({ d with net := { d.net with
      banks := d.net.banks.put q (b.2, { b.1 with valid := false }) } }).count 0x06 q 0 3
  let d := { d with net := { d.net with masks := [], armed := none } }
  let d := d.recheckPeers.syncRteStat
  let ps := (List.range 512).filter fun p => d.localExcl p && (d.attr (p / 128) p).noticeV
  let d := d.each (chunks8 64 (ps.map fun p => (d.attr (p / 128) p).noticeId)) fun d ids =>
    d.originate false ids
  d.each ps fun d p => d.setPortRoute p { d.portRoute p with noticeAt := some (d.now + 100000000) }

/-! ### Quenches (R207) -/

/-- QUENCH_EXPIRY: quenches applied at an attach point whose time has run out. -/
def quenchExpiry (d : Dev) : Dev :=
  { d with net := { d.net with quenches := d.net.quenches.filter fun z => decide (d.now < z.until_) } }

/-- A QUENCH accepted on port `p`: discarded under ENFORCED, relayed towards its source, or applied at the
attach point of a LOCAL target (R207). -/
def Dev.relayQuench (d : Dev) (p : Nat) (w : Haly) : Dev :=
  let q := p / 128
  let src := w.w1 / 4096
  let burgee := w.w1 / 8 % 512
  let dst := w.w2 / 4096
  let qt := w.w3 / 65536
  if d.enforced q ∧ (d.attr q p).edge ∧ d.allows p burgee = false then
    (d.count 0x07 p 2 5).set R.SCH_ERR_QUENCH_TENANT q
  else
    let d := d.count 0x06 q 0 0
    let drop (d : Dev) : Dev := (d.count 0x07 p 2 4).set R.SCH_ERR_QRELAY_DROP q
    match (d.routeWith q src (if dst = 0xFFFFF then 0 else dst) 0 2 p).1 with
    | .port e _ => (d.sendHaly e 2 w.b1 0 w.w1 w.w2 w.w3).count 0x07 e 2 1
    | .loc t => (d.applyQuench (attachOf t) src burgee dst w.b1 qt).count 0x07 (attachOf t) 2 2
    | .refuse _ => drop d
    | .mcast _ _ => drop d

/-! ### Queue samples (R209, R533) -/

/-- A record written to a quadrant's sample ring, with its SEQ in word 3. -/
def Dev.sampleWrite (d : Dev) (q : Nat) (a b c : Nat) : Dev :=
  let seq := d.tel.sampleSeq.get q 0
  let ring := d.tel.sampleRing.get q [] ++ [[a, b, c, seq]]
  let ring := ring.drop (ring.length - 2 ^ d.tel.sampleLog2)
  { d with tel := { d.tel with sampleRing := d.tel.sampleRing.put q ring
                               sampleSeq := d.tel.sampleSeq.put q ((seq + 1) % 2 ^ 32) } }

/-- The queues of a quadrant in the order of R533: ports and VCs, then attach points. -/
def quadQueues (q : Nat) : List (Nat × Nat) :=
  ((List.range 128).flatMap fun i => (List.range 8).map fun v => (128 * q + i, v))
    ++ ((List.range 4).flatMap fun a => (List.range 8).map fun v => (attach q a, v))
    ++ [(attach q 4, 1)]

/-- Whether SAMPLE_SET keeps a queue's samples. -/
def Dev.keptQueue (d : Dev) (e : Nat) : Bool :=
  if isPort e then d.tel.samplePorts.contains e else d.tel.sampleAttach

/-- The sample period of a quadrant in ns; 0 µs acts as 1. -/
def Dev.samplePeriod (d : Dev) (q : Nat) : Nat := 1000 * max 1 (d.rd R.SCH_GCFG_SAMPLE q)

/-- QUEUE_SAMPLE_TIMER: at each period of SAMPLE every queue records one sample, and the kept ones go to
the sample ring. -/
def queueSampleTimer (q : Nat) (d : Dev) : Dev :=
  if q < 4 ∧ d.tel.sampleAt.get q 0 ≤ d.now then
    let d := { d with tel := { d.tel with sampleAt := d.tel.sampleAt.put q (d.now + d.samplePeriod q) } }
    let any := d.tel.sampleAttach || d.tel.samplePorts.any fun p => p / 128 = q
    let d := if any then d.sampleWrite q 0 (d.now / 2 ^ 32 % 2 ^ 32) (d.now % 2 ^ 32) else d
    d.each (quadQueues q) fun d ev =>
      let x := d.queue ev.1 ev.2
      let d := if d.keptQueue ev.1 then
          d.sampleWrite q (2 ^ 28 + ev.1 % 2 ^ 12 * 2 ^ 16 + ev.2 * 2 ^ 13)
            (min (queueDepth x) 0xFFFF + min x.maxDepth 0xFFFF * 2 ^ 16) (min x.maxDelay 0xFFFFFFFF)
        else d
      if x.maxDepth = 0 ∧ x.maxDelay = 0 then d
      else d.setQueue ev.1 ev.2 { x with maxDepth := queueDepth x, maxDelay := 0 }
  else d

end Sys2Proof.Machine
end

