-- ==== Sys2Proof/Machine/Reduce.lean ====
section
/-! DEFINITION. In-network reduction (spec/09): context fields, opening, closing and aborting a context,
and the acceptance and combination of one input (R242 to R252, R262 to R266). -/

namespace Sys2Proof.Machine

/-! ### Reasons (R269) -/

def rNotContributor : Nat := 0x51
def rContribShape : Nat := 0x52
def rContribConflict : Nat := 0x53
def rStaleEpoch : Nat := 0x54
def rCtxAborted : Nat := 0x55
def rFormatInvalid : Nat := 0x40
def rBurgeeViolation : Nat := 0x14
def rDomainOff : Nat := 0x01

/-! ### Contexts (R238, R242) -/

def Dev.ctx (d : Dev) (i : Nat) : Ctx := d.red.ctxs.get i {}
def Dev.setCtx (d : Dev) (i : Nat) (c : Ctx) : Dev :=
  { d with red := { d.red with ctxs := d.red.ctxs.put i c } }

/-- The quadrant, and the engine of the device (16q + e), of a context index. -/
def ctxQuad (i : Nat) : Nat := i / 16384 % 4
def ctxEngine (i : Nat) : Nat := i / 1024 % 64

/-- States of R244. -/
def csFree : Nat := 0
def csOpen : Nat := 1
def csDone : Nat := 2
def csAborted : Nat := 3
def csStub : Nat := 4
def csRetired : Nat := 5

def Ctx.f (c : Ctx) (w hi lo : Nat) : Nat := bits (nth c.w w) hi lo
def Ctx.check (c : Ctx) : Nat := c.f 0 31 16
def Ctx.epoch (c : Ctx) : Nat := c.f 0 15 8
def Ctx.root (c : Ctx) : Bool := c.f 0 7 7 = 1
def Ctx.exact (c : Ctx) : Bool := c.f 0 6 6 = 1
def Ctx.ovf (c : Ctx) : Bool := c.f 0 5 5 = 1
def Ctx.wsum (c : Ctx) : Bool := c.f 0 4 4 = 1
def Ctx.upfmt (c : Ctx) : Bool := c.f 0 3 3 = 1
def Ctx.spill (c : Ctx) : Bool := c.f 0 2 2 = 1
def Ctx.scope (c : Ctx) : Bool := c.f 0 1 1 = 1
def Ctx.autoclose (c : Ctx) : Bool := c.f 0 0 0 = 1
def Ctx.burgee (c : Ctx) : Nat := c.f 1 31 23
def Ctx.cfmt (c : Ctx) : Nat := c.f 1 22 17
def Ctx.rfmt (c : Ctx) : Nat := c.f 1 16 11
def Ctx.chunkEl (c : Ctx) : Nat := 512 * 2 ^ c.f 1 10 9
def Ctx.absorb (c : Ctx) : Bool := c.f 1 8 8 = 1
def Ctx.downV (c : Ctx) : Bool := c.f 1 7 7 = 1
def Ctx.window (c : Ctx) : Nat := c.f 1 6 0
def Ctx.nchunk (c : Ctx) : Nat := c.f 2 31 0
def Ctx.nIn (c : Ctx) : Nat := c.f 3 31 22 + 1
def Ctx.inBase (c : Ctx) : Nat := c.f 3 21 6
def Ctx.downBase (c : Ctx) : Nat := c.f 4 31 17
def Ctx.downM1 (c : Ctx) : Nat := c.f 4 16 8
def Ctx.parentPort (c : Ctx) : Nat := c.f 5 31 23
def Ctx.arriveTo (c : Ctx) : Nat := c.f 5 22 7
def Ctx.trigger (c : Ctx) : Nat := c.f 6 31 15
def Ctx.trigV (c : Ctx) : Bool := c.f 6 14 14 = 1
def Ctx.trigOn (c : Ctx) : Bool := c.f 6 13 13 = 1
def Ctx.migB (c : Ctx) : Nat := c.f 7 31 0
def Ctx.newEpoch (c : Ctx) : Nat := c.f 8 31 24
def Ctx.migV (c : Ctx) : Bool := c.f 8 23 23 = 1
def Ctx.oldOk (c : Ctx) : Bool := c.f 8 22 22 = 1
def Ctx.migPort (c : Ctx) : Nat := c.f 8 8 0

/-- The COLL_ID of a context. -/
def ctxColl (i : Nat) (c : Ctx) : Nat := c.check * 65536 + i

/-- The format of accumulators and partials: FP32, or INT32 for an integer context (R242). -/
def Ctx.accFmt (c : Ctx) : Nat := if fmtInt c.cfmt then 17 else 0

/-- The format in which partials go up (R232, UPFMT). -/
def Ctx.partFmt (c : Ctx) : Nat := if c.upfmt then c.cfmt else c.accFmt

/-- B of R247: the payload bytes of one chunk in a format. -/
def Ctx.chunkBytes (c : Ctx) (fmt : Nat) : Nat := elemOffset fmt c.chunkEl

/-- The input key entries of a context, in rank order. -/
def Dev.ctxKeys (d : Dev) (i : Nat) (c : Ctx) : List KeyEnt :=
  (List.range c.nIn).map fun r => d.red.keys.get (ctxQuad i, c.inBase + r) {}

/-- The node's own key (R242). -/
def Dev.ownKey (d : Dev) (i : Nat) (c : Ctx) : Nat := (d.red.keys.get (ctxQuad i, c.inBase) {}).key

/-- The holder list slots of a context: none where it names none (R242). -/
def Dev.ctxSlots (d : Dev) (i : Nat) (c : Ctx) : List Slot :=
  if !c.root && !c.downV then []
  else (List.range (c.downM1 + 1)).map fun k => d.red.holders.get (ctxQuad i, c.downBase + k) {}

/-- The epoch of chunk `n` (R264). -/
def Ctx.epochOf (c : Ctx) (n : Nat) : Nat := if c.migV && c.migB ≤ n then c.newEpoch else c.epoch

/-- Whether a context accepts an epoch for chunk `n` (R247 step 7, R264). -/
def Ctx.epochOk (c : Ctx) (n e : Nat) : Bool :=
  e = c.epochOf n || (c.oldOk && e = (c.epoch + 255) % 256)
    || (c.state = csStub && c.migB ≤ n && e = c.epoch)

/-- The port up the tree for chunk `n` (R254). -/
def Ctx.upPort (c : Ctx) (n : Nat) : Nat := if c.migV && c.migB ≤ n then c.migPort else c.parentPort

/-- The attach point of a reduction cluster, and its internal target code. -/
def rcAttach (q : Nat) : Nat := attach q 0
def rcTgt (q : Nat) : Nat := 0x100 + q

/-- A RED counter of a context's engine (R516). -/
def Dev.redCount (d : Dev) (i grp sub : Nat) (n : Nat := 1) : Dev := d.count 0x08 (ctxEngine i) grp sub n

/-- Whether an engine has failed its known-answer run (R504). -/
def Dev.engDisabled (d : Dev) (e : Nat) : Bool :=
  if e < 32 then d.rdBit R.HUB_ENGDIS_LO_DIS e else d.rdBit R.HUB_ENGDIS_HI_DIS (e - 32)

/-- RED.ESTAT of engine `e` (16q + n) brought up to date: 0 for a disabled engine and while the cluster is off
(R504, R593). -/
def Dev.syncEngineAt (d : Dev) (e : Nat) : Dev :=
  let mine := d.red.ctxs.filter fun x => ctxEngine x.1 = e && x.2.state != csFree
  let used := mine.foldl (fun n x => n + (if x.2.spill then 0 else x.2.units)) 0
  let on := d.pdOn (pdRed (e / 16)) && !(d.engDisabled e)
  let d := d.wr R.RED_ESTAT_UNITS_FREE (if on then 1024 - used else 0) (e / 16) (e % 16)
  d.wr R.RED_ESTAT_CTX_USED (if on then mine.length else 0) (e / 16) (e % 16)

/-- RED.ESTAT of a context's engine brought up to date. -/
def Dev.syncEngine (d : Dev) (i : Nat) : Dev := d.syncEngineAt (ctxEngine i)

/-- RED.ESTAT of a quadrant's engines. -/
def Dev.syncEngines (d : Dev) (q : Nat) : Dev := d.each ((List.range 16).map fun i => 16 * q + i) fun d e => d.syncEngineAt e

/-! ### Opening and closing (R243, R244) -/

/-- Units that a context needs. -/
def Ctx.need (c : Ctx) : Nat := c.window * c.chunkEl / 512

/-- Free units for a context: its engine's, or those of the quadrant's HBM scratch (R240). -/
def Dev.unitsFree (d : Dev) (i : Nat) (c : Ctx) : Nat :=
  if c.spill then
    let used := (d.red.ctxs.filter fun x => ctxQuad x.1 = ctxQuad i && x.2.spill).foldl
      (fun n x => n + x.2.units) 0
    d.rd R.RED_SCRATCH_SIZE (ctxQuad i) * 32768 - used
  else d.rd R.RED_ESTAT_UNITS_FREE (ctxQuad i) (ctxEngine i % 16)

/-- Whether numbers rise strictly. -/
def rising : List Nat → Bool
  | a :: b :: t => decide (a < b) && rising (b :: t)
  | _ => true

/-- Bit of HUB.FMTCAP_RED. -/
def Dev.redFmt (d : Dev) (f : Nat) : Bool := fmtDefined f && f < 32 && d.rdBit R.HUB_FMTCAP_RED_RED f

/-- Check 4 of R243. -/
def Dev.descOk (d : Dev) (i : Nat) (c : Ctx) : Bool :=
  let ss := d.ctxSlots i c
  let names := ss.map fun s => s.tgt + 512 * b2n s.int
  c.check != 0 && c.window != 0 && c.window ≤ 64
    && c.inBase + c.nIn ≤ 65536 && rising ((d.ctxKeys i c).map KeyEnt.key)
    && c.downBase + ss.length ≤ 32768 && names.eraseDups.length = names.length
    && (c.root || c.downV || (c.downBase = 0 && c.downM1 = 0))
    && !(c.upfmt && c.exact) && d.redFmt c.cfmt && d.redFmt c.rfmt && 1 ≤ c.nchunk

/-- Whether the device runs under DET_BITS or DET_TIME (R39). -/
def Dev.detExact (d : Dev) : Bool := d.time.det != 0

/-- A descriptor with its CLASS as it is set at open (R243): `dflt` takes the reduction class
default. -/
def Dev.classed (d : Dev) (w : List Nat) (dflt : Bool) : List Nat :=
  let cls := d.detExact || (if dflt then d.time.redClass = 1 else bitOf (nth w 0) 6)
  setAt w 0 (setBit (nth w 0) 6 cls)

/-- The status with which CTX_OPEN would answer (R243); `tenant` the burgee of a tenant's command. -/
def Dev.openStatus (d : Dev) (i : Nat) (c : Ctx) (tenant : Option Nat) : Nat :=
  let cur := d.ctx i
  if tenant.isSome ∧ tenant ≠ some c.burgee then St.notPermitted
  else if cur.state ≠ csFree ∧ cur.state ≠ csRetired then St.ctxBusy
  else if d.pdOn (pdRed (ctxQuad i)) = false then St.pwrDomainOff
  else if d.descOk i c = false then St.redDescInvalid
  else if d.unitsFree i c < c.need ∨ d.engDisabled (ctxEngine i) then St.redNoSlots
  else St.ok

/-- A context opened (R242 to R244, R258). -/
def Dev.openCtx (d : Dev) (i : Nat) (w : List Nat) : Dev :=
  let c : Ctx := { w := w }
  let first := if c.root && (c.oldOk || c.migV) then c.migB else 0
  (d.setCtx i { c with state := csOpen, low := first, first := first, timer := d.now
                       units := c.need }).syncEngine i

/-- A context set FREE: its units and slots with it. -/
def Dev.freeCtx (d : Dev) (i : Nat) : Dev := (d.setCtx i {}).syncEngine i

/-! ### Records and holders of inputs -/

/-- The engine's holder of a stored input. -/
def redHolder (q : Nat) (s : Stored) : Option Holder :=
  (s.begun ++ s.holders).find? fun h => h.eg = rcAttach q && h.tgt = rcTgt q

/-- An input released by its engine (R154). -/
def Dev.dropInput (d : Dev) (q pid : Nat) : Dev :=
  match d.pkt? pid with
  | none => d
  | some s => match redHolder q s with
    | some h => d.release pid h
    | none => d

/-- An input refused: released with a record to its source (R247). -/
def Dev.refuseInput (d : Dev) (i pid reason : Nat) : Dev :=
  let q := ctxQuad i
  let d := d.redCount i 1 reason
  let d := if reason = rStaleEpoch then d.set R.RED_ERR_STALE_SEEN q
    else if reason = rCtxUnknown ∨ reason = rNotContributor then d.set R.RED_ERR_UNKNOWN_SEEN q
    else if reason = rContribShape then d.set R.RED_ERR_SHAPE_SEEN q else d
  match d.pkt? pid with
  | none => d
  | some s => match redHolder q s with
    | some h => d.failHolder pid h reason 0x08 (ctxEngine i)
    | none => d

/-- The record of an input whose packet has been released already (R262 step 4). -/
def Dev.arrRec (d : Dev) (i : Nat) (c : Ctx) (n : Nat) (a : Arr) : FailRec :=
  { reason := rCtxAborted, item := 1, burgee := a.burgee, dst := a.src, entropy := a.entropy,
    tag := a.tag, vc := 4, cls := 1, typ := 1, itemDst := a.dst, name := ctxColl i c, blk := 0x08,
    inst := ctxEngine i, at_ := d.now, offset := n * c.chunkBytes c.cfmt,
    toBlock := if isPort a.ing then none else some a.ing }

/-! ### Aborting (R262, R263, R491) -/

/-- The fields of an ABORT word (R122). -/
def Dev.sendAbort (d : Dev) (p hops reason id origin burgee : Nat) : Dev :=
  d.sendHaly p 4 hops reason id (origin * 2 ^ 12 + burgee * 2 ^ 3) 0

/-- An ABORT entered in the filter of 256 entries, each held for 1 s (R492). -/
def Dev.filterAbort (d : Dev) (key : Nat × Nat × Nat) : Dev :=
  let live := (d.mgmt.abortFilter.filter fun x => decide (d.now < x.2)) ++ [(key, d.now + 1000000000)]
  { d with mgmt := { d.mgmt with abortFilter := live.drop (live.length - 256) } }

/-- The ports on which an ABORT for burgee `b` goes (R491, R492): UP and ADMITTED; under ENFORCED not an
EDGE port whose allow mask lacks b. -/
def Dev.abortPorts (d : Dev) (b : Nat) (skip : Option Nat) : List Nat :=
  (List.range 512).filter fun p => d.upAdm p && skip != some p
    && !(d.enforced (p / 128) && (d.attr (p / 128) p).edge && b != 0 && !(d.allows p b))

/-- A fabric-wide ABORT that this device originates (R491). -/
def Dev.originateAbort (d : Dev) (id burgee reason : Nat) : Dev :=
  let d := (d.filterAbort (d.devFeid, id, burgee)).count 0x0F 0 2 0
  d.each (d.abortPorts burgee none) fun d p =>
    d.sendAbort p (d.rd R.FLT_CFG_ABORT_HOPS) reason id d.devFeid burgee

/-- The neighbour records of an abort (R263), never back on `via`. -/
def Dev.neighbourRecs (d : Dev) (i : Nat) (c : Ctx) (via : Option Nat) : Dev :=
  let up := if c.root then [] else [c.parentPort]
  let mig := if c.migV || c.state = csStub then [c.migPort] else []
  let down := (d.ctxSlots i c).filterMap fun s => if s.int then none else some s.tgt
  let ps := (up ++ mig ++ down).eraseDups.filter fun p => !(d.localExcl p) && via != some p
  d.each ps fun d p => d.record (ctxQuad i)
    { reason := rCtxAborted, item := 7, burgee := c.burgee, dst := 0xFFFFE, tag := 0xFFFFFFFF, vc := 4,
      cls := 1, typ := 1, itemDst := 0xFFFFE, name := ctxColl i c, blk := 0x08, inst := ctxEngine i,
      at_ := d.now, via := some p }

/-- Abort causes of status word 16. -/
def acCommand : Nat := 1
def acArriveTimeout : Nat := 2
def acNeighbour : Nat := 3
def acParentLost : Nat := 4
def acAccEcc : Nat := 5
def acReset : Nat := 6
def acJobAbort : Nat := 7

/-- An OPEN or STUB context aborted (R262), in the rule's order.  `reason` is that of the records of its
inputs.  A combine context's token gives its record too (R294). -/
def Dev.abortCtx (d : Dev) (i cause : Nat) (via : Option Nat := none) : Dev :=
  let c := d.ctx i
  let q := ctxQuad i
  if c.state ≠ csOpen ∧ c.state ≠ csStub then d
  else
    let d := (d.setCtx i { c with state := csAborted, cause := cause, deferred := [], slots := []
                                  fwd := [], units := 0 }).set R.RED_ERR_ABORT_SEEN q
    let d := d.redCount i 2 cause
    let d := if cause = acArriveTimeout then d.faultEvent 0x08 0x01 (ctxEngine i)
      else if cause = acParentLost then d.faultEvent 0x08 0x02 (ctxEngine i)
      else if cause = acAccEcc then d.faultEvent 0x08 0x03 (ctxEngine i) else d
    let held := c.slots.flatMap fun s => s.held.map Prod.snd
    let d := d.each (held ++ c.deferred) fun d pid =>
      match d.pkt? pid with
      | none => d
      | some s => match redHolder q s with
        | some h => d.failHolder pid h rCtxAborted 0x08 (ctxEngine i)
        | none => d
    let d := d.each (c.slots.filter fun s => !s.complete) fun d s =>
      d.each (s.ins.filter fun a => !(s.held.any fun x => x.1 = a.rank)) fun d a =>
        d.record q (d.arrRec i c s.n a)
    let d := d.neighbourRecs i c via
    let d := if c.scope then d.originateAbort (ctxColl i c) c.burgee rCtxAborted else d
    let d := match c.token with
      | none => d
      | some t => match d.red.tokens.look (q, t) with
        | none => d
        | some k =>
          let d := d.record q { d.pktRec k.pkt 2 k.ing rCtxAborted 0x09 q with item := 8 }
          { d with red := { d.red with tokens := d.red.tokens.del (q, t) } }
    d.syncEngine i

/-- CTX_CLOSE's status and effect (R244): `force` aborts an OPEN or STUB context first. -/
def Dev.closeCtx (d : Dev) (i : Nat) (force : Bool) : Dev × Nat :=
  let c := d.ctx i
  if c.state = csFree ∨ c.state = csRetired then (d, St.ok)
  else if c.state = csOpen ∨ c.state = csStub then
    if force then ((d.abortCtx i acCommand).freeCtx i, St.ok) else (d, St.ctxBusy)
  else (d.freeCtx i, St.ok)

/-! ### Combining (R250 to R252) -/

/-- An input's elements as values; under WSUM each is multiplied exactly by the rank's weight (R225, R252). -/
def Ctx.inVals (c : Ctx) (k : KeyEnt) (fmt : Nat) (payload : List Nat) : List Val :=
  let vs := decodeVals fmt payload
  if c.wsum then vs.map fun v => v.mul (of32 k.weight) else vs

/-- The elements of an input that the conversion to INT32 saturates (R224, R252). -/
def Ctx.inSats (c : Ctx) (k : KeyEnt) (fmt : Nat) (payload : List Nat) : Nat :=
  if fmtInt c.cfmt then ((c.inVals k fmt payload).filter fun v => (toInt 32 v).2).length else 0

/-- An input's elements as accumulator words: FP32, or INT32 in an integer context. -/
def Ctx.inWords (c : Ctx) (k : KeyEnt) (fmt : Nat) (payload : List Nat) : List Nat :=
  let vs := c.inVals k fmt payload
  if fmtInt c.cfmt then vs.map fun v => intBits 32 (toInt 32 v).1
  else vs.map fun v => round32 v c.ovf

/-- One element combined, and whether its INT32 sum wrapped (R224, R228, R231). -/
def Ctx.addWord (c : Ctx) (a x : Nat) : Nat × Bool :=
  if fmtInt c.cfmt then addInt32 a x
  else if c.exact then (add32 a x c.ovf, false)
  else (fastStep (some (of32 a)) [of32 x] c.ovf, false)

/-- An input combined into a chunk's accumulator: the first becomes the partial. -/
def Ctx.combine (c : Ctx) (s : ChunkSlot) (xs : List Nat) : ChunkSlot :=
  match s.acc with
  | none => { s with acc := some xs, done := s.done + 1 }
  | some acc =>
    let rs := (acc.zip xs).map fun p => c.addWord p.1 p.2
    let wr := (List.range rs.length).filter fun k => match rs[k]? with
      | some r => r.2
      | none => false
    { s with acc := some (rs.map Prod.fst), done := s.done + 1, wrapped := (s.wrapped ++ wr).eraseDups }

/-- The weight of a rank lets it be combined (R252). -/
def Ctx.weightOk (c : Ctx) (k : KeyEnt) : Bool := !c.wsum || k.wv

/-- The next held input that may be combined: under EXACT the lowest rank not yet combined, under FAST
any whose weight is valid. -/
def Ctx.nextHeld (c : Ctx) (keys : List KeyEnt) (s : ChunkSlot) : Option (Nat × Nat) :=
  s.held.find? fun x => (!c.exact || x.1 = s.done) && c.weightOk (keys.getD x.1 {})

def Ctx.slot (c : Ctx) (n : Nat) : ChunkSlot := (c.slots.find? fun s => s.n = n).getD { n := n }
def Ctx.setSlot (c : Ctx) (s : ChunkSlot) : Ctx :=
  { c with slots := (c.slots.filter fun x => x.n ≠ s.n) ++ [s] }

/-- The format of an input's streamer for its key entry (R247 step 6). -/
def Ctx.inFmt (c : Ctx) (k : KeyEnt) : Nat := if k.child then c.partFmt else c.cfmt

/-- Held inputs of a chunk combined as far as they may be; `fuel` bounds them. -/
def Dev.combineHeld : Nat → Dev → Nat → Nat → Dev
  | 0, d, _, _ => d
  | f + 1, d, i, n =>
    let c := d.ctx i
    let s := c.slot n
    let keys := d.ctxKeys i c
    match c.nextHeld keys s with
    | none => d
    | some x => match d.pkt? x.2 with
      | none => d
      | some p =>
        let k := keys.getD x.1 {}
        let s' := c.combine { s with held := s.held.erase x } (c.inWords k (c.inFmt k) p.pkt.payload)
        let d := ((d.setCtx i (c.setSlot s')).redCount i 0 1).redCount i 3 1
          (c.inSats k (c.inFmt k) p.pkt.payload)
        Dev.combineHeld f (d.dropInput (ctxQuad i) x.2) i n

/-- The 16-bit check of a payload (R249). -/
def payloadCheck (bs : List Nat) : Nat := crc32c bs % 65536

/-- Step 10 of R247: the arrival bitmap (R249), and what may be combined now. -/
def Dev.takeBitmap (d : Dev) (i n rank pid : Nat) (s : Stored) : Dev :=
  let c := d.ctx i
  let q := ctxQuad i
  let sl := c.slot n
  let chk := payloadCheck s.pkt.payload
  match sl.ins.find? fun a => a.rank = rank with
  | some a =>
    if a.chk = chk then
      ((d.setCtx i { c with dups := min 0xFFFF (c.dups + 1) }).redCount i 0 6).dropInput q pid
    else
      let d := d.setCtx i { c with conflicts := min 0xFFFF (c.conflicts + 1) }
      (d.set R.RED_ERR_CONFLICT_SEEN q).refuseInput i pid rContribConflict
  | none =>
    let a : Arr := { rank := rank, chk := chk, src := s.pkt.src, tag := s.pkt.tag,
                     burgee := s.pkt.burgee, entropy := s.pkt.entropy, dst := s.pkt.dst, ing := s.ing }
    let sl := { sl with ins := sl.ins ++ [a], held := sl.held ++ [(rank, pid)] }
    let d := (d.setCtx i { c.setSlot sl with timer := d.now }).redCount i 0 0
    let d := Dev.combineHeld sl.held.length d i n
    if ((d.ctx i).slot n).held.any fun x => x.2 = pid then d.redCount i 0 2 else d

/-- An input of a stub for a chunk at or above MIG_B: forwarded on MIG_PORT, or refused (R266). -/
def Dev.forwardInput (d : Dev) (i pid : Nat) (s : Stored) : Dev :=
  let c := d.ctx i
  if d.localExcl c.migPort then d.refuseInput i pid rNoPath
  else match redHolder (ctxQuad i) s with
    | none => d
    | some h =>
      let h' : Holder := ⟨c.migPort, 4, 0x1000, false⟩
      let s' := { s with holders := s.holders.erase h ++ [h'], begun := s.begun.erase h }
      let d := d.setPkt pid s'
      let d := d.setCtx i { c with fwd := c.fwd ++ [(pid, h')], timer := d.now }
      (d.redCount i 0 4).enterDesc pid h'

/-- The test of an input that the index, burgee, key, format and epoch decide: steps 1 to 7 of R247.
Answers the rank and chunk, or the reason. -/
def Dev.inputTest (d : Dev) (q i : Nat) (k : Packet) : Except Nat (Nat × Nat) :=
  let c := d.ctx i
  let keys := d.ctxKeys i c
  let fmtBad := !(d.redFmt k.fmt)
    || (fmtMx k.fmt && (k.payload.length % groupBytes k.fmt != 0 || k.offset % groupBytes k.fmt != 0))
  if c.state = csFree ∨ c.check ≠ k.collId / 65536 ∨ ctxQuad i ≠ q then .error rCtxUnknown
  else if c.state = csRetired then .error rStaleEpoch
  else if c.state = csAborted then .error rCtxAborted
  else if k.burgee ≠ c.burgee then .error rBurgeeViolation
  else match (List.range keys.length).find? fun r => (keys.getD r {}).key = k.contrib with
    | none => .error rNotContributor
    | some r =>
      let fmt := c.inFmt (keys.getD r {})
      let b := c.chunkBytes fmt
      let n := k.offset / b
      if fmtBad then .error rFormatInvalid
      else if k.fmt ≠ fmt ∨ 4 * k.len ≠ b ∨ k.offset % b ≠ 0 ∨ c.nchunk ≤ n ∨ n < c.first then
        .error rContribShape
      else if c.epochOk n k.epoch = false then .error rStaleEpoch
      else .ok (r, n)

/-- A contribution taken from its engine's queue and checked (R247): refused, discarded as a late
duplicate, deferred, forwarded or taken into the bitmap. -/
def Dev.takeInput (d : Dev) (q pid : Nat) : Dev :=
  match d.pkt? pid with
  | none => d
  | some s =>
    let i := s.pkt.collId % 65536
    match d.inputTest q i s.pkt with
    | .error r =>
      let d := if r = rFormatInvalid then d.redCount i 3 0 else d
      d.refuseInput (if ctxQuad i = q then i else 16384 * q) pid r
    | .ok (r, n) =>
      let c := d.ctx i
      if c.state = csStub ∧ c.migB ≤ n then d.forwardInput i pid s
      else if n < c.low ∨ c.state = csDone then
        ((d.setCtx i { c with dups := min 0xFFFF (c.dups + 1) }).redCount i 0 6).dropInput q pid
      else if c.low + c.window ≤ n then
        (d.setCtx i { c with deferred := c.deferred ++ [pid] }).redCount i 0 3
      else d.takeBitmap i n r pid s

/-- Deferred inputs that the window has reached taken again (R248). -/
def Dev.retakeDeferred (d : Dev) (i : Nat) : Dev :=
  let c := d.ctx i
  let ps := c.deferred
  (d.setCtx i { c with deferred := [] }).each ps fun d pid => d.takeInput (ctxQuad i) pid

/-- LOW moved past the complete chunks, whose slots are freed; `fuel` bounds them. -/
def lowAfter : Nat → Ctx → Ctx
  | 0, c => c
  | f + 1, c =>
    if (c.slots.any fun s => s.n = c.low && s.complete) then
      lowAfter f { c with low := c.low + 1, slots := c.slots.filter fun s => s.n ≠ c.low }
    else c

/-- A chunk marked complete: LOW advances and what it deferred is taken. -/
def Dev.finishChunk (d : Dev) (i n : Nat) : Dev :=
  let c := d.ctx i
  let s := c.slot n
  let c := c.setSlot { s with complete := true, acc := none, held := [] }
  let c := lowAfter c.slots.length { c with timer := d.now }
  (d.setCtx i c).retakeDeferred i

/-- Whether every rank of a chunk has been combined and nothing has been sent for it yet. -/
def Ctx.ready (c : Ctx) (n : Nat) : Bool :=
  match c.slots.find? fun s => s.n = n with
  | some s => !s.complete && s.done = c.nIn
  | none => false

/-- Chunks of a stub's own that are not complete, and forwarded items not yet released (R266). -/
def Dev.drain (d : Dev) (c : Ctx) : Nat :=
  let out := (c.fwd.filter fun x => match d.pkt? x.1 with
    | some s => s.holders.contains x.2
    | none => false).length
  (c.migB - c.low) - (c.slots.filter fun s => s.complete && s.n < c.migB).length + out

end Sys2Proof.Machine
end

