-- ==== Sys2Proof/Machine/Hoist.lean ====
section
/-! DEFINITION. The hoist (spec/16, R454 to R461), the end of a drained bank switch (spec/06, R188), and the
step counters (R452). -/

namespace Sys2Proof.Machine

/-! ### The end of a drained switch (R188) -/

/-- The EDGE ports of the active banks. -/
def Dev.edgePorts (d : Dev) : List Nat := d.formedPorts.filter fun p => (d.attr (p / 128) p).edge

/-- The edge pauses of a drain cancelled. -/
def Dev.cancelEdgePauses (d : Dev) : Dev := d.each d.edgePorts fun d p => d.sendPause p vc06 0

/-- A commit that ends (R509): HUB.CFGSTAT, CFG_DONE and the counts, and its completion. -/
def Dev.commitEnd (d : Dev) (aseq st : Nat) (sect : Nat := 0) (detail : Nat := 0) : Dev :=
  let d := (d.wr R.HUB_CFGSTAT_LAST_STATUS st).wr R.HUB_CFGSTAT_SECTION sect
  let d := if st = St.ok then ((d.set R.HUB_BOOT_CFG_DONE).bump R.HUB_CFGSTAT_COMMITS).count 0x11 0x800 2 1
    else d.count 0x11 0x800 2 2
  d.complete aseq st [] detail

/-- A drained switch abandoned: the active bank stays, the shadow bank stays loaded. -/
def Dev.abandonSwitch (d : Dev) : Dev :=
  match d.net.armed with
  | none => d
  | some a =>
    let d := { d with net := { d.net with armed := none } }
    let d := d.cancelEdgePauses
    let d := d.each [0, 1, 2, 3] fun d q => d.set R.RTE_ERR_SWITCH_ABANDON q
    d.syncRteStat.commitEnd a.aseq St.routeDrainTimeout

/-- An armed switch made: the banks switch and the commit that armed it completes (R187, R509). -/
def Dev.makeSwitch (d : Dev) : Dev :=
  match d.net.armed with
  | none => d
  | some a =>
    let d := d.switchBanks
    let d := if a.mode = 2 then { d with net := { d.net with drainUnpause := some (d.now + 1000) } } else d
    d.commitEnd a.aseq St.ok

/-- When the drain of an armed switch must be done (R188). -/
def Dev.drainLimit (d : Dev) (a : Armed) : Nat := a.t + 1000000 * max 1 (d.rd R.RTE_HCFG_DRAIN_TO)

/-- The armed switch whose drain has begun and not joined its hoist, if its hoist is instance `seq` of entry
`i`. -/
def Dev.unjoined (d : Dev) (i seq : Nat) : Option Armed :=
  match d.net.armed with
  | none => none
  | some a =>
    if a.mode = 2 && a.draining && !a.joined && a.hoist % 1024 = i && a.hoist / 1024 = seq then some a else none

/-! ### Outcomes of triggered operations -/

/-- The outcome of a triggered operation in progress: 0 success, else the status or reason that
OPERATION_END records (R281, R282). -/
def Dev.opOutcome (d : Dev) (trig code : Nat) : Dev :=
  { d with red := { d.red with
    running := d.red.running.map fun o =>
      if o.trig = trig && o.outcome.isNone then { o with outcome := some code } else o } }

/-! ### Entries and pennants (R454, R455) -/

def Dev.hoist (d : Dev) (i : Nat) : HoistEnt := d.time.hoists.get i {}
def Dev.inst (d : Dev) (i : Nat) : HoistInst := d.time.insts.get i {}
def Dev.setHoist (d : Dev) (i : Nat) (h : HoistEnt) : Dev :=
  { d with time := { d.time with hoists := d.time.hoists.put i h } }
def Dev.setInst (d : Dev) (i : Nat) (x : HoistInst) : Dev :=
  { d with time := { d.time with insts := d.time.insts.put i x } }

def seqMax : Nat := 2 ^ 22

/-- The hoist ID of an entry's current instance. -/
def hoistId (i : Nat) (h : HoistEnt) : Nat := h.seq * 1024 + i

/-- A HOIST pennant of this device. -/
def Dev.hoistPen (d : Dev) (h : HoistEnt) (opcode id w6 w7 : Nat) : Packet :=
  { pclass := 1, burgee := h.burgee, hoplim := 1, dst := 0xFFFFE, src := d.devFeid, typ := 7
    opcode := opcode, arg5 := id, arg6 := w6, arg7 := w7 }

def Dev.sendHoist (d : Dev) (k : Packet) (p : Nat) : Dev := d.sendPort k hubAttach 0 p

/-- A pennant to the arrival port of every child rank. -/
def Dev.toChildren (d : Dev) (x : HoistInst) (k : Packet) (skip : Option Nat := none) : Dev :=
  d.each ((x.ranks.map Prod.snd).eraseDups.filter fun p => skip != some p) fun d p => d.sendHoist k p

/-! ### The fate of local joins (R458) -/

/-- A local join ends COMPLETE at T_REL. -/
def Dev.joinDone (d : Dev) (burgee trel : Nat) (j : Join) : Dev :=
  match j with
  | .cmd a => d.complete a St.ok [trel / 2 ^ 32, trel % 2 ^ 32]
  | .lock a base =>
    let d := { d with time := { d.time with
      steps := d.time.steps.put burgee base
      lockstep := (d.time.lockstep ++ [burgee]).eraseDups } }
    d.complete a St.ok [trel / 2 ^ 32, trel % 2 ^ 32]
  | .act t => d.opOutcome t 0
  | .drain => d.makeSwitch

/-- A local join fails with a cause: 0 DEADLINE, 1 MEMBER, 2 CUT_OFF. -/
def Dev.joinFail (d : Dev) (cause : Nat) (j : Join) : Dev :=
  match j with
  | .cmd a => d.complete a St.hoistFailed [] cause
  | .lock a _ => d.complete a St.hoistFailed [] cause
  | .act t => d.opOutcome t St.hoistFailed
  | .drain => d.abandonSwitch

/-- A release takes place (R452, R458): the step counter advances and the local joins end. -/
def Dev.releaseNow (d : Dev) (r : HoistRel) : Dev :=
  let d := if r.late then (d.set R.HUB_FTSTAT_LATE_REL).count 0x11 r.ent 0 3 else d
  let d := match r.step with
    | none => d
    | some b => { d with time := { d.time with
        steps := d.time.steps.put b ((d.time.steps.get b 0 + 1) % 2 ^ 64) } }
  let b := (d.hoist r.ent).burgee
  d.each r.joins fun d j => d.joinDone b r.trel j

/-! ### Decisions (R456, R457) -/

/-- SEQ advanced: the arrivals held for the next instance become its first. -/
def Dev.advanceSeq (d : Dev) (i : Nat) : Dev :=
  let h := d.hoist i
  let x := d.inst i
  let held := x.heldRanks ≠ [] ∨ x.heldJoins ≠ []
  let y : HoistInst :=
    { ranks := x.heldRanks, joins := x.heldJoins
      first := if held then some d.now else none
      deadlineAt := if held then d.now + 100000 * h.deadline else 0 }
  let d := (d.setHoist i { h with seq := (h.seq + 1) % seqMax }).setInst i y
  d.count 0x11 i 0 0 (x.heldRanks.length + x.heldJoins.length)

/-- COMPLETE for release at `trel`, sent to the children and applied (R457, R458). -/
def Dev.decideComplete (d : Dev) (i trel : Nat) : Dev :=
  let h := d.hoist i
  let x := d.inst i
  let d := d.count 0x11 i 0 1
  let d := d.toChildren x (d.hoistPen h 2 (hoistId i h) (trel / 2 ^ 32 % 2 ^ 32) (trel % 2 ^ 32))
  let r : HoistRel := { ent := i, trel := trel, late := decide (trel < d.now), joins := x.joins
                        step := if h.step then some h.burgee else none }
  let d := d.advanceSeq i
  if trel ≤ d.now then d.releaseNow r
  else { d with time := { d.time with releases := d.time.releases ++ [r] } }

/-- FAIL with a cause, sent to the children and applied.  A drain that has not joined yet is abandoned too
(R188). -/
def Dev.decideFail (d : Dev) (i cause : Nat) (skip : Option Nat := none) : Dev :=
  let h := d.hoist i
  let x := d.inst i
  let d := (d.count 0x11 i 0 2).toChildren x (d.hoistPen h 3 (hoistId i h) cause 0) skip
  let late := (d.unjoined i h.seq).isSome
  let d := (d.advanceSeq i).each x.joins fun d j => d.joinFail cause j
  if late then d.abandonSwitch else d

/-- The first multiple of 2,000 ns at or after a time. -/
def slotAt (t : Nat) : Nat := ceilDiv t 2000 * 2000

/-- An instance with every expected arrival: the root decides COMPLETE, another device sends ARRIVE once.
`fuel` bounds the instances that held arrivals complete in turn. -/
def Dev.settle : Nat → Dev → Nat → Dev
  | 0, d, _ => d
  | f + 1, d, i =>
    let h := d.hoist i
    let x := d.inst i
    if x.first.isNone ∨ x.ranks.length + x.joins.length < h.nChild + h.nLocal then d
    else if h.root then
      let t := d.now + h.lead
      Dev.settle f (d.decideComplete i (if h.slot then slotAt t else t)) i
    else if x.sentArrive then d
    else
      let d := d.setInst i { x with sentArrive := true }
      d.sendHoist (d.hoistPen h 1 (hoistId i h) (h.myRank * 2 ^ 22) 0) h.parentPort

/-- An arrival counted: the first starts the deadline. -/
def Dev.arrived (d : Dev) (i : Nat) : Dev :=
  let h := d.hoist i
  let x := d.inst i
  let d := d.count 0x11 i 0 0
  let d := match x.first with
    | some _ => d
    | none =>
      let dl := if x.deadlineAt = 0 then d.now + 100000 * h.deadline else x.deadlineAt
      d.setInst i { x with first := some d.now, deadlineAt := dl }
  Dev.settle 2 d i

/-- A local join (R455, R456).  Answers whether it was taken: it is refused beyond N_LOCAL, and for any
instance but the current and the next.  A drain's join gives its own deadline (R461). -/
def Dev.hoistJoin (d : Dev) (id : Nat) (j : Join) (deadline : Option Nat := none) : Dev × Bool :=
  let i := id % 1024
  let seq := id / 1024
  let h := d.hoist i
  let x := d.inst i
  if h.v = false then (d, false)
  else if seq = h.seq then
    if h.nLocal ≤ x.joins.length then (d, false)
    else
      let x := { x with joins := x.joins ++ [j] }
      let x := match deadline with
        | some t => { x with deadlineAt := t }
        | none => x
      ((d.setInst i x).arrived i, true)
  else if seq = (h.seq + 1) % seqMax then
    if h.nLocal ≤ x.heldJoins.length then (d, false)
    else (d.setInst i { x with heldJoins := x.heldJoins ++ [j] }, true)
  else (d, false)

/-! ### Rows -/

/-- A HOIST pennant of an opcode that the hub has taken, its entry, and its fate: handled by `f`, or refused
with HOIST_UNKNOWN or BURGEE_VIOLATION. -/
def Dev.takeHoist (d : Dev) (pid opcode : Nat) (seqOk : HoistEnt → Nat → Bool)
    (f : Nat → HoistEnt → Stored → Dev → Dev) : Dev :=
  match d.takeHub pid fun k => k.pclass = 1 && k.typ = 7 && k.opcode = opcode with
  | none => d
  | some (s, d) =>
    let i := s.pkt.arg5 % 1024
    let h := d.hoist i
    let refuse (r : Nat) : Dev := d.record 0 (d.pktRec s.pkt s.vc s.ing r 0x11 i)
    if h.v = false ∨ seqOk h (s.pkt.arg5 / 1024) = false then refuse 0xA0
    else if s.pkt.burgee ≠ h.burgee then refuse 0x14
    else f i h s d

/-- The current instance or the next. -/
def HoistEnt.near (h : HoistEnt) (seq : Nat) : Bool := seq = h.seq || seq = (h.seq + 1) % seqMax

/-- HOIST_ARRIVE: counted once per rank, or held for the next instance (R456). -/
def hoistArrive (pid : Nat) (d : Dev) : Dev :=
  d.takeHoist pid 1 HoistEnt.near fun i h s d =>
    let x := d.inst i
    let rank := s.pkt.arg6 / 2 ^ 22
    let dup (d : Dev) : Dev :=
      { d with time := { d.time with dupArrivals := d.time.dupArrivals + 1 } }
    if s.pkt.arg5 / 1024 = h.seq then
      if x.ranks.any fun r => r.1 = rank then dup d
      else (d.setInst i { x with ranks := x.ranks ++ [(rank, s.ing)] }).arrived i
    else if x.heldRanks.any fun r => r.1 = rank then dup d
    else d.setInst i { x with heldRanks := x.heldRanks ++ [(rank, s.ing)] }

/-- HOIST_RELEASE_RECEIVED: the decision of the parent, sent on and applied (R457, R458). -/
def hoistReleaseReceived (pid : Nat) (d : Dev) : Dev :=
  d.takeHoist pid 2 (fun h seq => !h.root && seq = h.seq) fun i _ s d =>
    Dev.settle 1 (d.decideComplete i (s.pkt.arg6 * 2 ^ 32 + s.pkt.arg7)) i

/-- HOIST_FAIL_RECEIVED: at the root the first decision; from the parent it is applied; from a child of an
inner device it goes up once.  A FAIL that comes after the decision is ignored (R457). -/
def hoistFailReceived (pid : Nat) (d : Dev) : Dev :=
  d.takeHoist pid 3 (fun h seq => seq = h.seq || (seq + 1) % seqMax = h.seq) fun i h s d =>
    let cause := s.pkt.arg6 % 256
    let x := d.inst i
    if s.pkt.arg5 / 1024 ≠ h.seq then d
    else if h.root ∨ s.ing = h.parentPort then Dev.settle 1 (d.decideFail i cause) i
    else if x.sentFail then d
    else
      let d := d.setInst i { x with sentFail := true }
      d.sendHoist (d.hoistPen h 3 (hoistId i h) cause 0) h.parentPort

/-- HOIST_RELEASE_TIME: fabric time has reached T_REL of a decided hoist of entry `i` (R458). -/
def hoistReleaseTime (i : Nat) (d : Dev) : Dev :=
  match d.time.releases.find? fun r => r.ent = i && decide (r.trel ≤ d.now) with
  | none => d
  | some r => ({ d with time := { d.time with releases := d.time.releases.erase r } }).releaseNow r

/-- HOIST_DEADLINE: the root decides FAIL; a device that has not sent ARRIVE sends FAIL to its parent
(R457).  A drain that has not joined by its own deadline fails the hoist and is abandoned (R188). -/
def hoistDeadline (i : Nat) (d : Dev) : Dev :=
  let h := d.hoist i
  let x := d.inst i
  if (match d.unjoined i h.seq with
      | some a => decide (d.drainLimit a ≤ d.now)
      | none => false) then
    if h.root then Dev.settle 1 (d.decideFail i 0) i
    else
      let d := if x.sentFail then d
        else (d.setInst i { x with sentFail := true }).sendHoist (d.hoistPen h 3 (hoistId i h) 0 0) h.parentPort
      d.abandonSwitch
  else if x.first.isSome ∧ x.deadlineAt ≤ d.now then
    if h.root then Dev.settle 1 (d.decideFail i 0) i
    else if x.sentArrive ∨ x.sentFail then d
    else
      let d := d.setInst i { x with sentFail := true }
      d.sendHoist (d.hoistPen h 3 (hoistId i h) 0 0) h.parentPort
  else d

/-- CUT_OFF: no decision within 2 × DEADLINE of the first arrival at a device that has sent ARRIVE (R457). -/
def cutOff (i : Nat) (d : Dev) : Dev :=
  let h := d.hoist i
  let x := d.inst i
  match x.first with
  | none => d
  | some t =>
    if x.sentArrive ∧ h.root = false ∧ t + 2 * (x.deadlineAt - t) ≤ d.now then
      let d := (d.faultEvent 0x11 0x01 i).set R.HUB_FTSTAT_CUT_OFF
      let d := { d with time := { d.time with cutOffs := (d.time.cutOffs ++ [i]).eraseDups } }
      let d := d.advanceSeq i
      Dev.settle 1 (d.each x.joins fun d j => d.joinFail 2 j) i
    else d

/-- HOIST_JOIN (R455, R458): it ends with the hoist. -/
def hoistJoin (aseq : Nat) (d : Dev) : Dev :=
  d.cmd aseq 0x0901 fun j d =>
    let h := d.hoist (j.w 4 % 1024)
    if h.v = false then d.complete aseq St.cmdParam
    else if d.chRole j.chan = 0 ∧ h.burgee ≠ j.burgee then d.complete aseq St.notPermitted
    else match d.hoistJoin (j.w 4) (.cmd aseq) with
      | (d, true) => d
      | (d, false) => d.complete aseq St.hoistBusy

/-- Whether the device counts as LOCKED: a master is (R447). -/
def Dev.locked (d : Dev) : Bool := d.rd R.HUB_FTSTAT_STATE = 2 || d.on R.HUB_FTCFG_MASTER

/-- LOCKSTEP_START (R463). -/
def lockstepStart (aseq : Nat) (d : Dev) : Dev :=
  d.cmd aseq 0x0902 fun j d =>
    let h := d.hoist (j.w 4 % 1024)
    if h.v = false ∨ h.slot = false then d.complete aseq St.cmdParam
    else if h.burgee ≠ j.burgee then d.complete aseq St.notPermitted
    else if d.locked = false then d.complete aseq St.hoistFailed
    else if d.time.det ≠ 2 then d.complete aseq St.modeConflict
    else match d.hoistJoin (j.w 4) (.lock aseq (j.w 5 * 2 ^ 32 + j.w 6)) with
      | (d, true) => d
      | (d, false) => d.complete aseq St.hoistBusy

/-- A HOIST_JOIN whose burgee is in no lockstep under DET_TIME is still a join; only launches are refused
(R464): whether a burgee may launch now. -/
def Dev.mayLaunch (d : Dev) (b : Nat) : Bool := d.time.det ≠ 2 || d.time.lockstep.contains b

end Sys2Proof.Machine
end

