-- ==== Sys2Proof/Machine/ModelBase.lean ====
section
/-! DEFINITION. Resident models (spec/12): the model table, answers and deliveries, and what a model that
fails or leaves loses (R340, R346, R352 to R354, R360). -/

namespace Sys2Proof.Machine

/-! ### The model table (R340) -/

def msEmpty : Nat := 0
def msCached : Nat := 1
def msLoading : Nat := 2
def msResident : Nat := 3
def msDraining : Nat := 4
def msFailed : Nat := 5

def Dev.model (d : Dev) (s : Nat) : Model := d.models.get s {}
def Dev.setModel (d : Dev) (s : Nat) (m : Model) : Dev := { d with models := d.models.put s m }

/-- The tiles of a mask, lowest first: relative tile k is element k (R342). -/
def maskTiles (m : Nat) : List Nat := maskBits m 64

/-- Whether a model holds the tiles of its mask. -/
def Model.placed (m : Model) : Bool :=
  m.state = msLoading || m.state = msResident || m.state = msDraining || m.state = msFailed

/-- The slot of the model that a tile belongs to. -/
def Dev.modelOf (d : Dev) (t : Nat) : Option Nat :=
  (d.models.find? fun x => x.2.placed && bitOf x.2.mask t).map Prod.fst

/-- Bytes of the model cache: all of it, and what cached images take (R341). -/
def Dev.cacheBytes (d : Dev) : Nat := d.rd R.THD_MCACHE_SIZE * 4 * 2 ^ 28
def imageBytes (m : Model) : Nat := ceilDiv m.bodyB 4096 * 4096
def Dev.cacheUsed (d : Dev) : Nat := d.models.foldl (fun n x => n + imageBytes x.2) 0
def Dev.cacheFree (d : Dev) : Nat := d.cacheBytes - d.cacheUsed

/-- The words of a model table slot, as THD.MDLDATA reads them; words 7 to 15 read 0. -/
def Model.words (m : Model) : List Nat :=
  [m.id * 65536 + m.state * 8192 + m.epoch * 32,
   m.burgee * 2 ^ 23 + m.tiles * 65536 + (m.sess.filter fun x => x.2.state != 0).length,
   m.mask % 2 ^ 32, m.mask / 2 ^ 32, m.stepLast, m.stepMax, m.steps]

/-- THD.MDLDATA brought up to date. -/
def Dev.syncMdlData (d : Dev) : Dev :=
  d.wr R.THD_MDLDATA_DATA (nth (d.model (d.rd R.THD_MDLACC_SLOT)).words (d.rd R.THD_MDLACC_WORD))

/-- THD.MDLSTAT, THD.MCFREE and THD.MDLDATA brought up to date. -/
def Dev.syncModels (d : Dev) : Dev :=
  let d := d.syncMdlData
  let cached := (d.models.filter fun x => x.2.state != msEmpty).length
  let res := (d.models.filter fun x => x.2.state = msResident).length
  let free := ((List.range 64).filter fun t => d.pdOn (pdTile t) && (d.modelOf t).isNone).length
  let units := d.cacheFree / 2 ^ 28
  let d := (d.wr R.THD_MDLSTAT_CACHED cached).wr R.THD_MDLSTAT_RESIDENT res
  let d := (d.wr R.THD_MDLSTAT_TILES_FREE free).wrSat R.THD_MDLSTAT_CACHE_FREE units
  d.wrSat R.THD_MCFREE_FREE units

def Model.session (m : Model) (i : Nat) : Session := m.sess.get i {}
def Dev.session (d : Dev) (s i : Nat) : Session := (d.model s).session i
def Dev.setSession (d : Dev) (s i : Nat) (x : Session) : Dev :=
  let m := d.model s
  d.setModel s { m with sess := m.sess.put i x }

/-- The front tile of a model (R342), and the attach point of its serve path. -/
def Model.front (m : Model) : Nat := (maskTiles m.mask).headD 0
def Model.attach (m : Model) : Nat := attachOf m.front

/-! ### Answers (R352) -/

/-- The RSP pennant to a SERVE request. -/
def Dev.sendRsp (d : Dev) (ing dst burgee tag op session status nextPos made : Nat) : Dev :=
  d.sendOut
    { pclass := 1, burgee := burgee, dst := dst, src := d.devFeid, tag := tag, typ := 1, opcode := op
      arg5 := session * 2 ^ 16 + status, arg6 := nextPos * 2 ^ 7, arg7 := made } ing 1

/-- The answer to a session's request, through an attach point, kept for a repeat of its TAG. -/
def Dev.answerBy (d : Dev) (ing s i tag op status made : Nat) : Dev :=
  let x := d.session s i
  let d := d.setSession s i { x with last := some (tag, op, status, made) }
  (d.sendRsp ing x.owner x.burgee tag op i status x.nextPos made).count 0x0E s 1 (status % 256)

/-- The answer through the attach point of the model's front tile. -/
def Dev.answer (d : Dev) (s i tag op status made : Nat) : Dev :=
  d.answerBy (d.model s).attach s i tag op status made

/-! ### Deliveries (R353, R354) -/

def flStop : Nat := 1
def flMax : Nat := 2
def flCancelled : Nat := 4
def flLost : Nat := 8

/-- The delivery of a session's records with FLAGS, as a SERVE_DATA streamer; the packet is answered with. -/
def Dev.deliveryPkt (d : Dev) (x : Session) (i tag flags : Nat) (recs : List (Nat × Nat)) : Packet :=
  let body := [i * 2 ^ 16 + recs.length * 256 + flags, x.dseq] ++ recs.flatMap fun r => [r.1, r.2 * 256]
  let bytes := body.flatMap (bytesLE 4)
  { pclass := 2, burgee := x.burgee, dst := x.owner, src := d.devFeid, tag := tag, typ := 4, len := 64
    region := x.region, offset := x.base + x.dseq % (max 1 x.nslot) * 256, trigger := x.trig
    trigV := x.trigV, payload := bytes ++ List.replicate (256 - bytes.length) 0 }

/-- A delivery sent: DSEQ advances. -/
def Dev.deliver256 (d : Dev) (s i tag flags : Nat) (recs : List (Nat × Nat)) : Dev × Packet :=
  let m := d.model s
  let x := m.session i
  let k := d.deliveryPkt x i tag flags recs
  let d := d.setSession s i { x with dseq := (x.dseq + 1) % 2 ^ 32 }
  ((d.sendOut k m.attach 2).count 0x0E s 2 4, k)

/-- A GENERATE that ends: its last delivery is sent, and its answer follows once the egress has released
it. -/
def Dev.endGen (d : Dev) (s i status flags : Nat) : Dev :=
  let x := d.session s i
  match x.gen with
  | none => d
  | some g =>
    let (d, k) := d.deliver256 s i g.tag flags g.recs
    let x := d.session s i
    d.setSession s i { x with
      gen := none
      late := x.late ++ [{ tag := g.tag, op := 3, status := status, made := g.made, pkt := some k
                           ing := (d.model s).attach }] }

/-- Whether a packet of a session is still held by an egress or waits to be stored. -/
def Dev.pktOut (d : Dev) (k : Packet) : Bool :=
  (d.net.pkts.any fun x => x.2.pkt = k) || d.mgmt.outWait.any fun w => w.pkt = k

/-- Late answers whose last delivery has been released (R354); the sessions of an emptied slot end with them. -/
def Dev.lateAnswers (d : Dev) : Dev :=
  d.each (d.models.filter fun m => m.2.sess.any fun x => x.2.late != []) fun d m =>
    d.each (m.2.sess.filter fun x => x.2.late != []) fun d x =>
      let due := x.2.late.filter fun l => match l.pkt with
        | some k => !(d.pktOut k)
        | none => false
      let d := d.each due fun d l => d.answerBy l.ing m.1 x.1 l.tag l.op l.status l.made
      let y := d.session m.1 x.1
      let left := y.late.filter fun l => !(due.contains l)
      let d := d.setSession m.1 x.1 { y with late := left }
      let n := d.model m.1
      if n.state = msEmpty ∧ y.state = 0 ∧ left = [] then d.setModel m.1 { n with sess := n.sess.del x.1 } else d

/-! ### Sessions lost (R353, R360) -/

/-- The requests of a session but a GENERATE answered SERVE_SESSION_LOST, and a transfer through the store
abandoned. -/
def Dev.dropRequests (d : Dev) (s i : Nat) : Dev :=
  let x := d.session s i
  let d := d.each x.apps fun d a => d.answer s i a.tag 2 St.serveSessionLost 0
  let d := match x.storing with
    | some (tag, op, _) => d.answer s i tag op St.serveSessionLost 0
    | none => d
  let d := { d with store := { d.store with
    jobs := d.store.jobs.filter fun (j : StoreJob) => j.src ≠ StoreSrc.snap s i && j.src ≠ StoreSrc.restore s i } }
  let y := d.session s i
  d.setSession s i { y with apps := [], storing := none }

/-- A session that loses its state: its GENERATE ends with LOST and its other requests are answered
SERVE_SESSION_LOST; the session is freed, and so is one whose CLOSE waited. -/
def Dev.loseSession (d : Dev) (s i : Nat) : Dev :=
  let x := d.session s i
  if x.state = 0 ∨ x.state = 2 then d
  else
    let d := d.set R.THD_SERVEERR_LOST_SEEN
    let d := if x.gen.isSome then d.endGen s i St.serveSessionLost flLost else d
    let d := d.dropRequests s i
    let d := match x.gen.bind Gen.closeTag with
      | some tag => d.answer s i tag 9 St.ok 0
      | none => d
    let y := d.session s i
    d.setSession s i { y with state := 0 }

/-- Every open session of a model lost; parked ones survive. -/
def Dev.loseSessions (d : Dev) (s : Nat) : Dev :=
  d.each ((d.model s).sess.map Prod.fst) fun d i => d.loseSession s i

/-- A command that a model slot's work completes. -/
def Dev.modelJob (d : Dev) (s status : Nat) (res : List Nat := []) : Dev :=
  match (d.model s).job with
  | none => d
  | some a =>
    let m := d.model s
    let d := d.setModel s { m with job := none }
    let d := if status = St.ok then d else d.set R.THD_SERVEERR_LOAD_FAIL
    d.complete a status res

/-- The ready trigger of a model given back (R343). -/
def Dev.freeReady (d : Dev) (s : Nat) : Dev :=
  let m := d.model s
  match m.ready with
  | none => d
  | some t =>
    let d := d.setModel s { m with ready := none }
    { d with red := { d.red with trigs := d.red.trigs.put t {} } }

/-- The model that was to take the tiles of another (R344) stays CACHED, and its command ends. -/
def Dev.dropIncoming (d : Dev) (s i : Nat) : Dev :=
  if i = s then d
  else
    let d := d.freeReady i
    (d.setModel i { d.model i with nextMask := 0 }).modelJob i St.modelState

/-- A model becomes FAILED (R340, R360): its open sessions are lost, and its tiles are held until
MODEL_EVICT. -/
def Dev.failModel (d : Dev) (s : Nat) : Dev :=
  let m := d.model s
  if m.placed = false ∨ m.state = msFailed then d
  else
    let d := (d.loseSessions s).freeReady s
    let d := match m.incoming with
      | some i => d.dropIncoming s i
      | none => d
    let d := d.setModel s { d.model s with state := msFailed, loading := false, incoming := none }
    let d := d.set R.THD_SERVEERR_MODEL_FAILED
    (d.modelJob s St.modelState).syncModels

/-! ### State of sessions in SRAM (R346, R351) -/

/-- The SRAM of a tile. -/
def Dev.sramOf (d : Dev) (t : Nat) : Mem := d.sram.get t []
def Dev.setSram (d : Dev) (t : Nat) (m : Mem) : Dev := { d with sram := d.sram.put t m }

/-- Where the state of SRAM slot `n` begins in relative tile `k`: the state area lies above the section
(R339). -/
def Model.stateAt (m : Model) (k n : Nat) : Nat :=
  match m.sections[k]? with
  | some x => x.sram + x.len + n * m.stateB
  | none => 0

/-- An SRAM slot that no open session holds (R351). -/
def Model.freeSlot (m : Model) : Option Nat :=
  (List.range m.users).find? fun n =>
    !(m.sess.any fun x => (x.2.state = 1 || x.2.state = 3) && x.2.slotNo = n)

/-- A session's state copied to HBM, and its SRAM slot freed. -/
def Dev.parkSession (d : Dev) (s i : Nat) : Dev :=
  let m := d.model s
  let x := m.session i
  let st := (maskTiles m.mask).zipIdx.map fun tk =>
    (d.sramOf tk.1).readN (m.stateAt tk.2 x.slotNo) m.stateB
  d.setSession s i { x with state := 2, parked := st }

/-- A parked session returned to an SRAM slot; nothing when none is free. -/
def Dev.unparkSession (d : Dev) (s i : Nat) : Dev × Bool :=
  let m := d.model s
  let x := m.session i
  match m.freeSlot with
  | none => (d, false)
  | some n =>
    let d := d.each ((maskTiles m.mask).zip x.parked).zipIdx fun d tb =>
      d.setSram tb.1.1 ((d.sramOf tb.1.1).writeN (m.stateAt tb.2 n) tb.1.2)
    (d.setSession s i { x with state := 1, parked := [], slotNo := n }, true)

/-- The ready trigger of a loading model has fired: the slot becomes RESIDENT and the command completes
(R343); a move resumes the sessions that it parked (R345). -/
def Dev.modelReady (d : Dev) (s : Nat) : Dev :=
  let m := d.model s
  if m.state ≠ msLoading then d
  else
    let d := d.freeReady s
    let m := d.model s
    let till := if m.moving then some (d.now + 100000 * d.rd R.RED_GCFG_STUB_MIN (quadOfTile m.front)) else none
    let d := d.setModel s { m with state := msResident, loading := false, stepMax := 0
                                   resume := [], moving := false, prevTill := till }
    let d := d.each m.resume fun d i => (d.unparkSession s i).1
    let d := d.count 0x0E s 2 7 (d.now - m.loadAt)
    ((d.count 0x0E s 2 6).modelJob s St.ok).syncModels

end Sys2Proof.Machine
end

