-- ==== Sys2Proof/Machine/TileBase.lean ====
section
/-! DEFINITION. Tiles (spec/11, spec/13): tile SRAM with its poison, launches and program ends, the store
buffer, exceptions, and the receive rings. -/

namespace Sys2Proof.Machine

/-! ### Tile SRAM (R298, R367, R368) -/

def sramBytes : Nat := 0xC00000

def Dev.eccOf (d : Dev) (t : Nat) : SramEcc := d.ecc.get t {}
def Dev.setEcc (d : Dev) (t : Nat) (e : SramEcc) : Dev := { d with ecc := d.ecc.put t e }

/-- SRAM.STAT.POISONED brought up to date. -/
def Dev.syncPoison (d : Dev) (t : Nat) : Dev :=
  d.wrSat R.SRAM_STAT_POISONED (d.eccOf t).poison.length t

/-- The 8 B words that a range of bytes touches. -/
def wordsOf (a n : Nat) : List Nat :=
  if n = 0 then [] else (List.range ((a + n - 1) / 8 - a / 8 + 1)).map fun i => (a / 8 + i) * 8

/-- The first poisoned word of a range. -/
def Dev.poisonIn (d : Dev) (t a n : Nat) : Option Nat :=
  (wordsOf a n).find? fun w => (d.eccOf t).poison.contains w

/-- A word of a tile's SRAM first found uncorrectable (R368, R369): it is poisoned, which is one fault
event, and the tile is due for a reset 100 µs later, or at once when it is idle. -/
def Dev.sramUnc (d : Dev) (t w : Nat) (port : Nat := 0) (scrub : Bool := false) : Dev :=
  let e := d.eccOf t
  if e.poison.contains w then d
  else
    let d := d.faultEvent 0x0B 0x01 t
    let idle := d.rd R.TILE_STAT_STATE t = 1
    let e := { e with poison := e.poison ++ [w]
                      badLines := (e.badLines ++ [w / 64]).eraseDups
                      resetAt := some (match e.resetAt with
                        | some x => x
                        | none => if idle then d.now else d.now + 100000) }
    let d := ((d.setEcc t e).syncPoison t).count 0x0B t 0 1
    let d := (d.set R.SRAM_STAT_UNC_SEEN t).set R.TILE_ERR_ECC_UNC t
    let d := (d.wr R.SRAM_ERRADDR_OFFSET w t).wr R.SRAM_ERRADDR_PORT port t
    (d.wr R.SRAM_ERRADDR_SCRUB (b2n scrub) t).set R.SRAM_ERRADDR_VALID t

/-- A single-bit error corrected in a word (R367): counted, and the line is due for a spare when the same bit has
been corrected before (R369). -/
def Dev.sramCorr (d : Dev) (t w bit : Nat) : Dev :=
  let e := d.eccOf t
  if e.poison.contains w then d
  else
    let twice := e.corrOnce.contains (w, bit)
    let e := { e with corrOnce := if twice then e.corrOnce else e.corrOnce ++ [(w, bit)]
                      badLines := if twice then (e.badLines ++ [w / 64]).eraseDups else e.badLines }
    ((d.setEcc t e).bump R.SRAM_STAT_CORR t).count 0x0B t 0 0

/-- What the ECC of a range's words finds in an access, of what `bad` names: single-bit errors are corrected,
and the rest are uncorrectable (R367, R368). -/
def Dev.sramMeet (d : Dev) (t a n : Nat) (bad : EccHits) (port : Nat := 0) : Dev :=
  let ws := wordsOf a n
  let d := d.each (bad.corr.filter fun (c : Nat × Nat) => ws.contains c.1) fun d c => d.sramCorr t c.1 c.2
  d.each (ws.filter bad.unc.contains) fun d w => d.sramUnc t w port

/-- Bytes written to a tile's SRAM, word by word (R368): a word covered whole takes its bytes and loses its
poison; a narrower write to a poisoned word is discarded. -/
def Dev.sramWrite (d : Dev) (t a : Nat) (bytes : List Nat) : Dev :=
  let e := d.eccOf t
  let n := bytes.length
  let hit := (wordsOf a n).filter e.poison.contains
  if hit = [] then d.setSram t ((d.sramOf t).writeN a bytes)
  else
    let whole (w : Nat) : Bool := decide (a ≤ w) && decide (w + 8 ≤ a + n)
    let keep := hit.filter fun w => !(whole w)
    let m := (bytes.zipIdx).foldl (fun m (b : Nat × Nat) =>
      if keep.contains ((a + b.2) / 8 * 8) then m else m.writeByte (a + b.2) (BitVec.ofNat 8 b.1))
      (d.sramOf t)
    let d := (d.setSram t m).setEcc t { e with poison := e.poison.filter fun w =>
      !(hit.contains w && whole w) }
    let d := d.syncPoison t
    if keep = [] then d else d.set R.SRAM_STAT_PSTORE_DROP t

/-- Little-endian 32-bit words in SRAM (R595). -/
def Dev.sramWords (d : Dev) (t a n : Nat) : List Nat :=
  (List.range n).map fun i => ofLE ((d.sramOf t).readN (a + 4 * i) 4)

/-! ### Tiles (R300) -/

def tsOff : Nat := 0
def tsIdle : Nat := 1
def tsRunning : Nat := 2
def tsParked : Nat := 3
def tsResetting : Nat := 4

def Dev.tile (d : Dev) (t : Nat) : Tile := d.tiles.get t {}
def Dev.tileState (d : Dev) (t : Nat) : Nat := d.rd R.TILE_STAT_STATE t

/-- The burgee of a tile's running program. -/
def Tile.burgee (x : Tile) : Nat :=
  match x.prog with
  | some l => l.burgee
  | none => 0

/-- A tile written, with the registers that copy it. -/
def Dev.setTile (d : Dev) (t : Nat) (x : Tile) : Dev :=
  let d := { d with tiles := d.tiles.put t x }
  let d := d.wr R.TILE_STAT_EXC_ACTIVE (b2n x.active) t
  let d := d.wr R.TILE_STAT_LQ_DEPTH x.lq.length t
  let d := d.wr R.TILE_STAT_KEPT_ACC (b2n x.kept.isSome) t
  let d := d.wr R.TILE_STAT_BURGEE x.burgee t
  d.wr R.TILE_PC_PC x.pc t

def Dev.modTile (d : Dev) (t : Nat) (f : Tile → Tile) : Dev := d.setTile t (f (d.tile t))

def Dev.setTileState (d : Dev) (t st : Nat) : Dev := d.wr R.TILE_STAT_STATE st t

/-- A program starts (R301). -/
def Dev.startProgram (d : Dev) (t : Nat) (l : Launch) : Dev :=
  let x := d.tile t
  let g := (setAt (List.replicate 32 0) 1 (BitVec.ofNat 64 l.arg)).set 2 (BitVec.ofNat 64 l.id)
  let y : Tile := { g := g, pc := l.entry, rx0 := x.rx0, rx1 := x.rx1, rngKey := x.rngKey
                    rngCtr := x.rngCtr, prog := some l, lq := x.lq }
  ((d.setTile t y).setTileState t tsRunning).count 0x0A t 2 1

/-- Whether starts of a burgee wait for the next slot (R462). -/
def Dev.slotted (d : Dev) (b : Nat) : Bool := d.time.det = 2 && d.time.lockstep.contains b

/-- An injection that becomes ready now and waits for the next slot. -/
def Dev.slotWait (d : Dev) (src : Nat) (a : SlotAct) : Dev :=
  if d.time.slotReady.any fun i => i.act = a then d
  else { d with time := { d.time with
    slotReady := d.time.slotReady ++ [{ src := src, slot := d.now / 2000, act := a }] } }

/-- The next queued launch of an idle tile started, or put to wait for its slot. -/
def Dev.startNext (d : Dev) (t : Nat) : Dev :=
  let x := d.tile t
  match x.lq with
  | [] => d
  | l :: rest =>
    if d.tileState t ≠ tsIdle then d
    else if d.slotted l.burgee then d.slotWait t (.launch t)
    else (d.setTile t { x with lq := rest }).startProgram t l

/-- A launch (R300).  Answers the status of a refusal, or 0. -/
def Dev.launch (d : Dev) (t : Nat) (l : Launch) : Dev × Nat :=
  let x := d.tile t
  let st := d.tileState t
  let refuse (s : Nat) : Dev × Nat := ((d.set R.TILE_ERR_LAUNCH_REFUSED t).count 0x0A t 2 2, s)
  if st = tsOff ∨ st = tsResetting then refuse St.tileOff
  else if l.entry % 8 ≠ 0 ∨ sramBytes ≤ l.entry then refuse St.descInvalid
  else if l.slot.isNone ∧ (d.modelOf t).isSome then refuse St.tileBusy
  else if 4 ≤ x.lq.length then refuse St.tileBusy
  else ((d.setTile t { x with lq := x.lq ++ [l] }).startNext t, 0)

/-- A launch that ends, seen by its LAUNCH action: 0 success, else the HALT status or exception cause, or
TILE_OFF for a reset. -/
def Dev.launchEnds (d : Dev) (l : Launch) (code : Nat) : Dev :=
  match l.trig with
  | none => d
  | some g => d.opOutcome g code

/-- The running program of a tile ends with a status (R302): the tile becomes IDLE and takes its next
launch.  A containment reset that waits for this end is due (R369). -/
def Dev.endProgram (d : Dev) (t code : Nat) : Dev :=
  let x := d.tile t
  match x.prog with
  | none => d
  | some l =>
    let d := d.setTile t { x with prog := none, ending := none, kept := none, doneErrs := [] }
    let d := (d.setTileState t tsIdle).launchEnds l code
    let e := d.eccOf t
    let d := match e.resetAt with
      | some _ => d.setEcc t { e with resetAt := some d.now }
      | none => d
    d.startNext t

/-! ### The store buffer (R299, R324, R325) -/

/-- Whether two entries cover a byte in common. -/
def StoreEnt.overlaps (a b : StoreEnt) : Bool :=
  a.tile = b.tile && decide (a.addr < b.addr + b.bytes.length)
    && decide (b.addr < a.addr + a.bytes.length)

/-- Whether tile `t` may reach the SRAM of tile `u` of its die (R299). -/
def Dev.remoteOk (d : Dev) (t u : Nat) : Bool :=
  let st := d.tileState u
  let b := (d.tile t).burgee
  st != tsOff && st != tsResetting
    && (b = 0 || d.rd R.SCH_TENANT_ISO (quadOfTile t) = 0
        || ((d.tile u).prog.isSome && (d.tile u).burgee = b))

/-- A store that its bank performs; a remote store that is not permitted is discarded. -/
def Dev.performStore (d : Dev) (t : Nat) (s : StoreEnt) : Dev :=
  if s.remote ∧ d.remoteOk t s.tile = false then
    (d.set R.TILE_ERR_REMOTE_DROP t).count 0x0A t 2 3
  else d.sramWrite s.tile s.addr s.bytes

/-- The store buffer drained in program order. -/
def Dev.drainStores (d : Dev) (t : Nat) : Dev :=
  let x := d.tile t
  let d := d.each x.buf fun d s => d.performStore t s
  d.modTile t fun x => { x with buf := [] }

/-- An unhandled exception's program ends once its queues and its store buffer are empty (R332). -/
def Dev.tryEnd (d : Dev) (t : Nat) : Dev :=
  let x := d.tile t
  match x.ending with
  | none => d
  | some c =>
    if x.queues.all (· = []) ∧ x.buf = [] then
      let slot := x.prog.bind Launch.slot
      let d := d.endProgram t c
      match slot with
      | some s => d.failModel s
      | none => d
    else d

/-! ### Exceptions (R330 to R332) -/

def ecIllegal : Nat := 0x01
def ecReserved : Nat := 0x02
def ecMisaligned : Nat := 0x03
def ecAddress : Nat := 0x04
def ecDesc : Nat := 0x05
def ecFormat : Nat := 0x06
def ecSram : Nat := 0x07
def ecAsync : Nat := 0x08
def ecTrap : Nat := 0x09
def ecTrig : Nat := 0x0A
def ecCsr : Nat := 0x0C

/-- An exception at the instruction at `pc`: the older stores drain, the record is written and PC becomes
EVEC; one that is unhandled stops the program. -/
def Dev.raiseExc (d : Dev) (t cause eaddr : Nat) (einfo : Nat := 0) : Dev :=
  let d := (d.drainStores t).count 0x0A t 4 cause
  let x := d.tile t
  if x.active ∨ x.evec = 0 then
    let d := (d.wr R.TILE_EXC0_CAUSE cause t).wr R.TILE_EXC0_EINFO einfo t
    let d := (d.set R.TILE_EXC0_VALID t).wr R.TILE_EXC1_EPC x.pc t
    let d := (d.wr R.TILE_EXC2_EADDR eaddr t).wr R.TILE_EXC3_EADDR (eaddr / 2 ^ 32) t
    let d := d.set R.TILE_ERR_UNHANDLED t
    let d := if x.active then d.set R.TILE_ERR_NESTED t else d
    (d.setTile t { x with ending := some cause }).tryEnd t
  else
    d.setTile t { x with epc := x.pc, ecause := cause, einfo := einfo, eaddr := eaddr % 2 ^ 64
                         active := true, pc := x.evec }

/-! ### Receive rings (R323) -/

/-- An entry written at the tail of a ring of a tile: nothing when the ring is full, has no slots, or has its
slot beyond the SRAM, and the producer waits. -/
def Dev.rxPut (d : Dev) (t : Nat) (serve : Bool) (bytes : List Nat) : Option Dev :=
  let x := d.tile t
  let r := if serve then x.rx1 else x.rx0
  if r.n = 0 ∨ r.n ≤ r.used ∨ sramBytes < r.base + (r.tail + 1) * r.slot then none
  else
    let d := d.sramWrite t (r.base + r.tail * r.slot) (bytes.take r.slot)
    let r := { r with tail := (r.tail + 1) % r.n, used := r.used + 1 }
    some (d.modTile t fun x => if serve then { x with rx1 := r } else { x with rx0 := r })

end Sys2Proof.Machine
end

