-- ==== Sys2Proof/Machine/Region.lean ====
section
/-! DEFINITION. Regions (spec/10, R272 to R274) and the memories they name: tile SRAM and HBM with its
areas and its poison (spec/13, R374, R376). -/

namespace Sys2Proof.Machine

def rRegionFault : Nat := 0x60
def rTrigInvalid : Nat := 0x61
def rTrigOpFailed : Nat := 0x62
def rDispatchInvalid : Nat := 0x63
def rGateTimeout : Nat := 0x64
def rMemUnc : Nat := 0x70
def rStoreUnc : Nat := 0x80
def rStoreRefused : Nat := 0x81
def rCmdLost : Nat := 0x90

/-! ### HBM (R374, R376) -/

def mib : Nat := 2 ^ 20

def Dev.hbmOf (d : Dev) (q : Nat) : Mem := d.hbm.get q []
def Dev.setHbm (d : Dev) (q : Nat) (m : Mem) : Dev := { d with hbm := d.hbm.put q m }
def Dev.stack (d : Dev) (q : Nat) : HbmSt := d.hstacks.get q {}
def Dev.setStack (d : Dev) (q : Nat) (s : HbmSt) : Dev := { d with hstacks := d.hstacks.put q s }

/-- Bytes of the five areas of a stack but the general one, in MiB, in the order of R374. -/
def Dev.areasMib (d : Dev) (q : Nat) : List Nat :=
  [256 * d.rd R.THD_MCACHE_SIZE, 64 * d.rd R.RED_SCRATCH_SIZE q, 64 * d.rd R.HBM_AREA_WIN q,
   64 * d.rd R.HBM_AREA_BUNT q]

/-- Where the general area begins, and where it ends (R374: the five areas have 49,150 MiB). -/
def Dev.generalLo (d : Dev) (q : Nat) : Nat := (d.areasMib q).foldl (· + ·) 0 * mib
def generalHi : Nat := 49150 * mib

/-- The 64 B blocks that a range touches. -/
def blocksOf (a n : Nat) : List Nat :=
  if n = 0 then [] else (List.range ((a + n - 1) / 64 - a / 64 + 1)).map fun i => (a / 64 + i) * 64

/-- Bytes written to a stack (R376): a block covered whole loses its poison. -/
def Dev.hbmWrite (d : Dev) (q a : Nat) (bytes : List Nat) : Dev :=
  let s := d.stack q
  let n := bytes.length
  let d := d.setHbm q ((d.hbmOf q).writeN a bytes)
  let hit := (blocksOf a n).filter fun b => decide (a ≤ b) && decide (b + 64 ≤ a + n)
  if s.poison.any hit.contains then
    d.setStack q { s with poison := s.poison.filter fun b => !(hit.contains b) }
  else d

/-! ### Memories by target code (R272) -/

/-- A target code of R272: tile SRAM of tile 8c + t, or 0x104 + q the HBM of stack q. -/
def memTarget (t : Nat) : Bool := t < 64 || (0x104 ≤ t && t ≤ 0x107)

def Dev.memRead (d : Dev) (tgt a n : Nat) : List Nat :=
  if tgt < 64 then (d.sramOf tgt).readN a n else (d.hbmOf (tgt - 0x104)).readN a n

def Dev.memWrite (d : Dev) (tgt a : Nat) (bytes : List Nat) : Dev :=
  if tgt < 64 then d.sramWrite tgt a bytes else d.hbmWrite (tgt - 0x104) a bytes

/-- Whether a range holds poison (R368, R376). -/
def Dev.memBad (d : Dev) (tgt a n : Nat) : Bool :=
  if tgt < 64 then (d.poisonIn tgt a n).isSome
  else (blocksOf a n).any (d.stack (tgt - 0x104)).poison.contains

/-- The power domain of a memory. -/
def pdOfMem (tgt : Nat) : Nat := if tgt < 64 then pdTile tgt else pdHbm (tgt - 0x104)

/-- The quadrant and attach point through which a memory is reached from the fabric: the compute-die attach
of a tile, the hub attach of a stack's quadrant. -/
def memAttach (tgt : Nat) : Nat := if tgt < 64 then attachOf tgt else attach (tgt - 0x104) 3

/-! ### Region checks (R272, R273) -/

def Dev.region (d : Dev) (h : Nat) : Region := d.red.regions.get (h / 16384 % 4, h % 4096) {}

/-- The checks of R273 in its order: handle and V, permission, burgee, bounds, among them those of a tile's 12 MiB
(DESIGN CHOICE, log entry 68: no rule says what a byte beyond the target is).  `any0` lets burgee 0 pass
the burgee check, as R317 does for transfers. -/
def Dev.regionCheck (d : Dev) (h off len burgee : Nat) (wr : Bool) (any0 : Bool := false) :
    Except Nat Region :=
  let r := d.region h
  if r.v = false ∨ h / 65536 = 0 ∨ r.check ≠ h / 65536 ∨ h / 4096 % 4 ≠ 0 then .error rRegionFault
  else if (if wr then r.wr else r.rd) = false then .error rRegionFault
  else if r.burgee ≠ burgee ∧ !(any0 && burgee = 0) then .error rBurgeeViolation
  else if r.len < off + len ∨ (r.target < 64 ∧ 0xC00000 < r.base + off + len) then .error rRegionFault
  else if d.pdOn (pdOfMem r.target) = false then .error rDomainOff
  else .ok r

/-- Whether a burgee may act on a context: the infrastructure may, and the owner (R422). -/
def Dev.ctxReach (d : Dev) (i b : Nat) : Bool :=
  b = 0 || (d.ctx i).state = csFree || (d.ctx i).burgee = b

/-- A region entry from its words (R272). -/
def regionOf (w : List Nat) : Region :=
  let w0 := nth w 0
  { check := bits w0 31 16, v := bitOf w0 15, wr := bitOf w0 14, rd := bitOf w0 13
    target := bits w0 12 4, burgee := bits (nth w 1) 31 23, base := nth w 2 * 2 ^ 32 + nth w 3
    len := nth w 4 * 2 ^ 32 + nth w 5 }

/-- The words of a region entry. -/
def Region.words (r : Region) : List Nat :=
  [r.check * 65536 + b2n r.v * 32768 + b2n r.wr * 16384 + b2n r.rd * 8192 + r.target * 16,
   r.burgee * 2 ^ 23, r.base / 2 ^ 32, r.base % 2 ^ 32, r.len / 2 ^ 32, r.len % 2 ^ 32]

end Sys2Proof.Machine
end

