-- ==== Sys2Proof/Machine/Buf.lean ====
section
/-! DEFINITION. Buffer references (spec/15, R417). -/

namespace Sys2Proof.Machine

/-- A buffer reference: KIND 0 none, 1 host memory, 2 a region. -/
structure BufRef where
  kind : Nat
  len : Nat
  region : Nat
  addr : Nat
  deriving DecidableEq, Repr

/-- The buffer reference at word `n` of a packet. -/
def JEntry.bref (j : JEntry) (n : Nat) : BufRef :=
  { kind := bits (j.w n) 31 30, len := bits (j.w n) 29 0, region := j.w (n + 1)
    addr := j.w (n + 2) * 2 ^ 32 + j.w (n + 3) }

/-- Whether a buffer's KIND is legal on a channel; 3 is reserved. -/
def Dev.brefOk (d : Dev) (ch : Nat) (b : BufRef) : Bool :=
  b.kind = 0 || (b.kind = 1 && d.chIntf ch = 0) || b.kind = 2

/-- The bytes of an input buffer: a status of refusal, or none while the host has still to give them. -/
def Dev.bufIn (d : Dev) (j : JEntry) (b : BufRef) : Except Nat (Option (List Nat)) :=
  if d.brefOk j.chan b = false then .error St.cmdParam
  else if b.kind = 2 then
    match d.regionCheck b.region b.addr b.len j.burgee false with
    | .error _ => .error St.regionInvalid
    | .ok r =>
      if d.memBad r.target (r.base + b.addr) b.len then .error St.regionInvalid
      else .ok (some (d.memRead r.target (r.base + b.addr) b.len))
  else if b.kind = 1 then .ok (j.buf.map fun x => x.take b.len)
  else .ok (some [])

/-- Bytes given to an output buffer, at most LEN of them, and the completion of the command once they are
there. -/
def Dev.bufOut (d : Dev) (j : JEntry) (b : BufRef) (bytes : List Nat) (status : Nat)
    (res : List Nat := []) (detail : Nat := 0) : Dev :=
  let bytes := bytes.take b.len
  if d.brefOk j.chan b = false then d.complete j.aseq St.cmdParam
  else if b.kind = 2 then
    match d.regionCheck b.region b.addr bytes.length j.burgee true with
    | .error _ => d.complete j.aseq St.regionInvalid
    | .ok r => (d.memWrite r.target (r.base + b.addr) bytes).complete j.aseq status res detail
  else if b.kind = 1 then
    (d.emit (.host b.addr bytes)).modJob j.aseq fun x =>
      { x with host := true, status := status, res := res, detail := detail }
  else d.complete j.aseq status res detail

end Sys2Proof.Machine
end

