-- ==== Sys2Proof/Machine/StoreBase.lean ====
section
/-! DEFINITION. The retention store (spec/14): objects and their checks, transfers, assembly and issue of
program units, blocks, and the ends of transfers. -/

namespace Sys2Proof.Machine

/-! ### State (R383, R387, R401, R405) -/

def nsAbsent : Nat := 0
def nsUnformatted : Nat := 1
def nsRebuilding : Nat := 2
def nsReady : Nat := 3
def nsReadOnly : Nat := 4
def nsQuiesced : Nat := 5
def nsPowerFail : Nat := 6

def Dev.nvs (d : Dev) : Nat := d.rd R.NVS_STAT_STATE
def Dev.modStore (d : Dev) (f : Store → Store) : Dev := { d with store := f d.store }

/-- The status with which a store command is refused for the store's state, or OK (R383).  A store stopped
by a power failure answers as a store without targets does (R407; assumption log, row 30). -/
def Dev.storeGate (d : Dev) : Nat :=
  if d.nvs = nsAbsent ∨ d.nvs = nsPowerFail then St.storeNoTargets
  else if d.nvs = nsUnformatted then St.storeUnformatted
  else St.ok

/-- Targets in use, lowest first. -/
def Dev.targetsUsed (d : Dev) : List Nat :=
  sortBy id ((d.store.targets.filter fun x => x.2.used).map Prod.fst)

/-- Bytes of a block, and its units (a 4,608 B codeword each). -/
def NTarget.blockRaw (t : NTarget) : Nat := if t.blocks = 0 then 0 else t.raw / t.blocks
def NTarget.blockUnits (t : NTarget) : Nat := t.blockRaw / 4608

def Dev.target (d : Dev) (t : Nat) : NTarget := d.store.targets.get t {}
def Dev.nblock (d : Dev) (t b : Nat) : NBlock := d.store.blocks.get (t, b) {}
def Dev.setNblock (d : Dev) (t b : Nat) (x : NBlock) : Dev :=
  d.modStore fun s => { s with blocks := s.blocks.put (t, b) x }

def bFree : Nat := 0
def bData : Nat := 1
def bErasing : Nat := 2
def bRetired : Nat := 3
def bRefresh : Nat := 4
def bRelocate : Nat := 5

/-- Retired blocks of a target. -/
def Dev.retiredOf (d : Dev) (t : Nat) : Nat :=
  (d.store.blocks.filter fun x => x.1.1 = t && x.2.state = bRetired).length

/-- Good raw bytes, and the usable capacity (R387). -/
def Dev.goodRaw (d : Dev) : Nat :=
  d.targetsUsed.foldl (fun n t =>
    n + ((d.target t).blocks - d.retiredOf t) * (d.target t).blockRaw) 0
def Dev.userBytes (d : Dev) : Nat :=
  d.goodRaw * 4096 * (100 - d.store.opPct) * 995 / (4608 * 100 * 1000)

/-- Units of an object, and the bytes it reserves (R390). -/
def unitsOfSize (size : Nat) : Nat := ceilDiv size 4096
def Dev.reserved (d : Dev) : Nat :=
  d.store.objs.foldl (fun n x => n + if x.2.state = 0 then 0 else 4096 * unitsOfSize x.2.size) 0
def Dev.storeFree (d : Dev) : Nat := d.userBytes - d.reserved

/-- Good blocks, and those that hold no data. -/
def Dev.goodBlocks (d : Dev) : Nat :=
  d.targetsUsed.foldl (fun n t => n + (d.target t).blocks - d.retiredOf t) 0
def Dev.freeBlocks (d : Dev) : Nat :=
  d.goodBlocks - (d.store.blocks.filter fun x =>
    (d.target x.1.1).used && x.2.state != bFree && x.2.state != bRetired).length

/-- Units reserved by open objects and not yet programmed, in blocks. -/
def Dev.openNeed (d : Dev) : Nat :=
  let n := d.store.objs.foldl (fun n x =>
    n + if x.2.state = 1 then unitsOfSize x.2.size - x.2.programmed.length else 0) 0
  match d.targetsUsed with
  | [] => 0
  | t :: _ => ceilDiv n (d.target t).blockUnits

/-- NVS.STAT, NVS.CAP, NVS.WEAR and READ_ONLY brought up to date (R387, R399, R401). -/
def Dev.syncStore (d : Dev) : Dev :=
  let good := d.goodBlocks
  let spare := d.freeBlocks - d.openNeed
  let ro := decide (spare * 100 < good)
  let d :=
    if d.nvs = nsReady ∧ ro then (d.wr R.NVS_STAT_STATE nsReadOnly).set R.NVS_ERR_RO_ENTERED
    else if d.nvs = nsReadOnly ∧ !ro then d.wr R.NVS_STAT_STATE nsReady else d
  let d := d.wr R.NVS_STAT_TARGETS d.targetsUsed.length
  let d := d.wrSat R.NVS_STAT_TORN (d.store.objs.filter fun x => x.2.state = 3).length
  let d := d.wrSat R.NVS_CAP_USER_GB (d.userBytes / 1000000000)
  let d := d.wrSat R.NVS_CAP_FREE_GB (d.storeFree / 1000000000)
  let d := d.wr R.NVS_WEAR_RESERVE_PCT (if good = 0 then 0 else spare * 100 / good)
  let rated := match d.targetsUsed with
    | [] => 0
    | t :: _ => (d.target t).rated
  let erases := d.store.blocks.map fun x => x.2.erases
  let tot := erases.foldl (· + ·) 0
  let avg := if good * rated = 0 then 0 else tot * 100 / (good * rated)
  let mx := if rated = 0 then 0 else erases.foldl max 0 * 100 / rated
  let d := (d.wrSat R.NVS_WEAR_AVG_PCT avg).wrSat R.NVS_WEAR_MAX_PCT mx
  let wa := if d.store.hostUnits = 0 then 16 else d.store.unitsIssued * 16 / d.store.hostUnits
  let d := d.wrSat R.NVS_WEAR_WA_X16 wa
  if 90 ≤ avg then d.set R.NVS_ERR_WEAR_WARN else d

/-! ### Objects (R388, R389, R391) -/

/-- The object of a handle; none when its GEN does not match or it is FREE. -/
def Dev.obj? (d : Dev) (h : Nat) : Option Obj :=
  let o := d.store.objs.get (h % 65536) {}
  if o.state = 0 ∨ o.gen ≠ h / 65536 ∨ o.gen = 0 then none else some o

def Dev.setObj (d : Dev) (h : Nat) (o : Obj) : Dev :=
  d.modStore fun s => { s with objs := s.objs.put (h % 65536) o }

/-- Bytes that two spans have in common. -/
def spanMeet (a an b bn : Nat) : Nat := min (a + an) (b + bn) - max a b

/-- Bytes of a span that a list of disjoint spans covers. -/
def covered (l : List (Nat × Nat)) (a n : Nat) : Nat :=
  l.foldl (fun k x => k + spanMeet x.1 x.2 a n) 0

/-- The spans of an object that have been written or that a writer has claimed (R408: taken in order of
arrival). -/
def Dev.claims (d : Dev) (h : Nat) (o : Obj) : List (Nat × Nat) :=
  o.ranges ++ (d.store.jobs.filter fun j => j.obj = h && j.write && j.failed.isNone).map fun j =>
    (j.off, j.len)

/-- The status of a write to an object (R389, R391), of whoever asks. -/
def Dev.writeStatus (d : Dev) (h off len : Nat) : Nat :=
  match d.obj? h with
  | none => St.objUnknown
  | some o =>
    if o.state ≠ 1 ∨ o.sealing.isSome then St.objState
    else if o.size < off + len then St.objRange
    else if covered (d.claims h o) off len ≠ 0 then St.objOverlap
    else St.ok

/-- Whether a tenant or a burgee reaches an object (R391): burgee 0 and the owner over PCIe reach all. -/
def objReach (o : Obj) (burgee : Nat) (owner : Bool) : Bool := owner || burgee = 0 || o.burgee = burgee

/-! ### Transfers -/

def Dev.addJob (d : Dev) (j : StoreJob) : Dev :=
  d.modStore fun s => { s with jobs := s.jobs ++ [{ j with id := s.nextJob, at_ := d.now }]
                               nextJob := s.nextJob + 1 }

def Dev.sjob? (d : Dev) (id : Nat) : Option StoreJob := d.store.jobs.find? fun j => j.id = id

def Dev.setJob (d : Dev) (j : StoreJob) : Dev :=
  d.modStore fun s => { s with jobs := s.jobs.map fun x => if x.id = j.id then j else x }

def Dev.delJob (d : Dev) (id : Nat) : Dev :=
  d.modStore fun s => { s with jobs := s.jobs.filter fun x => x.id ≠ id }

/-- The units that a span touches. -/
def unitsIn (off len : Nat) : List Nat :=
  if len = 0 then [] else (List.range ((off + len - 1) / 4096 - off / 4096 + 1)).map fun i => off / 4096 + i

/-- A record of data that the store refuses (R394, R395): to the history queue. -/
def Dev.storeRefused (d : Dev) (s : Stored) : Dev :=
  (d.record 0 { d.pktRec s.pkt s.vc s.ing rStoreRefused 0x0D 0 with histOnly := true, toBlock := none
                                                                    item := 2 }).set R.NVS_ERR_REFUSED_SEEN

/-- A transfer that ends well: its command may end, its operation succeeds, or its packet is released. -/
def Dev.jobOver (d : Dev) (j : StoreJob) : Dev :=
  match j.src with
  | .cmd a => (d.delJob j.id).modJob a fun x => { x with waits := 0 }
  | .act t => (d.delJob j.id).opOutcome t 0
  | .result pid h => ((d.delJob j.id).release pid h).retryOut
  | .snap _ _ => d.setJob { j with ended := true }
  | .restore _ _ => d.setJob { j with ended := true }
  | .seal _ => d.setJob { j with ended := true }
  | .fetch _ => d.setJob { j with ended := true }

/-- A transfer that fails with a status. -/
def Dev.jobFail (d : Dev) (j : StoreJob) (status : Nat) : Dev :=
  match j.src with
  | .cmd a => (d.delJob j.id).modJob a fun x => { x with waits := 0, status := status }
  | .act t => (d.delJob j.id).opOutcome t status
  | .result pid h =>
    match d.pkt? pid with
    | none => d.delJob j.id
    | some s => (((d.delJob j.id).storeRefused s).release pid h).retryOut
  | .snap _ _ => d.setJob { j with ended := true, failed := some status }
  | .restore _ _ => d.setJob { j with ended := true, failed := some status }
  | .seal _ => d.setJob { j with ended := true, failed := some status }
  | .fetch _ => d.setJob { j with ended := true, failed := some status }

/-! ### Program units (R392, R399, R401) -/

/-- Whether a unit of an object has been issued to a target. -/
def Dev.unitIssued (d : Dev) (h u : Nat) : Bool :=
  (match d.obj? h with
    | some o => o.programmed.contains u
    | none => false) || d.store.prog.any fun p => p.units.contains ⟨h, u⟩

/-- Writers whose every byte has been moved and issued have their data accepted (R392). -/
def Dev.accept (d : Dev) : Dev :=
  d.each (d.store.jobs.filter fun j => j.write && !j.ended && j.failed.isNone && j.moved = j.len
      && (unitsIn j.off j.len).all fun u => d.unitIssued j.obj u) fun d j =>
    (d.count 0x0D 0 0 0 j.len).jobOver j

/-- The block of a target that takes the next program unit: the one being filled, or else the free block of
least erase count. -/
def Dev.nextBlock (d : Dev) (t n : Nat) : Option Nat :=
  let x := d.target t
  let all := List.range x.blocks
  match all.find? fun b => (d.nblock t b).state = bData && (d.nblock t b).units.length + n ≤ x.blockUnits with
  | some b => some b
  | none =>
    (all.filter fun b => (d.nblock t b).state = bFree).foldl (fun o b =>
      match o with
      | none => some b
      | some a => if (d.nblock t b).erases < (d.nblock t a).erases then some b else some a) none

/-- Whether programs may be issued. -/
def Dev.mayProgram (d : Dev) : Bool := d.nvs = nsReady || d.nvs = nsReadOnly

/-- A program unit issued to the next target in turn (R392): nothing when no block is free. -/
def Dev.programOn (d : Dev) (units : List UnitRef) (metas : List Nat) : Option Dev :=
  let ts := d.targetsUsed
  if ts = [] then none
  else
    let t := nth ts (d.store.wseq % ts.length)
    match d.nextBlock t (units.length + metas.length) with
    | none => none
    | some b =>
      let x := d.nblock t b
      let d := d.setNblock t b { x with state := bData
                                        units := x.units ++ units.map fun u => (u.obj, u.unit) }
      let p : ProgUnit := { id := d.store.nextProg, target := t, block := b, units := units, metas := metas }
      let d := d.modStore fun s => { s with prog := s.prog ++ [p], nextProg := s.nextProg + 1
                                            wseq := (s.wseq + 1) % 2 ^ 32, dirty := true
                                            unitsIssued := s.unitsIssued + 1 }
      let d := d.count 0x0D 0 0 2
      some (if units.length + metas.length < 48 then d.count 0x0D 0 0 3 else d)

/-- Program units issued while 48 units are assembled, or one with padding when `pad` is set; `fuel` bounds
them. -/
def Dev.issue : Nat → Dev → Bool → Dev
  | 0, d, _ => d
  | f + 1, d, pad =>
    let s := d.store
    let n := s.assembly.length + s.metas.length
    if d.mayProgram = false ∨ n = 0 ∨ (n < 48 ∧ pad = false) then d
    else
      let ms := s.metas.take 48
      let us := s.assembly.take (48 - ms.length)
      match d.programOn us ms with
      | none => d
      | some d =>
        let d := d.modStore fun s => { s with metas := s.metas.drop ms.length
                                              assembly := s.assembly.drop us.length
                                              hostUnits := s.hostUnits + 1 }
        let left := d.store.assembly ≠ [] ∨ d.store.metas ≠ []
        let d := d.modStore fun s => { s with fillAt := if left then s.fillAt else none }
        Dev.issue f d.accept pad

/-- FILL_TO in ns; 0 is stored as 1. -/
def Dev.fillNs (d : Dev) : Nat := 10000 * max 1 (d.rd R.NVS_CFG_FILL_TO)

/-- Units and metadata records assembled; a full program unit is issued at once (R392). -/
def Dev.assemble (d : Dev) (us : List UnitRef) (ms : List Nat := []) : Dev :=
  if us = [] ∧ ms = [] then d
  else
    let d := d.modStore fun s => { s with
      assembly := s.assembly ++ us, metas := s.metas ++ ms
      fillAt := match s.fillAt with
        | some t => some t
        | none => some (d.now + d.fillNs) }
    Dev.issue (us.length + 1) d false

/-- A metadata record of a command, which completes only once it has been programmed (R390). -/
def Dev.metaRecord (d : Dev) (aseq : Nat) : Dev :=
  (d.modJob aseq fun x => { x with waits := 1 }).assemble [] [aseq]

/-- Bytes of an object written; the units that are whole now are assembled. -/
def Dev.objWrite (d : Dev) (h off : Nat) (bytes : List Nat) : Dev :=
  match d.obj? h with
  | none => d
  | some o =>
    let o := { o with data := o.data.writeN off bytes, ranges := o.ranges ++ [(off, bytes.length)] }
    let whole := (unitsIn off bytes.length).filter fun u => covered o.ranges (4096 * u) 4096 = 4096
    (d.setObj h o).assemble (whole.map fun u => ⟨h, u⟩)

/-! ### Blocks given back (R391, R400, R401) -/

/-- Blocks left without a valid unit begin to be erased. -/
def Dev.eraseEmpty (d : Dev) : Dev :=
  let busy (t b : Nat) : Bool := d.store.prog.any fun p => p.target = t && p.block = b
  d.modStore fun s => { s with
    blocks := s.blocks.map fun x =>
      if x.2.state = bData && x.2.units = [] && !(busy x.1.1 x.1.2) then
        (x.1, { x.2 with state := bErasing }) else x }

/-- The units of an object taken out of their blocks. -/
def Dev.dropUnits (d : Dev) (h : Nat) : Dev :=
  (d.modStore fun s => { s with
    blocks := s.blocks.map fun x => (x.1, { x.2 with units := x.2.units.filter fun u => u.1 ≠ h }) }).eraseEmpty

/-- The block that holds a programmed unit. -/
def Dev.blockOf (d : Dev) (h u : Nat) : Option (Nat × Nat) :=
  (d.store.blocks.find? fun x => x.2.units.contains (h, u) && x.2.state != bRetired).map Prod.fst

/-- An object marked DAMAGED (R386, R401). -/
def Dev.damage (d : Dev) (h : Nat) : Dev :=
  match d.obj? h with
  | none => d
  | some o => d.setObj h { o with damaged := true }

/-- The words 0 to 18 of an object's table entry (R388). -/
def objWords (o : Obj) : List Nat :=
  let n := unitsOfSize o.size
  let written := o.programmed.foldl (fun k u => k + min 4096 (o.size - 4096 * u)) 0
  let hole := match (List.range n).find? fun u => !(o.programmed.contains u) with
    | some u => u
    | none => 0xFFFFFFFF
  [o.gen * 65536 + o.state * 8192 + o.burgee * 16 + o.kind, o.size / 2 ^ 32, o.size % 2 ^ 32,
   written / 2 ^ 32, written % 2 ^ 32, hole, b2n o.damaged + 2 * b2n o.digestV]
    ++ (o.digest ++ List.replicate 12 0).take 12

/-- The store ends QUIESCED with any store command (R405). -/
def Dev.wakeStore (d : Dev) : Dev :=
  if d.nvs = nsQuiesced then
    ((d.wr R.NVS_STAT_STATE nsReady).modStore fun s => { s with clean := false }).syncStore
  else d

/-! ### Starting transfers (R389, R394, R395) -/

/-- A write of `len` bytes from memory into an object claimed (R389, R395).  Answers the status of a
refusal. -/
def Dev.startWrite (d : Dev) (src : StoreSrc) (h off len : Nat) (tgt : Option Nat) (addr : Nat)
    (data : Mem := []) : Dev × Nat :=
  let d := d.wakeStore
  let g := d.storeGate
  if g ≠ St.ok then (d, g)
  else if d.store.quiesceJob.isSome then (d, St.storeBusy)
  else if d.nvs = nsReadOnly then (d, St.storeReadOnly)
  else
    let s := d.writeStatus h off len
    if s ≠ St.ok then (d, s)
    else ((d.addJob { id := 0, src := src, obj := h, off := off, len := len, write := true
                      target := tgt, addr := addr, data := data }).accept, St.ok)

/-- A read of units of an object begun (R391). -/
def Dev.startRead (d : Dev) (src : StoreSrc) (h off len : Nat) (tgt : Option Nat) (addr : Nat) : Dev :=
  d.addJob { id := 0, src := src, obj := h, off := off, len := len, write := false
             left := unitsIn off len, target := tgt, addr := addr }

/-! ### The store stopped (R402, R407) -/

/-- The store stopped at once (R402, R407): transfers and what is assembled are abandoned, and the items it
held and the commands in progress end. -/
def Dev.stopStore (d : Dev) : Dev :=
  let d := d.each d.store.jobs fun d j => d.jobFail j St.storeNoTargets
  let ms := d.store.metas
  let d := d.modStore fun s => { s with assembly := [], metas := [], fillAt := none }
  let d := d.each ms fun d a => d.complete a St.storeNoTargets
  let d := match d.store.quiesceJob with
    | some a => (d.modStore fun s => { s with quiesceJob := none }).complete a St.storeNoTargets
    | none => d
  match d.store.formatJob with
  | some a => (d.modStore fun s => { s with formatJob := none, formatted := false }).complete a
      St.storeNoTargets
  | none => d

/-- The program units in progress lost, with the metadata records in them (R402, R404, R407). -/
def Dev.dropPrograms (d : Dev) : Dev :=
  let ms := d.store.prog.flatMap ProgUnit.metas
  let d := d.modStore fun s => { s with prog := [] }
  d.each ms fun d a => d.complete a St.storeNoTargets

end Sys2Proof.Machine
end

