-- ==== Sys2Proof/Machine/Store.lean ====
section
/-! DEFINITION. The rows of the retention store (spec/14). -/

namespace Sys2Proof.Machine

/-! ### Discovery, rebuild and checkpoints (R381 to R383, R406) -/

/-- Whether a target is accepted beside the first one (R381: size and geometry). -/
def acceptTarget (x : TargetInfo) (first : Option TargetInfo) : Bool :=
  x.ok && decide (x.raw ≤ 512000000000) && (match first with
    | none => true
    | some f => x.raw = f.raw && x.blocks = f.blocks)

/-- The targets that discovery accepts, in order of channel and CE. -/
def acceptTargets (ts : List TargetInfo) : List TargetInfo :=
  (ts.foldl (fun (a : List TargetInfo) x => if acceptTarget x a.head? then a ++ [x] else a) [])

/-- The store's state after discovery (R382, R383, R406). -/
def Dev.storeDiscovered (d : Dev) (ts : List TargetInfo) : Dev :=
  let ok := acceptTargets ts
  let d := d.each (List.range 8) fun d c =>
    let here := ts.filter fun x => x.t / 8 = c
    let d := d.wr R.NVS_TGT_PRESENT (maskOf (here.map fun x => x.t % 8)) 0 c
    d.wr R.NVS_TGT_UNSUPPORTED
      (maskOf ((here.filter fun x => !(ok.contains x)).map fun x => x.t % 8)) 0 c
  let use := ok.filter fun x => !(d.rdBit R.NVS_TGT_FAILED (x.t % 8) 0 (x.t / 8))
  let d := d.modStore fun s => { s with
    targets := use.map fun x => (x.t, { used := true, raw := x.raw, blocks := x.blocks, rated := x.rated }) }
  let st := if use = [] ∨ d.mgmt.boot.nvsBad then nsAbsent else if d.store.formatted = false then nsUnformatted
    else if d.store.clean then nsReady else nsRebuilding
  let d := d.wr R.NVS_STAT_STATE st
  let d := if st = nsRebuilding then
      (d.set R.NVS_STAT_UNCLEAN).modStore fun s => { s with rebuildBy := some (d.now + 2000000000) }
    else d.clr R.NVS_STAT_UNCLEAN
  (d.modStore fun s => { s with clean := if st = nsReady then false else s.clean }).syncStore

/-- An object as an abrupt loss leaves it (R404): an open one is TORN with the units that were programmed. -/
def tornObj (o : Obj) : Obj :=
  if o.state = 1 then
    { o with state := 3, sealing := none
             data := o.data.filter fun c => o.programmed.contains (c.1 / 4096)
             ranges := o.programmed.map fun u => (4096 * u, 4096) }
  else o

/-- REBUILD_COMPLETE: the map is rebuilt and every object that was open is TORN.  The unclean start is one
fault event, recorded once the device is ready (R406). -/
def rebuildComplete (d : Dev) : Dev :=
  if d.nvs ≠ nsRebuilding then d
  else
    let d := d.modStore fun s => { s with
      objs := s.objs.map fun x => (x.1, tornObj x.2), rebuildBy := none, clean := false
      blocks := s.blocks.map fun x =>
        (x.1, if x.2.state = bErasing then x.2 else if x.2.state = bRefresh ∨ x.2.state = bRelocate then
          { x.2 with state := bData } else x.2) }
    let d := (d.wr R.NVS_STAT_STATE nsReady).syncStore
    if d.rd R.HUB_BOOT_PHASE = 6 then d.faultEvent 0x0D 0x05 0
    else d.modStore fun s => { s with uncleanEvt := true }

/-- MAP_CHECKPOINT: 1 s after write activity the checkpoint is written (R406). -/
def mapCheckpoint (d : Dev) : Dev :=
  if d.mayProgram ∧ d.store.dirty ∧ d.store.lastMap + 1000000000 ≤ d.now then
    d.modStore fun s => { s with dirty := false, lastMap := d.now }
  else d

/-! ### Reads (R385, R386, R400) -/

/-- A block marked for refresh, counted by its cause: 0 retention, 1 read disturb, 2 decode. -/
def Dev.refreshBlock (d : Dev) (t b cause : Nat) : Dev :=
  let x := d.nblock t b
  if x.state = bData then (d.setNblock t b { x with state := bRefresh }).count 0x0D 0 2 cause else d

/-- A unit that fails every step (R386): one fault event, the object is DAMAGED and the block is relocated
and retired. -/
def Dev.unrecoverable (d : Dev) (h u t b : Nat) : Dev :=
  let d := (d.faultEvent 0x0D 0x01 t).set R.NVS_ERR_UNREC_SEEN
  let d := match d.obj? h with
    | some o => d.setObj h { o with damaged := true, bad := (o.bad ++ [u]).eraseDups }
    | none => d
  let x := d.nblock t b
  d.setNblock t b { x with state := bRelocate, units := x.units.filter fun y => y ≠ (h, u) }

/-- One unit decoded at a step, or at none (0), for whoever reads it. -/
def Dev.unitRead (d : Dev) (h u t b step : Nat) (heavy : Bool) (scan : Bool) : Dev :=
  let x := d.nblock t b
  let d := d.setNblock t b { x with reads := x.reads + 1 }
  if step = 0 then d.unrecoverable h u t b
  else
    let d := d.count 0x0D 0 1 step
    if 2 ≤ step ∨ heavy then d.refreshBlock t b (if scan then 0 else 2)
    else if d.rd R.NVS_CFG_RD_LIMIT * 10000 < x.reads + 1 then d.refreshBlock t b 1 else d

/-- The bytes of a unit delivered to a reader: to its region, or gathered. -/
def Dev.deliverUnit (d : Dev) (j : StoreJob) (u : Nat) : Dev :=
  match d.obj? j.obj with
  | none => d
  | some o =>
    let a := max j.off (4096 * u)
    let n := min (j.off + j.len) (4096 * u + 4096) - a
    let bytes := o.data.readN a n
    let d := d.count 0x0D 0 0 1 n
    let left := j.left.filter fun x => x ≠ u
    let d := match j.target with
      | some t => (d.memWrite t (j.addr + (a - j.off)) bytes).setJob { j with left := left }
      | none => d.setJob { j with left := left, data := j.data.writeN (a - j.off) bytes }
    match d.sjob? j.id with
    | none => d
    | some j =>
      if j.left ≠ [] then d
      else match j.src, j.target with
        | .cmd s, none =>
          ((d.emit (.host j.addr (j.data.readN 0 j.len))).modJob s fun x => { x with host := true }).jobOver j
        | _, _ => d.jobOver j

/-- UNIT_READ_COMPLETE: unit `u` of object `h` has decoded at `step` of R385 (0: at none); `heavy` is whether
the hard decode corrected more than 60 % of the code's capability. -/
def unitReadComplete (h u step : Nat) (heavy : Bool) (d : Dev) : Dev :=
  let js := d.store.jobs.filter fun j => !j.write && j.obj = h && j.left.contains u
  match js, d.blockOf h u with
  | [], _ => d
  | _, none => d
  | js, some tb =>
    let d := d.unitRead h u tb.1 tb.2 step heavy false
    if step = 0 then d.each js fun d j => d.jobFail j St.storeUncorrectable
    else d.each js fun d j => d.deliverUnit j u

/-- RETENTION_SCAN: a block due for its sample has its unit number `i` read (R400). -/
def retentionScan (t b i step : Nat) (heavy : Bool) (d : Dev) : Dev :=
  let x := d.nblock t b
  let day := 86400000000000
  match x.units[i]? with
  | none => d
  | some hu =>
    if x.state = bData ∧ x.sampled + max 1 (d.rd R.NVS_CFG_RET_DAYS) * day ≤ d.now then
      (d.setNblock t b { x with sampled := d.now }).unitRead hu.1 hu.2 t b step heavy true
    else d

/-! ### Programs, erases and targets (R390, R399, R401) -/

/-- PROGRAM_COMPLETE: a program unit's status is read.  A failure is one fault event: its units are programmed
again elsewhere and its block is relocated and retired. -/
def programComplete (id : Nat) (ok : Bool) (d : Dev) : Dev :=
  match d.store.prog.find? fun p => p.id = id with
  | none => d
  | some p =>
    let d := d.modStore fun s => { s with prog := s.prog.filter fun x => x.id ≠ id }
    if ok then
      let d := d.each p.units fun d r => match d.obj? r.obj with
        | some o => d.setObj r.obj { o with programmed := (o.programmed ++ [r.unit]).eraseDups }
        | none => d
      (d.each p.metas fun d a => d.modJob a fun x => { x with waits := 0 }).eraseEmpty.syncStore
    else
      let d := (d.faultEvent 0x0D 0x02 p.target).set R.NVS_ERR_PROG_FAIL
      let x := d.nblock p.target p.block
      let d := d.setNblock p.target p.block { x with
        state := bRelocate, units := x.units.filter fun y => !(p.units.contains ⟨y.1, y.2⟩) }
      if d.nvs = nsPowerFail then (d.each p.metas fun d a => d.complete a St.storeNoTargets).syncStore
      else
        (match d.programOn p.units p.metas with
          | some d => d
          | none => d.assemble p.units p.metas).syncStore

/-- The least-worn block that holds data marked to move when the wear differs by more than WL_SPREAD
(R399). -/
def Dev.levelWear (d : Dev) : Dev :=
  let bs := d.store.blocks.filter fun x => x.2.state = bData && x.2.units != []
  let mx := bs.foldl (fun n x => max n x.2.erases) 0
  match bs.find? fun x => bs.all fun y => decide (x.2.erases ≤ y.2.erases) with
  | none => d
  | some x =>
    if 10 * d.rd R.NVS_CFG_WL_SPREAD < mx - x.2.erases then
      (d.setNblock x.1.1 x.1.2 { x.2 with state := bRefresh }).count 0x0D 0 0 5
    else d

/-- ERASE_COMPLETE: a block is free again, or is retired, which is one fault event. -/
def eraseComplete (t b : Nat) (ok : Bool) (d : Dev) : Dev :=
  let x := d.nblock t b
  if x.state ≠ bErasing then d
  else if ok then
    let y : NBlock := { erases := x.erases + 1, sampled := d.now }
    (d.setNblock t b y).levelWear.syncStore
  else
    let d := (d.faultEvent 0x0D 0x03 t).set R.NVS_ERR_ERASE_FAIL
    ((d.setNblock t b { x with state := bRetired, units := [] }).count 0x0D 0 0 6).syncStore

/-- BLOCK_REFRESH_COMPLETE: the valid units of a block lie in another block and the map has changed; the old
block is erased, or retired where it failed (R399 to R401). -/
def blockRefreshComplete (t b : Nat) (d : Dev) : Dev :=
  let x := d.nblock t b
  if x.state ≠ bRefresh ∧ x.state ≠ bRelocate then d
  else
    let dest := (t :: d.targetsUsed).findSome? fun u => match d.nextBlock u x.units.length with
      | some c => if u = t ∧ c = b then none else some (u, c)
      | none => none
    match dest with
    | none => d
    | some uc =>
      let y := d.nblock uc.1 uc.2
      let d := d.setNblock uc.1 uc.2 { y with state := bData, units := y.units ++ x.units, sampled := d.now }
      let d := d.modStore fun s => { s with unitsIssued := s.unitsIssued + 1, dirty := true }
      if x.state = bRefresh then (d.setNblock t b { x with state := bErasing, units := [] }).syncStore
      else ((d.setNblock t b { x with state := bRetired, units := [] }).count 0x0D 0 0 6).syncStore

/-- TARGET_TIMEOUT: a target that has not responded for 100 ms is excluded, one fault event; every object with
a unit on it is DAMAGED (R401, R408). -/
def targetTimeout (t : Nat) (d : Dev) : Dev :=
  if (d.target t).used = false then d
  else
    let d := (d.faultEvent 0x0D 0x04 t).set R.NVS_ERR_TGT_FAIL
    let d := d.wrBit R.NVS_TGT_FAILED (t % 8) true 0 (t / 8)
    let ps := d.store.prog.filter fun p => p.target = t
    let lost := (d.store.blocks.filter fun x => x.1.1 = t).flatMap fun x => x.2.units
    let d := d.modStore fun s => { s with
      targets := s.targets.put t { s.targets.get t {} with used := false }
      prog := s.prog.filter fun p => p.target ≠ t
      blocks := s.blocks.filter fun x => x.1.1 ≠ t }
    let d := d.each lost fun d hu => match d.obj? hu.1 with
      | some o => d.setObj hu.1 { o with damaged := true, bad := (o.bad ++ [hu.2]).eraseDups }
      | none => d
    let d := d.each d.store.jobs fun d j =>
      if !j.write && j.left.any fun u => lost.contains (j.obj, u) then d.jobFail j St.storeUncorrectable else d
    (d.assemble [] (ps.flatMap ProgUnit.metas)).syncStore

/-! ### Data arriving (R389, R392, R394, R395) -/

/-- STORE_DATA_ARRIVAL: the next `n` bytes of a transfer reach the controller, and units that are whole are
assembled. -/
def storeDataArrival (id n : Nat) (d : Dev) : Dev :=
  match d.sjob? id with
  | none => d
  | some j =>
    let n := min n (j.len - j.moved)
    if j.write = false ∨ j.ended ∨ n = 0 ∨ d.mayProgram = false then d
    else
      let a := j.addr + j.moved
      let bad := match j.target with
        | some t => d.memBad t a n
        | none => false
      if bad then d.jobFail j rMemUnc
      else
        let bytes := match j.target with
          | some t => d.memRead t a n
          | none => j.data.readN j.moved n
        ((d.setJob { j with moved := j.moved + n }).objWrite j.obj (j.off + j.moved) bytes).accept

/-- FILL_TO_EXPIRY: a program unit that is not full is issued with padding (R392). -/
def fillToExpiry (d : Dev) : Dev :=
  match d.store.fillAt with
  | none => d
  | some t => if t ≤ d.now then (d.issue (d.store.assembly.length + d.store.metas.length) true).syncStore else d

/-- The internal target code of the store controller as a holder. -/
def tgtStore : Nat := 0x1FE

/-- ABSORB_RESULT_RECEIVED: the controller takes a result with ABSORB set: it is written at its binding's base
plus its offset, or released with STORE_REFUSED (R394). -/
def absorbResultReceived (pid : Nat) (d : Dev) : Dev :=
  match d.takeWhole hubAttach pid tgtStore with
  | none => d
  | some (s, h, d) =>
      let i := s.ctx.getD (s.pkt.collId % 65536)
      let refuse (d : Dev) : Dev := ((d.storeRefused s).release pid h).retryOut
      match d.store.binds.find? fun b => b.ctx = i with
      | none => refuse d
      | some b =>
        match d.startWrite (.result pid h) b.obj (b.base + s.pkt.offset) s.pkt.payload.length none 0
            (Mem.writeN [] 0 s.pkt.payload) with
        | (d, 0) => d
        | (d, _) => refuse d

/-- Results that the controller has held for XBAR.AGE of VC6 are flushed with QUEUE_AGED (R396). -/
def Dev.ageResults (d : Dev) : Dev :=
  let lim := 100000 * d.ageLimit hubAttach 6
  let old := d.store.jobs.filter fun j => (match j.src with
    | .result _ _ => true
    | _ => false) && decide (j.at_ + lim ≤ d.now)
  if old = [] then d
  else
    (d.faultEvent 0x04 0x03 hubAttach).each old fun d j => match j.src with
      | .result pid h => ((d.delJob j.id).failHolder pid h 0x20 0x04 hubAttach).retryOut
      | _ => d

/-- AGEING_TICK of the table: the tick of a queue, and for the store controller's queue also the results it
holds (R163, R396). -/
def ageTick (e v : Nat) (d : Dev) : Dev :=
  let d := ageingTick e v d
  if e = hubAttach ∧ v = 6 ∧ d.now % 100000 = 0 then d.ageResults else d

/-! ### Commands (R387 to R391, R405) -/

/-- A store command begun: it waits while the store is REBUILDING, and is refused for the store's state. -/
def Dev.storeCmd (d : Dev) (aseq op : Nat) (f : JEntry → Dev → Dev) : Dev :=
  if d.nvs = nsRebuilding then d
  else d.cmd aseq op fun j d =>
    let g := d.storeGate
    if g ≠ St.ok then d.complete aseq g else f j d.wakeStore

/-- The device owner over PCIe (R391). -/
def Dev.isOwner (d : Dev) (j : JEntry) : Bool := d.chRole j.chan = 1 && d.chIntf j.chan = 0

/-- The object that a command names, or the status of the refusal (R388, R391). -/
def Dev.cmdObj (d : Dev) (j : JEntry) (h : Nat) : Except Nat Obj :=
  match d.obj? h with
  | none => .error St.objUnknown
  | some o => if objReach o j.burgee (d.isOwner j) then .ok o else .error St.notPermitted

/-- STORE_FORMAT: every object is lost and every good block is erased; SANITIZE takes the retired blocks
too. -/
def storeFormat (aseq : Nat) (d : Dev) : Dev :=
  d.cmd aseq 0x0501 fun j d =>
    let op := bits (j.w 4) 7 0
    if d.storeGate = St.storeNoTargets then d.complete aseq St.storeNoTargets
    else if op < 7 ∨ 28 < op then d.complete aseq St.cmdParam
    else
      let d := d.each d.store.jobs fun d x => d.jobFail x St.storeUnformatted
      let san := bitOf (j.w 4) 8
      let d := d.modStore fun s => { s with
        formatted := false, opPct := op, binds := [], assembly := [], metas := [], prog := []
        recA := none, recB := none, admA := none, admB := none
        objs := s.objs.map fun x => (x.1, ({ gen := x.2.gen } : Obj))
        blocks := s.blocks.map fun x =>
          (x.1, if x.2.state = bRetired && !san then x.2
            else { x.2 with units := [], state := bErasing })
        formatJob := some aseq }
      (d.wr R.NVS_STAT_STATE nsUnformatted).syncStore

/-- The words of NVS.STAT, NVS.CAP and NVS.WEAR. -/
def Dev.storeWords (d : Dev) : List Nat :=
  [d.regWord [R.NVS_STAT_STATE, R.NVS_STAT_UNCLEAN, R.NVS_STAT_TARGETS, R.NVS_STAT_HOLDUP_DONE,
      R.NVS_STAT_TORN],
   d.regWord [R.NVS_CAP_USER_GB, R.NVS_CAP_FREE_GB],
   d.regWord [R.NVS_WEAR_AVG_PCT, R.NVS_WEAR_MAX_PCT, R.NVS_WEAR_WA_X16, R.NVS_WEAR_RESERVE_PCT]]

/-- STORE_STAT. -/
def storeStat (aseq : Nat) (d : Dev) : Dev :=
  d.cmd aseq 0x0502 fun _ d =>
    if d.storeGate = St.storeNoTargets then d.complete aseq St.storeNoTargets
    else
      let d := d.wakeStore
      d.complete aseq St.ok d.storeWords

/-- STORE_QUIESCE: what is assembled is issued, and what has not been accepted is refused (R405). -/
def storeQuiesce (aseq : Nat) (d : Dev) : Dev :=
  d.storeCmd aseq 0x0503 fun _ d =>
    let d := d.issue (d.store.assembly.length + d.store.metas.length) true
    let d := d.modStore fun s => { s with quiesceJob := some aseq }
    d.each (d.store.jobs.filter fun j => j.write && !j.ended) fun d j => d.jobFail j St.storeBusy

/-- The GEN after a reuse, skipping 0. -/
def nextGen (g : Nat) : Nat := if (g + 1) % 65536 = 0 then 1 else (g + 1) % 65536

/-- OBJ_CREATE (R390). -/
def objCreate (aseq : Nat) (d : Dev) : Dev :=
  d.storeCmd aseq 0x0504 fun j d =>
    let kind := bits (j.w 4) 3 0
    let size := j.w 5 * 2 ^ 32 + j.w 6
    let at? := (List.range 65536).find? fun i => (d.store.objs.get i {}).state = 0
    if 3 < kind then d.complete aseq St.cmdParam
    else if d.store.quiesceJob.isSome then d.complete aseq St.storeBusy
    else if d.nvs = nsReadOnly then d.complete aseq St.storeReadOnly
    else if d.storeFree < 4096 * unitsOfSize size then d.complete aseq St.storeFull
    else match at? with
      | none => d.complete aseq St.objTableFull
      | some i =>
        let g := nextGen (d.store.objs.get i {}).gen
        let o : Obj := { gen := g, state := 1, burgee := j.burgee, kind := kind, size := size }
        let d := d.modStore fun s => { s with objs := s.objs.put i o }
        let d := d.modJob aseq fun x => { x with res := [g * 65536 + i] }
        (d.metaRecord aseq).syncStore

/-- OBJ_WRITE (R389). -/
def objWrite (aseq : Nat) (d : Dev) : Dev :=
  match d.job? aseq with
  | none => d
  | some j0 =>
    let b := j0.bref 7
    if b.kind = 1 ∧ j0.buf.isNone ∧ d.brefOk j0.chan b then d
    else d.storeCmd aseq 0x0505 fun j d =>
      let h := j.w 4
      let off := j.w 5 * 2 ^ 32 + j.w 6
      match d.cmdObj j h with
      | .error s => d.complete aseq s
      | .ok _ =>
        if d.brefOk j.chan b = false then d.complete aseq St.cmdParam
        else
          let src := if b.kind = 2 then d.regionCheck b.region b.addr b.len j.burgee false
            else .ok {}
          let st := d.writeStatus h off b.len
          if st ≠ St.ok then d.complete aseq st
          else match src with
            | .error _ => d.complete aseq St.regionInvalid
            | .ok r =>
              let t := if b.kind = 2 then some r.target else none
              let data := Mem.writeN [] 0 ((j.buf.getD []).take b.len)
              let d := d.modJob aseq fun x => { x with waits := 1 }
              match d.startWrite (.cmd aseq) h off b.len t (r.base + b.addr) data with
              | (d, 0) => d
              | (d, s) => d.complete aseq s

/-- OBJ_READ (R391). -/
def objRead (aseq : Nat) (d : Dev) : Dev :=
  d.storeCmd aseq 0x0506 fun j d =>
    let h := j.w 4
    let off := j.w 5 * 2 ^ 32 + j.w 6
    let b := j.bref 7
    match d.cmdObj j h with
    | .error s => d.complete aseq s
    | .ok o =>
      if d.brefOk j.chan b = false then d.complete aseq St.cmdParam
      else if o.state ≠ 2 ∧ o.state ≠ 3 then d.complete aseq St.objState
      else if o.size < off + b.len ∨ (unitsIn off b.len).any fun u => !(o.programmed.contains u) then
        d.complete aseq St.objRange
      else
        let dst := if b.kind = 2 then d.regionCheck b.region b.addr b.len j.burgee true else .ok {}
        match dst with
        | .error _ => d.complete aseq St.regionInvalid
        | .ok r =>
          if b.len = 0 ∨ b.kind = 0 then d.complete aseq St.ok
          else if (unitsIn off b.len).any o.bad.contains then d.complete aseq St.storeUncorrectable
          else
            let d := d.modJob aseq fun x => { x with waits := 1 }
            if b.kind = 2 then d.startRead (.cmd aseq) h off b.len (some r.target) (r.base + b.addr)
            else d.startRead (.cmd aseq) h off b.len none b.addr

/-- OBJ_SEAL: the unwritten bytes are zeros and the remaining units are programmed (R389, R408). -/
def objSeal (aseq : Nat) (d : Dev) : Dev :=
  d.storeCmd aseq 0x0507 fun j d =>
    let h := j.w 4
    match d.cmdObj j h with
    | .error s => d.complete aseq s
    | .ok o =>
      if (o.state ≠ 1 ∧ o.state ≠ 3) ∨ o.sealing.isSome then d.complete aseq St.objState
      else if d.store.quiesceJob.isSome then d.complete aseq St.storeBusy
      else
        let late := d.store.jobs.filter fun x => x.write && x.obj = h && decide (x.moved < x.len)
        let d := d.each late fun d x => d.jobFail x St.objState
        let left := (List.range (unitsOfSize o.size)).filter fun u =>
          !(d.unitIssued h u) && !(d.store.assembly.contains ⟨h, u⟩)
        let d := d.setObj h { o with sealing := some aseq, ranges := [(0, o.size)] }
        let d := d.modJob aseq fun x => { x with waits := 2 }
        d.assemble (left.map fun u => ⟨h, u⟩)

/-- OBJ_DELETE (R391, R408). -/
def objDelete (aseq : Nat) (d : Dev) : Dev :=
  d.storeCmd aseq 0x0508 fun j d =>
    let h := j.w 4
    match d.cmdObj j h with
    | .error s => d.complete aseq s
    | .ok o =>
      if o.state = 4 then d.complete aseq St.objState
      else if d.store.quiesceJob.isSome then d.complete aseq St.storeBusy
      else if (d.store.jobs.any fun x => x.obj = h) ∨ d.store.binds.any fun b => b.obj = h then
        d.complete aseq St.objBusy
      else
        let d := d.modStore fun s => { s with assembly := s.assembly.filter fun u => u.obj ≠ h }
        let d := (d.setObj h { o with state := 4 }).dropUnits h
        (d.metaRecord aseq).syncStore

/-- OBJ_STAT (R388). -/
def objStat (aseq : Nat) (d : Dev) : Dev :=
  d.storeCmd aseq 0x0509 fun j d =>
    match d.cmdObj j (j.w 4) with
    | .error s => d.complete aseq s
    | .ok o =>
      d.bufOut j (j.bref 5) ((objWords o).flatMap (bytesLE 4)) St.ok ((objWords o).take 7)

/-- ABSORB_BIND (R394). -/
def absorbBind (aseq : Nat) (d : Dev) : Dev :=
  d.storeCmd aseq 0x050A fun j d =>
    let i := bits (j.w 4) 15 0
    match d.cmdObj j (j.w 5) with
    | .error s => d.complete aseq s
    | .ok o =>
      let others := d.store.binds.filter fun b => b.ctx ≠ i
      if d.chRole j.chan = 0 ∧ d.ctxReach i j.burgee = false then d.complete aseq St.notPermitted
      else if o.state ≠ 1 then d.complete aseq St.objState
      else if d.store.quiesceJob.isSome then d.complete aseq St.storeBusy
      else if d.nvs = nsReadOnly then d.complete aseq St.storeReadOnly
      else if 4096 ≤ others.length then d.complete aseq St.storeBusy
      else
        let e : AbsorbEnt := { ctx := i, obj := j.w 5, base := j.w 6 * 2 ^ 32 + j.w 7 }
        (d.modStore fun s => { s with binds := others ++ [e] }).complete aseq St.ok

/-- A seal that goes on (R389): with every unit programmed the digest is read if it is asked for, and then the
object is SEALED and its metadata record is programmed. -/
def Dev.sealStep (d : Dev) (j : JEntry) (h : Nat) (o : Obj) : Dev :=
  let want := bitOf (j.w 5) 0
  let rd := d.store.jobs.find? fun x => x.src = .seal j.aseq
  if (List.range (unitsOfSize o.size)).any fun u => !(o.programmed.contains u) then d
  else
    let finish (d : Dev) (o : Obj) : Dev :=
      ((d.setObj h { o with state := 2, sealing := none }).metaRecord j.aseq).syncStore
    if want = false ∨ o.digestV then finish d o
    else match rd with
      | none =>
        if o.size = 0 then finish d { o with digestV := true, digest := sha384 [] }
        else d.startRead (.seal j.aseq) h 0 o.size none 0
      | some x =>
        if x.ended = false then d
        else match x.failed with
          | some s => ((d.delJob x.id).setObj h { o with sealing := none }).complete j.aseq s
          | none => finish (d.delJob x.id) { o with digestV := true, digest := sha384 (o.data.readN 0 o.size) }

/-- STORE_TRANSFER_COMPLETE: the transfer or the metadata program of a store command has completed, and the
command ends; a format ends when every block is erased, a quiesce when everything accepted is
programmed. -/
def storeTransferComplete (aseq : Nat) (d : Dev) : Dev :=
  match d.job? aseq with
  | none => d
  | some j =>
    if j.phase ≠ .running ∨ j.host then d
    else if j.op = 0x0501 then
      if d.store.formatJob = some aseq ∧ (d.store.blocks.all fun x => x.2.state != bErasing) then
        let d := d.modStore fun s => { s with formatJob := none, formatted := true, clean := false, dirty := true }
        (d.wr R.NVS_STAT_STATE nsReady).syncStore.complete aseq St.ok
      else d
    else if j.op = 0x0503 then
      if d.store.quiesceJob = some aseq ∧ d.store.assembly = [] ∧ d.store.metas = [] ∧ d.store.prog = [] then
        let d := d.modStore fun s => { s with quiesceJob := none, clean := true, dirty := false }
        (d.wr R.NVS_STAT_STATE nsQuiesced).complete aseq St.ok
      else d
    else if j.op = 0x0504 then (if j.waits = 0 then d.complete aseq St.ok j.res else d)
    else if j.op = 0x0505 ∨ j.op = 0x0506 then (if j.waits = 0 then d.complete aseq j.status else d)
    else if j.op = 0x0507 then
      if j.waits = 0 then d.complete aseq St.ok
      else if j.waits = 2 then match d.obj? (j.w 4) with
        | some o => d.sealStep j (j.w 4) o
        | none => d
      else d
    else if j.op = 0x0508 then
      if j.waits = 0 then
        let h := j.w 4
        ((d.setObj h { gen := h / 65536 }).syncStore).complete aseq St.ok
      else d
    else d

end Sys2Proof.Machine
end

