-- ==== Sys2Proof/Machine/Col.lean ====
section
/-! DEFINITION. Triggers and triggered operations (spec/10, R276 to R283). -/

namespace Sys2Proof.Machine

/-! ### Trigger entries (R276) -/

def tgFree : Nat := 0
def tgArmed : Nat := 1
def tgFiring : Nat := 2
def tgDone : Nat := 3
def tgFailed : Nat := 4

def Dev.trig (d : Dev) (t : Nat) : Trig := d.red.trigs.get t {}

/-- The quadrant of a trigger or operation entry. -/
def trigQuad (t : Nat) : Nat := t / 32768 % 4

/-- COL.TSTAT of a quadrant brought up to date. -/
def Dev.syncCol (d : Dev) (q : Nat) : Dev :=
  let used := (d.red.trigs.filter fun x => trigQuad x.1 = q && x.2.state != tgFree).length
  let slots := (d.red.tokens.filter fun x => x.1.1 = q).length
  (d.wr R.COL_TSTAT_TRIG_FREE (32768 - used) q).wr R.COL_TSTAT_SLOT_FREE (4096 - slots) q

def Dev.setTrig (d : Dev) (t : Nat) (e : Trig) : Dev :=
  ({ d with red := { d.red with trigs := d.red.trigs.put t e } }).syncCol (trigQuad t)

/-- A trigger entry from its words. -/
def trigOf (w : List Nat) : Trig :=
  { state := bits (nth w 0) 31 29, burgee := bits (nth w 0) 28 20, rep := bitOf (nth w 0) 19
    runs := bits (nth w 0) 15 0, count := nth w 1, thresh := bits (nth w 2) 31 8
    op := bits (nth w 3) 31 17, owner := bits (nth w 4) 31 12 }

/-- The words of a trigger entry. -/
def Trig.words (e : Trig) : List Nat :=
  [e.state * 2 ^ 29 + e.burgee * 2 ^ 20 + b2n e.rep * 2 ^ 19 + e.runs, e.count, e.thresh * 2 ^ 8,
   e.op * 2 ^ 17, e.owner * 2 ^ 12]

/-- The operation entry that a trigger entry names: one of its own quadrant (R280). -/
def Dev.opWords (d : Dev) (t : Nat) : List Nat :=
  d.red.ops.get (trigQuad t * 32768 + (d.trig t).op) (List.replicate 16 0)

/-- New work is refused from the acceptance of an OP_SET to OP3 on (R34). -/
def Dev.parking (d : Dev) : Bool := d.rd R.PWR_OPSTAT_OP_TGT = 3

/-! ### Operations in progress (R281) -/

def Dev.modRun (d : Dev) (t : Nat) (f : RunOp → RunOp) : Dev :=
  { d with red := { d.red with running := d.red.running.map fun o => if o.trig = t then f o else o } }

def RunOp.w (o : RunOp) (n : Nat) : Nat := nth o.words n
def RunOp.action (o : RunOp) : Nat := bits (o.w 0) 31 28

/-- A packet stored by an internal block: its stored packet, the reason of a refusal, or nothing while its
ring lacks room (R147). -/
def Dev.trySend (d : Dev) (k : Packet) (ing vc : Nat) (hs : Option (List Holder)) :
    Dev × Except Nat (Option Nat) :=
  match hs with
  | none => d.lookSend k ing vc
  | some hs => match d.storePkt k ing vc (flitsOf k) hs none with
    | (d, none) => (d, .ok none)
    | (d, some pid) => (d.each hs fun d h => d.enterDesc pid h, .ok (some pid))

/-- The holder of an internal contribution, whatever its DST_FEID: the cluster of COLL_ID.QUAD (R245). -/
def ownCluster (k : Packet) : Option (List Holder) :=
  if isContrib k then
    let q := k.collId / 16384 % 4
    some [⟨rcAttach q, 4, rcTgt q, false⟩]
  else none

/-- The streamer of a SEND at byte `off` (R281): the last one may be shorter, and is padded to 256 B. -/
def Dev.sendPktAt (d : Dev) (t : Nat) (o : RunOp) (r : Region) (off : Nat) : Packet :=
  let seg := 4 * (o.w 12 % 16384)
  let n := min seg (o.w 4 - off)
  let body := d.memRead r.target (r.base + o.w 3 + off) n
  let size := max 256 (ceilDiv n 4 * 4)
  { pclass := 2, burgee := (d.trig t).burgee, hoplim := 63, dst := bits (o.w 5) 31 12
    entropy := bits (o.w 5) 11 0, src := d.devFeid, tag := t, typ := bits (o.w 9) 10 7, len := size / 4
    exact := d.detExact, fmt := bits (o.w 11) 13 8, epoch := bits (o.w 11) 7 0, collId := o.w 10
    contrib := bits (o.w 11) 31 14, offset := (o.w 7 * 2 ^ 32 + o.w 8 + off) % 2 ^ 64, region := o.w 6
    trigger := bits (o.w 9) 31 15, trigV := bitOf (o.w 9) 14
    payload := body ++ List.replicate (size - n) 0 }

/-- Streamers of a SEND started while its attach point has room; `fuel` bounds them. -/
def Dev.sendMore : Nat → Dev → Nat → Dev
  | 0, d, _ => d
  | f + 1, d, t =>
    match d.red.running.find? fun o => o.trig = t with
    | none => d
    | some o =>
      if o.outcome.isSome ∨ o.w 4 ≤ o.off then d
      else match d.regionCheck (o.w 2) (o.w 3) (o.w 4) (d.trig t).burgee false true with
        | .error e => d.opOutcome t e
        | .ok r =>
          let seg := 4 * (o.w 12 % 16384)
          let n := min seg (o.w 4 - o.off)
          if seg = 0 then d.opOutcome t St.descInvalid
          else if d.memBad r.target (r.base + o.w 3 + o.off) n then d.opOutcome t rMemUnc
          else
            let k := d.sendPktAt t o r o.off
            match d.trySend k (memAttach r.target) (bits (o.w 9) 13 11) (ownCluster k) with
            | (d, .error e) => d.opOutcome t e
            | (d, .ok none) => d
            | (d, .ok (some pid)) =>
              let d := d.count 0x09 (trigQuad t) 0 1
              Dev.sendMore f (d.modRun t fun o => { o with off := o.off + n, pids := o.pids ++ [pid] }) t

/-- A SEND goes on, or waits for its slot when its burgee's starts do (R462). -/
def Dev.sendGo (d : Dev) (t : Nat) : Dev :=
  match d.red.running.find? fun o => o.trig = t with
  | none => d
  | some o =>
    if o.w 4 ≤ o.off then d
    else if d.slotted (d.trig t).burgee then d.slotWait (128 + t) (.send t)
    else Dev.sendMore (o.w 4 + 1) d t

/-- An OPEN action (R281): the CHECK of the entry is used and then advanced by CHECK_STEP, skipping 0. -/
def Dev.opOpen (d : Dev) (t : Nat) (o : RunOp) : Dev :=
  let i := bits (o.w 11) 15 0
  let b := (d.trig t).burgee
  let w := d.classed (o.words.drop 2 |>.take 9) false
  let c := (bits (o.w 2) 31 16 + bits (o.w 11) 31 16) % 65536
  let c := if c = 0 then 1 else c
  let at_ := trigQuad t * 32768 + (d.trig t).op
  let d := { d with red := { d.red with
    ops := d.red.ops.put at_ (setAt o.words 2 (c * 65536 + o.w 2 % 65536)) } }
  let s := d.openStatus i { w := w } (if b = 0 then none else some b)
  if s = St.ok then (d.openCtx i w).opOutcome t 0 else d.opOutcome t s

/-- The absorb binding of a context cleared (R394). -/
def Dev.unbindCtx (d : Dev) (i : Nat) : Dev :=
  d.modStore fun s => { s with binds := s.binds.filter fun b => b.ctx ≠ i }

/-- A context closed with its absorb binding (R244, R394). -/
def Dev.closeBound (d : Dev) (i : Nat) (force : Bool) : Dev × Nat :=
  match d.closeCtx i force with
  | (d, s) => if s = St.ok then (d.unbindCtx i, s) else (d, s)

/-- The TRIG pennant of a REMOTE action (R281, R283). -/
def Dev.trigPen (d : Dev) (burgee dst tag trig inc : Nat) : Packet :=
  { pclass := 1, burgee := burgee, hoplim := 63, dst := dst, src := d.devFeid, tag := tag, typ := 6
    opcode := 1, nidem := true, arg5 := trig * 2 ^ 15 + inc * 2 ^ 7 }

/-- What an action does when its operation starts (R281); its outcome is known then or later. -/
def Dev.startOp (d : Dev) (t : Nat) : Dev :=
  let ws := d.opWords t
  let b := (d.trig t).burgee
  let o : RunOp := { trig := t, words := ws }
  let d := { d with red := { d.red with running := d.red.running ++ [o] } }
  let a := o.action
  if d.parking then d.opOutcome t St.pwrParking
  else if a = 0 then d.opOutcome t 0
  else if a = 1 then match d.regionCheck (o.w 2) (o.w 3) (o.w 4) b false true with
    | .error e => d.opOutcome t e
    | .ok _ => d.sendGo t
  else if a = 2 then d.opOpen t o
  else if a = 3 then
    let i := bits (o.w 2) 15 0
    if d.ctxReach i b = false then d.opOutcome t St.notPermitted
    else match d.closeBound i (bitOf (o.w 2) 16) with
      | (d, s) => d.opOutcome t s
  else if a = 4 then
    let tag := d.red.opTag
    let d := { d with red := { d.red with opTag := (tag + 1) % 2 ^ 32 } }
    let d := d.modRun t fun o => { o with tag := tag, deadline := d.now + 10000000 }
    d.sendOut (d.trigPen b (bits (o.w 2) 31 12) tag (bits (o.w 3) 31 15) (bits (o.w 3) 14 7))
      (attach (trigQuad t) 3) 0
  else if a = 5 then
    match d.launch (o.w 2 % 64) { entry := o.w 3, arg := o.w 4 * 2 ^ 32 + o.w 5, id := t, burgee := b
                                  trig := some t } with
    | (d, 0) => d
    | (d, s) => d.opOutcome t s
  else if a = 6 then
    let ch := o.w 2
    if ch < 128 ∧ d.chEn ch ∧ d.chIntf ch = 0 ∧ d.outst ch < 32 then
      ((d.postCpl ch (cplWords 1 0 t 0 ch 0 [o.w 3])).syncChan ch).opOutcome t 0
    else d.opOutcome t St.cmdQueueFull
  else if a = 7 then
    match d.regionCheck (o.w 2) (o.w 3) (o.w 4) b false true with
    | .error _ => d.opOutcome t St.regionInvalid
    | .ok r =>
      let reach := match d.obj? (o.w 5) with
        | some x => objReach x b false
        | none => true
      if reach = false then d.opOutcome t St.notPermitted
      else match d.startWrite (.act t) (o.w 5) (o.w 3) (o.w 4) (some r.target) (r.base + o.w 3) with
        | (d, 0) => d
        | (d, s) => d.opOutcome t s
  else if a = 8 then
    let h := d.hoist (o.w 2 % 1024)
    if h.v ∧ b ≠ 0 ∧ h.burgee ≠ b then d.opOutcome t St.notPermitted
    else match d.hoistJoin (o.w 2) (.act t) with
      | (d, true) => d
      | (d, false) => d.opOutcome t St.hoistBusy
  else d.opOutcome t St.descInvalid

/-! ### Advances and firings (R277, R279) -/

/-- The slot of a model whose ready trigger an entry is (R343). -/
def Dev.readyOf (d : Dev) (t : Nat) : Option Nat :=
  (d.models.find? fun x => x.2.ready = some t).map Prod.fst

/-- An ARMED entry at its threshold fires: its operation starts, or waits for its slot (R462). -/
def Dev.tryFire (d : Dev) (t : Nat) : Dev :=
  let e := d.trig t
  if e.state = tgArmed ∧ e.thresh ≤ e.count then
    let d := d.setTrig t { e with state := tgFiring, count := e.count - e.thresh }
    match d.readyOf t with
    | some s => d.modelReady s
    | none =>
      let d := d.count 0x09 (trigQuad t) 1 (bits (nth (d.opWords t) 0) 31 28)
      if d.slotted e.burgee then d.slotWait (128 + t) (.op t) else d.startOp t
  else d

/-- An advance of an entry by an item of a burgee.  Answers whether it found its entry; the record of one that
does not is the caller's. -/
def Dev.trigAdv (d : Dev) (t inc burgee : Nat) : Dev × Bool :=
  let q := trigQuad t
  let e := d.trig t
  if e.state = tgFree ∨ (burgee ≠ 0 ∧ burgee ≠ e.burgee) then
    (d.set R.COL_ERR_TRIG_INVALID_SEEN q, false)
  else
    let d := d.count 0x09 q 0 0
    let d := if 2 ^ 32 - 1 < e.count + inc then d.set R.COL_ERR_COUNT_SAT q else d
    ((d.setTrig t { e with count := min (e.count + inc) (2 ^ 32 - 1) }).tryFire t, true)

/-- The TRIG_INVALID record of an advance by this device itself. -/
def Dev.ownAdvance (d : Dev) (t inc burgee tag : Nat) : Dev :=
  match d.trigAdv t inc burgee with
  | (d, true) => d
  | (d, false) => d.record (trigQuad t)
      { reason := rTrigInvalid, item := 3, burgee := burgee, dst := d.devFeid, tag := tag, vc := 1
        cls := 0, typ := 6, itemDst := d.devFeid, name := t, blk := 0x09, inst := trigQuad t, at_ := d.now }

/-- The TRIG_INVALID record of an advance made by a packet. -/
def Dev.pktAdvance (d : Dev) (t inc : Nat) (k : Packet) (vc ing : Nat) : Dev :=
  match d.trigAdv t inc k.burgee with
  | (d, true) => d
  | (d, false) => d.record (trigQuad t) (d.pktRec k vc ing rTrigInvalid 0x09 (trigQuad t))

/-! ### The end of an operation (R277, R279, R282) -/

/-- Whether a SEND has had every streamer released. -/
def Dev.sendOver (d : Dev) (o : RunOp) : Bool :=
  o.action = 1 && decide (o.w 4 ≤ o.off) && o.pids.all fun p => (d.pkt? p).isNone

/-- The record of a failed operation (R282). -/
def Dev.opFailRec (d : Dev) (t code : Nat) : Dev :=
  let e := d.trig t
  let q := trigQuad t
  (d.set R.COL_ERR_OP_FAIL_SEEN q).record q
    { reason := rTrigOpFailed, item := 3, burgee := e.burgee, dst := e.owner, tag := t, vc := 1, cls := 0
      typ := 6, itemDst := e.owner, name := t, status := code % 65536, blk := 0x09, inst := q, at_ := d.now }

/-- A triggered operation ends (R277). -/
def Dev.opEnded (d : Dev) (o : RunOp) (code : Nat) : Dev :=
  let t := o.trig
  let e := d.trig t
  let ok := code = 0
  let d := { d with red := { d.red with running := d.red.running.filter fun x => x.trig ≠ t } }
  let d := if ok then d else (d.count 0x09 (trigQuad t) 2 o.action).opFailRec t code
  let st : Trig :=
    if e.disarm then { e with state := tgFree, disarm := false, jobs := [] }
    else if ok = false then { e with state := tgFailed }
    else if e.rep ∧ e.runs ≠ 1 then { e with state := tgArmed, runs := e.runs - 1 }
    else { e with state := tgDone }
  let d := d.setTrig t st
  let d := d.each e.jobs fun d a => d.complete a St.ok
  let d := if ok ∧ bitOf (o.w 0) 10 then d.ownAdvance (bits (o.w 0) 27 11) 1 e.burgee t else d
  let d := if !ok && bitOf (o.w 1) 14 then d.ownAdvance (bits (o.w 1) 31 15) 1 e.burgee t else d
  d.tryFire t

/-- OPERATION_END: the operation of trigger entry `t` has succeeded or failed (R277, R281). -/
def operationEnd (t : Nat) (d : Dev) : Dev :=
  match d.red.running.find? fun o => o.trig = t with
  | none => d
  | some o =>
    match o.outcome with
    | some c => d.opEnded o c
    | none => if d.sendOver o then d.opEnded o 0 else d

/-- The SENDs in progress continued after a release (R281). -/
def Dev.sendsGo (d : Dev) : Dev :=
  d.each (d.red.running.filter fun o => o.action = 1 && o.outcome.isNone) fun d o => d.sendGo o.trig

/-- REMOTE_RSP_RECEIVED: the RSP to a REMOTE action, taken by the hub (R281); one that no action waits for has
no further effect. -/
def remoteRspReceived (pid : Nat) (d : Dev) : Dev :=
  match d.takeHub pid fun k => k.pclass = 1 && k.typ = 1 && k.opcode = 1 with
  | none => d
  | some (s, d) =>
    match d.red.running.find? fun o => o.action = 4 && o.tag = s.pkt.tag && o.outcome.isNone with
    | some o => d.opOutcome o.trig (s.pkt.arg5 % 65536)
    | none => d

/-- REMOTE_RSP_TIMEOUT: no RSP within 10 ms.  The spec gives no status for it, and the one its record holds is a
free value (assumption log, row 4). -/
def remoteRspTimeout (t : Nat) (d : Dev) : Dev :=
  match d.red.running.find? fun o => o.trig = t && o.action = 4 && o.outcome.isNone with
  | some o => if o.deadline ≤ d.now then (d.opOutcome t (65536 + d.free % 65536)).usedFree else d
  | none => d

/-! ### Commands (R276, R277, R280, R285) -/

/-- Whether a command may act on an object of a burgee: a tenant only on its own (R422). -/
def Dev.cmdReach (d : Dev) (j : JEntry) (b : Nat) : Bool := d.chRole j.chan != 0 || j.burgee = b

/-- TRIG_ARM (R276). -/
def trigArm (aseq : Nat) (d : Dev) : Dev :=
  d.cmd aseq 0x0308 fun j d =>
    let t := j.w 4 % 2 ^ 17
    let e := d.trig t
    let n := trigOf ((j.pkt.words ++ List.replicate 32 0).drop 5)
    if d.cmdReach j n.burgee = false ∨ (e.state ≠ tgFree ∧ d.cmdReach j e.burgee = false) then
      d.complete aseq St.notPermitted
    else if e.state = tgArmed ∨ e.state = tgFiring then d.complete aseq St.trigBusy
    else if n.thresh = 0 then d.complete aseq St.cmdParam
    else
      let keep := (e.state = tgDone ∨ e.state = tgFailed) ∧ bitOf (j.w 10) 0 = false
      let d := d.setTrig t { n with state := tgArmed, count := if keep then e.count else 0 }
      (d.tryFire t).complete aseq St.ok

/-- TRIG_DISARM (R276): it ends once the entry is FREE. -/
def trigDisarm (aseq : Nat) (d : Dev) : Dev :=
  d.cmd aseq 0x0309 fun j d =>
    let t := j.w 4 % 2 ^ 17
    let e := d.trig t
    if e.state ≠ tgFree ∧ d.cmdReach j e.burgee = false then d.complete aseq St.notPermitted
    else if e.state = tgFiring then d.setTrig t { e with disarm := true, jobs := e.jobs ++ [aseq] }
    else (d.setTrig t {}).complete aseq St.ok

/-- TRIG_ADVANCE (R277). -/
def trigAdvance (aseq : Nat) (d : Dev) : Dev :=
  d.cmd aseq 0x030A fun j d =>
    let inc := bits (j.w 4) 14 7
    let e := d.trig (bits (j.w 4) 31 15)
    if e.state ≠ tgFree ∧ d.cmdReach j e.burgee = false then d.complete aseq St.notPermitted
    else if inc = 0 then d.complete aseq St.ok
    else match d.trigAdv (bits (j.w 4) 31 15) inc j.burgee with
      | (d, true) => d.complete aseq St.ok
      | (d, false) => d.complete aseq St.trigInvalid

/-- Whether R97 lists a VC for a streamer type that SEND may carry. -/
def sendVcOk (stype vc : Nat) : Bool :=
  (stype = 0 && (vc = 2 || vc = 3 || vc = 6)) || (stype = 1 && vc = 4) || (stype = 5 && vc = 6)

/-- The check of an operation entry before it is written (R281). -/
def opEntryOk (w : List Nat) : Bool :=
  bits (nth w 0) 31 28 != 1
    || (64 ≤ nth w 12 % 16384 && nth w 12 % 16384 ≤ 4096
        && sendVcOk (bits (nth w 9) 10 7) (bits (nth w 9) 13 11))

/-- OP_WRITE (R280, R281). -/
def opWrite (aseq : Nat) (d : Dev) : Dev :=
  d.cmd aseq 0x030B fun j d =>
    let w := ((j.pkt.words ++ List.replicate 32 0).drop 5).take 16
    if opEntryOk w = false then d.complete aseq St.descInvalid
    else
      ({ d with red := { d.red with ops := d.red.ops.put (j.w 4 % 2 ^ 17) w } }).complete aseq St.ok

end Sys2Proof.Machine
end

