-- ==== Sys2Proof/Machine/RedRows.lean ====
section
/-! DEFINITION. The rows of in-network reduction (spec/09): the CTX commands, contributions, chunks and
results. -/

namespace Sys2Proof.Machine

/-! ### Completion of a context (R258) -/

/-- Whether a context has completed: at the root every chunk; elsewhere every partial sent and, with DOWN_V,
every result passed down. -/
def Ctx.finished (c : Ctx) : Bool :=
  c.low = c.nchunk && (c.root || !c.downV || c.resCount = c.nchunk - c.first)

/-- The context's TRIGGER advanced (R258, R278). -/
def Dev.ctxTrigger (d : Dev) (c : Ctx) (done : Bool) : Dev :=
  if c.trigV && c.trigOn = done then d.ownAdvance c.trigger 1 c.burgee c.trigger else d

/-- A token slot left by its combine context or by the last of its sends. -/
def Dev.dropToken (d : Dev) (q t : Nat) : Dev :=
  ({ d with red := { d.red with tokens := d.red.tokens.del (q, t) } }).syncCol q

/-- An OPEN context that has completed becomes DONE, or FREE with AUTOCLOSE (R244, R258). -/
def Dev.checkDone (d : Dev) (i : Nat) : Dev :=
  let c := d.ctx i
  if c.state = csOpen ∧ c.finished then
    let d := d.setCtx i { c with state := csDone }
    let d := match c.token with
      | some t => d.dropToken (ctxQuad i) t
      | none => d
    let d := if c.autoclose then (d.freeCtx i).unbindCtx i else d
    d.ctxTrigger c true
  else d

/-! ### Commands -/

/-- A CTX command of a tenant reaches its own contexts (R422). -/
def Dev.ctxCmd (d : Dev) (aseq op : Nat) (f : JEntry → Nat → Dev → Dev) : Dev :=
  d.cmd aseq op fun j d =>
    let i := bits (j.w 4) 15 0
    if d.chRole j.chan = 0 ∧ d.ctxReach i j.burgee = false then d.complete aseq St.notPermitted
    else f j i d

/-- CTX_OPEN (R243); under DET_TIME its burgee must be in lockstep (R464). -/
def ctxOpen (aseq : Nat) (d : Dev) : Dev :=
  d.cmd aseq 0x0301 fun j d =>
    let i := bits (j.w 4) 15 0
    let ws := j.pkt.words ++ List.replicate 32 0
    let w := d.classed ((ws.drop 5).take 9) (bitOf (j.w 14) 0)
    let c : Ctx := { w := w }
    let s := d.openStatus i c (if d.chRole j.chan = 0 then some j.burgee else none)
    if s = St.notPermitted then d.complete aseq s
    else if d.mayLaunch c.burgee = false then d.complete aseq St.modeConflict
    else if s ≠ St.ok then d.complete aseq s
    else (d.openCtx i w).complete aseq St.ok

/-- CTX_CLOSE (R244). -/
def ctxClose (aseq : Nat) (d : Dev) : Dev :=
  d.ctxCmd aseq 0x0302 fun j i d =>
    match d.closeBound i (bitOf (j.w 4) 16) with
    | (d, s) => d.complete aseq s

/-- CTX_ABORT (R262). -/
def ctxAbort (aseq : Nat) (d : Dev) : Dev :=
  d.ctxCmd aseq 0x0303 fun _ i d =>
    let c := d.ctx i
    if c.state = csOpen ∨ c.state = csStub then (d.abortCtx i acCommand).complete aseq St.ok
    else d.complete aseq St.ctxState

/-- Words 7 and 8 of a descriptor with the migration fields (R242). -/
def migWords (w : List Nat) (b e port : Nat) (migV oldOk : Bool) : List Nat :=
  setAt (setAt w 7 b) 8 (e * 2 ^ 24 + b2n migV * 2 ^ 23 + b2n oldOk * 2 ^ 22 + port)

/-- CTX_MIGRATE (R265). -/
def ctxMigrate (aseq : Nat) (d : Dev) : Dev :=
  d.ctxCmd aseq 0x0304 fun j i d =>
    let c := d.ctx i
    let b := j.w 5
    let e := bits (j.w 6) 7 0
    let high := c.slots.any fun s => decide (b ≤ s.n) && s.ins != []
    if c.state ≠ csOpen ∨ c.root = false ∨ e ≠ (c.epoch + 1) % 256 ∨ high then d.complete aseq St.ctxState
    else
      let c' := { c with state := csStub, stubAt := d.now, timer := d.now
                         w := migWords c.w b e (bits (j.w 6) 16 8) true c.oldOk }
      ((d.setCtx i c').retakeDeferred i).complete aseq St.ok

/-- CTX_REPARENT (R267): the migration fields of an OPEN context. -/
def ctxReparent (aseq : Nat) (d : Dev) : Dev :=
  d.ctxCmd aseq 0x0305 fun j i d =>
    let c := d.ctx i
    if c.state ≠ csOpen then d.complete aseq St.ctxState
    else
      let w := migWords c.w (j.w 5) (bits (j.w 6) 7 0) (bits (j.w 6) 16 8) (bitOf (j.w 6) 17)
        (bitOf (j.w 6) 18)
      (d.setCtx i { c with w := w }).complete aseq St.ok

/-- A result binding written (R274). -/
def Dev.bindCtx (d : Dev) (i region base trigWord : Nat) : Dev :=
  let b : Binding := { v := true, region := region, base := base, trig := bits trigWord 31 15
                       trigV := bitOf trigWord 14 }
  { d with red := { d.red with bindings := d.red.bindings.put i b } }

/-- Whether the region and the trigger that a CTX_BIND names are objects that the command may name (R422). -/
def Dev.bindReach (d : Dev) (j : JEntry) : Bool :=
  let r := d.region (j.w 5)
  let e := d.trig (bits (j.w 8) 31 15)
  (!r.v || r.check != j.w 5 / 65536 || d.cmdReach j r.burgee)
    && (!(bitOf (j.w 8) 14) || e.state == tgFree || d.cmdReach j e.burgee)

/-- CTX_BIND (R274). -/
def ctxBind (aseq : Nat) (d : Dev) : Dev :=
  d.ctxCmd aseq 0x0306 fun j i d =>
    if d.bindReach j = false then d.complete aseq St.notPermitted
    else (d.bindCtx i (j.w 5) (j.w 6 * 2 ^ 32 + j.w 7) (j.w 8)).complete aseq St.ok

/-- The status words 16 to 20 of a context. -/
def Dev.ctxStatus (d : Dev) (i : Nat) : List Nat :=
  let c := d.ctx i
  let busy := (c.slots.filter fun s => s.ins != [] && !s.complete).length
  let drain := if c.state = csStub then d.drain c else 0
  [c.state + c.cause * 8 + busy * 128, c.low, c.resCount,
   min drain 0xFFFF + min c.deferred.length 0xFFFF * 65536, c.dups + c.conflicts * 65536]

/-- CTX_STAT. -/
def ctxStat (aseq : Nat) (d : Dev) : Dev :=
  d.ctxCmd aseq 0x0307 fun _ i d =>
    d.complete aseq St.ok ([nth (d.ctx i).w 0, nth (d.ctx i).w 1] ++ d.ctxStatus i)

/-! ### Contributions (R246, R247) -/

/-- The cluster in whose input a packet waits. -/
def Dev.clusterOf (d : Dev) (pid : Nat) : Option Nat :=
  (List.range 4).find? fun q =>
    (d.net.attachIn.get (rcAttach q) []).any fun x => x.1 = pid && x.2.tgt = rcTgt q

/-- The engine's queue: the packets of one engine in the input of a cluster, in order of entry. -/
def Dev.engineQueue (d : Dev) (q e : Nat) : List Nat :=
  ((d.net.attachIn.get (rcAttach q) []).filter fun x =>
    match d.pkt? x.1 with
    | some s => x.2.tgt = rcTgt q && s.pkt.pclass = 2 && s.pkt.typ = 1 && s.pkt.collId / 1024 % 16 = e
    | none => false).map Prod.fst

/-- CONTRIBUTION_TAKEN: an engine takes the oldest contribution of its queue once it is stored whole. -/
def contributionTaken (pid : Nat) (d : Dev) : Dev :=
  match d.clusterOf pid, d.pkt? pid with
  | some q, some s =>
    if (d.engineQueue q (s.pkt.collId / 1024 % 16)).head? ≠ some pid then d
    else match d.takeWhole (rcAttach q) pid (rcTgt q) with
      | none => d
      | some (s, h, d) =>
        let i := s.pkt.collId % 65536
        if d.parking then
          let r := d.pktRec s.pkt s.vc s.ing rDomainOff 0x08 (16 * q + s.pkt.collId / 1024 % 16)
            St.pwrParking
          (((d.record q { r with pid := some pid }).redCount i 1 rDomainOff).release pid h).retryOut
        else
          (d.takeInput q pid).retryOut
  | _, _ => d

/-! ### Chunks (R254, R255, R292) -/

/-- The accumulator's elements as values. -/
def Ctx.accVals (c : Ctx) (acc : List Nat) : List Val :=
  if fmtInt c.cfmt then acc.map fun w => ofInt (bitsInt 32 w) 0 else acc.map of32

/-- A streamer of a context for chunk `n` (R254). -/
def Dev.ctxPkt (d : Dev) (i : Nat) (c : Ctx) (n stype fmt contrib : Nat) (payload : List Nat) : Packet :=
  { pclass := 2, burgee := c.burgee, hoplim := 63, dst := 0xFFFFE, src := d.devFeid, tag := n, typ := stype
    len := payload.length / 4, exact := c.exact, fmt := fmt, epoch := c.epochOf n, collId := ctxColl i c
    contrib := contrib, offset := n * c.chunkBytes fmt, payload := payload }

/-- A partial sent up the tree: nothing while the cluster's ring has no room (R147). -/
def Dev.sendPartial (d : Dev) (i n : Nat) : Dev :=
  let c := d.ctx i
  let port := c.upPort n
  match (c.slot n).acc with
  | none => d
  | some acc =>
    if d.localExcl port then d.abortCtx i acParentLost
    else
      let e := encodeVals c.partFmt (c.accVals acc) c.ovf
      let k := d.ctxPkt i c n 1 c.partFmt (d.ownKey i c) e.1
      match d.trySend k (rcAttach (ctxQuad i)) 4 (some [⟨port, 4, 0x1000, false⟩]) with
      | (d, .ok (some _)) =>
        let d := d.redCount i 3 1 e.2.sats
        let d := d.redCount i 3 2 (c.slot n).wrapped.length
        ((d.finishChunk i n).ctxTrigger c false).checkDone i
      | (d, _) => d

/-- CHUNK_COMPLETE: every rank of the lowest chunk of a non-root node is combined (R253, R254). -/
def chunkComplete (i n : Nat) (d : Dev) : Dev :=
  let c := d.ctx i
  if c.state = csOpen ∧ c.root = false ∧ c.ready n ∧ n = c.low then
    if d.slotted c.burgee then d.slotWait (64 + ctxEngine i) (.chunk i n) else d.sendPartial i n
  else d

/-- The holders of a root's result: its holder list, and the store controller with ABSORB (R255). -/
def Dev.resultHolders (d : Dev) (i : Nat) (c : Ctx) : List Holder :=
  let live := (d.ctxSlots i c).filter fun s => s.int || !(d.localExcl s.tgt)
  (live.map fun s => if s.int then ⟨attachOf s.tgt, 5, s.tgt, false⟩ else ⟨s.tgt, 5, 0x1000, false⟩)
    ++ (if c.absorb then [⟨hubAttach, 6, tgtStore, false⟩] else [])

/-- Records NO_PATH for the holders whose port is excluded (R176). -/
def Dev.noPathRecs (d : Dev) (q n : Nat) (k : Packet) (vc ing : Nat) : Dev :=
  d.each (List.range n) fun d _ => (d.countRefusal q rNoPath).record q (d.pktRec k vc ing rNoPath 0x06 q)

/-- A root's result converted, counted and stored once with its holders (R255); a combine context's goes to
the token's origin (R292). -/
def Dev.storeResult (d : Dev) (i n : Nat) : Dev :=
  let c := d.ctx i
  let q := ctxQuad i
  match (c.slot n).acc with
  | none => d
  | some acc =>
    let e := encodeVals c.rfmt (c.accVals acc) c.ovf
    let k := d.ctxPkt i c n 2 c.rfmt 0 e.1
    let k := match c.token with
      | none => k
      | some t => match d.red.tokens.look (q, t) with
        | none => k
        | some x => { k with dst := x.pkt.src, entropy := x.pkt.entropy, tag := x.pkt.tag
                             region := x.pkt.region
                             trigger := x.pkt.trigger, trigV := x.pkt.trigV
                             offset := x.pkt.offset + n * c.chunkBytes c.rfmt }
    let hs := d.resultHolders i c
    let gone := (d.ctxSlots i c).length + b2n c.absorb - hs.length
    let stored := if hs = [] then (d, some 0)
      else d.storePkt k (rcAttach q) 5 (flitsOf k) hs none (some i)
    match stored with
    | (_, none) => d
    | (d, some pid) =>
      let d := d.each hs fun d h => d.enterDesc pid h
      let d := d.noPathRecs q gone k 5 (rcAttach q)
      let d := (d.redCount i 0 5).redCount i 3 1 e.2.sats
      let wr := (c.slot n).wrapped.length
      let d := d.redCount i 3 2 wr
      let bins := e.2.bins ++ (if fmtInt c.rfmt then List.replicate wr 63 else [])
      let c := d.ctx i
      let d := d.setCtx i { c with hist := histAdd c.hist bins, resCount := c.resCount + 1 }
      ((d.finishChunk i n).ctxTrigger c false).checkDone i

/-- ROOT_CHUNK_COMPLETE: every rank of a chunk is combined at the root (R255). -/
def rootChunkComplete (i n : Nat) (d : Dev) : Dev :=
  let c := d.ctx i
  if (c.state = csOpen ∨ (c.state = csStub ∧ n < c.migB)) ∧ c.root ∧ c.ready n then
    if d.slotted c.burgee then d.slotWait (64 + ctxEngine i) (.root i n) else d.storeResult i n
  else d

/-! ### Results passing down (R256) -/

/-- The checks of a RESULT that arrives for a context: steps 1 to 4, 6 and 7 of R247 with RFMT as the format
and the conditions of R256.  Answers the chunk. -/
def Dev.resultTest (d : Dev) (k : Packet) (ing : Nat) : Except Nat Nat :=
  let i := k.collId % 65536
  let c := d.ctx i
  let fmtBad := !(d.redFmt k.fmt)
    || (fmtMx k.fmt && (k.payload.length % groupBytes k.fmt != 0 || k.offset % groupBytes k.fmt != 0))
  let b := c.chunkBytes c.rfmt
  let n := k.offset / b
  if c.state = csFree ∨ c.check ≠ k.collId / 65536 then .error rCtxUnknown
  else if c.state = csRetired then .error rStaleEpoch
  else if c.state = csAborted then .error rCtxAborted
  else if k.burgee ≠ c.burgee then .error rBurgeeViolation
  else if fmtBad then .error rFormatInvalid
  else if k.fmt ≠ c.rfmt ∨ 4 * k.len ≠ b ∨ k.offset % b ≠ 0 ∨ c.nchunk ≤ n then .error rContribShape
  else if c.downV = false ∨ c.root ∨ ing ≠ c.upPort n then .error rContribShape
  else if c.epochOk n k.epoch = false then .error rStaleEpoch
  else .ok n

/-- A result counted as passed down by its context (R258). -/
def Dev.passDown (d : Dev) (i n : Nat) : Dev :=
  let c := d.ctx i
  let d := d.setCtx i { c with resCount := c.resCount + 1, down := c.down ++ [n], timer := d.now }
  d.checkDone i

/-! ### Timers and errors -/

/-- ARRIVE_TO of a context in ns; 0 selects RED.GCFG.ARRIVE_TO, whose 0 is stored as 1. -/
def Dev.arriveNs (d : Dev) (i : Nat) (c : Ctx) : Nat :=
  100000 * (if c.arriveTo = 0 then max 1 (d.rd R.RED_GCFG_ARRIVE_TO (ctxQuad i)) else c.arriveTo)

/-- ARRIVAL_TIMEOUT (R261). -/
def arrivalTimeout (i : Nat) (d : Dev) : Dev :=
  let c := d.ctx i
  if (c.state = csOpen ∨ c.state = csStub) ∧ c.timer + d.arriveNs i c ≤ d.now then
    d.abortCtx i acArriveTimeout
  else d

/-- ACC_ECC (R262): an uncorrectable error in a context's accumulator units. -/
def accEcc (i : Nat) (d : Dev) : Dev :=
  let c := d.ctx i
  if c.state = csOpen ∨ c.state = csStub then
    (d.set R.RED_ERR_ACC_ECC_SEEN (ctxQuad i)).abortCtx i acAccEcc
  else d

/-- STUB_MIN in ns. -/
def Dev.stubMinNs (d : Dev) (i : Nat) : Nat := 100000 * d.rd R.RED_GCFG_STUB_MIN (ctxQuad i)

/-- STUB_RETIRE: DRAIN is 0 and STUB_MIN has passed (R266). -/
def stubRetire (i : Nat) (d : Dev) : Dev :=
  let c := d.ctx i
  if c.state = csStub ∧ d.drain c = 0 ∧ c.stubAt + d.stubMinNs i ≤ d.now then
    (d.setCtx i { c with state := csRetired, slots := [], deferred := [], fwd := [], units := 0 }).syncEngine i
  else d

end Sys2Proof.Machine
end

