-- ==== Sys2Proof/Machine/Land.lean ====
section
/-! DEFINITION. Regions registered, streamers that land, results passing down, TRIG pennants, schedules and
failure records received (spec/09, R256, R263; spec/10, R272 to R274, R283, R285; spec/17, R478). -/

namespace Sys2Proof.Machine

/-! ### Regions (R272, R374) -/

/-- The number of a region handle: its quadrant and index. -/
def regionNo (h : Nat) : Nat := h % 65536

/-- Whether an entry names a memory (R272) and, in HBM, lies wholly in the general area (R374): 0 for good, or a
status.  No rule refuses a region of a tile for its length. -/
def Dev.regionPlace (d : Dev) (r : Region) : Nat :=
  if memTarget r.target = false ∨ r.base % 256 ≠ 0 then St.cmdParam
  else if r.target < 64 then St.ok
  else if d.generalLo (r.target - 0x104) ≤ r.base ∧ r.base + r.len ≤ generalHi then St.ok
  else St.regionArea

/-- REGION_REG. -/
def regionReg (aseq : Nat) (d : Dev) : Dev :=
  d.cmd aseq 0x030D fun j d =>
    let h := j.w 4
    let r := regionOf ((j.pkt.words ++ List.replicate 32 0).drop 5)
    let cur := d.region h
    if d.cmdReach j r.burgee = false ∨ (cur.v ∧ d.cmdReach j cur.burgee = false) then
      d.complete aseq St.notPermitted
    else if h / 65536 = 0 ∨ r.check ≠ h / 65536 ∨ h / 4096 % 4 ≠ 0 then d.complete aseq St.cmdParam
    else
      let s := if r.v then d.regionPlace r else St.ok
      if s ≠ St.ok then d.complete aseq s
      else
        ({ d with red := { d.red with
          regions := d.red.regions.put (h / 16384 % 4, h % 4096) r } }).complete aseq St.ok

/-- Whether writes to a region are in progress. -/
def Dev.landingIn (d : Dev) (no : Nat) : Bool :=
  (d.red.landings.any fun l => l.region = no)
    || d.tiles.any fun x => (x.2.queues.getD 1 []).any fun o =>
      o.kind = .xfer && bitOf (nth o.desc 0) 31 && regionNo (nth o.desc 2) = no

/-- REGION_DEREG: the entry is cleared at once, and the command ends once the writes in progress have
landed. -/
def regionDereg (aseq : Nat) (d : Dev) : Dev :=
  d.cmd aseq 0x030E fun j d =>
    let h := j.w 4
    let r := d.region h
    if r.v = false ∨ r.check ≠ h / 65536 ∨ h / 65536 = 0 then d.complete aseq St.regionInvalid
    else if d.cmdReach j r.burgee = false then d.complete aseq St.notPermitted
    else
      let d := { d with red := { d.red with
        regions := d.red.regions.put (h / 16384 % 4, h % 4096) { r with v := false } } }
      if d.landingIn (regionNo h) then
        { d with red := { d.red with deregs := d.red.deregs ++ [(regionNo h, aseq)] } }
      else d.complete aseq St.ok

/-- REGION_DEREG_COMPLETE: the writes to a deregistered region have landed. -/
def regionDeregComplete (no : Nat) (d : Dev) : Dev :=
  if d.landingIn no then d
  else
    let mine := d.red.deregs.filter fun x => x.1 = no
    let d := { d with red := { d.red with deregs := d.red.deregs.filter fun x => x.1 ≠ no } }
    d.each mine fun d x => d.complete x.2 St.ok

/-! ### Landing (R273, R274) -/

/-- Whether a packet is a streamer that lands in memory. -/
def landsInMemory (k : Packet) : Bool :=
  k.pclass = 2 && (k.typ = 0 || k.typ = 2 || k.typ = 5 || (k.typ = 4 && k.region != 0))

/-- Where a streamer lands: region handle, offset, and the trigger it advances; nothing for a result without
a binding (R274). -/
def Dev.landingPlace (d : Dev) (k : Packet) : Option (Nat × Nat × Option Nat) :=
  if k.typ = 2 ∧ k.region = 0 then
    let b := d.red.bindings.get (k.collId % 65536) {}
    if b.v then some (b.region, b.base + k.offset, if b.trigV then some b.trig else none) else none
  else some (k.region, k.offset, if k.trigV then some k.trigger else none)

/-- A landing refused: no byte is written, and the record goes to the source (R273, R296). -/
def Dev.refuseLanding (d : Dev) (pid t : Nat) (h : Holder) (reason : Nat) : Dev :=
  let q := quadOfTile t
  let d := if reason = rRegionFault then d.set R.COL_ERR_REGION_SEEN q else d
  (d.failHolder pid h reason 0x09 q).retryOut

/-- STREAMER_LANDING: a streamer that the attach point of tile `t` holds whole is checked, and its bytes begin
to be written. -/
def streamerLanding (pid t : Nat) (d : Dev) : Dev :=
  match d.takeWhole (attachOf t) pid t with
  | none => d
  | some (s, h, d') =>
    if landsInMemory s.pkt = false then d
    else if s.pkt.typ = 2 ∧ d.redFmt s.pkt.fmt = false then d'.refuseLanding pid t h rFormatInvalid
    else match d'.landingPlace s.pkt with
      | none => d'.refuseLanding pid t h rRegionFault
      | some (r, off, trig) =>
        match d'.regionCheck r off s.pkt.payload.length s.pkt.burgee true with
        | .error e => d'.refuseLanding pid t h e
        | .ok e =>
          let l : Landing := { pid := pid, hold := h, target := e.target, addr := e.base + off
                               region := regionNo r, trig := trig }
          { d' with red := { d'.red with landings := d'.red.landings ++ [l] } }

/-- LANDING_COMPLETE: the last byte is visible; the packet is released and its trigger advanced. -/
def landingComplete (pid t : Nat) (d : Dev) : Dev :=
  match d.red.landings.find? fun l => l.pid = pid && l.hold.tgt = t with
  | none => d
  | some l =>
    let d := { d with red := { d.red with landings := d.red.landings.erase l } }
    match d.pkt? pid with
    | none => d
    | some s =>
      if d.pdOn (pdOfMem l.target) = false then d.refuseLanding pid t l.hold rDomainOff
      else
        let d := ((d.memWrite l.target l.addr s.pkt.payload).release pid l.hold).retryOut
        match l.trig with
        | some g => d.pktAdvance g 1 s.pkt s.vc s.ing
        | none => d

/-! ### Results passing down (R256, R267) -/

/-- A result counted by its context once its device has stored it whole for its holders (R258). -/
def Dev.countResult (d : Dev) (pid : Nat) : Dev :=
  match d.pkt? pid with
  | none => d
  | some s =>
    if s.pkt.pclass = 2 ∧ s.pkt.typ = 2 ∧ isPort s.ing ∧ s.have_ = s.flits ∧ s.stomped = false
        ∧ s.ctx.isSome then
      let i := s.pkt.collId % 65536
      let n := s.pkt.offset / (d.ctx i).chunkBytes (d.ctx i).rfmt
      (d.setPkt pid { s with ctx := none }).passDown i n
    else d

/-! ### TRIG pennants (R138, R283) -/

/-- The answers kept for 1 s. -/
def Dev.answersLive (d : Dev) : List (Nat × Nat × Nat × Nat) :=
  d.red.answered.filter fun x => decide (d.now < x.2.2.2)

/-- The RSP to a TRIG pennant. -/
def Dev.trigRsp (d : Dev) (k : Packet) (status : Nat) : Dev :=
  d.sendOut
    { pclass := 1, burgee := k.burgee, dst := k.src, src := d.devFeid, tag := k.tag, typ := 1, opcode := 1
      arg5 := status } (attach (trigQuad (k.arg5 / 2 ^ 15)) 3) 1

/-- TRIG_PENNANT_RECEIVED: an ADVANCE is applied once per source and TAG, and answered. -/
def trigPennantReceived (pid : Nat) (d : Dev) : Dev :=
  match d.takeHub pid fun k => k.pclass = 1 && k.typ = 6 && k.opcode = 1 with
  | none => d
  | some (s, d) =>
    let k := s.pkt
    let t := k.arg5 / 2 ^ 15
    let inc := k.arg5 / 2 ^ 7 % 256
    match d.answersLive.find? fun x => x.1 = k.src && x.2.1 = k.tag with
    | some x => d.trigRsp k x.2.2.1
    | none =>
      let r := if inc = 0 then (d, true) else d.trigAdv t inc k.burgee
      let st := if r.2 then St.ok else St.trigInvalid
      let d := r.1
      let d := { d with red := { d.red with
        answered := d.answersLive ++ [(k.src, k.tag, st, d.now + 1000000000)] } }
      d.trigRsp k st

/-! ### Schedules (R285) -/

/-- An operation entry with the indices of its template made absolute: NEXT and FAIL_NEXT, and the context of
OPEN and CLOSE with the context's TRIGGER. -/
def relocOp (tb cb : Nat) (w : List Nat) : List Nat :=
  let addTop (x : Nat) : Nat := (x / 2 ^ 15 + tb) % 2 ^ 17 * 2 ^ 15 + x % 2 ^ 15
  let a := bits (nth w 0) 31 28
  let nxt := (bits (nth w 0) 27 11 + (if bitOf (nth w 0) 10 then tb else 0)) % 2 ^ 17
  let w := setAt w 0 (a * 2 ^ 28 + nxt * 2 ^ 11 + nth w 0 % 2 ^ 11)
  let w := if bitOf (nth w 1) 14 then setAt w 1 (addTop (nth w 1)) else w
  if a = 2 then
    let w := if bitOf (nth w 8) 14 then setAt w 8 (addTop (nth w 8)) else w
    setAt w 11 (nth w 11 / 65536 * 65536 + (nth w 11 + cb) % 65536)
  else if a = 3 then setAt w 2 (nth w 2 / 65536 * 65536 + (nth w 2 + cb) % 65536)
  else w

/-- The entries of a schedule at its bases: triggers, operations and bindings by absolute index. -/
def Schedule.at_ (s : Schedule) (tb ob cb : Nat) : Schedule :=
  { trigs := s.trigs.map fun x =>
      (x.1 + tb, setAt x.2 3 ((bits (nth x.2 3) 31 17 + ob) % 32768 * 2 ^ 17))
    ops := s.ops.map fun x => (x.1 + ob, relocOp tb cb x.2)
    binds := s.binds.map fun x =>
      (x.1 + cb, setAt x.2 3 (if bitOf (nth x.2 3) 14 then
        (nth x.2 3 / 2 ^ 15 + tb) % 2 ^ 17 * 2 ^ 15 + nth x.2 3 % 2 ^ 15 else nth x.2 3))
    regions := s.regions
    first := s.first + tb }

/-- The context of an OPEN entry. -/
def openedCtx (w : List Nat) : Option Nat :=
  if bits (nth w 0) 31 28 = 2 then some (nth w 11 % 65536) else none

/-- The status of a launch of a schedule at its place (R280, R281, R285). -/
def Dev.launchStatus (d : Dev) (j : JEntry) (s : Schedule) (tb ob : Nat) : Nat :=
  let ctxs := s.ops.filterMap (fun x => openedCtx x.2) ++ s.binds.map Prod.fst
  let mine := (s.trigs.all fun x => d.cmdReach j (trigOf x.2).burgee)
    && s.regions.all fun x => d.cmdReach j (regionOf x.2).burgee
  if mine = false then St.notPermitted
  else if (s.trigs.all fun x => d.mayLaunch (trigOf x.2).burgee) = false then St.modeConflict
  else if s.ops.any (fun x => x.1 / 32768 ≠ ob / 32768 || !(opEntryOk x.2))
      || s.trigs.any (fun x => x.1 / 32768 ≠ tb / 32768) || ob / 32768 ≠ tb / 32768
      || decide (2 ^ 17 ≤ tb) || decide (2 ^ 17 ≤ ob) then St.descInvalid
  else if s.trigs.any (fun x => (d.trig x.1).state ≠ tgFree) then St.trigBusy
  else if ctxs.any (fun i => decide (65536 ≤ i) || (d.ctx i).state ≠ csFree) then St.ctxBusy
  else St.ok

/-- COLL_LAUNCH: a schedule written at its bases, armed, and its first entry advanced. -/
def collLaunch (aseq : Nat) (d : Dev) : Dev :=
  d.cmd aseq 0x030C fun j d =>
    match d.red.schedules.look (j.w 4 % 65536) with
    | none => d.complete aseq St.descInvalid
    | some s =>
      let a := s.at_ (j.w 5) (j.w 6) (j.w 7)
      let st := d.launchStatus j a (j.w 5) (j.w 6)
      if d.parking then d.complete aseq St.pwrParking
      else if st ≠ St.ok then d.complete aseq st
      else
        let d := d.each a.regions fun d x => { d with red := { d.red with
          regions := d.red.regions.put (x.1 / 16384 % 4, x.1 % 4096) (regionOf x.2) } }
        let d := d.each a.binds fun d x =>
          d.bindCtx x.1 (nth x.2 0) (nth x.2 1 * 2 ^ 32 + nth x.2 2) (nth x.2 3)
        let d := { d with red := { d.red with
          ops := a.ops.foldl (fun (t : Tab Nat (List Nat)) (x : Nat × List Nat) => t.put x.1 x.2) d.red.ops } }
        let d := d.each a.trigs fun d x => d.setTrig x.1 { trigOf x.2 with state := tgArmed, count := 0 }
        let d := d.ownAdvance a.first 1 (d.trig a.first).burgee a.first
        d.complete aseq St.ok

/-! ### Failure records received (R263, R478) -/

/-- What a failure record tells the block whose packet it names: a SEND in progress fails (R281). -/
def Dev.toldSend (d : Dev) (tag reason : Nat) (pid : Option Nat) : Dev :=
  match d.red.running.find? fun o => o.action = 1 && o.outcome.isNone
      && (match pid with
        | some p => o.pids.contains p
        | none => o.trig = tag) with
  | some o => d.opOutcome o.trig reason
  | none => d

/-- The chunk numbers of an instruction's blocks include `c` (R319, R320). -/
def AsyncOp.ownsChunk (o : AsyncOp) (c : Nat) : Bool :=
  if o.kind = .mmac then
    let m := bits (nth o.desc 1) 31 16 * bits (nth o.desc 1) 15 0
    decide (nth o.desc 14 ≤ c) && decide (c < nth o.desc 14 + ceilDiv m (512 * 2 ^ bits (nth o.desc 13) 13 12))
  else c = nth o.desc 2

/-- Whether a record names a block of an instruction: by its packet, or by COLL_ID and chunk (R321). -/
def AsyncOp.namedBy (o : AsyncOp) (pid : Option Nat) (coll c : Nat) : Bool :=
  (o.kind = .mmac || o.kind = .cinj) && match pid with
    | some p => o.pids.contains p
    | none => (if o.kind = .mmac then nth o.desc 12 else nth o.desc 0) = coll && o.ownsChunk c

/-- What a failure record tells a tile: the instruction that injected the block takes the first one's reason
(R321). -/
def Dev.toldTile (d : Dev) (pid : Option Nat) (coll c reason : Nat) : Dev :=
  { d with tiles := d.tiles.map fun (x : Nat × Tile) =>
      (x.1, { x.2 with queues := x.2.queues.map fun l => l.map fun o =>
        if o.err.isNone && o.namedBy pid coll c then { o with err := some reason } else o }) }

/-- FAIL_PENNANT_RECEIVED: a neighbour record aborts the context it names (R263), and any other record goes to
the block that sent the item. -/
def failPennantReceived (pid : Nat) (d : Dev) : Dev :=
  match d.takeHub pid isFail with
  | none => d
  | some (s, d) =>
    let k := s.pkt
    if k.dst = 0xFFFFE then
      let i := k.arg6 % 65536
      let c := d.ctx i
      if k.arg5 / 2 ^ 28 = 7 ∧ k.opcode = rCtxAborted ∧ c.state ≠ csFree ∧ c.check = k.arg6 / 65536 then
        d.abortCtx i acNeighbour (some s.ing)
      else d
    else
      let d := if k.arg5 / 2 ^ 28 = 1 then d.toldTile none k.arg6 k.tag k.opcode else d
      (d.toldSend k.tag k.opcode none).emit (.toBlock tgtThidan k.opcode k.tag)

/-- FAILURE_RECORD_ISSUE of the table, which also tells a SEND of this device that a streamer of its own was
refused, and a tile that a block of its own was. -/
def recordIssue (q : Nat) (d : Dev) : Dev :=
  let d' := failureRecordIssue q d
  match d.net.recq.get q [] with
  | [] => d'
  | r :: _ =>
    if (d'.net.recq.get q []).length < (d.net.recq.get q []).length then
      if r.pid.isSome then (d'.toldSend r.tag r.reason r.pid).toldTile r.pid r.name r.tag r.reason
      else if r.item = 1 ∧ r.toBlock.isSome then d'.toldTile none r.name r.tag r.reason
      else d'
    else d'

end Sys2Proof.Machine
end

