-- ==== Sys2Proof/Machine/Gate.lean ====
section
/-! DEFINITION. The dispatch unit: expert dispatch and combine (spec/10, R288 to R294). -/

namespace Sys2Proof.Machine

/-! ### Groups and tokens (R288 to R290) -/

def Dev.group (d : Dev) (q g : Nat) : Group := d.red.groups.get (q, g) {}

/-- Elements of a chunk, and bytes of a chunk, of a group. -/
def Group.chunkEl (g : Group) : Nat := 512 * 2 ^ g.chunk
def Group.chunkBytes (g : Group) : Nat := elemOffset g.cfmt g.chunkEl

/-- The placeholder `r` of a token at the attach point of its gating tile (R290). -/
def placeholder (t r : Nat) : Holder := ⟨attachOf t, 2, 0x3000 + r, false⟩

/-- The attach point's holders of a token that are still placeholders. -/
def placeholders (s : Stored) : List Holder := s.holders.filter fun h => decide (0x3000 ≤ h.tgt) && !(isPort h.eg)

/-- Every placeholder of a token released. -/
def Dev.dropPlaceholders (d : Dev) (pid : Nat) : Dev :=
  match d.pkt? pid with
  | none => d
  | some s => d.each (placeholders s) fun d h => d.release pid h

/-- The checks of a token by the dispatch unit (R211, R289). -/
def Dev.tokenTest (d : Dev) (t : Nat) (k : Packet) : Nat :=
  let q := quadOfTile t
  let g := d.group q (k.collId % 256)
  if k.collId ≥ 256 ∨ g.v = false ∨ g.tile ≠ t then rDispatchInvalid
  else if d.redFmt k.fmt = false then rFormatInvalid
  else if k.fmt ≠ g.cfmt ∨ k.len = 0 ∨ g.chunkBytes = 0 ∨ 4 * k.len % g.chunkBytes ≠ 0 then rDispatchInvalid
  else if k.burgee ≠ g.burgee ∧ (d.enforced q ∨ k.burgee ≠ 0) then rBurgeeViolation
  else if d.pdOn (pdTile t) = false then rDomainOff
  else 0

/-- The lowest free token slot of a quadrant. -/
def Dev.freeToken (d : Dev) (q : Nat) : Option Nat :=
  let used := (d.red.tokens.filter fun x => x.1.1 = q).map fun x => x.1.2
  (List.range (used.length + 1)).find? fun i => decide (i < 4096) && !(used.contains i)

/-- The gate ring entry of a token (R290, R323). -/
def tokenBytes (slot group : Nat) (k : Packet) : List Nat :=
  ([slot * 65536 + group * 256, k.src * 4096, k.tag, 0].flatMap (bytesLE 4)) ++ k.payload

/-- The oldest waiting token of a quadrant placed: it takes a slot and is written to its tile's gate ring, whose
writing releases the tile's holder.  It waits while there is no slot or the ring is full. -/
def Dev.placeToken (d : Dev) (q : Nat) : Dev :=
  match d.red.tokenWait.get q [] with
  | [] => d
  | (pid, h, _) :: rest =>
    let drop (d : Dev) : Dev := { d with red := { d.red with tokenWait := d.red.tokenWait.put q rest } }
    match d.pkt? pid, d.freeToken q with
    | some s, some n =>
      let g := s.pkt.collId % 256
      match d.rxPut h.tgt false (tokenBytes n g s.pkt) with
      | none => d
      | some d =>
        let k : Token := { pid := pid, group := g, pkt := s.pkt, ing := s.ing
                           due := d.now + 1000 * (d.group q g).gateTo }
        let d := drop d
        let d := ({ d with red := { d.red with tokens := d.red.tokens.put (q, n) k } }).syncCol q
        (d.release pid h).retryOut
    | none, _ => drop d
    | _, none => d

/-- The placeholders a token is stored with beside its tile's holder: K, as its group says when it arrives
(R153, R290). -/
def Dev.tokenHolders (d : Dev) (t : Nat) (k : Packet) : List Holder :=
  let g := d.group (quadOfTile t) (k.collId % 256)
  if k.pclass = 2 ∧ k.typ = 3 ∧ k.collId < 256 ∧ g.v ∧ g.tile = t then (List.range g.k).map (placeholder t)
  else []

/-- DISPATCH_TOKEN_RECEIVED: a token that the attach point of its tile holds whole is checked, and takes a slot
or waits for one. -/
def dispatchTokenReceived (pid t : Nat) (d : Dev) : Dev :=
  match d.takeWhole (attachOf t) pid t with
  | none => d
  | some (s, h, d') =>
    if s.pkt.pclass ≠ 2 ∨ s.pkt.typ ≠ 3 then d
    else
      let q := quadOfTile t
      let e := d'.tokenTest t s.pkt
      if e ≠ 0 then
        let d := if e = rDispatchInvalid then d'.set R.COL_ERR_DISPATCH_SEEN q else d'
        ((d.failHolder pid h e 0x09 q).dropPlaceholders pid).retryOut
      else
        let d := d'
        let d := { d with red := { d.red with
          tokenWait := d.red.tokenWait.put q (d.red.tokenWait.get q [] ++ [(pid, h, d.now)]) } }
        if (d.red.tokenWait.get q []).length = 1 then d.placeToken q else d

/-- TOKEN_SLOT_AVAILABLE: a waiting token of quadrant `q` is placed. -/
def tokenSlotAvailable (q : Nat) (d : Dev) : Dev := d.placeToken q

/-! ### The choice of experts (R291) -/

/-- A failure record of a token to its origin (R291, R294). -/
def Dev.tokenRec (d : Dev) (q : Nat) (k : Token) (reason : Nat) : Dev :=
  let d := if reason = rDispatchInvalid then d.set R.COL_ERR_DISPATCH_SEEN q else d
  d.record q { d.pktRec k.pkt 2 k.ing reason 0x09 q with item := 8, pid := some k.pid }

/-- The slots that a lookup of the origin gives for results (R291 step 2). -/
def Dev.originSlot (d : Dev) (q : Nat) (k : Token) : Except Nat Slot :=
  let p : Packet := { pclass := 2, typ := 2, dst := k.pkt.src, src := d.devFeid, entropy := k.pkt.entropy
                      burgee := k.pkt.burgee, len := 64 }
  match (d.routePkt q p 5 (rcAttach q)).1 with
  | .port e _ => .ok { tgt := e, int := false }
  | .loc t => .ok { tgt := t, int := true }
  | .refuse r => .error r
  | .mcast _ _ => .error rNoRoute

/-- The numbers and weights of a gate record. -/
def recExpert (w : List Nat) (r : Nat) : Nat := nth w (1 + r / 4) / 2 ^ (24 - 8 * (r % 4)) % 256
def recWeight (w : List Nat) (r : Nat) : Nat := nth w (3 + r)

/-- The expert map entry of expert `e` of a group, if it lies in the map and is valid. -/
def Dev.expertOf (d : Dev) (q : Nat) (g : Group) (e : Nat) : Option Expert :=
  let i := g.expBase + e
  let x := d.red.experts.get (q, i) {}
  if i < 4096 && x.v then some x else none

/-- The words of a combine context (R291 step 3). -/
def combineWords (g : Group) (i nchunk nin check : Nat) : List Nat :=
  [check * 65536 + 128 + b2n g.cls * 64 + b2n g.ovf * 32 + 16 + 1,
   g.burgee * 2 ^ 23 + g.cfmt * 2 ^ 17 + g.cfmt * 2 ^ 11 + g.chunk * 2 ^ 9 + nchunk % 128, nchunk,
   (nin - 1) * 2 ^ 22 + (g.keyBase + g.k * (i - g.cmbBase)) * 2 ^ 6,
   (g.holdBase + (i - g.cmbBase)) * 2 ^ 17, 0, 0, 0, 0]

/-- The token as it goes to an expert (R291 step 4): the fields patched at the egress. -/
def expertPkt (s : Stored) (x : Expert) (ret coll r : Nat) : Packet :=
  { fwdPkt s with dst := x.feid, src := ret, collId := coll, contrib := r }

/-- A placeholder turned into a send to an expert; refused by the lookup, it is released with a record to the
origin. -/
def Dev.sendExpert (d : Dev) (q t : Nat) (k : Token) (x : Expert) (ret coll r : Nat) : Dev :=
  match d.pkt? k.pid with
  | none => d
  | some s =>
    let ph := placeholder t r
    let p := expertPkt s x ret coll r
    let res := d.routePkt q { p with entropy := x.entropy } 2 (attachOf t)
    let d := d.countRoute q res
    let go (h : Holder) : Dev :=
      let d := d.setPkt k.pid { s with holders := s.holders.erase ph ++ [h], patch := s.patch ++ [(h, p)] }
      d.enterDesc k.pid h
    match res.1 with
    | .port e v => go ⟨e, v, 0x4000 + r, false⟩
    | .loc u => match localHolder p 2 u with
      | .ok h => go h
      | .error e => ((d.countRefusal q e).tokenRec q k e).release k.pid ph
    | .refuse e => (d.tokenRec q k e).release k.pid ph
    | .mcast _ _ => ((d.countRefusal q rNoRoute).tokenRec q k rNoRoute).release k.pid ph

/-- A token of no expert completed with zeros (R291, R292). -/
def Dev.zeroResults (d : Dev) (q slot : Nat) (g : Group) (k : Token) (o : Slot) : Dev :=
  let b := g.chunkBytes
  let h : Holder := if o.int then ⟨attachOf o.tgt, 5, o.tgt, false⟩ else ⟨o.tgt, 5, 0x1000, false⟩
  let d := d.each (List.range (4 * k.pkt.len / b)) fun d n =>
    d.sendOut
      { pclass := 2, burgee := g.burgee, hoplim := 63, dst := k.pkt.src, entropy := k.pkt.entropy
        src := d.devFeid, tag := k.pkt.tag, typ := 2, len := b / 4, exact := g.cls || d.detExact, fmt := g.cfmt
        offset := (k.pkt.offset + n * b) % 2 ^ 64, region := k.pkt.region, trigger := k.pkt.trigger
        trigV := k.pkt.trigV, payload := List.replicate b 0 } (rcAttach q) 5 (some [h])
  (d.dropPlaceholders k.pid).dropToken q slot

/-- A free combine context of a group. -/
def Dev.freeCombine (d : Dev) (q : Nat) (g : Group) : Option Nat :=
  ((List.range g.cmbN).map fun i => g.cmbBase + i).find? fun i =>
    ctxQuad i = q && ((d.ctx i).state = csFree || (d.ctx i).state = csRetired)

/-- The combine context of a token written, opened, and the token sent to its experts (R291). -/
def Dev.openCombine (d : Dev) (q slot i : Nat) (g : Group) (k : Token) (w : List Nat) (o : Slot) : Dev :=
  let nsel := nth w 0 / 16 % 16
  let c := d.red.dispCheck.get q 0
  let check := if (c + 1) % 65536 = 0 then 1 else (c + 1) % 65536
  let picks := (List.range nsel).filterMap fun r => (d.expertOf q g (recExpert w r)).map fun x => (r, x)
  let kb := g.keyBase + g.k * (i - g.cmbBase)
  let keys := picks.zipIdx.foldl (fun (m : Tab (Nat × Nat) KeyEnt) x =>
    m.put (q, kb + x.2) { key := x.1.1, child := false, wv := true, weight := recWeight w x.1.1 }) d.red.keys
  let nchunk := 4 * k.pkt.len / g.chunkBytes
  let words := d.classed (combineWords g i nchunk picks.length check) false
  let d := { d with red := { d.red with
    dispCheck := d.red.dispCheck.put q check
    keys := keys
    holders := d.red.holders.put (q, g.holdBase + (i - g.cmbBase)) o } }
  let fail (d : Dev) : Dev := ((d.tokenRec q k rDispatchInvalid).dropPlaceholders k.pid).dropToken q slot
  if 64 < nchunk then fail d
  else if d.openStatus i { w := words } none ≠ St.ok then fail d
  else
    let d := d.openCtx i words
    let d := (d.setCtx i { d.ctx i with token := some slot }).count 0x09 q 0 5
    let k := { k with ctx := some i }
    let d := { d with red := { d.red with tokens := d.red.tokens.put (q, slot) k } }
    let coll := check * 65536 + i
    let d := d.each picks fun d x => d.sendExpert q g.tile k x.2 g.ret coll x.1
    d.dropPlaceholders k.pid

/-- A gate record taken out, its GPOST complete (R323). -/
def Dev.takeGateRec (d : Dev) (q : Nat) (r : GateRec) : Dev :=
  let d := { d with red := { d.red with gateRecs := d.red.gateRecs.put q ((d.red.gateRecs.get q []).drop 1) } }
  (d.modTile r.tile fun x => { x with
    queues := x.queues.map fun l => l.map fun o =>
      if o.token = r.token ∧ o.kind = .gpost then { o with posted := true } else o }).count 0x09 q 0 3

/-- GATE_RECORD_TAKEN: the oldest gate record of a quadrant (R291).  It waits while its group has no free
context. -/
def gateRecordTaken (q : Nat) (d : Dev) : Dev :=
  match d.red.gateRecs.get q [] with
  | [] => d
  | r :: _ =>
    let w := r.words
    let slot := nth w 0 / 65536
    let gi := nth w 0 / 256 % 256
    let nsel := nth w 0 / 16 % 16
    let g := d.group q gi
    match d.red.tokens.look (q, slot) with
    | none => d.takeGateRec q r
    | some k =>
      if k.ctx.isSome ∨ k.group ≠ gi ∨ g.tile ≠ r.tile then d.takeGateRec q r
      else
        let fail (d : Dev) (e : Nat) : Dev :=
          ((d.tokenRec q k e).dropPlaceholders k.pid).dropToken q slot
        if g.k < nsel then fail (d.takeGateRec q r) rDispatchInvalid
        else
          let bad := (List.range nsel).filter fun x => (d.expertOf q g (recExpert w x)).isNone
          match d.originSlot q k with
          | .error e => fail (d.takeGateRec q r) e
          | .ok o =>
            if bad.length = nsel then
              let d := (d.takeGateRec q r).each bad fun d _ => d.tokenRec q k rNoPath
              d.zeroResults q slot g k o
            else match d.freeCombine q g with
              | none => d
              | some i =>
                let d := (d.takeGateRec q r).each bad fun d x =>
                  (d.tokenRec q k rNoPath).release k.pid (placeholder g.tile x)
                d.openCombine q slot i g k w o

/-- GATE_TIMEOUT: no gate record within GATE_TO of the token's delivery (R294). -/
def gateTimeout (q slot : Nat) (d : Dev) : Dev :=
  match d.red.tokens.look (q, slot) with
  | none => d
  | some k =>
    if k.ctx.isSome ∨ d.now < k.due then d
    else
      let d := ((d.set R.COL_ERR_GATE_TO_SEEN q).count 0x09 q 0 4).tokenRec q k rGateTimeout
      (((d.dropPlaceholders k.pid).dropToken q slot).placeToken q).retryOut

/-- EXPERT_FAIL_RECEIVED: an expert's CTX_ABORTED, routed to the quadrant's cluster, aborts the combine context
of its COLL_ID (R293). -/
def expertFailReceived (pid : Nat) (d : Dev) : Dev :=
  match (List.range 4).find? fun q => (d.net.attachIn.get (rcAttach q) []).any fun x => x.1 = pid with
  | none => d
  | some q => match d.takeWhole (rcAttach q) pid (rcTgt q) with
    | none => d
    | some (s, h, d') =>
      if isFail s.pkt = false then d
      else
        let d := (d'.release pid h).retryOut
        let i := s.pkt.arg6 % 65536
        let c := d.ctx i
        if s.pkt.opcode = rCtxAborted ∧ ctxQuad i = q ∧ c.token.isSome ∧ c.check = s.pkt.arg6 / 65536 then
          d.abortCtx i acNeighbour
        else d.toldSend s.pkt.tag s.pkt.opcode none

/-- Tokens that have waited for XBAR.AGE of VC2 in the dispatch unit's queue are flushed with QUEUE_AGED
(R163, R290). -/
def Dev.ageTokens (d : Dev) (e : Nat) : Dev :=
  let q := quadOf e
  let lim := 100000 * d.ageLimit e 2
  let old := (d.red.tokenWait.get q []).filter fun x => x.2.1.eg = e && decide (x.2.2 + lim ≤ d.now)
  if old = [] then d
  else
    let d := { d with red := { d.red with
      tokenWait := d.red.tokenWait.put q ((d.red.tokenWait.get q []).filter fun x => !(old.contains x)) } }
    (d.faultEvent 0x04 0x03 e).each old fun d x =>
      ((d.failHolder x.1 x.2.1 0x20 0x04 e).dropPlaceholders x.1).retryOut

/-- AGEING_TICK of the table: the tick of a queue, of the store controller's queue with the results it holds,
and of a dispatch unit's queue with its waiting tokens (R163, R290, R396). -/
def queueTick (e v : Nat) (d : Dev) : Dev :=
  let d := ageTick e v d
  if !(isPort e) && v = 2 && d.now % 100000 = 0 then d.ageTokens e else d

end Sys2Proof.Machine
end

