-- ==== Sys2Proof/Machine/Reset.lean ====
section
/-! DEFINITION. Resets below and at DEVICE level (spec/17, R483 to R489, R495; spec/11, R334) and the fabric-wide
abort (R490 to R493). -/

namespace Sys2Proof.Machine

def rReset : Nat := 0x02
def rJobAborted : Nat := 0x03

/-- Reset levels (R483). -/
def rlTile : Nat := 0
def rlDie : Nat := 1
def rlPartition : Nat := 2
def rlCompute : Nat := 3
def rlDevice : Nat := 4
def rlCluster : Nat := 5
def rlStore : Nat := 6

/-! ### Attach points cleared (R485) -/

/-- One holder of a stored packet ended with a record, and its descriptor or its place in a block's input with
it. -/
def Dev.killHolder (d : Dev) (pid : Nat) (h : Holder) (reason : Nat) : Dev :=
  let d := { d with net := { d.net with
    crossing := d.net.crossing.filter fun x => x ≠ (pid, h)
    attachIn := d.net.attachIn.put h.eg ((d.net.attachIn.get h.eg []).filter fun x => x ≠ (pid, h)) } }
  (d.dropDesc pid h).failHolder pid h reason 0x10 (quadOf h.eg)

/-- The packets of an attach point's queues, of its block's input and of its fixed rings released with a
record; one whose sending has begun is finished. -/
def Dev.flushAttach (d : Dev) (e reason : Nat) : Dev :=
  let d := { d with
    red := { d.red with landings := d.red.landings.filter fun l => l.hold.eg ≠ e }
    mgmt := { d.mgmt with outWait := d.mgmt.outWait.filter fun w => w.ing ≠ e } }
  let toE := d.net.pkts.flatMap fun x => (x.2.holders.filter fun h => h.eg = e).map fun h => (x.1, h)
  let ofE := d.net.pkts.flatMap fun x => match x.2.store with
    | .ring r _ _ => if r = e then
        (x.2.holders.filter fun h => !(x.2.begun.contains h)).map fun h => (x.1, h) else []
    | .pool _ _ _ => []
  d.each (toE ++ ofE).eraseDups fun d x => d.killHolder x.1 x.2 reason

/-! ### Triggers, tokens and hoists ended -/

/-- An operation in progress fails with a code, and its entry takes a state (R485, R493). -/
def Dev.killOp (d : Dev) (t code state : Nat) : Dev :=
  let d := match d.red.running.find? fun o => o.trig = t with
    | none => d
    | some o =>
      let d := { d with red := { d.red with running := d.red.running.filter fun x => x.trig ≠ t } }
      (d.count 0x09 (trigQuad t) 2 o.action).opFailRec t code
  let e := d.trig t
  let d := if state = tgFree ∨ e.disarm then d.setTrig t {} else d.setTrig t { e with state := state, jobs := [] }
  d.each e.jobs fun d a => d.complete a St.ok

/-- The tokens in slots that `p` picks released, with a record to the origin. -/
def Dev.killTokens (d : Dev) (reason : Nat) (p : Nat → Token → Bool) : Dev :=
  d.each (d.red.tokens.filter fun x => p x.1.1 x.2 && x.2.ctx.isNone) fun d x =>
    ((d.tokenRec x.1.1 x.2 reason).dropPlaceholders x.2.pid).dropToken x.1.1 x.1.2

/-- A hoist instance fails with CAUSE MEMBER to its parent and children (R485, R493). -/
def Dev.killHoist (d : Dev) (i : Nat) : Dev :=
  let h := d.hoist i
  let x := d.inst i
  if x.first.isNone then d
  else
    let d := if h.root then d else d.sendHoist (d.hoistPen h 3 (hoistId i h) 1 0) h.parentPort
    d.decideFail i 1

/-- The hoist entries that `p` picks. -/
def Dev.killHoists (d : Dev) (p : HoistEnt → HoistInst → Bool) : Dev :=
  d.each ((d.time.insts.map Prod.fst).filter fun i => p (d.hoist i) (d.inst i)) fun d i => d.killHoist i

/-! ### Tiles (R334, R369) -/

/-- One of the steps that a command waits for has ended: it completes with the last. -/
def Dev.jobStep (d : Dev) (aseq : Nat) : Dev :=
  let d := d.modJob aseq fun j => { j with waits := j.waits - 1 }
  match d.job? aseq with
  | some j => if j.waits = 0 then d.complete aseq j.status else d
  | none => d

/-- The lines of a tile that its reset remaps to spares: each that took an uncorrectable error or corrected one
bit twice (R369).  A bank has 16 spares. -/
def Dev.remapLines (d : Dev) (t : Nat) : Dev :=
  let e := d.eccOf t
  let d := d.setEcc t { e with badLines := [] }
  d.each e.badLines fun d l =>
    let e := d.eccOf t
    let b := l % 32
    let n := e.spares.get b 0
    if 16 ≤ n then d.set R.SRAM_STAT_SPARE_OUT t
    else
      ((d.setEcc t { e with spares := e.spares.put b (n + 1), remapped := (e.remapped ++ [l]).eraseDups }).bump
        R.SRAM_MTEST_SPARES_USED t).recordNew

/-- A march test cut short: its command no longer waits for it. -/
def Dev.endMarch (d : Dev) (t : Nat) : Dev :=
  match (d.eccOf t).march with
  | none => d
  | some (_, job) =>
    let d := (d.setEcc t { d.eccOf t with march := none }).wr R.SRAM_MTEST_RESULT 0 t
    match job with
    | none => d
    | some a => d.jobStep a

/-- A tile reset (R334): what it held is discarded and recorded, its launches fail, its model fails, and it is
RESETTING until the release. -/
def Dev.resetTile (d : Dev) (t rcause : Nat) : Dev :=
  if d.tileState t = tsOff ∨ d.tileState t = tsResetting then d
  else
    let x := d.tile t
    let d := d.endMarch t
    let d := (d.wrSat R.TILE_RSTREC0_DISCARDED x.buf.length t).wr R.TILE_RSTREC0_RCAUSE rcause t
    let d := (d.set R.TILE_RSTREC0_VALID t).set R.TILE_ERR_RESET_SEEN t
    let d := d.wr R.TILE_RSTREC1_FIRST_EA (match x.buf with
      | s :: _ => s.ea
      | [] => 0) t
    let d := (d.setTile t {}).setTileState t tsResetting
    let d := { d with
      time := { d.time with slotReady := d.time.slotReady.filter fun i => i.act ≠ SlotAct.block t && i.act ≠ SlotAct.launch t }
      red := { d.red with gateRecs := d.red.gateRecs.map fun (g : Nat × List GateRec) => (g.1, g.2.filter fun r => r.tile ≠ t) } }
    let ls := (match x.prog with
      | some l => [l]
      | none => []) ++ x.lq
    let d := d.each ls fun d l => d.launchEnds l St.tileOff
    let d := d.setEcc t { d.eccOf t with resetAt := none }
    let d := d.remapLines t
    match d.modelOf t with
    | some s => d.failModel s
    | none => d

/-- A tile accepts again after a reset. -/
def Dev.freeTile (d : Dev) (t : Nat) : Dev :=
  if d.tileState t ≠ tsResetting then d
  else if d.pdOn (pdTile t) = false then d.setTileState t tsOff
  else d.setTileState t
    (if d.rd R.PWR_OPSTAT_OP_CUR = 3 ∨ d.rd R.PWR_OPSTAT_OP_TGT = 3 then tsParked else tsIdle)

/-! ### Scopes -/

/-- The tiles of a reset's scope (R483). -/
def Dev.scopeTiles (d : Dev) (level target : Nat) : List Nat :=
  if level = rlTile then [target]
  else if level = rlDie then (List.range 8).map fun i => 8 * target + i
  else if level = rlPartition then (List.range 64).filter fun t =>
    (d.tile t).prog.isSome && (d.tile t).burgee = target
  else if level = rlCompute ∨ level = rlDevice then List.range 64
  else []

/-- Whether a target exists (R486). -/
def resetTargetOk (level target : Nat) : Bool :=
  (level = rlTile && target < 64) || (level = rlDie && target < 8) || (level = rlPartition && target < 512)
    || level = rlCompute || level = rlDevice || (level = rlCluster && target < 4) || level = rlStore

/-- The rank of a level among overlapping scopes (R495). -/
def levelRank (l : Nat) : Nat :=
  if l = rlTile then 0 else if l = rlCluster ∨ l = rlStore then 1 else if l = rlDie then 2
  else if l = rlPartition then 3 else if l = rlCompute then 4 else 5

/-- Whether a running reset and a scope overlap. -/
def RunReset.meets (r : RunReset) (level target : Nat) (tiles : List Nat) : Bool :=
  r.level = rlDevice || level = rlDevice || (r.level = level && r.target = target)
    || r.tiles.any tiles.contains
    || (r.level = rlCompute && level = rlCluster) || (r.level = rlCluster && level = rlCompute)
    || (r.level = rlCompute && level = rlPartition) || (r.level = rlPartition && level = rlCompute)

/-- Whether a packet for an internal target lies in the scope of a running reset, and is refused (R484 step 1): a
tile's, a reduction cluster's, a hoist's, and at PARTITION level the contexts and hoists of the burgee. -/
def Dev.fenced (d : Dev) (tgt : Nat) (k : Packet) : Bool :=
  d.mgmt.resets.any fun r =>
    r.level = rlDevice || (decide (tgt < 64) && r.tiles.contains tgt)
      || (decide (0x100 ≤ tgt) && decide (tgt ≤ 0x103) && r.level = rlCluster && r.target = tgt - 0x100)
      || ((decide (0x100 ≤ tgt) && decide (tgt ≤ 0x103) || (k.pclass = 1 && k.typ = 7))
          && (r.level = rlCompute || (r.level = rlPartition && r.target = k.burgee)))

/-! ### Steps of a reset (R484, R485) -/

/-- Contexts aborted with cause RESET and cleared. -/
def Dev.killCtxs (d : Dev) (p : Nat → Ctx → Bool) : Dev :=
  d.each ((d.red.ctxs.filter fun x => x.2.state != csFree && p x.1 x.2).map Prod.fst) fun d i =>
    ((d.abortCtx i acReset).freeCtx i).unbindCtx i

/-- Trigger entries set FREE. -/
def Dev.killTrigs (d : Dev) (p : Trig → Bool) : Dev :=
  d.each ((d.red.trigs.filter fun x => x.2.state != tgFree && p x.2).map Prod.fst) fun d t =>
    d.killOp t rReset tgFree

/-- Result bindings of contexts, and operation entries, cleared. -/
def Dev.clearBindings (d : Dev) (p : Nat → Bool) : Dev :=
  { d with red := { d.red with bindings := d.red.bindings.filter fun x => !(p x.1) } }
def Dev.clearOps (d : Dev) (p : Nat → Bool) : Dev :=
  { d with red := { d.red with ops := d.red.ops.filter fun x => !(p x.1) } }

/-- The models that `p` picks fail. -/
def Dev.failModels (d : Dev) (p : Model → Bool) : Dev :=
  d.each ((d.models.filter fun x => x.2.placed && p x.2).map Prod.fst) fun d s => d.failModel s

/-- The operation entries of a burgee: those that only trigger entries of it name (R280, R483). -/
def Dev.opsOf (d : Dev) (b : Nat) : List Nat :=
  let ops (p : Trig → Bool) := (d.red.trigs.filter fun x => x.2.state != tgFree && p x.2).map fun x =>
    trigQuad x.1 * 32768 + x.2.op
  let others := ops fun e => e.burgee != b
  (ops fun e => e.burgee = b).filter fun n => !(others.contains n)

/-- What a level clears beside its tiles. -/
def Dev.clearScope (d : Dev) (level target : Nat) : Dev :=
  if level = rlDie then d.flushAttach (attachOf (8 * target)) rReset
  else if level = rlPartition then
    let mine := (d.red.ctxs.filter fun x => x.2.state != csFree && x.2.burgee = target).map Prod.fst
    let ops := d.opsOf target
    let d := d.killCtxs fun _ c => c.burgee = target
    let d := d.killTrigs fun e => e.burgee = target
    let d := (d.clearBindings mine.contains).clearOps ops.contains
    let d := d.killTokens rReset fun q k => (d.group q k.group).burgee = target
    let d := d.killHoists fun h _ => h.burgee = target
    d.failModels fun m => m.burgee = target
  else if level = rlCluster then
    (d.killCtxs fun i _ => ctxQuad i = target).flushAttach (rcAttach target) rReset
  else if level = rlStore then
    let d := d.stopStore.dropPrograms.modStore fun s => { s with clean := false }
    if d.nvs = nsAbsent ∨ d.store.formatted = false then d.syncStore
    else ((d.wr R.NVS_STAT_STATE nsRebuilding).set R.NVS_STAT_UNCLEAN).syncStore
  else if level = rlCompute then
    let d := d.killCtxs fun _ _ => true
    let d := d.killTrigs fun _ => true
    let d := (d.clearBindings fun _ => true).clearOps fun _ => true
    let d := d.killTokens rReset fun _ _ => true
    let d := d.killHoists fun _ _ => true
    let d := d.each [0, 1, 2, 3] fun d q =>
      let d := d.each [0, 1, 2] fun d a => d.flushAttach (attach q a) rReset
      let ws := d.red.tokenWait.get q []
      let d := { d with red := { d.red with tokenWait := d.red.tokenWait.put q [] } }
      d.each ws fun d x => d.dropPlaceholders x.1
    let d := d.failModels fun _ => true
    { d with
      red := { d.red with gateRecs := [] }
      time := { d.time with lockstep := [], slotReady := [] } }
  else d

/-- The flush of a DEVICE reset (R484, R485, R489): what the compute domain and the store hold, every stored
packet not being sent, and every command not completed. -/
def Dev.flushDevice (d : Dev) : Dev :=
  let d := d.clearScope rlCompute 0
  let d := d.stopStore
  let hs := d.net.pkts.flatMap fun x =>
    if x.2.pkt.pclass = 1 ∧ x.2.pkt.typ = 4 then []
    else (x.2.holders.filter fun h => !(x.2.begun.contains h)).map fun h => (x.1, h)
  let d := d.each hs fun d x => d.killHolder x.1 x.2 rReset
  let lost (d : Dev) (ch : Nat) (k : CmdPkt) : Dev := match k.origin with
    | .fabric _ src _ => d.cmdLost ch (nth k.words 1) src true
    | _ => d.cmdLost ch (nth k.words 1) 0
  let js := d.mgmt.journal.filter fun j => j.phase ≠ .done
  let d := d.each js fun d j => lost d j.chan j.pkt
  let d := d.each (List.range 128) fun d ch =>
    let ps := (d.chan ch).inq
    if ps = [] then d
    else (d.setChan ch { d.chan ch with inq := [] }).each ps fun d k => lost d ch k
  { d with mgmt := { d.mgmt with journal := [] } }

/-- The ports whose link is out of DOWN. -/
def Dev.livePorts (d : Dev) : List Nat := d.formedPorts.filter fun p => d.linkState p ≠ lsDown

/-- An edge-scope ABORT on every port whose link is out of DOWN, with REASON RESET (R491). -/
def Dev.edgeAbort (d : Dev) : Dev :=
  d.each d.livePorts fun d p => d.sendAbort p 0 rReset 0 d.devFeid 0

/-- RST.STAT at the start of a reset. -/
def Dev.markReset (d : Dev) (level : Nat) : Dev :=
  ((d.set R.RST_STAT_ACTIVE).wr R.RST_STAT_LEVEL level).count 0x10 0 0 level

/-- A journal entry of which one reset has ended: the command completes with the last of them (R486). -/
def Dev.resetJob (d : Dev) (aseq : Nat) (esc : Bool) : Dev :=
  let d := d.modJob aseq fun j => { j with
    waits := j.waits - 1, status := if esc then St.resetEscalated else j.status }
  match d.job? aseq with
  | some j => if j.waits = 0 then d.complete aseq j.status else d
  | none => d

/-- A reset started (R484).  One whose scope meets that of a larger running reset joins it; the smaller ones
that it meets are released with it (R495).  A DEVICE reset completes its command after the flush (R486). -/
def Dev.startReset (d : Dev) (level target cause rcause : Nat) (jobs : List Nat) (escJobs : List Nat := [])
    (esc : Bool := false) (forced : Bool := false) (first : Option Nat := none) (more : List Nat := []) : Dev :=
  let tiles := d.scopeTiles level target
  let meet := d.mgmt.resets.filter fun r => r.meets level target tiles
  match meet.find? fun r => decide (levelRank level < levelRank r.level)
      || (r.level = level && r.target = target) || (r.level = level && decide (levelRank level = 5)) with
  | some r =>
    let same := r.level = level
    let d := d.each tiles fun d t => if r.tiles.contains t then d else d.resetTile t rcause
    let r' := { r with
      tiles := (r.tiles ++ tiles ++ more).eraseDups
      jobs := r.jobs ++ (if same then jobs else [])
      escJobs := r.escJobs ++ escJobs ++ (if same then [] else jobs) }
    let d := { d with mgmt := { d.mgmt with resets := d.mgmt.resets.map fun x => if x = r then r' else x } }
    if r.level = rlDevice then
      d.each (jobs ++ escJobs) fun d a => d.resetJob a (!same || escJobs.contains a)
    else d
  | none =>
    let burgee := match first with
      | some b => b
      | none => if level = rlTile then (d.tile target).burgee else 0
    let r : RunReset :=
      { level := level, target := target, start := d.now, cause := cause, jobs := jobs
        escJobs := escJobs ++ meet.flatMap fun x => x.jobs ++ x.escJobs
        burgee := burgee, tiles := (tiles ++ more ++ meet.flatMap RunReset.tiles).eraseDups, escalated := esc
        forced := forced }
    let d := { d with mgmt := { d.mgmt with
      resets := (d.mgmt.resets.filter fun x => !(meet.contains x)) ++ [r] } }
    let d := d.markReset level
    let d := d.each tiles fun d t => d.resetTile t rcause
    if level = rlDevice then
      let d := (d.wr R.RST_CAUSE_CAUSE cause).wr R.RST_CAUSE_FORCED (b2n forced)
      let d := (d.wr R.HUB_BOOT_PHASE 1).wr R.HUB_BOOT_MODE 3
      let d := (d.count 0x10 0 1 cause).each d.livePorts fun d p => d.sendPause p vc06 0xFFFF
      let d := d.edgeAbort
      let d := d.each (r.jobs ++ r.escJobs) fun d a => d.resetJob a (r.escJobs.contains a)
      d.flushDevice
    else d.clearScope level target

/-- The release of a reset (R484 step 5): its scope accepts again, RESET_DONE is written and RESET_COMPLETED
is sent. -/
def Dev.releaseReset (d : Dev) (r : RunReset) : Dev :=
  let d := { d with mgmt := { d.mgmt with resets := d.mgmt.resets.erase r } }
  let d := d.each r.tiles fun d t =>
    if d.mgmt.resets.any fun x => x.tiles.contains t then d else d.freeTile t
  let d := d.wr R.RST_STAT_ACTIVE (b2n (d.mgmt.resets != []))
  let d := (d.wr R.RST_STAT_LEVEL r.level).wr R.RST_STAT_LAST_ESC (b2n r.escalated)
  let d := d.wrSat R.RST_LAST_DURATION ((d.now - r.start) / 1000)
  let d := d.histPush { kind := 2, code := 4, eseq := 0, ftime := 0, blk := 0x10
                        d1 := r.level + r.target % 2 ^ 24 * 256, status := r.level }
  let d := d.sendEvent 0x0013 [d.mgmt.eseq, 0x10, 4, r.level + r.target % 2 ^ 24 * 256]
  let d := if r.level = rlDevice then d else d.each r.jobs fun d a => d.resetJob a r.escalated
  let d := if r.level = rlDevice then d else d.each r.escJobs fun d a => d.resetJob a true
  d.retryOut

/-- The timeouts of R483 in ns. -/
def resetTimeout (level : Nat) : Nat :=
  1000000 * (if level = rlTile ∨ level = rlCluster then 10 else if level = rlDie then 20
    else if level = rlPartition then 50 else if level = rlCompute then 200
    else if level = rlDevice then 10000 else 5000)

/-- The level and target that a reset escalates to (R483, R487). -/
def RunReset.enclosing (r : RunReset) : Nat × Nat :=
  if r.level = rlTile then (rlDie, r.target / 8)
  else if r.level = rlDie then (if r.burgee = 0 then (rlCompute, 0) else (rlPartition, r.burgee))
  else if r.level = rlPartition ∨ r.level = rlCluster then (rlCompute, 0)
  else (rlDevice, 0)

/-! ### The fabric-wide abort (R490 to R493) -/

/-- A launch queue without the launches of a burgee, which fail. -/
def Dev.failQueued (d : Dev) (t b code : Nat) : Dev :=
  let x := d.tile t
  let out := x.lq.filter fun l => l.burgee = b && l.slot.isNone
  if out = [] then d
  else (d.setTile t { x with lq := x.lq.filter fun l => !(out.contains l) }).each out fun d l => d.launchEnds l code

/-- The burgee scope of an ABORT. -/
def Dev.abortBurgee (d : Dev) (b reason : Nat) : Dev :=
  let is := (d.red.ctxs.filter fun x => (x.2.state = csOpen || x.2.state = csStub) && x.2.burgee = b).map Prod.fst
  let d := d.each is fun d i => d.abortCtx i acJobAbort
  let ts := (d.red.trigs.filter fun x =>
    (x.2.state = tgArmed || x.2.state = tgFiring) && x.2.burgee = b).map Prod.fst
  let d := d.each ts fun d t => d.killOp t reason tgFailed
  let d := d.each (List.range 64) fun d t =>
    let d := d.failQueued t b reason
    match (d.tile t).prog with
    | some l => if l.burgee = b ∧ l.slot.isNone then d.startReset rlTile t 1 1 [] else d
    | none => d
  let d := d.killHoists fun h _ => h.burgee = b
  d.killTokens reason fun _ k => k.pkt.burgee = b

/-- The edge scope: contexts and hoists with an edge on a port. -/
def Dev.abortEdge (d : Dev) (p : Nat) : Dev :=
  let is := (d.red.ctxs.filter fun x =>
    (x.2.state = csOpen || x.2.state = csStub)
      && ((!x.2.root && x.2.parentPort = p) || ((x.2.migV || x.2.state = csStub) && x.2.migPort = p)
          || (d.ctxSlots x.1 x.2).any fun s => !s.int && s.tgt = p)).map Prod.fst
  let d := d.each is fun d i => d.abortCtx i acNeighbour (some p)
  d.killHoists fun h x => (!h.root && h.parentPort = p) || x.ranks.any fun r => r.2 = p

/-- The local action of an ABORT (R493); `port` is its arrival port. -/
def Dev.abortLocal (d : Dev) (id burgee reason : Nat) (port : Option Nat) : Dev :=
  if id ≠ 0 then
    let i := id % 65536
    let c := d.ctx i
    if (c.state = csOpen ∨ c.state = csStub) ∧ c.check = id / 65536 ∧ c.burgee = burgee then
      let w := c.w
      let d := d.setCtx i { c with w := setAt w 0 (setBit (nth w 0) 1 false) }
      let d := d.abortCtx i acJobAbort
      d.setCtx i { d.ctx i with w := w }
    else d
  else if burgee ≠ 0 then d.abortBurgee burgee reason
  else match port with
    | some p => d.abortEdge p
    | none => d

end Sys2Proof.Machine
end

