-- ==== Sys2Proof/Machine/ResetRows.lean ====
section
/-! DEFINITION. The rows of spec/17: fault state and history, watchdogs and restarts, resets, and the fabric-wide
abort. -/

namespace Sys2Proof.Machine

/-! ### History (R473, R475) -/

/-- The words of a history entry (R473). -/
def HEntry.words (e : HEntry) : List Nat :=
  [e.kind * 2 ^ 30 + e.code % 256 * 2 ^ 16 + e.eseq % 2 ^ 16, e.ftime / 2 ^ 32 % 2 ^ 32, e.ftime % 2 ^ 32,
   e.blk % 256 * 2 ^ 24 + e.inst % 2 ^ 12 * 2 ^ 12, e.d0 % 2 ^ 32, e.d1 % 2 ^ 32, e.d2 % 2 ^ 32,
   e.count % 2 ^ 16 * 2 ^ 16 + e.status % 2 ^ 16]

/-- Words as bytes of a memory (R595). -/
def wordsLE (ws : List Nat) : List Nat := ws.flatMap (bytesLE 4)

/-- FLT_HIST_READ. -/
def fltHistRead (aseq : Nat) (d : Dev) : Dev :=
  d.cmd aseq 0x0601 fun j d =>
    let h := d.mgmt.hist
    d.bufOut j (j.bref 4) (wordsLE ([h.length, d.mgmt.eseq] ++ h.flatMap HEntry.words)) St.ok
      [d.mgmt.eseq, h.length, d.rd R.FLT_HQLOST_LOST]

/-! ### The fault state (R470) -/

/-- A STATE entry of the collector, and the event that names it (R472, R473). -/
def Dev.stateEntry (d : Dev) (code : Nat) (d0 : Nat := 0) : Dev :=
  d.histPush { kind := 2, code := code, eseq := 0, ftime := 0, blk := 0x0F, d0 := d0 }

/-- QUIET_TIMER_EXPIRY: a recovery to NORMAL, or STRUCK when it is one too many in the window. -/
def quietTimerExpiry (d : Dev) : Dev :=
  if d.fltState ≠ 1 ∨ d.now < d.mgmt.quietAt then d
  else
    let win := (d.mgmt.recov.filter fun t => decide (d.now < t + d.struckWinNs)) ++ [d.now]
    let d := { d with mgmt := { d.mgmt with recov := win } }
    let d := (d.bump R.FLT_CNT1_RECOVERIES).wrSat R.FLT_STAT_WIN_RECOV win.length
    let d := (d.stateEntry 1).wr R.FLT_STAT_QUIET_LEFT 0
    if d.rd R.FLT_CFG_STRUCK_N < win.length then d.latchStruck
    else (d.wr R.FLT_STAT_STATE 0).sendEvent 0x0011 [d.mgmt.eseq, 0x0F, 1]

/-- STRUCK_WINDOW_EXPIRY: FAULT has lasted STRUCK_WIN_S. -/
def struckWindowExpiry (d : Dev) : Dev :=
  if d.fltState = 1 ∧ d.mgmt.faultSince + d.struckWinNs ≤ d.now then d.latchStruck else d

/-- FLT_CLEAR: STRUCK to FAULT with the quiet timer restarted; the recovery history is cleared. -/
def fltClear (aseq : Nat) (d : Dev) : Dev :=
  d.cmd aseq 0x0602 fun _ d =>
    let d := ({ d with mgmt := { d.mgmt with recov := [] } }).wr R.FLT_STAT_WIN_RECOV 0
    let d :=
      if d.fltState = 2 then
        let irq0 := d.irqMask
        let d := { d with mgmt := { d.mgmt with faultSince := d.now } }
        (((d.wr R.FLT_STAT_STATE 1).set R.FLT_STAT_FAULT_SEEN).irq irq0).restartQuiet.stateEntry 3
      else d
    d.complete aseq St.ok

/-! ### Watchdogs (R479 to R481) -/

/-- A watchdog expiry: counted, and one fault event. -/
def Dev.watchdogEvent (d : Dev) (blk cause inst : Nat) : Dev :=
  (d.count 0x0F 0 3 blk).faultEvent blk cause inst

/-- WATCHDOG: a tile's watchdog expires, and the tile is reset. -/
def watchdog (t : Nat) (d : Dev) : Dev :=
  if d.tileState t ≠ tsRunning ∨ (d.tile t).prog.isNone then d
  else (d.watchdogEvent 0x0A 0x01 t).startReset rlTile t 2 3 []

/-- Whether a reduction engine holds work: packets at its cluster's input, or a context with chunks. -/
def Dev.engineBusy (d : Dev) (e : Nat) : Bool :=
  d.net.attachIn.get (rcAttach (e / 16)) [] != []
    || d.red.ctxs.any fun x => ctxEngine x.1 = e && x.2.state = csOpen && (x.2.slots != [] || x.2.deferred != [])

/-- ENGINE_HANG: a reduction engine's watchdog expires, and its cluster is reset. -/
def engineHang (e : Nat) (d : Dev) : Dev :=
  if d.engineBusy e then (d.watchdogEvent 0x08 0x04 e).startReset rlCluster (e / 16) 2 0 [] else d

/-- SEQ_HANG: an advance or an operation's end waits in a quadrant's sequencer. -/
def seqHang (q : Nat) (d : Dev) : Dev :=
  if d.red.running.any fun o => trigQuad o.trig = q then
    (d.watchdogEvent 0x09 0x01 q).startReset rlCompute 0 2 5 []
  else d

/-- DISPATCH_HANG: a gate record or a token waits in a quadrant. -/
def dispatchHang (q : Nat) (d : Dev) : Dev :=
  if d.red.gateRecs.get q [] ≠ [] ∨ d.red.tokenWait.get q [] ≠ [] then
    (d.watchdogEvent 0x09 0x02 q).startReset rlCompute 0 2 5 []
  else d

/-- CTRL_HANG: a command or an accepted unit waits in the store. -/
def ctrlHang (d : Dev) : Dev :=
  if d.store.jobs ≠ [] ∨ d.store.assembly ≠ [] ∨ d.store.prog ≠ [] ∨ d.store.metas ≠ [] then
    (d.watchdogEvent 0x0D 0x06 0).startReset rlStore 0 2 0 []
  else d

/-- Whether a DEVICE reset is running. -/
def Dev.devReset (d : Dev) : Bool := d.mgmt.resets.any fun r => r.level = rlDevice

/-- THIDAN_HEARTBEAT: the first one after a restart ends it. -/
def thidanHeartbeat (d : Dev) : Dev :=
  if d.mgmt.thdDown then d
  else { d with mgmt := { d.mgmt with heartbeat := d.now, restartAt := none } }

/-- HEARTBEAT_LOST: the limit passes with no heartbeat, and the sentinel restarts the Thidan cores.  It is
ignored during a DEVICE reset (R495). -/
def heartbeatLost (d : Dev) : Dev :=
  let limit := 1000000 * max 5 (d.rd R.FLT_WDCFG_THD_HB_MS)
  if d.devReset ∨ d.mgmt.restartAt.isSome ∨ d.mgmt.thdDown ∨ d.now < d.mgmt.heartbeat + limit then d
  else
    let d := (d.watchdogEvent 0x0E 0x01 0).count 0x0E 0x100 0 1
    let d := (d.wr R.THD_STAT_STATE 3).bump R.THD_STAT_RESTARTS
    let old := d.mgmt.restarts
    { d with mgmt := { d.mgmt with
      restarts := (old ++ [d.now]).drop (old.length - 3), restartAt := some d.now, thdDown := true } }

/-- The opcodes that run again after a restart (R411). -/
def rerunOps : List Nat := [0x0001, 0x0002, 0x0003, 0x0307, 0x0502, 0x0509, 0x0601]

/-- THIDAN_RESTART_COMPLETE: the journal is settled (R411). -/
def thidanRestartComplete (d : Dev) : Dev :=
  if d.mgmt.thdDown = false then d
  else
    let js := d.mgmt.journal.filter fun j => j.phase = .begun || j.phase = .running
    let d := ({ d with mgmt := { d.mgmt with thdDown := false } }).wr R.THD_STAT_STATE 2
    d.each js fun d j =>
      if rerunOps.contains j.op then d.modJob j.aseq fun j => { j with phase := .begun, host := false }
      else d.complete j.aseq St.thdRestarted

/-- Whether a fourth restart lies within 10 s of the first of four (R480). -/
def Dev.fourRestarts (d : Dev) : Bool :=
  match d.mgmt.restarts with
  | a :: _ :: _ :: b :: _ => decide (b ≤ a + 10000000000)
  | _ => false

/-- A DEVICE reset that the sentinel or the hardware watchdog forces.  In bring-up it is a failed bring-up, and the
second of two in a row holds FAILED (R505). -/
def Dev.forceReset (d : Dev) (cause : Nat) : Dev :=
  let ph := d.bootPhase
  if ph = bpReady then d.startReset rlDevice 0 cause 5 [] (forced := true)
  else
    let n := d.mgmt.boot.fails + 1
    let d := d.modBoot fun x => { x with fails := n, sram := [], train := [], hbm := [], kat := [], recDone := false }
    if 2 ≤ n then ((d.wr R.HUB_BOOT_FAIL_PHASE (if ph = bpFailed then d.rd R.HUB_BOOT_FAIL_PHASE else ph)).wr
      R.HUB_BOOT_PHASE bpFailed).emit (.pin 0 0)
    else d.startReset rlDevice 0 cause 5 [] (forced := true)

/-- RESTART_FAIL: the sentinel forces a DEVICE reset. -/
def restartFail (d : Dev) : Dev :=
  match d.mgmt.restartAt with
  | none => d
  | some t =>
    if d.devReset ∨ (d.now < t + 500000000 ∧ d.fourRestarts = false) then d
    else
      let d := d.faultEvent 0x0E 0x02 0
      let d := { d with mgmt := { d.mgmt with restartAt := none, restarts := [] } }
      d.forceReset 3

/-- SENTINEL_KICK. -/
def sentinelKick (d : Dev) : Dev := { d with mgmt := { d.mgmt with kick := d.now } }

/-- HW_WATCHDOG: 50 ms without a kick.  The event is latched, and written when the collector restarts. -/
def hwWatchdog (d : Dev) : Dev :=
  if d.devReset ∨ d.mgmt.boot.held ∨ d.now < d.mgmt.kick + 50000000 then d
  else
    let d := (d.count 0x0F 0 3 0x0F).forceReset 4
    { d with mgmt := { d.mgmt with hwLatch := true, kick := d.now } }

/-! ### Resets (R484 to R488) -/

/-- RESET (R486, R437). -/
def reset (aseq : Nat) (d : Dev) : Dev :=
  d.cmd aseq 0x0603 fun j d =>
    let level := bits (j.w 4) 2 0
    let target := if level = rlCluster then j.w 5 % 4 else j.w 5
    if resetTargetOk level target = false ∨ (level ≠ rlCluster ∧ j.w 6 ≠ 0) then
      d.complete aseq St.cmdParam
    else
      let d := d.modJob aseq fun j => { j with waits := 1 }
      d.startReset level target 1 (if level = rlCompute ∨ level = rlDevice then 5 else 1) [aseq]

/-- TILE_RESET: a TILE reset of each tile of the mask. -/
def tileReset (aseq : Nat) (d : Dev) : Dev :=
  d.cmd aseq 0x0402 fun j d =>
    let ts := maskBits (j.w 4 + j.w 5 * 2 ^ 32) 64
    if ts = [] then d.complete aseq St.ok
    else
      let d := d.modJob aseq fun j => { j with waits := ts.length }
      d.each ts fun d t => d.startReset rlTile t 1 1 [aseq]

/-- RESET_RELEASE: the steps of a reset below DEVICE have run, and its records are out. -/
def resetRelease (level target : Nat) (d : Dev) : Dev :=
  match d.mgmt.resets.find? fun r => r.level = level && r.target = target with
  | some r => if r.level = rlDevice then d else d.releaseReset r
  | none => d

/-- RESET_HUNG: a reset passes its timeout.  It escalates, or a DEVICE reset fails with the fault output
driven. -/
def resetHung (level target : Nat) (d : Dev) : Dev :=
  match d.mgmt.resets.find? fun r => r.level = level && r.target = target with
  | none => d
  | some r =>
    if d.now ≤ r.start + resetTimeout level then d
    else if level = rlDevice then
      ((d.wr R.HUB_BOOT_FAIL_PHASE (d.rd R.HUB_BOOT_PHASE)).wr R.HUB_BOOT_PHASE 7).emit (.pin 0 0)
    else
      let d := (d.faultEvent 0x10 0x01 level target).bump R.RST_STAT_ESCALATIONS
      let d := { d with mgmt := { d.mgmt with resets := d.mgmt.resets.erase r } }
      let e := r.enclosing
      d.startReset e.1 e.2 2 4 [] (escJobs := r.jobs ++ r.escJobs) (esc := true) (first := some r.burgee)
        (more := r.tiles)

/-- FORCED_FLUSH_LIMIT: 20 ms into a forced DEVICE reset, the records not yet issued are dropped and their
number is written. -/
def forcedFlushLimit (d : Dev) : Dev :=
  match d.mgmt.resets.find? fun r => r.level = rlDevice && r.forced && !r.cleared with
  | none => d
  | some r =>
    if d.now < r.start + 20000000 then d
    else
      let n := d.net.recq.foldl (fun n (x : Nat × List FailRec) => n + x.2.length) 0
      let d := { d with
        net := { d.net with recq := [] }
        mgmt := { d.mgmt with resets := d.mgmt.resets.map fun x => if x = r then { x with cleared := true } else x } }
      (d.bump R.FLT_CNT1_UNREPORTED (n := n)).stateEntry 6 n

/-- JOB_ABORT (R491): neither a context nor a burgee named is refused. -/
def jobAbort (aseq : Nat) (d : Dev) : Dev :=
  d.cmd aseq 0x0604 fun j d =>
    let id := j.w 4
    let b := j.w 5 % 512
    if id = 0 ∧ b = 0 then d.complete aseq St.cmdParam
    else ((d.originateAbort id b rJobAborted).abortLocal id b rJobAborted none).complete aseq St.ok

end Sys2Proof.Machine
end

