-- ==== Sys2Proof/Machine/Arrive.lean ====
section
/-! DEFINITION. Packets at ingress (spec/05, R139, R147, R153; spec/04, R97 to R101; spec/07, R202, R204;
spec/04, R596) and the release of holders (spec/05, R154). -/

namespace Sys2Proof.Machine

/-! ### The tests of R596, in its order -/

/-- Whether a type is reserved or travels on a VC that R97 does not list for it. -/
def typeBad (k : Packet) (vc : Nat) : Bool :=
  if k.pclass = 1 then
    !(if k.typ = 0 ∨ k.typ = 5 ∨ k.typ = 6 ∨ k.typ = 7 then vc = 0
      else if k.typ = 1 then vc = 1
      else if k.typ = 2 ∨ k.typ = 3 then vc = 7
      else if k.typ = 4 then vc = 1 || vc = 7 else false)
  else if k.pclass = 2 then
    !(if k.typ = 0 then vc = 2 || vc = 3 || vc = 6
      else if k.typ = 1 then vc = 4
      else if k.typ = 2 then vc = 5
      else if k.typ = 3 ∨ k.typ = 4 then vc = 2 || vc = 3
      else if k.typ = 5 ∨ k.typ = 6 then vc = 6 else false)
  else true

/-- A malformed packet (R101). -/
def malformed (k : Packet) (vc : Nat) : Bool :=
  typeBad k vc
    || (k.pclass = 1 && (decide (212 < k.len) || (k.ts && k.typ != 0 && k.typ != 1)))
    || (k.pclass = 2 && (decide (k.len < 64) || decide (4096 < k.len)))

/-- The reason and block of a refusal by the tests made before storage, or 0 (R596, tests 1 to 4). -/
def Dev.ingressTest (d : Dev) (p vc : Nat) (k : Packet) : Nat × Nat :=
  if malformed k vc then (0x16, 0x03)
  else if vc = 7 ∧ k.burgee ≠ 0 then (rBurgeeViolation, 0x03)
  else if k.hoplim = 0 then (0x15, 0x03)
  else if vc ≠ 7 ∧ d.enforced (p / 128) ∧ (d.attr (p / 128) p).edge ∧ !(d.allows p k.burgee) then
    (rBurgeeViolation, 0x07)
  else (0, 0)

/-! ### Resolution (R168, R174, R245, R256) -/

/-- What a packet at ingress resolves to: its holders, with a reason for each slot that gets none; or a
refusal; or the context of a result. -/
inductive Resolved
  | refuse (reason blk inst : Nat)
  | sent (hs : List Holder) (lost : List Nat)
  | result (ctx : Nat)
  deriving DecidableEq, Repr

/-- Resolution of a packet that came in by port `p` (R168, R174, R245, R256). -/
def Dev.resolve (d : Dev) (p vc : Nat) (k : Packet) : Dev × Resolved :=
  let q := p / 128
  if k.dst = 0xFFFFE then
    if isContrib k then
      let c := k.collId / 16384 % 4
      (d, .sent [⟨rcAttach c, vc, rcTgt c, false⟩] [])
    else if k.pclass = 2 ∧ k.typ = 2 then (d, .result (k.collId % 65536))
    else if hubTakes k then (d, .sent [⟨hubAttach, vc, tgtThidan, false⟩] [])
    else (d.countRefusal q rNoRoute, .refuse rNoRoute 0x06 q)
  else
    let r := d.routePkt q k vc p
    let hs := holdersOf r.1 k vc
    let d := d.countLook q r hs
    match hs with
    | .error x => (d, .refuse x (if x = rCtxUnknown then 0x08 else 0x06) q)
    | .ok (good, lost) => (d, .sent good lost)

/-- Whether the block behind an internal holder is off, resetting or fenced (R22, R334, R484). -/
def Dev.holderOff (d : Dev) (k : Packet) (h : Holder) : Bool :=
  !(isPort h.eg) &&
    (!(d.pdOn (pdOfTarget h.tgt)) || d.fenced h.tgt k
      || (decide (h.tgt < 64) && (d.tileState h.tgt = tsOff || d.tileState h.tgt = tsResetting)))

/-! ### Policing (R204) -/

/-- The meter of a burgee on an EDGE port: always accepted, and under QUENCH a packet beyond it is answered with
a QUENCH. -/
def Dev.police (d : Dev) (p vc : Nat) (k : Packet) : Dev :=
  let q := p / 128
  let b := d.burgeeEnt q k.burgee
  if !(d.attr q p).edge || !(b.pmode = 1 || b.pmode = 2) || vc = 1 || vc = 5 || vc = 7
      || !(bitOf b.pmask vc) then d
  else
    let cap : Int := (8 * 4096 * b.pburst : Nat)
    let t := min (b.tokens + (((d.now - b.tokAt) * b.prate : Nat) : Int)) cap
    let bytes := 256 * flitsOf k
    let t' := max (t - ((8 * bytes : Nat) : Int)) (-cap)
    let d := { d with net := { d.net with
      burgees := d.net.burgees.put (q, k.burgee) { b with tokens := t', tokAt := d.now } } }
    if 0 ≤ t then d.count 0x07 (0x400 + k.burgee) 0 1 bytes
    else
      let d := (d.count 0x07 (0x400 + k.burgee) 0 2 bytes).set R.SCH_ERR_POLICE_SEEN q
      if b.pmode = 2 then
        let qt := if b.prate = 0 then 65535
          else min 65535 (max 1 (ceilDiv (-t').toNat (1000 * b.prate)))
        d.quenchSource q p k.src k.burgee 0xFFFFF b.pmask qt
      else d

/-! ### Arrival -/

/-- The packet that an arrival opened is still open at the receiver. -/
def Dev.stillOpen (d : Dev) (a : Arrival) : Option OpenPkt :=
  match (d.link a.port).opens.look a.vc with
  | some o => if o.seq = a.seq ∧ o.pkt = a.pkt ∧ o.pid.isNone ∧ o.discard = false then some o else none
  | none => none

/-- An arrival discarded: its credits return, and its later flits are discarded with it. -/
def Dev.discardArrival (d : Dev) (a : Arrival) : Dev :=
  let d := match d.stillOpen a with
    | some o => d.modLink a.port fun l => { l with opens := l.opens.put a.vc { o with discard := true } }
    | none => d
  d.returnCredit a.port a.vc a.got

/-- An arrival refused with a record, and the trace of a tagged one (R18, R523). -/
def Dev.refuseArrival (d : Dev) (a : Arrival) (tag : Option Trace) (reason blk inst : Nat) : Dev :=
  let d := d.record (a.port / 128) (d.pktRec a.pkt a.vc a.port reason blk inst)
  let d := match tag with
    | some t => d.tracePacket (a.port / 128) a.pkt a.port a.vc t 0 (flitsOf a.pkt) 0x1FF 0 reason false
    | none => d
  d.discardArrival a

/-- An arrival stored for its holders, whose descriptors cross to their queues.  Without a holder it is
discarded. -/
def Dev.storeArrival (d : Dev) (a : Arrival) (tag : Option Trace) (hs : List Holder) (ctx : Option Nat) : Dev :=
  if hs = [] then d.discardArrival a
  else if 4095 < hs.length then d.refuseArrival a tag 0x16 0x05 (a.port / 128)
  else
    let tag := tag.map fun t => { t with routed := some d.now, stored := some d.now, nHold := hs.length }
    match d.storePkt a.pkt a.port a.vc a.got hs tag ctx (some a.stamp) with
    | (d, none) => d.discardArrival a
    | (d, some pid) =>
      let d := match d.stillOpen a with
        | some o => d.modLink a.port fun l => { l with opens := l.opens.put a.vc { o with pid := some pid } }
        | none => d
      d.addCrossing pid (hs.filter fun h => isPort h.eg || decide (h.tgt < 0x3000))

/-- The holders of a packet without those whose block is off: each of these gets its own record (R17, R22). -/
def Dev.dropOff (d : Dev) (a : Arrival) (hs : List Holder) : Dev × List Holder :=
  let off := hs.filter (d.holderOff a.pkt)
  (d.each off fun d _ =>
    d.record (a.port / 128) (d.pktRec a.pkt a.vc a.port rDomainOff 0x06 (a.port / 128)),
   hs.filter fun h => !(d.holderOff a.pkt h))

/-- A RESULT addressed to this device: checked against its context, and stored for its holders (R256). -/
def Dev.arriveResult (d : Dev) (a : Arrival) (tag : Option Trace) (i : Nat) : Dev :=
  let q := ctxQuad i
  if d.holderOff a.pkt ⟨rcAttach q, 5, rcTgt q, false⟩ then
    d.refuseArrival a tag rDomainOff 0x06 (a.port / 128)
  else match d.resultTest a.pkt a.port with
    | .error x => (d.redCount i 1 x).refuseArrival a tag x 0x08 (ctxEngine i)
    | .ok n =>
      let c := d.ctx i
      let hs := d.resultHolders i c
      let gone := (d.ctxSlots i c).length + b2n c.absorb - hs.length
      let d := d.noPathRecs (a.port / 128) gone a.pkt a.vc a.port
      if hs = [] then (d.discardArrival a).passDown i n
      else d.storeArrival a tag hs (some i)

/-- The oldest arrival of a port taken (R596). -/
def Dev.arrive (d : Dev) (a : Arrival) : Dev :=
  let p := a.port
  let d := { d with net := { d.net with arrivals := d.net.arrivals.erase a } }
  let r := d.tagPacket p
  let d := r.1
  let tag := r.2.map fun t => { t with t0 := a.stamp }
  let e := d.ingressTest p a.vc a.pkt
  if e.1 ≠ 0 then
    let d := if e.2 = 0x07 then d.set R.SCH_ERR_ISO_SEEN (p / 128) else d
    d.refuseArrival a tag e.1 e.2 p
  else
    let d := d.police p a.vc a.pkt
    match d.resolve p a.vc a.pkt with
    | (d, .refuse x blk inst) => d.refuseArrival a tag x blk inst
    | (d, .result i) => d.arriveResult a tag i
    | (d, .sent hs lost) =>
      let d := d.each lost fun d x => d.record (p / 128) (d.pktRec a.pkt a.vc p x 0x06 (p / 128))
      let r := d.dropOff a hs
      let extra := match r.2 with
        | [h] => if h.tgt < 64 then r.1.tokenHolders h.tgt a.pkt else []
        | _ => []
      r.1.storeArrival a tag (r.2 ++ extra) none

/-- PACKET_ARRIVAL: the oldest packet of port `p` whose first flit has passed its check. -/
def packetArrival (p : Nat) (d : Dev) : Dev :=
  match d.net.arrivals.find? fun a => a.port = p with
  | none => d
  | some a => d.arrive a

/-- Whether a packet is a RESULT addressed to this device. -/
def isResultHere (k : Packet) : Bool := k.pclass = 2 && k.typ = 2 && k.dst = 0xFFFFE

/-- RESULT_ARRIVAL: a port's oldest packet, when it is a RESULT of a context here; and each result that the port
has stored whole since is counted as passed down (R256, R258). -/
def resultArrival (p : Nat) (d : Dev) : Dev :=
  let d := match d.net.arrivals.find? fun a => a.port = p with
    | some a => if isResultHere a.pkt then d.arrive a else d
    | none => d
  d.each ((d.net.pkts.filter fun x => x.2.ing = p && x.2.ctx.isSome).map Prod.fst) fun d pid => d.countResult pid

/-- HOLDER_RELEASE: a holder releases a stored packet, and what waited for it goes on: packets that wait for
room, the answers and streamers that follow it. -/
def releaseHolder (pid : Nat) (h : Holder) (loc : Storage) (d : Dev) : Dev :=
  (((d.countResult pid).holderGone pid h loc).lateAnswers).sendsGo

end Sys2Proof.Machine
end

