-- ==== Sys2Proof/Machine/Haly.lean ====
section
/-! DEFINITION. Halyard blocks received (spec/04, R120 to R128): pauses, quenches, fabric time (spec/16, R447),
aborts (spec/17, R492) and remote resets (R126, R482). -/

namespace Sys2Proof.Machine

/-! ### Pauses (R123) -/

/-- A PAUSE of the peer. -/
def Dev.takePause (d : Dev) (p : Nat) (w : Haly) : Dev :=
  let ptime := w.w1 / 65536
  let vs := maskBits w.b1 8
  d.wakingAll p fun d => d.each vs fun d v =>
    let d := d.wrBit R.LNK_HSTAT_PAUSED_BY_PEER v (decide (ptime ≠ 0)) p
    let d := d.wrBit R.LNK_HSTAT_INDEF v (decide (ptime = 0xFFFF)) p
    d.modLink p fun l => { l with
      pauseUntil := setAt l.pauseUntil v
        (if ptime = 0 ∨ ptime = 0xFFFF then none else some (d.now + 1000 * ptime)) }

/-! ### Fabric time (R127, R447) -/

/-- Twice the offset θ of an exchange, from t1, t3, t4 and TURN: D is half of (t4 − t1) − TURN, and θ is
(t3 + D) − t4. -/
def twiceTheta (t1 t3 t4 turn : Nat) : Int :=
  2 * (t3 : Int) + ((t4 : Int) - (t1 : Int) - (turn : Int)) - 2 * (t4 : Int)

/-- The rate correction of a slew, in HUB.FTRATE's unit: towards θ = 0 and at most ±500 ppm.  How much is left
open: the amount is a free value below that bound (assumption log, row 4). -/
def Dev.slew (d : Dev) (th2 : Int) : Dev :=
  if th2 = 0 then d
  else
    let n : Nat := d.free % 13743896
    let r : Int := if 0 < th2 then (n : Int) else -(n : Int)
    { d.usedFree with time := { d.time with rate := r } }

/-- HUB.FTSTAT.OFFSET: θ in ns, signed, saturating at ±2,047. -/
def offsetField (th2 : Int) : Nat :=
  let v : Int := max (-2047) (min 2047 (th2 / 2))
  (v % 4096).toNat

/-- One exchange on the followed link (R447). -/
def Dev.servoExchange (d : Dev) (th2 : Int) : Dev :=
  let d := d.wr R.HUB_FTSTAT_OFFSET (offsetField th2)
  let st := d.rd R.HUB_FTSTAT_STATE
  if st = 1 then
    if 2000 < th2.natAbs then
      let d := d.count 0x11 0x400 0 1
      { d with now := ((d.now : Int) + th2 / 2).toNat, time := { d.time with good := 0 } }
    else
      let d := d.slew th2
      let n := if th2.natAbs ≤ 2 then d.time.good + 1 else 0
      if 16 ≤ n then d.setServo 2 else { d with time := { d.time with good := n } }
  else if st = 2 then
    let d := d.slew th2
    let n := if 4 < th2.natAbs then d.time.bad + 1 else 0
    if 4 ≤ n then d.setServo 1 else { d with time := { d.time with bad := n } }
  else d

/-- HUB.FTRATE brought up to date. -/
def Dev.syncRate (d : Dev) : Dev := d.wr R.HUB_FTRATE_RATE ((d.time.rate % 2 ^ 32).toNat)

/-- A TIME word of the peer. -/
def Dev.takeTime (d : Dev) (p : Nat) (w : Haly) : Dev :=
  let l := d.link p
  let t4 := d.now
  let d := d.modLink p fun l => { l with timePeer := some (w.hseq, t4) }
  match l.timeSent.find? fun x => x.1 = w.b1, d.time.followed with
  | some x, some f =>
    if f = p ∧ w.w3 ≠ 0xFFFFFFFF then
      (d.servoExchange (twiceTheta x.2 (w.w1 * 2 ^ 32 + w.w2) t4 w.w3)).syncRate
    else d
  | _, _ => d

/-! ### Aborts and remote resets -/

/-- An ABORT of the peer (R492). -/
def Dev.takeAbort (d : Dev) (p : Nat) (w : Haly) : Dev :=
  let hops := w.b1
  let reason := w.b0
  let id := w.w1
  let origin := w.w2 / 4096
  let b := w.w2 / 8 % 512
  let key := (origin, id, b)
  if d.enforced (p / 128) ∧ (d.attr (p / 128) p).edge ∧ b ≠ 0 ∧ d.allows p b = false then
    (d.set R.FLT_ERR_ABORT_TENANT).count 0x0F 0 2 2
  else if d.mgmt.abortFilter.any fun x => x.1 = key && decide (d.now < x.2) then d.count 0x0F 0 2 2
  else
    let d := (d.filterAbort key).abortLocal id b reason (some p)
    if hops = 0 ∨ (id = 0 ∧ b = 0) then d
    else (d.each (d.abortPorts b (some p)) fun d e => d.sendAbort e (hops - 1) reason id origin b).count
      0x0F 0 2 1

/-- A REMOTE_RESET of the peer (R126, R482); `tagOk` is whether its TAG verifies under the link key. -/
def Dev.takeReset (d : Dev) (p : Nat) (w : Haly) (tagOk : Bool) : Dev :=
  let l := d.link p
  if d.afp21 p ∨ d.admitted p = false ∨ w.w1 ≤ l.nonceLast ∨ l.key = false ∨ tagOk = false then
    (d.linkErr p R.LNK_ERR_RRST_AUTH).faultEvent 0x03 0x04 p
  else
    let d := d.setLink p { l with nonceLast := w.w1 }
    if w.b1 = 1 ∨ w.b1 = 2 then
      let d := (d.set R.FLT_ERR_RRST_SEEN).faultEvent 0x0F 0x02 p
      d.startReset (if w.b1 = 1 then rlCompute else rlDevice) 0 5 5 []
    else d

/-! ### The block -/

/-- Whether a link state accepts a word of a type (R128). -/
def Dev.halyAccepts (d : Dev) (p htype : Nat) : Bool :=
  let st := d.linkState p
  if st = lsResync ∨ d.upAdm p then true
  else if st = lsUp then htype = 1 || htype = 3
  else htype = 3

/-- A new word acted on (R121, R125). -/
def Dev.actHaly (d : Dev) (p : Nat) (w : Haly) (tagOk : Bool) : Dev :=
  if w.htype = 1 then d.takePause p w
  else if w.htype = 2 then d.relayQuench p w
  else if w.htype = 3 then d.takeTime p w
  else if w.htype = 4 then d.takeAbort p w
  else d.takeReset p w tagOk

/-- One word of a block: counted, captured, and acted on when it is new (R121, R122, R128). -/
def Dev.takeHaly (d : Dev) (p : Nat) (w : Haly) (tagOk : Bool) : Dev :=
  if d.linkState p = lsDown then d
  else
    let d := (d.count 0x03 p 1 w.htype).buntHaly p 0 w
    if w.htype = 0 ∨ 5 < w.htype then d
    else if (d.link p).halyLast.look w.htype = some w.hseq then d
    else
      let d := d.modLink p fun l => { l with halyLast := l.halyLast.put w.htype w.hseq }
      if d.halyAccepts p w.htype then d.actHaly p w tagOk
      else d.linkErr p R.LNK_ERR_HALY_STATE

/-- HALYARD_BLOCK_RECEIVED: a good block's words in order; a failed block is discarded whole. -/
def halyardBlockReceived (p : Nat) (words : List Haly) (ok tagOk : Bool) (d : Dev) : Dev :=
  if ok = false ∨ 15 < words.length then d
  else d.each words fun d w => d.takeHaly p w tagOk

end Sys2Proof.Machine
end

