-- ==== Sys2Proof/Machine/TileCore.lean ====
section
/-! DEFINITION. How a tile runs one instruction (spec/11, R298 to R305, R316, R330 to R332): fetch, the fields of
an instruction, effective addresses, loads and stores, retirement and its trace record (spec/19, R522, R523). -/

namespace Sys2Proof.Machine

/-! ### Instructions (R303) -/

/-- The fields of an instruction word. -/
def iOpc (w : Nat) : Nat := bits w 63 56
def iRd (w : Nat) : Nat := bits w 55 51
def iRs1 (w : Nat) : Nat := bits w 50 46
def iRs2 (w : Nat) : Nat := bits w 45 41
def iFn (w : Nat) : Nat := bits w 40 32
def iImm (w : Nat) : Nat := bits w 31 0
def iVs3 (w : Nat) : Nat := bits w 31 27
def iOvf (w : Nat) : Bool := bitOf w 40
def iMaskEn (w : Nat) : Bool := bitOf w 39
def iMask (w : Nat) : Nat := bits w 38 37
def iSub (w : Nat) : Nat := bits w 36 32

/-- A 32-bit field sign-extended to 64 bits, as a number below 2^64. -/
def sext32 (v : Nat) : Nat := if bitOf v 31 then v % 2 ^ 32 + (2 ^ 64 - 2 ^ 32) else v % 2 ^ 32

/-- IMM of a format I word. -/
def iImm64 (w : Nat) : Nat := sext32 (iImm w)

/-- Whether an opcode is listed (R304). -/
def opcListed (o : Nat) : Bool :=
  o ≤ 0x0B || (0x10 ≤ o && o ≤ 0x1A) || (0x20 ≤ o && o ≤ 0x22) || (0x28 ≤ o && o ≤ 0x2E)
    || (0x40 ≤ o && o ≤ 0x55) || o = 0x58 || (0x60 ≤ o && o ≤ 0x62) || (0x70 ≤ o && o ≤ 0x76)

/-- The reserved parts of format R with no FN, of format R with the listed FN, of format I, and of format V with
the listed SUB. -/
def resvR (w : Nat) : Bool := iFn w != 0 || iImm w != 0
def resvRFn (ok : Nat → Bool) (w : Nat) : Bool := !(ok (iFn w)) || iImm w != 0
def resvI (w : Nat) : Bool := iRs2 w != 0 || iFn w != 0
def resvIFn (ok : Nat → Bool) (w : Nat) : Bool := iRs2 w != 0 || !(ok (iFn w))
def resvV (vregs : List Nat) (ok : Nat → Bool) (w : Nat) : Bool :=
  w % 2 ^ 27 != 0 || vregs.any (fun r => decide (15 < r)) || !(ok (iSub w))

/-! ### Registers -/

/-- General register `i`; g0 reads 0 (R297). -/
def Tile.reg (x : Tile) (i : Nat) : Nat := if i = 0 then 0 else (x.g.getD i 0).toNat

/-- General register `i` written; a write to g0 is discarded. -/
def Tile.setReg (x : Tile) (i v : Nat) : Tile :=
  if i = 0 then x else { x with g := x.g.set i (BitVec.ofNat 64 v) }

/-- A number below 2^64 as a signed integer, and an integer back. -/
def s64 (v : Nat) : Int := bitsInt 64 v
def u64 (i : Int) : Nat := intBits 64 i

/-- A vector register's 64 lanes, and a mask register. -/
def Tile.vreg (x : Tile) (i : Nat) : List Nat := x.v.getD i (List.replicate 64 0)
def Tile.mreg (x : Tile) (i : Nat) : Nat := nth x.m i

/-! ### Classes and traces (R516, R523) -/

/-- Instruction classes of tile counter group 0. -/
def cScalar : Nat := 0
def cVector : Nat := 1
def cArray : Nat := 2
def cXfer : Nat := 3
def cColl : Nat := 4

/-- The KIND 2 trace record of an instruction (R523). -/
def Dev.traceIns (d : Dev) (t opc pc issued beats ea cause : Nat) : Dev :=
  let x := d.tile t
  let l := x.prog.getD {}
  d.traceWrite (quadOfTile t)
    [2 * 2 ^ 28 + t * 2 ^ 22 + opc * 2 ^ 14, issued / 2 ^ 32, issued % 2 ^ 32, pc % 2 ^ 32, 0,
     (d.now - issued) % 2 ^ 32, beats % 2 ^ 32, 0, 0, ea % 2 ^ 32, cause, l.burgee, l.id % 2 ^ 32, 0, 0, 0]

/-- Whether the instruction now issued is tagged, and the tile's count of instructions advanced (R522). -/
def Dev.tagIns (d : Dev) (t : Nat) : Dev × Bool :=
  let x := d.tile t
  (d.setTile t { x with nIns := x.nIns + 1 }, d.tagged (0x300 + t) x.nIns (d.rd R.TEL_TAGCFG_INS_LOG2))

/-- What an instruction that has issued does with its tag: a synchronous one completes at once. -/
def Dev.issued (d : Dev) (t cls opc pc ea cause : Nat) : Dev :=
  let r := d.tagIns t
  let d := if cause = 0 then r.1.count 0x0A t 0 cls else r.1
  if r.2 then (d.count 0x14 (quadOfTile t) 0 0).traceIns t opc pc d.now 0 ea cause else d

/-! ### Exceptions (R330, R331) -/

/-- An exception of the instruction at PC. -/
def Dev.exc (d : Dev) (t opc cause eaddr : Nat) (einfo : Nat := 0) : Dev :=
  let pc := (d.tile t).pc
  let d := if cause = ecFormat then d.count 0x0A t 5 0 else d
  (d.issued t cScalar opc pc eaddr cause).raiseExc t cause eaddr einfo

/-- The instruction at PC retires: the tile is changed, and PC moves on by 8. -/
def Dev.retire (d : Dev) (t cls opc : Nat) (f : Tile → Tile) (ea : Nat := 0) : Dev :=
  let pc := (d.tile t).pc
  (d.issued t cls opc pc ea 0).modTile t fun x => { f x with pc := (x.pc + 8) % 2 ^ 64 }

/-! ### One instruction -/

/-- Whether a tile can issue: RUNNING a program that has not been ended by an exception. -/
def Dev.canIssue (d : Dev) (t : Nat) : Bool :=
  let x := d.tile t
  d.tileState t = tsRunning && x.prog.isSome && x.ending.isNone

/-- The instruction at the PC of tile `t`, fetched and checked, when its opcode is `opc`: `resv` says whether a
reserved part is not zero, and `body` does the rest.  `bad` names the words found uncorrectable by this step's
accesses.  Faults of the fetch and opcodes that are not listed come first (R331). -/
def Dev.step1 (d : Dev) (t opc : Nat) (bad : EccHits) (resv : Nat → Bool) (body : Nat → Tile → Dev → Dev) : Dev :=
  if d.canIssue t = false then d
  else
    let x := d.tile t
    let pc := x.pc
    if pc % 8 ≠ 0 then d.exc t 0 ecMisaligned pc
    else if sramBytes ≤ pc then d.exc t 0 ecAddress pc
    else
      let d' := d.sramMeet t pc 8 bad
      if (d'.poisonIn t pc 8).isSome then d'.exc t 0 ecSram pc
      else
        let w := ofLE ((d.sramOf t).readN pc 8)
        if opcListed (iOpc w) = false then d'.exc t (iOpc w) ecIllegal w
        else if iOpc w ≠ opc then d
        else if resv w then d'.exc t opc ecReserved w
        else body w x d'

/-! ### Effective addresses (R298, R299, R305) -/

/-- The tile and offset that an EA names. -/
def eaTile (t ea : Nat) : Nat := if bitOf ea 27 then t / 8 * 8 + bits ea 26 24 else t
def eaOff (ea : Nat) : Nat := bits ea 23 0

/-- The cause of a fault of an access of `n` bytes aligned to `al`, or 0: MISALIGNED, then ADDRESS_FAULT.  A load
or AMO of another tile also needs its permission. -/
def Dev.eaFault (d : Dev) (t ea n al : Nat) (store : Bool) : Nat :=
  if ea % al ≠ 0 then ecMisaligned
  else if 2 ^ 28 ≤ ea ∨ (bitOf ea 27 = false ∧ bits ea 26 24 ≠ 0) ∨ sramBytes < eaOff ea + n then ecAddress
  else if store = false ∧ bitOf ea 27 ∧ d.remoteOk t (eaTile t ea) = false then ecAddress
  else 0

/-- The bytes that a load of the tile returns: those of the bank, with the tile's own buffered stores over them in
program order (R324). -/
def Dev.loadBytes (d : Dev) (t u off n : Nat) : List Nat :=
  (d.tile t).buf.foldl (fun (bs : List Nat) s =>
    if s.tile = u then
      bs.zipIdx.map fun (b : Nat × Nat) =>
        let a := off + b.2
        if s.addr ≤ a ∧ a < s.addr + s.bytes.length then nth s.bytes (a - s.addr) else b.1
    else bs) ((d.sramOf u).readN off n)

/-- The words of a load that the tile's own buffered stores do not cover whole. -/
def Dev.loadBad (d : Dev) (t u off n : Nat) : Bool :=
  (wordsOf off n).any fun w => (d.eccOf u).poison.contains w
    && !((d.tile t).buf.any fun s => s.tile = u && decide (s.addr ≤ w) && decide (w + 8 ≤ s.addr + s.bytes.length))

/-- A load of `n` bytes: its bytes, or the device having taken the exception. -/
def Dev.load (d : Dev) (t opc ea n al : Nat) (bad : EccHits) (k : List Nat → Dev → Dev) : Dev :=
  let f := d.eaFault t ea n al false
  if f ≠ 0 then d.exc t opc f ea
  else
    let u := eaTile t ea
    let off := eaOff ea
    let d := d.sramMeet u off n bad (if u = t then 0 else 1)
    if d.loadBad t u off n then d.exc t opc ecSram ea
    else k (d.loadBytes t u off n) d

/-- A store put into the buffer; the tile waits while it is full (R325). -/
def Dev.store1 (d : Dev) (t cls opc ea al : Nat) (bytes : List Nat) (f : Tile → Tile := id) : Dev :=
  let x := d.tile t
  let c := d.eaFault t ea bytes.length al true
  if c ≠ 0 then d.exc t opc c ea
  else if 16 ≤ x.buf.length then d
  else
    let s : StoreEnt := { tile := eaTile t ea, remote := bitOf ea 27, addr := eaOff ea, bytes := bytes, ea := ea
                          grp := x.grp }
    d.retire t cls opc (fun x => { f x with buf := x.buf ++ [s] }) ea

/-- STORE_PERFORMED: entry `i` of the store buffer is performed at its bank, when no older entry covers a byte of
it and none is older than a FENCE.ST before it (R324 to R326). -/
def storePerformed (t i : Nat) (d : Dev) : Dev :=
  let x := d.tile t
  match x.buf[i]? with
  | none => d
  | some s =>
    if (x.buf.take i).any fun o => o.overlaps s || decide (o.grp < s.grp) then d
    else ((d.performStore t s).modTile t fun x => { x with buf := x.buf.eraseIdx i }).tryEnd t

end Sys2Proof.Machine
end

