-- ==== Sys2Proof/Machine/TileScalar.lean ====
section
/-! DEFINITION. The scalar instructions of a tile (spec/11, R302 to R305, R316, R322, R323, R326, R327, R332,
R337).  Each runs when it is the instruction at the PC of its tile; one that has to wait changes nothing. -/

namespace Sys2Proof.Machine

/-! ### Arithmetic (R304) -/

/-- An instruction of format R that writes g[rd]. -/
def Dev.aluR (d : Dev) (t opc : Nat) (bad : EccHits) (f : Nat → Nat → Nat) : Dev :=
  d.step1 t opc bad resvR fun w x d =>
    d.retire t cScalar opc fun y => y.setReg (iRd w) (f (x.reg (iRs1 w)) (x.reg (iRs2 w)))

/-- An instruction of format I that writes g[rd] from g[rs1] and IMM. -/
def Dev.aluI (d : Dev) (t opc : Nat) (bad : EccHits) (f : Nat → Nat → Nat) : Dev :=
  d.step1 t opc bad resvI fun w x d =>
    d.retire t cScalar opc fun y => y.setReg (iRd w) (f (x.reg (iRs1 w)) (iImm64 w))

def shl64 (a n : Nat) : Nat := a * 2 ^ (n % 64)
def shr64 (a n : Nat) : Nat := a / 2 ^ (n % 64)
def sra64 (a n : Nat) : Nat := u64 (s64 a / 2 ^ (n % 64))
def sub64 (a b : Nat) : Nat := a + (2 ^ 64 - b % 2 ^ 64)
def slt64 (a b : Nat) : Nat := b2n (decide (s64 a < s64 b))
def sltu64 (a b : Nat) : Nat := b2n (decide (a < b))

def insNop (t : Nat) (bad : EccHits) (d : Dev) : Dev :=
  d.step1 t 0x00 bad resvR fun _ _ d => d.retire t cScalar 0x00 id
def insAdd (t : Nat) (bad : EccHits) (d : Dev) : Dev := d.aluR t 0x01 bad (· + ·)
def insSub (t : Nat) (bad : EccHits) (d : Dev) : Dev := d.aluR t 0x02 bad sub64
def insMul (t : Nat) (bad : EccHits) (d : Dev) : Dev := d.aluR t 0x03 bad (· * ·)
def insAnd (t : Nat) (bad : EccHits) (d : Dev) : Dev := d.aluR t 0x04 bad (· &&& ·)
def insOr (t : Nat) (bad : EccHits) (d : Dev) : Dev := d.aluR t 0x05 bad (· ||| ·)
def insXor (t : Nat) (bad : EccHits) (d : Dev) : Dev := d.aluR t 0x06 bad (· ^^^ ·)
def insShl (t : Nat) (bad : EccHits) (d : Dev) : Dev := d.aluR t 0x07 bad shl64
def insShr (t : Nat) (bad : EccHits) (d : Dev) : Dev := d.aluR t 0x08 bad shr64
def insSra (t : Nat) (bad : EccHits) (d : Dev) : Dev := d.aluR t 0x09 bad sra64
def insSlt (t : Nat) (bad : EccHits) (d : Dev) : Dev := d.aluR t 0x0A bad slt64
def insSltu (t : Nat) (bad : EccHits) (d : Dev) : Dev := d.aluR t 0x0B bad sltu64
def insAddi (t : Nat) (bad : EccHits) (d : Dev) : Dev := d.aluI t 0x10 bad (· + ·)
def insAndi (t : Nat) (bad : EccHits) (d : Dev) : Dev := d.aluI t 0x11 bad (· &&& ·)
def insOri (t : Nat) (bad : EccHits) (d : Dev) : Dev := d.aluI t 0x12 bad (· ||| ·)
def insXori (t : Nat) (bad : EccHits) (d : Dev) : Dev := d.aluI t 0x13 bad (· ^^^ ·)
def insShli (t : Nat) (bad : EccHits) (d : Dev) : Dev := d.aluI t 0x14 bad shl64
def insShri (t : Nat) (bad : EccHits) (d : Dev) : Dev := d.aluI t 0x15 bad shr64
def insSrai (t : Nat) (bad : EccHits) (d : Dev) : Dev := d.aluI t 0x16 bad sra64
def insLui (t : Nat) (bad : EccHits) (d : Dev) : Dev :=
  d.aluI t 0x17 bad fun a i => i * 2 ^ 32 % 2 ^ 64 + a % 2 ^ 32

/-! ### Memory (R304, R324 to R327) -/

/-- Bytes of an access from FN[1:0]. -/
def accSize (fn : Nat) : Nat := 2 ^ (fn % 4)

/-- A loaded value of `n` bytes, sign-extended to 64 bits when `sx`. -/
def loadVal (bs : List Nat) (n : Nat) (sx : Bool) : Nat :=
  if sx then u64 (bitsInt (8 * n) (ofLE bs)) else ofLE bs

def insLd (t : Nat) (bad : EccHits) (d : Dev) : Dev :=
  d.step1 t 0x18 bad (resvIFn fun f => decide (f < 8)) fun w x d =>
    let n := accSize (iFn w)
    let ea := (x.reg (iRs1 w) + iImm64 w) % 2 ^ 64
    d.load t 0x18 ea n n bad fun bs d =>
      d.retire t cScalar 0x18 (fun y => y.setReg (iRd w) (loadVal bs n (bitOf (iFn w) 2))) ea

def insSt (t : Nat) (bad : EccHits) (d : Dev) : Dev :=
  d.step1 t 0x19 bad (resvIFn fun f => decide (f < 4)) fun w x d =>
    let n := accSize (iFn w)
    let ea := (x.reg (iRs1 w) + iImm64 w) % 2 ^ 64
    d.store1 t cScalar 0x19 ea n (bytesLE n (x.reg (iRd w)))

/-- What an atomic leaves at its address (R327). -/
def amoNew (op old v : Nat) : Nat :=
  if op = 0 then (old + v) % 2 ^ 32
  else if op = 1 then (old + v) % 2 ^ 64
  else if op = 2 then min 0xFFFFFFFF (old + v % 2 ^ 32)
  else if op = 3 then v % 2 ^ 32
  else v % 2 ^ 64

/-- Bytes of an atomic. -/
def amoSize (op : Nat) : Nat := if op = 1 ∨ op = 4 then 8 else 4

/-- Whether an atomic must wait for stores of its own tile: all of them with SC, else those to its bytes and those
that a FENCE.ST puts before it. -/
def Tile.amoWaits (x : Tile) (u off n : Nat) (sc : Bool) : Bool :=
  x.buf.any fun s => sc || decide (s.grp < x.grp)
    || (s.tile = u && decide (s.addr < off + n) && decide (off < s.addr + s.bytes.length))

def insAmo (t : Nat) (bad : EccHits) (d : Dev) : Dev :=
  d.step1 t 0x1A bad (resvRFn fun f => decide (f < 16) && decide (f % 8 ≤ 4)) fun w x d =>
    let op := iFn w % 8
    let n := amoSize op
    let ea := x.reg (iRs1 w)
    let f := d.eaFault t ea n n false
    let u := eaTile t ea
    let off := eaOff ea
    if f ≠ 0 then d.exc t 0x1A f ea
    else if x.amoWaits u off n (bitOf (iFn w) 3) then d
    else
      let d := d.sramMeet u off n bad (if u = t then 0 else 1)
      if (d.poisonIn u off n).isSome then d.exc t 0x1A ecSram ea
      else
        let old := ofLE ((d.sramOf u).readN off n)
        let d := d.sramWrite u off (bytesLE n (amoNew op old (x.reg (iRs2 w))))
        d.retire t cScalar 0x1A (fun y => y.setReg (iRd w) old) ea

/-! ### Branches (R304, R305) -/

/-- A branch condition. -/
def brTaken (c a b : Nat) : Bool :=
  if c = 0 then a = b else if c = 1 then a != b
  else if c = 2 then decide (s64 a < s64 b) else if c = 3 then decide (s64 b ≤ s64 a)
  else if c = 4 then decide (a < b) else decide (b ≤ a)

/-- The instruction at PC retires with PC at `pc'`. -/
def Dev.retireTo (d : Dev) (t opc pc' : Nat) (f : Tile → Tile) : Dev :=
  let pc := (d.tile t).pc
  (d.issued t cScalar opc pc 0 0).modTile t fun y => { f y with pc := pc' % 2 ^ 64 }

def insBr (t : Nat) (bad : EccHits) (d : Dev) : Dev :=
  d.step1 t 0x20 bad (fun w => iRd w != 0 || decide (5 < iFn w)) fun w x d =>
    d.retireTo t 0x20 (if brTaken (iFn w) (x.reg (iRs1 w)) (x.reg (iRs2 w)) then x.pc + 8 * iImm64 w else x.pc + 8) id

def insJal (t : Nat) (bad : EccHits) (d : Dev) : Dev :=
  d.step1 t 0x21 bad (fun w => resvI w || iRs1 w != 0) fun w x d =>
    d.retireTo t 0x21 (x.pc + 8 * iImm64 w) fun y => y.setReg (iRd w) (x.pc + 8)

def insJalr (t : Nat) (bad : EccHits) (d : Dev) : Dev :=
  d.step1 t 0x22 bad resvI fun w x d =>
    let dest := (x.reg (iRs1 w) + iImm64 w) % 2 ^ 64
    if dest % 8 ≠ 0 then d.exc t 0x22 ecMisaligned dest
    else d.retireTo t 0x22 dest fun y => y.setReg (iRd w) (x.pc + 8)

def insTrap (t : Nat) (bad : EccHits) (d : Dev) : Dev :=
  d.step1 t 0x2B bad resvI fun w _ d => d.exc t 0x2B ecTrap (iImm64 w)

def insRete (t : Nat) (bad : EccHits) (d : Dev) : Dev :=
  d.step1 t 0x2C bad resvR fun _ x d =>
    if x.epc % 8 ≠ 0 then d.exc t 0x2C ecMisaligned x.epc
    else d.retireTo t 0x2C x.epc fun y => { y with active := false }

/-! ### Fences, WAIT and HALT (R302, R316, R326) -/

/-- A FENCE with function `k`; `body` when it is the one at PC. -/
def Dev.fence (d0 : Dev) (t k : Nat) (bad : EccHits) (body : Tile → Dev → Dev) : Dev :=
  d0.step1 t 0x28 bad (resvRFn fun f => decide (f < 4)) fun w x d => if iFn w = k then body x d else d0

/-- Whether every instruction of the three queues has completed. -/
def Tile.quiet (x : Tile) : Bool := x.queues.all (· = [])

/-- The first error that no WAIT has collected raised as ASYNC_FAILED, or `k`. -/
def Dev.collect (d : Dev) (t opc : Nat) (x : Tile) (k : Dev → Dev) : Dev :=
  match x.doneErrs with
  | [] => k d
  | e :: rest => (d.modTile t fun y => { y with doneErrs := rest }).exc t opc ecAsync e.1 e.2

def fenceLd (t : Nat) (bad : EccHits) (d : Dev) : Dev :=
  d.fence t 0 bad fun _ d => d.retire t cScalar 0x28 id
def fenceSt (t : Nat) (bad : EccHits) (d : Dev) : Dev :=
  d.fence t 1 bad fun _ d => d.retire t cScalar 0x28 fun y => { y with grp := y.grp + 1 }
def fenceSc (t : Nat) (bad : EccHits) (d : Dev) : Dev :=
  d.fence t 2 bad fun x d => if x.buf = [] then d.retire t cScalar 0x28 id else d
def fenceTn (t : Nat) (bad : EccHits) (d : Dev) : Dev :=
  d.fence t 3 bad fun x d =>
    if x.quiet = false then d else d.collect t 0x28 x fun d => d.retire t cScalar 0x28 id

def insWait (t : Nat) (bad : EccHits) (d : Dev) : Dev :=
  d.step1 t 0x29 bad resvR fun w x d =>
    let tok := x.reg (iRs1 w)
    let q := tok / 2 ^ 62
    let n := tok % 2 ^ 62
    if q = 3 ∨ n = 0 ∨ nth x.issued q < n then d.exc t 0x29 ecDesc tok
    else if (x.queues.getD q []).any fun o => o.token = tok then d
    else match x.doneErrs.find? fun e => e.1 = tok with
      | some e => (d.modTile t fun y => { y with doneErrs := y.doneErrs.erase e }).exc t 0x29 ecAsync tok e.2
      | none => d.retire t cScalar 0x29 id

def insHalt (t : Nat) (bad : EccHits) (d : Dev) : Dev :=
  d.step1 t 0x2A bad resvR fun w x d =>
    if x.quiet = false then d
    else d.collect t 0x2A x fun d =>
      if x.buf ≠ [] then d
      else (d.issued t cScalar 0x2A x.pc 0 0).endProgram t (x.reg (iRs1 w) % 65536)

/-! ### Control and status registers (R337) -/

/-- A word of a receive ring by its CSR. -/
def RxRing.csr (r : RxRing) (k : Nat) : Nat :=
  if k = 0 then r.base else if k = 1 then r.slot else if k = 2 then r.n else if k = 3 then r.head else r.tail

/-- The value of a CSR, if it exists. -/
def Dev.csr (d : Dev) (t n : Nat) : Option Nat :=
  let x := d.tile t
  if n = 0 then some (t + quadOfTile t * 64)
  else if n = 1 then some x.burgee
  else if n = 2 then some ((x.prog.map Launch.id).getD 0)
  else if n = 3 then some (d.now % 2 ^ 64)
  else if n = 4 then some (x.beats % 2 ^ 64)
  else if n = 5 then some (d.time.steps.get x.burgee 0)
  else if n = 6 then some 1
  else if n = 0x10 then some x.evec
  else if n = 0x11 then some x.epc
  else if n = 0x12 then some (x.ecause + x.einfo * 256)
  else if n = 0x13 then some x.eaddr
  else if n = 0x14 then some (b2n x.active)
  else if 0x20 ≤ n ∧ n ≤ 0x24 then some (x.rx0.csr (n - 0x20))
  else if 0x28 ≤ n ∧ n ≤ 0x2C then some (x.rx1.csr (n - 0x28))
  else if n = 0x30 then some x.rngKey
  else if n = 0x31 then some x.rngCtr
  else none

/-- Whether a CSR may be written. -/
def csrWritable (n : Nat) : Bool :=
  n = 0x10 || n = 0x11 || (0x20 ≤ n && n ≤ 0x22) || (0x28 ≤ n && n ≤ 0x2A) || n = 0x30 || n = 0x31

/-- A ring with BASE, SLOT or N written: its unconsumed entries are discarded (R323). -/
def RxRing.write (r : RxRing) (k v : Nat) : RxRing :=
  let r : RxRing := { r with head := 0
                             tail := 0
                             used := 0 }
  if k = 0 then { r with base := v } else if k = 1 then { r with slot := v } else { r with n := v }

/-- A tile with a writable CSR written. -/
def Tile.setCsr (x : Tile) (n v : Nat) : Tile :=
  if n = 0x10 then { x with evec := v }
  else if n = 0x11 then { x with epc := v }
  else if n = 0x30 then { x with rngKey := v }
  else if n = 0x31 then { x with rngCtr := v }
  else if n < 0x28 then { x with rx0 := x.rx0.write (n - 0x20) v }
  else { x with rx1 := x.rx1.write (n - 0x28) v }

/-- The value a CSR takes from a write of `v`.  RXn_SLOT is a multiple of 256; what another value leaves there is
a free value that is one (assumption log, row 4). -/
def Dev.csrTakes (d : Dev) (n v : Nat) : Dev × Nat :=
  if (n = 0x21 ∨ n = 0x29) ∧ v % 256 ≠ 0 then (d.usedFree, d.free % 2 ^ 56 * 256) else (d, v)

def insCsrr (t : Nat) (bad : EccHits) (d : Dev) : Dev :=
  d.step1 t 0x2D bad resvI fun w _ d =>
    let n := iImm w % 4096
    match d.csr t n with
    | none => d.exc t 0x2D ecCsr n
    | some v => d.retire t cScalar 0x2D fun y => y.setReg (iRd w) v

def insCsrw (t : Nat) (bad : EccHits) (d : Dev) : Dev :=
  d.step1 t 0x2E bad resvI fun w x d =>
    let n := iImm w % 4096
    if csrWritable n = false then d.exc t 0x2E ecCsr n
    else
      let r := d.csrTakes n (x.reg (iRs1 w))
      let d := r.1.retire t cScalar 0x2E fun y => y.setCsr n r.2
      if 0x20 ≤ n ∧ n ≤ 0x22 then d.placeToken (quadOfTile t) else d

/-! ### The collective interface (R322, R323) -/

/-- Whether a region handle passes its CHECK, V and burgee for a tile's burgee (R318, R322); burgee 0 passes as
in R317. -/
def Dev.handleOk (d : Dev) (h b : Nat) : Bool :=
  let r := d.region h
  r.v && h / 65536 != 0 && r.check = h / 65536 && h / 4096 % 4 = 0 && (b = 0 || r.burgee = b)

/-- CBIND: the record at g[rs2] becomes the binding of COLL_ID g[rs1]. -/
def insCbind (t : Nat) (bad : EccHits) (d : Dev) : Dev :=
  d.step1 t 0x71 bad resvR fun w x d =>
    let a := x.reg (iRs2 w)
    if sramBytes < a + 16 then d.exc t 0x71 ecAddress a
    else
      let d := d.sramMeet t a 16 bad
      if d.loadBad t t a 16 then d.exc t 0x71 ecSram a
      else
        let bs := d.loadBytes t t a 16
        let h := ofLE (bs.take 4)
        if d.handleOk h x.burgee = false then d.exc t 0x71 ecAddress h
        else
          (d.bindCtx (x.reg (iRs1 w) % 65536) h (ofLE ((bs.drop 4).take 4)) (ofLE ((bs.drop 8).take 4))).retire t
            cColl 0x71 id

/-- TADV: a trigger advanced as an item of the tile's burgee. -/
def insTadv (t : Nat) (bad : EccHits) (d : Dev) : Dev :=
  d.step1 t 0x72 bad (fun w => resvI w || iImm w = 0 || decide (255 < iImm w)) fun w x d =>
    let g := x.reg (iRs1 w)
    if 2 ^ 17 ≤ g then d.exc t 0x72 ecTrig g
    else match d.trigAdv g (iImm w) x.burgee with
      | (d, true) => d.retire t cColl 0x72 id
      | (d, false) => d.exc t 0x72 ecTrig g

/-- TWAIT: ends when its trigger is DONE. -/
def insTwait (t : Nat) (bad : EccHits) (d : Dev) : Dev :=
  d.step1 t 0x73 bad resvR fun w x d =>
    let g := x.reg (iRs1 w)
    let e := d.trig g
    if 2 ^ 17 ≤ g ∨ e.state = tgFailed ∨ e.state = tgFree ∨ e.rep then d.exc t 0x73 ecTrig g
    else if e.state = tgDone then d.retire t cColl 0x73 id
    else d

/-- The ring that a register names. -/
def Tile.ring (x : Tile) (n : Nat) : RxRing := if n = 0 then x.rx0 else x.rx1

/-- RXWAIT: the offset of the slot at the head of a ring. -/
def insRxwait (t : Nat) (bad : EccHits) (d : Dev) : Dev :=
  d.step1 t 0x75 bad resvR fun w x d =>
    let n := x.reg (iRs1 w)
    let r := x.ring n
    if 2 ≤ n then d.exc t 0x75 ecDesc n
    else if r.used = 0 then d
    else d.retire t cColl 0x75 fun y => y.setReg (iRd w) (r.base + r.head * r.slot)

/-- A ring with its oldest entry consumed. -/
def RxRing.pop (r : RxRing) : RxRing :=
  if r.used = 0 then r else { r with head := (r.head + 1) % r.n
                                     used := r.used - 1 }

/-- RXDONE: the oldest entry of a ring consumed; a token that waited for the room is placed. -/
def insRxdone (t : Nat) (bad : EccHits) (d : Dev) : Dev :=
  d.step1 t 0x76 bad resvR fun w x d =>
    let n := x.reg (iRs1 w)
    if 2 ≤ n then d.exc t 0x76 ecDesc n
    else
      let d := d.retire t cColl 0x76 fun y =>
        if n = 0 then { y with rx0 := y.rx0.pop } else { y with rx1 := y.rx1.pop }
      if n = 0 then d.placeToken (quadOfTile t) else d

end Sys2Proof.Machine
end

