-- ==== Sys2Proof/Machine/TileVec.lean ====
section
/-! DEFINITION. The vector instructions of a tile (spec/11, R303, R304, R312 to R315; spec/08, R218 to R223;
spec/16, R449, R450). -/

namespace Sys2Proof.Machine

/-! ### Lanes -/

/-- A vector register written under a mask: lanes whose mask bit is 0 keep their old value when MASK_EN is 1. -/
def Tile.setVreg (x : Tile) (w i : Nat) (ls : List Nat) : Tile :=
  let old := x.vreg i
  let m := x.mreg (iMask w)
  let ls := (List.range 64).map fun k => if iMaskEn w && !(bitOf m k) then nth old k else nth ls k
  { x with v := setAt x.v i ls }

/-- Every register of a list is a vector register. -/
def vregsOk (l : List Nat) : Bool := l.all fun r => decide (r < 16)

/-- A lane-wise instruction of one operand, of two and of three, on exact values, rounded once. -/
def Dev.vec1 (d : Dev) (t opc : Nat) (bad : EccHits) (f : Val → Val) : Dev :=
  d.step1 t opc bad (fun w => resvV [iRd w, iRs1 w] (· = 0) w) fun w x d =>
    d.retire t cVector opc fun y =>
      y.setVreg w (iRd w) ((x.vreg (iRs1 w)).map fun a => round32 (f (of32 a)) (iOvf w))

def Dev.vec2 (d : Dev) (t opc : Nat) (bad : EccHits) (f : Val → Val → Val) : Dev :=
  d.step1 t opc bad (fun w => resvV [iRd w, iRs1 w, iRs2 w] (· = 0) w) fun w x d =>
    d.retire t cVector opc fun y =>
      y.setVreg w (iRd w) (((x.vreg (iRs1 w)).zip (x.vreg (iRs2 w))).map fun p =>
        round32 (f (of32 p.1) (of32 p.2)) (iOvf w))

def insVadd (t : Nat) (bad : EccHits) (d : Dev) : Dev := d.vec2 t 0x42 bad fun a b => exactSum [a, b]
def insVsub (t : Nat) (bad : EccHits) (d : Dev) : Dev := d.vec2 t 0x43 bad fun a b => exactSum [a, b.negate]
def insVmul (t : Nat) (bad : EccHits) (d : Dev) : Dev := d.vec2 t 0x44 bad Val.mul
def insVdiv (t : Nat) (bad : EccHits) (d : Dev) : Dev := d.vec2 t 0x48 bad Val.div
def insVsqrt (t : Nat) (bad : EccHits) (d : Dev) : Dev := d.vec1 t 0x49 bad Val.sqrt

/-- VFMA: vs1 × vs2 + vs3 with one rounding. -/
def insVfma (t : Nat) (bad : EccHits) (d : Dev) : Dev :=
  d.step1 t 0x45 bad (fun w => resvV [iRd w, iRs1 w, iRs2 w, iVs3 w] (· = 0) w) fun w x d =>
    d.retire t cVector 0x45 fun y =>
      y.setVreg w (iRd w) ((List.range 64).map fun k =>
        round32 (exactSum [(of32 (nth (x.vreg (iRs1 w)) k)).mul (of32 (nth (x.vreg (iRs2 w)) k)),
          of32 (nth (x.vreg (iVs3 w)) k)]) (iOvf w))

/-! ### Comparisons (R304, R315) -/

/-- Whether a value is below another; neither is a NaN. -/
def Val.lt (a b : Val) : Bool :=
  match a, b with
  | .nan, _ => false
  | _, .nan => false
  | .inf s, .inf t => s && !t
  | .inf s, .fin _ _ _ => s
  | .fin _ _ _, .inf t => !t
  | a, b => decide (a.atUnit (minExp [a, b]) < b.atUnit (minExp [a, b]))

/-- The larger (or with `mn` the smaller) of two lanes.  A NaN gives NaN; of two zeros of unlike sign the sign of
the result is `z`, which the spec leaves open. -/
def laneMax (mn : Bool) (z : Bool) (a b : Nat) : Nat :=
  let u := of32 a
  let v := of32 b
  if u.isNan || v.isNan then fp32.nanBits
  else if u.isZero && v.isZero then (if u.neg = v.neg then a else b2n z * 2 ^ 31)
  else if (if mn then v.lt u else u.lt v) then b else a

def Dev.vecMax (d : Dev) (t opc : Nat) (bad : EccHits) (mn : Bool) : Dev :=
  d.step1 t opc bad (fun w => resvV [iRd w, iRs1 w, iRs2 w] (· = 0) w) fun w x d =>
    let z := d.free
    d.usedFree.retire t cVector opc fun y =>
      y.setVreg w (iRd w) ((List.range 64).map fun k =>
        laneMax mn (bitOf z k) (nth (x.vreg (iRs1 w)) k) (nth (x.vreg (iRs2 w)) k))

def insVmax (t : Nat) (bad : EccHits) (d : Dev) : Dev := d.vecMax t 0x46 bad false
def insVmin (t : Nat) (bad : EccHits) (d : Dev) : Dev := d.vecMax t 0x47 bad true

/-- A comparison of two lanes: EQ, NE, LT, LE; with a NaN only NE holds. -/
def laneCmp (sub a b : Nat) : Bool :=
  let u := of32 a
  let v := of32 b
  if u.isNan || v.isNan then sub = 1
  else
    let eq := !(u.lt v) && !(v.lt u)
    if sub = 0 then eq else if sub = 1 then !eq else if sub = 2 then u.lt v else eq || u.lt v

def insVcmp (t : Nat) (bad : EccHits) (d : Dev) : Dev :=
  d.step1 t 0x4A bad (fun w => resvV [iRs1 w, iRs2 w] (fun s => decide (s < 4)) w || decide (3 < iRd w)) fun w x d =>
    let en := x.mreg (iMask w)
    let old := x.mreg (iRd w)
    let new := (List.range 64).foldl (fun (n : Nat) k =>
      let b := if iMaskEn w && !(bitOf en k) then bitOf old k
        else laneCmp (iSub w) (nth (x.vreg (iRs1 w)) k) (nth (x.vreg (iRs2 w)) k)
      n + b2n b * 2 ^ k) 0
    d.retire t cVector 0x4A fun y => { y with m := setAt y.m (iRd w) new }

def insVsel (t : Nat) (bad : EccHits) (d : Dev) : Dev :=
  d.step1 t 0x4B bad (fun w => resvV [iRd w, iRs1 w, iRs2 w] (· = 0) w || decide (3 < iVs3 w)) fun w x d =>
    let m := x.mreg (iVs3 w)
    d.retire t cVector 0x4B fun y =>
      y.setVreg w (iRd w) ((List.range 64).map fun k =>
        if bitOf m k then nth (x.vreg (iRs1 w)) k else nth (x.vreg (iRs2 w)) k)

/-- VREDSUM: the lanes added in ascending order. -/
def insVredsum (t : Nat) (bad : EccHits) (d : Dev) : Dev :=
  d.step1 t 0x4D bad (fun w => resvV [iRd w, iRs1 w] (· = 0) w) fun w x d =>
    let ls := x.vreg (iRs1 w)
    let s := (ls.drop 1).foldl (fun (a : Nat) b => add32 a b (iOvf w)) (nth ls 0)
    d.retire t cVector 0x4D fun y => y.setVreg w (iRd w) (s :: List.replicate 63 0)

/-- VREDMAX: the largest lane; NaN when any lane is NaN, and +0 when −0 meets +0. -/
def insVredmax (t : Nat) (bad : EccHits) (d : Dev) : Dev :=
  d.step1 t 0x4E bad (fun w => resvV [iRd w, iRs1 w] (· = 0) w) fun w x d =>
    let ls := x.vreg (iRs1 w)
    let s := (ls.drop 1).foldl (fun (a : Nat) b => laneMax false false a b) (nth ls 0)
    let s := if (of32 s).isNan then fp32.nanBits else s
    d.retire t cVector 0x4E fun y => y.setVreg w (iRd w) (s :: List.replicate 63 0)

/-! ### Moves (R304) -/

def insVbcast (t : Nat) (bad : EccHits) (d : Dev) : Dev :=
  d.step1 t 0x4C bad (fun w => resvI w || decide (15 < iRd w)) fun w x d =>
    d.retire t cVector 0x4C fun y =>
      { y with v := setAt y.v (iRd w) (List.replicate 64 (x.reg (iRs1 w) % 2 ^ 32)) }

def insVextr (t : Nat) (bad : EccHits) (d : Dev) : Dev :=
  d.step1 t 0x4F bad (fun w => resvI w || decide (15 < iRs1 w)) fun w x d =>
    d.retire t cVector 0x4F fun y => y.setReg (iRd w) (nth (x.vreg (iRs1 w)) (iImm w % 64))

/-! ### Approximate functions (R313) -/

/-- Whether FP32 bits lie within `n` units in the last place of an exact finite value. -/
def withinUlp (n : Nat) (r : Nat) (e : Val) : Bool :=
  match of32 r, e with
  | .fin s m x, .fin s' m' x' =>
    let k := min x (min x' (-149))
    let diff := ((Val.fin s m x).atUnit k - (Val.fin s' m' x').atUnit k).natAbs
    let ulp := max (ilog m' x') (-126) - 23
    decide ((diff : Int) ≤ (n : Int) * (truncShift 1 (ulp - k) : Int))
  | _, _ => false

/-- ln 2 and log2 e at 2^-200. -/
def ln2Fix : Nat := 0xb17217f7d1cf79abc9e3b39803f2f6af40f343267298b62d8a
def log2eVal : Val := .fin false 0x171547652b82fe1777d0ffda0d23a7d11d6aef551bad2b4b116 (-200)

/-- A sum of `n` terms of the series of e^y for y at 2^-200, in [0, 1); `term` is the next term and `i` its number. -/
def expSeries : Nat → Nat → Nat → Nat → Nat
  | 0, _, _, _ => 0
  | n + 1, y, i, term => term + expSeries n y (i + 1) (term * y / (2 ^ 200 * (i + 1)))

/-- 2^x to more than 180 bits, for x above −400. -/
def exp2Val (x : Val) : Val :=
  match x with
  | .fin _ _ _ =>
    let k := x.atUnit (-200)
    let n := k / 2 ^ 200
    let f := (k % 2 ^ 200).toNat
    if n < -400 then .fin false 1 (-400) else .fin false (expSeries 48 (f * ln2Fix / 2 ^ 200) 0 (2 ^ 200)) (n - 200)
  | v => v

/-- Bits of log2 of M / 2^320, M in [2^320, 2^321): `n` of them. -/
def log2Bits : Nat → Nat → Nat → Nat
  | 0, _, acc => acc
  | n + 1, m, acc =>
    let s := m * m / 2 ^ 320
    if 2 ^ 321 ≤ s then log2Bits n (s / 2) (2 * acc + 1) else log2Bits n s (2 * acc)

/-- log2 of a positive value to 2^-140. -/
def log2Val (m : Nat) (e : Int) : Val :=
  let m1 := m * 2 ^ (320 - Nat.log2 m)
  ofInt (ilog m e * 2 ^ 140 + (log2Bits 140 m1 0 : Nat)) (-140)

def oneVal : Val := .fin false 1 0

/-- tanh of a finite value. -/
def tanhVal (n : Bool) (m : Nat) (e : Int) : Val :=
  let g := ilog m e
  let r : Val := if m = 0 ∨ g < -30 then .fin false m e else if 6 ≤ g then oneVal
    else
      let u := exp2Val ((Val.fin false m (e + 1)).mul log2eVal)
      (exactSum [u, oneVal.negate]).div (exactSum [u, oneVal])
  if n then r.negate else r

/-- 1 / (1 + e^-x) of a finite value. -/
def sigmVal (n : Bool) (m : Nat) (e : Int) : Val :=
  if m ≠ 0 ∧ 8 ≤ ilog m e then (if n then .fin false 1 (-400) else oneVal)
  else
    let u := exp2Val ((Val.fin (!n) m e).mul log2eVal)
    oneVal.div (exactSum [oneVal, u])

/-- The bits of an approximate function of a finite input (assumption log, row 4): those of the numeric profile,
which are open; the profiles differ only in VTANH and VSIGM (R465).  Bits farther than `n` units in the last place from the exact value `e` are never taken (R313). -/
def approx (prof fn a n : Nat) (e : Val) (inf : Bool) : Nat :=
  let r := Config.approx (if fn < 4 then fn else fn + 256 * prof) a % 2 ^ 32
  if withinUlp n r e then r else round32 e inf

def one32 : Nat := 0x3F800000
def inf32 (neg : Bool) : Nat := b2n neg * 2 ^ 31 + 0x7F800000

/-- An approximate function of one lane, with its special cases: 0 VEXP2, 1 VLOG2, 2 VRCP, 3 VRSQRT, 4 VTANH,
5 VSIGM. -/
def approxLane (prof fn : Nat) (inf : Bool) (a : Nat) : Nat :=
  let v := of32 a
  match v with
  | .nan => fp32.nanBits
  | .inf n =>
    if fn = 0 then (if n then 0 else inf32 false)
    else if fn = 1 then (if n then fp32.nanBits else inf32 false)
    else if fn = 2 then b2n n * 2 ^ 31
    else if fn = 3 then (if n then fp32.nanBits else 0)
    else if fn = 4 then b2n n * 2 ^ 31 + one32
    else (if n then 0 else one32)
  | .fin n m e =>
    if fn = 0 then
      if n = false ∧ m ≠ 0 ∧ 7 ≤ ilog m e then round32 (.fin false 1 128) inf else approx prof fn a 1 (exp2Val v) inf
    else if fn = 1 then
      if m = 0 then inf32 true else if n then fp32.nanBits else approx prof fn a 1 (log2Val m e) inf
    else if fn = 2 then
      if m = 0 then inf32 n else approx prof fn a 1 (oneVal.div v) inf
    else if fn = 3 then
      if m = 0 then (if n then inf32 true else inf32 false)
      else if n then fp32.nanBits
      else approx prof fn a 1 ((oneVal.div v).sqrt) inf
    else if fn = 4 then approx prof fn a 2 (tanhVal n m e) inf
    else approx prof fn a 2 (sigmVal n m e) inf

/-- VRSQRT of −0 is not stated, and is a free value (assumption log, row 4). -/
def Dev.approxFix (d : Dev) (fn a r : Nat) : Nat := if fn = 3 ∧ a = 2 ^ 31 then d.free % 2 ^ 32 else r

def Dev.vecApprox (d : Dev) (t opc fn : Nat) (bad : EccHits) : Dev :=
  d.step1 t opc bad (fun w => resvV [iRd w, iRs1 w] (· = 0) w) fun w x d =>
    let ls := (x.vreg (iRs1 w)).map fun a => d.approxFix fn a (approxLane (d.rd R.HUB_NPROF_ID) fn (iOvf w) a)
    d.usedFree.retire t cVector opc fun y => y.setVreg w (iRd w) ls

def insVexp2 (t : Nat) (bad : EccHits) (d : Dev) : Dev := d.vecApprox t 0x50 0 bad
def insVlog2 (t : Nat) (bad : EccHits) (d : Dev) : Dev := d.vecApprox t 0x51 1 bad
def insVrcp (t : Nat) (bad : EccHits) (d : Dev) : Dev := d.vecApprox t 0x52 2 bad
def insVrsqrt (t : Nat) (bad : EccHits) (d : Dev) : Dev := d.vecApprox t 0x53 3 bad
def insVtanh (t : Nat) (bad : EccHits) (d : Dev) : Dev := d.vecApprox t 0x54 4 bad
def insVsigm (t : Nat) (bad : EccHits) (d : Dev) : Dev := d.vecApprox t 0x55 5 bad

/-! ### VRNG (R449, R450) -/

/-- uniform() of a generator output as FP32 bits. -/
def uniform32 (x : Nat) : Nat := round32 (.fin false (x / 256) (-24)) false

def insVrng (t : Nat) (bad : EccHits) (d : Dev) : Dev :=
  d.step1 t 0x58 bad (fun w => resvV [iRd w] (fun s => decide (s < 2)) w) fun w x d =>
    let ls := (List.range 64).map fun k =>
      let o := cg32 x.rngKey ((x.rngCtr + k) % 2 ^ 64)
      if iSub w = 0 then uniform32 o else o
    d.retire t cVector 0x58 fun y =>
      { y.setVreg w (iRd w) ls with rngCtr := (y.rngCtr + 64) % 2 ^ 64 }

/-! ### VLD and VST (R314) -/

/-- Bit of HUB.FMTCAP_VEC. -/
def Dev.vecFmt (d : Dev) (f : Nat) : Bool := fmtDefined f && f < 32 && d.rdBit R.HUB_FMTCAP_VEC_VEC f

/-- Bytes that a VLD or VST moves. -/
def vecBytes (f : Nat) : Nat := if fmtMx f then groupBytes f else 64 * (fmtBits f / 8)

/-- The 64 lanes of a VLD: FP32, or INT32 for an integer format; `half` selects the elements of an MX group.
An MX element that overflows FP32 takes the largest value or infinity by `inf`. -/
def vldLanes (f : Nat) (half : Bool) (inf : Bool) (bs : List Nat) : List Nat :=
  let vs := decodeVals f bs
  let vs := if fmtMx f then (vs.drop (if half then 64 else 0)).take 64 else vs
  vs.map fun v => if fmtInt f then intBits 32 (toInt 32 v).1 else round32 v inf

def insVld (t : Nat) (bad : EccHits) (d : Dev) : Dev :=
  d.step1 t 0x40 bad (fun w => resvIFn (fun f => decide (f < 128) && (fmtMx (f % 64) || decide (f < 64))) w
      || decide (15 < iRd w)) fun w x d =>
    let f := iFn w % 64
    let ea := (x.reg (iRs1 w) + iImm64 w) % 2 ^ 64
    if ea % 64 ≠ 0 then d.exc t 0x40 ecMisaligned ea
    else if d.vecFmt f = false then d.exc t 0x40 ecFormat ea
    else d.load t 0x40 ea (vecBytes f) 64 bad fun bs d =>
      let ls := vldLanes f (bitOf (iFn w) 6) (d.free % 2 = 1) bs
      d.usedFree.retire t cVector 0x40 (fun y => { y with v := setAt y.v (iRd w) ls }) ea

/-- The values a VST converts: one register's lanes, or two registers' for an MX group. -/
def Tile.vstVals (x : Tile) (f rd : Nat) : List Val :=
  (if fmtMx f then x.vreg rd ++ x.vreg (rd + 1) else x.vreg rd).map of32

def insVst (t : Nat) (bad : EccHits) (d : Dev) : Dev :=
  d.step1 t 0x41 bad (fun w => resvIFn (fun f => bitOf f 6 = false && bitOf f 8 = false) w
      || decide (15 < iRd w) || (fmtMx (iFn w % 64) && iRd w % 2 = 1)) fun w x d =>
    let f := iFn w % 64
    let ea := (x.reg (iRs1 w) + iImm64 w) % 2 ^ 64
    if ea % 64 ≠ 0 then d.exc t 0x41 ecMisaligned ea
    else if d.vecFmt f = false then d.exc t 0x41 ecFormat ea
    else
      let r := encodeVals f (x.vstVals f (iRd w)) (bitOf (iFn w) 7)
      let before := (d.tile t).buf.length
      let d := d.store1 t cVector 0x41 ea 64 r.1
      if (d.tile t).buf.length = before + 1 then d.count 0x0A t 5 1 r.2.sats else d

end Sys2Proof.Machine
end

