-- ==== Sys2Proof/Machine/TileAsync.lean ====
section
/-! DEFINITION. The asynchronous instructions of a tile (spec/11, R306 to R311, R316 to R321, R323, R328) and the
injection of their blocks (spec/10, R286). -/

namespace Sys2Proof.Machine

/-! ### Issue (R303, R316, R328) -/

/-- The queue of a kind of instruction, and its opcode and class. -/
def AKind.queue : AKind → Nat
  | .mma => 0
  | .mmac => 0
  | .xfer => 1
  | .cinj => 2
  | .gpost => 2
def AKind.opc : AKind → Nat
  | .mma => 0x60
  | .mmac => 0x61
  | .xfer => 0x62
  | .cinj => 0x70
  | .gpost => 0x74
def AKind.cls : AKind → Nat
  | .mma => cArray
  | .mmac => cArray
  | .xfer => cXfer
  | .cinj => cColl
  | .gpost => cColl

/-- An instruction of a queue changed. -/
def Dev.modOp (d : Dev) (t token : Nat) (f : AsyncOp → AsyncOp) : Dev :=
  d.modTile t fun x => { x with queues := x.queues.map fun l => l.map fun o => if o.token = token then f o else o }

/-- The instruction at the head of a queue. -/
def Dev.headOp (d : Dev) (t q : Nat) : Option AsyncOp := ((d.tile t).queues.getD q []).head?

/-- What a queue's head does by itself: a GPOST posts its record to the dispatch unit (R323). -/
def Dev.startAsync (d : Dev) (t q : Nat) : Dev :=
  match d.headOp t q with
  | none => d
  | some o =>
    if o.kind ≠ .gpost ∨ o.written then d
    else if o.err.isSome ∨ (d.poisonIn t o.descAt 48).isSome then
      d.modOp t o.token fun o => { o with written := true
                                          posted := true
                                          err := some 0xFF }
    else
      let q := quadOfTile t
      let r : GateRec := { tile := t, token := o.token, words := d.sramWords t o.descAt 12 }
      let d := d.modOp t o.token fun o => { o with written := true }
      { d with red := { d.red with gateRecs := d.red.gateRecs.put q (d.red.gateRecs.get q [] ++ [r]) } }

/-- An asynchronous instruction issued: its token, its place in its queue, and its tag. -/
def Dev.issueAsync (d : Dev) (t : Nat) (w : Nat) (k : AKind) (o : AsyncOp) : Dev :=
  let q := k.queue
  let r := d.tagIns t
  let d := r.1.count 0x0A t 0 k.cls
  let d := if r.2 then d.count 0x14 (quadOfTile t) 0 0 else d
  let x := d.tile t
  let n := nth x.issued q + 1
  let o := { o with token := q * 2 ^ 62 + n
                    issuedAt := d.now
                    tag := if r.2 then some x.pc else none }
  let x := { x with queues := x.queues.set q ((x.queues.getD q []) ++ [o])
                    issued := setAt x.issued q n
                    pc := (x.pc + 8) % 2 ^ 64 }
  (d.setTile t (x.setReg (iRd w) o.token)).startAsync t q

/-- The issue of an asynchronous instruction whose descriptor has `n` words: it waits for the tile's stores to its
own SRAM and for room in its queue; a descriptor that cannot be read completes the instruction with an error. -/
def Dev.asyncIssue (d0 : Dev) (t n : Nat) (bad : EccHits) (k : AKind)
    (body : Nat → Tile → Nat → List Nat → Dev → Dev) : Dev :=
  d0.step1 t k.opc bad resvR fun w x d =>
    let a := x.reg (iRs1 w)
    if (x.buf.any fun s => s.tile = t) || decide (16 ≤ (x.queues.getD k.queue []).length) then d0
    else if a % 64 ≠ 0 then d.exc t k.opc ecMisaligned a
    else if sramBytes < a + 4 * n then d.exc t k.opc ecAddress a
    else
      let d := d.sramMeet t a (4 * n) bad
      if (d.poisonIn t a (4 * n)).isSome then
        d.issueAsync t w k
          { kind := k, token := 0, descAt := a, desc := List.replicate n 0, written := true, posted := true
            err := some 0xFF }
      else body w x a (d.sramWords t a n) d

/-! ### Matrix multiply: the descriptor (R306, R307) -/

def kFmtA (k : List Nat) : Nat := bits (nth k 0) 31 26
def kFmtB (k : List Nat) : Nat := bits (nth k 0) 25 20
def kOfmt (k : List Nat) : Nat := bits (nth k 0) 19 14
def kClass (k : List Nat) : Bool := bitOf (nth k 0) 13
def kOvf (k : List Nat) : Bool := bitOf (nth k 0) 12
def kAcc (k : List Nat) : Nat := bits (nth k 0) 11 10
def kKeep (k : List Nat) : Bool := bitOf (nth k 0) 9
def kTA (k : List Nat) : Bool := bitOf (nth k 0) 8
def kTB (k : List Nat) : Bool := bitOf (nth k 0) 7
def kHist (k : List Nat) : Nat := bits (nth k 0) 6 5
def kM (k : List Nat) : Nat := bits (nth k 1) 31 16
def kN (k : List Nat) : Nat := bits (nth k 1) 15 0
def kK (k : List Nat) : Nat := bits (nth k 2) 23 0
/-- ADDR and LD of operand 0 A, 1 B, 2 C, 3 D, and HIST_ADDR. -/
def kAddr (k : List Nat) (i : Nat) : Nat := bits (nth k (3 + 2 * i)) 23 0
def kLd (k : List Nat) (i : Nat) : Nat := bits (nth k (4 + 2 * i)) 23 0
def kHistAddr (k : List Nat) : Nat := bits (nth k 11) 23 0

/-- Whether the operands are INT8. -/
def kInt (k : List Nat) : Bool := kFmtA k = 16

/-- The class in force (R309, R310): EXACT or FAST; INT8 has one. -/
def Dev.mmaExact (d : Dev) (k : List Nat) : Bool := !(kInt k) && (kClass k || d.detExact)

/-- Bytes of `n` consecutive elements of a format. -/
def runBytes (f n : Nat) : Nat := elemOffset f n

/-- Rows of an operand in SRAM: first byte, distance, number and length. -/
structure Rows where
  base : Nat
  ld : Nat
  n : Nat
  len : Nat
  deriving DecidableEq, Repr

def rowsA (k : List Nat) : Rows :=
  if kTA k then ⟨kAddr k 0, kLd k 0, kK k, runBytes (kFmtA k) (kM k)⟩
  else ⟨kAddr k 0, kLd k 0, kM k, runBytes (kFmtA k) (kK k)⟩
def rowsB (k : List Nat) : Rows :=
  if kTB k then ⟨kAddr k 1, kLd k 1, kN k, runBytes (kFmtB k) (kK k)⟩
  else ⟨kAddr k 1, kLd k 1, kK k, runBytes (kFmtB k) (kN k)⟩
def rowsC (k : List Nat) : Rows := ⟨kAddr k 2, kLd k 2, kM k, 4 * kN k⟩
def rowsD (k : List Nat) : Rows := ⟨kAddr k 3, kLd k 3, kM k, runBytes (kOfmt k) (kN k)⟩
def rowsH (k : List Nat) : Rows := ⟨kHistAddr k, 0, 1, 256⟩

/-- Whether two operands share a byte. -/
def Rows.meets (a b : Rows) : Bool :=
  (List.range a.n).any fun i => (List.range b.n).any fun j =>
    let x := a.base + i * a.ld
    let y := b.base + j * b.ld
    decide (x < y + b.len) && decide (y < x + a.len)

/-- Whether an operand has a byte beyond the SRAM. -/
def Rows.beyond (a : Rows) : Bool := decide (0 < a.n) && decide (sramBytes < a.base + (a.n - 1) * a.ld + a.len)

/-- The operands that an MMA reads, and those that it writes. -/
def mmaReads (k : List Nat) : List Rows := [rowsA k, rowsB k] ++ (if kAcc k = 1 then [rowsC k] else [])
def mmaWrites (k : List Nat) : List Rows :=
  (if kKeep k then [] else [rowsD k]) ++ (if kHist k ≠ 0 then [rowsH k] else [])

/-! ### Matrix multiply: the checks (R308, R318) -/

/-- Bit of HUB.FMTCAP_ARR. -/
def Dev.arrFmt (d : Dev) (f : Nat) : Bool := fmtDefined f && f < 32 && d.rdBit R.HUB_FMTCAP_ARR_ARR f

/-- A reserved field or value of a descriptor that is not zero. -/
def mmaResv (k : List Nat) (c : Bool) : Bool :=
  nth k 0 % 32 != 0 || kAcc k = 3 || kHist k = 3 || bits (nth k 2) 31 24 != 0
    || ((List.range 9).any fun i => bits (nth k (3 + i)) 31 24 != 0)
    || (if c then bits (nth k 13) 10 8 != 0 || nth k 17 % 2 ^ 14 != 0
          || (List.range 6).any fun i => nth k (18 + i) != 0
        else (List.range 4).any fun i => nth k (12 + i) != 0)

/-- The accumulator that the array will hold when an instruction issued now runs: M, N and class. -/
def Dev.keptThen (d : Dev) (x : Tile) : Option (Nat × Nat × Bool) :=
  match (x.queues.getD 0 []).getLast? with
  | some o => if o.kind = .mma ∧ kKeep o.desc then some (kM o.desc, kN o.desc, d.mmaExact o.desc) else none
  | none => x.kept.map fun a => (a.m, a.n, a.exact)

/-- CHUNK_EL of an MMA.C descriptor (R242). -/
def kChunkEl (k : List Nat) : Nat := 512 * 2 ^ bits (nth k 13) 13 12

/-- Whether shapes and formats agree. -/
def mmaShapeOk (k : List Nat) : Bool :=
  let fa := kFmtA k
  let fb := kFmtB k
  kM k != 0 && kN k != 0 && kK k != 0 && ((fa = 16) == (fb = 16))
    && (!(fmtMx fa) || (!(kTA k) && kK k % 128 = 0)) && (!(fmtMx fb) || (kTB k && kK k % 128 = 0))
    && (!(fmtMx (kOfmt k)) || kN k % 128 = 0)

/-- Whether KEEP and CHAIN may be used. -/
def Dev.mmaKeepOk (d : Dev) (x : Tile) (k : List Nat) : Bool :=
  !((kKeep k || kAcc k = 2) && (decide (128 < kM k) || decide (128 < kN k)))
    && !(kAcc k = 2 && d.keptThen x != some (kM k, kN k, d.mmaExact k)) && !(kKeep k && kHist k != 0)

/-- Whether D overlaps what it must not. -/
def mmaOverlap (k : List Nat) : Bool :=
  !(kKeep k) && ((rowsD k).meets (rowsA k) || (rowsD k).meets (rowsB k) || (kHist k != 0 && (rowsD k).meets (rowsH k))
    || (kAcc k = 1 && (rowsD k).meets (rowsC k) && !(kAddr k 2 = kAddr k 3 && kLd k 2 = kLd k 3)))

/-- The first check of a descriptor that fails: the cause and EADDR of its exception. -/
def Dev.mmaCheck (d : Dev) (x : Tile) (a : Nat) (k : List Nat) (c : Bool) : Option (Nat × Nat) :=
  if kHistAddr k % 256 ≠ 0 then some (ecMisaligned, kHistAddr k)
  else if mmaResv k c then some (ecReserved, a)
  else if d.arrFmt (kFmtA k) = false ∨ d.arrFmt (kFmtB k) = false ∨ d.vecFmt (kOfmt k) = false then some (ecFormat, a)
  else if mmaShapeOk k = false ∨ d.mmaKeepOk x k = false ∨ mmaOverlap k then some (ecDesc, a)
  else if c ∧ (kKeep k ∨ kLd k 3 ≠ (rowsD k).len ∨ (fmtMx (kOfmt k) ∧ kChunkEl k % 128 ≠ 0)) then some (ecDesc, a)
  else match (mmaReads k ++ mmaWrites k).find? Rows.beyond with
    | some r => some (ecAddress, r.base)
    | none => if c ∧ bitOf (nth k 13) 11 ∧ d.handleOk (nth k 15) x.burgee = false then some (ecAddress, nth k 15)
      else none

def insMma (t : Nat) (bad : EccHits) (d : Dev) : Dev :=
  d.asyncIssue t 16 bad .mma fun w x a k d =>
    match d.mmaCheck x a k false with
    | some e => d.exc t 0x60 e.1 e.2
    | none => d.issueAsync t w .mma { kind := .mma, token := 0, descAt := a, desc := k }

/-- MMA.C: the binding of RES_V is written at issue. -/
def insMmac (t : Nat) (bad : EccHits) (d : Dev) : Dev :=
  d.asyncIssue t 24 bad .mmac fun w x a k d =>
    match d.mmaCheck x a k true with
    | some e => d.exc t 0x61 e.1 e.2
    | none =>
      let d := if bitOf (nth k 13) 11 then d.bindCtx (nth k 12 % 65536) (nth k 15) (nth k 16) (nth k 17) else d
      d.issueAsync t w .mmac { kind := .mmac, token := 0, descAt := a, desc := k }

/-! ### Matrix multiply: the result (R309, R310) -/

/-- The values of row `m` of A, and of column `n` of B, in ascending k. -/
def aRow (mem : Mem) (k : List Nat) (m : Nat) : List Val :=
  let r := rowsA k
  if kTA k then
    let s := runBytes (kFmtA k) 1
    (List.range (kK k)).flatMap fun i => decodeVals (kFmtA k) (mem.readN (r.base + i * r.ld + m * s) s)
  else decodeVals (kFmtA k) (mem.readN (r.base + m * r.ld) r.len)
def bCol (mem : Mem) (k : List Nat) (n : Nat) : List Val :=
  let r := rowsB k
  if kTB k then decodeVals (kFmtB k) (mem.readN (r.base + n * r.ld) r.len)
  else
    let s := runBytes (kFmtB k) 1
    (List.range (kK k)).flatMap fun i => decodeVals (kFmtB k) (mem.readN (r.base + i * r.ld + n * s) s)

/-- An INT32 dot product in ascending order, and whether its accumulation wrapped at least once (R224, R234). -/
def intDotW (ps : List Val) (c : Nat) : Nat × Bool :=
  ps.foldl (fun (a : Nat × Bool) v =>
    let s := bitsInt 32 a.1 + v.atUnit 0
    (intBits 32 s, a.2 || decide (s < -(2 ^ 31) ∨ 2 ^ 31 ≤ s))) (c, false)

/-- One accumulator word of the product, and whether it wrapped. -/
def dotWord (ps : List Val) (int exact ovf : Bool) (c : Option Nat) : Nat × Bool :=
  if int then intDotW ps (c.getD 0)
  else if exact then (exactDot ps c ovf, false) else (fastDot ps c ovf, false)

/-- The accumulators of an instruction, row-major. -/
def Dev.mmaAcc (d : Dev) (t : Nat) (k : List Nat) : List (Nat × Bool) :=
  let mem := d.sramOf t
  let cols := (List.range (kN k)).map (bCol mem k)
  let kept := (((d.tile t).kept.map Kept.acc).getD [])
  (List.range (kM k)).flatMap fun m =>
    let row := aRow mem k m
    cols.zipIdx.map fun (p : List Val × Nat) =>
      let c : Option Nat :=
        if kAcc k = 1 then some (ofLE (mem.readN ((rowsC k).base + m * (rowsC k).ld + 4 * p.2) 4))
        else if kAcc k = 2 then some (nth kept (m * kN k + p.2)) else none
      dotWord ((row.zip p.1).map fun ab => ab.1.mul ab.2) (kInt k) (d.mmaExact k) (kOvf k) c

/-- An accumulator word as a value. -/
def accVal (int : Bool) (a : Nat) : Val := if int then ofInt (bitsInt 32 a) 0 else of32 a

/-- The beats that an instruction occupies (R311). -/
def Dev.mmaBeats (d : Dev) (k : List Nat) : Nat :=
  let fa := kFmtA k
  let fb := kFmtB k
  let s2 := if fa = 12 ∧ fb = 12 then 4 else if fa = 1 ∨ fa = 2 ∨ fb = 1 ∨ fb = 2 then 1 else 2
  let n := ceilDiv (kM k) 128 * ceilDiv (kN k) 128 * ceilDiv (2 * kK k) s2
  if d.mmaExact k then ceilDiv (n * 20) 13 + 96 else n + 96

/-- The words of a range that are poisoned, over the rows of some operands. -/
def Dev.rowsBad (d : Dev) (t : Nat) (rs : List Rows) : Bool :=
  rs.any fun r => (List.range r.n).any fun i => (d.poisonIn t (r.base + i * r.ld) r.len).isSome
def Dev.rowsMeet (d : Dev) (t : Nat) (rs : List Rows) (bad : EccHits) : Dev :=
  d.each rs fun d r => d.each (List.range r.n) fun d i => d.sramMeet t (r.base + i * r.ld) r.len bad

/-- The histogram record brought up to date (R235, R236). -/
def Dev.histWrite (d : Dev) (t : Nat) (k : List Nat) (bins : List Nat) : Dev :=
  if kHist k = 0 then d
  else
    let old := if kHist k = 1 then List.replicate 64 0 else d.sramWords t (kHistAddr k) 64
    d.sramWrite t (kHistAddr k) ((histAdd old bins).flatMap (bytesLE 4))

/-- A matrix multiply run: its accumulators are kept, or D and the record are written.  Answers the error. -/
def Dev.mmaRun (d : Dev) (t : Nat) (k : List Nat) (bad : EccHits) : Dev × Option Nat :=
  let rd := mmaReads k ++ (if kHist k = 2 then [rowsH k] else [])
  let d := d.rowsMeet t rd bad
  if d.rowsBad t rd then (d.modTile t fun x => { x with kept := none }, some 0xFF)
  else
    let acc := d.mmaAcc t k
    let beats := d.mmaBeats k
    let exact := d.mmaExact k
    let d := d.count 0x0A t 1 (kFmtA k + (if exact then 0x80 else 0)) beats
    let d := d.modTile t fun x => { x with beats := x.beats + beats
                                           kept := none }
    if kKeep k then
      (d.modTile t fun x => { x with
        kept := some { m := kM k, n := kN k, exact := exact, acc := acc.map Prod.fst } }, none)
    else
      let rows := (List.range (kM k)).map fun m =>
        encodeVals (kOfmt k) (((acc.drop (m * kN k)).take (kN k)).map fun a => accVal (kInt k) a.1) (kOvf k)
      let wraps := (acc.filter fun a => a.2).length
      let bins := rows.flatMap (fun r => r.2.bins) ++ (if fmtInt (kOfmt k) then List.replicate wraps 63 else [])
      let d := d.each rows.zipIdx fun d r => d.sramWrite t ((rowsD k).base + r.2 * (rowsD k).ld) r.1.1
      let d := (d.count 0x0A t 5 1 (rows.map fun r => r.2.sats).sum).count 0x0A t 5 2 wraps
      (d.histWrite t k bins, none)

/-! ### XFER (R317) -/

def insXfer (t : Nat) (bad : EccHits) (d : Dev) : Dev :=
  d.asyncIssue t 8 bad .xfer fun w x a k d =>
    let out := bitOf (nth k 0) 31
    let len := bits (nth k 5) 23 0
    let loc := bits (nth k 1) 23 0
    let off := nth k 3 * 2 ^ 32 + nth k 4
    let resv := nth k 0 % 2 ^ 31 != 0 || bits (nth k 1) 31 24 != 0 || bits (nth k 5) 31 24 != 0
      || nth k 6 % 2 ^ 14 != 0 || nth k 7 != 0
    if resv then d.exc t 0x62 ecReserved a
    else if len = 0 then d.exc t 0x62 ecDesc a
    else if sramBytes < loc + len then d.exc t 0x62 ecAddress loc
    else
      let fault := match d.regionCheck (nth k 2) off len x.burgee out true with
        | .error e => e != rDomainOff
        | .ok _ => false
      if fault then d.exc t 0x62 ecAddress (nth k 2)
      else
        let r := d.region (nth k 2)
        d.issueAsync t w .xfer { kind := .xfer, token := 0, descAt := a, desc := k ++ [r.target, r.base + off] }

/-- A transfer's bytes moved.  Answers the error: 0xFF for an uncorrectable SRAM word, or a reason code. -/
def Dev.xferRun (d : Dev) (t : Nat) (k : List Nat) (bad : EccHits) : Dev × Option Nat :=
  let out := bitOf (nth k 0) 31
  let loc := bits (nth k 1) 23 0
  let len := bits (nth k 5) 23 0
  let tgt := nth k 8
  let a := nth k 9
  if d.pdOn (pdOfMem tgt) = false then (d, some rDomainOff)
  else if out then
    let d := d.sramMeet t loc len bad
    if (d.poisonIn t loc len).isSome then (d, some 0xFF)
    else (d.memWrite tgt a ((d.sramOf t).readN loc len), none)
  else if d.memBad tgt a len then (d, some (if tgt < 64 then 0xFF else rMemUnc))
  else (d.sramWrite t loc (d.memRead tgt a len), none)

/-- A completed transfer's trigger advanced as an item of the tile's burgee. -/
def Dev.xferTrig (d : Dev) (t : Nat) (k : List Nat) : Dev :=
  if bitOf (nth k 6) 14 then d.ownAdvance (bits (nth k 6) 31 15) 1 (d.tile t).burgee (bits (nth k 6) 31 15) else d

/-! ### CINJ and GPOST (R320, R323) -/

def insCinj (t : Nat) (bad : EccHits) (d : Dev) : Dev :=
  d.asyncIssue t 8 bad .cinj fun w _ a k d =>
    let resv := bits (nth k 1) 13 8 != 0 || bits (nth k 3) 31 24 != 0 || nth k 4 / 64 != 0 || nth k 6 != 0
      || nth k 7 != 0
    if resv then d.exc t 0x70 ecReserved a
    else if sramBytes < bits (nth k 3) 23 0 + nth k 5 then d.exc t 0x70 ecAddress (bits (nth k 3) 23 0)
    else d.issueAsync t w .cinj { kind := .cinj, token := 0, descAt := a, desc := k }

def insGpost (t : Nat) (bad : EccHits) (d : Dev) : Dev :=
  d.asyncIssue t 12 bad .gpost fun w _ a k d =>
    d.issueAsync t w .gpost { kind := .gpost, token := 0, descAt := a, desc := k }

/-! ### Blocks (R286, R319 to R321) -/

def AsyncOp.injects (o : AsyncOp) : Bool := o.kind = .mmac || o.kind = .cinj
def AsyncOp.coll (o : AsyncOp) : Nat := if o.kind = .mmac then nth o.desc 12 else nth o.desc 0
def AsyncOp.key (o : AsyncOp) : Nat := if o.kind = .mmac then bits (nth o.desc 13) 31 14 else bits (nth o.desc 1) 31 14
def AsyncOp.epoch (o : AsyncOp) : Nat := if o.kind = .mmac then nth o.desc 13 % 256 else nth o.desc 1 % 256
def AsyncOp.bfmt (o : AsyncOp) : Nat := if o.kind = .mmac then kOfmt o.desc else nth o.desc 4 % 64

/-- Bytes of a block, and the blocks of an MMA.C. -/
def AsyncOp.blockB (o : AsyncOp) : Nat :=
  if o.kind = .mmac then runBytes (kOfmt o.desc) (kChunkEl o.desc) else nth o.desc 5
def kBlocks (k : List Nat) : Nat := ceilDiv (kM k * kN k) (kChunkEl k)

/-- The chunk numbers that an instruction has still to inject. -/
def AsyncOp.chunksLeft (o : AsyncOp) : List Nat :=
  if o.injects = false then []
  else if o.written then o.blocks.map Prod.fst
  else if o.kind = .mmac then (List.range (kBlocks o.desc)).map fun j => nth o.desc 14 + j
  else [nth o.desc 2]

/-- The byte where a block lies in SRAM, and how many of its bytes are read; the attach pads the rest (R319). -/
def AsyncOp.blockAt (o : AsyncOp) (c : Nat) : Nat × Nat :=
  if o.kind = .mmac then
    let j := c - nth o.desc 14
    let all := kM o.desc * (rowsD o.desc).len
    ((rowsD o.desc).base + j * o.blockB, min o.blockB (all - j * o.blockB))
  else (bits (nth o.desc 3) 23 0, nth o.desc 5)

/-- A block's bytes. -/
def Dev.blockBytes (d : Dev) (t : Nat) (o : AsyncOp) (c : Nat) : List Nat :=
  let p := o.blockAt c
  (d.sramOf t).readN p.1 p.2 ++ List.replicate (o.blockB - p.2) 0

/-- An instruction that injects made ready: an MMA.C writes D, and the blocks are set. -/
def Dev.makeBlocks (d : Dev) (t : Nat) (o : AsyncOp) (bad : EccHits) : Dev :=
  if o.written then d
  else
    let r := if o.kind = .mmac then d.mmaRun t o.desc bad else (d, none)
    let d := r.1
    d.modOp t o.token fun o => { o with
      written := true
      err := r.2
      blocks := if r.2.isSome then [] else o.chunksLeft.map fun c => (c, d.blockBytes t o c) }

/-- Whether the attach holds a block: another instruction of the die has still to inject a lower one of the same
context (R286). -/
def Dev.blockHeld (d : Dev) (t q : Nat) (o : AsyncOp) (c : Nat) : Bool :=
  (List.range 8).any fun i =>
    let u := t / 8 * 8 + i
    [0, 2].any fun q' => !(u = t && q' = q) && ((d.tile u).queues.getD q' []).any fun p =>
      p.coll = o.coll && p.chunksLeft.any fun c' => decide (c' < c) || (c' = c && decide (p.key < o.key))

/-- The contribution of a block (R319). -/
def Dev.blockPkt (d : Dev) (t : Nat) (o : AsyncOp) (c : Nat) (bs : List Nat) : Packet :=
  { pclass := 2, burgee := (d.tile t).burgee, hoplim := 63, dst := 0xFFFFE, src := d.devFeid, tag := c, typ := 1
    len := o.blockB / 4, exact := d.detExact || (o.kind = .mmac && d.mmaExact o.desc), fmt := o.bfmt
    epoch := o.epoch, collId := o.coll, contrib := o.key, offset := c * o.blockB % 2 ^ 64, payload := bs }

/-- The next block of a queue's head injected, if the attach does not hold it and has room. -/
def Dev.injectBlock (d : Dev) (t q : Nat) (bad : EccHits) : Dev :=
  match d.headOp t q with
  | none => d
  | some o =>
    match o.blocks with
    | [] => d
    | b :: rest =>
      if d.blockHeld t q o b.1 then d
      else
        let p := o.blockAt b.1
        let d := d.sramMeet t p.1 p.2 bad
        let drop (d : Dev) (e : Option Nat) (pids : List Nat) : Dev :=
          d.modOp t o.token fun o => { o with blocks := rest
                                              err := o.err.or e
                                              pids := o.pids ++ pids }
        if (d.poisonIn t p.1 p.2).isSome then drop d (some 0xFF) []
        else
          let k := d.blockPkt t o b.1 b.2
          match d.trySend k (attachOf t) 4 (ownCluster k) with
          | (d, .error e) => drop d (some e) []
          | (d, .ok none) => d
          | (d, .ok (some pid)) => drop d none [pid]

/-- BLOCK_INJECTION: a ready block of the head of a tile's array queue (0) or collective queue (2) injected by the
attach, or put to wait for its slot (R462). -/
def blockInjection (t q : Nat) (bad : EccHits) (d : Dev) : Dev :=
  match d.headOp t q with
  | none => d
  | some o =>
    if o.injects = false then d
    else
      let d := d.makeBlocks t o bad
      if d.slotted (d.tile t).burgee then
        (match d.headOp t q with
          | some o => if o.blocks = [] then d else d.slotWait t (.block t)
          | none => d)
      else d.injectBlock t q bad

/-- The ready blocks of a tile injected at a slot start, as far as the attach takes them. -/
def Dev.injectReady (d : Dev) (t : Nat) : Dev :=
  d.each [0, 2] fun d q => match d.headOp t q with
    | none => d
    | some o => d.each (List.range o.blocks.length) fun d _ => d.injectBlock t q {}

/-- Whether every block of an instruction has been released by its engine, with no record of it still to come. -/
def Dev.blocksOver (d : Dev) (o : AsyncOp) : Bool :=
  o.written && o.blocks = [] && o.pids.all (fun p => (d.pkt? p).isNone)
    && !((List.range 4).any fun q => (d.net.recq.get q []).any fun r => match r.pid with
      | some p => o.pids.contains p
      | none => false)

/-! ### Completion (R316) -/

/-- The head of a queue completes. -/
def Dev.asyncDone (d : Dev) (t q : Nat) (o : AsyncOp) (err : Option Nat) : Dev :=
  let beats := if o.kind = .mma ∨ o.kind = .mmac then d.mmaBeats o.desc else 0
  let d := match o.tag with
    | some pc => d.traceIns t o.kind.opc pc o.issuedAt beats o.descAt (if err.isSome then ecAsync else 0)
    | none => d
  let d := d.modTile t fun x => { x with
    queues := x.queues.set q ((x.queues.getD q []).drop 1)
    doneErrs := match err with
      | some e => x.doneErrs ++ [(o.token, e)]
      | none => x.doneErrs }
  (d.startAsync t q).tryEnd t

/-- ASYNC_INSTRUCTION_COMPLETE: the head of queue `q` of tile `t` completes, if it can. -/
def asyncInstructionComplete (t q : Nat) (bad : EccHits) (d : Dev) : Dev :=
  match d.headOp t q with
  | none => d
  | some o =>
    match o.kind with
    | .mma =>
      if o.err.isSome then d.asyncDone t q o o.err
      else
        let r := d.mmaRun t o.desc bad
        r.1.asyncDone t q o r.2
    | .xfer =>
      if o.err.isSome then d.asyncDone t q o o.err
      else
        let r := d.xferRun t o.desc bad
        let d := if r.2.isSome then r.1 else r.1.xferTrig t o.desc
        d.asyncDone t q o r.2
    | .gpost => if o.posted then d.asyncDone t q o o.err else d
    | _ => if d.blocksOver o then d.asyncDone t q o o.err else d

/-! ### Launching by command (R300) -/

/-- TILE_LAUNCH: OK when the launch is accepted; its launch ID is the TAG (R301). -/
def tileLaunch (aseq : Nat) (d : Dev) : Dev :=
  d.cmd aseq 0x0401 fun j d =>
    if d.parking then d.complete aseq St.pwrParking
    else match d.launch (j.w 4 % 64) { entry := j.w 5 % 2 ^ 24, arg := j.w 6 * 2 ^ 32 + j.w 7, id := j.w 1
                                       burgee := j.burgee } with
      | (d, s) => d.complete aseq s

end Sys2Proof.Machine
end

