-- ==== Sys2Proof/Machine/Slot.lean ====
section
/-! DEFINITION. The time slots of DET_TIME (spec/16, R462). -/

namespace Sys2Proof.Machine

/-- A slot and its guard band, in ns. -/
def slotNs : Nat := 2000
def guardAt : Nat := 1840

/-- An injection that waited made, as far as it can be. -/
def Dev.doSlot (d : Dev) (a : SlotAct) : Dev :=
  match a with
  | .block t => d.injectReady t
  | .chunk i n => if (d.ctx i).ready n then d.sendPartial i n else d
  | .root i n => if (d.ctx i).ready n then d.storeResult i n else d
  | .send t => match d.red.running.find? fun o => o.trig = t with
    | none => d
    | some o => Dev.sendMore (o.w 4 + 1) d t
  | .op t => if (d.trig t).state = tgFiring ∧ (d.red.running.any fun o => o.trig = t) = false then d.startOp t else d
  | .launch t =>
    match (d.tile t).lq with
    | [] => d
    | l :: rest =>
      if d.tileState t = tsIdle then (d.setTile t { d.tile t with lq := rest }).startProgram t l else d

/-- Whether an injection has still to begin. -/
def Dev.slotLeft (d : Dev) (a : SlotAct) : Bool :=
  match a with
  | .block t => [0, 2].any fun q => match d.headOp t q with
    | none => false
    | some o => o.blocks != []
  | .chunk i n => (d.ctx i).state = csOpen && (d.ctx i).ready n
  | .root i n => ((d.ctx i).state = csOpen || (d.ctx i).state = csStub) && (d.ctx i).ready n
  | .send t => d.red.running.any fun o => o.trig = t && o.outcome.isNone && decide (o.off < o.w 4)
  | .op t => (d.trig t).state = tgFiring && !(d.red.running.any fun o => o.trig = t)
  | .launch t => (d.tile t).lq != [] && d.tileState t = tsIdle

/-- An item put into order: those left over first, then by source, each in order of readiness. -/
def insertSlot (cur : Nat) (x : SlotItem) : List SlotItem → List SlotItem
  | [] => [x]
  | y :: r =>
    let key (i : SlotItem) : Nat × Nat := (if i.slot + 1 < cur then 0 else 1, i.src)
    let kx := key x
    let ky := key y
    if kx.1 < ky.1 || (kx.1 = ky.1 && decide (kx.2 < ky.2)) then x :: y :: r else y :: insertSlot cur x r
def sortSlot (cur : Nat) (l : List SlotItem) : List SlotItem := l.foldl (fun acc x => insertSlot cur x acc) []

/-- The items that a slot start makes: those that became ready in an earlier slot, and all of them once DET_TIME is
no longer in force. -/
def Dev.slotDue (d : Dev) : List SlotItem :=
  sortSlot (d.now / slotNs) (d.time.slotReady.filter fun i => d.time.det ≠ 2 || decide (i.slot < d.now / slotNs))

/-- SLOT_START: the injections that became ready before this slot are made in order; one that cannot begin
stays. -/
def slotStart (d : Dev) : Dev :=
  if d.time.det = 2 ∧ guardAt ≤ d.now % slotNs then d
  else d.each d.slotDue fun d i =>
    let d := { d with time := { d.time with slotReady := d.time.slotReady.erase i } }
    let d := d.doSlot i.act
    if d.slotLeft i.act ∧ (d.time.slotReady.any fun j => j.act = i.act) = false then
      { d with time := { d.time with slotReady := d.time.slotReady ++ [i] } }
    else d

/-- SLOT_GUARD_BAND: an injection not begun by now goes first in the next slot, and is counted. -/
def slotGuardBand (d : Dev) : Dev :=
  if d.time.det ≠ 2 ∨ d.now % slotNs < guardAt then d
  else
    let late := d.time.slotReady.filter fun i => decide (i.slot < d.now / slotNs) && d.slotLeft i.act
    if late = [] then d
    else (d.set R.HUB_FTSTAT_SLOT_OVERRUN).count 0x11 0x400 0 0 late.length

end Sys2Proof.Machine
end

