-- ==== Sys2Proof/Machine/CfgCheck.lean ====
section
/-! DEFINITION. The checks of a configuration image before anything is written (spec/18, R507 to R509; spec/05,
R158; spec/06, R184; spec/09, R241; spec/10, R288; spec/13, R374; spec/16, R454). -/

namespace Sys2Proof.Machine

/-! ### Settings (R9, R507) -/

/-- The value that a field takes when one is written to it: a value that its register stores as another is
replaced. -/
def storeVal (f : Fld) (v : Nat) : Nat :=
  let v := v % 2 ^ f.w
  let min1 := [R.LNK_CFG_MAX_TMO, R.XBAR_AGE_AGE_MS, R.RTE_HCFG_DRAIN_TO, R.SCH_QCFG_WEIGHT, R.SCH_AQCFG_WEIGHT,
    R.SCH_GCFG_QTIME, R.SCH_GCFG_SAMPLE, R.RED_GCFG_ARRIVE_TO, R.NVS_CFG_FILL_TO, R.NVS_CFG_RET_DAYS,
    R.FLT_CFG_QUIET_MS, R.FLT_CFG_STRUCK_WIN_S, R.FLT_WDCFG_TILE_MS].map Fld.id
  if min1.contains f.id then max 1 v
  else if f.id = R.FLT_WDCFG_THD_HB_MS.id then max 5 v
  else if f.id = R.PWR_PLIMIT_LIMIT_W.id then min 2400 v
  else if f.id = R.TEL_TAGCFG_TRACE_LOG2.id then (if v < 12 ∨ 22 < v then 12 else v)
  else v

/-- TYPE codes of sections (R507). -/
def tyPortmap : Nat := 0x01
def tyLinkcfg : Nat := 0x02
def tyBufprof : Nat := 0x03
def tyRoute : Nat := 0x04
def tyTenant : Nat := 0x05
def tyRedtree : Nat := 0x06
def tyHoist : Nat := 0x07
def tyDispatch : Nat := 0x08
def tySchedule : Nat := 0x09
def tyHbmmap : Nat := 0x0A
def tyTime : Nat := 0x0B
def tyTune : Nat := 0x0C

/-- The instances of a field by quadrant: none for one of the whole device. -/
inductive QuadOf
  | dev | by (n : Nat)
  deriving DecidableEq, Repr

/-- The register fields that a section of a TYPE sets (R507), with how many instances a quadrant has. -/
def sectFlds (ty : Nat) : List (Fld × QuadOf) :=
  if ty = tyPortmap then
    [(R.OE_PFORM_X4, .by 8), (R.OE_PFORM_X8, .by 8), (R.OE_PFORM_HALF, .by 8)]
  else if ty = tyLinkcfg then
    [(R.LNK_CFG_REPLAY_TO, .by 128), (R.LNK_CFG_ILV_BURST, .by 128), (R.LNK_CFG_ILV_RATIO, .by 128),
     (R.LNK_CFG_MAX_TMO, .by 128)]
  else if ty = tyRoute then
    [(R.HUB_DEVFEID_FEID, .dev), (R.RTE_HCFG_SALT, .by 1), (R.RTE_HCFG_TORUS, .by 1), (R.RTE_HCFG_RESTORE_HOLD, .by 1),
     (R.RTE_HCFG_DRAIN_TO, .by 1)]
  else if ty = tyTenant then
    [(R.SCH_QCFG_WEIGHT, .by 128), (R.SCH_QCFG_OVH, .by 128), (R.SCH_QCFG_QEN, .by 128),
     (R.SCH_QSHAPE_RATE, .by 128), (R.SCH_QSHAPE_BURST, .by 128), (R.SCH_QCONG_DEPTH_TH, .by 128),
     (R.SCH_QCONG_DELAY_TH, .by 128), (R.SCH_AQCFG_WEIGHT, .by 8), (R.SCH_AQCFG_OVH, .by 8),
     (R.SCH_AQCFG_QEN, .by 8), (R.SCH_AQSHAPE_RATE, .by 8), (R.SCH_AQSHAPE_BURST, .by 8),
     (R.SCH_AQCONG_DEPTH_TH, .by 8), (R.SCH_AQCONG_DELAY_TH, .by 8), (R.SCH_GCFG_QTIME, .by 1),
     (R.SCH_GCFG_SAMPLE, .by 1)]
  else if ty = tyRedtree then
    [(R.RED_GCFG_ARRIVE_TO, .by 1), (R.RED_GCFG_STUB_MIN, .by 1), (R.RED_SCRATCH_SIZE, .by 1)]
  else if ty = tyHbmmap then
    [(R.THD_MCACHE_SIZE, .dev), (R.HBM_AREA_WIN, .by 1), (R.HBM_AREA_BUNT, .by 1)]
  else if ty = tyTime then
    [(R.HUB_FTCFG_UPPORT, .dev), (R.HUB_FTCFG_UP_V, .dev), (R.HUB_FTCFG_UPPORT2, .dev),
     (R.HUB_FTCFG_UP2_V, .dev), (R.HUB_FTCFG_MASTER, .dev)]
  else if ty = tyTune then
    [(R.XBAR_AGE_AGE_MS, .by 1), (R.FLT_CFG_QUIET_MS, .dev), (R.FLT_CFG_STRUCK_N, .dev),
     (R.FLT_CFG_STRUCK_WIN_S, .dev), (R.FLT_CFG_ABORT_HOPS, .dev), (R.FLT_WDCFG_TILE_MS, .dev),
     (R.FLT_WDCFG_RED_MS, .dev), (R.FLT_WDCFG_SEQ_MS, .dev), (R.FLT_WDCFG_THD_HB_MS, .dev),
     (R.NVS_CFG_FILL_TO, .dev), (R.NVS_CFG_RET_DAYS, .dev), (R.NVS_CFG_RD_LIMIT, .dev),
     (R.NVS_CFG_WL_SPREAD, .dev), (R.HBM_SPARE_THRESH, .by 1)]
  else []

/-- Whether a setting belongs to the section, to one of the quadrants `qs`, or to the whole device when `glob`. -/
def setHere (qs : List Nat) (glob : Bool) (inst : Nat) (q : QuadOf) : Bool :=
  match q with
  | .dev => glob
  | .by n => qs.contains (inst / n)

/-- The quadrants of a section's QMASK. -/
def CfgSect.quads (s : CfgSect) : List Nat := maskBits s.qmask 4

/-- The settings of a section written for some of its quadrants.  THD.MCACHE stays 0 while a stack has failed
(R503). -/
def Dev.applySets (d : Dev) (s : CfgSect) (qs : List Nat) (glob : Bool) : Dev :=
  d.each s.body.sets fun d (kv : RegKey × Nat) =>
    match (sectFlds s.ty).find? fun f => f.1.id = kv.1.id with
    | none => d
    | some f =>
      if setHere (s.quads.filter qs.contains) glob kv.1.inst f.2 then
        let v := if f.1.id = R.THD_MCACHE_SIZE.id ∧ d.rd R.HUB_YIELD_STACKS_FAILED ≠ 0 then 0
          else storeVal f.1 kv.2
        d.wr f.1 v kv.1.inst kv.1.idx
      else d

/-! ### Buffer profiles (R157 to R159) -/

/-- Fields of a profile entry (R157). -/
def entRing (e : Nat) : Nat := if bitOf e 24 then e % 2 ^ 14 else 0
def BufProf.entry (b : BufProf) (p v : Nat) : Nat := b.entries.get (p, v) 0

/-- The profile's layout in the registers of quadrant `q`. -/
def Dev.layout (d : Dev) (q : Nat) (b : BufProf) : Dev :=
  let d := (d.wr R.BPM_PCFG_EN b.en q).wr R.BPM_PCFG_ALPHA b.alpha q
  let d := d.each (List.range 4) fun d k => d.wr R.BPM_PPOOL_CELLS (nth b.cells k) q k
  d.each (List.range 128) fun d i => d.each (List.range 8) fun d v =>
    let p := 128 * q + i
    let e := b.entry p v
    (d.wr R.BPM_RING_SIZE (entRing e) p v).wr R.BPM_RING_EN (bits e 24 24) p v

/-- The flit time of a port in 1/100 ns (R158). -/
def Dev.flitTime (d : Dev) (p : Nat) : Nat :=
  512 / max 1 (d.portWidth p) * (if d.rdBit R.OE_PFORM_HALF (p % 16) (p / 16) then 2 else 1)

/-- Slots that an enabled entry needs (check 3 of R158). -/
def Dev.ringNeed (d : Dev) (p e : Nat) : Nat := 68 + ceilDiv (1000 * bits e 23 14 + 46000) (d.flitTime p)

/-- Retired ring slots of a quadrant (R161): those already out of service and those to be retired now. -/
def Dev.slotsRetired (d : Dev) (q : Nat) : Nat := d.net.retiredSlots.get q 0 + d.net.badSlots.get q 0

/-- The checks of R158 on a profile of quadrant `q`, in the formation of `d`: the check that fails, the port and VC
of the entry, and the slots short. -/
def Dev.profCheck (d : Dev) (q : Nat) (b : BufProf) : Option (Nat × Nat × Nat × Nat) :=
  let here := b.entries.filter fun (e : (Nat × Nat) × Nat) => e.1.1 / 128 = q && bitOf e.2 24
  let rings := here.foldl (fun n (e : (Nat × Nat) × Nat) => n + e.2 % 2 ^ 14) 0
  let cells := (List.range 4).foldl (fun n k => n + nth b.cells k * cellBytes k) 0
  let dead := (List.range 4).foldl (fun n k => n + (d.net.retiredCells.get (q, k) []).length * cellBytes k) 0
  let total := 256 * rings + 1179648 + cells + 256 * d.slotsRetired q + dead
  let poolsOk := b.en % 16 ≠ 0 ∧ (List.range 4).all fun k => bitOf b.en k == decide (nth b.cells k ≠ 0)
  if ¬ poolsOk then some (1, 0, 0, 0)
  else match here.find? fun e => !(d.formed e.1.1) with
    | some e => some (2, e.1.1 % 128, e.1.2, 0)
    | none =>
      match here.find? fun e => decide (e.2 % 2 ^ 14 < d.ringNeed e.1.1 e.2) with
      | some e => some (3, e.1.1 % 128, e.1.2, d.ringNeed e.1.1 e.2 - e.2 % 2 ^ 14)
      | none => if 100663296 < total then some (4, 0, 0, ceilDiv (total - 100663296) 256) else none

/-- BPM.PROFCHK of a quadrant. -/
def Dev.profResult (d : Dev) (q : Nat) (r : Option (Nat × Nat × Nat × Nat)) : Dev :=
  let x := r.getD (0, 0, 0, 0)
  let d := (d.wr R.BPM_PROFCHK_CHECK x.1 q).wr R.BPM_PROFCHK_PORT x.2.1 q
  (d.wr R.BPM_PROFCHK_VC x.2.2.1 q).wrSat R.BPM_PROFCHK_SHORT x.2.2.2 q

/-! ### Route images (R184) -/

/-- Whether a valid window can index a route entry. -/
def RouteImg.inUse (r : RouteImg) (i : Nat) : Bool :=
  r.bank.windows.any fun w => w.v && decide (w.base ≤ w.limit) && decide (w.tbase ≤ i)
    && decide (i ≤ w.tbase + (w.limit - w.base) / 2 ^ w.shift)

/-- The route entries in use, with their indices. -/
def RouteImg.routes (r : RouteImg) : List (Nat × RouteEnt) :=
  r.bank.routes.filter fun e => decide (e.1 < r.nRoutes) && r.inUse e.1

/-- The slots of a set with their indices. -/
def RouteImg.slotsOf (r : RouteImg) (s : Nat) : List (Nat × Slot) :=
  let x := r.bank.sets.get s {}
  (List.range x.n).map fun k => (x.base + k, r.bank.slots.get (x.base + k) {})

/-- Spray entries and multicast entries in use. -/
def RouteImg.spray (r : RouteImg) : List (Nat × RouteEnt) := r.routes.filter fun e => e.2.kind = 1
def RouteImg.mcast (r : RouteImg) : List (Nat × RouteEnt) := r.routes.filter fun e => e.2.kind = 3

/-- The VCs on which a packet routed through a set can leave (check 6). -/
def RouteImg.useOf (r : RouteImg) (s : Nat) : List Nat :=
  let es := (r.spray ++ r.mcast).map Prod.snd
  let all := es.any fun e => !e.psetV && (e.set = s || (e.altV && e.alt = s))
  (List.range 8).filter fun v =>
    all || (psetVc v && es.any fun e => e.psetV && e.pset = s)
      || (!(psetVc v) && es.any fun e => e.psetV && (e.set = s || (e.altV && e.alt = s)))

/-- Whether a target code is defined (R171). -/
def tgtDefined (t : Nat) : Bool := t < 64 || (0x100 ≤ t && t ≤ 0x103) || t = 0x1FF

def winsMeet (a b : Window) : Bool := decide (a.base ≤ b.limit) && decide (b.base ≤ a.limit)

/-- Check 4: the number of a window that breaks it. -/
def RouteImg.badWindow (r : RouteImg) : Option Nat :=
  let ws := r.bank.windows.zipIdx.filter fun w => w.1.v
  (ws.find? fun w =>
    decide (0xFFFFE ≤ w.1.limit) || decide (0xFFFFE ≤ w.1.base) || decide (19 < w.1.shift)
      || decide (131072 ≤ w.1.tbase + (w.1.limit - w.1.base) / 2 ^ w.1.shift)
      || ws.any fun x => x.2 != w.2 && winsMeet w.1 x.1).map Prod.snd

/-- The checks 2 to 9 of R184 on the image of quadrant `q`, with the formation, profile and mode that `d` has once the
commit is written: the check, the table and the index.  `epochs` holds the active epoch and digest and whether any
epoch is accepted (R506). -/
def Dev.routeCheck (d : Dev) (q : Nat) (r : RouteImg) (act digest : Nat) (anyEpoch : Bool) :
    Option (Nat × Nat × Nat) :=
  let nSets := r.bank.nSets
  let nSlots := r.bank.nSlots
  let sets := List.range nSets
  let used := r.spray ++ r.mcast
  let vcsOn := (List.range 8).filter fun v => (List.range 128).any fun i => d.on R.BPM_RING_EN (128 * q + i) v
  let sprayNamed (s : Nat) : Bool := r.spray.any fun e =>
    e.2.set = s || (e.2.psetV && e.2.pset = s) || (e.2.altV && e.2.alt = s)
  let mcastNamed (s : Nat) : Bool := r.mcast.any fun e => e.2.set = s
  let slotBad (s : Nat) (x : Slot) : Bool :=
    if x.int then !(tgtDefined x.tgt) || sprayNamed s || !(mcastNamed s)
    else !(d.formed x.tgt) || (r.useOf s).any fun v => vcsOn.contains v && !(d.on R.BPM_RING_EN x.tgt v)
  let pennantSet (s : Nat) : Bool := used.any fun e =>
    (e.2.psetV && e.2.pset = s) || (!e.2.psetV && e.2.set = s)
  if !anyEpoch && r.epoch != (act + 1) % 256 then some (2, 0, 0)
  else if r.unionSafe && !(r.prev = act && r.prevDigest = digest) then some (3, 0, 0)
  else match r.badWindow with
    | some i => some (4, 6, i)
    | none =>
      match used.find? fun e => decide (nSets ≤ e.2.set) || (e.2.psetV && decide (nSets ≤ e.2.pset))
          || (e.2.altV && decide (nSets ≤ e.2.alt)) with
      | some e => some (5, 0, e.1)
      | none =>
        match sets.find? fun s => decide (nSlots < (r.bank.sets.get s {}).base + (r.bank.sets.get s {}).n)
            || decide (131072 < nSlots) with
        | some s => some (5, 1, s)
        | none =>
          match (sets.flatMap fun s => (r.slotsOf s).map fun x => (s, x)).find? fun x => slotBad x.1 x.2.2 with
          | some x => some (6, 2, x.2.1)
          | none =>
            match r.routes.find? fun e => e.2.kind = 2 && !(tgtDefined e.2.set) with
            | some e => some (6, 0, e.1)
            | none =>
              match sets.find? fun s => mcastNamed s && !((r.slotsOf s).map Prod.snd).Nodup with
              | some s => some (7, 1, s)
              | none =>
                match (sets.filter pennantSet).flatMap (fun s => r.slotsOf s) |>.find? fun x =>
                    d.torus q && !x.2.int && (r.bank.attrs.get x.2.tgt {}).dline with
                | some x => some (8, 2, x.1)
                | none =>
                  match r.bank.notices.find? fun n => decide (n.1 < r.nNotices) && n.2.v && n.2.rgrp = 0 with
                  | some n => some (9, 5, n.1)
                  | none => none

/-- The status of a check of R184. -/
def routeStatus (c : Nat) : Nat :=
  if c = 2 then St.routeEpochOrder else if c = 3 then St.routeUnionMismatch else St.routeTableInvalid

/-- RTE.LOADCHK of a quadrant. -/
def Dev.loadResult (d : Dev) (q : Nat) (r : Option (Nat × Nat × Nat)) : Dev :=
  let x := r.getD (0, 0, 0)
  ((d.wr R.RTE_LOADCHK_CHECK x.1 q).wr R.RTE_LOADCHK_TABLE x.2.1 q).wr R.RTE_LOADCHK_INDEX x.2.2 q

/-- The bank that an image loads: entries at and above a count are 0 (R184). -/
def RouteImg.load (r : RouteImg) (digest : Nat) : Bank :=
  { r.bank with
    valid := true
    epoch := r.epoch
    digest := digest
    routes := r.bank.routes.filter fun e => decide (e.1 < r.nRoutes)
    sets := r.bank.sets.filter fun e => decide (e.1 < r.bank.nSets)
    slots := r.bank.slots.filter fun e => decide (e.1 < r.bank.nSlots)
    notices := r.bank.notices.filter fun e => decide (e.1 < r.nNotices) }

/-! ### Reduction trees, hoists, dispatch (R241, R454, R288) -/

/-- Whether a key or a holder entry of a quadrant lies in the range of a context that holds it. -/
def Dev.entryBusy (d : Dev) (q : Nat) (b : CfgBody) : Bool :=
  d.red.ctxs.any fun x =>
    x.2.state != csFree && x.2.state != csRetired && ctxQuad x.1 = q
      && ((b.keys.any fun k => decide (x.2.inBase ≤ k.1) && decide (k.1 < x.2.inBase + x.2.nIn))
          || ((x.2.root || x.2.downV)
              && b.holders.any fun k => decide (x.2.downBase ≤ k.1) && decide (k.1 < x.2.downBase + x.2.downM1 + 1)))

/-- Whether a hoist entry that would be rewritten has an open instance. -/
def Dev.hoistOpen (d : Dev) (b : CfgBody) : Bool := b.hoists.any fun h => (d.inst h.1).first.isSome

/-- The dispatch groups that a quadrant has once a section is written. -/
def Dev.groupsOf (d : Dev) (q : Nat) (b : CfgBody) : List (Nat × Group) :=
  b.groups ++ (d.red.groups.filter fun g => g.1.1 = q && !(b.groups.any fun x => x.1 = g.1.2)).map fun g => (g.1.2, g.2)

/-- Whether the groups of a quadrant satisfy R288. -/
def Dev.dispatchOk (d : Dev) (q : Nat) (b : CfgBody) : Bool :=
  let gs := (d.groupsOf q b).filter fun g => g.2.v
  gs.all fun g =>
    decide (16384 * q ≤ g.2.cmbBase) && decide (g.2.cmbBase + g.2.cmbN ≤ 16384 * (q + 1))
      && decide (g.2.keyBase + g.2.cmbN * g.2.k ≤ 65536) && decide (g.2.holdBase + g.2.cmbN ≤ 32768)
      && decide (g.2.expBase < 4096) && g.2.tile / 16 = q
      && gs.all fun h => h.1 = g.1 || g.2.cmbN = 0 || h.2.cmbN = 0
          || decide (g.2.cmbBase + g.2.cmbN ≤ h.2.cmbBase) || decide (h.2.cmbBase + h.2.cmbN ≤ g.2.cmbBase)

/-! ### The HBM map (R374) -/

/-- Where each area of a stack begins and ends, in MiB: model cache, scratch, window and park, bunting, general. -/
def Dev.areas (d : Dev) (q : Nat) : List (Nat × Nat) :=
  let ls := d.areasMib q
  let ends := (List.range 4).map fun k => (ls.take (k + 1)).foldl (· + ·) 0
  (List.range 5).map fun k => (if k = 0 then 0 else nth ends (k - 1), if k = 4 then 49150 else nth ends k)

/-- Whether the map of a stack is legal. -/
def Dev.mapOk (d : Dev) (q : Nat) : Bool := decide ((d.areasMib q).foldl (· + ·) 0 ≤ 49150)

/-- Whether an area of a stack holds live data. -/
def Dev.areaLive (d : Dev) (q k : Nat) : Bool :=
  if k = 0 then d.models.any fun m => m.2.state != msEmpty
  else if k = 1 then d.red.ctxs.any fun x => ctxQuad x.1 = q && x.2.spill && x.2.state = csOpen
  else if k = 2 then d.models.any fun m =>
    (m.2.state = msResident && m.2.window != 0 && (maskTiles m.2.mask).any fun t => quadOfTile t = q)
      || m.2.sess.any fun s => s.2.state = 2
  else if k = 4 then d.red.regions.any fun r => r.2.v && r.2.target = 0x104 + q
  else false

/-- Whether the map of `d'` moves or shrinks an area of `d` that holds live data. -/
def Dev.mapBusy (d d' : Dev) (q : Nat) : Bool :=
  ((d.areas q).zip (d'.areas q)).zipIdx.any fun x =>
    d.areaLive q x.2 && (x.1.1.1 != x.1.2.1 || decide (x.1.2.2 < x.1.1.2))

/-! ### Ports of a commit (R67) -/

/-- What the formation gives a port: its width and its rate. -/
def Dev.portForm (d : Dev) (p : Nat) : Nat × Bool :=
  (d.portWidth p, d.formed p && d.rdBit R.OE_PFORM_HALF (p % 16) (p / 16))

/-- The ports whose formation differs in `d'`. -/
def Dev.reformed (d d' : Dev) : List Nat := (List.range 512).filter fun p => d.portForm p ≠ d'.portForm p

/-- Whether a quadrant's ring layout differs in `d'` (R159). -/
def Dev.layoutChanges (d d' : Dev) (q : Nat) : Bool :=
  d.rd R.BPM_PCFG_EN q != d'.rd R.BPM_PCFG_EN q || d.rd R.BPM_PCFG_ALPHA q != d'.rd R.BPM_PCFG_ALPHA q
    || (List.range 4).any (fun k => d.rd R.BPM_PPOOL_CELLS q k != d'.rd R.BPM_PPOOL_CELLS q k)
    || (List.range 128).any fun i => (List.range 8).any fun v =>
        d.rd R.BPM_RING_SIZE (128 * q + i) v != d'.rd R.BPM_RING_SIZE (128 * q + i) v

/-- Whether a port whose link stays UP would have a smaller ring (R159). -/
def Dev.shrinksUp (d d' : Dev) (q : Nat) : Bool :=
  (List.range 128).any fun i =>
    let p := 128 * q + i
    d.linkState p = lsUp && d.portForm p == d'.portForm p
      && (List.range 8).any fun v => decide (d'.rd R.BPM_RING_SIZE p v < d.rd R.BPM_RING_SIZE p v)

end Sys2Proof.Machine
end

