-- ==== Sys2Proof/Machine/Cfg.lean ====
section
/-! DEFINITION. Configuration: CFG_COMMIT and the switch of route banks that it arms (spec/18, R507 to R511; spec/05,
R159; spec/06, R186, R188). -/

namespace Sys2Proof.Machine

/-! ### The image in its buffer (R507, R508) -/

/-- Word `i` of the image's bytes (R595). -/
def imgWord (bs : List Nat) (at_ i : Nat) : Nat := ofLE ((bs.drop (at_ + 4 * i)).take 4)

/-- The descriptor of section `i`: TYPE, QMASK, OFFSET and SLEN. -/
def descAt (bs : List Nat) (i : Nat) : Nat × Nat × Nat × Nat :=
  let w0 := imgWord bs (64 + 16 * i) 0
  (bits w0 31 24, bits w0 23 20, imgWord bs (64 + 16 * i) 1, imgWord bs (64 + 16 * i) 2)

/-- The number of sections of an image, and whether it is owner-local. -/
def imgCount (bs : List Nat) : Nat := bits (imgWord bs 0 1) 23 16
def imgLocal (bs : List Nat) : Bool := bitOf (imgWord bs 0 1) 0

/-- Whether the header keeps R507. -/
def headerOk (bs : List Nat) : Bool :=
  let len := imgWord bs 0 2
  bs.length ≤ 16 * 2 ^ 20 && imgWord bs 0 0 = 0x464C4731 && bits (imgWord bs 0 1) 31 24 = 1
    && 1 ≤ imgCount bs && imgCount bs ≤ 16 && 64 + 16 * imgCount bs ≤ len && bs.length = len + 96
    && ((List.range 12).map fun i => imgWord bs 12 i) = sha384 ((bs.drop 64).take (len - 64))

/-- The first section that breaks R507 or R508. -/
def badSection (bs : List Nat) : Option Nat :=
  let n := imgCount bs
  (List.range n).find? fun i =>
    let x := descAt bs i
    x.1 = 0 || decide (12 < x.1) || decide (imgWord bs 0 2 < x.2.2.1 + x.2.2.2)
      || decide (x.2.2.1 < 64 + 16 * n)
      || (imgLocal bs && !([tyBufprof, tyHbmmap, tyTune].contains x.1))
      || (List.range i).any fun k =>
          let y := descAt bs k
          y.1 = x.1 && (y.2.1 &&& x.2.1) != 0

/-- The sections of an image, with the content that the command carries. -/
def sectsOf (bs : List Nat) (bodies : List CfgBody) : List CfgSect :=
  (List.range (imgCount bs)).map fun i =>
    { ty := (descAt bs i).1, qmask := (descAt bs i).2.1, body := bodies.getD i {} }

/-- The digest of an image as a number. -/
def imgDigest (bs : List Nat) : Nat := (List.range 12).foldl (fun n i => n * 2 ^ 32 + imgWord bs 12 i) 0

/-! ### Writing sections (R509 steps 4 and 5) -/

/-- The sections of a type, with their indices. -/
def ofType (ss : List CfgSect) (ty : Nat) : List (CfgSect × Nat) := ss.zipIdx.filter fun s => s.1.ty = ty

/-- The device as the formation, profile and settings of an image will leave it. -/
def Dev.preview (d : Dev) (ss : List CfgSect) : Dev :=
  d.each ss fun d s =>
    let d := d.applySets s [0, 1, 2, 3] true
    if s.ty = tyBufprof then d.each s.quads fun d q => d.layout q s.body.prof else d

/-- HBM.MAPSTAT of the four stacks. -/
def Dev.syncMap (d : Dev) : Dev :=
  d.each [0, 1, 2, 3] fun d q => d.wr R.HBM_MAPSTAT_GENERAL_MIB (49150 - (d.areasMib q).foldl (· + ·) 0) q

/-- The tables of a section written for some quadrants, and the device-wide ones when `glob`. -/
def Dev.writeTables (d : Dev) (s : CfgSect) (qs : List Nat) (glob : Bool) : Dev :=
  let b := s.body
  let here := s.quads.filter qs.contains
  if s.ty = tyTenant then
    let d := d.each here fun d q => d.each b.burgees fun d (e : Nat × BurgeeEnt) =>
      let x : BurgeeEnt := { e.2 with tokens := (e.2.pburst * 4096 * 8 : Nat), tokAt := d.now }
      { d with net := { d.net with burgees := d.net.burgees.put (q, e.1) x } }
    d.each (b.allow.filter fun e => here.contains (e.1 / 128)) fun d (e : Nat × List Nat) =>
      { d with net := { d.net with allow := d.net.allow.put e.1 e.2 } }
  else if s.ty = tyRedtree then
    d.each here fun d q =>
      let d := d.each b.keys fun d (e : Nat × KeyEnt) =>
        { d with red := { d.red with keys := d.red.keys.put (q, e.1) e.2 } }
      d.each b.holders fun d (e : Nat × Slot) =>
        { d with red := { d.red with holders := d.red.holders.put (q, e.1) e.2 } }
  else if s.ty = tyHoist then
    if glob then d.each b.hoists fun d (e : Nat × HoistEnt) => d.setHoist e.1 e.2 else d
  else if s.ty = tyDispatch then
    d.each here fun d q =>
      let d := d.each b.groups fun d (e : Nat × Group) =>
        { d with red := { d.red with groups := d.red.groups.put (q, e.1) e.2 } }
      d.each b.experts fun d (e : Nat × Expert) =>
        { d with red := { d.red with experts := d.red.experts.put (q, e.1) e.2 } }
  else if s.ty = tySchedule then
    if glob then d.each b.scheds fun d (e : Nat × Schedule) =>
      { d with red := { d.red with schedules := d.red.schedules.put e.1 e.2 } } else d
  else d

/-- A section of step 5 written. -/
def Dev.writeSect (d : Dev) (s : CfgSect) (qs : List Nat) (glob : Bool) : Dev :=
  (d.applySets s qs glob).writeTables s qs glob

/-- A quadrant re-laid (R159 step 4, R161): the slots that failed their readback retire. -/
def Dev.relay (d : Dev) (q : Nat) (b : BufProf) : Dev :=
  let d := d.layout q b
  let d := { d with net := { d.net with
    retiredSlots := d.net.retiredSlots.put q (d.slotsRetired q)
    badSlots := d.net.badSlots.put q 0 } }
  d.each (List.range 4) fun d k => d.syncPool q k

/-- The boot profile of a quadrant (R506). -/
def Dev.bootProfile (d : Dev) (q : Nat) : Dev :=
  let ps := (List.range 128).map fun i => 128 * q + i
  let es : Tab (Nat × Nat) Nat := (ps.filter d.formed).map fun p =>
    ((p, 7), 2 ^ 24 + 68 + ceilDiv 46000 (d.flitTime p))
  d.layout q { en := 0, alpha := d.rd R.BPM_PCFG_ALPHA q, entries := es }

/-- A quadrant whose core has come on takes its sections of the committed images, and the active epoch of the other
quadrants (R511); without a profile it has the boot profile. -/
def Dev.reloadQuadrant (d : Dev) (q : Nat) : Dev :=
  let ss := d.mgmt.cfgFabric ++ d.mgmt.cfgLocal
  let mine := ss.filter fun s => s.quads.contains q
  let d := d.each mine fun d s => d.writeSect s [q] false
  let d := match (mine.filter fun s => s.ty = tyBufprof).getLast? with
    | some s => d.relay q s.body.prof
    | none => d.bootProfile q
  let epoch := match [0, 1, 2, 3].find? fun x => x ≠ q && d.pdOn (pdQuad x) with
    | some x => (d.bank x).epoch
    | none => 0
  let d := match (mine.filter fun s => s.ty = tyRoute).getLast? with
    | some s =>
      let b : Bank := { s.body.route.load 0 with epoch := epoch }
      { d with net := { d.net with banks := d.net.banks.put q (b, {}) } }
    | none => d
  d.syncRteStat

/-- The HUB.LOCK bit of the block of a register that an HBMMAP or TUNE section sets. -/
def fldLock (f : Fld) : Nat :=
  if f.id = R.THD_MCACHE_SIZE.id then 4 else if f.id = R.XBAR_AGE_AGE_MS.id then 8
  else if [R.HBM_AREA_WIN, R.HBM_AREA_BUNT, R.HBM_SPARE_THRESH].any (fun g => g.id = f.id) then 16
  else if [R.NVS_CFG_FILL_TO, R.NVS_CFG_RET_DAYS, R.NVS_CFG_RD_LIMIT, R.NVS_CFG_WL_SPREAD].any (fun g => g.id = f.id)
    then 19
  else 3

/-- HUB.LOCK bits of the blocks that a section writes (R510): HBMMAP and TUNE lock the blocks of the registers they
set; HUB's goes with HUB.FTCFG and HUB.DEVFEID alone (R590): HUB 0, SEC 1, PWR 2, FLT 3, THD 4, MBX 5,
OE 6, LNK 7, XBAR 8, BPM 9, RTE 10, SCH 11, RED 12, COL 13, TILE 14, SRAM 15, HBM 16, RST 17, TEL 18, NVS 19. -/
def CfgSect.locks (s : CfgSect) : List Nat :=
  let ty := s.ty
  if ty = tyPortmap then [6] else if ty = tyLinkcfg then [7] else if ty = tyBufprof then [9]
  else if ty = tyRoute then
    [10] ++ (if s.body.sets.any fun kv => kv.1.id = R.HUB_DEVFEID_FEID.id then [0] else [])
  else if ty = tyTenant then [11] else if ty = tyRedtree then [12]
  else if ty = tyTime then [0] else if ty = tyHoist then [] else if ty = tyDispatch ∨ ty = tySchedule then [13]
  else s.body.sets.flatMap fun kv =>
    match (sectFlds ty).find? fun f => f.1.id = kv.1.id with
    | none => []
    | some f => if setHere s.quads true kv.1.inst f.2 then [fldLock f.1] else []

/-! ### The steps of a commit (R509) -/

/-- The shadow banks written, or marked invalid. -/
def Dev.loadShadow (d : Dev) (ss : List CfgSect) (digest : Nat) : Dev :=
  (d.each (ofType ss tyRoute) fun d s => d.each s.1.quads fun d q =>
    { d with net := { d.net with
      banks := d.net.banks.put q (d.bank q, s.1.body.route.load digest) } }).syncRteStat
def Dev.shadowInvalid (d : Dev) : Dev :=
  (d.each [0, 1, 2, 3] fun d q =>
    let b := d.net.banks.get q ({}, {})
    { d with net := { d.net with banks := d.net.banks.put q (b.1, { b.2 with valid := false }) } }).syncRteStat

/-- Steps 5 to 8: the remaining sections, the modes, the switch and the locks. -/
def Dev.finishCommit (d : Dev) (c : CfgJob) : Dev :=
  let d := { d with mgmt := { d.mgmt with cfgJob := none } }
  let rest := c.sects.filter fun s => s.ty ≠ tyPortmap && s.ty ≠ tyBufprof
  let d := (d.each rest fun d s => d.writeSect s [0, 1, 2, 3] true).syncMap
  let d := if (ofType c.sects tyTime) = [] then d else d.syncServo
  let d := if c.det = 3 then d
    else ({ d with time := { d.time with det := c.det } }).wr R.PWR_OPSTAT_DET c.det
  let d := if c.cls = 3 then d
    else ({ d with time := { d.time with redClass := c.cls } }).wr R.PWR_OPSTAT_RED_CLASS c.cls
  let bs := c.sects.flatMap CfgSect.locks ++ [1]
  let d := d.each bs fun d b => d.wrBit R.HUB_LOCK_LOCKED b true
  let d := { d with mgmt := { d.mgmt with
    cfgFabric := if c.isLocal then d.mgmt.cfgFabric else c.sects
    cfgLocal := if c.isLocal then c.sects else [] } }
  let d := d.each (c.reform.filter fun x => d.pdOn (pdOe (x / 32))) fun d x =>
    ((d.setLaneState x laOff).modLane x fun _ => {}).emit (.laneTx x 0)
  match (ofType c.sects tyRoute) with
  | [] => d.commitEnd c.aseq St.ok
  | s :: _ =>
    let a : Armed := { mode := c.mode, t := c.t, hoist := s.1.body.route.hoist, aseq := c.aseq }
    let d := ({ d with net := { d.net with armed := some a } }).syncRteStat
    if c.mode = 0 then d.makeSwitch else d

/-- Step 4: reformed ports go down, the formation, the link settings and the layout are written, grants are raised
where rings grew, and the pauses are cancelled. -/
def Dev.relayAll (d : Dev) (c : CfgJob) : Dev :=
  let d' := d.preview c.sects
  let ps := d.reformed d'
  let lanes := ps.flatMap fun p => d.portLanes p ++ d'.portLanes p
  let d := d.each (ps.filter d.formed) fun d p => d.portDown p
  let old := d
  let d := d.each (c.sects.filter fun s => s.ty = tyPortmap || s.ty = tyLinkcfg) fun d s =>
    d.applySets s [0, 1, 2, 3] true
  let d := d.each (ofType c.sects tyBufprof) fun d s => d.each s.1.quads fun d q => d.relay q s.1.body.prof
  let live := c.quads.flatMap fun q => (List.range 128).map fun i => 128 * q + i
  let d := d.each (live.filter fun p => d.formed p && d.linkState p ≠ lsDown) fun d p =>
    let d := d.each (List.range 8) fun d v => d.returnCredit p v (d.ringSize p v - old.ringSize p v)
    d.sendPause p vc06 0
  let d := { d with
    net := { d.net with held := d.net.held.filter fun q => !(c.quads.contains q) }
    mgmt := { d.mgmt with cfgJob := some { c with relaid := true, reform := lanes.eraseDups } } }
  d.retryOut

/-- A refused commit. -/
def Dev.refuseCommit (d : Dev) (aseq st sect : Nat) (detail : Nat := 0) : Dev := d.commitEnd aseq st sect detail

/-- The checks of step 2 after the route image's (R241, R288, R374, R454, R38, R186, R159): the status and the
section that refuses. -/
def Dev.commitChecks (d d' : Dev) (c : CfgJob) : Option (Nat × Nat) :=
  let find (ty : Nat) (bad : CfgSect → Bool) (st : Nat) : Option (Nat × Nat) :=
    ((ofType c.sects ty).find? fun s => bad s.1).map fun s => (st, s.2)
  let maps := c.sects.zipIdx.filter fun s => s.1.ty = tyHbmmap || s.1.ty = tyRedtree
  let route := (ofType c.sects tyRoute)
  (find tyRedtree (fun s => s.quads.any fun q => d.entryBusy q s.body) St.ctxBusy).orElse fun _ =>
  (find tyDispatch (fun s => s.quads.any fun q => !(d.dispatchOk q s.body)) St.dispatchTableInvalid).orElse fun _ =>
  (match maps with
    | [] => none
    | s :: _ =>
      if [0, 1, 2, 3].any fun q => !(d'.mapOk q) then some (St.hbmMapIllegal, s.2)
      else if [0, 1, 2, 3].any fun q => d.mapBusy d' q then some (St.hbmMapBusy, s.2) else none).orElse fun _ =>
  (find tyHoist (fun s => d.hoistOpen s.body) St.ctxBusy).orElse fun _ =>
  if c.det = 2 ∧ 2 ≤ d.rd R.PWR_OPSTAT_OP_TGT then some (St.modeConflict, 0)
  else match route with
    | s :: _ =>
      let anyAdm := (List.range 512).any d.admitted
      let ok := if c.mode = 0 then !anyAdm || !(d.on R.HUB_BOOT_CFG_DONE)
        else if c.mode = 1 then s.1.body.route.unionSafe && decide (d.now + 100000 ≤ c.t) else true
      if ok then none else some (St.routeMode, s.2)
    | [] => none

/-- The route images of a commit checked in their quadrants: the section, and the check that fails. -/
def Dev.routeResults (d d' : Dev) (ss : List CfgSect) : List (Nat × Nat × Option (Nat × Nat × Nat)) :=
  (ofType ss tyRoute).flatMap fun s => s.1.quads.map fun q =>
    (s.2, q, d'.routeCheck q s.1.body.route (d.bank q).epoch (d.bank q).digest (!(d.on R.HUB_BOOT_CFG_DONE)))

/-- The first failure in the order of the checks: the check, the section and the index. -/
def firstCheck (rs : List (Nat × Nat × Option (Nat × Nat × Nat))) : Option (Nat × Nat × Nat) :=
  (List.range 10).findSome? fun c => rs.findSome? fun r =>
    match r.2.2 with
    | some x => if x.1 = c then some (c, r.1, x.2.2) else none
    | none => none

/-- DETAIL of a refusal by a numbered check: its number, and the index that the check recorded (R414). -/
def checkDetail (k i : Nat) : Nat := k + 256 * i

/-- A commit that has passed step 1 (R509 steps 2 and 3). -/
def Dev.runCommit (d : Dev) (c : CfgJob) (digest : Nat) : Dev :=
  let d' := d.preview c.sects
  let profs := (ofType c.sects tyBufprof).flatMap fun s => s.1.quads.map fun q =>
    (s.2, q, d'.profCheck q s.1.body.prof)
  let d := d.each profs fun d x => d.profResult x.2.1 x.2.2
  let routes := ofType c.sects tyRoute
  let covers := (routes.flatMap fun s => s.1.quads).length = 4
  match profs.find? fun x => x.2.2.isSome with
  | some x =>
    let r := x.2.2.getD (0, 0, 0, 0)
    d.refuseCommit c.aseq St.bufProfileIllegal x.1 (checkDetail r.1 r.2.1)
  | none =>
    if routes ≠ [] ∧ d.net.armed.isSome then d.refuseCommit c.aseq St.routeBusy ((routes.map Prod.snd).headD 0)
    else if routes ≠ [] ∧ !covers then
      d.refuseCommit c.aseq St.descInvalid ((routes.map Prod.snd).headD 0) ((routes.map Prod.snd).headD 0 * 256)
    else
      let rs := d.routeResults d' c.sects
      let d := d.each rs fun d r => d.loadResult r.2.1 r.2.2
      match firstCheck rs with
      | some (k, s, i) => d.shadowInvalid.refuseCommit c.aseq (routeStatus k) s (checkDetail k i)
      | none =>
        let invalid (d : Dev) : Dev := if routes = [] then d else d.shadowInvalid
        match d.commitChecks d' c with
        | some (st, s) => (invalid d).refuseCommit c.aseq st s
        | none =>
          let changed := [0, 1, 2, 3].filter fun q =>
            d.layoutChanges d' q || (d.reformed d').any fun p => p / 128 = q
          match changed.find? fun q => d.shrinksUp d' q with
          | some _ => (invalid d).refuseCommit c.aseq St.bufProfileBusy (((ofType c.sects tyBufprof).map Prod.snd).headD 0)
          | none =>
            let d := if routes = [] then d else d.loadShadow c.sects digest
            let c := { c with quads := changed }
            if changed = [] then (d.relayAll c).finishCommit c
            else
              let d := { d with
                net := { d.net with held := (d.net.held ++ changed).eraseDups }
                mgmt := { d.mgmt with cfgJob := some c } }
              d.each (d.formedPorts.filter fun p => changed.contains (p / 128) && d.linkState p ≠ lsDown) fun d p =>
                d.sendPause p vc06 0xFFFF

/-- CFG_COMMIT (R509), with the content of the image's sections and whether its signature verifies under the key
that R508 names. -/
def cfgCommit (aseq : Nat) (bodies : List CfgBody) (sig : Bool) (d : Dev) : Dev :=
  match d.job? aseq with
  | none => d
  | some j =>
    let w8 := j.w 8
    if bits w8 1 0 = 3 ∨ d.mgmt.cfgJob.isSome then d
    else match d.bufIn j (j.bref 4) with
      | .ok none => d
      | .error st => d.cmd aseq 0x0201 fun _ d => d.commitEnd aseq st
      | .ok (some bs) => d.cmd aseq 0x0201 fun j d =>
        let c : CfgJob :=
          { aseq := aseq, sects := sectsOf bs bodies, mode := bits w8 1 0, t := j.w 9 * 2 ^ 32 + j.w 10
            det := bits w8 3 2, cls := bits w8 5 4, isLocal := imgLocal bs, quads := [], start := d.now }
        if c.cls = 2 then d.commitEnd aseq St.cmdParam
        else if headerOk bs = false then d.refuseCommit aseq St.descInvalid 0
        else match badSection bs with
          | some i => d.refuseCommit aseq St.descInvalid i (i * 256)
          | none =>
            if c.isLocal ∧ d.chRole j.chan ≠ 1 then d.refuseCommit aseq St.descInvalid 0
            else if sig = false ∨ (!c.isLocal ∧ d.fmKey = false) then d.refuseCommit aseq St.imgSignature 0
            else d.runCommit c (imgDigest bs)

/-- Whether a quadrant holds no packet. -/
def Dev.quadEmpty (d : Dev) (q : Nat) : Bool := !(d.net.pkts.any fun x => x.2.home = q)

/-- QUADRANT_RELAY_DRAINED: a quadrant held for a re-lay is empty; with the last of them the quadrants are re-laid
(R159, R509 step 4). -/
def quadrantRelayDrained (q : Nat) (d : Dev) : Dev :=
  match d.mgmt.cfgJob with
  | none => d
  | some c =>
    if c.relaid ∨ !(c.quads.contains q) ∨ c.drained.contains q ∨ !(d.quadEmpty q) then d
    else
      let c := { c with drained := c.drained ++ [q] }
      let d := { d with mgmt := { d.mgmt with cfgJob := some c } }
      if c.quads.all c.drained.contains then d.relayAll c else d

/-- CFG_COMMIT_DRAIN_COMPLETE: every quadrant whose layout changes is empty; what is still to be written is written
(R509 steps 4 to 8). -/
def cfgCommitDrainComplete (d : Dev) : Dev :=
  match d.mgmt.cfgJob with
  | none => d
  | some c =>
    if c.relaid then d.finishCommit c
    else if c.quads.all d.quadEmpty then
      let d := d.relayAll c
      match d.mgmt.cfgJob with
      | some c => d.finishCommit c
      | none => d
    else d

/-- BUF_PROFILE_DRAIN_TIMEOUT: 10 ms have passed; the old layout stays, the pauses are cancelled and the commit is
refused (R159). -/
def bufProfileDrainTimeout (d : Dev) : Dev :=
  match d.mgmt.cfgJob with
  | none => d
  | some c =>
    if c.relaid ∨ d.now < c.start + 10000000 ∨ c.quads.all d.quadEmpty then d
    else
      let d := { d with
        net := { d.net with held := d.net.held.filter fun q => !(c.quads.contains q) }
        mgmt := { d.mgmt with cfgJob := none } }
      let d := d.each (d.formedPorts.filter fun p => c.quads.contains (p / 128) && d.linkState p ≠ lsDown) fun d p =>
        d.sendPause p vc06 0
      let d := if ofType c.sects tyRoute = [] then d else d.shadowInvalid
      (d.refuseCommit c.aseq St.bufProfileBusy (((ofType c.sects tyBufprof).map Prod.snd).headD 0)).retryOut

/-- CFG_COMMIT_CANCEL: switch mode CANCEL disarms an armed switch (R186). -/
def cfgCommitCancel (aseq : Nat) (d : Dev) : Dev :=
  match d.job? aseq with
  | none => d
  | some j =>
    if bits (j.w 8) 1 0 ≠ 3 then d
    else d.cmd aseq 0x0201 fun _ d =>
      match d.net.armed with
      | none => d.commitEnd aseq St.routeMode
      | some a =>
        if a.joined then d.commitEnd aseq St.routeMode
        else
          let d := { d with net := { d.net with armed := none } }
          let d := (if a.draining then d.cancelEdgePauses else d).syncRteStat
          let d := d.commitEnd a.aseq St.cmdCancelled
          (d.wr R.HUB_CFGSTAT_LAST_STATUS St.ok).complete aseq St.ok

/-! ### Switches at their time (R186 to R188) -/

/-- AT_TIME_SWITCH. -/
def atTimeSwitch (d : Dev) : Dev :=
  match d.net.armed with
  | some a => if a.mode = 1 ∧ a.t ≤ d.now then d.makeSwitch else d
  | none => d

/-- DRAIN_START: at T every EDGE port pauses VC0 to VC6. -/
def drainStart (d : Dev) : Dev :=
  match d.net.armed with
  | some a =>
    if a.mode = 2 ∧ a.draining = false ∧ a.t ≤ d.now then
      let d := ({ d with net := { d.net with armed := some { a with draining := true } } }).syncRteStat
      d.each d.edgePorts fun d p => d.sendPause p vc06 0xFFFF
    else d
  | none => d

/-- Whether nothing on VC0 to VC6 is stored or queued. -/
def Dev.dataEmpty (d : Dev) : Bool :=
  !(d.net.pkts.any fun x => x.2.vc != 7)
    && !(d.net.queues.any fun x => x.1.2 != 7 && x.2.descs != [])

/-- DRAIN_COMPLETE: the device joins the drain hoist of the image; one that refuses the join fails the switch. -/
def drainComplete (d : Dev) : Dev :=
  match d.net.armed with
  | some a =>
    if a.draining ∧ a.joined = false ∧ d.dataEmpty then
      let d := { d with net := { d.net with armed := some { a with joined := true } } }
      match d.hoistJoin a.hoist .drain (some (d.drainLimit a)) with
      | (d, true) => d
      | (d, false) => d.abandonSwitch
    else d
  | none => d

/-- DRAIN_PAUSE_CANCEL: 1 µs after the switch. -/
def drainPauseCancel (d : Dev) : Dev :=
  match d.net.drainUnpause with
  | some t =>
    if t ≤ d.now then
      ({ d with net := { d.net with drainUnpause := none } }).cancelEdgePauses
    else d
  | none => d

end Sys2Proof.Machine
end

