-- ==== Sys2Proof/Machine/Power.lean ====
section
/-! DEFINITION. Operating points, margins, heat, power and the switched domains (spec/02), and the enables of the
laser modules (spec/21, R574). -/

namespace Sys2Proof.Machine

def Dev.pwr (d : Dev) : PwrSt := d.mgmt.pwr
def Dev.modPwr (d : Dev) (f : PwrSt → PwrSt) : Dev := { d with mgmt := { d.mgmt with pwr := f d.mgmt.pwr } }

/-! ### Operating points (R30 to R38) -/

/-- The core rail of an operating point in units of 5 mV (R27). -/
def vcoreOf (p : Nat) : Nat := nth [160, 144, 130, 110] p

/-- Tiles halted at an instruction boundary (R33), and resumed. -/
def Dev.parkTiles (d : Dev) : Dev :=
  d.each (List.range 64) fun d t =>
    if d.tileState t = tsIdle ∨ d.tileState t = tsRunning then d.setTileState t tsParked else d
def Dev.resumeTiles (d : Dev) : Dev :=
  d.each (List.range 64) fun d t =>
    if d.tileState t ≠ tsParked then d
    else if (d.tile t).prog.isSome ∨ (d.eccOf t).march.any fun (m : Nat × Option Nat) => m.1 ≠ 3 then
      d.setTileState t tsRunning
    else (d.setTileState t tsIdle).startNext t

/-- A pause of VC0 to VC6 on every port whose link is out of DOWN: the maximum, or zero. -/
def Dev.pauseAll (d : Dev) (ptime : Nat) : Dev := d.each d.livePorts fun d p => d.sendPause p vc06 ptime

/-- The end of an OP_SET that was accepted, at the point in force. -/
def Dev.opDone (d : Dev) (st : Nat) : Dev :=
  let job := d.pwr.opJob
  let d := (d.wr R.PWR_OPSTAT_OP_TGT (d.rd R.PWR_OPSTAT_OP_CUR)).wr R.PWR_OPSTAT_RAMPING 0
  let d := d.modPwr fun w => { w with opJob := none, phase := .idle }
  let d := d.each [0, 1, 2, 3] fun d q => d.count 0x01 q 0 1
  match job with
  | some a => d.complete a st
  | none => d

/-- Lanes that OP3 put in standby told to carry traffic again (R34). -/
def Dev.leaveStandby (d : Dev) : Dev :=
  let d := d.each d.formedPorts fun d p =>
    if (d.port p).cmdState = 0 then d.each (d.portLanes p) fun d x => d.wakeLane x else d
  d.wr R.PWR_OPSTAT_LANES_STBY 0

/-- OP_SET (R31, R34, R38).  A command that names the point in force completes at once. -/
def opSet (aseq : Nat) (d : Dev) : Dev :=
  d.cmd aseq 0x0101 fun j d =>
    let p := j.w 4 % 4
    let cur := d.rd R.PWR_OPSTAT_OP_CUR
    if d.pwr.opJob.isSome then d.complete aseq St.pwrBusy
    else if d.time.det = 2 ∧ 2 ≤ p then d.complete aseq St.modeConflict
    else
      let d := d.modPwr fun w => { w with opJob := some aseq, stby := bitOf (j.w 4) 2, opAt := d.now }
      if p = cur then d.opDone St.ok
      else
        let d := d.wr R.PWR_OPSTAT_OP_TGT p
        if p = 3 then
          ((d.pauseAll 0xFFFF).parkTiles).modPwr fun w => { w with phase := .drain }
        else
          let d := d.wr R.PWR_OPSTAT_RAMPING 1
          if cur = 3 then
            (if d.on R.PWR_OPSTAT_LANES_STBY then d.leaveStandby else d).modPwr fun w => { w with phase := .exit }
          else d.modPwr fun w => { w with phase := .ramp }

/-- RAIL_RAMP_SETTLED: the readings of the four rails, within 5 mV of the target (R32, R34). -/
def railRampSettled (v : List Nat) (d : Dev) : Dev :=
  let goal := vcoreOf (d.rd R.PWR_OPSTAT_OP_TGT)
  if d.on R.PWR_OPSTAT_RAMPING = false ∨ v.any fun x => decide (x + 1 < goal) || decide (goal + 1 < x) then d
  else
    let d := d.each v.zipIdx fun d (x : Nat × Nat) => d.wr R.PWR_PVSTAT_VOUT x.1 0 x.2
    let d := (d.wr R.PWR_OPSTAT_VCORE (v.foldl min 255)).wr R.PWR_OPSTAT_RAMPING 0
    if d.pwr.phase = .exit then d
    else
      let down := d.pwr.phase = .down
      let d := d.wr R.PWR_OPSTAT_OP_CUR (d.rd R.PWR_OPSTAT_OP_TGT)
      let d :=
        if down then
          let d := d.each [0, 1, 2, 3] fun d q =>
            if d.pdOn (pdHbm q) then d.set R.HBM_STAT_SELF_REFRESH q else d
          if d.pwr.stby then
            (d.each d.formedPorts fun d p =>
              if d.pdOn (pdOe (p / 16)) ∧ (d.port p).cmdState = 0 then
                d.each (d.portLanes p) fun d x => d.quietLane x false
              else d).wr R.PWR_OPSTAT_LANES_STBY 1
          else d
        else d
      d.opDone St.ok

/-- Whether every queue on VC0 to VC6 and every store buffer is empty (R34). -/
def Dev.drainedForOp3 (d : Dev) : Bool :=
  d.dataEmpty && (List.range 64).all fun t => (d.tile t).buf = []

/-- OP3_DRAIN_COMPLETE: the rail ramps down (R34). -/
def op3DrainComplete (d : Dev) : Dev :=
  if d.pwr.phase ≠ .drain ∨ d.drainedForOp3 = false then d
  else (d.wr R.PWR_OPSTAT_RAMPING 1).modPwr fun w => { w with phase := .down }

/-- An entry to OP3 abandoned: the pauses are cancelled and the tiles go on (R35, R36). -/
def Dev.op3Abandon (d : Dev) (st : Nat) : Dev :=
  let d := d.pauseAll 0
  (d.wr R.PWR_OPSTAT_OP_TGT (d.rd R.PWR_OPSTAT_OP_CUR)).resumeTiles.opDone st

/-- OP3_DRAIN_TIMEOUT: 10 ms after acceptance (R35). -/
def op3DrainTimeout (d : Dev) : Dev :=
  if d.pwr.phase = .drain ∧ d.pwr.opAt + 10000000 ≤ d.now then d.op3Abandon St.pwrDrainTimeout else d

/-- OP3_EXIT_COMPLETE: the ramp and every lane exit are complete (R34). -/
def op3ExitComplete (d : Dev) : Dev :=
  if d.pwr.phase ≠ .exit ∨ d.on R.PWR_OPSTAT_RAMPING
      ∨ (List.range 1024).any fun x => d.laneState x = laStandby && (d.lane x).wakeAt.isSome then d
  else
    let d := d.pauseAll 0
    let d := d.each [0, 1, 2, 3] fun d q => d.wr R.HBM_STAT_SELF_REFRESH 0 q
    (d.wr R.PWR_OPSTAT_OP_CUR (d.rd R.PWR_OPSTAT_OP_TGT)).resumeTiles.opDone St.ok

/-- REGULATION: power-delivery die `pv` reports a regulation fault (R36).  A ramp ends at the starting voltage. -/
def regulation (pv : Nat) (d : Dev) : Dev :=
  let rise := d.on R.PWR_PVSTAT_FAULT 0 pv = false
  let d := (d.set R.PWR_PVSTAT_FAULT 0 pv).set R.PWR_PVSTAT_FAULT_SEEN 0 pv
  let d := if rise then d.pend R.PWR_IPEND_PV_FAULT else d
  let d := d.faultEvent 0x01 0x01 pv
  if d.on R.PWR_OPSTAT_RAMPING then
    let d := d.wr R.PWR_OPSTAT_VCORE (vcoreOf (d.rd R.PWR_OPSTAT_OP_CUR))
    if d.pwr.phase = .down then d.op3Abandon St.pwrRegulation else d.opDone St.pwrRegulation
  else d

/-! ### Margins (R44) -/

/-- The status pennant and event of a quadrant below line rate. -/
def Dev.belowPennant (d : Dev) (q : Nat) : Dev :=
  (d.modPwr fun w => { w with belowSent := w.belowSent.put q d.now }).sendEvent 0x0001
    [q + d.rd R.PWR_QMARGIN_MARGIN 0 q * 2 ^ 16]

/-- Whether 10 ms have passed since the last pennant of a quadrant. -/
def Dev.belowDue (d : Dev) (q : Nat) : Bool :=
  match d.pwr.belowSent.look q with
  | none => true
  | some t => decide (t + 10000000 ≤ d.now)

/-- The reading of PVq's rail, which the die holds at the operating point once it has settled (R30, R32): one within 5 mV
of the target stays, and any other becomes the target.  A rail that ramps keeps its last reading. -/
def Dev.settleVout (d : Dev) (q : Nat) : Dev :=
  let goal := vcoreOf (d.rd R.PWR_OPSTAT_OP_CUR)
  let v := d.rd R.PWR_PVSTAT_VOUT 0 q
  if d.on R.PWR_OPSTAT_RAMPING then d
  else
    let d := if v + 1 < goal ∨ goal + 1 < v then d.wr R.PWR_PVSTAT_VOUT goal 0 q else d
    let qs := [0, 1, 2, 3].filter fun q => d.pdOn (pdQuad q)
    d.wr R.PWR_OPSTAT_VCORE (qs.foldl (fun m q => min m (d.rd R.PWR_PVSTAT_VOUT 0 q)) 255)

/-- QMARGIN_WINDOW: the capacity that a quadrant measured in a window, in 1/256 of line rate.  The current and the
temperature of its regulator, which no command reports, are free values from then on. -/
def qmarginWindow (q m : Nat) (d : Dev) : Dev :=
  if d.pdOn (pdQuad q) = false then d
  else
    let d := ((d.wr R.PWR_PVSTAT_IOUT d.free 0 q).wr R.PWR_PVSTAT_TEMP (d.free / 2 ^ 10) 0 q).usedFree
    let d := (d.settleVout q).wr R.PWR_QMARGIN_MARGIN m 0 q
    let d := d.wr R.PWR_QMARGIN_MARGIN_MIN (min m (d.rd R.PWR_QMARGIN_MARGIN_MIN 0 q)) 0 q
    if 256 ≤ m then d.wr R.PWR_QMARGIN_BELOW_LINE 0 0 q
    else
      let rise := d.on R.PWR_QMARGIN_BELOW_LINE 0 q = false
      let d := d.count 0x01 q 0 0
      if rise then
        let d := (d.set R.PWR_QMARGIN_BELOW_LINE 0 q).set R.PWR_QMARGIN_BELOW_SEEN 0 q
        let d := d.pend R.PWR_IPEND_BELOW_LINE
        if d.belowDue q then d.belowPennant q else d
      else d

/-- BELOW_LINE_PENNANT_REPEAT. -/
def belowLinePennantRepeat (q : Nat) (d : Dev) : Dev :=
  if d.on R.PWR_QMARGIN_BELOW_LINE 0 q ∧ d.belowDue q then d.belowPennant q else d

/-- QMARGIN_BELOW_SEEN_CLEAR. -/
def qmarginBelowSeenClear (q : Nat) (d : Dev) : Dev :=
  (d.wr R.PWR_QMARGIN_BELOW_SEEN 0 0 q).wr R.PWR_QMARGIN_MARGIN_MIN 0x3FF 0 q

/-! ### Laser modules (R573, R574) -/

/-- The engines that a module feeds. -/
def lmodFeeds (m : Nat) : List Nat :=
  let k := (m + 8) % 16
  [2 * m, 2 * m + 1, 2 * k, 2 * k + 1]

/-- LMOD_EN of the modules of an engine after its domain has gone on or off. -/
def Dev.syncLmod (d : Dev) (e : Nat) : Dev :=
  d.each [e / 2, (e / 2 + 8) % 16] fun d m =>
    if (lmodFeeds m).any fun x => d.pdOn (pdOe x) then
      let d := d.modPwr fun w => { w with lmodOff := w.lmodOff.del m }
      if d.rdBit R.PWR_LMOD_EN m then d else (d.wrBit R.PWR_LMOD_EN m true).emit (.pin (16 + m) 1)
    else if d.rdBit R.PWR_LMOD_EN m then
      d.modPwr fun w => { w with lmodOff := w.lmodOff.put m (d.now + 1000000) }
    else d

/-- A module's enable driven low. -/
def Dev.lmodLow (d : Dev) (m : Nat) : Dev :=
  let d := d.modPwr fun w => { w with lmodOff := w.lmodOff.del m }
  if d.rdBit R.PWR_LMOD_EN m then (d.wrBit R.PWR_LMOD_EN m false).emit (.pin (16 + m) 0) else d

/-- LMOD_EN_OFF_DELAY: 1 ms after the last engine that module `m` feeds went off. -/
def lmodEnOffDelay (m : Nat) (d : Dev) : Dev :=
  match d.pwr.lmodOff.look m with
  | some t => if t ≤ d.now then d.lmodLow m else d
  | none => d

/-- LMOD_FLT_CHANGE: a module fault pin is low (`low`) or high again. -/
def lmodFltChange (m : Nat) (low : Bool) (d : Dev) : Dev :=
  let was := d.rdBit R.PWR_LMOD_FLT m
  let d := d.wrBit R.PWR_LMOD_FLT m low
  if low ∧ was = false then
    d.modPwr fun w => { w with lmodFlts := w.lmodFlts.put m (w.lmodFlts.get m 0 + 1) }
  else d

/-! ### Domains going off (R52) -/

/-- An optical engine going off: its ports go down and its lanes are OFF. -/
def Dev.oeOff (d : Dev) (e : Nat) : Dev :=
  let d := d.each ((List.range 16).map fun i => 16 * e + i) fun d p =>
    if d.formed p then
      let d := d.portDown p
      let d := match (d.port p).job with
        | some a => d.complete a St.pwrDomainOff
        | none => d
      d.setPort p {}
    else d
  d.each ((List.range 32).map fun i => 32 * e + i) fun d x =>
    ((d.setLaneState x laOff).modLane x fun _ => {}).emit (.laneTx x 0)

/-- A tile going off: a tile reset, items for it are refused, and its SRAM is lost (R52, R334); its spare line map
stays in the always-on copy of the test record (R502). -/
def Dev.tileOff (d : Dev) (t : Nat) : Dev :=
  let d := d.resetTile t 1
  let d := d.each (d.net.pkts.flatMap fun x => (x.2.holders.filter fun h => h.tgt = t).map fun h => (x.1, h))
    fun d x => if isPort x.2.eg then d else d.killHolder x.1 x.2 rDomainOff
  let d := d.setTileState t tsOff
  let e := d.eccOf t
  { d with
    sram := d.sram.put t []
    ecc := d.ecc.put t { spares := e.spares, remapped := e.remapped }
    tiles := d.tiles.put t {} }

/-- A reduction cluster going off. -/
def Dev.clusterOff (d : Dev) (q : Nat) : Dev :=
  (((d.killCtxs fun i _ => ctxQuad i = q).flushAttach (rcAttach q) rDomainOff).setPd (pdRed q) false).syncEngines q

/-- An HBM interface going off: images in the cache, parked sessions of its quadrant's models and bunting rings
are lost with what the stack holds. -/
def Dev.hbmOff (d : Dev) (q : Nat) : Dev :=
  let d := d.each (d.net.pkts.flatMap fun x =>
      (x.2.holders.filter fun h => h.tgt = 0x104 + q).map fun h => (x.1, h))
    fun d x => if isPort x.2.eg then d else d.killHolder x.1 x.2 rDomainOff
  let d := d.each (d.models.filter fun m => m.2.state = msCached) fun d m => d.setModel m.1 {}
  let d := d.each d.models fun d m =>
    d.each (m.2.sess.filter fun x => x.2.state = 2) fun d x => d.setSession m.1 x.1 {}
  let d := { d with
    hbm := d.hbm.put q []
    hstacks := d.hstacks.put q { remap := (d.stack q).remap }
    tel := { d.tel with bunting := d.tel.bunting.filter fun x => x.1 / 128 ≠ q } }
  d.syncModels

/-- A quadrant core going off: every packet it stores, and every item at its attach points, ends with a record;
its tables and queues are lost (R52, R53). -/
def Dev.quadOff (d : Dev) (q : Nat) : Dev :=
  let ts := (d.red.trigs.filter fun x => trigQuad x.1 = q && x.2.state != tgFree).map Prod.fst
  let d := d.each ts fun d t => d.killOp t rDomainOff tgFree
  let d := d.killTokens rDomainOff fun i _ => i = q
  let hs := d.net.pkts.flatMap fun x =>
    (x.2.holders.filter fun h => x.2.home = q || quadOf h.eg = q).map fun h => (x.1, h)
  let d := d.each hs fun d x => d.killHolder x.1 x.2 rDomainOff
  let recs := d.net.recq.get q []
  let dest := match [0, 1, 2, 3].find? fun o => o ≠ q && d.pdOn (pdQuad o) with
    | some o => o
    | none => q
  let net := d.net
  let net := { net with recq := (net.recq.put q []).put dest ((if dest = q then [] else net.recq.get dest []) ++ recs) }
  let net := { net with
    links := net.links.filter fun x => x.1 / 128 ≠ q
    arrivals := net.arrivals.filter fun a => a.port / 128 ≠ q
    pkts := net.pkts.filter fun x => x.2.home ≠ q
    queues := net.queues.filter fun x => quadOf x.1.1 ≠ q
    crossing := net.crossing.filter fun x => quadOf x.2.eg ≠ q
    attachIn := net.attachIn.filter fun x => quadOf x.1 ≠ q
    rings := net.rings.filter fun x => quadOf x.1.1 ≠ q
    pools := net.pools.filter fun x => x.1.1 ≠ q }
  let net := { net with
    quarantined := net.quarantined.filter fun x => x.1.1 ≠ q
    retiredCells := net.retiredCells.filter fun x => x.1.1 ≠ q
    retiredSlots := net.retiredSlots.del q
    badSlots := net.badSlots.del q
    held := net.held.filter fun x => x ≠ q
    banks := net.banks.del q
    masks := net.masks.filter fun x => x.1.1 ≠ q
    vtime := net.vtime.filter fun x => quadOf x.1 ≠ q }
  let net := { net with
    burgees := net.burgees.filter fun x => x.1.1 ≠ q
    allow := net.allow.filter fun x => x.1 / 128 ≠ q
    quenchFilter := net.quenchFilter.filter fun x => x.1.1 ≠ q
    quenches := net.quenches.filter fun x => quadOf x.eg ≠ q }
  let red := d.red
  let red := { red with
    ctxs := red.ctxs.filter fun x => ctxQuad x.1 ≠ q
    keys := red.keys.filter fun x => x.1.1 ≠ q
    holders := red.holders.filter fun x => x.1.1 ≠ q
    busyFrom := red.busyFrom.filter fun x => x.1 / 16 ≠ q
    regions := red.regions.filter fun x => x.1.1 ≠ q
    bindings := red.bindings.filter fun x => ctxQuad x.1 ≠ q
    landings := red.landings.filter fun l => quadOf l.hold.eg ≠ q
    trigs := red.trigs.filter fun x => trigQuad x.1 ≠ q }
  let red := { red with
    ops := red.ops.filter fun x => x.1 / 32768 ≠ q
    groups := red.groups.filter fun x => x.1.1 ≠ q
    experts := red.experts.filter fun x => x.1.1 ≠ q
    tokens := red.tokens.filter fun x => x.1.1 ≠ q
    tokenWait := red.tokenWait.del q
    gateRecs := red.gateRecs.del q
    dispCheck := red.dispCheck.del q }
  let d := { d with
    net := net
    red := red
    tel := { d.tel with trace := d.tel.trace.del q, traceSeq := d.tel.traceSeq.del q }
    mgmt := { d.mgmt with outWait := d.mgmt.outWait.filter fun w => quadOf w.ing ≠ q } }
  (d.each ([0, 1, 2, 3].filter fun o => o ≠ q) fun d o =>
    (d.wr R.XBAR_MESHSTAT_SUBLINKS 0 o (meshIdx o q)).wr R.XBAR_MESHSTAT_SUBLINKS 0 q (meshIdx q o)).syncMesh

/-- A domain switched off. -/
def Dev.domainOff (d : Dev) (pd : Nat) : Dev :=
  if d.pdOn pd = false then d
  else
    let d :=
      if pd < 32 then d.oeOff pd
      else if pd < 96 then d.tileOff (pd - 32)
      else if pd < 100 then d.quadOff (pd - 96)
      else if pd < 104 then d.clusterOff (pd - 100)
      else if pd < 108 then d.hbmOff (pd - 104)
      else if pd = 108 then
        ((d.stopStore.dropPrograms.modStore fun s => { s with clean := false }).wr R.NVS_STAT_STATE nsAbsent).syncStore
      else if pd = 109 then
        d.each ((List.range 128).filter fun ch => d.chIntf ch = 0) fun d ch => d.chanFlr ch
      else d
    let d := d.setPd pd false
    if pd < 32 then d.syncLmod pd else d

/-! ### Domains coming on (R53, R515, R587) -/

/-- The register blocks of a domain, each with its instances. -/
def pdBlocks (pd : Nat) : List (Blk × (Nat → Bool)) :=
  if pd < 32 then [(.oe, fun i => decide (i = pd))]
  else if pd < 96 then [(.tile, fun i => decide (i = pd - 32)), (.sram, fun i => decide (i = pd - 32))]
  else if pd < 100 then
    let q := pd - 96
    ([Blk.xbar, .bpm, .rte, .schg, .red, .col].map fun b => (b, fun i : Nat => decide (i = q)))
      ++ ([Blk.lnk, .ring, .schq].map fun b => (b, fun i : Nat => decide (i / 128 = q)))
      ++ [(Blk.scha, fun i : Nat => decide (i / 8 = q))]
  else if 104 ≤ pd ∧ pd < 108 then [(.hbm, fun i => decide (i = pd - 104))]
  else []

/-- Whether a counter lives in a domain (R515, R593); the burgees' sums over the quadrants live in the hub (DESIGN
CHOICE, log entry 104). -/
def pdCounter (pd id : Nat) : Bool :=
  let b := id / 2 ^ 24
  let i := id / 4096 % 4096
  if pd < 32 then b = 0x02 && i / 32 = pd
  else if pd < 96 then (b = 0x0A || b = 0x0B) && i = pd - 32
  else if pd < 100 then
    let q := pd - 96
    (b = 0x03 && i / 128 = q) || ((b = 0x04 || b = 0x07) && decide (i < 0x400) && quadOf i = q)
      || ((b = 0x05 || b = 0x06 || b = 0x09) && i = q) || (b = 0x08 && i / 16 = q)
  else if 104 ≤ pd ∧ pd < 108 then b = 0x0C && i = pd - 104
  else if pd = 110 then (b = 0x07 && decide (0x400 ≤ i)) || b = 0x0D || b = 0x0E || b = 0x11 || b = 0x13 || b = 0x14
  else false

/-- Registers and counters of a domain that comes on: reset values, counters at 0 and their LIFE advanced.  The
reset record of a tile stays (R586). -/
def Dev.freshDomain (d : Dev) (pd : Nat) : Dev :=
  let keep := [R.TILE_RSTREC0_DISCARDED.id, R.TILE_RSTREC0_RCAUSE.id, R.TILE_RSTREC0_VALID.id,
    R.TILE_RSTREC1_FIRST_EA.id]
  let d := d.each (pdBlocks pd) fun d (b : Blk × (Nat → Bool)) =>
    d.resetFields ((blkIds b.1).filter fun i => !(keep.contains i)) b.2
  { d with
    counters := d.counters.filter fun c => !(pdCounter pd c.1)
    tel := { d.tel with life := d.tel.life.put pd ((d.tel.life.get pd 0 + 1) % 65536) } }

/-- A tile that has come on is idle, or parked at OP3; its spare line map applies (R502). -/
def Dev.tileOn (d : Dev) (t : Nat) : Dev :=
  let e := d.eccOf t
  let d := d.wr R.SRAM_MTEST_SPARES_USED e.remapped.length t
  (d.setEcc t { scrubAt := d.now, spares := e.spares, remapped := e.remapped }).setTileState t
    (if d.rd R.PWR_OPSTAT_OP_CUR = 3 ∨ d.rd R.PWR_OPSTAT_OP_TGT = 3 then tsParked else tsIdle)

/-- A quadrant core that has come on: its mesh links to the quadrants that are on come up, and Thidan loads the
sections it keeps (R511). -/
def Dev.quadOn (d : Dev) (q : Nat) : Dev :=
  let d := (d.each ([0, 1, 2, 3].filter fun o => o ≠ q && d.pdOn (pdQuad o)) fun d o =>
    (d.wr R.XBAR_MESHSTAT_SUBLINKS 0xFFFF o (meshIdx o q)).wr R.XBAR_MESHSTAT_SUBLINKS 0xFFFF q (meshIdx q o)).syncMesh
  let d := ((d.reloadQuadrant q).syncCol q).syncEngines q
  d.each ((List.range 128).map fun i => 128 * q + i) fun d p => if d.formed p then d.syncExcl p else d

/-- An HBM interface that has come on is trained and retested; the temperature it was trained at is not the
spec's to say (assumption log, row 4). -/
def Dev.hbmOn (d : Dev) (q : Nat) : Dev :=
  let t := d.free % 256
  let rows := (d.stack q).remap
  let d := ((d.wr R.HBM_STAT_TEMP t q).wr R.HBM_STAT_TRAIN_TEMP t q).wr R.HBM_SPARE_SOFT_USED rows.length q
  (d.usedFree.setStack q { refreshAt := d.now, scrubAt := d.now, tempAt := d.now, remap := rows }).syncMap

/-- A thermal trip in bring-up makes it wait until the device is cool (R505). -/
def Dev.tripBoot (d : Dev) : Dev :=
  let ph := d.rd R.HUB_BOOT_PHASE
  if 2 ≤ ph ∧ ph ≤ 5 then
    d.modBoot fun x => { x with cooling := true, sram := [], train := [], hbm := [], kat := [], recDone := false }
  else d

/-- A domain switched on and ready. -/
def Dev.domainOn (d : Dev) (pd : Nat) : Dev :=
  if d.pdOn pd then d
  else
    let d := (d.freshDomain pd).setPd pd true
    if pd < 32 then d.syncLmod pd
    else if pd < 96 then d.tileOn (pd - 32)
    else if pd < 100 then d.quadOn (pd - 96)
    else if pd < 104 then d.syncEngines (pd - 100)
    else if pd < 108 then d.hbmOn (pd - 104)
    else if pd = 108 then d.modBoot fun x => { x with discover := true }
    else d

/-! ### Tiles and stacks out of service (R496, R499, R503) -/

/-- The site of a logical tile, 0xF for one that is out of service. -/
def Dev.tileSite (d : Dev) (t : Nat) : Nat := d.rd R.HUB_TMAPEFF_SITE 0 (t / 8) / 16 ^ (t % 8) % 16
def Dev.tileOut (d : Dev) (t : Nat) : Bool := d.tileSite t = 0xF
def Dev.stackFailed (d : Dev) (q : Nat) : Bool := d.rdBit R.HUB_YIELD_STACKS_FAILED q

/-- Whether a domain's tile or stack is out of service. -/
def Dev.pdOut (d : Dev) (pd : Nat) : Bool :=
  (32 ≤ pd && decide (pd < 96) && d.tileOut (pd - 32)) || (104 ≤ pd && decide (pd < 108) && d.stackFailed (pd - 104))

/-! ### PD_SET (R50, R51) -/

/-- Whether an open context spills into a stack. -/
def Dev.spills (d : Dev) (q : Nat) : Bool :=
  d.red.ctxs.any fun x => ctxQuad x.1 = q && x.2.state = csOpen && x.2.spill

/-- Whether an ARMED or FIRING trigger entry would launch on a tile. -/
def Dev.pendingTrig (d : Dev) (t : Nat) : Bool :=
  d.red.trigs.any fun x =>
    (x.2.state = tgArmed || x.2.state = tgFiring)
      && bits (nth (d.opWords x.1) 0) 31 28 = 5 && nth (d.opWords x.1) 2 % 64 = t

/-- Whether a domain is busy for check 5 of R51. -/
def Dev.pdBusy (d : Dev) (pd : Nat) (force : Bool) : Bool :=
  if 32 ≤ pd ∧ pd < 96 then
    let t := pd - 32
    !force && ((d.modelOf t).isSome || d.pendingTrig t || (d.tile t).prog.isSome)
  else if 100 ≤ pd ∧ pd < 104 then d.red.ctxs.any fun x => ctxQuad x.1 = pd - 100 && x.2.state = csOpen
  else if 104 ≤ pd ∧ pd < 108 then
    let q := pd - 104
    d.spills q || d.models.any fun m =>
      (m.2.placed && m.2.window != 0 && (maskTiles m.2.mask).any fun t => quadOfTile t = q)
        || m.2.sess.any fun x => x.2.state = 2
  else false

/-- The domains a PD_SET names. -/
def JEntry.pdMask (j : JEntry) : List Nat :=
  (List.range 112).filter fun pd => bitOf (j.w (4 + pd / 32)) (pd % 32)

/-- The status with which a PD_SET is refused (R51), 0 for none.  After a thermal trip nothing is switched on
until the hottest junction is below 95 °C (R47). -/
def Dev.pdRefusal (d : Dev) (j : JEntry) : Nat :=
  let on := bitOf (j.w 8) 0
  let s := j.pdMask
  if s.any fun pd => pd = pdHub || pd = pdAon then St.pwrNotSwitchable
  else if !on && s.contains pdPcie && j.pkt.origin = .pcie then St.pwrNotSwitchable
  else if on && s.any d.pdOut then St.pwrNotSwitchable
  else if on && d.pwr.tripped && decide (95 ≤ d.rd R.PWR_THERM_TJ_HOT) then St.pwrNotSwitchable
  else if !on && (List.range 112).any fun x =>
      d.pdOn x && !(s.contains x) && (pdDeps x).any s.contains then St.pwrDependentOn
  else if on && s.any fun x => (pdDeps x).any fun y => !(d.pdOn y) && !(s.contains y) then St.pwrDependencyOff
  else if !on && s.any fun x => d.pdOn x && d.pdBusy x (bitOf (j.w 8) 1) then St.pwrDomainBusy
  else 0

/-- The steps of a PD_SET in order of dependency: the quadrant cores first when switching on, last when
switching off. -/
def pdOrder (s : List Nat) (on : Bool) : List (Nat × Bool) :=
  let quads := s.filter fun x => 96 ≤ x && decide (x < 100)
  let rest := s.filter fun x => !(96 ≤ x && decide (x < 100))
  (if on then quads ++ rest else rest ++ quads).map fun x => (x, on)

/-- The steps that change nothing skipped; with none left the command completes, and the first that restores
domains after a trip ends it (R47, R571). -/
def Dev.pdNext (d : Dev) : Dev :=
  let steps := d.pwr.pdSteps.dropWhile fun x => d.pdOn x.1 = x.2
  let d := d.modPwr fun w => { w with pdSteps := steps }
  match d.pwr.pdJob with
  | some a =>
    if steps = [] then
      let restored := match d.job? a with
        | some j => d.pwr.tripped && bitOf (j.w 8) 0
        | none => false
      let d := if restored then (d.modPwr fun w => { w with tripped := false }).emit (.pin 1 1) else d
      (d.modPwr fun w => { w with pdJob := none }).complete a St.ok
    else d
  | none => d

/-- PD_SET: one at a time, in order of acceptance; one that finds another running waits. -/
def pdSet (aseq : Nat) (d : Dev) : Dev :=
  if d.pwr.pdJob.isSome then d
  else
    d.cmd aseq 0x0102 fun j d =>
      let st := d.pdRefusal j
      if st ≠ 0 then d.complete aseq st
      else
        (d.modPwr fun w => { w with
          pdJob := some aseq
          pdSteps := pdOrder j.pdMask (bitOf (j.w 8) 0)
          pdForce := bitOf (j.w 8) 1 }).pdNext

/-- The domains of bring-up switched on in the order of R50 (R501): every one but those whose tile or stack is out of
service. -/
def Dev.startDomains (d : Dev) : Dev :=
  let d := d.modPwr fun w => { w with pdJob := none, pdSteps := pdOrder ((List.range 110).filter fun pd => !(d.pdOut pd)) true }
  d.pdNext

/-- Whether a domain is the step in hand of a PD_SET. -/
def Dev.pdStep (d : Dev) (pd : Nat) (on : Bool) : Bool := d.pwr.pdSteps.head? = some (pd, on)

/-- DOMAIN_ON_COMPLETE. -/
def domainOnComplete (pd : Nat) (d : Dev) : Dev :=
  if d.pdStep pd true then (d.domainOn pd).pdNext else d

/-- DOMAIN_OFF_COMPLETE. -/
def domainOffComplete (pd : Nat) (d : Dev) : Dev :=
  if d.pdStep pd false then (d.domainOff pd).pdNext else d

/-! ### Heat and power (R46 to R48) -/

/-- GATE_PCT and THROTTLE after a change of a gate. -/
def Dev.syncGate (d : Dev) : Dev :=
  let g := max d.pwr.thermGate d.pwr.powGate
  let rise := decide (0 < g) && !(d.on R.PWR_THERM_THROTTLE)
  let d := (d.wr R.PWR_THERM_GATE_PCT g).wr R.PWR_THERM_THROTTLE (b2n (decide (0 < g)))
  if rise then (d.set R.PWR_THERM_THROTTLE_SEEN).pend R.PWR_IPEND_THROTTLE else d

/-- A threshold with 3 °C of hysteresis. -/
def hotter (was : Bool) (tj th : Nat) : Bool := decide (th ≤ tj) || (was && decide (th ≤ tj + 3))

/-- The thermal trip (R47): aborts on every port, then every domain but hub compute and always-on goes off.  A
PD_SET in hand ends. -/
def Dev.thermalTrip (d : Dev) (sensor : Nat) : Dev :=
  let d := (d.faultEvent 0x01 0x02 sensor).modPwr fun w => { w with tripped := true }
  let d := d.emit (.pin 1 0)
  let ports := d.livePorts
  let d := d.edgeAbort
  let d := d.each ports fun d p => d.abortEdge p
  let job := d.pwr.pdJob
  let d := d.modPwr fun w => { w with pdJob := none, pdSteps := [] }
  let d := match job with
    | some a => d.complete a St.pwrNotSwitchable
    | none => d
  let d := d.each (pdOrder (List.range 110) false) fun d (x : Nat × Bool) => d.domainOff x.1
  (d.each (List.range 16) fun d m => d.lmodLow m).tripBoot

/-- Bring-up taken up again at DOMAINS once the hottest junction is below 95 °C (R505). -/
def Dev.cooled (d : Dev) : Dev :=
  let d := d.modBoot fun x => { x with cooling := false, phaseAt := d.now }
  ((((d.modPwr fun w => { w with tripped := false }).emit (.pin 1 1)).wr R.HUB_BOOT_PHASE 2).startDomains)

/-- JUNCTION_TEMPERATURE_CHANGE: the hottest reading and its sensor. -/
def junctionTemperatureChange (tj sensor : Nat) (d : Dev) : Dev :=
  let d := (d.wr R.PWR_THERM_TJ_HOT (min tj 255)).wr R.PWR_THERM_HOT_SENSOR sensor
  let was := d.on R.PWR_THERM_WARN
  let warn := hotter was tj 95
  let d := d.wr R.PWR_THERM_WARN (b2n warn)
  let d := if warn ∧ was = false then (d.set R.PWR_THERM_WARN_SEEN).pend R.PWR_IPEND_WARN else d
  let gated := hotter (decide (0 < d.pwr.thermGate)) tj 110
  let d := (d.modPwr fun w => { w with thermGate := if gated then 50 else 0 }).syncGate
  if 120 ≤ tj ∧ d.pwr.tripped = false then d.thermalTrip sensor
  else if d.mgmt.boot.cooling ∧ tj < 95 then d.cooled
  else d

/-- POWER_LIMIT_WINDOW: the power of a window in watts.  The fraction by which the next window is gated after one
above the limit is a free value from 1 to 100 (assumption log, row 4). -/
def powerLimitWindow (watts : Nat) (d : Dev) : Dev :=
  let d := d.modPwr fun w => { w with watts := watts }
  if d.rd R.PWR_PLIMIT_LIMIT_W < watts then
    ((d.modPwr fun w => { w with powGate := 1 + d.free % 100 }).usedFree).syncGate
  else (d.modPwr fun w => { w with powGate := 0 }).syncGate

/-- OE_CLASS (R41): class 3 is none of the three, and an engine that is off takes no class (R586). -/
def oeClass (aseq : Nat) (d : Dev) : Dev :=
  d.cmd aseq 0x0103 fun j d =>
    let c := j.w 5 % 4
    if c = 3 then d.complete aseq St.cmdParam
    else if (maskBits (j.w 4) 32).any fun e => !(d.pdOn (pdOe e)) then d.complete aseq St.pwrDomainOff
    else (d.each (maskBits (j.w 4) 32) fun d e => d.wr R.OE_LASER_CLASS_NEXT c e).complete aseq St.ok

end Sys2Proof.Machine
end

