-- ==== Sys2Proof/Machine/BootBase.lean ====
section
/-! DEFINITION. What the memory tests and the known-answer runs of bring-up leave (spec/18, R499 to R504). -/

namespace Sys2Proof.Machine

/-- A march test begins on a tile. -/
def Dev.startMarch (d : Dev) (t mode : Nat) (job : Option Nat) : Dev :=
  let d := ((d.wr R.SRAM_MTEST_MODE mode t).wr R.SRAM_MTEST_RESULT 1 t).wr R.SRAM_MTEST_SPARED 0 t
  let d := (d.setEcc t { d.eccOf t with march := some (mode, job) }).count 0x0B t 0 4
  if mode = 3 then d else d.setTileState t tsRunning

/-- A phase of bring-up begun; the time of the phase that was in hand is counted in ms (R501, R516). -/
def Dev.toPhase (d : Dev) (ph : Nat) : Dev :=
  let ms := (d.now - d.mgmt.boot.phaseAt) / 1000000
  let d := { d with counters := d.counters.put (counterId 0x11 0x800 0 d.bootPhase) ms }
  (d.modBoot fun x => { x with phaseAt := d.now }).wr R.HUB_BOOT_PHASE ph

/-- Whether a start of this kind tests HBM and writes the record: a cold or a quick one (R489, R501). -/
def Dev.fullStart (d : Dev) : Bool := d.rd R.HUB_BOOT_MODE != 3

/-- Whether every test and every run has ended. -/
def Boot.tested (x : Boot) : Bool := x.sram = [] && x.train = [] && x.hbm = [] && x.kat = []

/-- Bring-up passes to RECORD once every test and run has ended (R501); a DEVICE reset writes no record. -/
def Dev.checkTested (d : Dev) : Dev :=
  if d.mgmt.boot.tested ∧ d.fullStart ∧ (d.bootPhase = bpMemtest ∨ d.bootPhase = bpKat) then d.toPhase bpRecord else d

/-- HUB.YIELD.TILES_OK. -/
def Dev.syncYield (d : Dev) : Dev :=
  d.wr R.HUB_YIELD_TILES_OK ((List.range 64).filter fun t => !(d.tileOut t)).length

/-- The site of a logical tile written. -/
def Dev.setSite (d : Dev) (t site : Nat) : Dev :=
  let k := 16 ^ (t % 8)
  let w := d.rd R.HUB_TMAPEFF_SITE 0 (t / 8)
  (d.wr R.HUB_TMAPEFF_SITE (w - d.tileSite t * k + site * k) 0 (t / 8)).syncYield

/-- The spare site of a die while nothing uses it. -/
def Dev.freeSpare (d : Dev) (c : Nat) : Option Nat :=
  let fused := (List.range 8).map fun i => d.rd R.HUB_TMAP_SITE 0 c / 16 ^ i % 16
  let used := (List.range 8).map fun i => d.tileSite (8 * c + i)
  (List.range 9).find? fun s => !(fused.contains s) && !(used.contains s)

/-- The march mode of a start: DESTRUCTIVE_FULL at a cold start, else DESTRUCTIVE_QUICK (R501, R489). -/
def Dev.bootMarch (d : Dev) : Nat := if d.rd R.HUB_BOOT_MODE = 1 then 1 else 2

/-- A tile whose site fails a test or a run: it is mapped to its die's spare site, which is then tested, or is out of
service (R499). -/
def Dev.siteFails (d : Dev) (t : Nat) : Dev :=
  match d.freeSpare (t / 8) with
  | some s =>
    let d := ((d.setSite t s).count 0x11 0x800 2 0).recordNew
    let d := (d.setEcc t {}).modBoot fun x => { x with sram := (x.sram ++ [t]).eraseDups }
    (d.wr R.SRAM_MTEST_SPARES_USED 0 t).startMarch t d.bootMarch none
  | none =>
    let d := ((d.setSite t 0xF).set R.HUB_BOOT_DEGRADED).recordNew
    let d := d.domainOff (pdTile t)
    d.modBoot fun x => { x with sram := x.sram.filter fun y => y ≠ t, kat := x.kat.filter fun y => y ≠ (0x0A, t) }

/-- The memory test of a tile in bring-up has ended. -/
def Dev.marchBoot (d : Dev) (t : Nat) (bad : Bool) : Dev :=
  let d := if bad then (d.count 0x11 0x800 1 3).siteFails t
    else d.modBoot fun x => { x with sram := x.sram.filter fun y => y ≠ t }
  let d := if d.mgmt.boot.sram = [] ∧ d.bootPhase = bpMemtest ∧ d.mgmt.boot.hbm = [] then d.toPhase bpKat else d
  d.checkTested

/-- A failed stack (R503): its interface is switched off and the model cache is held at 0. -/
def Dev.failStack (d : Dev) (q : Nat) : Dev :=
  let d := ((d.wrBit R.HUB_YIELD_STACKS_FAILED q true).set R.HUB_BOOT_DEGRADED).recordNew
  let d := (d.domainOff (pdHbm q)).wr R.THD_MCACHE_SIZE 0
  (d.modBoot fun x => { x with
    train := x.train.filter fun y => y ≠ q
    hbm := x.hbm.filter fun y => y ≠ q
    kat := x.kat.filter fun y => y ≠ (0x0C, q) }).syncModels

/-- Bring-up stops (R505): FAILED with its phase, and the fault output. -/
def Dev.bootStops (d : Dev) : Dev :=
  let ph := d.bootPhase
  let d := (d.toPhase bpFailed).wr R.HUB_BOOT_FAIL_PHASE ph
  (d.modBoot fun x => { x with fails := x.fails + 1, sram := [], train := [], hbm := [], kat := [] }).emit (.pin 0 0)

end Sys2Proof.Machine
end

