-- ==== Sys2Proof/Machine/Memory.lean ====
section
/-! DEFINITION. The protection of the memories (spec/13): containment, scrubbing and the march test of tile SRAM;
poison, sparing, refresh and retraining of the HBM stacks. -/

namespace Sys2Proof.Machine

/-! ### Tile SRAM (R369 to R373) -/

/-- SRAM_ECC_RESET_TIMER: the containment reset of a tile is due.  The cause that its reset record shows is not the
spec's to say (assumption log, row 4). -/
def sramEccResetTimer (t : Nat) (d : Dev) : Dev :=
  match (d.eccOf t).resetAt with
  | some x => if x ≤ d.now then (d.startReset rlTile t 2 (d.free % 8) []).usedFree else d
  | none => d

/-- SRAM_SCRUB_PERIOD: the scrubber has read every line, and found `hits`. -/
def sramScrubPeriod (t : Nat) (hits : EccHits) (d : Dev) : Dev :=
  let p := d.rd R.SRAM_SCRUB_PERIOD_S t
  if p = 0 ∨ d.pdOn (pdTile t) = false ∨ d.now < (d.eccOf t).scrubAt + 1000000000 * p then d
  else
    let d := (d.setEcc t { d.eccOf t with scrubAt := d.now }).count 0x0B t 0 5
    let d := d.each (hits.corr.filter fun (c : Nat × Nat) => c.1 % 8 = 0 && c.1 < sramBytes) fun d c =>
      d.sramCorr t c.1 c.2
    d.each (hits.unc.filter fun w => w % 8 = 0 && w < sramBytes) fun d w => d.sramUnc t w 1 true

/-- Whether a tile is in the state that a march mode needs (R371). -/
def Dev.marchState (d : Dev) (t mode : Nat) : Bool :=
  if mode = 3 then d.tileState t != tsOff && d.tileState t != tsResetting && (d.eccOf t).march.isNone
  else d.tileState t = tsIdle && (d.tile t).lq = []

/-- SRAM_TEST (R372). -/
def sramTest (aseq : Nat) (d : Dev) : Dev :=
  d.cmd aseq 0x0403 fun j d =>
    let ts := maskBits (j.w 4 + j.w 5 * 2 ^ 32) 64
    let mode := j.w 6 % 4
    if mode = 0 then d.complete aseq St.cmdParam
    else if mode ≠ 3 ∧ ts.any fun t => (d.modelOf t).isSome then d.complete aseq St.modelTilesBusy
    else if mode = 3 ∧ ts.any fun t => d.tileState t = tsOff || d.tileState t = tsResetting then
      d.complete aseq St.tileOff
    else if ts.any fun t => !(d.marchState t mode) then d.complete aseq St.tileBusy
    else if ts = [] then d.complete aseq St.ok
    else
      let d := d.modJob aseq fun j => { j with waits := ts.length }
      d.each ts fun d t => d.startMarch t mode (some aseq)

/-- The failing lines of a tile mapped to spares, as far as their banks have any: how many were mapped, and whether
some bank needs more than its 16 (R373). -/
def Dev.spareLines (d : Dev) (t : Nat) (lines : List Nat) : Dev × Nat × Bool :=
  lines.foldl (fun (a : Dev × Nat × Bool) l =>
    let d := a.1
    let e := d.eccOf t
    let b := l % 32
    let n := e.spares.get b 0
    if e.remapped.contains l then a
    else if 16 ≤ n then (d, a.2.1, true)
    else
      let e := { e with spares := e.spares.put b (n + 1), remapped := e.remapped ++ [l] }
      ((d.setEcc t e).bump R.SRAM_MTEST_SPARES_USED t, a.2.1 + 1, a.2.2)) (d, 0, false)

/-- MARCH_TEST_COMPLETE: `lines` failed, `spareBad` says that a spare in use failed, and the words `unc` read
uncorrectable when they were saved.  A tile that fails is switched off; in bring-up R499 has its say. -/
def marchTestComplete (t : Nat) (lines : List Nat) (spareBad : Bool) (unc : List Nat) (d : Dev) : Dev :=
  match (d.eccOf t).march with
  | none => d
  | some (mode, job) =>
    let d := d.setEcc t { d.eccOf t with march := none }
    let (d, n, short) := d.spareLines t lines
    let d := (d.wrSat R.SRAM_MTEST_SPARED n t).recordNew
    let bad := short || spareBad
    let d := d.wr R.SRAM_MTEST_RESULT (if bad then 3 else 2) t
    let d :=
      if mode = 3 then
        d.each (unc.filter fun w => w % 8 = 0 && w < sramBytes) fun d w => d.sramUnc t w 1 true
      else
        let d := d.setEcc t { d.eccOf t with poison := [], corrOnce := [], badLines := [] }
        let d := (d.setSram t []).syncPoison t
        if d.tileState t = tsRunning then (d.setTileState t tsIdle).startNext t else d
    let d := if d.mgmt.boot.sram.contains t then d.marchBoot t bad
      else if bad then d.domainOff (pdTile t) else d
    match job with
    | some a => d.jobStep a
    | none => d

/-! ### HBM stacks (R375 to R379) -/

/-- The channel of an address: consecutive 256 B blocks go to consecutive channels. -/
def hbmChannel (a : Nat) : Nat := a / 256 % 32

/-- The row of an address: the eight 256 B blocks of one channel that lie together, 2 KiB (R379; the spec gives no
map of rows, assumption log row 32). -/
def hbmRow (a : Nat) : Nat := a / 65536 * 32 + hbmChannel a

/-- A row soft-spared (R379). -/
def Dev.spareRow (d : Dev) (q row : Nat) : Dev :=
  let s := d.stack q
  if s.remap.contains row then d
  else if 1024 ≤ s.remap.length then d.set R.HBM_ERR_SPARE_FULL q
  else
    let d := d.setStack q { s with remap := s.remap ++ [row], corr := s.corr.del row }
    ((d.wr R.HBM_SPARE_SOFT_USED (s.remap.length + 1) q).count 0x0C q 0 4).recordNew

/-- The first detection of an uncorrectable block: it is poisoned, which is one fault event, and its row is
spared (R376, R379).  Answers whether it was the first. -/
def Dev.hbmUnc (d : Dev) (q a : Nat) : Dev × Bool :=
  let b := a / 64 * 64
  let s := d.stack q
  if s.poison.contains b then (d, false)
  else
    let d := d.setStack q { s with poison := s.poison ++ [b] }
    let d := ((d.faultEvent 0x0C 0x01 q).set R.HBM_ERR_UNC_SEEN q).count 0x0C q 0 2
    let d := (d.wr R.HBM_ERRADDR_LO_ADDR_LO (b % 2 ^ 32) q).wr R.HBM_ERRADDR_HI_ADDR_HI (b / 2 ^ 32) q
    let d := (d.wr R.HBM_ERRADDR_HI_CHANNEL (hbmChannel b) q).set R.HBM_ERRADDR_HI_VALID q
    (d.spareRow q (hbmRow b), true)

/-- A correction of a block, which may spare its row (R375, R379). -/
def Dev.hbmCorr (d : Dev) (q a : Nat) : Dev :=
  let d := (d.bump R.HBM_ERR_CORR q).count 0x0C q 0 0
  let s := d.stack q
  let row := hbmRow a
  let times := ((s.corr.get row []).filter fun t => decide (d.now < t + 86400000000000)) ++ [d.now]
  let d := d.setStack q { s with corr := s.corr.put row times }
  let th := d.rd R.HBM_SPARE_THRESH q
  if th ≠ 0 ∧ th ≤ times.length then d.spareRow q row else d

/-- The answer to the user of an uncorrectable block (R376). -/
def Dev.hbmAnswer (d : Dev) (q : Nat) (u : HbmUser) : Dev :=
  match u with
  | .none => d
  | .ctx i =>
    if ctxQuad i = q ∧ (d.ctx i).state = csOpen ∧ (d.ctx i).spill then
      d.abortCtx i acAccEcc
    else d
  | .load s => if (d.model s).state = msLoading then d.failModel s else d
  | .park s i =>
    let x := d.session s i
    if x.state = 2 then d.setSession s i { x with dead := true } else d
  | .bunting p k =>
    match d.tel.bunting.look p with
    | none => d
    | some r =>
      if p / 128 = q ∧ k < r.entries.length then
        ((d.setBunt p { r with entries := r.entries.eraseIdx k }).set R.TEL_ERR_ECC_DISCARD).count 0x0C q 0 6
      else d

/-- HBM_UNCORRECTABLE. -/
def hbmUncorrectable (q addr : Nat) (user : HbmUser) (d : Dev) : Dev :=
  if d.pdOn (pdHbm q) = false then d else (d.hbmUnc q addr).1.hbmAnswer q user

/-- HBM_PATROL_SCRUB: every block of a stack has been read; `unc` and `corr` are the blocks found uncorrectable and
corrected, and the stack reported `ondie` corrections of its own. -/
def hbmPatrolScrub (q : Nat) (unc corr : List Nat) (ondie : Nat) (d : Dev) : Dev :=
  if d.pdOn (pdHbm q) = false ∨ d.now < (d.stack q).scrubAt + 86400000000000 then d
  else
    let d := (d.setStack q { d.stack q with scrubAt := d.now }).count 0x0C q 0 5
    let d := (d.bump R.HBM_ERR_ODECC q (n := ondie)).count 0x0C q 0 1 ondie
    let d := d.each corr fun d a => d.hbmCorr q a
    d.each unc fun d a => (d.hbmUnc q a).1

/-- HBM_REFRESH_DUE: a refresh is issued; it changes nothing that a program can see. -/
def hbmRefreshDue (q : Nat) (d : Dev) : Dev :=
  if d.pdOn (pdHbm q) then d.setStack q { d.stack q with refreshAt := d.now } else d

/-- A channel held for retraining (R378). -/
def Dev.holdChannel (d : Dev) (q ch : Nat) (single : Bool) : Dev :=
  let d := d.setStack q { d.stack q with holdTill := some (d.now + 1500), nextAt := none, single := single }
  (d.set R.HBM_STAT_TRAINING q).wr R.HBM_STAT_TRAIN_CH ch q

/-- The sequence of R378 begun, unless one is running. -/
def Dev.startRetrain (d : Dev) (q : Nat) : Dev :=
  if d.on R.HBM_STAT_TRAINING q then d else (d.holdChannel q 0 false).count 0x0C q 0 3

/-- HBM_TEMP_CHECK. -/
def hbmTempCheck (q temp : Nat) (d : Dev) : Dev :=
  if d.pdOn (pdHbm q) = false ∨ d.now < (d.stack q).tempAt + 1000000 then d
  else
    let d := (d.setStack q { d.stack q with tempAt := d.now }).wr R.HBM_STAT_TEMP temp q
    let at_ := d.rd R.HBM_STAT_TRAIN_TEMP q
    if at_ + 5 < temp ∨ temp + 5 < at_ then d.startRetrain q else d

/-- HBM_CHANNEL_RETRAIN_DONE: the held channel has retrained, or kept its settings (`ok` false). -/
def hbmChannelRetrainDone (q : Nat) (ok : Bool) (d : Dev) : Dev :=
  let s := d.stack q
  match s.holdTill with
  | none => d
  | some t =>
    if d.now < t then d
    else
      let ch := d.rd R.HBM_STAT_TRAIN_CH q
      let d := d.setStack q { s with holdTill := none }
      let d :=
        if ok then d
        else
          let d := (d.set R.HBM_ERR_TRAIN_FAIL q).faultEvent 0x0C 0x02 (32 * q + ch)
          d.setStack q { d.stack q with retry := (d.stack q).retry ++ [(ch, d.now + 100000000)] }
      if s.single then d.clr R.HBM_STAT_TRAINING q
      else if ch = 31 then
        (d.wr R.HBM_STAT_TRAIN_TEMP (d.rd R.HBM_STAT_TEMP q) q).clr R.HBM_STAT_TRAINING q
      else d.setStack q { d.stack q with nextAt := some (d.now + 10000) }

/-- HBM_CHANNEL_RETRAIN_NEXT: 10 µs after the last one, the next channel is held. -/
def hbmChannelRetrainNext (q : Nat) (d : Dev) : Dev :=
  match (d.stack q).nextAt with
  | some t => if t ≤ d.now then d.holdChannel q (d.rd R.HBM_STAT_TRAIN_CH q + 1) false else d
  | none => d

/-- HBM_RETRAIN_RETRY: 100 ms after a failure the channel is tried again. -/
def hbmRetrainRetry (q : Nat) (d : Dev) : Dev :=
  match (d.stack q).retry with
  | (ch, t) :: rest =>
    if t ≤ d.now ∧ d.on R.HBM_STAT_TRAINING q = false then
      (d.setStack q { d.stack q with retry := rest }).holdChannel q ch true
    else d
  | [] => d

end Sys2Proof.Machine
end

