-- ==== Sys2Proof/Machine/Sensors.lean ====
section
/-! DEFINITION. The PLDM sensors of the device and the messages that report their changes (spec/20, R556). -/

namespace Sys2Proof.Machine

/-- The reading of a numeric or state sensor. -/
def Dev.sensorVal (d : Dev) (id : Nat) : Option Nat :=
  if id = 1 then some (d.rd R.PWR_THERM_TJ_HOT)
  else if 2 ≤ id ∧ id ≤ 5 then some (d.rd R.HBM_STAT_TEMP (id - 2))
  else if id = 6 then some d.mgmt.pwr.watts
  else if id = 7 then some (5 * d.rd R.PWR_OPSTAT_VCORE)
  else if 8 ≤ id ∧ id ≤ 11 then some (d.rd R.PWR_QMARGIN_MARGIN (id - 8))
  else if id = 20 then some (d.rd R.FLT_STAT_STATE)
  else if id = 21 then some (d.rd R.HUB_BOOT_PHASE)
  else if id = 22 then some (d.rd R.NVS_STAT_STATE)
  else none

/-- How many thresholds the hottest junction has passed: warning, critical, fatal. -/
def Dev.tjLevel (d : Dev) : Nat :=
  let t := d.rd R.PWR_THERM_TJ_HOT
  b2n (decide (95 ≤ t)) + b2n (decide (110 ≤ t)) + b2n (decide (120 ≤ t))

/-- What an event message compares: the threshold level of sensor 1, the value of a state sensor. -/
def Dev.eventVal (d : Dev) (id : Nat) : Nat := if id = 1 then d.tjLevel else (d.sensorVal id).getD 0

/-- PlatformEventMessage to the event receiver, where one is set, for each threshold crossed and each state changed
between two states of the device. -/
def Dev.platform (before d : Dev) : Dev :=
  match d.sec.receiver with
  | none => d
  | some (intf, eid) =>
    d.each [1, 20, 21, 22] fun d id =>
      if before.eventVal id = d.eventVal id then d
      else d.emit (.mctp intf eid 0 1 [id, before.eventVal id, d.eventVal id])

end Sys2Proof.Machine
end

