-- ==== Sys2Proof/Machine/Models.lean ====
section
/-! DEFINITION. Models fetched, loaded, swapped, moved and evicted, and their steps (spec/12, R338 to R348,
R353 to R356, R360; spec/14, R397; spec/18, R451). -/

namespace Sys2Proof.Machine

/-! ### Images (R338, R339) -/

/-- Word `n` of an image's header, least significant byte first (R595). -/
def mdlWord (m : Mem) (n : Nat) : Nat := ofLE (m.readN (4 * n) 4)

/-- What the header and the section table of an image say. -/
def imageModel (im : Mem) : Model :=
  let w := mdlWord im
  let tiles := bits (w 1) 7 0
  { id := bits (w 1) 31 16, tiles := tiles, users := bits (w 2) 31 16, rows := bits (w 2) 15 8
    stateB := w 3, window := bits (w 4) 23 0, kvB := w 5, stepBeats := w 6, workB := bits (w 7) 23 0
    bodyB := w 8, burgee := bits (w 9) 8 0, digest := (List.range 12).map fun i => w (12 + i), image := im
    sections := (List.range tiles).map fun k =>
      { off := w (32 + 4 * k), len := w (33 + 4 * k), sram := bits (w (34 + 4 * k)) 23 0
        entry := bits (w (35 + 4 * k)) 23 0 } }

/-- The bytes that DIGEST covers: the section table and every section. -/
def digestBytes (m : Model) : List Nat :=
  m.image.readN 128 (16 * m.tiles) ++ m.sections.flatMap fun (x : Section) => m.image.readN (256 * x.off) x.len

/-- The first check of R339 that fails, or 0; `sig` says that the signature verifies. -/
def imageCheck (m : Model) (sig : Bool) (burgee : Nat) : Nat :=
  let w := mdlWord m.image
  let rsv := bits (w 2) 7 0 + bits (w 4) 31 24 + bits (w 7) 31 24 + bits (w 9) 31 9
    + ([10, 11, 24, 25, 26, 27, 28, 29, 30, 31].map w).foldl (· + ·) 0
  if w 0 ≠ 0x4D444C31 ∨ bits (w 1) 15 8 ≠ 1 ∨ m.tiles = 0 ∨ 64 < m.tiles ∨ m.users = 0 ∨ 4096 < m.users
      ∨ m.rows = 0 ∨ 2 < m.rows ∨ rsv ≠ 0 then 1
  else if sig = false ∨ (burgee ≠ 0 ∧ burgee ≠ m.burgee) then 2
  else if sha384 (digestBytes m) ≠ m.digest then 3
  else if m.sections.any fun (x : Section) => decide (sramBytes < x.sram + x.len + m.users * m.stateB + m.workB) then 4
  else 0

/-- The status of a check of R339. -/
def checkStatus (k : Nat) : Nat :=
  if k = 0 then 0 else if k = 2 then St.imgSignature else if k = 4 then St.modelSramFit else St.modelImgInvalid

/-- The status of an image (R339): 0 for good. -/
def imageStatus (m : Model) (sig : Bool) (burgee : Nat) : Nat := checkStatus (imageCheck m sig burgee)

/-! ### MODEL_FETCH (R397) -/

/-- A command on models refused: THD.SERVEERR.LOAD_FAIL with its completion, the number of a check in DETAIL
(R414). -/
def Dev.modelRefused (d : Dev) (aseq status : Nat) (check : Nat := 0) : Dev :=
  (d.set R.THD_SERVEERR_LOAD_FAIL).complete aseq status [] check

/-- Whether a command may name a model's slot: a tenant only one of its own burgee, or an EMPTY one (R422). -/
def Dev.modelReach (d : Dev) (j : JEntry) (m : Model) : Bool := m.state = msEmpty || d.cmdReach j m.burgee

/-- The lowest EMPTY slot that nothing is left in. -/
def Dev.emptySlot (d : Dev) : Option Nat :=
  (List.range 256).find? fun s =>
    let m := d.model s
    m.state = msEmpty && m.fetch.isNone && m.sess = []

/-- MODEL_FETCH. -/
def modelFetch (aseq : Nat) (d : Dev) : Dev :=
  d.storeCmd aseq 0x0404 fun j d =>
    match d.cmdObj j (j.w 4) with
    | .error s => d.modelRefused aseq s
    | .ok o =>
      let body := mdlWord o.data 8
      if o.kind ≠ 1 ∨ o.state ≠ 2 then d.modelRefused aseq St.objState
      else match d.emptySlot with
        | none => d.modelRefused aseq St.modelCacheFull
        | some s =>
          if d.cacheFree < ceilDiv body 4096 * 4096 then d.modelRefused aseq St.modelCacheFull
          else
            let d := d.setModel s { fetch := some aseq, bodyB := body }
            (d.startRead (.fetch s) (j.w 4) 0 o.size none 0).syncModels

/-- MODEL_FETCH_COMPLETE: the object of slot `s` has been read, and is checked; `sig` says that its signature
verifies under a key of the key store admitted for its burgee, which takes one to be there (R543).  A unit that cannot be recovered leaves the slot FAILED (R386). -/
def modelFetchComplete (s : Nat) (sig : Bool) (d : Dev) : Dev :=
  match (d.model s).fetch, d.store.jobs.find? fun j => j.src = StoreSrc.fetch s && j.ended with
  | some aseq, some j =>
    let d := d.delJob j.id
    match j.failed with
    | some st =>
      let d := if st = St.storeUncorrectable then
          (d.setModel s { state := msFailed }).set R.THD_SERVEERR_MODEL_FAILED
        else d.setModel s {}
      (d.syncModels).modelRefused aseq st
    | none =>
      let m := imageModel j.data
      let burgee := match d.job? aseq with
        | some x => x.burgee
        | none => 0
      let k := imageCheck m (sig && d.modelKey m.burgee) burgee
      if checkStatus k ≠ 0 then ((d.setModel s {}).syncModels).modelRefused aseq (checkStatus k) k
      else ((d.setModel s { m with state := msCached }).syncModels).complete aseq St.ok [s]
  | _, _ => d

/-! ### Placement (R342, R343, R346) -/

/-- The mask of words 5 and 6, or of two words from `n`, low word first. -/
def JEntry.tileMask (j : JEntry) (n : Nat) : Nat := j.w n % 2 ^ 32 + j.w (n + 1) % 2 ^ 32 * 2 ^ 32

/-- Bytes of window caches that a model takes in the stack of quadrant `q`: an even share for each quadrant of
its tiles. -/
def Model.windowBytes (m : Model) (mask q : Nat) : Nat :=
  let qs := ((maskTiles mask).map quadOfTile).eraseDups
  if qs.contains q then ceilDiv (m.users * m.window * m.kvB) qs.length else 0

/-- Whether the window caches of a model on a mask fit, beside those of the models on tiles but `skip`. -/
def Dev.windowFits (d : Dev) (m : Model) (mask : Nat) (skip : Nat) : Bool :=
  [0, 1, 2, 3].all fun q =>
    let used := d.models.foldl (fun n x =>
      if x.1 != skip && x.2.placed then n + x.2.windowBytes x.2.mask q else n) 0
    decide (used + m.windowBytes mask q ≤ 64 * mib * d.rd R.HBM_AREA_WIN q)

/-- The status of a placement on a mask for slot `s`, whose tiles may still belong to slot `own` (R343). -/
def Dev.placeStatus (d : Dev) (s mask own : Nat) : Nat :=
  let m := d.model s
  let ts := maskTiles mask
  if ts.any fun t => match d.modelOf t with
      | some o => o ≠ own || d.pendingTrig t
      | none => (d.tile t).prog.isSome || (d.tile t).lq != [] || d.pendingTrig t || d.tileState t = tsResetting
  then St.modelTilesBusy
  else if ts.any fun t => !(d.pdOn (pdTile t)) then St.pwrDomainOff
  else if d.windowFits m mask own = false then St.modelCacheFull
  else if d.parking then St.pwrParking
  else 0

/-- A FREE trigger entry in the quadrant of a mask's front tile. -/
def Dev.freeTrig (d : Dev) (mask : Nat) : Option Nat :=
  let q := quadOfTile ((maskTiles mask).headD 0)
  ((List.range (min 32768 (d.red.trigs.length + 1))).map fun i => q * 32768 + i).find? fun t =>
    (d.trig t).state = tgFree

/-- The ready trigger of a slot taken and armed, with the mask and the command that wait for it. -/
def Dev.takeReady (d : Dev) (s t mask aseq : Nat) : Dev :=
  let m := d.model s
  let d := d.setTrig t { state := tgArmed, burgee := m.burgee, thresh := m.tiles }
  d.setModel s { d.model s with ready := some t, nextMask := mask, job := some aseq }

/-- The load of a slot begins on the mask that it waits for. -/
def Dev.beginLoad (d : Dev) (s : Nat) : Dev :=
  let m := d.model s
  (d.setModel s { m with state := msLoading, mask := m.nextMask, nextMask := 0, incoming := none, loading := true
                         loadAt := d.now }).syncModels

/-- MODEL_LOAD: `sig` as for MODEL_FETCH_COMPLETE. -/
def modelLoad (aseq : Nat) (sig : Bool) (d : Dev) : Dev :=
  d.cmd aseq 0x0405 fun j d =>
    let s := bits (j.w 4) 7 0
    let mask := j.tileMask 5
    let m := d.model s
    if d.modelReach j m = false then d.modelRefused aseq St.notPermitted
    else if m.state ≠ msCached ∨ m.job.isSome then d.modelRefused aseq St.modelState
    else
      let k := imageCheck m (sig && d.modelKey m.burgee) j.burgee
      if checkStatus k ≠ 0 then d.modelRefused aseq (checkStatus k) k
      else if (maskTiles mask).length ≠ m.tiles then d.modelRefused aseq St.cmdParam
      else
        let st := d.placeStatus s mask s
        if st ≠ 0 then d.modelRefused aseq st
        else match d.freeTrig mask with
          | none => d.modelRefused aseq St.trigBusy
          | some t => (d.takeReady s t mask aseq).beginLoad s

/-- The argument of a serve program (R343). -/
def serveArg (ready k slot : Nat) : Nat := ready + k * 2 ^ 24 + slot * 2 ^ 32

/-- A tile gets its section: zeros in the state and work areas, RX1 with values that the manual does not give, and
the launch of ENTRY. -/
def Dev.loadTile (d : Dev) (s t k : Nat) : Dev :=
  let m := d.model s
  match m.sections[k]? with
  | none => d
  | some x =>
    let top := x.sram + x.len
    let d := d.sramWrite t x.sram (m.image.readN (256 * x.off) x.len)
    let d := d.sramWrite t top (List.replicate (m.users * m.stateB + m.workB) 0)
    let base := d.free % sramBytes
    let d := d.usedFree
    let slot := d.free % 65536
    let d := d.usedFree
    let n := d.free % 65536
    let d := d.usedFree
    let d := d.modTile t fun y => { y with rx1 := { base := base, slot := slot, n := n } }
    let id := d.free % 2 ^ 32
    (d.usedFree.launch t { entry := x.entry, arg := serveArg (m.ready.getD 0) k s, id := id
                           burgee := m.burgee, slot := some s }).1

/-- EPOCH advanced, skipping 0, and the one before. -/
def nextEpoch (e : Nat) : Nat := if e % 256 = 255 then 1 else e % 256 + 1
def prevEpoch (e : Nat) : Nat := if e ≤ 1 then 255 else e - 1

/-- MODEL_LOAD_SECTIONS_WRITTEN: slot `s`. -/
def modelLoadSectionsWritten (s : Nat) (d : Dev) : Dev :=
  let m := d.model s
  if m.state ≠ msLoading ∨ m.loading = false then d
  else
    let d := d.setModel s { m with loading := false, epoch := nextEpoch m.epoch, prevTill := none }
    (d.each (maskTiles m.mask).zipIdx fun d (x : Nat × Nat) => d.loadTile s x.1 x.2).syncModels

/-! ### Leaving the tiles (R343 to R345, R360) -/

/-- The serve programs of a slot stopped: its tiles are IDLE, or PARKED at OP3. -/
def Dev.stopServe (d : Dev) (s : Nat) : Dev :=
  d.each (maskTiles (d.model s).mask) fun d t =>
    if d.tileState t = tsRunning ∨ d.tileState t = tsParked then
      let d := { d with time := { d.time with
        slotReady := d.time.slotReady.filter fun i => i.act ≠ SlotAct.block t && i.act ≠ SlotAct.launch t } }
      let st := if d.tileState t = tsParked then tsParked else tsIdle
      (d.setTile t {}).setTileState t st
    else d

/-- MODEL_SWAP. -/
def modelSwap (aseq : Nat) (sig : Bool) (d : Dev) : Dev :=
  d.cmd aseq 0x0406 fun j d =>
    let o := bits (j.w 4) 7 0
    let i := bits (j.w 5) 7 0
    let out := d.model o
    let inn := d.model i
    if (d.modelReach j out && d.modelReach j inn) = false then d.modelRefused aseq St.notPermitted
    else if out.state ≠ msResident ∨ inn.state ≠ msCached ∨ inn.job.isSome ∨ out.tiles < inn.tiles then
      d.modelRefused aseq St.modelState
    else
      let k := imageCheck inn (sig && d.modelKey inn.burgee) j.burgee
      if checkStatus k ≠ 0 then d.modelRefused aseq (checkStatus k) k
      else
        let mask := maskOf ((maskTiles out.mask).take inn.tiles)
        let st := d.placeStatus i mask o
        if st ≠ 0 then d.modelRefused aseq st
        else match d.freeTrig mask with
          | none => d.modelRefused aseq St.trigBusy
          | some t =>
            let d := d.takeReady i t mask aseq
            ((d.setModel o { d.model o with state := msDraining, park := bitOf (j.w 6) 0
                                            incoming := some i }).count 0x0E o 2 5).syncModels

/-- MODEL_MOVE. -/
def modelMove (aseq : Nat) (d : Dev) : Dev :=
  d.cmd aseq 0x0407 fun j d =>
    let s := bits (j.w 4) 7 0
    let mask := j.tileMask 5
    let m := d.model s
    if m.state ≠ msResident then d.modelRefused aseq St.modelState
    else if (maskTiles mask).length ≠ m.tiles then d.modelRefused aseq St.cmdParam
    else
      let st := d.placeStatus s mask s
      if st ≠ 0 then d.modelRefused aseq st
      else match d.freeTrig mask with
        | none => d.modelRefused aseq St.trigBusy
        | some t =>
          let d := d.takeReady s t mask aseq
          (d.setModel s { d.model s with state := msDraining, park := true, incoming := some s
                                         moving := true }).syncModels

/-- Sessions of a slot by state. -/
def Model.sessIn (m : Model) (st : Nat) : List Nat := sortBy (fun k => k) ((m.sess.filter fun x => x.2.state = st).map Prod.fst)

/-- MODEL_MOVE_STUB_EXPIRY: STUB_MIN after a move (R345). -/
def modelMoveStubExpiry (s : Nat) (d : Dev) : Dev :=
  let m := d.model s
  match m.prevTill with
  | some t => if t ≤ d.now then d.setModel s { m with prevTill := none } else d
  | none => d

/-- MODEL_EVICT (R340, R360). -/
def modelEvict (aseq : Nat) (d : Dev) : Dev :=
  d.cmd aseq 0x0408 fun j d =>
    let s := bits (j.w 4) 7 0
    let m := d.model s
    if d.modelReach j m = false then d.complete aseq St.notPermitted
    else if m.state = msLoading ∨ m.state = msDraining ∨ m.job.isSome ∨ m.fetch.isSome then
      d.complete aseq St.modelState
    else if m.state = msEmpty then d.complete aseq St.ok
    else
      let d := (d.loseSessions s).stopServe s
      let d := d.each ((d.model s).sessIn 2) fun d i => d.dropRequests s i
      let keep := ((d.model s).sess.filter fun x => x.2.late != []).map fun (x : Nat × Session) => (x.1, { x.2 with state := 0 })
      ((d.setModel s { sess := keep }).syncModels).complete aseq St.ok

/-! ### The choice of a token (R355, R451) -/

/-- The order of FP32 values: −0 and +0 are equal. -/
def key32 (w : Nat) : Int := if bitOf w 31 then -((w % 2 ^ 31 : Nat) : Int) else ((w % 2 ^ 31 : Nat) : Int)

/-- A logit and its token put into a list in descending order, after those that are equal. -/
def putLogit (x : Int × Nat) : List (Int × Nat) → List (Int × Nat)
  | [] => [x]
  | y :: t => if y.1 < x.1 then x :: y :: t else y :: putLogit x t

/-- The `k` largest logits with their tokens, in descending order, ties to the lower token. -/
def topLogits (k : Nat) (ls : List Nat) : List Nat :=
  (ls.zipIdx.foldl (fun (a : List (Int × Nat)) (x : Nat × Nat) => (putLogit (key32 x.1, x.2) a).take k) []).map
    Prod.snd

/-- One FP32 operation. -/
def mul32 (a b : Nat) : Nat := round32 ((of32 a).mul (of32 b)) true
def sub32 (a b : Nat) : Nat := round32 (exactSum [of32 a, (of32 b).negate]) true
def less32 (a b : Nat) : Bool := !(of32 a).isNan && !(of32 b).isNan && decide (key32 a < key32 b)

/-- The cumulative sums of weights, in order. -/
def runSums : Nat → List Nat → List Nat
  | _, [] => []
  | s, w :: ws => let t := add32 s w true; t :: runSums t ws

/-- The token for a row (R355, R451): none where the manual gives none, for logits that are missing or hold NaN. -/
def pickToken (g : Gen) (pos : Nat) (ls : List Nat) : Option Nat :=
  if ls = [] ∨ ls.any fun l => (of32 l).isNan then none
  else if g.topK = 0 then (topLogits 1 ls).head?
  else
    let cs := topLogits g.topK ls
    let inv := round32 (oneVal.div (of32 (g.temp * 65536 % 2 ^ 32))) true
    let l0 := nth ls (cs.headD 0)
    let ws := cs.map fun c => approxLane 0 0 true (mul32 (mul32 (sub32 (nth ls c) l0) inv) (round32 log2eVal false))
    let sums := match ws with
      | [] => []
      | w :: t => w :: runSums w t
    let u := uniform32 (cg32 g.seed pos)
    let lim := mul32 u (sums.getLastD 0)
    ((cs.zip sums).find? fun (x : Nat × Nat) => less32 lim x.2).map Prod.fst

/-! ### MODEL_STEP (R348, R353 to R356, R360) -/

def maxPos : Nat := 2 ^ 24

/-- The window cache bytes of a position written into a session's ring. -/
def Model.putKv (m : Model) (x : Session) (pos : Nat) (kv : List Nat) : Session :=
  if m.window = 0 then x
  else { x with window := x.window.writeN (pos % m.window * m.kvB) ((kv ++ List.replicate m.kvB 0).take m.kvB) }

/-- One generated token: its record, position and counts; answers the flags and the status of an end. -/
def Dev.genRow (d : Dev) (s i : Nat) (ls kv : List Nat) : Dev × Nat × Nat :=
  let m := d.model s
  let x := m.session i
  match x.gen with
  | none => (d, 0, 0)
  | some g =>
    let pos := x.nextPos
    let (tok, d) := match pickToken g pos ls with
      | some t => (t, d)
      | none => (d.free % 2 ^ 32, d.usedFree)
    let made := g.made + 1
    let full := decide (maxPos ≤ pos + 1)
    let stop := g.stop != 0xFFFFFFFF && tok = g.stop
    let last := decide (g.maxNew ≤ made)
    let x := m.putKv { x with nextPos := pos + 1, gen := some { g with made := made, recs := g.recs ++ [(tok, pos)] } } pos kv
    let flags := (if stop then flStop else 0) + (if last || full then flMax else 0)
    ((d.setSession s i x).count 0x0E s 2 2, flags, if full && !last && !stop then St.serveLimit else St.ok)

/-- The rows of a generating session: up to ROWS of them, until its generation ends. -/
def Dev.genRows (d : Dev) (s i : Nat) (o : SessOut) : Nat → Nat → Dev × Nat × Nat
  | 0, _ => (d, 0, 0)
  | n + 1, r =>
    let (d', fl, st) := d.genRow s i (o.logits.getD r []) (o.kv.getD r [])
    if fl ≠ 0 then (d', fl, st) else d'.genRows s i o n (r + 1)

/-- The end of a step for a session whose GENERATE runs: its end, or a delivery when one is due. -/
def Dev.genStep (d : Dev) (s i fl st : Nat) : Dev :=
  let x := d.session s i
  match x.gen with
  | none => d
  | some g =>
    match g.closeTag with
    | some tag =>
      let d := ((d.set R.THD_SERVEERR_LOST_SEEN).endGen s i St.serveSessionLost (fl + flLost)).dropRequests s i
      let y := d.session s i
      (d.setSession s i { y with state := 0 }).answer s i tag 9 St.ok 0
    | none =>
      if fl ≠ 0 then d.endGen s i st fl
      else if g.cancel then d.endGen s i St.ok flCancelled
      else
        let n := g.steps + 1
        if n < max 1 x.deliver then d.setSession s i { x with gen := some { g with steps := n } }
        else
          let d := (d.deliver256 s i g.tag 0 g.recs).1
          let y := d.session s i
          d.setSession s i { y with gen := some { g with steps := 0, recs := [] } }

/-- The GENERATEs of sessions that only wait for CANCEL or CLOSE, with the step in hand over, end. -/
def Dev.endWaiting (d : Dev) (s : Nat) (is : List Nat) : Dev :=
  d.each is fun d i =>
    match (d.session s i).gen with
    | some g => if g.cancel || g.closeTag.isSome then d.genStep s i 0 0 else d
    | none => d

/-- The first waiting token of a session processed (R356), whose APPENDs are answered as they finish. -/
def Dev.appendRow (d : Dev) (s i : Nat) (kv : List Nat) : Dev :=
  let m := d.model s
  let x := m.session i
  match x.apps with
  | [] => d
  | a :: rest =>
    let left := a.left.drop 1
    let y := m.putKv { x with nextPos := x.nextPos + 1
                              apps := if left = [] then rest else { a with left := left } :: rest } x.nextPos kv
    let d := (d.setSession s i y).count 0x0E s 2 3
    if left = [] then d.answer s i a.tag 2 St.ok 0 else d

/-- The tokens waiting in a slot, as session and request number, in order of their requests' arrival. -/
def Model.waiting (m : Model) : List Nat :=
  let reqs := m.sess.flatMap fun (x : Nat × Session) =>
    if x.2.state = 1 then x.2.apps.map fun (a : AppendReq) => (a.seq, x.1, a.left.length) else []
  (sortBy Prod.fst reqs).flatMap fun r => List.replicate r.2.2 r.2.1

/-- MODEL_STEP: slot `s` runs one step of `dur` ns, whose results are `out`. -/
def modelStep (s dur : Nat) (out : List SessOut) (d : Dev) : Dev :=
  let m := d.model s
  let gens := (m.sessIn 1).filter fun i => (m.session i).gen.isSome
  let run := gens.filter fun i => (m.session i).apps = []
  let rows := m.waiting.take (128 - m.rows * gens.length)
  if (m.state ≠ msResident ∧ m.state ≠ msDraining) ∨ d.rd R.PWR_OPSTAT_OP_CUR = 3 ∨ (rows = [] ∧ run = []) then d
  else
    let of (i : Nat) : SessOut := (out.find? fun (o : SessOut) => o.sess = i).getD { sess := i }
    let d := (d.count 0x0E s 2 0).count 0x0E s 2 1 (rows.length + m.rows * run.length)
    let d := d.setModel s { m with stepLast := dur % 2 ^ 32, stepMax := max m.stepMax (dur % 2 ^ 32)
                                   steps := min (2 ^ 32 - 1) (m.steps + 1) }
    let d := d.each rows.zipIdx fun d (x : Nat × Nat) =>
      let n := ((rows.take x.2).filter fun i => i = x.1).length
      d.appendRow s x.1 ((of x.1).kv.getD n [])
    let d := d.each run fun d i =>
      let (d, fl, st) := d.genRows s i (of i) m.rows 0
      d.genStep s i fl st
    (d.endWaiting s (gens.filter fun i => !(run.contains i))).syncModels

/-- MODEL_SWAP_STEP_DRAINED: the step in hand of slot `s` is over; its sessions are parked or lost, its programs
stop, and the load of the next model begins. -/
def modelSwapStepDrained (s : Nat) (d : Dev) : Dev :=
  let m := d.model s
  match if m.state = msDraining then m.incoming else none with
  | some i =>
    let d := d.endWaiting s (m.sessIn 1)
    let d := if m.park then d.each (m.sessIn 1) fun d n => d.parkSession s n else d.loseSessions s
    let d := d.each (m.sessIn 3) fun d n => d.loseSession s n
    let d := d.stopServe s
    let m := d.model s
    let m := { m with state := msCached, mask := 0, incoming := none, park := false }
    let d := d.setModel s (if i = s then { m with resume := m.sessIn 2 } else m)
    d.beginLoad i
  | none => d

end Sys2Proof.Machine
end

