-- ==== Sys2Proof/Machine/Serve.lean ====
section
/-! DEFINITION. Requests to resident models (spec/12, R345 to R355, R360; spec/14, R398). -/

namespace Sys2Proof.Machine

/-- A request as the serve path takes it (R349, R350): where it came in, its source, burgee, TAG, opcode and fields,
the words of its payload, and the tokens of an APPEND. -/
structure SReq where
  ing : Nat
  src : Nat
  burgee : Nat
  tag : Nat
  op : Nat
  model : Nat
  sess : Nat
  pos : Nat
  epoch : Nat
  arg : Nat
  w : List Nat
  tokens : List Nat
  deriving DecidableEq, Repr

/-- The request that a SERVE pennant carries. -/
def reqOf (k : Packet) (ing : Nat) : SReq :=
  let w := wordsBE k.payload (k.len / 4)
  { ing := ing, src := k.src, burgee := k.burgee, tag := k.tag, op := k.opcode, model := k.arg5 / 65536
    sess := k.arg5 % 65536, pos := k.arg6 / 256, epoch := k.arg6 % 256, arg := k.arg7, w := w, tokens := w }

/-- The APPEND that a SERVE_DATA streamer carries: its payload is 4 B a token, least significant byte first. -/
def reqOfStream (k : Packet) (ing : Nat) : SReq :=
  let n := k.payload.length / 4
  { ing := ing, src := k.src, burgee := k.burgee, tag := k.tag, op := 2, model := k.collId / 65536
    sess := k.collId % 65536, pos := k.offset / 4, epoch := 0, arg := 0, w := []
    tokens := (List.range n).map fun i => ofLE ((k.payload.drop (4 * i)).take 4) }

/-- A refusal of a request (R352). -/
def Dev.refuseReq (d : Dev) (r : SReq) (slot : Option Nat) (status : Nat) : Dev :=
  let np := match slot with
    | some s => (d.session s r.sess).nextPos
    | none => 0
  let d := d.sendRsp r.ing r.src r.burgee r.tag r.op r.sess status np 0
  match slot with
  | some s => d.count 0x0E s 1 (status % 256)
  | none => d

/-- The slot that a MODEL_ID names: a RESIDENT one first, or one that is on its way to or from the tiles. -/
def Dev.modelById (d : Dev) (id : Nat) : Option Nat :=
  let byState (st : Nat) : Option Nat := (d.models.find? fun x => x.2.state = st && x.2.id = id).map Prod.fst
  match byState msResident with
  | some s => some s
  | none => match byState msDraining with
    | some s => some s
    | none => byState msLoading

/-- The TAGs of requests in progress on a session. -/
def Session.openTags (x : Session) : List Nat :=
  (match x.gen with
    | some g => g.tag :: (match g.closeTag with
      | some t => [t]
      | none => [])
    | none => []) ++ x.apps.map (fun (a : AppendReq) => a.tag) ++ x.late.map (fun (l : LateAns) => l.tag)
    ++ (match x.storing with
      | some (t, _, _) => [t]
      | none => [])

/-- The lowest free session slot (R351, R352 test 4). -/
def Model.freeSession (m : Model) : Option Nat :=
  if m.freeSlot.isNone then none
  else (List.range m.users).find? fun i => (m.session i).state = 0 && (m.session i).late = []

/-- Whether a request finds its session open: a parked one is open to RESUME, PARK, CANCEL, SNAPSHOT and CLOSE. -/
def sessOpen (x : Session) (op : Nat) : Bool :=
  x.state = 1 || (x.state = 2 && (op = 4 || op = 5 || op = 6 || op = 7 || op = 9))

/-- The session of an OPEN or RESTORE that has been made before with this TAG from this source. -/
def Model.openedBy (m : Model) (r : SReq) : Option Nat :=
  (m.sess.find? fun x => x.2.state != 0 && x.2.owner = r.src && x.2.burgee = r.burgee
    && ((match x.2.last with
      | some (t, o, _, _) => t = r.tag && o = r.op
      | none => false) || (match x.2.storing with
      | some (t, o, _) => t = r.tag && o = r.op
      | none => false))).map Prod.fst

/-- The tests of R352 from the first that names a session; `f` is the effect on the session, with its slot. -/
def Dev.testSession (d : Dev) (r : SReq) (s : Nat) (f : Nat → Session → Dev → Dev) : Dev :=
  let m := d.model s
  let opens := r.op = 1 ∨ r.op = 8
  let again := if opens then m.openedBy r else none
  let i := again.getD r.sess
  let x := m.session i
  let mine := x.owner = r.src ∧ x.burgee = r.burgee
  if r.burgee ≠ m.burgee ∨ (¬opens ∧ x.state ≠ 0 ∧ ¬mine) then d.refuseReq r (some s) St.notPermitted
  else if opens ∧ again.isNone then
    match m.freeSession with
    | none => d.refuseReq r (some s) St.serveNoSession
    | some n => f n {} d
  else if ¬opens ∧ (m.users ≤ r.sess ∨ sessOpen x r.op = false) then d.refuseReq r (some s) St.serveNoSession
  else if x.openTags.contains r.tag then d
  else match x.last.filter fun (l : Nat × Nat × Nat × Nat) => l.1 = r.tag with
    | some (tag, op, status, made) =>
      (d.sendRsp r.ing r.src r.burgee tag op i status x.nextPos made).count 0x0E s 1 (status % 256)
    | none =>
      let busy := x.gen.isSome ∧ r.op ≠ 4 ∧ r.op ≠ 9 ∧ ¬(r.op = 6 ∧ x.state = 2)
      let many := r.op = 3 ∧ 128 / m.rows ≤ (m.sess.filter fun y => y.2.gen.isSome).length
      if busy ∨ many ∨ ((r.op = 5 ∨ r.op = 7) ∧ (x.apps ≠ [] ∨ x.storing.isSome)) then
        d.refuseReq r (some s) St.serveBusy
      else f i x d

/-- The tests of R352 up to the session. -/
def Dev.testReq (d : Dev) (r : SReq) (f : Nat → Nat → Session → Dev → Dev) : Dev :=
  match d.modelById r.model with
  | none => d.refuseReq r none St.serveNoModel
  | some s =>
    let m := d.model s
    let d := d.count 0x0E s 0 r.op
    if m.state ≠ msResident then d.refuseReq r (some s) St.serveBusy
    else
      let old := r.epoch = prevEpoch m.epoch ∧ m.prevTill.any fun t => decide (d.now < t)
      if r.epoch ≠ 0 ∧ r.epoch ≠ m.epoch ∧ ¬old then
        let d := d.set R.THD_SERVEERR_STALE_SEEN
        let k : Packet := { pclass := 1, burgee := r.burgee, dst := d.devFeid, src := r.src, tag := r.tag, typ := 5
                            opcode := r.op, arg5 := r.model * 65536 + r.sess, arg6 := r.pos * 256 + r.epoch }
        d.record (quadOf r.ing) (d.pktRec k 0 r.ing rStaleEpoch 0x0E s)
      else d.testSession r s (f s)

/-- A request that a tile's attach point holds whole: taken, and the packet released. -/
def Dev.takeReq (d : Dev) (pid : Nat) (p : Packet → Bool) : Option (Packet × Nat × Dev) :=
  match d.pkt? pid with
  | none => none
  | some s =>
    if p s.pkt = false ∨ d.rd R.PWR_OPSTAT_OP_CUR = 3 then none
    else match s.holders.find? fun h => !(isPort h.eg) && decide (h.tgt < 64) with
      | none => none
      | some h => match d.takeWhole h.eg pid h.tgt with
        | none => none
        | some (s, h, d) => some (s.pkt, h.eg, (d.release pid h).retryOut)

/-- A SERVE pennant of an opcode taken, tested and carried out. -/
def Dev.serve (d : Dev) (pid op : Nat) (f : SReq → Nat → Nat → Session → Dev → Dev) : Dev :=
  match d.takeReq pid fun k => k.pclass = 1 && k.typ = 5 && k.opcode = op with
  | none => d
  | some (k, ing, d) => let r := reqOf k ing; d.testReq r (f r)

/-- SERVE_OPEN. -/
def serveOpen (pid : Nat) (d : Dev) : Dev :=
  d.serve pid 1 fun r s i _ d =>
    let x : Session :=
      { state := 1, owner := r.src, burgee := r.burgee, region := r.arg, base := nth r.w 0 * 2 ^ 32 + nth r.w 1
        trig := bits (nth r.w 2) 31 15, trigV := bitOf (nth r.w 2) 14, nslot := bits (nth r.w 3) 15 0
        deliver := bits (nth r.w 3) 19 16, slotNo := (d.model s).freeSlot.getD 0 }
    ((d.setSession s i x).answer s i r.tag 1 St.ok 0).syncModels

/-- Tokens waiting on a session. -/
def Session.queued (x : Session) : Nat := x.apps.foldl (fun n (a : AppendReq) => n + a.left.length) 0

/-- An APPEND accepted or refused by test 7 of R352. -/
def Dev.append (d : Dev) (r : SReq) (s i : Nat) (x : Session) : Dev :=
  let m := d.model s
  let at_ := x.nextPos + x.queued
  if r.pos ≠ at_ then d.refuseReq r (some s) St.servePosition
  else if maxPos < at_ + r.tokens.length then d.refuseReq r (some s) St.serveLimit
  else if r.tokens = [] then d.answer s i r.tag 2 St.ok 0
  else
    let a : AppendReq := { tag := r.tag, left := r.tokens, seq := m.arr }
    (d.setModel s { m with arr := m.arr + 1 }).setSession s i { x with apps := x.apps ++ [a] }

/-- SERVE_APPEND. -/
def serveAppend (pid : Nat) (d : Dev) : Dev := d.serve pid 2 fun r s i x d => d.append r s i x

/-- SERVE_GENERATE. -/
def serveGenerate (pid : Nat) (d : Dev) : Dev :=
  d.serve pid 3 fun r s i x d =>
    let m := d.model s
    let maxNew := r.arg / 256
    if r.pos ≠ (x.nextPos + x.queued) % 2 ^ 24 ∨ maxPos ≤ x.nextPos + x.queued then
      d.refuseReq r (some s) (if maxPos ≤ x.nextPos + x.queued then St.serveLimit else St.servePosition)
    else if x.nslot * x.deliver * m.rows < maxNew then d.refuseReq r (some s) St.serveLimit
    else
      let g : Gen := { tag := r.tag, maxNew := maxNew, topK := r.arg % 256, temp := bits (nth r.w 0) 31 16
                       stop := nth r.w 1, seed := nth r.w 2 * 2 ^ 32 + nth r.w 3 }
      d.setSession s i { x with gen := some g }

/-- SERVE_CANCEL: the GENERATE ends after the step in hand. -/
def serveCancel (pid : Nat) (d : Dev) : Dev :=
  d.serve pid 4 fun r s i x d =>
    let d := match x.gen with
      | some g => d.setSession s i { x with gen := some { g with cancel := true } }
      | none => d
    d.answer s i r.tag 4 St.ok 0

/-- SERVE_PARK. -/
def servePark (pid : Nat) (d : Dev) : Dev :=
  d.serve pid 5 fun r s i x d =>
    (if x.state = 1 then d.parkSession s i else d).answer s i r.tag 5 St.ok 0

/-- SERVE_RESUME: a session whose parked state has been lost is freed (R376). -/
def serveResume (pid : Nat) (d : Dev) : Dev :=
  d.serve pid 6 fun r s i x d =>
    if x.state = 1 then d.answer s i r.tag 6 St.ok 0
    else if x.dead then
      let d := (d.setSession s i { x with state := 1 }).loseSession s i
      (d.answer s i r.tag 6 St.serveSessionLost 0).syncModels
    else match d.unparkSession s i with
      | (d, true) => d.answer s i r.tag 6 St.ok 0
      | (d, false) => d.refuseReq r (some s) St.serveNoSession

/-- SERVE_CLOSE: a GENERATE that runs ends first, after the step in hand (R360). -/
def serveClose (pid : Nat) (d : Dev) : Dev :=
  d.serve pid 9 fun r s i x d =>
    match x.gen with
    | some g =>
      if x.state = 1 then
        (d.dropRequests s i).setSession s i { (d.dropRequests s i).session s i with gen := some { g with closeTag := some r.tag } }
      else
        let d := d.setSession s i { x with state := 1, gen := some { g with closeTag := some r.tag } }
        (d.loseSession s i).syncModels
    | none =>
      let d := d.dropRequests s i
      let y := d.session s i
      ((d.setSession s i { y with state := 0, parked := [], window := [] }).answer s i r.tag 9 St.ok 0).syncModels

/-- SERVE_DATA_APPEND: a SERVE_DATA streamer with REGION 0. -/
def serveDataAppend (pid : Nat) (d : Dev) : Dev :=
  match d.takeReq pid fun k => k.pclass = 2 && k.typ = 4 && k.region = 0 with
  | none => d
  | some (k, ing, d) =>
    let r := reqOfStream k ing
    if (d.models.any fun x => x.2.state != msEmpty && x.2.id = r.model) = false then
      d.record (quadOf ing) (d.pktRec k 2 ing rRegionFault 0x0E 0)
    else d.testReq r fun s i x d => d.append r s i x

/-! ### Snapshots (R398) -/

/-- Bytes of a snapshot with `n` live window entries. -/
def Model.snapBytes (m : Model) (n : Nat) : Nat := 4096 + m.tiles * m.stateB + n * m.kvB
def Model.live (m : Model) (nextPos : Nat) : Nat := min nextPos m.window

/-- The header of a snapshot (assumption log, row 33). -/
def snapHeader (m : Model) (x : Session) : List Nat :=
  ([m.id, x.nextPos, x.region, x.base / 2 ^ 32, x.base % 2 ^ 32, x.trig * 2 ^ 15 + b2n x.trigV * 2 ^ 14,
    x.nslot + x.deliver * 2 ^ 16].flatMap (bytesLE 4))

/-- The state of a session by relative tile, wherever it is. -/
def Dev.sessState (d : Dev) (s : Nat) (x : Session) : List (List Nat) :=
  let m := d.model s
  if x.state = 2 then x.parked
  else (maskTiles m.mask).zipIdx.map fun (tk : Nat × Nat) =>
    (d.sramOf tk.1).readN (m.stateAt tk.2 x.slotNo) m.stateB

/-- The bytes of a snapshot: header, state, and the live window entries in the order of their positions. -/
def Dev.snapMem (d : Dev) (s : Nat) (x : Session) : Mem :=
  let m := d.model s
  let n := m.live x.nextPos
  let im := Mem.writeN [] 0 (snapHeader m x)
  let im := (d.sessState s x).zipIdx.foldl (fun (im : Mem) (b : List Nat × Nat) =>
    im.writeN (4096 + b.2 * m.stateB) b.1) im
  (List.range n).foldl (fun (im : Mem) k =>
    let pos := x.nextPos - n + k
    im.writeN (4096 + m.tiles * m.stateB + k * m.kvB) (x.window.readN (pos % m.window * m.kvB) m.kvB)) im

/-- The object that a SNAPSHOT or RESTORE names, tested. -/
def Dev.snapObj (d : Dev) (r : SReq) (state : Nat) : Except Nat Obj :=
  let g := d.storeGate
  if g ≠ St.ok then .error g
  else match d.obj? r.arg with
    | none => .error St.objUnknown
    | some o =>
      if o.kind ≠ 3 ∨ o.state ≠ state then .error St.objState
      else if o.burgee ≠ r.burgee then .error St.notPermitted
      else .ok o

/-- SERVE_SNAPSHOT. -/
def serveSnapshot (pid : Nat) (d : Dev) : Dev :=
  d.serve pid 7 fun r s i x d =>
    let m := d.model s
    let n := m.snapBytes (m.live x.nextPos)
    match d.snapObj r 1 with
    | .error e => d.answer s i r.tag 7 e 0
    | .ok o =>
      if o.size < n then d.answer s i r.tag 7 St.objRange 0
      else match d.startWrite (.snap s i) r.arg 0 n none 0 (d.snapMem s x) with
        | (d, e) =>
          if e ≠ St.ok then d.answer s i r.tag 7 e 0
          else d.setSession s i { d.session s i with storing := some (r.tag, 7, r.arg) }

/-- SERVE_RESTORE. -/
def serveRestore (pid : Nat) (d : Dev) : Dev :=
  d.serve pid 8 fun r s i _ d =>
    let m := d.model s
    match d.snapObj r 2 with
    | .error e => d.refuseReq r (some s) e
    | .ok o =>
      let np := mdlWord o.data 1
      let n := m.snapBytes (m.live np)
      if mdlWord o.data 0 ≠ m.id then d.refuseReq r (some s) St.objState
      else if o.size < n then d.refuseReq r (some s) St.objRange
      else if maxPos < np then d.refuseReq r (some s) St.serveLimit
      else
        let d := d.wakeStore
        let d := d.setSession s i { state := 3, owner := r.src, burgee := r.burgee, slotNo := m.freeSlot.getD 0
                                    storing := some (r.tag, 8, r.arg) }
        (d.startRead (.restore s i) r.arg 0 n none 0).syncModels

/-- A session that its snapshot opens again. -/
def Dev.restored (d : Dev) (s i : Nat) (im : Mem) : Dev :=
  let m := d.model s
  let x := d.session s i
  let w := mdlWord im
  let np := w 1
  let n := m.live np
  let win := (List.range n).foldl (fun (b : Mem) k =>
    let pos := np - n + k
    b.writeN (pos % m.window * m.kvB) (im.readN (4096 + m.tiles * m.stateB + k * m.kvB) m.kvB)) []
  let d := d.each (maskTiles m.mask).zipIdx fun d (tk : Nat × Nat) =>
    d.sramWrite tk.1 (m.stateAt tk.2 x.slotNo) (im.readN (4096 + tk.2 * m.stateB) m.stateB)
  d.setSession s i { x with state := 1, nextPos := np, region := w 2, base := w 3 * 2 ^ 32 + w 4
                            trig := bits (w 5) 31 15, trigV := bitOf (w 5) 14, nslot := bits (w 6) 15 0
                            deliver := bits (w 6) 19 16, window := win, storing := none }

/-- The object of a snapshot sealed (R389, R398): its remaining units are programmed first. -/
def Dev.sealSnap (d : Dev) (h : Nat) : Dev × Bool :=
  match d.obj? h with
  | none => (d, true)
  | some o =>
    if o.state ≠ 1 then (d, true)
    else
      let us := List.range (unitsOfSize o.size)
      if us.all o.programmed.contains then ((d.setObj h { o with state := 2 }).syncStore, true)
      else
        let left := us.filter fun u => !(d.unitIssued h u) && !(d.store.assembly.contains ⟨h, u⟩)
        ((d.setObj h { o with ranges := [(0, o.size)] }).assemble (left.map fun u => ⟨h, u⟩), false)

/-- SERVE_STORE_OP_COMPLETE: the transfer of a session's SNAPSHOT or RESTORE is over. -/
def serveStoreOpComplete (s i : Nat) (d : Dev) : Dev :=
  let x := d.session s i
  match x.storing, d.store.jobs.find? fun j => (j.src = StoreSrc.snap s i || j.src = StoreSrc.restore s i) && j.ended with
  | some (tag, op, h), some j =>
    match j.failed with
    | some e =>
      let d := d.delJob j.id
      let st := if op = 8 then 0 else x.state
      (((d.answer s i tag op e 0).setSession s i
        { (d.answer s i tag op e 0).session s i with storing := none, state := st })).syncModels
    | none =>
      if op = 8 then (((d.delJob j.id).restored s i j.data).answer s i tag 8 St.ok 0).syncModels
      else match d.sealSnap h with
        | (d, false) => d
        | (d, true) =>
          let y := d.session s i
          ((d.delJob j.id).setSession s i { y with storing := none }).answer s i tag 7 St.ok 0
  | _, _ => d

end Sys2Proof.Machine
end

