-- ==== Sys2Proof/Machine/Thidan.lean ====
section
/-! DEFINITION. Thidan: the opcodes with their roles and parameter layouts, packets accepted on the three routes,
taken, checked and begun, and the commands on channels (spec/15, R410 to R441; spec/17, R471; spec/18, R506;
spec/20, R538, R555; spec/21, R571). -/

namespace Sys2Proof.Machine

/-! ### Opcodes (R441) -/

/-- All bits of a word, and that many words of them. -/
def fullW : Nat := 0xFFFFFFFF
def full (n : Nat) : List Nat := List.replicate n fullW

/-- Role masks: bit 0 TENANT, 1 OWNER, 2 FM, 3 BMC. -/
def roleA : Nat := 15
def roleO : Nat := 2
def roleOF : Nat := 6
def roleOFT : Nat := 7
def roleOB : Nat := 10
def roleOFB : Nat := 14

/-- The parameter words of a TEL_CFG subop (R518). -/
def telLayout (subop : Nat) : List Nat :=
  0xF :: (if subop = 0 then 0x7FF :: full 8
    else if subop = 1 then [3, 0x1FF] ++ full 6
    else if subop = 2 then [3] ++ full 4 ++ [1]
    else if subop = 3 then 0x7FFF :: full 2
    else if subop = 4 then 0xFFFF :: full 4
    else if subop = 5 then full 16 ++ [0x1F01]
    else if subop = 6 ∨ subop = 7 then [3] ++ full 6
    else full 27)

/-- The parameter words of a BUNTING_CFG subop (R525). -/
def buntLayout (subop : Nat) : List Nat :=
  0x01FF000F :: (if subop = 0 then [0xFFF3FFFF] else if subop = 3 then full 5
    else if subop = 1 ∨ subop = 2 ∨ subop = 4 then [] else full 27)

/-- The roles that an opcode permits and, from word 4 on, the bits that its layout uses; none for an opcode that
R441 does not list.  `w4` is word 4. -/
def opInfo (op w4 : Nat) : Option (Nat × List Nat) :=
  if op = 0x0001 then some (roleA, full 28)
  else if op = 0x0002 then some (roleA, [])
  else if op = 0x0003 then some (roleA, [0xFFFF])
  else if op = 0x0004 then some (roleO, [0x7F, 0xFF0FFFFF, 0xFF800000])
  else if op = 0x0005 then some (roleO, [])
  else if op = 0x0006 then some (roleA, full 1)
  else if op = 0x0101 then some (roleOF, [7])
  else if op = 0x0102 then some (roleOFB, full 3 ++ [0xFFFF, 3])
  else if op = 0x0103 then some (roleOF, [fullW, 3])
  else if op = 0x0201 then some (roleOF, full 4 ++ [0x3F] ++ full 2)
  else if op = 0x0202 then some (roleOF, [0x7FF])
  else if op = 0x0203 then some (4, [0x3FF])
  else if op = 0x0301 then some (roleOFT, [0xFFFF] ++ full 9 ++ [1])
  else if op = 0x0302 then some (roleOFT, [0x1FFFF])
  else if op = 0x0303 then some (roleOFT, [0xFFFF])
  else if op = 0x0304 then some (roleOF, [0xFFFF, fullW, 0x1FFFF])
  else if op = 0x0305 then some (roleOF, [0xFFFF, fullW, 0x7FFFF])
  else if op = 0x0306 then some (roleOFT, [0xFFFF] ++ full 3 ++ [0xFFFFC000])
  else if op = 0x0307 then some (roleOFT, [0xFFFF])
  else if op = 0x0308 then some (roleOFT, [0x1FFFF] ++ full 5 ++ [1])
  else if op = 0x0309 then some (roleOFT, [0x1FFFF])
  else if op = 0x030A then some (roleOFT, [0xFFFFFF80])
  else if op = 0x030B then some (roleOFT, 0x1FFFF :: full 16)
  else if op = 0x030C then some (roleOFT, 0xFFFF :: full 3)
  else if op = 0x030D then some (roleOFT, full 7)
  else if op = 0x030E then some (roleOFT, full 1)
  else if op = 0x0401 then some (roleOFT, [0x3F, 0xFFFFFF] ++ full 2)
  else if op = 0x0402 then some (roleOF, full 2)
  else if op = 0x0403 then some (roleOF, full 2 ++ [3])
  else if op = 0x0404 then some (roleOFT, full 1)
  else if op = 0x0405 then some (roleOFT, 0xFF :: full 2)
  else if op = 0x0406 then some (roleOFT, [0xFF, 0xFF, 1])
  else if op = 0x0407 then some (roleOF, 0xFF :: full 2)
  else if op = 0x0408 then some (roleOFT, [0xFF])
  else if op = 0x0501 then some (roleO, [0x1FF])
  else if op = 0x0502 then some (roleA, [])
  else if op = 0x0503 then some (roleOB, [])
  else if op = 0x0504 then some (roleOFT, 0xF :: full 2)
  else if op = 0x0505 ∨ op = 0x0506 then some (roleOFT, full 7)
  else if op = 0x0507 then some (roleOFT, [fullW, 1])
  else if op = 0x0508 then some (roleOFT, full 1)
  else if op = 0x0509 then some (roleA, full 5)
  else if op = 0x050A then some (roleOFT, 0xFFFF :: full 3)
  else if op = 0x0601 then some (roleOFB, full 4)
  else if op = 0x0602 then some (roleOF, [])
  else if op = 0x0603 then some (roleOFB, 7 :: full 2)
  else if op = 0x0604 then some (roleOF, [fullW, 0x1FF])
  else if op = 0x0701 then some (roleA, telLayout (w4 % 16))
  else if op = 0x0702 then some (roleOF, [0x1F, 0xFFF, 0x3FFFFF, 0x3FF, 0x03FF00FF, 0xFFFFF000, 0x0FFFFFFF])
  else if op = 0x0703 then some (roleOF, buntLayout (w4 % 16))
  else if op = 0x0801 then some (if w4 % 16 = 2 then roleA else roleO, 0xF :: full 4)
  else if op = 0x0802 then some (roleO, 3 :: full 4)
  else if op = 0x0803 then some (roleO, [1, 0x7F])
  else if op = 0x0804 then some (roleOF, [0x1FF, 0x1FF] ++ full 4)
  else if op = 0x0805 then some (roleOB, full 5 ++ [1])
  else if op = 0x0806 then some (roleOB, [1])
  else if op = 0x0901 then some (roleOFT, full 1)
  else if op = 0x0902 then some (roleOF, full 3)
  else none

/-- The opcodes that Thidan carries out while the device is STRUCK (R471). -/
def struckOps : List Nat :=
  [0x0001, 0x0002, 0x0003, 0x0307, 0x0502, 0x0509, 0x0601, 0x0602, 0x0603, 0x0402, 0x0604, 0x0303, 0x0302, 0x0309,
   0x0408, 0x030E, 0x0506, 0x0101, 0x0102, 0x0202, 0x0203, 0x0503, 0x0701, 0x0801, 0x0805, 0x0806]

/-! ### Who answers (R506, R538) -/

/-- Whether packets are accepted: at READY, and after a failed boot for the boot ROM to answer (R506, R538). -/
def Dev.accepts (d : Dev) : Bool := d.bootPhase = bpReady || d.bootPhase = bpFailed

/-! ### The checks of R415 -/

/-- What an unauthenticated OWNER channel carries (R422). -/
def openOps : List Nat := [0x0001, 0x0002, 0x0003, 0x0801]

/-- What the boot ROM carries out on channel 0 (R538). -/
def romOps : List Nat := [0x0001, 0x0002, 0x0805, 0x0806]

/-- The status and DETAIL of the first check that fails, or 0 (R415, R422, R471, R538). -/
def Dev.packetCheck (d : Dev) (ch : Nat) (ws : List Nat) : Nat × Nat :=
  let w (n : Nat) : Nat := nth ws n
  let op := bits (w 0) 15 0
  let role := d.chRole ch
  let burgee := bits (w 2) 31 23
  if bits (w 0) 31 28 ≠ 1 then (St.cmdVersion, 1)
  else match opInfo op (w 4) with
    | none => (St.cmdUnknown, 2)
    | some (roles, lay) =>
      let used (k : Nat) : Nat := nth lay k
      if bits (w 0) 27 24 ≠ 1 then (St.cmdVersion, 1)
      else if bits (w 0) 23 21 ≠ 0 ∨ bits (w 2) 21 0 ≠ 0 ∨ w 3 ≠ 0
          ∨ (List.range 28).any fun k => w (4 + k) &&& (fullW - used k) != 0 then (St.cmdParam, 4)
      else if d.bootPhase = bpFailed then
        (if ch = 0 ∧ romOps.contains op then (0, 0) else (St.devStruck, 6))
      else if bitOf roles role = false ∨ (role = 1 ∧ (d.chan ch).auth = false ∧ !(openOps.contains op))
          ∨ (role = 0 ∧ burgee ≠ d.chBurgee ch) then (St.notPermitted, 5)
      else if d.fltState = 2 ∧ !(struckOps.contains op) then (St.devStruck, 6)
      else (0, 0)

/-! ### Acceptance (R421, R424 to R426) -/

/-- An MSI-X message of EMPTY when it is armed and the inbound FIFO is empty (R428). -/
def Dev.emptyMsg (d : Dev) (ch : Nat) : Dev :=
  if d.on R.MBX_IEN_EMPTY_ARM ch ∧ (d.chan ch).inq = [] then
    (d.clr R.MBX_IEN_EMPTY_ARM ch).emit (.msix (d.chSrc ch) (d.rd R.MBX_IVEC_EMPTY_VEC ch))
  else d

/-- A packet accepted into a channel. -/
def Dev.acceptCmd (d : Dev) (ch : Nat) (ws : List Nat) (o : Origin) : Dev :=
  let c := d.chan ch
  ((d.setChan ch { c with inq := c.inq ++ [{ words := ws, origin := o }] }).count 0x13 ch 0 0).syncChan ch

/-- Whether a window belongs to a channel bound to a function. -/
def Dev.boundTo (d : Dev) (ch fn : Nat) : Bool := d.chEn ch && d.chIntf ch = 0 && d.chSrc ch = fn

/-- Whether a function reaches the device's memory at all: not in D3hot, and with PCIe and the hub on. -/
def Dev.reaches (d : Dev) (fn : Nat) : Bool := !(d.mgmt.d3hot.contains fn) && d.pdOn pdPcie && d.pdOn pdHub

/-- Whether a function reaches a channel's window (R423): the PF reaches all, a VF its first four. -/
def Dev.hasWindow (d : Dev) (ch fn : Nat) : Bool :=
  d.reaches fn
    && (fn = 0 || (((List.range 128).filter fun c => d.boundTo c fn).take 4).contains ch)

/-- The words of a packet that its header gives. -/
def pktWords (ws : List Nat) : List Nat := ws.take (4 + bits (nth ws 0) 20 16)

/-- MBX_SEND_DMWR: a DMWr of a function to MBX.SEND of a channel's window, from an offset.  A function without that
window matches no entry there, and the DMWr completes with Unsupported Request (R421). -/
def mbxSendDmwr (fn ch off : Nat) (ws : List Nat) (d : Dev) : Dev :=
  if d.hasWindow ch fn = false then (if d.reaches fn then d.emit (.dmwr ch 2) else d)
  else
    let n := ws.length
    if off ≠ 0 ∨ n < 4 ∨ 32 < n ∨ n < 4 + bits (nth ws 0) 20 16 then
      ((d.set R.MBX_ERR_SEND_MALFORMED ch).count 0x13 ch 0 2).emit (.dmwr ch 2)
    else if d.boundTo ch fn = false then ((d.set R.MBX_ERR_UNBOUND ch).count 0x13 ch 0 2).emit (.dmwr ch 2)
    else if d.accepts = false ∨ d.chFull ch then
      ((d.set R.MBX_ERR_FULL_RETRY ch).count 0x13 ch 0 1).emit (.dmwr ch 1)
    else (d.acceptCmd ch (pktWords ws) .pcie).emit (.dmwr ch 0)

/-- MBX_DOORBELL_WRITE: a posted write of a function to MBX.DOORBELL, or with `wrong` set one of the other writes
that are handled as a doorbell that is discarded (R426).  Without the window it is the error message alone (R421). -/
def mbxDoorbellWrite (fn ch : Nat) (wrong : Bool) (d : Dev) : Dev :=
  if d.hasWindow ch fn = false then (if d.reaches fn then d.emit (.aer fn) else d)
  else
    let ws := (List.range 32).map fun k => d.rd R.MBX_STAGE_DATA ch k
    let bad := wrong || decide (28 < bits (nth ws 0) 20 16)
    let unbound := !(d.boundTo ch fn)
    let isFull := d.accepts = false || d.chFull ch
    if bad || unbound || isFull then
      let d := if unbound then d.set R.MBX_ERR_UNBOUND ch else d
      let d := d.count 0x13 ch 0 (if !bad && !unbound then 1 else 2)
      (((d.set R.MBX_ERR_POSTED_DROP ch).bump R.MBX_STAT_DROPS ch)).emit (.aer fn)
    else d.acceptCmd ch (pktWords ws) .pcie

/-- A write to a window that its channel does not bind to the function: discarded (R421, R423). -/
def Dev.windowWrite (d : Dev) (fn ch : Nat) (f : Dev → Dev) : Dev :=
  if d.hasWindow ch fn = false then d
  else if d.boundTo ch fn = false then (d.set R.MBX_ERR_UNBOUND ch).count 0x13 ch 0 2
  else f d

/-- MBX_CPL_HEAD_WRITE (R427, R428). -/
def mbxCplHeadWrite (fn ch n : Nat) (d : Dev) : Dev :=
  d.windowWrite fn ch fun d =>
    let c := d.chan ch
    let d := if c.cplq.length < n then d.set R.MBX_ERR_CPL_UNDERRUN ch else d
    let left := c.cplq.drop n
    let d := (d.setChan ch { c with cplq := left }).syncChan ch
    if left ≠ [] ∧ d.on R.MBX_IEN_CPL_EN ch then
      d.emit (.msix (d.chSrc ch) (d.rd R.MBX_IVEC_CPL_VEC ch))
    else d

/-- MBX_EMPTY_ARM_WRITE: a write of 1 to EMPTY_ARM (R428). -/
def mbxEmptyArmWrite (fn ch : Nat) (d : Dev) : Dev :=
  d.windowWrite fn ch fun d => (d.set R.MBX_IEN_EMPTY_ARM ch).emptyMsg ch

/-- The lock of the channel table set: MBX.CTL.LOCK and the MBX bit of HUB.LOCK (R420, R590). -/
def Dev.lockTable (d : Dev) : Dev := (d.set R.MBX_CTL_LOCK).wrBit R.HUB_LOCK_LOCKED 5 true

/-- MBX_CTL_LOCK_WRITE: a write of 1 to MBX.CTL.LOCK. -/
def mbxCtlLockWrite (d : Dev) : Dev := if d.pdOn pdHub ∧ !(d.mgmt.d3hot.contains 0) then d.lockTable else d

/-! ### MCTP and the fabric (R430 to R432) -/

/-- A completion of a packet that is not accepted. -/
def refusalWords (ch : Nat) (ws : List Nat) (status : Nat) : List Nat :=
  cplWords 0 (bits (nth ws 0) 15 0) (nth ws 1) status ch 0 []

/-- Whether a command of this origin and tag is in progress on a channel. -/
def Dev.inProgress (d : Dev) (ch : Nat) (p : CmdPkt → Bool) : Bool :=
  (d.chan ch).inq.any p || d.mgmt.journal.any fun (j : JEntry) => j.chan = ch && p j.pkt

/-- MCTP_COMMAND_MESSAGE: a command message on an MCTP binding (1 PCIe VDM, 2 SMBus or I3C) from an EID. -/
def mctpCommandMessage (intf eid mtag : Nat) (ws : List Nat) (d : Dev) : Dev :=
  match d.matchChan intf eid with
  | none => d.emit (.mctp intf eid mtag 2 (refusalWords 0 ws St.notPermitted))
  | some ch =>
    let tag := nth ws 1
    match (d.chan ch).recent.find? fun x => x.1 = tag && decide (d.now < x.2.2) with
    | some x => d.emit (.mctp intf eid mtag 2 x.2.1)
    | none =>
      if d.inProgress ch (fun k => nth k.words 1 = tag) then d
      else if d.accepts = false ∨ d.chFull ch ∨ 8 ≤ d.outst ch then
        (d.count 0x13 ch 0 1).emit (.mctp intf eid mtag 2 (refusalWords ch ws St.cmdQueueFull))
      else d.acceptCmd ch (pktWords ws) (.mctp intf eid mtag)

/-- The STATUS pennant that answers a CMD pennant at once. -/
def Dev.answerCmd (d : Dev) (port src ptag : Nat) (ws : List Nat) : Dev :=
  let k := d.statusPen src 1 ptag ws
  if src = 0xFFFFE then d.hubSend k 7 (some port) else d.hubSend k 7

/-- CMD_PENNANT_RECEIVED: a CMD pennant with a command packet that the hub's attach point holds. -/
def cmdPennantReceived (pid : Nat) (d : Dev) : Dev :=
  match d.takeHub pid fun k => k.pclass = 1 && k.typ = 2 && k.opcode = 1 with
  | none => d
  | some (s, d) =>
    let k := s.pkt
    let ws := wordsBE k.payload (k.len / 4)
    let answer (d : Dev) (ch st : Nat) : Dev := d.answerCmd s.ing k.src k.tag (refusalWords ch ws st)
    match d.matchChan 3 k.src with
    | none => answer d 0 St.notPermitted
    | some ch =>
      let key := k.tag + 2 ^ 32 * k.src
      if isPort s.ing ∧ d.admitted s.ing = false then answer (d.count 0x13 ch 0 2) ch St.notPermitted
      else match (d.chan ch).recent.find? fun x => x.1 = key && decide (d.now < x.2.2) with
        | some x => d.answerCmd s.ing k.src k.tag x.2.1
        | none =>
          let same (c : CmdPkt) : Bool := match c.origin with
            | .fabric _ src tag => src = k.src && tag = k.tag
            | _ => false
          if d.inProgress ch same then d
          else if d.accepts = false ∨ d.chFull ch then answer (d.count 0x13 ch 0 1) ch St.cmdQueueFull
          else if nth ws 1 ≠ k.tag then answer (d.count 0x13 ch 0 2) ch St.cmdParam
          else
            let d := d.setChan ch { d.chan ch with lastPort := some s.ing }
            d.acceptCmd ch (pktWords ws) (.fabric s.ing k.src k.tag)

/-! ### Taking (R410, R434, R436) -/

/-- Whether Thidan may take the head packet of a channel now. -/
def Dev.takeable (d : Dev) (ch : Nat) : Bool :=
  match (d.chan ch).inq with
  | [] => false
  | k :: _ =>
    !(isOrdered k.words && d.mgmt.journal.any fun (j : JEntry) => j.chan = ch)
      && (match (d.chan ch).lastTake with
        | some t => decide (t + 250 ≤ d.now)
        | none => true)

/-- A new round: the channels with packets waiting, PRIO 0 first, in ascending order. -/
def Dev.newRound (d : Dev) : List Nat :=
  let c := (List.range 128).filter fun ch => (d.chan ch).inq != []
  (c.filter fun ch => d.chPrio ch = 0) ++ c.filter fun ch => d.chPrio ch != 0

/-- The channel that Thidan takes from next, with what is left of its round. -/
def Dev.nextTake (d : Dev) : Option (Nat × List Nat) :=
  let cut (l : List Nat) : Option (Nat × List Nat) :=
    match l.dropWhile fun ch => !(d.takeable ch) with
    | [] => none
    | ch :: t => some (ch, t)
  match cut d.mgmt.round with
  | some x => some x
  | none => cut d.newRound

/-- COMMAND_TAKEN: the next packet of the round journalled and checked. -/
def commandTaken (d : Dev) : Dev :=
  if d.mgmt.thdDown ∨ 256 ≤ d.mgmt.journal.length ∨ d.accepts = false then d
  else match d.nextTake with
    | none => d
    | some (ch, rest) =>
      let c := d.chan ch
      match c.inq with
      | [] => d
      | k :: q =>
        let a := d.mgmt.nextAseq
        let j : JEntry := { aseq := a, chan := ch, pkt := k }
        let d := { d with mgmt := { d.mgmt with
          round := rest, nextAseq := (a + 1) % 2 ^ 32, journal := d.mgmt.journal ++ [j] } }
        let d := d.setChan ch { c with inq := q, lastTake := some d.now }
        let d := (d.count 0x13 ch 0 3).count 0x0E 0x100 0 0
        let d := (d.syncChan ch).emptyMsg ch
        match d.packetCheck ch k.words with
        | (0, _) => d
        | (st, detail) => d.complete a st [] detail

/-! ### Objects (R435) -/

/-- The kinds of objects. -/
inductive ObjKind
  | ctx | trig | op | region | model | lib | tile | port | chan | point | domains | config | store | oe | hoist
  | tel | fw | fault
  deriving DecidableEq, Repr

/-- The region that a buffer reference of kind 2 names. -/
def JEntry.bufObj (j : JEntry) (n : Nat) : List (ObjKind × Nat) :=
  let b := j.bref n
  if b.kind = 2 then [(.region, b.region % 65536)] else []

/-- The objects that a command names.  Library object 65536 stands for the one that OBJ_CREATE makes. -/
def JEntry.objects (j : JEntry) : List (ObjKind × Nat) :=
  let op := j.op
  let w := j.w 4
  let masked (k : ObjKind) (n : Nat) : List (ObjKind × Nat) := (maskTiles (j.tileMask n)).map fun t => (k, t)
  if op = 0x0004 then [(.config, 0), (.chan, w % 128)]
  else if op = 0x0005 then [(.config, 0)]
  else if op = 0x0101 then [(.point, 0)]
  else if op = 0x0102 then [(.domains, 0)]
  else if op = 0x0103 then (maskBits w 32).map fun e => (.oe, e)
  else if op = 0x0201 then (.config, 0) :: j.bufObj 4
  else if op = 0x0202 ∨ op = 0x0203 then [(.port, w % 512)]
  else if 0x0301 ≤ op ∧ op ≤ 0x0305 ∨ op = 0x0307 then [(.ctx, w % 65536)]
  else if op = 0x0306 then
    [(.ctx, w % 65536), (.region, j.w 5 % 65536)] ++ (if bitOf (j.w 8) 14 then [(.trig, j.w 8 / 2 ^ 15)] else [])
  else if op = 0x0308 ∨ op = 0x0309 then [(.trig, w % 2 ^ 17)]
  else if op = 0x030A then [(.trig, w / 2 ^ 15)]
  else if op = 0x030B then [(.op, w % 2 ^ 17)]
  else if op = 0x030C then [(.trig, j.w 5 % 2 ^ 17), (.op, j.w 6 % 2 ^ 17), (.ctx, j.w 7 % 65536)]
  else if op = 0x030D ∨ op = 0x030E then [(.region, w % 65536)]
  else if op = 0x0401 then [(.tile, w % 64)]
  else if op = 0x0402 ∨ op = 0x0403 then masked .tile 4
  else if op = 0x0404 then [(.lib, w % 65536)]
  else if op = 0x0405 ∨ op = 0x0407 then (.model, w % 256) :: masked .tile 5
  else if op = 0x0406 then [(.model, w % 256), (.model, j.w 5 % 256)]
  else if op = 0x0408 then [(.model, w % 256)]
  else if op = 0x0501 ∨ op = 0x0503 then [(.store, 0)]
  else if op = 0x0504 then [(.lib, 65536)]
  else if op = 0x0505 ∨ op = 0x0506 then (.lib, w % 65536) :: j.bufObj 7
  else if op = 0x0507 ∨ op = 0x0508 then [(.lib, w % 65536)]
  else if op = 0x0509 then (.lib, w % 65536) :: j.bufObj 5
  else if op = 0x050A then [(.ctx, w % 65536), (.lib, j.w 5 % 65536)]
  else if op = 0x0601 then (.fault, 0) :: j.bufObj 4
  else if op = 0x0602 ∨ op = 0x0603 ∨ op = 0x0604 then [(.fault, 0)]
  else if op = 0x0701 ∨ op = 0x0702 ∨ op = 0x0703 then [(.tel, 0)]
  else if op = 0x0801 then [(.chan, j.chan)]
  else if op = 0x0802 ∨ op = 0x0803 ∨ op = 0x0804 then [(.config, 0)]
  else if op = 0x0805 then (.fw, 0) :: j.bufObj 4
  else if op = 0x0806 then [(.config, 0), (.fw, 0)]
  else if op = 0x0901 ∨ op = 0x0902 then [(.hoist, w % 1024)]
  else []

/-- Whether two objects are one: STORE_FORMAT and STORE_QUIESCE name every library object. -/
def sameObject (a b : ObjKind × Nat) : Bool :=
  a = b || (a.1 = .store && b.1 = .lib) || (a.1 = .lib && b.1 = .store)

/-- Whether a command waits for its objects: OP_SET, RESET and JOB_ABORT do not (R435, R437), nor does a HOIST_JOIN,
which begins at taking (R461). -/
def waitsForObjects (op : Nat) : Bool := !([0x0101, 0x0603, 0x0604, 0x0901].contains op)

/-- The commands before an entry in the journal, which is in ASEQ order. -/
def Dev.earlier (d : Dev) (aseq : Nat) : List JEntry := d.mgmt.journal.takeWhile fun j => j.aseq ≠ aseq

/-- Whether a command is a CFG_COMMIT that need not wait for an earlier entry, a commit whose switch is armed: it
cancels that switch, or is answered beside it (R186). -/
def Dev.passesArmed (d : Dev) (j e : JEntry) : Bool :=
  j.op = 0x0201 && match d.net.armed with
    | some a => a.aseq = e.aseq
    | none => false

/-- Whether an object that a command waits for lies in the scope of a running reset (R485).  Tiles are not among
them: a launch for a tile that is RESETTING is refused (R300). -/
def Dev.objFenced (d : Dev) (j : JEntry) (o : ObjKind × Nat) : Bool :=
  let work := [ObjKind.ctx, .trig, .op, .hoist].contains o.1
  d.mgmt.resets.any fun r =>
    (r.level = rlCompute && (work || o.1 = .model))
      || (r.level = rlPartition
          && ((work && r.target = j.burgee) || (o.1 = .model && r.target = (d.model o.2).burgee)))
      || (r.level = rlCluster && o.1 = .ctx && r.target = ctxQuad o.2)
      || (r.level = rlStore && (o.1 = .store || o.1 = .lib))

/-- Whether a command of the journal waits: for an earlier one that names an object of its own (R434, R435), or for
the release of a reset (R485). -/
def Dev.mustWait (d : Dev) (aseq : Nat) (j : JEntry) : Bool :=
  waitsForObjects j.op
    && (((d.earlier aseq).any fun e =>
          !(d.passesArmed j e) && e.objects.any fun x => j.objects.any fun y => sameObject x y)
        || j.objects.any (d.objFenced j))

/-- COMMAND_BEGIN. -/
def commandBegin (aseq : Nat) (d : Dev) : Dev :=
  match d.job? aseq with
  | none => d
  | some j =>
    let running := (d.mgmt.journal.filter fun j => j.phase = .begun || j.phase = .running).length
    if j.phase ≠ .taken ∨ d.mgmt.thdDown ∨ 64 ≤ running ∨ d.mustWait aseq j then d
    else (d.modJob aseq fun x => { x with phase := .begun }).syncChan j.chan

/-! ### Host transfers (R417) -/

/-- Where a command has its input buffer. -/
def JEntry.inputAt (j : JEntry) : Option Nat :=
  let op := j.op
  if op = 0x0201 ∨ op = 0x0805 then some 4
  else if op = 0x0505 then some 7
  else if op = 0x0802 ∨ (op = 0x0801 ∧ j.w 4 % 16 = 1) then some 5
  else if op = 0x0804 ∨ (op = 0x0701 ∧ j.w 4 % 16 = 0) then some 6
  else if op = 0x0701 ∧ j.w 4 % 16 = 1 then some 7
  else none

/-- HOST_TRANSFER_COMPLETE: the host's memory has given the bytes of a command's input, or taken its output; or the
transfer has failed. -/
def hostTransferComplete (aseq : Nat) (ok : Bool) (bytes : List Nat) (d : Dev) : Dev :=
  match d.job? aseq with
  | none => d
  | some j =>
    if j.host then
      if ok then d.complete aseq j.status j.res j.detail else d.complete aseq St.cmdDmaFault
    else match j.inputAt with
      | none => d
      | some n =>
        if j.phase ≠ .begun ∨ (j.bref n).kind ≠ 1 ∨ j.buf.isSome then d
        else if ok then d.modJob aseq fun x => { x with buf := some bytes }
        else d.complete aseq St.cmdDmaFault

/-! ### Resets of functions (R429, R571, R555) -/

/-- The channels bound to a function. -/
def Dev.fnChans (d : Dev) (fn : Nat) : List Nat := (List.range 128).filter fun ch => d.boundTo ch fn

/-- FUNCTION_LEVEL_RESET: a Function Level Reset of a function, or a VF disabled. -/
def functionLevelReset (fn : Nat) (d : Dev) : Dev :=
  let d := { d with mgmt := { d.mgmt with d3hot := d.mgmt.d3hot.filter fun f => f ≠ fn } }
  d.each (d.fnChans fn) fun d ch => d.chanFlr ch

/-- PERST: PERST_N resets the PCIe domain alone. -/
def perst (d : Dev) : Dev :=
  let d := { d with mgmt := { d.mgmt with d3hot := [] } }
  d.each ((List.range 128).filter fun ch => d.chEn ch && d.chIntf ch = 0) fun d ch => d.chanFlr ch

/-- D3HOT_ENTRY. -/
def d3hotEntry (fn : Nat) (d : Dev) : Dev :=
  if d.mgmt.d3hot.contains fn then d
  else
    let d := { d with mgmt := { d.mgmt with d3hot := d.mgmt.d3hot ++ [fn] } }
    d.each (d.fnChans fn) fun d ch => d.chanFlr ch

/-! ### Commands on Thidan itself -/

/-- NOP: words 4 to 15 come back. -/
def nop (aseq : Nat) (d : Dev) : Dev :=
  d.cmd aseq 0x0001 fun j d => d.complete aseq St.ok ((List.range 12).map fun k => j.w (4 + k))

/-- DEV_INFO. -/
def devInfo (aseq : Nat) (d : Dev) : Dev :=
  d.cmd aseq 0x0002 fun _ d =>
    d.complete aseq St.ok
      [0x5120, d.rd R.HUB_ID_STEPPING + d.rd R.HUB_ID_GRADE * 256, d.rd R.HUB_FWVER_VERSION, d.rd R.HUB_SHORTID_ID,
       d.devFeid, d.rd R.HUB_NPROF_ID]

/-- CMD_CAPS. -/
def cmdCaps (aseq : Nat) (d : Dev) : Dev :=
  d.cmd aseq 0x0003 fun j d =>
    let op := bits (j.w 4) 15 0
    let page := op / 256 * 256
    let word (k : Nat) : Nat :=
      maskOf ((List.range 32).filter fun b => (opInfo (page + 32 * k + b) 0).isSome)
    d.complete aseq St.ok (b2n (opInfo op 0).isSome :: (List.range 8).map word)

/-- Whether a channel table entry is legal (R418, R419). -/
def entryOk (a b : Nat) : Bool :=
  let intf := bits a 30 28
  let role := bits a 27 26
  let src := bits a 19 0
  let combo := (role = 1 && intf = 0 && src = 0) || (role = 0 && intf = 0)
    || (role = 3 && (intf = 1 || intf = 2)) || (role = 2 && intf = 3)
  combo && (if intf = 0 then decide (src ≤ 64) else if intf = 3 then true else decide (src < 256) || src = 0xFFFFF)
    && (role = 0 || bits b 31 23 = 0)

/-- A channel table entry written (R420): it takes effect once the commands already taken have completed. -/
def Dev.bindChan (d : Dev) (ch a b : Nat) : Dev :=
  let c := d.chan ch
  let old := (d.bindA ch, d.bindB ch)
  let d := (d.wr R.MBX_CTAB_A_ENTRY_A a 0 ch).wr R.MBX_CTAB_B_ENTRY_B b 0 ch
  let wait := d.mgmt.journal.any fun (j : JEntry) => j.chan = ch
  (d.setChan ch { c with rebind := if wait then some old else none }).syncChan ch

/-- CHAN_BIND. -/
def chanBind (aseq : Nat) (d : Dev) : Dev :=
  d.cmd aseq 0x0004 fun j d =>
    if d.on R.MBX_CTL_LOCK then d.complete aseq St.cfgLocked
    else if entryOk (j.w 5) (j.w 6) = false then d.complete aseq St.cmdParam
    else (d.bindChan (j.w 4 % 128) (j.w 5) (j.w 6)).complete aseq St.ok

/-- CHANNEL_REBIND_EFFECTIVE: every command taken from a channel under its old binding has completed. -/
def channelRebindEffective (ch : Nat) (d : Dev) : Dev :=
  let c := d.chan ch
  if c.rebind.isNone ∨ d.mgmt.journal.any fun (j : JEntry) => j.chan = ch then d
  else (d.setChan ch { c with rebind := none }).syncChan ch

/-- CHAN_LOCK. -/
def chanLock (aseq : Nat) (d : Dev) : Dev := d.cmd aseq 0x0005 fun _ d => d.lockTable.complete aseq St.ok

/-- CMD_CANCEL. -/
def cmdCancel (aseq : Nat) (d : Dev) : Dev :=
  d.cmd aseq 0x0006 fun j d =>
    let tag := j.w 4
    match d.mgmt.journal.find? fun x => x.chan = j.chan && x.phase = .taken && x.w 1 = tag with
    | some x => (d.complete x.aseq St.cmdCancelled).complete aseq St.ok [1]
    | none =>
      let c := d.chan j.chan
      match c.inq.find? fun k => nth k.words 1 = tag with
      | none => d.complete aseq St.ok [0]
      | some k =>
        let d := d.setChan j.chan { c with inq := c.inq.erase k }
        let d := (d.deliver j.chan k.origin tag (refusalWords j.chan k.words St.cmdCancelled)).count 0x13 j.chan 0 5
        ((d.syncChan j.chan).emptyMsg j.chan).complete aseq St.ok [1]

end Sys2Proof.Machine
end

