-- ==== Sys2Proof/Machine/Telemetry.lean ====
section
/-! DEFINITION. The commands of telemetry (spec/19, R515 to R533): counters read, snapshot sets, tags, histograms,
samples and traces, bunting rings and mirror sessions. -/

namespace Sys2Proof.Machine

/-! ### Counters (R515, R516, R520) -/

/-- The failure-record reason codes of the device (R477). -/
def isReason (s : Nat) : Bool :=
  (decide (1 ≤ s) && decide (s ≤ 3)) || (decide (0x10 ≤ s) && decide (s ≤ 0x17)) || s = 0x20 || s = 0x21
    || (decide (0x30 ≤ s) && decide (s ≤ 0x32)) || s = 0x40 || (decide (0x50 ≤ s) && decide (s ≤ 0x55))
    || (decide (0x60 ≤ s) && decide (s ≤ 0x64)) || s = 0x70 || s = 0x80 || s = 0x81 || s = 0x90 || s = 0xA0

/-- The block codes (R469). -/
def isBlock (s : Nat) : Bool := decide (1 ≤ s) && decide (s ≤ 0x14)

/-- Whether the table of R516 has a counter. -/
def counterKnown (id : Nat) : Bool :=
  let b := id / 2 ^ 24
  let i := id / 4096 % 4096
  let g := id / 256 % 16
  let s := id % 256
  if b = 0x01 then decide (i < 4) && g = 0 && decide (s < 2)
  else if b = 0x02 then decide (i < 1024) && ((g = 0 && decide (1 ≤ s) && decide (s ≤ 10)) || (g = 1 && decide (s < 5)))
  else if b = 0x03 then
    decide (i < 512) && ((g = 0 && decide (s < 9)) || g = 1 || g = 2 || (g = 3 && decide (s < 12)))
  else if b = 0x04 then isEgress i && ((decide (g < 2) && decide (s < 8)) || ((g = 2 || g = 3) && isReason s))
  else if b = 0x05 then
    decide (i < 4) && ((g = 0 && decide (s < 24)) || (g = 1 && decide (s < 4)) || (g = 2 && decide (s < 2)))
  else if b = 0x06 then
    decide (i < 4) && ((g = 0 && decide (s < 4)) || (g = 1 && isReason s) || (g = 2 && decide (s < 5)))
  else if b = 0x07 then
    (isEgress i && ((decide (g < 2) && decide (s < 8)) || (g = 2 && decide (s < 6))))
      || (decide (0x400 ≤ i) && decide (i < 0x600) && g = 0 && decide (s < 3))
  else if b = 0x08 then
    decide (i < 64) && ((g = 0 && decide (s < 8)) || (g = 1 && isReason s) || (g = 2 && decide (s < 8))
      || (g = 3 && decide (s < 3)))
  else if b = 0x09 then
    decide (i < 4) && ((g = 0 && decide (s < 6)) || (decide (1 ≤ g) && decide (g < 3) && decide (s < 16)))
  else if b = 0x0A then
    decide (i < 64) && ((g = 0 && decide (s < 5)) || g = 1 || (g = 2 && decide (s < 4)) || (g = 3 && decide (s < 7))
      || g = 4 || (g = 5 && decide (s < 3)))
  else if b = 0x0B then decide (i < 64) && g = 0 && decide (s < 6)
  else if b = 0x0C then decide (i < 4) && g = 0 && decide (s < 7)
  else if b = 0x0D then
    i = 0 && ((g = 0 && decide (s < 7)) || (g = 1 && decide (1 ≤ s) && decide (s < 4)) || (g = 2 && decide (s < 3)))
  else if b = 0x0E then
    (decide (i < 256) && ((g = 0 && decide (1 ≤ s) && decide (s < 10)) || g = 1 || (g = 2 && decide (s < 8))))
      || (i = 0x100 && g = 0 && decide (s < 3))
  else if b = 0x0F then
    i = 0 && ((g = 0 && isBlock s) || (g = 1 && isReason s) || (g = 2 && decide (s < 3)) || (g = 3 && isBlock s))
  else if b = 0x10 then i = 0 && ((g = 0 && decide (s < 7)) || (g = 1 && decide (s < 8)))
  else if b = 0x11 then
    (decide (i < 1024) && g = 0 && decide (s < 4)) || (i = 0x400 && g = 0 && decide (s < 3))
      || (i = 0x800 && ((g = 0 && decide (s < 8)) || (g = 1 && decide (s < 4)) || (g = 2 && decide (s < 3))
        || (g = 3 && isBlock s)))
  else if b = 0x13 then decide (i < 128) && g = 0 && decide (s < 6)
  else if b = 0x14 then decide (i < 4) && g = 0 && decide (s < 6)
  else false

/-- The power domain of a counter. -/
def counterPd (id : Nat) : Nat := ((List.range 111).find? fun pd => pdCounter pd id).getD pdAon

/-- Whether a tenant's channel may read a counter now (R520). -/
def Dev.mayRead (d : Dev) (id burgee ch : Nat) : Bool :=
  let b := id / 2 ^ 24
  let i := id / 4096 % 4096
  d.rdBit R.TEL_PERMIT_BLOCKS b &&
    (if b = 0x07 then i = 0x400 + burgee
      else if b = 0x0A ∨ b = 0x0B then
        ((d.tile i).prog.isSome && (d.tile i).burgee = burgee)
          || (match d.modelOf i with
            | some s => (d.model s).burgee = burgee
            | none => false)
      else if b = 0x0E then decide (i < 256) && (d.model i).state != msEmpty && (d.model i).burgee = burgee
      else if b = 0x13 then i = ch || (d.chEn i && d.chRole i = 0 && d.chBurgee i = burgee)
      else false)

/-- RSTAT of a read. -/
def rsOk : Nat := 0
def rsUnknown : Nat := 1
def rsDenied : Nat := 2
def rsOff : Nat := 3

/-- A counter read: LIFE, RSTAT, V and S (R515, R517, R518). -/
def Dev.readCounter (d : Dev) (id : Nat) (tenant : Option (Nat × Nat)) (s : Nat) : Nat × Nat × Nat × Nat :=
  let pd := counterPd id
  let denied := match tenant with
    | some (b, ch) => !(d.mayRead id b ch)
    | none => false
  let life := d.tel.life.get pd 0
  if counterKnown id = false then (0, rsUnknown, 0, 0)
  else if denied then (life, rsDenied, 0, 0)
  else if pd ≠ pdAon ∧ d.pdOn pd = false then (life, rsOff, 0, 0)
  else (life, rsOk, d.counters.get id 0, s)

/-- The words of a counter entry (R518). -/
def counterEntry (id : Nat) (r : Nat × Nat × Nat × Nat) : List Nat :=
  [id, r.1 % 65536 + r.2.1 * 65536, r.2.2.1 % 2 ^ 32, r.2.2.1 / 2 ^ 32, r.2.2.2 % 2 ^ 32, r.2.2.2 / 2 ^ 32]

/-- Counters read in list order; a denied read sets TEL.ERR.DENIED_SEEN. -/
def Dev.readCounters (d : Dev) (ids : List Nat) (tenant : Option (Nat × Nat)) (s : Nat) : Dev × List (List Nat) :=
  let es := ids.map fun id => counterEntry id (d.readCounter id tenant s)
  let denied := ids.any fun id => (d.readCounter id tenant s).2.1 = rsDenied
  (if denied then d.set R.TEL_ERR_DENIED_SEEN else d, es)

/-! ### TEL_CFG (R518) -/

/-- A TEL_CFG command of a subop carried out (R518); `ok` also takes the subops that are none. -/
def Dev.telCmd (d : Dev) (aseq : Nat) (ok : Nat → Bool) (roles : Nat) (f : JEntry → Dev → Dev) : Dev :=
  match d.job? aseq with
  | none => d
  | some j =>
    if j.op ≠ 0x0701 ∨ ok (j.w 4 % 16) = false then d
    else if bitOf roles (d.chRole j.chan) = false then
      d.cmd aseq 0x0701 fun _ d => d.complete aseq St.notPermitted
    else f j d

/-- The tenant for whom a command reads, with its channel. -/
def Dev.tenantOf (d : Dev) (j : JEntry) : Option (Nat × Nat) :=
  if d.chRole j.chan = 0 then some (j.burgee, j.chan) else none

/-- The first `n` little-endian words of bytes. -/
def leWords (bs : List Nat) (n : Nat) : List Nat := (List.range n).map fun i => ofLE ((bs.drop (4 * i)).take 4)

/-- An input list of counter IDs at word `n`, once it is here, handed to `f`. -/
def Dev.withIds (d : Dev) (j : JEntry) (n cnt : Nat) (f : List Nat → Dev → Dev) : Dev :=
  match d.bufIn j (j.bref n) with
  | .error st => d.cmd j.aseq 0x0701 fun _ d => d.complete j.aseq st
  | .ok none => d
  | .ok (some bs) => d.cmd j.aseq 0x0701 fun _ d =>
    if bs.length < 4 * cnt then d.complete j.aseq St.cmdParam else f (leWords bs cnt) d

/-- TEL_READ; it also refuses the subops that R518 does not list. -/
def telRead (aseq : Nat) (d : Dev) : Dev :=
  d.telCmd aseq (fun s => s = 0 || decide (8 ≤ s)) roleA fun j d =>
    let n := bits (j.w 5) 10 0
    if j.w 4 % 16 ≠ 0 ∨ n = 0 ∨ 1024 < n then d.cmd aseq 0x0701 fun _ d => d.complete aseq St.cmdParam
    else d.withIds j 6 n fun ids d =>
      let r := d.readCounters ids (d.tenantOf j) d.now
      r.1.bufOut j (j.bref 10) (r.2.flatMap fun e => e.flatMap (bytesLE 4)) St.ok

def Dev.snap (d : Dev) (i : Nat) : SnapSet := d.tel.snaps.get i {}
def Dev.setSnap (d : Dev) (i : Nat) (s : SnapSet) : Dev :=
  { d with tel := { d.tel with snaps := d.tel.snaps.put i s } }

/-- SNAP_ARM. -/
def snapArm (aseq : Nat) (d : Dev) : Dev :=
  d.telCmd aseq (· = 1) roleA fun j d =>
    let i := j.w 5 % 4
    let n := bits (j.w 6) 8 0
    if n = 0 ∨ 256 < n then d.cmd aseq 0x0701 fun _ d => d.complete aseq St.cmdParam
    else d.withIds j 7 n fun ids d =>
      let t := j.w 11 * 2 ^ 32 + j.w 12
      if (d.snap i).state ≠ 0 then d.complete aseq St.telResource
      else if t < d.now + 10000 then d.complete aseq St.cmdParam
      else
        (d.setSnap i { state := 1, ids := ids, t := t, tenant := (d.tenantOf j).map Prod.fst
                       chan := j.chan }).complete aseq St.ok

/-- SNAPSHOT_TIME: fabric time has reached the T of set `i`. -/
def snapshotTime (i : Nat) (d : Dev) : Dev :=
  let s := d.snap i
  if s.state ≠ 1 ∨ d.now < s.t then d
  else
    let r := d.readCounters s.ids (s.tenant.map fun b => (b, s.chan)) s.t
    r.1.setSnap i { s with state := 2, taken := r.2 }

/-- SNAP_READ. -/
def snapRead (aseq : Nat) (d : Dev) : Dev :=
  d.telCmd aseq (· = 2) roleA fun j d => d.cmd aseq 0x0701 fun _ d =>
    let i := j.w 5 % 4
    let s := d.snap i
    let d := if bitOf (j.w 10) 0 then d.setSnap i {} else d
    if s.state = 2 then
      d.bufOut j (j.bref 6) (s.taken.flatMap fun e => e.flatMap (bytesLE 4)) St.ok [s.state]
    else d.complete aseq St.ok [s.state]

/-- TAG_SET (R522). -/
def tagSet (aseq : Nat) (d : Dev) : Dev :=
  d.telCmd aseq (· = 3) roleOF fun j d => d.cmd aseq 0x0701 fun _ d =>
    let w := j.w 5
    let log2 := bits w 14 10
    let log2 := if log2 < 12 ∨ 22 < log2 then 12 else log2
    let d := ((d.wr R.TEL_TAGCFG_PKT_LOG2 (bits w 4 0)).wr R.TEL_TAGCFG_INS_LOG2 (bits w 9 5)).wr
      R.TEL_TAGCFG_TRACE_LOG2 log2
    ({ d with tel := { d.tel with tagKey := j.w 6 * 2 ^ 32 + j.w 7 } }).complete aseq St.ok

/-- HIST (R532). -/
def telHist (aseq : Nat) (d : Dev) : Dev :=
  d.telCmd aseq (· = 4) roleA fun j d => d.cmd aseq 0x0701 fun _ d =>
    let i := j.w 5 % 65536
    let c := d.ctx i
    if c.state ≠ csFree ∧ d.cmdReach j c.burgee = false then d.complete aseq St.notPermitted
    else if c.state = csFree ∨ c.state = csRetired then d.complete aseq St.ctxState
    else
      let ws := if c.root then (c.hist ++ List.replicate 64 0).take 64 else List.replicate 64 0
      d.bufOut j (j.bref 6) (ws.flatMap (bytesLE 4)) St.ok

/-! ### The bunting area (R374, R525, R533) -/

/-- Bytes of the bunting area of a stack. -/
def Dev.buntArea (d : Dev) (q : Nat) : Nat := 64 * mib * d.rd R.HBM_AREA_BUNT q

/-- Bytes of the bunting rings of a quadrant but that of port `skip`. -/
def Dev.buntUsed (d : Dev) (q : Nat) (skip : Option Nat) : Nat :=
  d.tel.bunting.foldl (fun n x => if x.1 / 128 = q ∧ skip ≠ some x.1 then n + 64 * 2 ^ x.2.log2 else n) 0

/-- Bytes of a sample ring. -/
def sampleBytes (ports : List Nat) (att : Bool) (log2 q : Nat) : Nat :=
  if att || ports.any fun p => p / 128 = q then 16 * 2 ^ log2 else 0

/-- SAMPLE_SET. -/
def sampleSet (aseq : Nat) (d : Dev) : Dev :=
  d.telCmd aseq (· = 5) roleOF fun j d => d.cmd aseq 0x0701 fun _ d =>
    let ports := (List.range 512).filter fun p => bitOf (j.w (5 + p / 32)) (p % 32)
    let att := bitOf (j.w 21) 0
    let log2 := bits (j.w 21) 12 8
    if log2 < 12 ∨ 22 < log2 then d.complete aseq St.cmdParam
    else if [0, 1, 2, 3].any fun q =>
        decide (d.buntArea q < d.buntUsed q none + sampleBytes ports att log2 q) && sampleBytes ports att log2 q != 0 then
      d.complete aseq St.telResource
    else
      ({ d with tel := { d.tel with samplePorts := ports, sampleAttach := att, sampleLog2 := log2
                                    sampleRing := [] } }).complete aseq St.ok

/-- The records of a ring from a SEQ on, as many as a command asks for and its buffer takes. -/
def Dev.ringRead (d : Dev) (j : JEntry) (ring : List (List Nat)) (seqAt size : Nat) : Dev :=
  let b := j.bref 7
  let sel := ring.filter fun e => decide (0 ≤ serialDiff (2 ^ 32) (nth e seqAt) (j.w 6))
  let sel := sel.take (min (j.w 11) (b.len / size))
  d.bufOut j b (sel.flatMap fun e => e.flatMap (bytesLE 4)) St.ok

/-- SAMPLE_READ. -/
def sampleRead (aseq : Nat) (d : Dev) : Dev :=
  d.telCmd aseq (· = 6) roleOFB fun j d => d.cmd aseq 0x0701 fun _ d =>
    d.ringRead j (d.tel.sampleRing.get (j.w 5 % 4) []) 3 16

/-- TRACE_READ. -/
def traceRead (aseq : Nat) (d : Dev) : Dev :=
  d.telCmd aseq (· = 7) roleOFB fun j d => d.cmd aseq 0x0701 fun _ d =>
    d.ringRead j (d.tel.trace.get (j.w 5 % 4) []) 14 64

/-! ### BUNTING_CFG (R525 to R528) -/

/-- A BUNTING_CFG command of a subop carried out. -/
def Dev.buntCmd (d : Dev) (aseq : Nat) (ok : Nat → Bool) (f : JEntry → Nat → Dev → Dev) : Dev :=
  match d.job? aseq with
  | none => d
  | some j => if ok (j.w 4 % 16) then d.cmd aseq 0x0703 fun j d => f j (bits (j.w 4) 24 16) d else d

/-- BUNTING_SET; it also refuses the subops that R525 does not list. -/
def buntingSet (aseq : Nat) (d : Dev) : Dev :=
  d.buntCmd aseq (fun s => s = 0 || decide (5 ≤ s)) fun j p d =>
    let w := j.w 5
    let log2 := bits w 4 0
    let q := p / 128
    if j.w 4 % 16 ≠ 0 ∨ log2 < 10 ∨ 20 < log2 ∨ bits w 7 6 = 0 then d.complete aseq St.cmdParam
    else if d.formed p = false then d.complete aseq St.portInvalid
    else if d.buntArea q < d.buntUsed q (some p) + sampleBytes d.tel.samplePorts d.tel.sampleAttach d.tel.sampleLog2 q
        + 64 * 2 ^ log2 then d.complete aseq St.telResource
    else
      (d.setBunt p { log2 := log2, freeze := bitOf w 5, dir := bits w 7 6, vcmask := bits w 15 8, haly := bitOf w 16
                     linkCh := bitOf w 17, freezeAfter := bits w 31 20 }).complete aseq St.ok

/-- A BUNTING_CFG command on a ring that exists. -/
def Dev.onRing (d : Dev) (aseq p : Nat) (f : BuntRing → Dev → Dev) : Dev :=
  match d.tel.bunting.look p with
  | none => d.complete aseq St.cmdParam
  | some r => f r d

/-- BUNTING_ARM. -/
def buntingArm (aseq : Nat) (d : Dev) : Dev :=
  d.buntCmd aseq (· = 1) fun _ p d => d.onRing aseq p fun r d =>
    (d.setBunt p { r with entries := [], gap := 0, leftAfter := none, frozen := false }).complete aseq St.ok

/-- BUNTING_FREEZE. -/
def buntingFreeze (aseq : Nat) (d : Dev) : Dev :=
  d.buntCmd aseq (· = 2) fun _ p d => d.onRing aseq p fun _ d => (d.buntTrigger p true).complete aseq St.ok

/-- BUNTING_READ. -/
def buntingRead (aseq : Nat) (d : Dev) : Dev :=
  d.buntCmd aseq (· = 3) fun j p d => d.onRing aseq p fun r d =>
    let b := j.bref 5
    let es := r.entries.take (min (j.w 9) (b.len / 64))
    d.bufOut j b (es.flatMap fun e => e.flatMap (bytesLE 4)) St.ok [es.length, 0]

/-- BUNTING_FREE. -/
def buntingFree (aseq : Nat) (d : Dev) : Dev :=
  d.buntCmd aseq (· = 4) fun _ p d =>
    ({ d with tel := { d.tel with bunting := d.tel.bunting.del p } }).complete aseq St.ok

/-! ### MIRROR_SET (R529) -/

/-- The session that MIRROR_SET writes. -/
def mirrorOf (j : JEntry) : Mirror :=
  { en := bitOf (j.w 4) 4, port := bits (j.w 5) 8 0, portV := bitOf (j.w 5) 9, dir := bits (j.w 5) 11 10
    feid := bits (j.w 6) 19 0, feidDst := bitOf (j.w 6) 20, feidV := bitOf (j.w 6) 21, burgee := bits (j.w 7) 8 0
    bV := bitOf (j.w 7) 9, vcmask := bits (j.w 8) 7 0, aport := bits (j.w 8) 24 16, remote := bitOf (j.w 8) 25
    rfeid := bits (j.w 9) 31 12, trunc := bits (j.w 10) 11 0, maxDepth := bits (j.w 10) 27 12 }

/-- MIRROR_SET. -/
def mirrorSet (aseq : Nat) (d : Dev) : Dev :=
  d.cmd aseq 0x0702 fun j d =>
    let m := mirrorOf j
    let own := m.en && !m.remote
    if m.en ∧ (m.trunc = 0 ∨ 1023 < m.trunc) then d.complete aseq St.cmdParam
    else if own ∧ d.formed m.aport = false then d.complete aseq St.portInvalid
    else if own ∧ d.enforced (m.aport / 128) ∧ (d.attr (m.aport / 128) m.aport).edge ∧ !(d.allows m.aport 0) then
      d.complete aseq St.notPermitted
    else
      ({ d with tel := { d.tel with mirrors := d.tel.mirrors.put (j.w 4 % 16) m } }).complete aseq St.ok

end Sys2Proof.Machine
end

