-- ==== Sys2Proof/Machine/Security.lean ====
section
/-! DEFINITION. Security, identity and management interfaces (spec/20, R535 to R558): owner authentication, counted
fuses and anti-rollback counters, keys, firmware slots, admission and peer attestation, SPDM, PLDM, MCTP control and
JTAG. -/

namespace Sys2Proof.Machine

def Dev.modSec (d : Dev) (f : Sec → Sec) : Dev := { d with sec := f d.sec }

/-! ### Counted fuse settings (R545) -/

/-- Bytes of a setting's value. -/
def settingLen (i : Nat) : Nat := if i = 0 then 2 else if i = 1 then 1024 else if i = 2 then 1 else 48

/-- The value of a setting's factory slot (assumption log, row 3): no lane is overridden. -/
def factoryValue (i : Nat) : List Nat :=
  if i = 0 then bytesLE 2 (Config.fuse R.HUB_NPROF_ID.id 0 0 % 2 ^ 16)
  else if i = 1 then List.replicate 1024 0x3F
  else if i = 2 then [Config.fuse R.SCH_TENANT_ISO.id 0 0 % 4]
  else (List.range 48).map fun k => Config.fuse 900 0 k % 256

/-- The value in force: that of the highest valid change slot. -/
def Dev.inForce (d : Dev) (i : Nat) : List Nat :=
  match (d.sec.changes.get i []).reverse.find? fun c => c.valid with
  | some c => c.value
  | none => factoryValue i

/-- Whether the owner key hash is set. -/
def Dev.ownerSet (d : Dev) : Bool := (d.inForce 3).any fun b => b != 0

/-- SEC.STAT and SEC.FUSE.USED brought up to date. -/
def Dev.syncSec (d : Dev) : Dev :=
  let d := (d.wr R.SEC_STAT_OWNER_SET (b2n d.ownerSet)).wr R.SEC_STAT_DEBUG_OPEN (b2n (d.sec.debugOpen || !d.ownerSet))
  let d := (d.wr R.SEC_STAT_SLOT d.sec.active).wr R.SEC_STAT_STAGING (b2n d.sec.staging.isSome)
  let d := (d.wr R.SEC_STAT_FW_ARB d.sec.fwArb).wr R.SEC_STAT_KEYS_ARB d.sec.keysArb
  let used (i : Nat) : Nat := (d.sec.changes.get i []).length * 16 ^ i
  d.wr R.SEC_FUSE_USED (used 0 + used 1 + used 2 + used 3)

/-- The lane-map overrides in force shown by OE.LMAP (R498). -/
def Dev.showOverrides (d : Dev) : Dev :=
  let v := d.inForce 1
  d.each (List.range 1024) fun d x =>
    if d.rd R.OE_LMAP_OVR (x / 32) (x % 32) = nth v x then d else d.wr R.OE_LMAP_OVR (nth v x) (x / 32) (x % 32)

/-- The settings that wait for a DEVICE reset taken into the fuse shadow. -/
def Dev.takeSettings (d : Dev) : Dev :=
  let d := if d.sec.changes.get 0 [] = [] then d else d.wr R.HUB_NPROF_ID (ofLE (d.inForce 0))
  let iso := nth (d.inForce 2) 0 % 4
  let d := d.each [0, 1, 2, 3] fun d q => d.wr R.SCH_TENANT_ISO iso q
  let d := if d.sec.changes.get 1 [] = [] then d else d.showOverrides
  d.wr R.SEC_FUSE_PENDING 0

/-- Whether a lane-map setting is legal: six-bit slices, and no two lanes of an engine on one (R498). -/
def Dev.overridesOk (d : Dev) (v : List Nat) : Bool :=
  v.all (· < 64) && (List.range 32).all fun e =>
    let eff := (List.range 32).map fun l =>
      let o := nth v (32 * e + l)
      if o = 0x3F then d.rd R.OE_LMAP_SLICE e l else o
    eff.eraseDups.length = 32

/-- Whether a value of a setting is legal (R465, R498, R202). -/
def Dev.settingOk (d : Dev) (i : Nat) (v : List Nat) : Bool :=
  v.length = settingLen i && v != d.inForce i
    && (if i = 0 then ofLE v = 0x0A01 || (ofLE v = 0x0B01 && d.rd R.HUB_ID_STEPPING = 0xB0)
      else if i = 1 then d.overridesOk v else if i = 2 then decide (nth v 0 < 4) else true)

/-- An entry of the fuse audit log (R546). -/
def Dev.auditEntry (d : Dev) (ch kind what slot : Nat) (done : Bool) (v : List Nat) : List Nat :=
  let h := sha384 v
  let o := (d.chan ch).owner
  [kind * 2 ^ 28 + what * 2 ^ 24 + slot * 2 ^ 16 + b2n done, d.now / 2 ^ 32 % 2 ^ 32, d.now % 2 ^ 32, nth h 0, nth h 1,
   nth o 0, nth o 1, d.rd R.SEC_STAT_SVN]

/-- FUSE_WRITE: the value is checked, and the burn begins. -/
def fuseWrite (aseq : Nat) (d : Dev) : Dev :=
  match d.job? aseq with
  | none => d
  | some j => match d.bufIn j (j.bref 5) with
    | .error st => d.cmd aseq 0x0802 fun _ d => d.complete aseq st
    | .ok none => d
    | .ok (some v) => d.cmd aseq 0x0802 fun j d =>
      let i := j.w 4 % 4
      let cs := d.sec.changes.get i []
      if 8 ≤ cs.length then d.complete aseq St.fuseExhausted
      else if d.settingOk i v = false then d.complete aseq St.cmdParam
      else
        let e := d.auditEntry j.chan 0 i cs.length false v
        (d.modSec fun s =>
          { s with
            changes := s.changes.put i (cs ++ [{ value := v, valid := false }])
            audit := s.audit.put (8 * i + cs.length) e
            burn := some { aseq := aseq, setting := i, slot := cs.length } }).syncSec

/-- The change slot of a list made valid. -/
def validate : List Change → Nat → List Change
  | [], _ => []
  | c :: t, 0 => { c with valid := true } :: t
  | c :: t, n + 1 => c :: validate t n

/-- FUSE_BURN_COMPLETE: the valid bit is burned. -/
def fuseBurnComplete (d : Dev) : Dev :=
  match d.sec.burn with
  | none => d
  | some b =>
    let at_ := 8 * b.setting + b.slot
    let e := d.sec.audit.get at_ []
    let d := d.modSec fun s =>
      { s with
        burn := none
        changes := s.changes.put b.setting (validate (s.changes.get b.setting []) b.slot)
        audit := s.audit.put at_ (setAt e 0 (setBit (nth e 0) 0 true)) }
    let d := if b.setting = 1 then d.showOverrides
      else if b.setting = 3 then d else d.wrBit R.SEC_FUSE_PENDING b.setting true
    d.syncSec.complete b.aseq St.ok

/-! ### Anti-rollback (R541) -/

/-- ARB_ADVANCE. -/
def arbAdvance (aseq : Nat) (d : Dev) : Dev :=
  d.cmd aseq 0x0803 fun j d =>
    let k := j.w 4 % 2
    let v := j.w 5 % 128
    let cur := if k = 0 then d.sec.fwArb else d.sec.keysArb
    let n := (d.sec.audit.filter fun e => 32 ≤ e.1).length
    if v ≤ cur ∨ 64 < v then d.complete aseq St.cmdParam
    else if k = 0 ∧ d.rd R.SEC_STAT_SVN < v then d.complete aseq St.antiRollback
    else if 32 ≤ n then d.complete aseq St.fuseExhausted
    else
      let e := d.auditEntry j.chan 1 k v true [v]
      ((d.modSec fun s =>
        { s with
          fwArb := if k = 0 then v else s.fwArb
          keysArb := if k = 0 then s.keysArb else v
          audit := s.audit.put (32 + n) e }).syncSec).complete aseq St.ok

/-! ### OWNER_AUTH (R544, R546) -/

/-- OWNER_AUTH_CHALLENGE: 48 bytes that nobody can foresee, valid for 10 s on the channel. -/
def ownerAuthChallenge (aseq : Nat) (d : Dev) : Dev :=
  match d.job? aseq with
  | none => d
  | some j =>
    if j.w 4 % 16 ≠ 0 then d
    else d.cmd aseq 0x0801 fun j d =>
      let n := d.freeCtr
      let ws := (List.range 12).map fun k => Config.freeValue (n + k) % 2 ^ 32
      let d := { d with freeCtr := n + 12 }
      (d.setChan j.chan { d.chan j.chan with challenge := some (n, d.now + 10000000000) }).complete aseq St.ok ws

/-- OWNER_AUTH_RESPONSE: `sig` says that the signature over the channel's challenge verifies under the key given.  It
also refuses the subops that R544 and R546 do not list. -/
def ownerAuthResponse (aseq : Nat) (sig : Bool) (d : Dev) : Dev :=
  match d.job? aseq with
  | none => d
  | some j =>
    if j.w 4 % 16 = 0 ∨ j.w 4 % 16 = 2 then d
    else if j.w 4 % 16 ≠ 1 then d.cmd aseq 0x0801 fun _ d => d.complete aseq St.cmdParam
    else match d.bufIn j (j.bref 5) with
      | .error st => d.cmd aseq 0x0801 fun _ d => d.complete aseq st
      | .ok none => d
      | .ok (some bs) => d.cmd aseq 0x0801 fun j d =>
        let c := d.chan j.chan
        let live := match c.challenge with
          | some (_, t) => decide (d.now ≤ t)
          | none => false
        let h := sha384 (bs.take 97)
        let known := !d.ownerSet || h.flatMap (bytesBE 4) == d.inForce 3
        if live = true ∧ sig = true ∧ 193 ≤ bs.length ∧ known = true then
          (d.setChan j.chan { c with auth := true, owner := h }).complete aseq St.ok
        else (d.set R.SEC_ERR_OWNER_FAIL).complete aseq St.ownerAuthFail

/-- OWNER_AUTH_AUDIT_READ: the 64 entries of the audit log, those not burned as zeros. -/
def ownerAuthAuditRead (aseq : Nat) (d : Dev) : Dev :=
  match d.job? aseq with
  | none => d
  | some j =>
    if j.w 4 % 16 ≠ 2 then d
    else d.cmd aseq 0x0801 fun j d =>
      let es := (List.range 64).flatMap fun k => d.sec.audit.get k (List.replicate 8 0)
      d.bufOut j (j.bref 5) (es.flatMap (bytesLE 4)) St.ok

/-! ### KEY_INSTALL (R542, R543) -/

/-- Whether the key store has a slot. -/
def keySlotOk (k : Nat) : Bool := k < 34 || (48 ≤ k && k < 64)

/-- KEY_INSTALL: `sig` says that the signature after the key verifies under the key that the slot holds. -/
def keyInstall (aseq : Nat) (sig : Bool) (d : Dev) : Dev :=
  match d.job? aseq with
  | none => d
  | some j => match d.bufIn j (j.bref 6) with
    | .error st => d.cmd aseq 0x0804 fun _ d => d.complete aseq st
    | .ok none => d
    | .ok (some bs) => d.cmd aseq 0x0804 fun j d =>
      let k := bits (j.w 4) 7 0
      let del := bitOf (j.w 4) 8
      let fm := d.chRole j.chan = 2 && decide (k < 2)
      let put (t : Tab Nat KeySlot) : Dev := d.modSec fun s => { s with keys := t, keysAt := s.keysArb }
      if keySlotOk k = false then d.complete aseq St.cmdParam
      else if fm ∧ del then d.complete aseq St.notPermitted
      else if !del ∧ bs.length < 97 then d.complete aseq St.cmdParam
      else if fm ∧ (sig = false ∨ bs.length < 193 ∨ (d.keyStore.look k).isNone) then d.complete aseq St.imgSignature
      else if del then (put (d.keyStore.del k)).complete aseq St.ok
      else (put (d.keyStore.put k { burgee := j.w 5 % 512, key := bs.take 97 })).complete aseq St.ok

/-! ### Firmware slots (R537 to R540) -/

/-- The firmware of the factory: slot A holds it (assumption log, row 35). -/
def factorySlot : FwSlot :=
  { ok := true, svn := Config.fuse 902 0 0 % 2 ^ 8, ver := Config.fuse 902 0 1 % 2 ^ 32 }

/-- A firmware slot: slot A holds the factory's firmware until it is written. -/
def Dev.fwSlot (d : Dev) (i : Nat) : FwSlot :=
  match d.sec.slots.look i with
  | some s => s
  | none => if i = 0 then factorySlot else {}

/-- The slot that is not the active one. -/
def Dev.inactive (d : Dev) : Nat := 1 - d.sec.active

/-- The status of the check of a whole slot (R537, R539): 0 when it is good. -/
def Dev.fwStatus (d : Dev) (c : FwCheck) : Nat :=
  if c.hdr = false then St.fwInvalid
  else if c.sig = false ∨ c.dig = false then St.imgSignature
  else if c.svn < d.sec.fwArb then St.antiRollback else St.ok

/-- A piece written into the inactive slot, and the slot checked with the last. -/
def Dev.stage (d : Dev) (pldm : Bool) (off : Nat) (bs : List Nat) (last : Option FwCheck) : Dev × Nat :=
  let i := d.inactive
  let x := d.fwSlot i
  let data := x.data.writeN off bs
  let r : FwSlot × Nat := match last with
    | none => ({ data := data }, St.ok)
    | some c =>
      let st := d.fwStatus c
      if st = St.ok then ({ data := data, ok := true, svn := c.svn, ver := c.ver }, st) else ({}, st)
  ((d.modSec fun s => { s with slots := s.slots.put i r.1, staging := some (pldm, d.now) }).syncSec, r.2)

/-- Whether the other path holds the staging session. -/
def Dev.stagedBy (d : Dev) (pldm : Bool) : Bool :=
  match d.sec.staging with
  | some (b, _) => b = pldm
  | none => false

/-- FW_STAGE: `c` is what the check of the whole slot finds once the last piece is in. -/
def fwStage (aseq : Nat) (c : FwCheck) (d : Dev) : Dev :=
  match d.job? aseq with
  | none => d
  | some j => match d.bufIn j (j.bref 4) with
    | .error st => d.cmd aseq 0x0805 fun _ d => d.complete aseq st
    | .ok none => d
    | .ok (some bs) => d.cmd aseq 0x0805 fun j d =>
      if d.stagedBy true then d.complete aseq St.notPermitted
      else if j.w 8 % 4096 ≠ 0 then d.complete aseq St.cmdParam
      else
        let r := d.stage false (j.w 8) bs (if bitOf (j.w 9) 0 then some c else none)
        r.1.complete aseq r.2

/-- The inactive slot named as the one to boot, and the session closed; none where the slot is empty. -/
def Dev.activate (d : Dev) : Option Dev :=
  if (d.fwSlot d.inactive).ok then
    some ((d.modSec fun s => { s with next := some d.inactive, staging := none }).syncSec)
  else none

/-- FW_ACTIVATE. -/
def fwActivate (aseq : Nat) (d : Dev) : Dev :=
  d.cmd aseq 0x0806 fun j d =>
    match d.activate with
    | none => d.complete aseq St.fwInvalid
    | some d =>
      let d := d.complete aseq St.ok
      if bitOf (j.w 4) 0 then d.startReset rlDevice 0 1 5 [] else d

/-- STAGING_SESSION_TIMEOUT: 60 s with no transfer. -/
def stagingSessionTimeout (d : Dev) : Dev :=
  match d.sec.staging with
  | some (_, t) => if t + 60000000000 ≤ d.now then (d.modSec fun s => { s with staging := none }).syncSec else d
  | none => d

/-! ### Admission (R550) -/

/-- An attested link admitted where policy says so, or the fabric manager told of the peer. -/
def Dev.tryAdmit (d : Dev) (p : Nat) : Dev :=
  let l := d.link p
  let pol := d.rd R.SEC_ADMCFG_POLICY
  if l.attState ≠ 2 ∨ d.admitted p ∨ d.bootPhase ≠ bpReady then d
  else if pol = 2 ∨ d.rdBit R.SEC_OPENADM_OPEN (p % 32) 0 (p / 32) ∨ (pol = 1 ∧ d.sec.known.look p = some l.digest) then
    d.admitPort p
  else d.sendEvent 0x0020 (p :: l.digest.take 6)

/-- LINK_ADMIT. -/
def linkAdmit (aseq : Nat) (d : Dev) : Dev :=
  d.cmd aseq 0x0203 fun j d =>
    let p := j.w 4 % 512
    let l := d.link p
    if d.formed p = false then d.complete aseq St.portInvalid
    else if bitOf (j.w 4) 9 then
      if d.linkState p ≠ lsUp ∨ (d.attestable p ∧ l.attState ≠ 2) ∨ (d.cryptReq p ∧ !(bitOf l.peerCaps 2)) then
        d.complete aseq St.notPermitted
      else (d.admitPort p).complete aseq St.ok
    else
      let d := (d.modSec fun s => { s with known := s.known.del p }).recordNew
      let d := if d.linkState p = lsUp ∨ d.linkState p = lsResync then d.toNegotiateLost p else d
      (d.modLink p fun l => { l with digest := [] }).syncPdata.complete aseq St.ok

/-! ### Peer attestation (R547 to R549, R551) -/

/-- The failure cause of an exchange, 0 for none (R549): SPDM 1.3, algorithms, chain, signatures, identity. -/
def Dev.attFault (d : Dev) (p : Nat) (r : AttResult) : Nat :=
  let rooted := match r.root with
    | none => true
    | some k => d.keyStore.any fun x => decide (48 ≤ x.1) && x.2.key = k
  if r.version = false then 2 else if r.algo = false then 3
  else if r.chain = false ∨ rooted = false then 4 else if r.sigs = false then 5
  else if nth r.digest 0 ≠ (d.lane (2 * p)).mDev then 6 else 0

/-- An exchange of a running attestation ended: it succeeds, with the link's keys made (R551) and the link admitted
or its peer reported, or its cause waits for the timeout of R549. -/
def Dev.attEnd (d : Dev) (p : Nat) (r : AttResult) : Dev :=
  if (d.link p).attState ≠ 1 ∨ (d.requester p).2 then d
  else
    let c := d.attFault p r
    if c ≠ 0 then d.modLink p fun l => { l with attCause := c }
    else
      let d := d.modLink p fun l =>
        { l with attState := 2, attCause := 0, digest := r.digest, meas := r.meas, key := true, nonceLast := 0
                 peerReq := r.crypt }
      d.syncPdata.tryAdmit p

/-- The requests that the device answers (R547). -/
def spdmRequests : List Nat := [0x84, 0xE1, 0xE3, 0x81, 0x82, 0x83, 0xE0, 0xE4, 0xE5, 0xEC, 0xE8, 0x85, 0x86]

/-- The request that follows a response in an attestation (R548): version, capabilities, algorithms, digests and
chain, KEY_EXCHANGE, FINISH, measurements. -/
def nextRequest (code : Nat) : Option Nat :=
  if code = 0x04 then some 0xE1 else if code = 0x61 then some 0xE3 else if code = 0x63 then some 0x81
  else if code = 0x01 then some 0x82 else if code = 0x02 then some 0xE4 else if code = 0x64 then some 0xE5
  else if code = 0x65 then some 0xE0 else none

/-- The session of an MCTP requester after a request. -/
def sessionAfter (st code : Nat) : Nat :=
  if code = 0xE4 then 1 else if code = 0xE5 ∧ st = 1 then 2 else if code = 0xEC then 0 else st

/-- What an SPDM message over MCTP does; the codes beyond the header are SPDM's own (assumption log, row 4). -/
def Dev.spdmMctp (d : Dev) (intf eid mtag : Nat) (m : SpdmMsg) : Dev :=
  let st := d.sec.spdm.get (intf, eid) 0
  if d.bootPhase = bpFuses ∨ (m.secured ∧ (st = 0 ∨ d.bootPhase = bpFailed)) ∨ m.code < 0x80 then d
  else if spdmRequests.contains m.code = false ∨ (m.code = 0xE8 ∧ !m.secured) then
    d.emit (.mctp intf eid mtag 5 [0x7F, 7])
  else
    let d := d.modSec fun s => { s with spdm := s.spdm.put (intf, eid) (sessionAfter st m.code) }
    d.usedFree.emit (.mctp intf eid mtag (if m.secured then 6 else 5) [m.code - 0x80, d.free % 2 ^ 32])

/-- SPDM_MESSAGE_RECEIVED. -/
def spdmMessageReceived (via : SpdmVia) (m : SpdmMsg) (d : Dev) : Dev :=
  match via with
  | .mctp intf eid mtag => d.spdmMctp intf eid mtag m
  | .vc7 pid =>
    match d.takeHub pid fun k => k.pclass = 1 && (k.typ = 2 || k.typ = 3) && k.opcode = 0x10 with
    | none => d
    | some (s, d) =>
      let p := s.ing
      if isPort p = false ∨ d.linkState p ≠ lsUp ∨ (!m.secured ∧ nth s.pkt.payload 1 ≠ m.code) then d
      else
        let d := if s.pkt.typ = 2 then
            d.sendSpdm p false (if spdmRequests.contains m.code then m.code - 0x80 else 0x7F) s.pkt.tag
          else if (d.link p).attState = 1 ∧ (d.requester p).1 then
            match nextRequest m.code with
            | some c => d.sendSpdm p true (if m.more then m.code + 0x80 else c) 0
            | none => if m.more then d.sendSpdm p true (m.code + 0x80) 0 else d
          else d
        match m.att with
        | some r => d.attEnd p r
        | none => d

/-- ATTESTATION_TIMEOUT: 20 ms without success. -/
def attestationTimeout (p : Nat) (d : Dev) : Dev :=
  let l := d.link p
  if l.attState ≠ 1 ∨ d.now < l.attAt ∨ (d.linkState p ≠ lsUp ∧ d.linkState p ≠ lsResync) then d
  else
    let c := if l.attCause = 0 then 1 else l.attCause
    let d := d.setLink p { l with attState := 3, attCause := c, attNext := d.now + 1000000000 }
    ((d.set R.SEC_ERR_ATTEST_FAIL).syncPdata).sendEvent 0x0021 [p, c]

/-- ATTESTATION_RETRY: 1 s after the failure, the link still UP. -/
def attestationRetry (p : Nat) (d : Dev) : Dev :=
  let l := d.link p
  if l.attState = 3 ∧ l.attNext ≤ d.now ∧ d.linkState p = lsUp then d.attBegin p else d

/-! ### PLDM and MCTP control (R556) -/

/-- PLDM completion codes (PRESUMED: DSP0240, DSP0267). -/
def pldmOk : Nat := 0
def pldmError : Nat := 1
def pldmBadCmd : Nat := 5
def pldmBusy : Nat := 0x81

/-- Whether the boot ROM answers a PLDM message after a failed boot (R538): firmware update alone. -/
def isUpdate : PldmMsg → Bool
  | .requestUpdate => true
  | .firmwareData _ _ _ => true
  | .activateFirmware => true
  | .cancelUpdate => true
  | _ => false

/-- PLDM_MESSAGE on an MCTP binding from an EID. -/
def pldmMessage (intf eid mtag : Nat) (m : PldmMsg) (d : Dev) : Dev :=
  let say (d : Dev) (ws : List Nat) : Dev := d.emit (.mctp intf eid mtag 1 ws)
  if d.bootPhase = bpFuses ∨ (d.bootPhase = bpFailed ∧ isUpdate m = false) then d
  else match m with
    | .base c =>
      if c = 2 then say d.usedFree [c, pldmOk, d.free % 256]
      else if c = 3 ∨ c = 5 then say d.usedFree [c, pldmOk, d.free % 2 ^ 32]
      else if c = 4 then say d [c, pldmOk, 0x25]
      else say d [c, pldmBadCmd]
    | .getPdr h => say d.usedFree [h, pldmOk, d.free % 2 ^ 32]
    | .setEventReceiver e => say (d.modSec fun s => { s with receiver := if e = 0 then none else some (intf, e) }) [pldmOk]
    | .sensor i =>
      match d.sensorVal i with
      | some v => say d [i, pldmOk, v]
      | none => say d [i, pldmError]
    | .requestUpdate =>
      if d.sec.staging.isSome then say d [pldmBusy]
      else say ((d.modSec fun s => { s with staging := some (true, d.now) }).syncSec) [pldmOk, 0]
    | .firmwareData off bs last =>
      if d.stagedBy true = false then say d [pldmError]
      else
        let r := d.stage true off bs last
        match last with
        | none => say r.1 [0x15, off + bs.length]
        | some _ => say r.1 [0x16, r.2]
    | .activateFirmware =>
      if d.stagedBy true = false then say d [pldmError]
      else match d.activate with
        | some d => say d [pldmOk]
        | none => say d [pldmError]
    | .cancelUpdate =>
      if d.stagedBy true then say ((d.modSec fun s => { s with staging := none }).syncSec) [pldmOk] else say d [pldmError]

/-- MCTP_CONTROL_MESSAGE on a binding. -/
def mctpControlMessage (intf eid mtag : Nat) (m : MctpCtl) (d : Dev) : Dev :=
  let say (d : Dev) (ws : List Nat) : Dev := d.emit (.mctp intf eid mtag 0 ws)
  if d.bootPhase = bpFuses then d
  else match m with
    | .setEid e =>
      if e = 0 ∨ e = 255 then say d [1, 2]
      else say (d.modSec fun s => { s with eids := s.eids.put intf e }) [1, 0, e]
    | .getEid => say d [2, 0, d.sec.eids.get intf 0]
    | .getTypes => say d [5, 0, 0x00, 0x01, 0x05, 0x06, 0x7F]
    | .other c => say d [c, 5]

/-! ### JTAG (R557) -/

/-- The number of an instruction in the model's record of the one in force. -/
def jtagNum : JtagOp → Nat
  | .bypass => 0
  | .idcode => 1
  | .samplePreload => 2
  | .extest => 3
  | .extestPulse => 4
  | .extestTrain => 5
  | .clamp => 6
  | .highz => 7
  | .challenge => 8
  | .unlock _ => 9
  | .debug n => 16 + n

/-- The IDCODE; the manufacturer code is fused (assumption log, row 3). -/
def Dev.idcode (d : Dev) : Nat :=
  (if d.rd R.HUB_ID_STEPPING = 0xB0 then 2 ^ 28 else 0) + 0x5120 * 2 ^ 12 + Config.fuse 901 0 0 % 2 ^ 11 * 2 + 1

/-- Whether debug instructions are unlocked. -/
def Dev.debugUnlocked (d : Dev) : Bool := d.sec.debugOpen || !d.ownerSet

/-- JTAG_INSTRUCTION; a locked debug instruction acts as BYPASS. -/
def jtagInstruction (m : JtagOp) (d : Dev) : Dev :=
  let ir (d : Dev) (n : Nat) : Dev := d.modSec fun s => { s with tapIr := n }
  match m with
  | .idcode => (ir d (jtagNum m)).emit (.jtag [d.idcode])
  | .challenge =>
    let d' := (d.modSec fun s => { s with debugChal := some d.freeCtr, tapIr := (jtagNum m) }).usedFree
    d'.emit (.jtag [d.free])
  | .unlock sig =>
    if sig ∧ d.sec.debugChal.isSome then
      (d.modSec fun s => { s with debugOpen := true, debugChal := none, tapIr := (jtagNum m) }).syncSec
    else ir d (jtagNum m)
  | .debug n => if d.debugUnlocked then ir d (16 + n) else ir d 0
  | .bypass => ir d (jtagNum m)
  | .samplePreload => ir d (jtagNum m)
  | .extest => ir d (jtagNum m)
  | .extestPulse => ir d (jtagNum m)
  | .extestTrain => ir d (jtagNum m)
  | .clamp => ir d (jtagNum m)
  | .highz => ir d (jtagNum m)

end Sys2Proof.Machine
end

