-- ==== Sys2Proof/Machine/Boot.lean ====
section
/-! DEFINITION. Bring-up (spec/18, R496 to R506; spec/21, R571; spec/14, R382) and what a DEVICE reset clears
(spec/17, R483 to R489). -/

namespace Sys2Proof.Machine

/-! ### From power to SECURE_BOOT -/

/-- What the always-on domain loads out of the fuses: the short identity (R536; assumption log, row 3), and the
counted settings (R545). -/
def Dev.loadFuses (d : Dev) : Dev :=
  ((d.wr R.HUB_SHORTID_ID (Config.fuse 903 0 0 % 2 ^ 32)).takeSettings).syncSec

/-- Hub compute powered, and its boot ROM running. -/
def Dev.hubOn (d : Dev) : Dev := ((d.freshDomain pdHub).setPd pdHub true).wr R.THD_STAT_STATE 1

/-- The rails of R566: VIN_PVq, VOE_Dq, VOE_Aq, the three of HBMq, VHUB, VAON, VNAND_Q, VPCIE, VIO18. -/
def numRails : Nat := 29

/-- BRINGUP_START: COLD_RST_N is released with every rail in range. -/
def bringupStart (d : Dev) : Dev :=
  if d.mgmt.boot.held = false ∨ (List.range numRails).any fun r => !(d.mgmt.boot.rails.contains r) then d
  else
    let d := (d.modBoot fun x => { x with held := false, phaseAt := d.now }).setPd pdAon true
    { d with mgmt := { d.mgmt with kick := d.now, heartbeat := d.now } }

/-- FUSE_LOAD_COMPLETE: FUSES ends and SECURE_BOOT begins. -/
def fuseLoadComplete (d : Dev) : Dev :=
  if d.bootPhase ≠ bpFuses ∨ d.mgmt.boot.held then d
  else (d.hubOn.loadFuses).toPhase bpSecure

/-! ### What a DEVICE reset clears (R483, R489) -/

/-- The fields of the hub that outlast a DEVICE reset: fabric time and BOOTCFG, which are always-on (R593), the
phase and kind of the start in hand, and the results held in the always-on copy of the test record (R502). -/
def keptHub : List Nat :=
  [R.HUB_FTIME_LO_T_LO, R.HUB_FTIME_HI_T_HI, R.HUB_FTCFG_UPPORT, R.HUB_FTCFG_UP_V, R.HUB_FTCFG_UPPORT2, R.HUB_FTCFG_UP2_V,
    R.HUB_FTCFG_MASTER, R.HUB_FTSTAT_STATE, R.HUB_FTSTAT_SRC_ALT, R.HUB_FTSTAT_OFFSET, R.HUB_FTSTAT_SLOT_OVERRUN,
    R.HUB_FTSTAT_LATE_REL, R.HUB_FTSTAT_CUT_OFF, R.HUB_FTSTAT_UNLOCK_SEEN, R.HUB_FTSTAT_LOCK_DISCARD,
    R.HUB_FTRATE_RATE, R.HUB_BOOTCFG_FORCE_COLD, R.HUB_BOOTCFG_QS_LEFT, R.HUB_BOOTCFG_QS_SLICE, R.HUB_BOOT_PHASE,
    R.HUB_BOOT_MODE, R.HUB_TMAPEFF_SITE, R.HUB_YIELD_TILES_OK, R.HUB_YIELD_STACKS_FAILED, R.HUB_ENGDIS_LO_DIS,
    R.HUB_ENGDIS_HI_DIS].map Fld.id

/-- The fields that outlast a DEVICE reset: those, those of the always-on blocks, and the fuses. -/
def keptFields : List Nat :=
  keptHub ++ ([Blk.pwr, .flt, .rst].flatMap blkIds)
    ++ (regRows.flatMap fun r => (r.flds.filter fun f => f.acc = .fuse).map Fld.id)

/-- What is left of the memories' protection: the spare line maps and the soft-remap tables (R502). -/
def keptEcc (e : SramEcc) : SramEcc := { spares := e.spares, remapped := e.remapped }
def keptStack (s : HbmSt) : HbmSt := { remap := s.remap }

/-- Security over a DEVICE reset: sessions and challenges end, debug is locked again (R422, R544, R557). -/
def keptSec (s : Sec) : Sec :=
  { s with staging := none, eids := [], spdm := [], receiver := none, debugOpen := false, debugChal := none }

/-- The hub's and the always-on domain's state over a DEVICE reset: history, fault state, recoveries, the reset in
hand, power and bring-up stay. -/
def keptMgmt (m : Mgmt) (now : Nat) : Mgmt :=
  { hist := m.hist, eseq := m.eseq, quietAt := m.quietAt, faultSince := m.faultSince, recov := m.recov
    resets := m.resets, kick := now, heartbeat := now, hwLatch := m.hwLatch, thdDown := true
    pwr := { belowSent := m.pwr.belowSent, tripped := m.pwr.tripped, watts := m.pwr.watts, thermGate := m.pwr.thermGate
             powGate := m.pwr.powGate, lmodOff := m.pwr.lmodOff, lmodFlts := m.pwr.lmodFlts }
    recNew := m.recNew, boot := m.boot }

/-- The store controller over a DEVICE reset: the programs issued have completed (R402), and what it held is gone. -/
def keptStore (s : Store) : Store :=
  { formatted := s.formatted, clean := s.clean, opPct := s.opPct, targets := [], blocks := s.blocks
    objs := s.objs.map fun (o : Nat × Obj) => (o.1, { o.2 with sealing := none })
    nextJob := s.nextJob, nextProg := s.nextProg, wseq := s.wseq, dirty := s.dirty, recA := s.recA, recB := s.recB
    admA := s.admA, admB := s.admB, unitsIssued := s.unitsIssued, hostUnits := s.hostUnits }

/-- Every domain but always-on reset. -/
def Dev.deviceClear (d : Dev) : Dev :=
  let d := d.each (d.store.prog.map fun (p : ProgUnit) => p.id) fun d i => programComplete i true d
  let d := d.each (d.net.lanes.filter fun (l : Nat × Lane) => l.2.txOn) fun d l => d.emit (.laneTx l.1 0)
  let on := d.pdOn
  let d := { d with
    regs := d.regs.filter fun (e : RegKey × Nat) => keptFields.contains e.1.id
    counters := d.counters.filter fun (c : Nat × Nat) => !((List.range 111).any fun pd => pdCounter pd c.1)
    net := {}
    red := {}
    sram := []
    hbm := []
    ecc := d.ecc.map fun (e : Nat × SramEcc) => (e.1, keptEcc e.2) }
  let d := { d with
    hstacks := d.hstacks.map fun (s : Nat × HbmSt) => (s.1, keptStack s.2)
    tiles := []
    models := []
    tel := { life := d.tel.life }
    time := { rate := d.time.rate }
    sec := keptSec d.sec
    mgmt := keptMgmt d.mgmt d.now
    store := keptStore d.store }
  let d := d.each (List.range 110) fun d pd => d.setPd pd false
  let d := d.each ((List.range 32).filter on) fun d e => d.syncLmod e
  let d := ((d.wr R.PWR_OPSTAT_OP_CUR 0).wr R.PWR_OPSTAT_OP_TGT 0).wr R.PWR_OPSTAT_RAMPING 0
  let d := ((d.wr R.PWR_OPSTAT_LANES_STBY 0).wr R.PWR_OPSTAT_DET 0).wr R.PWR_OPSTAT_RED_CLASS 0
  (d.syncServo.hubOn).loadFuses

/-! ### SECURE_BOOT (R537) -/

/-- Whether every record of the flush is out, or the flush of a forced reset is over (R484, R488). -/
def Dev.flushed (d : Dev) : Bool :=
  d.mgmt.resets.all fun r => r.level != rlDevice || r.cleared || (d.net.recq.all fun x => x.2 = [])

/-- A firmware slot started: it becomes the active one, and Thidan runs. -/
def Dev.startFirmware (d : Dev) (i : Nat) : Dev :=
  let f := d.fwSlot i
  let d := (d.modSec fun s => { s with active := i, next := none }).syncSec
  let d := (d.wr R.SEC_STAT_SVN f.svn).wr R.HUB_FWVER_VERSION f.ver
  let d := { d with mgmt := { d.mgmt with heartbeat := d.now, thdDown := false, restartAt := none } }
  let d := if d.mgmt.hwLatch then ({ d with mgmt := { d.mgmt with hwLatch := false } }).faultEvent 0x0F 0x01 0 else d
  ((d.wr R.THD_STAT_STATE 2).toPhase bpDomains).startDomains

/-- SECURE_BOOT_COMPLETE: `goodA` and `goodB` say that the slot's signature verifies under a key that is not revoked
and its digest matches.  After a DEVICE reset's flush everything but always-on is reset first. -/
def secureBootComplete (goodA goodB : Bool) (d : Dev) : Dev :=
  if d.bootPhase ≠ bpSecure ∨ d.mgmt.boot.held ∨ d.flushed = false then d
  else
    let d := if d.devReset then d.deviceClear else d
    let first := d.sec.next.getD d.sec.active
    let good (i : Nat) : Bool :=
      (d.fwSlot i).ok && (if i = 0 then goodA else goodB) && decide (d.sec.fwArb ≤ (d.fwSlot i).svn)
    if good first then d.startFirmware first
    else if good (1 - first) then d.startFirmware (1 - first)
    else d.bootStops

/-! ### The test record (R500, R502) -/

/-- The later of two copies. -/
def newer (a b : Option TestRec) : Option TestRec :=
  match a, b with
  | some x, some y => if 0 ≤ serialDiff (2 ^ 32) x.seq y.seq then some x else some y
  | some x, none => some x
  | none, y => y

/-- The always-on copies as a test record. -/
def Dev.buildRec (d : Dev) : TestRec :=
  let x := d.mgmt.boot
  { dev := d.shortId, fuses := d.rd R.SEC_FUSE_USED, seq := x.seq, left := x.left, slice := x.slice, training := x.training
    rows := d.hstacks.map fun (s : Nat × HbmSt) => (s.1, s.2.remap)
    lines := d.ecc.map fun (e : Nat × SramEcc) => (e.1, (e.2.spares, e.2.remapped))
    sites := (List.range 8).map fun c => d.rd R.HUB_TMAPEFF_SITE 0 c
    engLo := d.rd R.HUB_ENGDIS_LO_DIS, engHi := d.rd R.HUB_ENGDIS_HI_DIS, hstacks := d.rd R.HUB_YIELD_STACKS_FAILED }

/-- The test record and the admission record written with the next SEQ, each to its older copy, while the store is
READY. -/
def Dev.writeRecords (d : Dev) : Dev :=
  let d := d.modBoot fun x => { x with seq := (x.seq + 1) % 2 ^ 32 }
  if d.nvs ≠ nsReady then d
  else
    let r := d.buildRec
    let s := d.store
    let toA := match s.recA, s.recB with
      | some a, some b => decide (serialDiff (2 ^ 32) a.seq b.seq < 0)
      | none, _ => true
      | _, none => false
    let k := some (r.seq, d.sec.known)
    d.modStore fun s => if toA then { s with recA := some r, admA := k } else { s with recB := some r, admB := k }

/-- The known-peer table of the newer admission record (R550). -/
def Store.admitted (s : Store) : Tab Nat (List Nat) :=
  match s.admA, s.admB with
  | some a, some b => if 0 ≤ serialDiff (2 ^ 32) a.1 b.1 then a.2 else b.2
  | some a, none => a.2
  | none, some b => b.2
  | none, none => []

/-- What a record says applied to the always-on copies: at a quick start all of it, at a cold start the soft-remap
tables, whose rows bring-up repairs (R379, R499). -/
def Dev.applyRec (d : Dev) (r : TestRec) (quick : Bool) : Dev :=
  let d := d.modBoot fun x => { x with seq := r.seq, left := r.left, slice := r.slice, training := r.training }
  let d := d.each r.rows fun d (x : Nat × List Nat) =>
    (d.setStack x.1 { d.stack x.1 with remap := x.2 }).wr R.HBM_SPARE_SOFT_USED x.2.length x.1
  if quick = false then d
  else
    let d := d.each r.lines fun d (x : Nat × (Tab Nat Nat × List Nat)) =>
      (d.setEcc x.1 { d.eccOf x.1 with spares := x.2.1, remapped := x.2.2 }).wr R.SRAM_MTEST_SPARES_USED
        x.2.2.length x.1
    let d := d.each ((List.range 8).zip r.sites) fun d (x : Nat × Nat) => d.wr R.HUB_TMAPEFF_SITE x.2 0 x.1
    let d := (d.wr R.HUB_ENGDIS_LO_DIS r.engLo).wr R.HUB_ENGDIS_HI_DIS r.engHi
    d.wr R.HUB_YIELD_STACKS_FAILED r.hstacks

/-! ### The tests begun (R500, R501) -/

/-- The engines whose known-answer runs a start awaits (R504), by block code and instance. -/
def Dev.katList (d : Dev) : List (Nat × Nat) :=
  ((List.range 64).filter fun t => d.pdOn (pdTile t)).map (fun t => (0x0A, t))
    ++ ((List.range 64).filter fun e => d.pdOn (pdRed (e / 16))).map (fun e => (0x08, e))
    ++ (([0, 1, 2, 3].filter fun q => d.pdOn (pdHbm q)).map fun q => (0x0C, q))
    ++ (if d.nvs = nsAbsent then [] else [(0x0D, 0)])
    ++ ([0, 1, 2, 3].flatMap fun q => [0x04, 0x05, 0x06, 0x07, 0x09].map fun b => (b, q)) ++ [(0x11, 0)]

/-- The memory tests begun once the store has been discovered: the kind of the start is decided (R500). -/
def Dev.beginTests (d : Dev) : Dev :=
  let dev := d.devReset
  let usable := d.nvs ≠ nsAbsent ∧ d.nvs ≠ nsUnformatted
  let r := if usable then newer d.store.recA d.store.recB else none
  let r := r.filter fun x => x.dev = d.shortId && x.fuses = d.rd R.SEC_FUSE_USED
  let quick := !(d.on R.HUB_BOOTCFG_FORCE_COLD) && (match r with
    | some x => decide (0 < x.left)
    | none => false)
  let mode := if dev then 3 else if quick then 2 else 1
  let d := d.wr R.HUB_BOOT_MODE mode
  let d := if dev then d
    else
      let d := d.clr R.HUB_BOOTCFG_FORCE_COLD
      let d := d.modSec fun s => { s with known := d.store.admitted }
      match r with
      | some x => d.applyRec x quick
      | none => d
  let d := d.syncYield
  let d := d.each ((List.range 110).filter d.pdOut) fun d pd => d.domainOff pd
  let d := d.each [0, 1, 2, 3] fun d q => d.syncEngines q
  let tiles := (List.range 64).filter fun t => d.pdOn (pdTile t)
  let hstacks := [0, 1, 2, 3].filter fun q => d.pdOn (pdHbm q)
  let kat := d.katList
  let d := d.modBoot fun x => { x with sram := tiles, train := hstacks, hbm := [], kat := kat, recDone := false }
  let d := (d.wr R.HUB_BOOT_PCT 0).toPhase bpMemtest
  d.each tiles fun d t => d.startMarch t d.bootMarch none

/-- NVS_DISCOVERY_COMPLETE: the targets that answered on PD 108 (R382); in bring-up the tests begin. -/
def nvsDiscoveryComplete (ts : List TargetInfo) (d : Dev) : Dev :=
  if d.mgmt.boot.discover = false ∨ d.pdOn pdNand = false then d
  else
    let d := (d.storeDiscovered ts).modBoot fun x => { x with discover := false }
    if d.bootPhase = bpDomains ∧ d.pwr.pdSteps = [] then d.beginTests else d

/-! ### HBM (R501, R503) -/

/-- HBM_TRAINING_COMPLETE: a stack has trained; a start that tests HBM begins to. -/
def hbmTrainingComplete (q : Nat) (d : Dev) : Dev :=
  if d.mgmt.boot.train.contains q = false then d
  else
    let set := d.free % 2 ^ 32
    let full := d.fullStart
    let d := d.usedFree.modBoot fun x => { x with
      train := x.train.filter fun y => y ≠ q, training := setAt x.training q set
      hbm := if full then x.hbm ++ [q] else x.hbm }
    let d := if full ∧ d.bootPhase = bpKat then d.toPhase bpMemtest else d
    d.checkTested

/-- HBM_MEMTEST_COMPLETE: the rows of a stack that failed in the march, the retention and the disturb pass, and those
that the post-package repair of a cold start has repaired. -/
def hbmMemtestComplete (q : Nat) (march retention disturb repaired : List Nat) (d : Dev) : Dev :=
  if d.mgmt.boot.hbm.contains q = false then d
  else
    let d := ((d.count 0x11 0x800 1 0 march.length).count 0x11 0x800 1 1 retention.length).count 0x11 0x800 1 2
      disturb.length
    let s := d.stack q
    let rows := (s.remap ++ march ++ retention ++ disturb).eraseDups
    let d := { d with hbm := d.hbm.put q [] }
    let d := d.modBoot fun x => { x with hbm := x.hbm.filter fun y => y ≠ q }
    let d : Dev := if 1024 < rows.length then d.failStack q
      else
        let hard := rows.filter fun r => repaired.contains r
        let rows := if d.rd R.HUB_BOOT_MODE = 1 then rows.filter fun r => !(repaired.contains r) else rows
        let d := if d.rd R.HUB_BOOT_MODE = 1 then d.wrSat R.HBM_SPARE_HARD_DONE hard.length q else d
        ((d.setStack q { s with remap := rows }).wr R.HBM_SPARE_SOFT_USED rows.length q).recordNew
    let d := if d.mgmt.boot.hbm = [] ∧ d.mgmt.boot.sram = [] ∧ d.bootPhase = bpMemtest then
        (d.wr R.HUB_BOOT_PCT 100).toPhase bpKat
      else d
    d.checkTested

/-! ### Known-answer runs (R504) -/

/-- Whether an engine's known-answer run may end now: a tile is tested first, and a stack. -/
def Boot.katReady (x : Boot) (blk i : Nat) : Bool :=
  x.kat.contains (blk, i) && !(blk = 0x0A && x.sram.contains i)
    && !(blk = 0x0C && (x.train.contains i || x.hbm.contains i))

/-- What a failed run has as its consequence. -/
def Dev.katFails (d : Dev) (blk i : Nat) : Dev :=
  let d := d.count 0x11 0x800 3 blk
  let done (d : Dev) : Dev := d.modBoot fun x => { x with kat := x.kat.filter fun y => y ≠ (blk, i) }
  if blk = 0x0A then d.siteFails i
  else if blk = 0x08 then
    let d := if i < 32 then d.wrBit R.HUB_ENGDIS_LO_DIS i true else d.wrBit R.HUB_ENGDIS_HI_DIS (i - 32) true
    done (((d.set R.HUB_BOOT_DEGRADED).recordNew).syncEngineAt i)
  else if blk = 0x0C then d.failStack i
  else if blk = 0x0D then
    done (((d.modBoot fun x => { x with nvsBad := true }).wr R.NVS_STAT_STATE nsAbsent).syncStore)
  else d.bootStops

/-- KAT_COMPLETE: the known-answer run of an engine, by block code and instance. -/
def katComplete (blk i : Nat) (ok : Bool) (d : Dev) : Dev :=
  if d.mgmt.boot.katReady blk i = false then d
  else
    let d := if ok then d.modBoot fun x => { x with kat := x.kat.filter fun y => y ≠ (blk, i) } else d.katFails blk i
    d.checkTested

/-! ### RECORD and READY (R502, R506) -/

/-- TEST_RECORD_WRITTEN: a cold start gives 8 quick starts, a quick start takes one. -/
def testRecordWritten (d : Dev) : Dev :=
  if d.bootPhase ≠ bpRecord ∨ d.mgmt.boot.recDone then d
  else
    let cold := d.rd R.HUB_BOOT_MODE = 1
    let d := d.modBoot fun x => { x with
      recDone := true
      left := if cold then 8 else x.left - 1
      slice := if cold then 0 else (x.slice + 1) % 8 }
    let d := (d.wr R.HUB_BOOTCFG_QS_LEFT d.mgmt.boot.left).wr R.HUB_BOOTCFG_QS_SLICE d.mgmt.boot.slice
    ({ d with mgmt := { d.mgmt with recNew := none } }).writeRecords

/-- DEVICE_READY: Thidan takes commands, the links that R550 admits at once are admitted, and a DEVICE reset is
released. -/
def deviceReady (d : Dev) : Dev :=
  let go := (d.bootPhase = bpRecord && d.mgmt.boot.recDone)
    || (d.devReset && (d.bootPhase = bpKat || d.bootPhase = bpMemtest) && d.mgmt.boot.tested)
  if go = false then d
  else
    let d := (d.toPhase bpReady).modBoot fun x => { x with fails := 0 }
    let d := if d.store.uncleanEvt then (d.modStore fun s => { s with uncleanEvt := false }).faultEvent 0x0D 0x05 0 else d
    let d := match d.mgmt.resets.find? fun r => r.level = rlDevice with
      | some r => d.releaseReset r
      | none => d
    d.each (List.range 512) fun d p => d.tryAdmit p

/-- TEST_RECORD_SYNC: within 10 s what has changed in service reaches the store, while it is READY (R502, R550). -/
def testRecordSync (d : Dev) : Dev :=
  if d.mgmt.recNew.isNone ∨ d.nvs ≠ nsReady then d
  else ({ d with mgmt := { d.mgmt with recNew := none } }).writeRecords

/-! ### COLD_RST_N (R571, R572, R580) -/

/-- What outlasts a power-on: fuses, the boot flash and the NAND. -/
def coldSec (s : Sec) : Sec :=
  { slots := s.slots, active := s.active, next := s.next, fwArb := s.fwArb, keysArb := s.keysArb, keys := s.keys
    keysAt := s.keysAt, changes := s.changes, audit := s.audit }

/-- What the NAND holds. -/
def coldStore (s : Store) : Store :=
  let s := keptStore s
  { s with blocks := s.blocks.map fun (b : (Nat × Nat) × NBlock) => (b.1, { b.2 with sampled := 0 }) }

/-- The levels at pins that a power-on does not change: rails, references, module faults; and FORCE_COLD, which the
next start takes (R500). -/
def coldFields : List Nat :=
  [R.PWR_RAILMON_VIN_OK, R.PWR_RAILMON_VOE_D_OK, R.PWR_RAILMON_VOE_A_OK, R.PWR_RAILMON_HBM_OK, R.PWR_RAILMON_VHUB_OK,
    R.PWR_RAILMON_VAON_OK, R.PWR_RAILMON_VNAND_Q_OK, R.PWR_RAILMON_VPCIE_OK, R.PWR_RAILMON_VIO18_OK,
    R.PWR_RAILMON_PFAIL_PIN, R.PWR_CLKSTAT_PHY_OK, R.PWR_CLKSTAT_FT_OK, R.PWR_CLKSTAT_PCIE_OK, R.PWR_LMOD_FLT,
    R.HUB_BOOTCFG_FORCE_COLD].map Fld.id

/-- The effect of a power-on, with COLD_RST_N held: every output is released, and all but what outlasts power is as
at reset. -/
def Dev.coldReset (d : Dev) : Dev :=
  let d := (d.each (maskBits (d.rd R.PWR_LMOD_EN) 16) fun d m => d.emit (.pin (16 + m) 0)).each
    (d.net.lanes.filter fun (l : Nat × Lane) => l.2.txOn) fun d l => d.emit (.laneTx l.1 0)
  let d := (d.emit (.pin 0 1)).emit (.pin 1 1)
  let fresh : Dev := { freeCtr := d.freeCtr, out := d.out }
  { fresh with
    regs := d.regs.filter fun (e : RegKey × Nat) => coldFields.contains e.1.id
    sec := coldSec d.sec
    store := coldStore d.store
    mgmt := { boot := { rails := d.mgmt.boot.rails } } }

/-- COLD_RESET_ASSERTED; held off while the store finishes its programs (R580). -/
def coldResetAsserted (d : Dev) : Dev :=
  match d.store.holdup with
  | some t => if d.now < t + 2500000 then d.modBoot fun x => { x with cold := true } else d.coldReset
  | none => d.coldReset

end Sys2Proof.Machine
end

