-- ==== Sys2Proof/Machine/Pins.lean ====
section
/-! DEFINITION. The supply rails, the power-fail input and the reference clocks (spec/21, R566 to R570 and R580;
spec/14, R402). -/

namespace Sys2Proof.Machine

/-! ### Rails (R566, R568) -/

/-- PWR.RAILMON's bits of the rails: VIN_OK, VOE_D_OK, VOE_A_OK and HBM_OK hold one bit for each quadrant, HBM_OK's set
while all three rails of the stack are in range. -/
def Dev.syncRails (d : Dev) : Dev :=
  let up (r : Nat) : Bool := d.mgmt.boot.rails.contains r
  let four (f : Nat → Bool) : Nat := maskOf ([0, 1, 2, 3].filter f)
  let d := d.wr R.PWR_RAILMON_VIN_OK (four fun q => up q)
  let d := d.wr R.PWR_RAILMON_VOE_D_OK (four fun q => up (4 + q))
  let d := d.wr R.PWR_RAILMON_VOE_A_OK (four fun q => up (8 + q))
  let d := d.wr R.PWR_RAILMON_HBM_OK (four fun q => up (12 + 3 * q) && up (13 + 3 * q) && up (14 + 3 * q))
  let d := (d.wr R.PWR_RAILMON_VHUB_OK (b2n (up 24))).wr R.PWR_RAILMON_VAON_OK (b2n (up 25))
  let d := (d.wr R.PWR_RAILMON_VNAND_Q_OK (b2n (up 26))).wr R.PWR_RAILMON_VPCIE_OK (b2n (up 27))
  d.wr R.PWR_RAILMON_VIO18_OK (b2n (up 28))

/-- RAIL_IN_RANGE: a rail enters its recommended range. -/
def railInRange (r : Nat) (d : Dev) : Dev :=
  if numRails ≤ r ∨ d.mgmt.boot.rails.contains r then d
  else (d.modBoot fun x => { x with rails := x.rails ++ [r] }).syncRails

/-! ### The power-fail sequence (R402, R567, R568, R580) -/

/-- The start of R402: READY is left, nothing new starts, and what is in progress but the issued programs is
abandoned.  While one sequence runs no second one starts. -/
def Dev.powerFail (d : Dev) : Dev :=
  if d.store.holdup.isSome then d
  else
    let d := (d.count 0x0D 0 0 4).clr R.NVS_STAT_HOLDUP_DONE
    let d := d.modStore fun s => { s with holdup := some d.now }
    let d := d.stopStore
    if d.nvs = nsAbsent then d else d.wr R.NVS_STAT_STATE nsPowerFail

/-- PWRFAIL_ASSERTED. -/
def pwrfailAsserted (d : Dev) : Dev :=
  if d.on R.PWR_RAILMON_PFAIL_PIN then d
  else
    let d := d.set R.PWR_RAILMON_PFAIL_PIN
    if d.mgmt.boot.held then d else (d.set R.PWR_RAILMON_PFAIL_SEEN).powerFail

/-- PWRFAIL_DEASSERTED: the store stays POWER_FAIL (R580). -/
def pwrfailDeasserted (d : Dev) : Dev := d.clr R.PWR_RAILMON_PFAIL_PIN

/-- RAIL_UNDERVOLTAGE: a rail below its minimum for 2 µs; the sequence starts unless PWRFAIL_N is asserted, and both
SEEN bits are set when the two come at one time (R568, R580). -/
def railUndervoltage (r : Nat) (d : Dev) : Dev :=
  if d.mgmt.boot.rails.contains r = false then d
  else
    let d := (d.modBoot fun x => { x with rails := x.rails.filter fun y => y ≠ r }).syncRails
    if d.mgmt.boot.held ∨ (d.on R.PWR_RAILMON_PFAIL_PIN ∧ d.store.holdup ≠ some d.now) then d
    else ((d.set R.PWR_RAILMON_UV_SEEN).pend R.PWR_IPEND_UV).powerFail

/-- HOLDUP_DONE: every program issued has completed, or 2.5 ms have passed and the others are lost; the controller does
nothing further.  A COLD_RST_N that was held off takes effect (R580). -/
def holdupDone (d : Dev) : Dev :=
  match d.store.holdup with
  | none => d
  | some t =>
    if d.store.prog ≠ [] ∧ d.now < t + 2500000 then d
    else
      let d := (d.dropPrograms.modStore fun s => { s with holdup := none }).set R.NVS_STAT_HOLDUP_DONE
      if d.mgmt.boot.cold then d.coldReset else d

/-! ### Reference clocks (R569, R570) -/

/-- REFCLK_PHY lost at a lane: its transmitter stops, and it fails in service or in its attempt (R81, R75); the spec
gives the loss no FAIL_CAUSE of its own, so the cause is a free value. -/
def Dev.lanePhyLost (d : Dev) (x : Nat) : Dev :=
  let s := d.laneState x
  let tx := (d.lane x).txOn
  let stop (d : Dev) : Dev :=
    if tx then (d.modLane x fun l => { l with txOn := false }).emit (.laneTx x 0) else d
  if d.inService x ∨ s = laStandby then
    let cause := d.free % 16
    stop (d.usedFree.failLane x cause)
  else if s = laTraining then
    let cause := d.free % 16
    stop (d.usedFree.failStep x cause true)
  else if s = laWaitLight then stop (d.modLane x fun l => { l with retryAt := some (d.now + 10000000) })
  else stop d

/-- The source of the counter: REFCLK_FT, REFCLK_PHY when that is lost, the internal oscillator when both are; a device
in LOCKED passes to ACQUIRE then. -/
def Dev.ftSource (d : Dev) : Dev :=
  if d.on R.PWR_CLKSTAT_PHY_OK then d.wr R.PWR_CLKSTAT_FT_SRC 1
  else
    let d := d.wr R.PWR_CLKSTAT_FT_SRC 2
    if d.rd R.HUB_FTSTAT_STATE = 2 then d.setServo 1 else d

/-- REFCLK_LOSS: reference 0 is REFCLK_PHY, 1 REFCLK_FT, 2 PCIE_REFCLK. -/
def refclkLoss (which : Nat) (d : Dev) : Dev :=
  if which = 0 then
    if d.on R.PWR_CLKSTAT_PHY_OK = false then d
    else
      let d := (d.clr R.PWR_CLKSTAT_PHY_OK).set R.PWR_CLKSTAT_PHY_LOST_SEEN
      let d := d.pend R.PWR_IPEND_CLK_LOST
      let d := d.each (List.range 1024) fun d x => d.lanePhyLost x
      if d.rd R.PWR_CLKSTAT_FT_SRC = 1 then d.ftSource else d
  else if which = 1 then
    if d.on R.PWR_CLKSTAT_FT_OK = false then d
    else
      let d := (d.clr R.PWR_CLKSTAT_FT_OK).set R.PWR_CLKSTAT_FT_LOST_SEEN
      (d.pend R.PWR_IPEND_CLK_LOST).ftSource
  else if which = 2 then
    if d.on R.PWR_CLKSTAT_PCIE_OK = false then d
    else ((d.clr R.PWR_CLKSTAT_PCIE_OK).set R.PWR_CLKSTAT_PCIE_LOST_SEEN).pend R.PWR_IPEND_CLK_LOST
  else d

/-- REFCLK_FT_RETURN: REFCLK_FT has been present for 10 ms, and the counter returns to it. -/
def refclkFtReturn (d : Dev) : Dev := (d.set R.PWR_CLKSTAT_FT_OK).wr R.PWR_CLKSTAT_FT_SRC 0

/-- REFCLK_RETURN: REFCLK_PHY (0) or PCIE_REFCLK (2) shows edges again; lanes are retried from now on, and a counter
on the internal oscillator continues on REFCLK_PHY. -/
def refclkReturn (which : Nat) (d : Dev) : Dev :=
  if which = 0 then
    let d := d.set R.PWR_CLKSTAT_PHY_OK
    if d.rd R.PWR_CLKSTAT_FT_SRC = 2 then d.wr R.PWR_CLKSTAT_FT_SRC 1 else d
  else if which = 2 then d.set R.PWR_CLKSTAT_PCIE_OK
  else d

end Sys2Proof.Machine
end

