-- ==== Sys2Proof/Machine/RegWrite.lean ====
section
/-! DEFINITION. Accesses to BAR0: the map of registers, writes under their access codes and locks, and the reads that
latch (spec/22, R581 to R594; spec/00, R9, R10; spec/15, R423). -/

namespace Sys2Proof.Machine

/-! ### The map (R581 to R583, R593) -/

/-- A register found in the map: its row, the instance of its block and its element.  The tables of spec/06 give the
addresses of RTE.LDOWN and RTE.PEERMM to the windows 16 to 23 as well, and there the first two are found (DESIGN
CHOICE, log entry 116). -/
def regIn (b : Blk) (inst o : Nat) : Option (RegRow × Nat × Nat) :=
  regRows.findSome? fun (r : RegRow) =>
    if r.blk ≠ b ∨ o < r.off then none
    else
      let k := if r.stride = 0 then 0 else (o - r.off) / r.stride
      if k < r.count ∧ o = r.off + r.stride * k then some (r, inst, k) else none

/-- A queue's register: the element is the virtual channel. -/
def queueReg (b : Blk) (inst o : Nat) : Option (RegRow × Nat × Nat) :=
  (regIn b inst (o % 0x20)).map fun x => (x.1, x.2.1, o / 0x20)

/-- The hub window (R582). -/
def hubReg (o : Nat) : Option (RegRow × Nat × Nat) :=
  if o < 0x2000 then regIn .hub 0 o
  else if o < 0x3000 then regIn .pwr 0 (o - 0x2000)
  else if o < 0x5000 then regIn .thd 0 (o - 0x3000)
  else if o < 0x6000 then regIn .sec 0 (o - 0x5000)
  else if o < 0x7000 then regIn .mbx 0 (o - 0x6000)
  else if o < 0x7800 then regIn .flt 0 (o - 0x7000)
  else if o < 0x8000 then regIn .rst 0 (o - 0x7800)
  else if 0x10000 ≤ o ∧ o < 0x90000 then regIn .mbxw ((o - 0x10000) / 0x1000) (o % 0x1000)
  else none

/-- A quadrant window (R583): the attach queues are those of the codes 0 to 4, and RG's is on VC1 alone. -/
def quadReg (q o : Nat) : Option (RegRow × Nat × Nat) :=
  let x := o % 0x10000
  if o < 0x10000 then regIn .xbar q x
  else if o < 0x20000 then regIn .bpm q x
  else if o < 0x30000 then
    if x < 0x8000 then regIn .lnk (128 * q + x / 0x100) (x % 0x100) else none
  else if o < 0x40000 then
    if x < 0x1000 then regIn .ring (128 * q + x / 0x20) (x % 0x20) else none
  else if o < 0x50000 then regIn .rte q x
  else if o < 0x60000 then regIn .schg q x
  else if o < 0x68000 then queueReg .schq (128 * q + x / 0x100) (x % 0x100)
  else if o < 0x70000 then
    let a := (o - 0x68000) / 0x100
    if 4 < a ∨ (a = 4 ∧ x % 0x100 / 0x20 ≠ 1) then none else queueReg .scha (8 * q + a) (x % 0x100)
  else if o < 0x80000 then regIn .red q x
  else if o < 0x90000 then regIn .col q x
  else none

/-- A compute-die window (R583). -/
def dieReg (c o : Nat) : Option (RegRow × Nat × Nat) :=
  let t := 8 * c + o / 0x10000
  if 0x80000 ≤ o then none
  else if o % 0x10000 < 0x8000 then regIn .tile t (o % 0x10000)
  else regIn .sram t (o % 0x10000 - 0x8000)

/-- The register at an offset of the PF's BAR0 (R581). -/
def pfReg (o : Nat) : Option (RegRow × Nat × Nat) :=
  if o < 0x800000 then hubReg o
  else if o < 0x1000000 then regIn .oe ((o - 0x800000) / 0x40000) (o % 0x40000)
  else if o < 0x1400000 then quadReg ((o - 0x1000000) / 0x100000) (o % 0x100000)
  else if o < 0x2000000 then none
  else if o < 0x2800000 then dieReg ((o - 0x2000000) / 0x100000) (o % 0x100000)
  else if o < 0x3000000 then none
  else if o < 0x3100000 then regIn .hbm ((o - 0x3000000) / 0x40000) (o % 0x40000)
  else if o < 0x3400000 then none
  else if o < 0x3500000 then regIn .nvs 0 (o - 0x3400000)
  else if o < 0x3F00000 then none
  else if o < 0x4000000 then regIn .tel 0 (o - 0x3F00000)
  else none

/-- The MSI-X tables and their pending bits, whose contents are PCIe's (R428, R581, R582). -/
def isMsix (fn o : Nat) : Bool :=
  if fn = 0 then decide (0x100000 ≤ o) && decide (o < 0x108000) else decide (0x800 ≤ o) && decide (o < 0xA00)
def isPba (fn o : Nat) : Bool :=
  if fn = 0 then decide (0x108000 ≤ o) && decide (o < 0x108100) else decide (0xA00 ≤ o) && decide (o < 0xA04)

/-- The register at an offset of a function's BAR0: a VF has the windows of its first four channels (R423). -/
def Dev.regAt (d : Dev) (fn o : Nat) : Option (RegRow × Nat × Nat) :=
  if fn = 0 then pfReg o
  else match (((List.range 128).filter fun c => d.boundTo c fn).take 4)[o / 0x1000]? with
    | some ch => regIn .mbxw ch (o % 0x1000)
    | none => none

/-- The power domain of a register (R593). -/
def regPd (r : RegRow) (inst : Nat) : Nat :=
  match r.blk with
  | .hub =>
    if r.flds.any fun f => [R.HUB_FTIME_LO_T_LO, R.HUB_FTIME_HI_T_HI, R.HUB_FTCFG_UPPORT, R.HUB_FTSTAT_STATE,
      R.HUB_FTRATE_RATE, R.HUB_BOOTCFG_FORCE_COLD].any fun g => g.id = f.id then pdAon else pdHub
  | .pwr | .flt | .rst => pdAon
  | .thd | .sec | .mbx | .mbxw | .nvs | .tel => pdHub
  | .oe => pdOe inst
  | .xbar | .bpm | .rte | .schg | .red | .col => pdQuad inst
  | .lnk | .ring | .schq => pdQuad (inst / 128)
  | .scha => pdQuad (inst / 8)
  | .tile | .sram => pdTile inst
  | .hbm => pdHbm inst

/-- The bit of HUB.LOCK of a block that holds RWL fields (R510, R590). -/
def lockBit (b : Blk) : Option Nat :=
  match b with
  | .hub => some 0
  | .sec => some 1
  | .pwr => some 2
  | .flt => some 3
  | .thd => some 4
  | .mbx => some 5
  | .oe => some 6
  | .lnk => some 7
  | .bpm => some 9
  | .rte => some 10
  | .schg | .schq | .scha => some 11
  | .red => some 12
  | .hbm => some 16
  | .nvs => some 19
  | .mbxw | .ring | .rst | .xbar | .col | .tile | .sram | .tel => none

/-- Whether a block's lock is set; MBX's is that of the channel table (R420). -/
def Dev.blkLocked (d : Dev) (b : Blk) : Bool :=
  match lockBit b with
  | none => false
  | some n => if b = .mbx then d.on R.MBX_CTL_LOCK else d.rdBit R.HUB_LOCK_LOCKED n

/-- A write to an RWL field discarded after the lock: the bit of the table of R590 and that of HUB.LOCKDISC. -/
def Dev.lockDiscard (d : Dev) (r : RegRow) (inst : Nat) : Dev :=
  let has (f : Fld) : Bool := r.flds.any fun g => g.id = f.id
  let d := match r.blk with
    | .hub => if has R.HUB_FTCFG_UPPORT then d.set R.HUB_FTSTAT_LOCK_DISCARD else d
    | .pwr => d.set R.PWR_ERR_LOCK_DISCARD
    | .thd => d.set R.THD_SERVEERR_LOCK_DISCARD
    | .sec => d.set R.SEC_ERR_LOCK_DISCARD
    | .mbx => d.set R.MBX_CTL_LOCK_DISCARD
    | .flt => d.set R.FLT_ERR_LOCK_DISCARD
    | .bpm => d.set R.BPM_PSTAT_LOCK_DISCARD inst
    | .rte => d.set R.RTE_ERR_LOCK_DISCARD inst
    | .schg => d.set R.SCH_ERR_LOCK_DISCARD inst
    | .schq => d.set R.SCH_ERR_LOCK_DISCARD (inst / 128)
    | .scha => d.set R.SCH_ERR_LOCK_DISCARD (inst / 8)
    | .red => d.set R.RED_ERR_LOCK_DISCARD inst
    | .hbm => d.set R.HBM_ERR_LOCK_DISCARD inst
    | .nvs => d.set R.NVS_ERR_LOCK_DISCARD
    | _ => d
  match lockBit r.blk with
  | some n => d.wrBit R.HUB_LOCKDISC_DISC n true
  | none => d

/-! ### Accesses that reach no register (R584 to R586) -/

/-- Whether accesses of a function to its BAR0 reach the device. -/
def Dev.barOn (d : Dev) (fn : Nat) : Bool := !(d.mgmt.d3hot.contains fn) && d.pdOn pdPcie && d.pdOn pdHub

/-- A bit of HUB.ERR set, HUB.ERRADDR with the first. -/
def Dev.barErr (d : Dev) (f : Fld) (o : Nat) : Dev :=
  let d := if d.on R.HUB_ERRADDR_VALID then d else (d.wr R.HUB_ERRADDR_OFFSET o).set R.HUB_ERRADDR_VALID
  d.set f

/-! ### Fields (R9) -/

/-- Whether a field of an element takes a host write at all: VC7's shaper and those of the attach queues read 0. -/
def takesWrite (r : RegRow) (k : Nat) : Bool :=
  !(k = 7 && r.flds.any fun f => f.id = R.SCH_QSHAPE_RATE.id)
    && !(r.flds.any fun f => f.id = R.SCH_AQSHAPE_RATE.id)

/-- One field written under its access code; WO fields act below. -/
def Dev.writeFld (d : Dev) (f : Fld) (v inst k : Nat) (locked : Bool) : Dev :=
  match f.acc with
  | .rw => d.wr f (storeVal f v) inst k
  | .rwl => if locked then d else d.wr f (storeVal f v) inst k
  | .rw1c => d.wr f (d.rd f inst k - (d.rd f inst k &&& v)) inst k
  | .rw1s => d.wr f (d.rd f inst k ||| v) inst k
  | .ro | .wo | .fuse => d

/-- The fields of a register written with a word. -/
def Dev.writeFlds (d : Dev) (r : RegRow) (inst k w : Nat) : Dev :=
  let locked := d.blkLocked r.blk
  if takesWrite r k = false then d
  else
    let d := d.each r.flds fun d (f : Fld) => d.writeFld f (w / 2 ^ f.lo % 2 ^ f.w) inst k locked
    if locked ∧ (r.flds.any fun f => f.acc = .rwl) then d.lockDiscard r inst else d

/-! ### What follows a field's new value -/

/-- OE.PFORM written in laboratory bring-up: the ports that it reforms go down first, and their lanes start anew
(R66, R71, R510). -/
def Dev.reform (d d' : Dev) : Dev :=
  let ps := d.reformed d'
  let lanes := (ps.flatMap fun p => d.portLanes p ++ d'.portLanes p).eraseDups
  let d := d.each (ps.filter d.formed) fun d p => d.portDown p
  let d := d.each ([R.OE_PFORM_X4, R.OE_PFORM_X8, R.OE_PFORM_HALF]) fun d (f : Fld) =>
    d.each (List.range 32) fun d e => if d.rd f e = d'.rd f e then d else d.wr f (d'.rd f e) e
  d.each (lanes.filter fun x => d.pdOn (pdOe (x / 32))) fun d x =>
    ((d.setLaneState x laOff).modLane x fun _ => {}).emit (.laneTx x 0)

/-- Exceptions' and resets' records of a tile follow their bits of TILE.ERR (R332, R334). -/
def Dev.tileErrCleared (d : Dev) (t w : Nat) : Dev :=
  let d := if bitOf w R.TILE_ERR_UNHANDLED.lo then d.clr R.TILE_EXC0_VALID t else d
  if bitOf w R.TILE_ERR_RESET_SEEN.lo then d.clr R.TILE_RSTREC0_VALID t else d

/-- What depends on a register brought up to date after a write of `w`; `was` is the device before it. -/
def Dev.afterWrite (d was : Dev) (r : RegRow) (inst k w : Nat) : Dev :=
  let has (f : Fld) : Bool := r.flds.any fun g => g.id = f.id
  if has R.HUB_FTCFG_UPPORT then d.syncServo
  else if has R.OE_PFORM_X4 then was.reform d
  else if has R.LNK_CFG_REPLAY_TO then
    d.wrSat R.LNK_CFG_REPLAY_TO (max (d.rd R.LNK_CFG_REPLAY_TO inst) (d.replayFloor inst)) inst
  else if has R.BPM_PCFG_EN then d.each (List.range 4) fun d k => d.syncPool inst k
  else if has R.RTE_HCFG_SALT then d.syncRteStat
  else if has R.HBM_AREA_WIN ∨ has R.RED_SCRATCH_SIZE then d.syncMap
  else if has R.THD_MCACHE_SIZE then
    (if d.rd R.HUB_YIELD_STACKS_FAILED ≠ 0 then d.wr R.THD_MCACHE_SIZE 0 else d).syncMap.syncModels
  else if has R.THD_MDLACC_SLOT then d.syncMdlData
  else if has R.SEC_PACC_PORT then d.syncPdata
  else if has R.PWR_QMARGIN_MARGIN then (if bitOf w 31 then d.wr R.PWR_QMARGIN_MARGIN_MIN 0x3FF 0 k else d)
  else if has R.TILE_ERR_UNHANDLED then d.tileErrCleared inst w
  else if has R.HUB_ERR_UNMAPPED then
    if d.on R.HUB_ERR_UNMAPPED || d.on R.HUB_ERR_PARTIAL_WR || d.on R.HUB_ERR_OFF_ACCESS then d
    else d.clr R.HUB_ERRADDR_VALID
  else if has R.HUB_IEN_PWR_EN ∨ has R.PWR_IEN_WARN then d.irq was.irqMask
  else if has R.PWR_IPEND_WARN then
    d.irq was.irqMask ([R.PWR_IPEND_WARN, R.PWR_IPEND_THROTTLE, R.PWR_IPEND_BELOW_LINE, R.PWR_IPEND_PV_FAULT,
      R.PWR_IPEND_UV, R.PWR_IPEND_CLK_LOST].any fun f => was.on f && !(d.on f))
  else if has R.FLT_STAT_FAULT_SEEN then
    d.irq was.irqMask ([R.FLT_STAT_FAULT_SEEN, R.FLT_STAT_STRUCK_SEEN].any fun f => was.on f && !(d.on f))
  else d

/-! ### Retraining by register (R512) -/

/-- OE.LCTL.RETRAIN: a lane in service is retrained; a request for the last active lane of its port, or for a lane
that is not ACTIVE, is ignored and counted. -/
def Dev.lctlRetrain (d : Dev) (x : Nat) : Dev :=
  let others := (d.portLanes (d.lanePort x)).filter fun y => y ≠ x
  if d.laneState x ≠ laActive ∨ (others.all fun y => d.laneState y ≠ laActive && d.laneState y ≠ laRetrain) then
    d.modLane x fun l => { l with lctlIgnored := l.lctlIgnored + 1 }
  else d.askRetrain x

/-- HBM.CTL.RETRAIN: the sequence of R378, unless the stack's retraining runs or the stack is in its test. -/
def Dev.hbmCtlRetrain (d : Dev) (q : Nat) : Dev :=
  if d.mgmt.boot.train.contains q ∨ d.mgmt.boot.hbm.contains q then d else d.startRetrain q

/-- OE_LCTL_RETRAIN_WRITE: a write of 1 for logical lane `x`. -/
def oeLctlRetrainWrite (x : Nat) (d : Dev) : Dev :=
  if d.barOn 0 = false then d
  else if d.pdOn (pdOe (x / 32)) = false then
    d.barErr R.HUB_ERR_OFF_ACCESS (0x800000 + x / 32 * 0x40000 + 0x100C + 64 * (x % 32))
  else d.lctlRetrain x

/-- HBM_CTL_RETRAIN_WRITE: a write of 1 for a stack. -/
def hbmCtlRetrainWrite (q : Nat) (d : Dev) : Dev :=
  if d.barOn 0 = false then d
  else if d.pdOn (pdHbm q) = false then d.barErr R.HUB_ERR_OFF_ACCESS (0x3000000 + q * 0x40000 + 0x1C)
  else d.hbmCtlRetrain q

/-! ### Clearing a tile's error bits (R332, R334) -/

/-- A bit of TILE.ERR of tile `t` cleared by a write of 1. -/
def Dev.tileErrWrite (d : Dev) (t : Nat) (f : Fld) : Dev :=
  if d.barOn 0 = false then d
  else if d.pdOn (pdTile t) = false then
    d.barErr R.HUB_ERR_OFF_ACCESS (0x2000000 + t / 8 * 0x100000 + t % 8 * 0x10000 + 0x20)
  else (d.clr f t).tileErrCleared t (2 ^ f.lo)

/-- TILE_ERR_UNHANDLED_CLEAR. -/
def tileErrUnhandledClear (t : Nat) (d : Dev) : Dev := d.tileErrWrite t R.TILE_ERR_UNHANDLED

/-- TILE_ERR_RESET_SEEN_CLEAR. -/
def tileErrResetSeenClear (t : Nat) (d : Dev) : Dev := d.tileErrWrite t R.TILE_ERR_RESET_SEEN

/-! ### REGISTER_WRITE -/

/-- A register of a channel window written (R420 to R428). -/
def Dev.writeWindow (d : Dev) (fn : Nat) (r : RegRow) (ch k w : Nat) : Dev :=
  let has (f : Fld) : Bool := r.flds.any fun g => g.id = f.id
  if has R.MBX_SEND_DATA then mbxDoorbellWrite fn ch true d
  else if has R.MBX_DOORBELL_RING then mbxDoorbellWrite fn ch false d
  else if has R.MBX_CPL_HEAD_N then mbxCplHeadWrite fn ch (w % 64) d
  else d.windowWrite fn ch fun d =>
    let d := d.writeFlds r ch k w
    if has R.MBX_IEN_EMPTY_ARM then d.emptyMsg ch else d

/-- One register of one function written with a word. -/
def Dev.writeReg (d : Dev) (fn o w : Nat) : Dev :=
  if isPba fn o then d
  else if isMsix fn o then { d with mgmt := { d.mgmt with msix := d.mgmt.msix.put (fn, o / 4) w } }
  else match d.regAt fn o with
    | none => d.barErr R.HUB_ERR_UNMAPPED o
    | some (r, inst, k) =>
      if d.pdOn (regPd r inst) = false then d.barErr R.HUB_ERR_OFF_ACCESS o
      else
        let has (f : Fld) : Bool := r.flds.any fun g => g.id = f.id
        if r.blk = .mbxw then d.writeWindow fn r inst k w
        else if has R.MBX_CTL_LOCK then
          let d := d.writeFlds r inst k w
          if bitOf w R.MBX_CTL_LOCK.lo then d.lockTable else d
        else if has R.MBX_CTAB_A_ENTRY_A then
          if d.blkLocked .mbx then d.lockDiscard r inst else d.bindChan k w (d.rd R.MBX_CTAB_B_ENTRY_B 0 k)
        else if has R.MBX_CTAB_B_ENTRY_B then
          if d.blkLocked .mbx then d.lockDiscard r inst else d.bindChan k (d.rd R.MBX_CTAB_A_ENTRY_A 0 k) w
        else if has R.OE_LCTL_RETRAIN then (if bitOf w 0 then d.lctlRetrain (32 * inst + k) else d)
        else if has R.HBM_CTL_RETRAIN then (if bitOf w 0 then d.hbmCtlRetrain inst else d)
        else (d.writeFlds r inst k w).afterWrite d r inst k w

/-- REGISTER_WRITE: a memory write of a function (0 the PF) to its BAR0 of `len` bytes from `off`; `whole` says that
every byte enable is set, and `w0` and `w1` are the words at the lower and the higher address.  4 B aligned to 4 and
8 B aligned to 8 reach registers; within one DWORD a write is partial, and any other is treated as unmapped (R584). -/
def registerWrite (fn off len : Nat) (whole : Bool) (w0 w1 : Nat) (d : Dev) : Dev :=
  if d.barOn fn = false ∨ len = 0 then d
  else if len = 8 ∧ off % 8 = 0 ∧ whole then (d.writeReg fn off w0).writeReg fn (off + 4) w1
  else if off % 4 + len ≤ 4 then
    if len = 4 ∧ whole then d.writeReg fn off w0 else d.barErr R.HUB_ERR_PARTIAL_WR off
  else d.barErr R.HUB_ERR_UNMAPPED off

/-! ### Latching reads (R588) -/

/-- HUB_FTIME_LO_READ: fabric time's low word is returned and its high word latched. -/
def hubFtimeLoRead (d : Dev) : Dev :=
  if d.barOn 0 = false then d
  else
    let d := (d.wr R.HUB_FTIME_LO_T_LO (d.now % 2 ^ 32)).wr R.HUB_FTIME_HI_T_HI (d.now / 2 ^ 32)
    d.emit (.regRead 0x100 (d.now % 2 ^ 32))

/-- HUB_STEPLO_READ: the low word of the step counter that HUB.STEPACC selects is returned and its high word latched
(R452). -/
def hubSteploRead (d : Dev) : Dev :=
  if d.barOn 0 = false then d
  else
    let n := d.time.steps.get (d.rd R.HUB_STEPACC_BURGEE) 0
    let d := (d.wr R.HUB_STEPLO_STEP_LO (n % 2 ^ 32)).wr R.HUB_STEPHI_STEP_HI (n / 2 ^ 32)
    d.emit (.regRead 0x11C (n % 2 ^ 32))

/-- TEL_CVAL_LO_READ: the counter that TEL.CSEL selects is taken with its stamp; the low word is returned and the
companions latched (R515, R517). -/
def telCvalLoRead (d : Dev) : Dev :=
  if d.barOn 0 = false then d
  else
    let r := d.readCounter (d.rd R.TEL_CSEL_ID) none d.now
    let v := r.2.2.1
    let s := r.2.2.2
    let d := (d.wr R.TEL_CVAL_LO_V_LO (v % 2 ^ 32)).wr R.TEL_CVAL_HI_V_HI (v / 2 ^ 32)
    let d := (d.wr R.TEL_CSTAMP_LO_S_LO (s % 2 ^ 32)).wr R.TEL_CSTAMP_HI_S_HI (s / 2 ^ 32)
    let d := (d.wr R.TEL_CSTAT_LIFE r.1).wr R.TEL_CSTAT_RSTAT r.2.1
    d.emit (.regRead 0x3F00004 (v % 2 ^ 32))

end Sys2Proof.Machine
end

