-- ==== Sys2Proof/Machine/State.lean ====
section
/-! DEFINITION. The state of the block, its faults and refusals, its state after reset, and the form
every meaning has. -/

namespace Sys2Proof.Machine

/-- The block: the device and the queue of commands that wait for it, first in, first out. -/
structure State where
  dev : Dev
  pending : List Instr
  deriving DecidableEq, Repr

/-- Faults of a step: none.  The spec gives every command of the table an effect, and a fault of the
device is state (FLT, the history queue), not a stop of the model. -/
inductive Fault
  deriving DecidableEq, Repr

/-- Refusals of a step. -/
inductive Refusal
  /-- A row of the opcode table without a meaning.  Raised by an arm of `exec` alone.  Safe: the run
  stops there. -/
  | notModelled (mnemonic : String)
  deriving DecidableEq, Repr

/-- The block right after power is applied with COLD_RST_N asserted: every register field holds its
reset value (a field that `Dev.regs` does not list), nothing is stored, and no command waits. -/
def State.reset : State := { dev := {}, pending := [] }

/-- A meaning: the effect on the device with the PLDM event messages that it gives rise to (R556), and the next
state.  The queue is left alone. -/
def act (f : Dev → Dev) (s : State) : Host.Outcome State Fault Refusal :=
  .next { s with dev := s.dev.platform (f s.dev) }

end Sys2Proof.Machine
end

