-- ==== Sys2Proof/Machine/Meanings.lean ====
section
/-! DEFINITION. The meaning of each command: the effect of its row on the device, which answers the
next state and leaves the queue of waiting commands alone.  The effects stand in the files of their
families. -/

namespace Sys2Proof.Machine

/-- PACKET_ARRIVAL (R596). -/
def execPacketArrival (p : Nat) (s : State) : Host.Outcome State Fault Refusal :=
  act (packetArrival p) s

/-- DESCRIPTOR_ENTRY (R140). -/
def execDescriptorEntry (pid : Nat) (h : Holder) (s : State) : Host.Outcome State Fault Refusal :=
  act (descriptorEntry pid h) s

/-- SCHEDULER_PACKET_START (R194). -/
def execSchedulerPacketStart (e : Nat) (s : State) : Host.Outcome State Fault Refusal :=
  act (schedulerPacketStart e) s

/-- PENNANT_SLOT (R116). -/
def execPennantSlot (p : Nat) (s : State) : Host.Outcome State Fault Refusal :=
  act (pennantSlot p) s

/-- HOLDER_RELEASE (R154). -/
def execHolderRelease (pid : Nat) (h : Holder) (loc : Storage) (s : State) : Host.Outcome State Fault Refusal :=
  act (releaseHolder pid h loc) s

/-- BUFFER_ECC_UNCORRECTABLE (R161). -/
def execBufferEccUncorrectable (pid flit : Nat) (bad : Bool) (s : State) : Host.Outcome State Fault Refusal :=
  act (bufferEccUncorrectable pid flit bad) s

/-- AGEING_TICK (R163). -/
def execAgeingTick (e v : Nat) (s : State) : Host.Outcome State Fault Refusal :=
  act (queueTick e v) s

/-- FLUSH_RECORD_ROOM (R165). -/
def execFlushRecordRoom (e v : Nat) (s : State) : Host.Outcome State Fault Refusal :=
  act (flushRecordRoom e v) s

/-- FAILURE_RECORD_ISSUE (R165). -/
def execFailureRecordIssue (q : Nat) (s : State) : Host.Outcome State Fault Refusal :=
  act (recordIssue q) s

/-- MESH_SUBLINK_FAIL (R143). -/
def execMeshSublinkFail (pair sub : Nat) (s : State) : Host.Outcome State Fault Refusal :=
  act (meshSublinkFail pair sub) s

/-- MESH_LINK_FAIL (R143). -/
def execMeshLinkFail (pair : Nat) (s : State) : Host.Outcome State Fault Refusal :=
  act (meshLinkFail pair) s

/-- QUADRANT_RELAY_DRAINED (R159). -/
def execQuadrantRelayDrained (q : Nat) (s : State) : Host.Outcome State Fault Refusal :=
  act (quadrantRelayDrained q) s

/-- BUF_PROFILE_DRAIN_TIMEOUT (R159). -/
def execBufProfileDrainTimeout (s : State) : Host.Outcome State Fault Refusal :=
  act bufProfileDrainTimeout s

/-- OP_SET (R31). -/
def execOpSet (aseq : Nat) (s : State) : Host.Outcome State Fault Refusal :=
  act (opSet aseq) s

/-- RAIL_RAMP_SETTLED (R32). -/
def execRailRampSettled (v : List Nat) (s : State) : Host.Outcome State Fault Refusal :=
  act (railRampSettled v) s

/-- OP3_DRAIN_COMPLETE (R34). -/
def execOp3DrainComplete (s : State) : Host.Outcome State Fault Refusal :=
  act op3DrainComplete s

/-- OP3_DRAIN_TIMEOUT (R35). -/
def execOp3DrainTimeout (s : State) : Host.Outcome State Fault Refusal :=
  act op3DrainTimeout s

/-- OP3_EXIT_COMPLETE (R34). -/
def execOp3ExitComplete (s : State) : Host.Outcome State Fault Refusal :=
  act op3ExitComplete s

/-- REGULATION (R36). -/
def execRegulation (pv : Nat) (s : State) : Host.Outcome State Fault Refusal :=
  act (regulation pv) s

/-- QMARGIN_WINDOW (R44). -/
def execQmarginWindow (q m : Nat) (s : State) : Host.Outcome State Fault Refusal :=
  act (qmarginWindow q m) s

/-- BELOW_LINE_PENNANT_REPEAT (R44). -/
def execBelowLinePennantRepeat (q : Nat) (s : State) : Host.Outcome State Fault Refusal :=
  act (belowLinePennantRepeat q) s

/-- QMARGIN_BELOW_SEEN_CLEAR (R44). -/
def execQmarginBelowSeenClear (q : Nat) (s : State) : Host.Outcome State Fault Refusal :=
  act (qmarginBelowSeenClear q) s

/-- JUNCTION_TEMPERATURE_CHANGE (R46). -/
def execJunctionTemperatureChange (tj sensor : Nat) (s : State) : Host.Outcome State Fault Refusal :=
  act (junctionTemperatureChange tj sensor) s

/-- POWER_LIMIT_WINDOW (R48). -/
def execPowerLimitWindow (watts : Nat) (s : State) : Host.Outcome State Fault Refusal :=
  act (powerLimitWindow watts) s

/-- PD_SET (R51). -/
def execPdSet (aseq : Nat) (s : State) : Host.Outcome State Fault Refusal :=
  act (pdSet aseq) s

/-- DOMAIN_ON_COMPLETE (R53). -/
def execDomainOnComplete (pd : Nat) (s : State) : Host.Outcome State Fault Refusal :=
  act (domainOnComplete pd) s

/-- DOMAIN_OFF_COMPLETE (R52). -/
def execDomainOffComplete (pd : Nat) (s : State) : Host.Outcome State Fault Refusal :=
  act (domainOffComplete pd) s

/-- OE_CLASS (R41). -/
def execOeClass (aseq : Nat) (s : State) : Host.Outcome State Fault Refusal :=
  act (oeClass aseq) s

/-- LASER_LOW (R58). -/
def execLaserLow (e input : Nat) (s : State) : Host.Outcome State Fault Refusal :=
  act (laserLow e input) s

/-- LASER_INPUT_RESTORED (R575). -/
def execLaserInputRestored (e input power : Nat) (s : State) : Host.Outcome State Fault Refusal :=
  act (laserInputRestored e input power) s

/-- CODEWORD_RECEIVED (R61). -/
def execCodewordReceived (x errs blocks : Nat) (s : State) : Host.Outcome State Fault Refusal :=
  act (codewordReceived x errs blocks) s

/-- BLOCK_RECEIVED (R68). -/
def execBlockReceived (x byte0 : Nat) (s : State) : Host.Outcome State Fault Refusal :=
  act (blockReceived x byte0) s

/-- MARKER_WORD_RECEIVED (R63). -/
def execMarkerWordReceived (x : Nat) (m : Marker) (s : State) : Host.Outcome State Fault Refusal :=
  act (markerWordReceived x m) s

/-- SUPERFRAME_BOUNDARY (R82). -/
def execSuperframeBoundary (p : Nat) (s : State) : Host.Outcome State Fault Refusal :=
  act (superframeBoundary p) s

/-- LANE_BRINGUP_START (R71). -/
def execLaneBringupStart (x : Nat) (s : State) : Host.Outcome State Fault Refusal :=
  act (laneBringupStart x) s

/-- LANE_RING_LOCK (R71). -/
def execLaneRingLock (x : Nat) (s : State) : Host.Outcome State Fault Refusal :=
  act (laneRingLock x) s

/-- LANE_LIGHT_DETECTED (R71). -/
def execLaneLightDetected (x : Nat) (s : State) : Host.Outcome State Fault Refusal :=
  act (laneLightDetected x) s

/-- LANE_CDR_LOCK (R71). -/
def execLaneCdrLock (x : Nat) (s : State) : Host.Outcome State Fault Refusal :=
  act (laneCdrLock x) s

/-- LANE_FRAME_LOCK (R72). -/
def execLaneFrameLock (x : Nat) (inv : Bool) (s : State) : Host.Outcome State Fault Refusal :=
  act (laneFrameLock x inv) s

/-- LANE_EQ_TRAINED (R71). -/
def execLaneEqTrained (x : Nat) (s : State) : Host.Outcome State Fault Refusal :=
  act (laneEqTrained x) s

/-- LANE_QUALIFIED (R71). -/
def execLaneQualified (x errs total : Nat) (s : State) : Host.Outcome State Fault Refusal :=
  act (laneQualified x errs total) s

/-- LANE_IDENTITY_CHECK (R73). -/
def execLaneIdentityCheck (p : Nat) (s : State) : Host.Outcome State Fault Refusal :=
  act (laneIdentityCheck p) s

/-- LANE_ALIGNED (R69). -/
def execLaneAligned (p skew : Nat) (s : State) : Host.Outcome State Fault Refusal :=
  act (laneAligned p skew) s

/-- PORT_UP (R74). -/
def execPortUp (p : Nat) (s : State) : Host.Outcome State Fault Refusal :=
  act (portUp p) s

/-- PORT_UP_TIMER (R74). -/
def execPortUpTimer (p : Nat) (s : State) : Host.Outcome State Fault Refusal :=
  act (portUpTimer p) s

/-- LANE_STEP_TIMEOUT (R75). -/
def execLaneStepTimeout (x : Nat) (s : State) : Host.Outcome State Fault Refusal :=
  act (laneStepTimeout x) s

/-- LANE_RETRY_TIMER (R75). -/
def execLaneRetryTimer (x : Nat) (s : State) : Host.Outcome State Fault Refusal :=
  act (laneRetryTimer x) s

/-- GAIN_RANGE_CHANGE (R78). -/
def execGainRangeChange (x g : Nat) (s : State) : Host.Outcome State Fault Refusal :=
  act (gainRangeChange x g) s

/-- MARGIN_MONITOR_WINDOW (R79). -/
def execMarginMonitorWindow (x : Nat) (s : State) : Host.Outcome State Fault Refusal :=
  act (marginMonitorWindow x) s

/-- LANE_RETRAIN_COMPLETE (R79). -/
def execLaneRetrainComplete (x : Nat) (ok : Bool) (s : State) : Host.Outcome State Fault Refusal :=
  act (laneRetrainComplete x ok) s

/-- LANE_LOSS_OF_LIGHT (R81). -/
def execLaneLossOfLight (x : Nat) (s : State) : Host.Outcome State Fault Refusal :=
  act (laneLossOfLight x) s

/-- LANE_FRAME_SYNC_LOSS (R81). -/
def execLaneFrameSyncLoss (x : Nat) (s : State) : Host.Outcome State Fault Refusal :=
  act (laneFrameSyncLoss x) s

/-- LANE_UNCORRECTABLE_BURST (R81). -/
def execLaneUncorrectableBurst (x : Nat) (s : State) : Host.Outcome State Fault Refusal :=
  act (laneUncorrectableBurst x) s

/-- RING_LOCK_LOST (R81). -/
def execRingLockLost (x : Nat) (s : State) : Host.Outcome State Fault Refusal :=
  act (ringLockLost x) s

/-- LIGHT_IN_STANDBY (R87). -/
def execLightInStandby (x : Nat) (s : State) : Host.Outcome State Fault Refusal :=
  act (lightInStandby x) s

/-- WAKE_TIMEOUT (R86). -/
def execWakeTimeout (x : Nat) (s : State) : Host.Outcome State Fault Refusal :=
  act (wakeTimeout x) s

/-- PORT_STATE (R84). -/
def execPortState (aseq : Nat) (s : State) : Host.Outcome State Fault Refusal :=
  act (portState aseq) s

/-- DATA_FLIT_RECEIVED (R106). -/
def execDataFlitReceived (p : Nat) (f : DataFlit) (s : State) : Host.Outcome State Fault Refusal :=
  act (dataFlitReceived p f) s

/-- FAILED_FLIT (R107). -/
def execFailedFlit (p : Nat) (s : State) : Host.Outcome State Fault Refusal :=
  act (failedFlit p) s

/-- RESERVED_FLIT_KIND (R89). -/
def execReservedFlitKind (p byte0 : Nat) (s : State) : Host.Outcome State Fault Refusal :=
  act (reservedFlitKind p byte0) s

/-- LCF_RECEIVED (R113). -/
def execLcfReceived (p : Nat) (f : Lcf) (s : State) : Host.Outcome State Fault Refusal :=
  act (lcfReceived p f) s

/-- NEG_FLIT_RECEIVED (R130). -/
def execNegFlitReceived (p : Nat) (f : NegFlit) (s : State) : Host.Outcome State Fault Refusal :=
  act (negFlitReceived p f) s

/-- HALYARD_BLOCK_RECEIVED (R121). -/
def execHalyardBlockReceived (p : Nat) (words : List Haly) (ok tagOk : Bool) (s : State) : Host.Outcome State Fault Refusal :=
  act (halyardBlockReceived p words ok tagOk) s

/-- LINK_AUTH_RECEIVED (R554). -/
def execLinkAuthReceived (p firstSeq cnt : Nat) (ok : Bool) (s : State) : Host.Outcome State Fault Refusal :=
  act (linkAuthReceived p firstSeq cnt ok) s

/-- ACK_HOLD_EXPIRY (R108). -/
def execAckHoldExpiry (p : Nat) (s : State) : Host.Outcome State Fault Refusal :=
  act (ackHoldExpiry p) s

/-- LCF_PERIODIC (R108). -/
def execLcfPeriodic (p : Nat) (s : State) : Host.Outcome State Fault Refusal :=
  act (lcfPeriodic p) s

/-- CREDIT_REPORT_DUE (R113). -/
def execCreditReportDue (p v : Nat) (s : State) : Host.Outcome State Fault Refusal :=
  act (creditReportDue p v) s

/-- NAK_HOLDOFF_EXPIRY (R107). -/
def execNakHoldoffExpiry (p : Nat) (s : State) : Host.Outcome State Fault Refusal :=
  act (nakHoldoffExpiry p) s

/-- REPLAY_TIMEOUT (R109). -/
def execReplayTimeout (p : Nat) (s : State) : Host.Outcome State Fault Refusal :=
  act (replayTimeout p) s

/-- NEG_FLIT_TIMER (R130). -/
def execNegFlitTimer (p : Nat) (s : State) : Host.Outcome State Fault Refusal :=
  act (negFlitTimer p) s

/-- CONFIRM_TIMEOUT (R130). -/
def execConfirmTimeout (p : Nat) (s : State) : Host.Outcome State Fault Refusal :=
  act (confirmTimeout p) s

/-- RESYNC_TIMEOUT (R130). -/
def execResyncTimeout (p : Nat) (s : State) : Host.Outcome State Fault Refusal :=
  act (resyncTimeout p) s

/-- TIME_WORD_TIMER (R127). -/
def execTimeWordTimer (p : Nat) (s : State) : Host.Outcome State Fault Refusal :=
  act (timeWordTimer p) s

/-- PAUSE_EXPIRY (R123). -/
def execPauseExpiry (p : Nat) (s : State) : Host.Outcome State Fault Refusal :=
  act (pauseExpiry p) s

/-- LINK_ADMIT (R550). -/
def execLinkAdmit (aseq : Nat) (s : State) : Host.Outcome State Fault Refusal :=
  act (linkAdmit aseq) s

/-- ROUTE_NOTICE_REPEAT (R180). -/
def execRouteNoticeRepeat (p : Nat) (s : State) : Host.Outcome State Fault Refusal :=
  act (routeNoticeRepeat p) s

/-- RESTORE_HOLD_EXPIRY (R180). -/
def execRestoreHoldExpiry (p : Nat) (s : State) : Host.Outcome State Fault Refusal :=
  act (restoreHoldExpiry p) s

/-- ROUTE_RESTORE_REPEAT (R180). -/
def execRouteRestoreRepeat (p : Nat) (s : State) : Host.Outcome State Fault Refusal :=
  act (routeRestoreRepeat p) s

/-- ROUTE_NOTICE_RECEIVED (R181). -/
def execRouteNoticeReceived (pid : Nat) (s : State) : Host.Outcome State Fault Refusal :=
  act (routeNoticeReceived pid) s

/-- NOTICE_HOLD_EXPIRY (R181). -/
def execNoticeHoldExpiry (s : State) : Host.Outcome State Fault Refusal :=
  act noticeHoldExpiry s

/-- AT_TIME_SWITCH (R186). -/
def execAtTimeSwitch (s : State) : Host.Outcome State Fault Refusal :=
  act atTimeSwitch s

/-- DRAIN_START (R188). -/
def execDrainStart (s : State) : Host.Outcome State Fault Refusal :=
  act drainStart s

/-- DRAIN_COMPLETE (R188). -/
def execDrainComplete (s : State) : Host.Outcome State Fault Refusal :=
  act drainComplete s

/-- DRAIN_PAUSE_CANCEL (R188). -/
def execDrainPauseCancel (s : State) : Host.Outcome State Fault Refusal :=
  act drainPauseCancel s

/-- QUENCH_EXPIRY (R207). -/
def execQuenchExpiry (s : State) : Host.Outcome State Fault Refusal :=
  act quenchExpiry s

/-- QUEUE_SAMPLE_TIMER (R209). -/
def execQueueSampleTimer (q : Nat) (s : State) : Host.Outcome State Fault Refusal :=
  act (queueSampleTimer q) s

/-- CTX_OPEN (R243). -/
def execCtxOpen (aseq : Nat) (s : State) : Host.Outcome State Fault Refusal :=
  act (ctxOpen aseq) s

/-- CTX_CLOSE (R244). -/
def execCtxClose (aseq : Nat) (s : State) : Host.Outcome State Fault Refusal :=
  act (ctxClose aseq) s

/-- CTX_ABORT (R262). -/
def execCtxAbort (aseq : Nat) (s : State) : Host.Outcome State Fault Refusal :=
  act (ctxAbort aseq) s

/-- CTX_MIGRATE (R265). -/
def execCtxMigrate (aseq : Nat) (s : State) : Host.Outcome State Fault Refusal :=
  act (ctxMigrate aseq) s

/-- CTX_REPARENT (R267). -/
def execCtxReparent (aseq : Nat) (s : State) : Host.Outcome State Fault Refusal :=
  act (ctxReparent aseq) s

/-- CTX_BIND (R274). -/
def execCtxBind (aseq : Nat) (s : State) : Host.Outcome State Fault Refusal :=
  act (ctxBind aseq) s

/-- CTX_STAT (R441). -/
def execCtxStat (aseq : Nat) (s : State) : Host.Outcome State Fault Refusal :=
  act (ctxStat aseq) s

/-- CONTRIBUTION_TAKEN (R247). -/
def execContributionTaken (pid : Nat) (s : State) : Host.Outcome State Fault Refusal :=
  act (contributionTaken pid) s

/-- CHUNK_COMPLETE (R254). -/
def execChunkComplete (i n : Nat) (s : State) : Host.Outcome State Fault Refusal :=
  act (chunkComplete i n) s

/-- ROOT_CHUNK_COMPLETE (R255). -/
def execRootChunkComplete (i n : Nat) (s : State) : Host.Outcome State Fault Refusal :=
  act (rootChunkComplete i n) s

/-- RESULT_ARRIVAL (R256). -/
def execResultArrival (p : Nat) (s : State) : Host.Outcome State Fault Refusal :=
  act (resultArrival p) s

/-- ARRIVAL_TIMEOUT (R261). -/
def execArrivalTimeout (i : Nat) (s : State) : Host.Outcome State Fault Refusal :=
  act (arrivalTimeout i) s

/-- ACC_ECC (R262). -/
def execAccEcc (i : Nat) (s : State) : Host.Outcome State Fault Refusal :=
  act (accEcc i) s

/-- FAIL_PENNANT_RECEIVED (R478). -/
def execFailPennantReceived (pid : Nat) (s : State) : Host.Outcome State Fault Refusal :=
  act (failPennantReceived pid) s

/-- STUB_RETIRE (R266). -/
def execStubRetire (i : Nat) (s : State) : Host.Outcome State Fault Refusal :=
  act (stubRetire i) s

/-- TRIG_ARM (R276). -/
def execTrigArm (aseq : Nat) (s : State) : Host.Outcome State Fault Refusal :=
  act (trigArm aseq) s

/-- TRIG_DISARM (R276). -/
def execTrigDisarm (aseq : Nat) (s : State) : Host.Outcome State Fault Refusal :=
  act (trigDisarm aseq) s

/-- TRIG_ADVANCE (R277). -/
def execTrigAdvance (aseq : Nat) (s : State) : Host.Outcome State Fault Refusal :=
  act (trigAdvance aseq) s

/-- OPERATION_END (R277). -/
def execOperationEnd (t : Nat) (s : State) : Host.Outcome State Fault Refusal :=
  act (operationEnd t) s

/-- REMOTE_RSP_RECEIVED (R281). -/
def execRemoteRspReceived (pid : Nat) (s : State) : Host.Outcome State Fault Refusal :=
  act (remoteRspReceived pid) s

/-- REMOTE_RSP_TIMEOUT (R281). -/
def execRemoteRspTimeout (t : Nat) (s : State) : Host.Outcome State Fault Refusal :=
  act (remoteRspTimeout t) s

/-- OP_WRITE (R280). -/
def execOpWrite (aseq : Nat) (s : State) : Host.Outcome State Fault Refusal :=
  act (opWrite aseq) s

/-- COLL_LAUNCH (R285). -/
def execCollLaunch (aseq : Nat) (s : State) : Host.Outcome State Fault Refusal :=
  act (collLaunch aseq) s

/-- REGION_REG (R272). -/
def execRegionReg (aseq : Nat) (s : State) : Host.Outcome State Fault Refusal :=
  act (regionReg aseq) s

/-- REGION_DEREG (R272). -/
def execRegionDereg (aseq : Nat) (s : State) : Host.Outcome State Fault Refusal :=
  act (regionDereg aseq) s

/-- REGION_DEREG_COMPLETE (R272). -/
def execRegionDeregComplete (no : Nat) (s : State) : Host.Outcome State Fault Refusal :=
  act (regionDeregComplete no) s

/-- STREAMER_LANDING (R273). -/
def execStreamerLanding (pid t : Nat) (s : State) : Host.Outcome State Fault Refusal :=
  act (streamerLanding pid t) s

/-- LANDING_COMPLETE (R273). -/
def execLandingComplete (pid t : Nat) (s : State) : Host.Outcome State Fault Refusal :=
  act (landingComplete pid t) s

/-- TRIG_PENNANT_RECEIVED (R283). -/
def execTrigPennantReceived (pid : Nat) (s : State) : Host.Outcome State Fault Refusal :=
  act (trigPennantReceived pid) s

/-- DISPATCH_TOKEN_RECEIVED (R289). -/
def execDispatchTokenReceived (pid t : Nat) (s : State) : Host.Outcome State Fault Refusal :=
  act (dispatchTokenReceived pid t) s

/-- TOKEN_SLOT_AVAILABLE (R290). -/
def execTokenSlotAvailable (q : Nat) (s : State) : Host.Outcome State Fault Refusal :=
  act (tokenSlotAvailable q) s

/-- GATE_RECORD_TAKEN (R291). -/
def execGateRecordTaken (q : Nat) (s : State) : Host.Outcome State Fault Refusal :=
  act (gateRecordTaken q) s

/-- GATE_TIMEOUT (R294). -/
def execGateTimeout (q slot : Nat) (s : State) : Host.Outcome State Fault Refusal :=
  act (gateTimeout q slot) s

/-- EXPERT_FAIL_RECEIVED (R293). -/
def execExpertFailReceived (pid : Nat) (s : State) : Host.Outcome State Fault Refusal :=
  act (expertFailReceived pid) s

/-- TILE_LAUNCH (R300). -/
def execTileLaunch (aseq : Nat) (s : State) : Host.Outcome State Fault Refusal :=
  act (tileLaunch aseq) s

/-- TILE_NOP (R304). -/
def execTileNop (t : Nat) (bad : EccHits) (s : State) : Host.Outcome State Fault Refusal :=
  act (insNop t bad) s

/-- ADD (R304). -/
def execAdd (t : Nat) (bad : EccHits) (s : State) : Host.Outcome State Fault Refusal :=
  act (insAdd t bad) s

/-- SUB (R304). -/
def execSub (t : Nat) (bad : EccHits) (s : State) : Host.Outcome State Fault Refusal :=
  act (insSub t bad) s

/-- MUL (R304). -/
def execMul (t : Nat) (bad : EccHits) (s : State) : Host.Outcome State Fault Refusal :=
  act (insMul t bad) s

/-- AND (R304). -/
def execAnd (t : Nat) (bad : EccHits) (s : State) : Host.Outcome State Fault Refusal :=
  act (insAnd t bad) s

/-- OR (R304). -/
def execOr (t : Nat) (bad : EccHits) (s : State) : Host.Outcome State Fault Refusal :=
  act (insOr t bad) s

/-- XOR (R304). -/
def execXor (t : Nat) (bad : EccHits) (s : State) : Host.Outcome State Fault Refusal :=
  act (insXor t bad) s

/-- SHL (R304). -/
def execShl (t : Nat) (bad : EccHits) (s : State) : Host.Outcome State Fault Refusal :=
  act (insShl t bad) s

/-- SHR (R304). -/
def execShr (t : Nat) (bad : EccHits) (s : State) : Host.Outcome State Fault Refusal :=
  act (insShr t bad) s

/-- SRA (R304). -/
def execSra (t : Nat) (bad : EccHits) (s : State) : Host.Outcome State Fault Refusal :=
  act (insSra t bad) s

/-- SLT (R304). -/
def execSlt (t : Nat) (bad : EccHits) (s : State) : Host.Outcome State Fault Refusal :=
  act (insSlt t bad) s

/-- SLTU (R304). -/
def execSltu (t : Nat) (bad : EccHits) (s : State) : Host.Outcome State Fault Refusal :=
  act (insSltu t bad) s

/-- ADDI (R304). -/
def execAddi (t : Nat) (bad : EccHits) (s : State) : Host.Outcome State Fault Refusal :=
  act (insAddi t bad) s

/-- ANDI (R304). -/
def execAndi (t : Nat) (bad : EccHits) (s : State) : Host.Outcome State Fault Refusal :=
  act (insAndi t bad) s

/-- ORI (R304). -/
def execOri (t : Nat) (bad : EccHits) (s : State) : Host.Outcome State Fault Refusal :=
  act (insOri t bad) s

/-- XORI (R304). -/
def execXori (t : Nat) (bad : EccHits) (s : State) : Host.Outcome State Fault Refusal :=
  act (insXori t bad) s

/-- SHLI (R304). -/
def execShli (t : Nat) (bad : EccHits) (s : State) : Host.Outcome State Fault Refusal :=
  act (insShli t bad) s

/-- SHRI (R304). -/
def execShri (t : Nat) (bad : EccHits) (s : State) : Host.Outcome State Fault Refusal :=
  act (insShri t bad) s

/-- SRAI (R304). -/
def execSrai (t : Nat) (bad : EccHits) (s : State) : Host.Outcome State Fault Refusal :=
  act (insSrai t bad) s

/-- LUI (R304). -/
def execLui (t : Nat) (bad : EccHits) (s : State) : Host.Outcome State Fault Refusal :=
  act (insLui t bad) s

/-- LD (R304). -/
def execLd (t : Nat) (bad : EccHits) (s : State) : Host.Outcome State Fault Refusal :=
  act (insLd t bad) s

/-- ST (R304). -/
def execSt (t : Nat) (bad : EccHits) (s : State) : Host.Outcome State Fault Refusal :=
  act (insSt t bad) s

/-- AMO (R327). -/
def execAmo (t : Nat) (bad : EccHits) (s : State) : Host.Outcome State Fault Refusal :=
  act (insAmo t bad) s

/-- BR (R304). -/
def execBr (t : Nat) (bad : EccHits) (s : State) : Host.Outcome State Fault Refusal :=
  act (insBr t bad) s

/-- JAL (R304). -/
def execJal (t : Nat) (bad : EccHits) (s : State) : Host.Outcome State Fault Refusal :=
  act (insJal t bad) s

/-- JALR (R304). -/
def execJalr (t : Nat) (bad : EccHits) (s : State) : Host.Outcome State Fault Refusal :=
  act (insJalr t bad) s

/-- FENCE_LD (R326). -/
def execFenceLd (t : Nat) (bad : EccHits) (s : State) : Host.Outcome State Fault Refusal :=
  act (fenceLd t bad) s

/-- FENCE_ST (R326). -/
def execFenceSt (t : Nat) (bad : EccHits) (s : State) : Host.Outcome State Fault Refusal :=
  act (fenceSt t bad) s

/-- FENCE_SC (R326). -/
def execFenceSc (t : Nat) (bad : EccHits) (s : State) : Host.Outcome State Fault Refusal :=
  act (fenceSc t bad) s

/-- FENCE_TN (R326). -/
def execFenceTn (t : Nat) (bad : EccHits) (s : State) : Host.Outcome State Fault Refusal :=
  act (fenceTn t bad) s

/-- WAIT (R316). -/
def execWait (t : Nat) (bad : EccHits) (s : State) : Host.Outcome State Fault Refusal :=
  act (insWait t bad) s

/-- HALT (R302). -/
def execHalt (t : Nat) (bad : EccHits) (s : State) : Host.Outcome State Fault Refusal :=
  act (insHalt t bad) s

/-- TRAP (R331). -/
def execTrap (t : Nat) (bad : EccHits) (s : State) : Host.Outcome State Fault Refusal :=
  act (insTrap t bad) s

/-- RETE (R332). -/
def execRete (t : Nat) (bad : EccHits) (s : State) : Host.Outcome State Fault Refusal :=
  act (insRete t bad) s

/-- CSRR (R337). -/
def execCsrr (t : Nat) (bad : EccHits) (s : State) : Host.Outcome State Fault Refusal :=
  act (insCsrr t bad) s

/-- CSRW (R337). -/
def execCsrw (t : Nat) (bad : EccHits) (s : State) : Host.Outcome State Fault Refusal :=
  act (insCsrw t bad) s

/-- VLD (R314). -/
def execVld (t : Nat) (bad : EccHits) (s : State) : Host.Outcome State Fault Refusal :=
  act (insVld t bad) s

/-- VST (R314). -/
def execVst (t : Nat) (bad : EccHits) (s : State) : Host.Outcome State Fault Refusal :=
  act (insVst t bad) s

/-- VADD (R304). -/
def execVadd (t : Nat) (bad : EccHits) (s : State) : Host.Outcome State Fault Refusal :=
  act (insVadd t bad) s

/-- VSUB (R304). -/
def execVsub (t : Nat) (bad : EccHits) (s : State) : Host.Outcome State Fault Refusal :=
  act (insVsub t bad) s

/-- VMUL (R304). -/
def execVmul (t : Nat) (bad : EccHits) (s : State) : Host.Outcome State Fault Refusal :=
  act (insVmul t bad) s

/-- VFMA (R304). -/
def execVfma (t : Nat) (bad : EccHits) (s : State) : Host.Outcome State Fault Refusal :=
  act (insVfma t bad) s

/-- VMAX (R304). -/
def execVmax (t : Nat) (bad : EccHits) (s : State) : Host.Outcome State Fault Refusal :=
  act (insVmax t bad) s

/-- VMIN (R304). -/
def execVmin (t : Nat) (bad : EccHits) (s : State) : Host.Outcome State Fault Refusal :=
  act (insVmin t bad) s

/-- VDIV (R219). -/
def execVdiv (t : Nat) (bad : EccHits) (s : State) : Host.Outcome State Fault Refusal :=
  act (insVdiv t bad) s

/-- VSQRT (R219). -/
def execVsqrt (t : Nat) (bad : EccHits) (s : State) : Host.Outcome State Fault Refusal :=
  act (insVsqrt t bad) s

/-- VCMP (R304). -/
def execVcmp (t : Nat) (bad : EccHits) (s : State) : Host.Outcome State Fault Refusal :=
  act (insVcmp t bad) s

/-- VSEL (R304). -/
def execVsel (t : Nat) (bad : EccHits) (s : State) : Host.Outcome State Fault Refusal :=
  act (insVsel t bad) s

/-- VBCAST (R304). -/
def execVbcast (t : Nat) (bad : EccHits) (s : State) : Host.Outcome State Fault Refusal :=
  act (insVbcast t bad) s

/-- VREDSUM (R315). -/
def execVredsum (t : Nat) (bad : EccHits) (s : State) : Host.Outcome State Fault Refusal :=
  act (insVredsum t bad) s

/-- VREDMAX (R315). -/
def execVredmax (t : Nat) (bad : EccHits) (s : State) : Host.Outcome State Fault Refusal :=
  act (insVredmax t bad) s

/-- VEXTR (R304). -/
def execVextr (t : Nat) (bad : EccHits) (s : State) : Host.Outcome State Fault Refusal :=
  act (insVextr t bad) s

/-- VEXP2 (R313). -/
def execVexp2 (t : Nat) (bad : EccHits) (s : State) : Host.Outcome State Fault Refusal :=
  act (insVexp2 t bad) s

/-- VLOG2 (R313). -/
def execVlog2 (t : Nat) (bad : EccHits) (s : State) : Host.Outcome State Fault Refusal :=
  act (insVlog2 t bad) s

/-- VRCP (R313). -/
def execVrcp (t : Nat) (bad : EccHits) (s : State) : Host.Outcome State Fault Refusal :=
  act (insVrcp t bad) s

/-- VRSQRT (R313). -/
def execVrsqrt (t : Nat) (bad : EccHits) (s : State) : Host.Outcome State Fault Refusal :=
  act (insVrsqrt t bad) s

/-- VTANH (R313). -/
def execVtanh (t : Nat) (bad : EccHits) (s : State) : Host.Outcome State Fault Refusal :=
  act (insVtanh t bad) s

/-- VSIGM (R313). -/
def execVsigm (t : Nat) (bad : EccHits) (s : State) : Host.Outcome State Fault Refusal :=
  act (insVsigm t bad) s

/-- VRNG (R450). -/
def execVrng (t : Nat) (bad : EccHits) (s : State) : Host.Outcome State Fault Refusal :=
  act (insVrng t bad) s

/-- MMA (R306). -/
def execMma (t : Nat) (bad : EccHits) (s : State) : Host.Outcome State Fault Refusal :=
  act (insMma t bad) s

/-- MMA_C (R318). -/
def execMmaC (t : Nat) (bad : EccHits) (s : State) : Host.Outcome State Fault Refusal :=
  act (insMmac t bad) s

/-- XFER (R317). -/
def execXfer (t : Nat) (bad : EccHits) (s : State) : Host.Outcome State Fault Refusal :=
  act (insXfer t bad) s

/-- CINJ (R320). -/
def execCinj (t : Nat) (bad : EccHits) (s : State) : Host.Outcome State Fault Refusal :=
  act (insCinj t bad) s

/-- CBIND (R322). -/
def execCbind (t : Nat) (bad : EccHits) (s : State) : Host.Outcome State Fault Refusal :=
  act (insCbind t bad) s

/-- TADV (R322). -/
def execTadv (t : Nat) (bad : EccHits) (s : State) : Host.Outcome State Fault Refusal :=
  act (insTadv t bad) s

/-- TWAIT (R322). -/
def execTwait (t : Nat) (bad : EccHits) (s : State) : Host.Outcome State Fault Refusal :=
  act (insTwait t bad) s

/-- GPOST (R323). -/
def execGpost (t : Nat) (bad : EccHits) (s : State) : Host.Outcome State Fault Refusal :=
  act (insGpost t bad) s

/-- RXWAIT (R323). -/
def execRxwait (t : Nat) (bad : EccHits) (s : State) : Host.Outcome State Fault Refusal :=
  act (insRxwait t bad) s

/-- RXDONE (R323). -/
def execRxdone (t : Nat) (bad : EccHits) (s : State) : Host.Outcome State Fault Refusal :=
  act (insRxdone t bad) s

/-- ASYNC_INSTRUCTION_COMPLETE (R316). -/
def execAsyncInstructionComplete (t q : Nat) (bad : EccHits) (s : State) : Host.Outcome State Fault Refusal :=
  act (asyncInstructionComplete t q bad) s

/-- BLOCK_INJECTION (R286). -/
def execBlockInjection (t q : Nat) (bad : EccHits) (s : State) : Host.Outcome State Fault Refusal :=
  act (blockInjection t q bad) s

/-- STORE_PERFORMED (R324). -/
def execStorePerformed (t i : Nat) (s : State) : Host.Outcome State Fault Refusal :=
  act (storePerformed t i) s

/-- MODEL_FETCH (R397). -/
def execModelFetch (aseq : Nat) (s : State) : Host.Outcome State Fault Refusal :=
  act (modelFetch aseq) s

/-- MODEL_FETCH_COMPLETE (R397). -/
def execModelFetchComplete (sl : Nat) (sig : Bool) (s : State) : Host.Outcome State Fault Refusal :=
  act (modelFetchComplete sl sig) s

/-- MODEL_LOAD (R343). -/
def execModelLoad (aseq : Nat) (sig : Bool) (s : State) : Host.Outcome State Fault Refusal :=
  act (modelLoad aseq sig) s

/-- MODEL_LOAD_SECTIONS_WRITTEN (R343). -/
def execModelLoadSectionsWritten (sl : Nat) (s : State) : Host.Outcome State Fault Refusal :=
  act (modelLoadSectionsWritten sl) s

/-- MODEL_SWAP (R344). -/
def execModelSwap (aseq : Nat) (sig : Bool) (s : State) : Host.Outcome State Fault Refusal :=
  act (modelSwap aseq sig) s

/-- MODEL_SWAP_STEP_DRAINED (R344). -/
def execModelSwapStepDrained (sl : Nat) (s : State) : Host.Outcome State Fault Refusal :=
  act (modelSwapStepDrained sl) s

/-- MODEL_MOVE (R345). -/
def execModelMove (aseq : Nat) (s : State) : Host.Outcome State Fault Refusal :=
  act (modelMove aseq) s

/-- MODEL_MOVE_STUB_EXPIRY (R345). -/
def execModelMoveStubExpiry (sl : Nat) (s : State) : Host.Outcome State Fault Refusal :=
  act (modelMoveStubExpiry sl) s

/-- MODEL_EVICT (R340). -/
def execModelEvict (aseq : Nat) (s : State) : Host.Outcome State Fault Refusal :=
  act (modelEvict aseq) s

/-- SERVE_OPEN (R350). -/
def execServeOpen (pid : Nat) (s : State) : Host.Outcome State Fault Refusal :=
  act (serveOpen pid) s

/-- SERVE_APPEND (R350). -/
def execServeAppend (pid : Nat) (s : State) : Host.Outcome State Fault Refusal :=
  act (serveAppend pid) s

/-- SERVE_GENERATE (R350). -/
def execServeGenerate (pid : Nat) (s : State) : Host.Outcome State Fault Refusal :=
  act (serveGenerate pid) s

/-- SERVE_CANCEL (R350). -/
def execServeCancel (pid : Nat) (s : State) : Host.Outcome State Fault Refusal :=
  act (serveCancel pid) s

/-- SERVE_PARK (R351). -/
def execServePark (pid : Nat) (s : State) : Host.Outcome State Fault Refusal :=
  act (servePark pid) s

/-- SERVE_RESUME (R351). -/
def execServeResume (pid : Nat) (s : State) : Host.Outcome State Fault Refusal :=
  act (serveResume pid) s

/-- SERVE_SNAPSHOT (R398). -/
def execServeSnapshot (pid : Nat) (s : State) : Host.Outcome State Fault Refusal :=
  act (serveSnapshot pid) s

/-- SERVE_RESTORE (R398). -/
def execServeRestore (pid : Nat) (s : State) : Host.Outcome State Fault Refusal :=
  act (serveRestore pid) s

/-- SERVE_CLOSE (R350). -/
def execServeClose (pid : Nat) (s : State) : Host.Outcome State Fault Refusal :=
  act (serveClose pid) s

/-- SERVE_DATA_APPEND (R350). -/
def execServeDataAppend (pid : Nat) (s : State) : Host.Outcome State Fault Refusal :=
  act (serveDataAppend pid) s

/-- SERVE_STORE_OP_COMPLETE (R398). -/
def execServeStoreOpComplete (sl i : Nat) (s : State) : Host.Outcome State Fault Refusal :=
  act (serveStoreOpComplete sl i) s

/-- MODEL_STEP (R356). -/
def execModelStep (sl dur : Nat) (out : List SessOut) (s : State) : Host.Outcome State Fault Refusal :=
  act (modelStep sl dur out) s

/-- SRAM_ECC_RESET_TIMER (R369). -/
def execSramEccResetTimer (t : Nat) (s : State) : Host.Outcome State Fault Refusal :=
  act (sramEccResetTimer t) s

/-- SRAM_SCRUB_PERIOD (R370). -/
def execSramScrubPeriod (t : Nat) (hits : EccHits) (s : State) : Host.Outcome State Fault Refusal :=
  act (sramScrubPeriod t hits) s

/-- SRAM_TEST (R372). -/
def execSramTest (aseq : Nat) (s : State) : Host.Outcome State Fault Refusal :=
  act (sramTest aseq) s

/-- MARCH_TEST_COMPLETE (R373). -/
def execMarchTestComplete (t : Nat) (lines : List Nat) (spareBad : Bool) (unc : List Nat) (s : State) : Host.Outcome State Fault Refusal :=
  act (marchTestComplete t lines spareBad unc) s

/-- HBM_UNCORRECTABLE (R376). -/
def execHbmUncorrectable (q addr : Nat) (user : HbmUser) (s : State) : Host.Outcome State Fault Refusal :=
  act (hbmUncorrectable q addr user) s

/-- HBM_PATROL_SCRUB (R376). -/
def execHbmPatrolScrub (q : Nat) (unc corr : List Nat) (ondie : Nat) (s : State) : Host.Outcome State Fault Refusal :=
  act (hbmPatrolScrub q unc corr ondie) s

/-- HBM_REFRESH_DUE (R377). -/
def execHbmRefreshDue (q : Nat) (s : State) : Host.Outcome State Fault Refusal :=
  act (hbmRefreshDue q) s

/-- HBM_TEMP_CHECK (R378). -/
def execHbmTempCheck (q temp : Nat) (s : State) : Host.Outcome State Fault Refusal :=
  act (hbmTempCheck q temp) s

/-- HBM_CHANNEL_RETRAIN_DONE (R378). -/
def execHbmChannelRetrainDone (q : Nat) (ok : Bool) (s : State) : Host.Outcome State Fault Refusal :=
  act (hbmChannelRetrainDone q ok) s

/-- HBM_CHANNEL_RETRAIN_NEXT (R378). -/
def execHbmChannelRetrainNext (q : Nat) (s : State) : Host.Outcome State Fault Refusal :=
  act (hbmChannelRetrainNext q) s

/-- HBM_RETRAIN_RETRY (R378). -/
def execHbmRetrainRetry (q : Nat) (s : State) : Host.Outcome State Fault Refusal :=
  act (hbmRetrainRetry q) s

/-- NVS_DISCOVERY_COMPLETE (R382). -/
def execNvsDiscoveryComplete (ts : List TargetInfo) (s : State) : Host.Outcome State Fault Refusal :=
  act (nvsDiscoveryComplete ts) s

/-- UNIT_READ_COMPLETE (R385). -/
def execUnitReadComplete (h u step : Nat) (heavy : Bool) (s : State) : Host.Outcome State Fault Refusal :=
  act (unitReadComplete h u step heavy) s

/-- PROGRAM_COMPLETE (R401). -/
def execProgramComplete (id : Nat) (ok : Bool) (s : State) : Host.Outcome State Fault Refusal :=
  act (programComplete id ok) s

/-- ERASE_COMPLETE (R401). -/
def execEraseComplete (t b : Nat) (ok : Bool) (s : State) : Host.Outcome State Fault Refusal :=
  act (eraseComplete t b ok) s

/-- TARGET_TIMEOUT (R401). -/
def execTargetTimeout (t : Nat) (s : State) : Host.Outcome State Fault Refusal :=
  act (targetTimeout t) s

/-- STORE_DATA_ARRIVAL (R392). -/
def execStoreDataArrival (id n : Nat) (s : State) : Host.Outcome State Fault Refusal :=
  act (storeDataArrival id n) s

/-- FILL_TO_EXPIRY (R392). -/
def execFillToExpiry (s : State) : Host.Outcome State Fault Refusal :=
  act fillToExpiry s

/-- ABSORB_RESULT_RECEIVED (R394). -/
def execAbsorbResultReceived (pid : Nat) (s : State) : Host.Outcome State Fault Refusal :=
  act (absorbResultReceived pid) s

/-- RETENTION_SCAN (R400). -/
def execRetentionScan (t b i step : Nat) (heavy : Bool) (s : State) : Host.Outcome State Fault Refusal :=
  act (retentionScan t b i step heavy) s

/-- BLOCK_REFRESH_COMPLETE (R400). -/
def execBlockRefreshComplete (t b : Nat) (s : State) : Host.Outcome State Fault Refusal :=
  act (blockRefreshComplete t b) s

/-- MAP_CHECKPOINT (R406). -/
def execMapCheckpoint (s : State) : Host.Outcome State Fault Refusal :=
  act mapCheckpoint s

/-- REBUILD_COMPLETE (R406). -/
def execRebuildComplete (s : State) : Host.Outcome State Fault Refusal :=
  act rebuildComplete s

/-- STORE_FORMAT (R387). -/
def execStoreFormat (aseq : Nat) (s : State) : Host.Outcome State Fault Refusal :=
  act (storeFormat aseq) s

/-- STORE_STAT (R391). -/
def execStoreStat (aseq : Nat) (s : State) : Host.Outcome State Fault Refusal :=
  act (storeStat aseq) s

/-- STORE_QUIESCE (R405). -/
def execStoreQuiesce (aseq : Nat) (s : State) : Host.Outcome State Fault Refusal :=
  act (storeQuiesce aseq) s

/-- OBJ_CREATE (R390). -/
def execObjCreate (aseq : Nat) (s : State) : Host.Outcome State Fault Refusal :=
  act (objCreate aseq) s

/-- OBJ_WRITE (R389). -/
def execObjWrite (aseq : Nat) (s : State) : Host.Outcome State Fault Refusal :=
  act (objWrite aseq) s

/-- OBJ_READ (R391). -/
def execObjRead (aseq : Nat) (s : State) : Host.Outcome State Fault Refusal :=
  act (objRead aseq) s

/-- OBJ_SEAL (R389). -/
def execObjSeal (aseq : Nat) (s : State) : Host.Outcome State Fault Refusal :=
  act (objSeal aseq) s

/-- OBJ_DELETE (R391). -/
def execObjDelete (aseq : Nat) (s : State) : Host.Outcome State Fault Refusal :=
  act (objDelete aseq) s

/-- OBJ_STAT (R388). -/
def execObjStat (aseq : Nat) (s : State) : Host.Outcome State Fault Refusal :=
  act (objStat aseq) s

/-- ABSORB_BIND (R394). -/
def execAbsorbBind (aseq : Nat) (s : State) : Host.Outcome State Fault Refusal :=
  act (absorbBind aseq) s

/-- STORE_TRANSFER_COMPLETE (R391). -/
def execStoreTransferComplete (aseq : Nat) (s : State) : Host.Outcome State Fault Refusal :=
  act (storeTransferComplete aseq) s

/-- PWRFAIL_ASSERTED (R402). -/
def execPwrfailAsserted (s : State) : Host.Outcome State Fault Refusal :=
  act pwrfailAsserted s

/-- HOLDUP_DONE (R402). -/
def execHoldupDone (s : State) : Host.Outcome State Fault Refusal :=
  act holdupDone s

/-- PWRFAIL_DEASSERTED (R580). -/
def execPwrfailDeasserted (s : State) : Host.Outcome State Fault Refusal :=
  act pwrfailDeasserted s

/-- RAIL_UNDERVOLTAGE (R568). -/
def execRailUndervoltage (r : Nat) (s : State) : Host.Outcome State Fault Refusal :=
  act (railUndervoltage r) s

/-- COMMAND_TAKEN (R434). -/
def execCommandTaken (s : State) : Host.Outcome State Fault Refusal :=
  act commandTaken s

/-- COMMAND_BEGIN (R435). -/
def execCommandBegin (aseq : Nat) (s : State) : Host.Outcome State Fault Refusal :=
  act (commandBegin aseq) s

/-- MBX_SEND_DMWR (R424). -/
def execMbxSendDmwr (fn ch off : Nat) (ws : List Nat) (s : State) : Host.Outcome State Fault Refusal :=
  act (mbxSendDmwr fn ch off ws) s

/-- MBX_DOORBELL_WRITE (R426). -/
def execMbxDoorbellWrite (fn ch : Nat) (wrong : Bool) (s : State) : Host.Outcome State Fault Refusal :=
  act (mbxDoorbellWrite fn ch wrong) s

/-- MBX_CPL_HEAD_WRITE (R427). -/
def execMbxCplHeadWrite (fn ch n : Nat) (s : State) : Host.Outcome State Fault Refusal :=
  act (mbxCplHeadWrite fn ch n) s

/-- MBX_EMPTY_ARM_WRITE (R428). -/
def execMbxEmptyArmWrite (fn ch : Nat) (s : State) : Host.Outcome State Fault Refusal :=
  act (mbxEmptyArmWrite fn ch) s

/-- MBX_CTL_LOCK_WRITE (R420). -/
def execMbxCtlLockWrite (s : State) : Host.Outcome State Fault Refusal :=
  act mbxCtlLockWrite s

/-- CHANNEL_REBIND_EFFECTIVE (R420). -/
def execChannelRebindEffective (ch : Nat) (s : State) : Host.Outcome State Fault Refusal :=
  act (channelRebindEffective ch) s

/-- MCTP_COMMAND_MESSAGE (R431). -/
def execMctpCommandMessage (intf eid mtag : Nat) (ws : List Nat) (s : State) : Host.Outcome State Fault Refusal :=
  act (mctpCommandMessage intf eid mtag ws) s

/-- CMD_PENNANT_RECEIVED (R432). -/
def execCmdPennantReceived (pid : Nat) (s : State) : Host.Outcome State Fault Refusal :=
  act (cmdPennantReceived pid) s

/-- FUNCTION_LEVEL_RESET (R429). -/
def execFunctionLevelReset (fn : Nat) (s : State) : Host.Outcome State Fault Refusal :=
  act (functionLevelReset fn) s

/-- PERST (R571). -/
def execPerst (s : State) : Host.Outcome State Fault Refusal :=
  act perst s

/-- NOP (R441). -/
def execNop (aseq : Nat) (s : State) : Host.Outcome State Fault Refusal :=
  act (nop aseq) s

/-- DEV_INFO (R441). -/
def execDevInfo (aseq : Nat) (s : State) : Host.Outcome State Fault Refusal :=
  act (devInfo aseq) s

/-- CMD_CAPS (R441). -/
def execCmdCaps (aseq : Nat) (s : State) : Host.Outcome State Fault Refusal :=
  act (cmdCaps aseq) s

/-- CHAN_BIND (R420). -/
def execChanBind (aseq : Nat) (s : State) : Host.Outcome State Fault Refusal :=
  act (chanBind aseq) s

/-- CHAN_LOCK (R420). -/
def execChanLock (aseq : Nat) (s : State) : Host.Outcome State Fault Refusal :=
  act (chanLock aseq) s

/-- CMD_CANCEL (R438). -/
def execCmdCancel (aseq : Nat) (s : State) : Host.Outcome State Fault Refusal :=
  act (cmdCancel aseq) s

/-- CFG_COMMIT (R509). -/
def execCfgCommit (aseq : Nat) (bodies : List Machine.CfgBody) (sig : Bool) (s : State) : Host.Outcome State Fault Refusal :=
  act (cfgCommit aseq bodies sig) s

/-- CFG_COMMIT_CANCEL (R186). -/
def execCfgCommitCancel (aseq : Nat) (s : State) : Host.Outcome State Fault Refusal :=
  act (cfgCommitCancel aseq) s

/-- CFG_COMMIT_DRAIN_COMPLETE (R509). -/
def execCfgCommitDrainComplete (s : State) : Host.Outcome State Fault Refusal :=
  act cfgCommitDrainComplete s

/-- FLT_HIST_READ (R475). -/
def execFltHistRead (aseq : Nat) (s : State) : Host.Outcome State Fault Refusal :=
  act (fltHistRead aseq) s

/-- FLT_CLEAR (R470). -/
def execFltClear (aseq : Nat) (s : State) : Host.Outcome State Fault Refusal :=
  act (fltClear aseq) s

/-- RESET (R486). -/
def execReset (aseq : Nat) (s : State) : Host.Outcome State Fault Refusal :=
  act (reset aseq) s

/-- TILE_RESET (R486). -/
def execTileReset (aseq : Nat) (s : State) : Host.Outcome State Fault Refusal :=
  act (tileReset aseq) s

/-- JOB_ABORT (R491). -/
def execJobAbort (aseq : Nat) (s : State) : Host.Outcome State Fault Refusal :=
  act (jobAbort aseq) s

/-- HOIST_JOIN (R456). -/
def execHoistJoin (aseq : Nat) (s : State) : Host.Outcome State Fault Refusal :=
  act (hoistJoin aseq) s

/-- LOCKSTEP_START (R463). -/
def execLockstepStart (aseq : Nat) (s : State) : Host.Outcome State Fault Refusal :=
  act (lockstepStart aseq) s

/-- HOIST_ARRIVE (R456). -/
def execHoistArrive (pid : Nat) (s : State) : Host.Outcome State Fault Refusal :=
  act (hoistArrive pid) s

/-- HOIST_RELEASE_RECEIVED (R458). -/
def execHoistReleaseReceived (pid : Nat) (s : State) : Host.Outcome State Fault Refusal :=
  act (hoistReleaseReceived pid) s

/-- HOIST_FAIL_RECEIVED (R457). -/
def execHoistFailReceived (pid : Nat) (s : State) : Host.Outcome State Fault Refusal :=
  act (hoistFailReceived pid) s

/-- HOIST_RELEASE_TIME (R458). -/
def execHoistReleaseTime (i : Nat) (s : State) : Host.Outcome State Fault Refusal :=
  act (hoistReleaseTime i) s

/-- HOIST_DEADLINE (R457). -/
def execHoistDeadline (i : Nat) (s : State) : Host.Outcome State Fault Refusal :=
  act (hoistDeadline i) s

/-- CUT_OFF (R457). -/
def execCutOff (i : Nat) (s : State) : Host.Outcome State Fault Refusal :=
  act (cutOff i) s

/-- SLOT_START (R462). -/
def execSlotStart (s : State) : Host.Outcome State Fault Refusal :=
  act slotStart s

/-- SLOT_GUARD_BAND (R462). -/
def execSlotGuardBand (s : State) : Host.Outcome State Fault Refusal :=
  act slotGuardBand s

/-- QUIET_TIMER_EXPIRY (R470). -/
def execQuietTimerExpiry (s : State) : Host.Outcome State Fault Refusal :=
  act quietTimerExpiry s

/-- STRUCK_WINDOW_EXPIRY (R470). -/
def execStruckWindowExpiry (s : State) : Host.Outcome State Fault Refusal :=
  act struckWindowExpiry s

/-- WATCHDOG (R479). -/
def execWatchdog (t : Nat) (s : State) : Host.Outcome State Fault Refusal :=
  act (watchdog t) s

/-- ENGINE_HANG (R479). -/
def execEngineHang (e : Nat) (s : State) : Host.Outcome State Fault Refusal :=
  act (engineHang e) s

/-- SEQ_HANG (R479). -/
def execSeqHang (q : Nat) (s : State) : Host.Outcome State Fault Refusal :=
  act (seqHang q) s

/-- DISPATCH_HANG (R479). -/
def execDispatchHang (q : Nat) (s : State) : Host.Outcome State Fault Refusal :=
  act (dispatchHang q) s

/-- CTRL_HANG (R479). -/
def execCtrlHang (s : State) : Host.Outcome State Fault Refusal :=
  act ctrlHang s

/-- THIDAN_HEARTBEAT (R480). -/
def execThidanHeartbeat (s : State) : Host.Outcome State Fault Refusal :=
  act thidanHeartbeat s

/-- HEARTBEAT_LOST (R480). -/
def execHeartbeatLost (s : State) : Host.Outcome State Fault Refusal :=
  act heartbeatLost s

/-- THIDAN_RESTART_COMPLETE (R411). -/
def execThidanRestartComplete (s : State) : Host.Outcome State Fault Refusal :=
  act thidanRestartComplete s

/-- RESTART_FAIL (R480). -/
def execRestartFail (s : State) : Host.Outcome State Fault Refusal :=
  act restartFail s

/-- SENTINEL_KICK (R481). -/
def execSentinelKick (s : State) : Host.Outcome State Fault Refusal :=
  act sentinelKick s

/-- HW_WATCHDOG (R481). -/
def execHwWatchdog (s : State) : Host.Outcome State Fault Refusal :=
  act hwWatchdog s

/-- RESET_RELEASE (R484). -/
def execResetRelease (level target : Nat) (s : State) : Host.Outcome State Fault Refusal :=
  act (resetRelease level target) s

/-- RESET_HUNG (R487). -/
def execResetHung (level target : Nat) (s : State) : Host.Outcome State Fault Refusal :=
  act (resetHung level target) s

/-- FORCED_FLUSH_LIMIT (R488). -/
def execForcedFlushLimit (s : State) : Host.Outcome State Fault Refusal :=
  act forcedFlushLimit s

/-- BRINGUP_START (R501). -/
def execBringupStart (s : State) : Host.Outcome State Fault Refusal :=
  act bringupStart s

/-- COLD_RESET_ASSERTED (R571). -/
def execColdResetAsserted (s : State) : Host.Outcome State Fault Refusal :=
  act coldResetAsserted s

/-- FUSE_LOAD_COMPLETE (R535). -/
def execFuseLoadComplete (s : State) : Host.Outcome State Fault Refusal :=
  act fuseLoadComplete s

/-- SECURE_BOOT_COMPLETE (R537). -/
def execSecureBootComplete (goodA goodB : Bool) (s : State) : Host.Outcome State Fault Refusal :=
  act (secureBootComplete goodA goodB) s

/-- HBM_TRAINING_COMPLETE (R501). -/
def execHbmTrainingComplete (q : Nat) (s : State) : Host.Outcome State Fault Refusal :=
  act (hbmTrainingComplete q) s

/-- HBM_MEMTEST_COMPLETE (R503). -/
def execHbmMemtestComplete (q : Nat) (march retention disturb repaired : List Nat) (s : State) : Host.Outcome State Fault Refusal :=
  act (hbmMemtestComplete q march retention disturb repaired) s

/-- KAT_COMPLETE (R504). -/
def execKatComplete (blk i : Nat) (ok : Bool) (s : State) : Host.Outcome State Fault Refusal :=
  act (katComplete blk i ok) s

/-- TEST_RECORD_WRITTEN (R502). -/
def execTestRecordWritten (s : State) : Host.Outcome State Fault Refusal :=
  act testRecordWritten s

/-- DEVICE_READY (R506). -/
def execDeviceReady (s : State) : Host.Outcome State Fault Refusal :=
  act deviceReady s

/-- TEST_RECORD_SYNC (R502). -/
def execTestRecordSync (s : State) : Host.Outcome State Fault Refusal :=
  act testRecordSync s

/-- OE_LCTL_RETRAIN_WRITE (R512). -/
def execOeLctlRetrainWrite (x : Nat) (s : State) : Host.Outcome State Fault Refusal :=
  act (oeLctlRetrainWrite x) s

/-- HBM_CTL_RETRAIN_WRITE (R512). -/
def execHbmCtlRetrainWrite (q : Nat) (s : State) : Host.Outcome State Fault Refusal :=
  act (hbmCtlRetrainWrite q) s

/-- TEL_READ (R518). -/
def execTelRead (aseq : Nat) (s : State) : Host.Outcome State Fault Refusal :=
  act (telRead aseq) s

/-- SNAP_ARM (R519). -/
def execSnapArm (aseq : Nat) (s : State) : Host.Outcome State Fault Refusal :=
  act (snapArm aseq) s

/-- SNAP_READ (R518). -/
def execSnapRead (aseq : Nat) (s : State) : Host.Outcome State Fault Refusal :=
  act (snapRead aseq) s

/-- TAG_SET (R522). -/
def execTagSet (aseq : Nat) (s : State) : Host.Outcome State Fault Refusal :=
  act (tagSet aseq) s

/-- HIST (R532). -/
def execHist (aseq : Nat) (s : State) : Host.Outcome State Fault Refusal :=
  act (telHist aseq) s

/-- SAMPLE_SET (R533). -/
def execSampleSet (aseq : Nat) (s : State) : Host.Outcome State Fault Refusal :=
  act (sampleSet aseq) s

/-- SAMPLE_READ (R533). -/
def execSampleRead (aseq : Nat) (s : State) : Host.Outcome State Fault Refusal :=
  act (sampleRead aseq) s

/-- TRACE_READ (R524). -/
def execTraceRead (aseq : Nat) (s : State) : Host.Outcome State Fault Refusal :=
  act (traceRead aseq) s

/-- SNAPSHOT_TIME (R519). -/
def execSnapshotTime (i : Nat) (s : State) : Host.Outcome State Fault Refusal :=
  act (snapshotTime i) s

/-- BUNTING_SET (R525). -/
def execBuntingSet (aseq : Nat) (s : State) : Host.Outcome State Fault Refusal :=
  act (buntingSet aseq) s

/-- BUNTING_ARM (R525). -/
def execBuntingArm (aseq : Nat) (s : State) : Host.Outcome State Fault Refusal :=
  act (buntingArm aseq) s

/-- BUNTING_FREEZE (R528). -/
def execBuntingFreeze (aseq : Nat) (s : State) : Host.Outcome State Fault Refusal :=
  act (buntingFreeze aseq) s

/-- BUNTING_READ (R525). -/
def execBuntingRead (aseq : Nat) (s : State) : Host.Outcome State Fault Refusal :=
  act (buntingRead aseq) s

/-- BUNTING_FREE (R525). -/
def execBuntingFree (aseq : Nat) (s : State) : Host.Outcome State Fault Refusal :=
  act (buntingFree aseq) s

/-- MIRROR_SET (R529). -/
def execMirrorSet (aseq : Nat) (s : State) : Host.Outcome State Fault Refusal :=
  act (mirrorSet aseq) s

/-- TEL_CVAL_LO_READ (R517). -/
def execTelCvalLoRead (s : State) : Host.Outcome State Fault Refusal :=
  act telCvalLoRead s

/-- HUB_FTIME_LO_READ (R588). -/
def execHubFtimeLoRead (s : State) : Host.Outcome State Fault Refusal :=
  act hubFtimeLoRead s

/-- HUB_STEPLO_READ (R588). -/
def execHubSteploRead (s : State) : Host.Outcome State Fault Refusal :=
  act hubSteploRead s

/-- OWNER_AUTH_CHALLENGE (R544). -/
def execOwnerAuthChallenge (aseq : Nat) (s : State) : Host.Outcome State Fault Refusal :=
  act (ownerAuthChallenge aseq) s

/-- OWNER_AUTH_RESPONSE (R544). -/
def execOwnerAuthResponse (aseq : Nat) (sig : Bool) (s : State) : Host.Outcome State Fault Refusal :=
  act (ownerAuthResponse aseq sig) s

/-- OWNER_AUTH_AUDIT_READ (R546). -/
def execOwnerAuthAuditRead (aseq : Nat) (s : State) : Host.Outcome State Fault Refusal :=
  act (ownerAuthAuditRead aseq) s

/-- FUSE_WRITE (R545). -/
def execFuseWrite (aseq : Nat) (s : State) : Host.Outcome State Fault Refusal :=
  act (fuseWrite aseq) s

/-- FUSE_BURN_COMPLETE (R545). -/
def execFuseBurnComplete (s : State) : Host.Outcome State Fault Refusal :=
  act fuseBurnComplete s

/-- ARB_ADVANCE (R541). -/
def execArbAdvance (aseq : Nat) (s : State) : Host.Outcome State Fault Refusal :=
  act (arbAdvance aseq) s

/-- KEY_INSTALL (R543). -/
def execKeyInstall (aseq : Nat) (sig : Bool) (s : State) : Host.Outcome State Fault Refusal :=
  act (keyInstall aseq sig) s

/-- FW_STAGE (R539). -/
def execFwStage (aseq : Nat) (c : FwCheck) (s : State) : Host.Outcome State Fault Refusal :=
  act (fwStage aseq c) s

/-- FW_ACTIVATE (R539). -/
def execFwActivate (aseq : Nat) (s : State) : Host.Outcome State Fault Refusal :=
  act (fwActivate aseq) s

/-- STAGING_SESSION_TIMEOUT (R540). -/
def execStagingSessionTimeout (s : State) : Host.Outcome State Fault Refusal :=
  act stagingSessionTimeout s

/-- SPDM_MESSAGE_RECEIVED (R547). -/
def execSpdmMessageReceived (via : SpdmVia) (m : SpdmMsg) (s : State) : Host.Outcome State Fault Refusal :=
  act (spdmMessageReceived via m) s

/-- ATTESTATION_TIMEOUT (R549). -/
def execAttestationTimeout (p : Nat) (s : State) : Host.Outcome State Fault Refusal :=
  act (attestationTimeout p) s

/-- ATTESTATION_RETRY (R549). -/
def execAttestationRetry (p : Nat) (s : State) : Host.Outcome State Fault Refusal :=
  act (attestationRetry p) s

/-- PLDM_MESSAGE (R556). -/
def execPldmMessage (intf eid mtag : Nat) (m : PldmMsg) (s : State) : Host.Outcome State Fault Refusal :=
  act (pldmMessage intf eid mtag m) s

/-- MCTP_CONTROL_MESSAGE (R556). -/
def execMctpControlMessage (intf eid mtag : Nat) (m : MctpCtl) (s : State) : Host.Outcome State Fault Refusal :=
  act (mctpControlMessage intf eid mtag m) s

/-- JTAG_INSTRUCTION (R557). -/
def execJtagInstruction (m : JtagOp) (s : State) : Host.Outcome State Fault Refusal :=
  act (jtagInstruction m) s

/-- REFCLK_LOSS (R570). -/
def execRefclkLoss (ref : Nat) (s : State) : Host.Outcome State Fault Refusal :=
  act (refclkLoss ref) s

/-- REFCLK_FT_RETURN (R570). -/
def execRefclkFtReturn (s : State) : Host.Outcome State Fault Refusal :=
  act refclkFtReturn s

/-- LMOD_FLT_CHANGE (R574). -/
def execLmodFltChange (m : Nat) (low : Bool) (s : State) : Host.Outcome State Fault Refusal :=
  act (lmodFltChange m low) s

/-- LMOD_EN_OFF_DELAY (R574). -/
def execLmodEnOffDelay (m : Nat) (s : State) : Host.Outcome State Fault Refusal :=
  act (lmodEnOffDelay m) s

/-- TILE_ERR_UNHANDLED_CLEAR (R332). -/
def execTileErrUnhandledClear (t : Nat) (s : State) : Host.Outcome State Fault Refusal :=
  act (tileErrUnhandledClear t) s

/-- TILE_ERR_RESET_SEEN_CLEAR (R334). -/
def execTileErrResetSeenClear (t : Nat) (s : State) : Host.Outcome State Fault Refusal :=
  act (tileErrResetSeenClear t) s

/-- REGISTER_WRITE (R584). -/
def execRegisterWrite (fn off len : Nat) (whole : Bool) (w0 w1 : Nat) (s : State) : Host.Outcome State Fault Refusal :=
  act (registerWrite fn off len whole w0 w1) s

/-- TRANSMIT_BLOCK_SLOT (R65). -/
def execTransmitBlockSlot (p : Nat) (s : State) : Host.Outcome State Fault Refusal :=
  act (transmitBlockSlot p) s

/-- SHAPER_REFILL (R199). -/
def execShaperRefill (p v : Nat) (s : State) : Host.Outcome State Fault Refusal :=
  act (shaperRefill p v) s

/-- HOST_TRANSFER_COMPLETE (R417). -/
def execHostTransferComplete (aseq : Nat) (ok : Bool) (bytes : List Nat) (s : State) : Host.Outcome State Fault Refusal :=
  act (hostTransferComplete aseq ok bytes) s

/-- RAIL_IN_RANGE (R566). -/
def execRailInRange (r : Nat) (s : State) : Host.Outcome State Fault Refusal :=
  act (railInRange r) s

/-- REFCLK_RETURN (R570). -/
def execRefclkReturn (ref : Nat) (s : State) : Host.Outcome State Fault Refusal :=
  act (refclkReturn ref) s

/-- D3HOT_ENTRY (R555). -/
def execD3hotEntry (fn : Nat) (s : State) : Host.Outcome State Fault Refusal :=
  act (d3hotEntry fn) s

end Sys2Proof.Machine
end

