-- ==== Sys2Proof/Machine/Dispatch.lean ====
section
/-! DEFINITION. One arm per command. -/

namespace Sys2Proof.Machine

def exec (i : Instr) (s : State) : Host.Outcome State Fault Refusal :=
  match i with
  | .packetArrival p => Sys2Proof.Machine.execPacketArrival p s
  | .descriptorEntry pid h => Sys2Proof.Machine.execDescriptorEntry pid h s
  | .schedulerPacketStart e => Sys2Proof.Machine.execSchedulerPacketStart e s
  | .pennantSlot p => Sys2Proof.Machine.execPennantSlot p s
  | .holderRelease pid h loc => Sys2Proof.Machine.execHolderRelease pid h loc s
  | .bufferEccUncorrectable pid flit bad => Sys2Proof.Machine.execBufferEccUncorrectable pid flit bad s
  | .ageingTick e v => Sys2Proof.Machine.execAgeingTick e v s
  | .flushRecordRoom e v => Sys2Proof.Machine.execFlushRecordRoom e v s
  | .failureRecordIssue q => Sys2Proof.Machine.execFailureRecordIssue q s
  | .meshSublinkFail pair sub => Sys2Proof.Machine.execMeshSublinkFail pair sub s
  | .meshLinkFail pair => Sys2Proof.Machine.execMeshLinkFail pair s
  | .quadrantRelayDrained q => Sys2Proof.Machine.execQuadrantRelayDrained q s
  | .bufProfileDrainTimeout => Sys2Proof.Machine.execBufProfileDrainTimeout s
  | .opSet aseq => Sys2Proof.Machine.execOpSet aseq s
  | .railRampSettled v => Sys2Proof.Machine.execRailRampSettled v s
  | .op3DrainComplete => Sys2Proof.Machine.execOp3DrainComplete s
  | .op3DrainTimeout => Sys2Proof.Machine.execOp3DrainTimeout s
  | .op3ExitComplete => Sys2Proof.Machine.execOp3ExitComplete s
  | .regulation pv => Sys2Proof.Machine.execRegulation pv s
  | .qmarginWindow q m => Sys2Proof.Machine.execQmarginWindow q m s
  | .belowLinePennantRepeat q => Sys2Proof.Machine.execBelowLinePennantRepeat q s
  | .qmarginBelowSeenClear q => Sys2Proof.Machine.execQmarginBelowSeenClear q s
  | .junctionTemperatureChange tj sensor => Sys2Proof.Machine.execJunctionTemperatureChange tj sensor s
  | .powerLimitWindow watts => Sys2Proof.Machine.execPowerLimitWindow watts s
  | .pdSet aseq => Sys2Proof.Machine.execPdSet aseq s
  | .domainOnComplete pd => Sys2Proof.Machine.execDomainOnComplete pd s
  | .domainOffComplete pd => Sys2Proof.Machine.execDomainOffComplete pd s
  | .oeClass aseq => Sys2Proof.Machine.execOeClass aseq s
  | .laserLow e input => Sys2Proof.Machine.execLaserLow e input s
  | .laserInputRestored e input power => Sys2Proof.Machine.execLaserInputRestored e input power s
  | .codewordReceived x errs blocks => Sys2Proof.Machine.execCodewordReceived x errs blocks s
  | .blockReceived x byte0 => Sys2Proof.Machine.execBlockReceived x byte0 s
  | .markerWordReceived x m => Sys2Proof.Machine.execMarkerWordReceived x m s
  | .superframeBoundary p => Sys2Proof.Machine.execSuperframeBoundary p s
  | .laneBringupStart x => Sys2Proof.Machine.execLaneBringupStart x s
  | .laneRingLock x => Sys2Proof.Machine.execLaneRingLock x s
  | .laneLightDetected x => Sys2Proof.Machine.execLaneLightDetected x s
  | .laneCdrLock x => Sys2Proof.Machine.execLaneCdrLock x s
  | .laneFrameLock x inv => Sys2Proof.Machine.execLaneFrameLock x inv s
  | .laneEqTrained x => Sys2Proof.Machine.execLaneEqTrained x s
  | .laneQualified x errs total => Sys2Proof.Machine.execLaneQualified x errs total s
  | .laneIdentityCheck p => Sys2Proof.Machine.execLaneIdentityCheck p s
  | .laneAligned p skew => Sys2Proof.Machine.execLaneAligned p skew s
  | .portUp p => Sys2Proof.Machine.execPortUp p s
  | .portUpTimer p => Sys2Proof.Machine.execPortUpTimer p s
  | .laneStepTimeout x => Sys2Proof.Machine.execLaneStepTimeout x s
  | .laneRetryTimer x => Sys2Proof.Machine.execLaneRetryTimer x s
  | .gainRangeChange x g => Sys2Proof.Machine.execGainRangeChange x g s
  | .marginMonitorWindow x => Sys2Proof.Machine.execMarginMonitorWindow x s
  | .laneRetrainComplete x ok => Sys2Proof.Machine.execLaneRetrainComplete x ok s
  | .laneLossOfLight x => Sys2Proof.Machine.execLaneLossOfLight x s
  | .laneFrameSyncLoss x => Sys2Proof.Machine.execLaneFrameSyncLoss x s
  | .laneUncorrectableBurst x => Sys2Proof.Machine.execLaneUncorrectableBurst x s
  | .ringLockLost x => Sys2Proof.Machine.execRingLockLost x s
  | .lightInStandby x => Sys2Proof.Machine.execLightInStandby x s
  | .wakeTimeout x => Sys2Proof.Machine.execWakeTimeout x s
  | .portState aseq => Sys2Proof.Machine.execPortState aseq s
  | .dataFlitReceived p f => Sys2Proof.Machine.execDataFlitReceived p f s
  | .failedFlit p => Sys2Proof.Machine.execFailedFlit p s
  | .reservedFlitKind p byte0 => Sys2Proof.Machine.execReservedFlitKind p byte0 s
  | .lcfReceived p f => Sys2Proof.Machine.execLcfReceived p f s
  | .negFlitReceived p f => Sys2Proof.Machine.execNegFlitReceived p f s
  | .halyardBlockReceived p words ok tagOk => Sys2Proof.Machine.execHalyardBlockReceived p words ok tagOk s
  | .linkAuthReceived p firstSeq cnt ok => Sys2Proof.Machine.execLinkAuthReceived p firstSeq cnt ok s
  | .ackHoldExpiry p => Sys2Proof.Machine.execAckHoldExpiry p s
  | .lcfPeriodic p => Sys2Proof.Machine.execLcfPeriodic p s
  | .creditReportDue p v => Sys2Proof.Machine.execCreditReportDue p v s
  | .nakHoldoffExpiry p => Sys2Proof.Machine.execNakHoldoffExpiry p s
  | .replayTimeout p => Sys2Proof.Machine.execReplayTimeout p s
  | .negFlitTimer p => Sys2Proof.Machine.execNegFlitTimer p s
  | .confirmTimeout p => Sys2Proof.Machine.execConfirmTimeout p s
  | .resyncTimeout p => Sys2Proof.Machine.execResyncTimeout p s
  | .timeWordTimer p => Sys2Proof.Machine.execTimeWordTimer p s
  | .pauseExpiry p => Sys2Proof.Machine.execPauseExpiry p s
  | .linkAdmit aseq => Sys2Proof.Machine.execLinkAdmit aseq s
  | .routeNoticeRepeat p => Sys2Proof.Machine.execRouteNoticeRepeat p s
  | .restoreHoldExpiry p => Sys2Proof.Machine.execRestoreHoldExpiry p s
  | .routeRestoreRepeat p => Sys2Proof.Machine.execRouteRestoreRepeat p s
  | .routeNoticeReceived pid => Sys2Proof.Machine.execRouteNoticeReceived pid s
  | .noticeHoldExpiry => Sys2Proof.Machine.execNoticeHoldExpiry s
  | .atTimeSwitch => Sys2Proof.Machine.execAtTimeSwitch s
  | .drainStart => Sys2Proof.Machine.execDrainStart s
  | .drainComplete => Sys2Proof.Machine.execDrainComplete s
  | .drainPauseCancel => Sys2Proof.Machine.execDrainPauseCancel s
  | .quenchExpiry => Sys2Proof.Machine.execQuenchExpiry s
  | .queueSampleTimer q => Sys2Proof.Machine.execQueueSampleTimer q s
  | .ctxOpen aseq => Sys2Proof.Machine.execCtxOpen aseq s
  | .ctxClose aseq => Sys2Proof.Machine.execCtxClose aseq s
  | .ctxAbort aseq => Sys2Proof.Machine.execCtxAbort aseq s
  | .ctxMigrate aseq => Sys2Proof.Machine.execCtxMigrate aseq s
  | .ctxReparent aseq => Sys2Proof.Machine.execCtxReparent aseq s
  | .ctxBind aseq => Sys2Proof.Machine.execCtxBind aseq s
  | .ctxStat aseq => Sys2Proof.Machine.execCtxStat aseq s
  | .contributionTaken pid => Sys2Proof.Machine.execContributionTaken pid s
  | .chunkComplete ix n => Sys2Proof.Machine.execChunkComplete ix n s
  | .rootChunkComplete ix n => Sys2Proof.Machine.execRootChunkComplete ix n s
  | .resultArrival p => Sys2Proof.Machine.execResultArrival p s
  | .arrivalTimeout ix => Sys2Proof.Machine.execArrivalTimeout ix s
  | .accEcc ix => Sys2Proof.Machine.execAccEcc ix s
  | .failPennantReceived pid => Sys2Proof.Machine.execFailPennantReceived pid s
  | .stubRetire ix => Sys2Proof.Machine.execStubRetire ix s
  | .trigArm aseq => Sys2Proof.Machine.execTrigArm aseq s
  | .trigDisarm aseq => Sys2Proof.Machine.execTrigDisarm aseq s
  | .trigAdvance aseq => Sys2Proof.Machine.execTrigAdvance aseq s
  | .operationEnd t => Sys2Proof.Machine.execOperationEnd t s
  | .remoteRspReceived pid => Sys2Proof.Machine.execRemoteRspReceived pid s
  | .remoteRspTimeout t => Sys2Proof.Machine.execRemoteRspTimeout t s
  | .opWrite aseq => Sys2Proof.Machine.execOpWrite aseq s
  | .collLaunch aseq => Sys2Proof.Machine.execCollLaunch aseq s
  | .regionReg aseq => Sys2Proof.Machine.execRegionReg aseq s
  | .regionDereg aseq => Sys2Proof.Machine.execRegionDereg aseq s
  | .regionDeregComplete no => Sys2Proof.Machine.execRegionDeregComplete no s
  | .streamerLanding pid t => Sys2Proof.Machine.execStreamerLanding pid t s
  | .landingComplete pid t => Sys2Proof.Machine.execLandingComplete pid t s
  | .trigPennantReceived pid => Sys2Proof.Machine.execTrigPennantReceived pid s
  | .dispatchTokenReceived pid t => Sys2Proof.Machine.execDispatchTokenReceived pid t s
  | .tokenSlotAvailable q => Sys2Proof.Machine.execTokenSlotAvailable q s
  | .gateRecordTaken q => Sys2Proof.Machine.execGateRecordTaken q s
  | .gateTimeout q slot => Sys2Proof.Machine.execGateTimeout q slot s
  | .expertFailReceived pid => Sys2Proof.Machine.execExpertFailReceived pid s
  | .tileLaunch aseq => Sys2Proof.Machine.execTileLaunch aseq s
  | .tileNop t bad => Sys2Proof.Machine.execTileNop t bad s
  | .add t bad => Sys2Proof.Machine.execAdd t bad s
  | .sub t bad => Sys2Proof.Machine.execSub t bad s
  | .mul t bad => Sys2Proof.Machine.execMul t bad s
  | .and t bad => Sys2Proof.Machine.execAnd t bad s
  | .or t bad => Sys2Proof.Machine.execOr t bad s
  | .xor t bad => Sys2Proof.Machine.execXor t bad s
  | .shl t bad => Sys2Proof.Machine.execShl t bad s
  | .shr t bad => Sys2Proof.Machine.execShr t bad s
  | .sra t bad => Sys2Proof.Machine.execSra t bad s
  | .slt t bad => Sys2Proof.Machine.execSlt t bad s
  | .sltu t bad => Sys2Proof.Machine.execSltu t bad s
  | .addi t bad => Sys2Proof.Machine.execAddi t bad s
  | .andi t bad => Sys2Proof.Machine.execAndi t bad s
  | .ori t bad => Sys2Proof.Machine.execOri t bad s
  | .xori t bad => Sys2Proof.Machine.execXori t bad s
  | .shli t bad => Sys2Proof.Machine.execShli t bad s
  | .shri t bad => Sys2Proof.Machine.execShri t bad s
  | .srai t bad => Sys2Proof.Machine.execSrai t bad s
  | .lui t bad => Sys2Proof.Machine.execLui t bad s
  | .ld t bad => Sys2Proof.Machine.execLd t bad s
  | .st t bad => Sys2Proof.Machine.execSt t bad s
  | .amo t bad => Sys2Proof.Machine.execAmo t bad s
  | .br t bad => Sys2Proof.Machine.execBr t bad s
  | .jal t bad => Sys2Proof.Machine.execJal t bad s
  | .jalr t bad => Sys2Proof.Machine.execJalr t bad s
  | .fenceLd t bad => Sys2Proof.Machine.execFenceLd t bad s
  | .fenceSt t bad => Sys2Proof.Machine.execFenceSt t bad s
  | .fenceSc t bad => Sys2Proof.Machine.execFenceSc t bad s
  | .fenceTn t bad => Sys2Proof.Machine.execFenceTn t bad s
  | .wait t bad => Sys2Proof.Machine.execWait t bad s
  | .halt t bad => Sys2Proof.Machine.execHalt t bad s
  | .trap t bad => Sys2Proof.Machine.execTrap t bad s
  | .rete t bad => Sys2Proof.Machine.execRete t bad s
  | .csrr t bad => Sys2Proof.Machine.execCsrr t bad s
  | .csrw t bad => Sys2Proof.Machine.execCsrw t bad s
  | .vld t bad => Sys2Proof.Machine.execVld t bad s
  | .vst t bad => Sys2Proof.Machine.execVst t bad s
  | .vadd t bad => Sys2Proof.Machine.execVadd t bad s
  | .vsub t bad => Sys2Proof.Machine.execVsub t bad s
  | .vmul t bad => Sys2Proof.Machine.execVmul t bad s
  | .vfma t bad => Sys2Proof.Machine.execVfma t bad s
  | .vmax t bad => Sys2Proof.Machine.execVmax t bad s
  | .vmin t bad => Sys2Proof.Machine.execVmin t bad s
  | .vdiv t bad => Sys2Proof.Machine.execVdiv t bad s
  | .vsqrt t bad => Sys2Proof.Machine.execVsqrt t bad s
  | .vcmp t bad => Sys2Proof.Machine.execVcmp t bad s
  | .vsel t bad => Sys2Proof.Machine.execVsel t bad s
  | .vbcast t bad => Sys2Proof.Machine.execVbcast t bad s
  | .vredsum t bad => Sys2Proof.Machine.execVredsum t bad s
  | .vredmax t bad => Sys2Proof.Machine.execVredmax t bad s
  | .vextr t bad => Sys2Proof.Machine.execVextr t bad s
  | .vexp2 t bad => Sys2Proof.Machine.execVexp2 t bad s
  | .vlog2 t bad => Sys2Proof.Machine.execVlog2 t bad s
  | .vrcp t bad => Sys2Proof.Machine.execVrcp t bad s
  | .vrsqrt t bad => Sys2Proof.Machine.execVrsqrt t bad s
  | .vtanh t bad => Sys2Proof.Machine.execVtanh t bad s
  | .vsigm t bad => Sys2Proof.Machine.execVsigm t bad s
  | .vrng t bad => Sys2Proof.Machine.execVrng t bad s
  | .mma t bad => Sys2Proof.Machine.execMma t bad s
  | .mmaC t bad => Sys2Proof.Machine.execMmaC t bad s
  | .xfer t bad => Sys2Proof.Machine.execXfer t bad s
  | .cinj t bad => Sys2Proof.Machine.execCinj t bad s
  | .cbind t bad => Sys2Proof.Machine.execCbind t bad s
  | .tadv t bad => Sys2Proof.Machine.execTadv t bad s
  | .twait t bad => Sys2Proof.Machine.execTwait t bad s
  | .gpost t bad => Sys2Proof.Machine.execGpost t bad s
  | .rxwait t bad => Sys2Proof.Machine.execRxwait t bad s
  | .rxdone t bad => Sys2Proof.Machine.execRxdone t bad s
  | .asyncInstructionComplete t q bad => Sys2Proof.Machine.execAsyncInstructionComplete t q bad s
  | .blockInjection t q bad => Sys2Proof.Machine.execBlockInjection t q bad s
  | .storePerformed t ix => Sys2Proof.Machine.execStorePerformed t ix s
  | .modelFetch aseq => Sys2Proof.Machine.execModelFetch aseq s
  | .modelFetchComplete sl sig => Sys2Proof.Machine.execModelFetchComplete sl sig s
  | .modelLoad aseq sig => Sys2Proof.Machine.execModelLoad aseq sig s
  | .modelLoadSectionsWritten sl => Sys2Proof.Machine.execModelLoadSectionsWritten sl s
  | .modelSwap aseq sig => Sys2Proof.Machine.execModelSwap aseq sig s
  | .modelSwapStepDrained sl => Sys2Proof.Machine.execModelSwapStepDrained sl s
  | .modelMove aseq => Sys2Proof.Machine.execModelMove aseq s
  | .modelMoveStubExpiry sl => Sys2Proof.Machine.execModelMoveStubExpiry sl s
  | .modelEvict aseq => Sys2Proof.Machine.execModelEvict aseq s
  | .serveOpen pid => Sys2Proof.Machine.execServeOpen pid s
  | .serveAppend pid => Sys2Proof.Machine.execServeAppend pid s
  | .serveGenerate pid => Sys2Proof.Machine.execServeGenerate pid s
  | .serveCancel pid => Sys2Proof.Machine.execServeCancel pid s
  | .servePark pid => Sys2Proof.Machine.execServePark pid s
  | .serveResume pid => Sys2Proof.Machine.execServeResume pid s
  | .serveSnapshot pid => Sys2Proof.Machine.execServeSnapshot pid s
  | .serveRestore pid => Sys2Proof.Machine.execServeRestore pid s
  | .serveClose pid => Sys2Proof.Machine.execServeClose pid s
  | .serveDataAppend pid => Sys2Proof.Machine.execServeDataAppend pid s
  | .serveStoreOpComplete sl ix => Sys2Proof.Machine.execServeStoreOpComplete sl ix s
  | .modelStep sl dur out => Sys2Proof.Machine.execModelStep sl dur out s
  | .sramEccResetTimer t => Sys2Proof.Machine.execSramEccResetTimer t s
  | .sramScrubPeriod t hits => Sys2Proof.Machine.execSramScrubPeriod t hits s
  | .sramTest aseq => Sys2Proof.Machine.execSramTest aseq s
  | .marchTestComplete t lines spareBad unc => Sys2Proof.Machine.execMarchTestComplete t lines spareBad unc s
  | .hbmUncorrectable q addr user => Sys2Proof.Machine.execHbmUncorrectable q addr user s
  | .hbmPatrolScrub q unc corr ondie => Sys2Proof.Machine.execHbmPatrolScrub q unc corr ondie s
  | .hbmRefreshDue q => Sys2Proof.Machine.execHbmRefreshDue q s
  | .hbmTempCheck q temp => Sys2Proof.Machine.execHbmTempCheck q temp s
  | .hbmChannelRetrainDone q ok => Sys2Proof.Machine.execHbmChannelRetrainDone q ok s
  | .hbmChannelRetrainNext q => Sys2Proof.Machine.execHbmChannelRetrainNext q s
  | .hbmRetrainRetry q => Sys2Proof.Machine.execHbmRetrainRetry q s
  | .nvsDiscoveryComplete ts => Sys2Proof.Machine.execNvsDiscoveryComplete ts s
  | .unitReadComplete h u step heavy => Sys2Proof.Machine.execUnitReadComplete h u step heavy s
  | .programComplete id ok => Sys2Proof.Machine.execProgramComplete id ok s
  | .eraseComplete t b ok => Sys2Proof.Machine.execEraseComplete t b ok s
  | .targetTimeout t => Sys2Proof.Machine.execTargetTimeout t s
  | .storeDataArrival id n => Sys2Proof.Machine.execStoreDataArrival id n s
  | .fillToExpiry => Sys2Proof.Machine.execFillToExpiry s
  | .absorbResultReceived pid => Sys2Proof.Machine.execAbsorbResultReceived pid s
  | .retentionScan t b ix step heavy => Sys2Proof.Machine.execRetentionScan t b ix step heavy s
  | .blockRefreshComplete t b => Sys2Proof.Machine.execBlockRefreshComplete t b s
  | .mapCheckpoint => Sys2Proof.Machine.execMapCheckpoint s
  | .rebuildComplete => Sys2Proof.Machine.execRebuildComplete s
  | .storeFormat aseq => Sys2Proof.Machine.execStoreFormat aseq s
  | .storeStat aseq => Sys2Proof.Machine.execStoreStat aseq s
  | .storeQuiesce aseq => Sys2Proof.Machine.execStoreQuiesce aseq s
  | .objCreate aseq => Sys2Proof.Machine.execObjCreate aseq s
  | .objWrite aseq => Sys2Proof.Machine.execObjWrite aseq s
  | .objRead aseq => Sys2Proof.Machine.execObjRead aseq s
  | .objSeal aseq => Sys2Proof.Machine.execObjSeal aseq s
  | .objDelete aseq => Sys2Proof.Machine.execObjDelete aseq s
  | .objStat aseq => Sys2Proof.Machine.execObjStat aseq s
  | .absorbBind aseq => Sys2Proof.Machine.execAbsorbBind aseq s
  | .storeTransferComplete aseq => Sys2Proof.Machine.execStoreTransferComplete aseq s
  | .pwrfailAsserted => Sys2Proof.Machine.execPwrfailAsserted s
  | .holdupDone => Sys2Proof.Machine.execHoldupDone s
  | .pwrfailDeasserted => Sys2Proof.Machine.execPwrfailDeasserted s
  | .railUndervoltage r => Sys2Proof.Machine.execRailUndervoltage r s
  | .commandTaken => Sys2Proof.Machine.execCommandTaken s
  | .commandBegin aseq => Sys2Proof.Machine.execCommandBegin aseq s
  | .mbxSendDmwr fn ch off ws => Sys2Proof.Machine.execMbxSendDmwr fn ch off ws s
  | .mbxDoorbellWrite fn ch wrong => Sys2Proof.Machine.execMbxDoorbellWrite fn ch wrong s
  | .mbxCplHeadWrite fn ch n => Sys2Proof.Machine.execMbxCplHeadWrite fn ch n s
  | .mbxEmptyArmWrite fn ch => Sys2Proof.Machine.execMbxEmptyArmWrite fn ch s
  | .mbxCtlLockWrite => Sys2Proof.Machine.execMbxCtlLockWrite s
  | .channelRebindEffective ch => Sys2Proof.Machine.execChannelRebindEffective ch s
  | .mctpCommandMessage intf eid mtag ws => Sys2Proof.Machine.execMctpCommandMessage intf eid mtag ws s
  | .cmdPennantReceived pid => Sys2Proof.Machine.execCmdPennantReceived pid s
  | .functionLevelReset fn => Sys2Proof.Machine.execFunctionLevelReset fn s
  | .perst => Sys2Proof.Machine.execPerst s
  | .nop aseq => Sys2Proof.Machine.execNop aseq s
  | .devInfo aseq => Sys2Proof.Machine.execDevInfo aseq s
  | .cmdCaps aseq => Sys2Proof.Machine.execCmdCaps aseq s
  | .chanBind aseq => Sys2Proof.Machine.execChanBind aseq s
  | .chanLock aseq => Sys2Proof.Machine.execChanLock aseq s
  | .cmdCancel aseq => Sys2Proof.Machine.execCmdCancel aseq s
  | .cfgCommit aseq bodies sig => Sys2Proof.Machine.execCfgCommit aseq bodies sig s
  | .cfgCommitCancel aseq => Sys2Proof.Machine.execCfgCommitCancel aseq s
  | .cfgCommitDrainComplete => Sys2Proof.Machine.execCfgCommitDrainComplete s
  | .fltHistRead aseq => Sys2Proof.Machine.execFltHistRead aseq s
  | .fltClear aseq => Sys2Proof.Machine.execFltClear aseq s
  | .reset aseq => Sys2Proof.Machine.execReset aseq s
  | .tileReset aseq => Sys2Proof.Machine.execTileReset aseq s
  | .jobAbort aseq => Sys2Proof.Machine.execJobAbort aseq s
  | .hoistJoin aseq => Sys2Proof.Machine.execHoistJoin aseq s
  | .lockstepStart aseq => Sys2Proof.Machine.execLockstepStart aseq s
  | .hoistArrive pid => Sys2Proof.Machine.execHoistArrive pid s
  | .hoistReleaseReceived pid => Sys2Proof.Machine.execHoistReleaseReceived pid s
  | .hoistFailReceived pid => Sys2Proof.Machine.execHoistFailReceived pid s
  | .hoistReleaseTime ix => Sys2Proof.Machine.execHoistReleaseTime ix s
  | .hoistDeadline ix => Sys2Proof.Machine.execHoistDeadline ix s
  | .cutOff ix => Sys2Proof.Machine.execCutOff ix s
  | .slotStart => Sys2Proof.Machine.execSlotStart s
  | .slotGuardBand => Sys2Proof.Machine.execSlotGuardBand s
  | .quietTimerExpiry => Sys2Proof.Machine.execQuietTimerExpiry s
  | .struckWindowExpiry => Sys2Proof.Machine.execStruckWindowExpiry s
  | .watchdog t => Sys2Proof.Machine.execWatchdog t s
  | .engineHang e => Sys2Proof.Machine.execEngineHang e s
  | .seqHang q => Sys2Proof.Machine.execSeqHang q s
  | .dispatchHang q => Sys2Proof.Machine.execDispatchHang q s
  | .ctrlHang => Sys2Proof.Machine.execCtrlHang s
  | .thidanHeartbeat => Sys2Proof.Machine.execThidanHeartbeat s
  | .heartbeatLost => Sys2Proof.Machine.execHeartbeatLost s
  | .thidanRestartComplete => Sys2Proof.Machine.execThidanRestartComplete s
  | .restartFail => Sys2Proof.Machine.execRestartFail s
  | .sentinelKick => Sys2Proof.Machine.execSentinelKick s
  | .hwWatchdog => Sys2Proof.Machine.execHwWatchdog s
  | .resetRelease level target => Sys2Proof.Machine.execResetRelease level target s
  | .resetHung level target => Sys2Proof.Machine.execResetHung level target s
  | .forcedFlushLimit => Sys2Proof.Machine.execForcedFlushLimit s
  | .bringupStart => Sys2Proof.Machine.execBringupStart s
  | .coldResetAsserted => Sys2Proof.Machine.execColdResetAsserted s
  | .fuseLoadComplete => Sys2Proof.Machine.execFuseLoadComplete s
  | .secureBootComplete goodA goodB => Sys2Proof.Machine.execSecureBootComplete goodA goodB s
  | .hbmTrainingComplete q => Sys2Proof.Machine.execHbmTrainingComplete q s
  | .hbmMemtestComplete q march retention disturb repaired => Sys2Proof.Machine.execHbmMemtestComplete q march retention disturb repaired s
  | .katComplete blk ix ok => Sys2Proof.Machine.execKatComplete blk ix ok s
  | .testRecordWritten => Sys2Proof.Machine.execTestRecordWritten s
  | .deviceReady => Sys2Proof.Machine.execDeviceReady s
  | .testRecordSync => Sys2Proof.Machine.execTestRecordSync s
  | .oeLctlRetrainWrite x => Sys2Proof.Machine.execOeLctlRetrainWrite x s
  | .hbmCtlRetrainWrite q => Sys2Proof.Machine.execHbmCtlRetrainWrite q s
  | .telRead aseq => Sys2Proof.Machine.execTelRead aseq s
  | .snapArm aseq => Sys2Proof.Machine.execSnapArm aseq s
  | .snapRead aseq => Sys2Proof.Machine.execSnapRead aseq s
  | .tagSet aseq => Sys2Proof.Machine.execTagSet aseq s
  | .hist aseq => Sys2Proof.Machine.execHist aseq s
  | .sampleSet aseq => Sys2Proof.Machine.execSampleSet aseq s
  | .sampleRead aseq => Sys2Proof.Machine.execSampleRead aseq s
  | .traceRead aseq => Sys2Proof.Machine.execTraceRead aseq s
  | .snapshotTime ix => Sys2Proof.Machine.execSnapshotTime ix s
  | .buntingSet aseq => Sys2Proof.Machine.execBuntingSet aseq s
  | .buntingArm aseq => Sys2Proof.Machine.execBuntingArm aseq s
  | .buntingFreeze aseq => Sys2Proof.Machine.execBuntingFreeze aseq s
  | .buntingRead aseq => Sys2Proof.Machine.execBuntingRead aseq s
  | .buntingFree aseq => Sys2Proof.Machine.execBuntingFree aseq s
  | .mirrorSet aseq => Sys2Proof.Machine.execMirrorSet aseq s
  | .telCvalLoRead => Sys2Proof.Machine.execTelCvalLoRead s
  | .hubFtimeLoRead => Sys2Proof.Machine.execHubFtimeLoRead s
  | .hubSteploRead => Sys2Proof.Machine.execHubSteploRead s
  | .ownerAuthChallenge aseq => Sys2Proof.Machine.execOwnerAuthChallenge aseq s
  | .ownerAuthResponse aseq sig => Sys2Proof.Machine.execOwnerAuthResponse aseq sig s
  | .ownerAuthAuditRead aseq => Sys2Proof.Machine.execOwnerAuthAuditRead aseq s
  | .fuseWrite aseq => Sys2Proof.Machine.execFuseWrite aseq s
  | .fuseBurnComplete => Sys2Proof.Machine.execFuseBurnComplete s
  | .arbAdvance aseq => Sys2Proof.Machine.execArbAdvance aseq s
  | .keyInstall aseq sig => Sys2Proof.Machine.execKeyInstall aseq sig s
  | .fwStage aseq c => Sys2Proof.Machine.execFwStage aseq c s
  | .fwActivate aseq => Sys2Proof.Machine.execFwActivate aseq s
  | .stagingSessionTimeout => Sys2Proof.Machine.execStagingSessionTimeout s
  | .spdmMessageReceived via m => Sys2Proof.Machine.execSpdmMessageReceived via m s
  | .attestationTimeout p => Sys2Proof.Machine.execAttestationTimeout p s
  | .attestationRetry p => Sys2Proof.Machine.execAttestationRetry p s
  | .pldmMessage intf eid mtag m => Sys2Proof.Machine.execPldmMessage intf eid mtag m s
  | .mctpControlMessage intf eid mtag m => Sys2Proof.Machine.execMctpControlMessage intf eid mtag m s
  | .jtagInstruction m => Sys2Proof.Machine.execJtagInstruction m s
  | .refclkLoss ref => Sys2Proof.Machine.execRefclkLoss ref s
  | .refclkFtReturn => Sys2Proof.Machine.execRefclkFtReturn s
  | .lmodFltChange m low => Sys2Proof.Machine.execLmodFltChange m low s
  | .lmodEnOffDelay m => Sys2Proof.Machine.execLmodEnOffDelay m s
  | .tileErrUnhandledClear t => Sys2Proof.Machine.execTileErrUnhandledClear t s
  | .tileErrResetSeenClear t => Sys2Proof.Machine.execTileErrResetSeenClear t s
  | .registerWrite fn off len whole w0 w1 => Sys2Proof.Machine.execRegisterWrite fn off len whole w0 w1 s
  | .transmitBlockSlot p => Sys2Proof.Machine.execTransmitBlockSlot p s
  | .shaperRefill p v => Sys2Proof.Machine.execShaperRefill p v s
  | .hostTransferComplete aseq ok bytes => Sys2Proof.Machine.execHostTransferComplete aseq ok bytes s
  | .railInRange r => Sys2Proof.Machine.execRailInRange r s
  | .refclkReturn ref => Sys2Proof.Machine.execRefclkReturn ref s
  | .d3hotEntry fn => Sys2Proof.Machine.execD3hotEntry fn s

end Sys2Proof.Machine
end

