-- ==== Sys2Proof/Safety.lean ====
section
/-! DEFINITION. The terms the statements are written in: what it is for a command to complete, for a Thidan command
to have begun and to be answered, for a tile to be about to run an instruction, and what every step keeps. -/

namespace Sys2Proof

open Sys2Proof.Machine

/-- The command answers a next state, leaves the queue as it stands, and leaves a device of which `P` holds. -/
def Does (c : Instr) (s : State) (P : Dev → Prop) : Prop :=
  ∃ t, exec c s = .next t ∧ t.pending = s.pending ∧ P t.dev

/-- Journal entry `aseq` is `j`: a PCIe packet of opcode `op` whose execution has begun and whose completion will be
delivered (R410, R435). -/
abbrev Begun (d : Dev) (aseq op : Nat) (j : JEntry) : Prop :=
  d.job? aseq = some j ∧ j.phase = .begun ∧ j.op = op ∧ j.pkt.origin = .pcie ∧ j.lost = false

/-- The command of `j` has completed: its entry has left the journal, and the newest entry of its channel's completion
FIFO is its completion (R414). -/
abbrev Answered (d : Dev) (j : JEntry) (status : Nat) (res : List Nat := []) (detail : Nat := 0) : Prop :=
  d.job? j.aseq = none ∧
    (d.chan j.chan).cplq.getLast? = some (cplWords 0 j.op (j.w 1) status j.chan detail res)

/-- The command of `j` is running (R410). -/
abbrev Running (d : Dev) (j : JEntry) : Prop := (d.job? j.aseq).map JEntry.phase = some .running

/-- A SERVE pennant of opcode `op`, packet `pid`, has been taken as `k` from attach point `ing`, leaving `d1`, and passes
the tests of R352 that come before its session: it names the RESIDENT model of slot `m` with the model's burgee and an
EPOCH of 0 or the model's. -/
abbrev Asks (d : Dev) (pid op : Nat) (k : Packet) (ing : Nat) (d1 : Dev) (m : Nat) : Prop :=
  d.takeReq pid (fun k => k.pclass = 1 && k.typ = 5 && k.opcode = op) = some (k, ing, d1) ∧
    d1.modelById (k.arg5 / 65536) = some m ∧ (d1.model m).state = msResident ∧
    (k.arg6 % 256 = 0 ∨ k.arg6 % 256 = (d1.model m).epoch) ∧ k.burgee = (d1.model m).burgee

/-- The session that a request names is its source's, in one of the model's places, in state `st`, and the TAG is
new to it. -/
abbrev Owns (d : Dev) (k : Packet) (m st : Nat) (x : Session) : Prop :=
  d.session m (k.arg5 % 65536) = x ∧ x.state = st ∧ x.owner = k.src ∧ x.burgee = k.burgee ∧
    k.arg5 % 65536 < (d.model m).users ∧ x.openTags.contains k.tag = false ∧
    (x.last.filter fun l => l.1 = k.tag) = none

/-- A register whose write does no more than R9 gives its access codes: it lies outside the channel windows, and holds
no field that something else follows. -/
def stores (r : RegRow) : Bool :=
  r.blk != .mbxw && !(r.flds.any fun g => [R.HUB_FTCFG_UPPORT, R.OE_PFORM_X4, R.LNK_CFG_REPLAY_TO, R.BPM_PCFG_EN,
    R.RTE_HCFG_SALT, R.HBM_AREA_WIN, R.RED_SCRATCH_SIZE, R.THD_MCACHE_SIZE, R.THD_MDLACC_SLOT, R.SEC_PACC_PORT,
    R.PWR_QMARGIN_MARGIN, R.TILE_ERR_UNHANDLED, R.HUB_ERR_UNMAPPED, R.HUB_IEN_PWR_EN, R.PWR_IEN_WARN,
    R.PWR_IPEND_WARN, R.FLT_STAT_FAULT_SEEN, R.MBX_CTL_LOCK, R.MBX_CTAB_A_ENTRY_A, R.MBX_CTAB_B_ENTRY_B,
    R.OE_LCTL_RETRAIN, R.HBM_CTL_RETRAIN].any fun f => g.id = f.id)

/-- The value of a field of value `old` after a write of `v` by its access code (R9), an RWL field being unlocked. -/
def written (f : Fld) (old v : Nat) : Nat :=
  match f.acc with
  | .rw => storeVal f v % 2 ^ f.w
  | .rwl => storeVal f v % 2 ^ f.w
  | .rw1c => (old - (old &&& v)) % 2 ^ f.w
  | .rw1s => (old ||| v) % 2 ^ f.w
  | .ro => old
  | .wo => old
  | .fuse => old

/-- The words of a range of tile SRAM of which a step's ECC finds none uncorrectable. -/
def clean (bad : EccHits) (a n : Nat) : Bool := (wordsOf a n).all fun w => !(bad.unc.contains w)

/-- Tile `t` is about to run the instruction word `w`, of opcode `opc`, that its SRAM holds at its PC (R303, R331). -/
abbrev Fetches (d : Dev) (t opc w : Nat) (bad : EccHits) : Prop :=
  d.canIssue t = true ∧ (d.tile t).pc % 8 = 0 ∧ (d.tile t).pc < sramBytes ∧
    d.poisonIn t (d.tile t).pc 8 = none ∧ clean bad (d.tile t).pc 8 = true ∧
    ofLE ((d.sramOf t).readN (d.tile t).pc 8) = w ∧ iOpc w = opc ∧ opcListed opc = true

/-- General register `i` of a tile as a 64-bit word; g0 reads 0. -/
def Machine.Tile.gv (x : Tile) (i : Nat) : Word64 := if i = 0 then 0 else x.g.getD i 0

/-- General register `i` of a tile written with a 64-bit word; a write to g0 is discarded. -/
def Machine.Tile.putG (x : Tile) (i : Nat) (v : Word64) : Tile := if i = 0 then x else { x with g := x.g.set i v }

/-- IMM of an instruction word of format I: 32 bits, sign-extended (R303). -/
def imm64 (w : Nat) : Word64 := (BitVec.ofNat 32 w).signExtend 64

/-- A tile after an instruction that leaves it as `f` says and PC at `pc'`: one more instruction has issued. -/
def Machine.Tile.after (x : Tile) (pc' : Nat) (f : Tile → Tile) : Tile :=
  { f { x with nIns := x.nIns + 1 } with pc := pc' % 2 ^ 64 }

/-- Tile `t` is the only tile that has changed, as `f` and PC say, and no byte of tile SRAM or HBM has. -/
abbrev Moves (d d' : Dev) (t pc' : Nat) (f : Tile → Tile) : Prop :=
  d'.tile t = (d.tile t).after pc' f ∧ (∀ u, u ≠ t → d'.tile u = d.tile u) ∧
    (∀ u, d'.sramOf u = d.sramOf u) ∧ d'.hbm = d.hbm

/-- The instruction at PC retires: PC moves on by 8. -/
abbrev Retires (d d' : Dev) (t : Nat) (f : Tile → Tile) : Prop := Moves d d' t ((d.tile t).pc + 8) f

/-- Every memory of the device is in its canonical form: addresses strictly rising, and no listed byte equal to what an
unlisted address reads as. -/
def Canonical (d : Dev) : Prop := (∀ t, (d.sramOf t).wf = true) ∧ ∀ q, (d.hbmOf q).wf = true

/-- Every command that waits is well formed. -/
abbrev Waiting (s : State) : Prop := s.pending.all wfInstr = true

/-- Everything but the register file, the counters, the history, the mailboxes and what goes out is as it was: fabric
time, every memory and its protection, the tiles, the models, the reduction and collective state, the store. -/
abbrev SameBlocks (d d' : Dev) : Prop :=
  d'.now = d.now ∧ d'.sram = d.sram ∧ d'.hbm = d.hbm ∧ d'.ecc = d.ecc ∧ d'.hstacks = d.hstacks ∧ d'.tiles = d.tiles ∧
    d'.models = d.models ∧ d'.red = d.red ∧ d'.store = d.store ∧ d'.time = d.time

/-- Nothing but the listed register fields and what goes out has changed. -/
abbrev OnlyRegs (d d' : Dev) (fs : List Fld) : Prop :=
  { d' with regs := d.regs, out := d.out } = d ∧
    ∀ f i k, (fs.all fun g => g.id != f.id) = true → d'.rd f i k = d.rd f i k

/-- Tile `t` has taken a handled exception of the instruction at its PC (R330): EPC, ECAUSE, EINFO and EADDR saved,
EXC_ACTIVE set, and PC at EVEC. -/
abbrev Takes (d d' : Dev) (t cause eaddr einfo : Nat) : Prop :=
  Moves d d' t (d.tile t).evec fun y =>
    { y with epc := y.pc, ecause := cause, einfo := einfo, eaddr := eaddr % 2 ^ 64, active := true }

end Sys2Proof
end

