-- ==== Sys2Proof/Certificates/Slice0/Obligations.lean ====
section
/-! DEFINITION. The statements for the provers. -/

open Sys2Proof Sys2Proof.Machine

/-- An OP_SET to another point from OP0 to OP2 starts the ramp; the settled rails put the point in force; the drain of OP3 ends in the ramp down or, after 10 ms, is abandoned; the end of the way out and a regulation fault leave what R31 to R36 say. -/
def Obligations.OperatingPointCommands : Prop :=
  (∀ (s : State) (aseq : Nat) (j : JEntry),
      Begun s.dev aseq 0x0101 j →
      s.dev.pwr.opJob = none →
      s.dev.time.det ≠ 2 →
      j.w 4 % 4 ≠ 3 →
      s.dev.rd R.PWR_OPSTAT_OP_CUR ≠ 3 →
      j.w 4 % 4 ≠ s.dev.rd R.PWR_OPSTAT_OP_CUR →
      Does (.opSet aseq) s fun d => d.rd R.PWR_OPSTAT_OP_TGT = j.w 4 % 4 ∧ d.rd R.PWR_OPSTAT_RAMPING = 1 ∧ d.pwr.opJob = some aseq ∧ d.pwr.phase = .ramp ∧
        d.rd R.PWR_OPSTAT_OP_CUR = s.dev.rd R.PWR_OPSTAT_OP_CUR)
  ∧ (∀ (s : State) (v : List Nat),
      s.dev.on R.PWR_OPSTAT_RAMPING = true →
      s.dev.pwr.phase = .ramp →
      (v.any fun x => decide (x + 1 < vcoreOf (s.dev.rd R.PWR_OPSTAT_OP_TGT)) ||
        decide (vcoreOf (s.dev.rd R.PWR_OPSTAT_OP_TGT) + 1 < x)) = false →
      Does (.railRampSettled v) s fun d => d.rd R.PWR_OPSTAT_OP_CUR = s.dev.rd R.PWR_OPSTAT_OP_TGT % 4 ∧ d.rd R.PWR_OPSTAT_RAMPING = 0 ∧ d.pwr.opJob = none ∧
        d.rd R.PWR_OPSTAT_VCORE = v.foldl min 255 % 2 ^ 8)
  ∧ (∀ (s : State),
      s.dev.pwr.phase = .drain →
      s.dev.drainedForOp3 = true →
      Does (.op3DrainComplete) s fun d => d.rd R.PWR_OPSTAT_RAMPING = 1 ∧ d.pwr.phase = .down)
  ∧ (∀ (s : State),
      s.dev.pwr.phase = .drain →
      s.dev.pwr.opAt + 10000000 ≤ s.dev.now →
      Does (.op3DrainTimeout) s fun d => d.pwr.phase = .idle ∧ d.pwr.opJob = none ∧ d.rd R.PWR_OPSTAT_OP_TGT = d.rd R.PWR_OPSTAT_OP_CUR % 4)
  ∧ (∀ (s : State),
      s.dev.pwr.phase = .exit →
      s.dev.on R.PWR_OPSTAT_RAMPING = false →
      ∀ x < 1024, s.dev.laneState x = laStandby → (s.dev.lane x).wakeAt = none →
      Does (.op3ExitComplete) s fun d => d.pwr.phase = .idle ∧ d.pwr.opJob = none ∧ d.rd R.PWR_OPSTAT_OP_TGT = d.rd R.PWR_OPSTAT_OP_CUR % 4)
  ∧ (∀ (s : State) (pv : Nat),
      s.dev.on R.PWR_OPSTAT_RAMPING = false →
      Does (.regulation pv) s fun d => d.rd R.PWR_PVSTAT_FAULT 0 pv = 1 ∧ d.rd R.PWR_PVSTAT_FAULT_SEEN 0 pv = 1)

/-- A window's margin and its minimum are kept and BELOW_LINE is cleared at line rate; its pennant is sent again and BELOW_SEEN cleared as R44 says; a junction temperature, a power window, a module's fault pin and the end of LMOD_EN's delay leave their registers as R46 to R48 and R574 say. -/
def Obligations.MarginHeatAndPowerEvents : Prop :=
  (∀ (s : State) (q m : Nat),
      s.dev.pdOn (pdQuad q) = true →
      256 ≤ m →
      m < 1024 →
      Does (.qmarginWindow q m) s fun d => d.rd R.PWR_QMARGIN_MARGIN 0 q = m ∧ d.rd R.PWR_QMARGIN_BELOW_LINE 0 q = 0 ∧
        d.rd R.PWR_QMARGIN_MARGIN_MIN 0 q = min m (s.dev.rd R.PWR_QMARGIN_MARGIN_MIN 0 q))
  ∧ (∀ (s : State) (q : Nat),
      s.dev.on R.PWR_QMARGIN_BELOW_LINE 0 q = true →
      s.dev.belowDue q = true →
      Does (.belowLinePennantRepeat q) s fun d => d.pwr.belowSent.look q = some s.dev.now)
  ∧ (∀ (s : State) (q : Nat),
      Does (.qmarginBelowSeenClear q) s fun d => d.rd R.PWR_QMARGIN_BELOW_SEEN 0 q = 0 ∧ d.rd R.PWR_QMARGIN_MARGIN_MIN 0 q = 0x3FF)
  ∧ (∀ (s : State) (tj sensor : Nat),
      tj < 120 →
      s.dev.mgmt.boot.cooling = false →
      Does (.junctionTemperatureChange tj sensor) s fun d => d.rd R.PWR_THERM_TJ_HOT = tj ∧ d.rd R.PWR_THERM_HOT_SENSOR = sensor % 2 ^ 7 ∧
        d.pwr.thermGate = (if 110 ≤ tj ∨ (0 < s.dev.pwr.thermGate ∧ 107 ≤ tj) then 50 else 0))
  ∧ (∀ (s : State) (w : Nat),
      w ≤ s.dev.rd R.PWR_PLIMIT_LIMIT_W →
      Does (.powerLimitWindow w) s fun d => d.pwr.watts = w ∧ d.pwr.powGate = 0 ∧ d.rd R.PWR_THERM_GATE_PCT = s.dev.pwr.thermGate % 2 ^ 8)
  ∧ (∀ (s : State) (m : Nat) (low : Bool),
      m < 16 →
      Does (.lmodFltChange m low) s fun d => d.rdBit R.PWR_LMOD_FLT m = low)
  ∧ (∀ (s : State) (m t : Nat),
      m < 16 →
      s.dev.pwr.lmodOff.look m = some t →
      t ≤ s.dev.now →
      Does (.lmodEnOffDelay m) s fun d => d.rdBit R.PWR_LMOD_EN m = false ∧ d.pwr.lmodOff.look m = none)

/-- A PD_SET that no check refuses is in hand with its steps in order of dependency; a domain that completes its step is on, or off; OE_CLASS sets CLASS_NEXT of every engine it names. -/
def Obligations.PowerDomainCommands : Prop :=
  (∀ (s : State) (aseq : Nat) (j : JEntry),
      Begun s.dev aseq 0x0102 j →
      s.dev.pwr.pdJob = none →
      s.dev.pdRefusal j = 0 →
      ((pdOrder j.pdMask (bitOf (j.w 8) 0)).dropWhile fun x => decide (s.dev.pdOn x.1 = x.2)) ≠ [] →
      Does (.pdSet aseq) s fun d => d.pwr.pdJob = some aseq ∧
        d.pwr.pdSteps = (pdOrder j.pdMask (bitOf (j.w 8) 0)).dropWhile fun x => decide (s.dev.pdOn x.1 = x.2))
  ∧ (∀ (s : State) (pd : Nat),
      s.dev.pdStep pd true = true →
      100 ≤ pd →
      pd < 110 →
      Does (.domainOnComplete pd) s fun d => d.pdOn pd = true)
  ∧ (∀ (s : State) (pd : Nat),
      s.dev.pdStep pd false = true →
      32 ≤ pd →
      pd < 110 →
      Does (.domainOffComplete pd) s fun d => d.pdOn pd = false)
  ∧ (∀ (s : State) (aseq : Nat) (j : JEntry),
      Begun s.dev aseq 0x0103 j →
      j.w 5 % 4 ≠ 3 →
      (maskBits (j.w 4) 32).all (fun e => s.dev.pdOn (pdOe e)) = true →
      Does (.oeClass aseq) s fun d => Answered d j St.ok ∧ ∀ e ∈ maskBits (j.w 4) 32, d.rd R.OE_LASER_CLASS_NEXT e = j.w 5 % 4)

/-- A laser input that falls low or is restored sets its bits; each event of a lane's bring-up takes it to the state and step of R71, a step's timeout counts an attempt, its retry begins again, and a port whose lanes are all READY and aligned comes up. -/
def Obligations.LaneBringUpEvents : Prop :=
  (∀ (s : State) (e : Nat),
      s.dev.on R.OE_LASER_IN0_LOW e = false →
      s.dev.on R.OE_LASER_IN1_LOW e = false →
      Does (.laserLow e 0) s fun d => d.rd R.OE_LASER_IN0_LOW e = 1 ∧ d.rd R.OE_LASER_LOW_SEEN e = 1)
  ∧ (∀ (s : State) (e power : Nat),
      s.dev.on R.OE_LASER_IN0_LOW e = true →
      170 ≤ power →
      Does (.laserInputRestored e 0 power) s fun d => d.rd R.OE_LASER_IN0_LOW e = 0 ∧ d.rd R.OE_LASER_IN0_PWR e = min power (2 ^ R.OE_LASER_IN0_PWR.w - 1))
  ∧ (∀ (s : State) (x : Nat),
      s.dev.mayStart x = true →
      s.dev.bothLow (x / 32) = false →
      Does (.laneBringupStart x) s fun d => d.laneState x = laTraining ∧ d.laneStep x = 1)
  ∧ (∀ (s : State) (x : Nat),
      s.dev.laneState x = laTraining →
      s.dev.laneStep x = 1 →
      s.dev.on R.PWR_CLKSTAT_PHY_OK = true →
      Does (.laneRingLock x) s fun d => d.laneState x = laWaitLight ∧ d.laneStep x = 2 ∧ (d.lane x).txOn = true)
  ∧ (∀ (s : State) (x : Nat),
      s.dev.laneState x = laWaitLight →
      s.dev.laneStep x = 2 →
      Does (.laneLightDetected x) s fun d => d.laneState x = laTraining ∧ d.laneStep x = 3)
  ∧ (∀ (s : State) (x : Nat),
      s.dev.laneState x = laTraining →
      s.dev.laneStep x = 3 →
      Does (.laneCdrLock x) s fun d => d.laneState x = laTraining ∧ d.laneStep x = 4)
  ∧ (∀ (s : State) (x : Nat) (inv : Bool),
      s.dev.laneState x = laTraining →
      s.dev.laneStep x = 4 →
      Does (.laneFrameLock x inv) s fun d => d.laneStep x = 5 ∧ d.lrd R.OE_LSTAT_POL_INV x = b2n inv)
  ∧ (∀ (s : State) (x : Nat),
      s.dev.laneState x = laTraining →
      s.dev.laneStep x = 5 →
      Does (.laneEqTrained x) s fun d => d.laneState x = laTraining ∧ d.laneStep x = 6)
  ∧ (∀ (s : State) (x errs total : Nat),
      s.dev.laneState x = laTraining →
      s.dev.laneStep x = 6 →
      errs * 100000 ≤ total →
      Does (.laneQualified x errs total) s fun d => d.laneState x = laReady ∧ d.laneStep x = 7)
  ∧ (∀ (s : State) (p : Nat) (k : Nat × Nat × Nat × Nat),
      majority ((s.dev.readyAtStep p 7).map fun x => peerKey (s.dev.lane x)) = some k →
      ∀ x ∈ s.dev.readyAtStep p 7, peerKey (s.dev.lane x) = k →
      k.2.1 = widthCode (s.dev.portWidth p) →
      Does (.laneIdentityCheck p) s fun d => (d.port p).peerDev = k.1 ∧ ∀ x ∈ s.dev.readyAtStep p 7, d.laneStep x = 8)
  ∧ (∀ (s : State) (p skew : Nat),
      s.dev.readyAtStep p 8 ≠ [] →
      skew ≤ 150 →
      Does (.laneAligned p skew) s fun d => ∀ x ∈ s.dev.readyAtStep p 8, d.laneStep x = 9)
  ∧ (∀ (s : State) (p : Nat),
      (s.dev.port p).up = false →
      s.dev.readyAtStep p 9 ≠ [] →
      (s.dev.readyAtStep p 9).length = (s.dev.portLanes p).length →
      Does (.portUp p) s fun d => (d.port p).up = true)
  ∧ (∀ (s : State) (p t : Nat),
      (s.dev.port p).up = false →
      s.dev.readyAtStep p 9 ≠ [] →
      (s.dev.port p).readyAt = some t →
      t + 5000000 ≤ s.dev.now →
      Does (.portUpTimer p) s fun d => (d.port p).up = true)
  ∧ (∀ (s : State) (x : Nat),
      s.dev.laneState x = laTraining →
      (s.dev.lane x).retryAt = none →
      0 < stepSpan (s.dev.laneStep x) →
      (s.dev.lane x).stepAt + 5 * stepSpan (s.dev.laneStep x) < s.dev.now →
      (s.dev.port (s.dev.lanePort x)).up = false →
      (s.dev.lane x).failed = false →
      (s.dev.lane x).tries < 2 →
      Does (.laneStepTimeout x) s fun d => (d.lane x).tries = (s.dev.lane x).tries + 1 ∧ (d.lane x).retryAt = some (s.dev.now + 10000000))
  ∧ (∀ (s : State) (x t : Nat),
      (s.dev.lane x).retryAt = some t →
      t ≤ s.dev.now →
      s.dev.pdOn (pdOe (x / 32)) = true →
      s.dev.on R.PWR_CLKSTAT_PHY_OK = true →
      s.dev.laneState x ≠ laRetrain →
      s.dev.bothLow (x / 32) = false →
      Does (.laneRetryTimer x) s fun d => d.laneState x = laTraining ∧ d.laneStep x = 1 ∧ (d.lane x).retryAt = none)

/-- Codewords, markers, gain changes and margin windows leave their counts; a superframe makes announced lanes ACTIVE; a lane that loses light, sync, ring lock or 16 codewords fails with its FAIL_CAUSE; standby lanes wake as R86 and R87 say; PORT_STATE commands a port. -/
def Obligations.LaneServiceEvents : Prop :=
  (∀ (s : State) (x errs blocks : Nat),
      s.dev.laneState x ≠ laOff →
      s.dev.laneState x ≠ laDark →
      (s.dev.lane x).gainNext = none →
      errs ≤ 15 →
      Does (.codewordReceived x errs blocks) s fun d => (d.lane x).csym = (s.dev.lane x).csym + errs)
  ∧ (∀ (s : State) (x : Nat),
      s.dev.laneState x = laActive →
      s.dev.lrd R.OE_LSTAT_IN_MASK x ≠ 0 →
      (s.dev.lane x).poison = 0 →
      Does (.blockReceived x 0xF0) s fun d => d.counters.get (counterId 0x02 x 1 3) 0 = (s.dev.counters.get (counterId 0x02 x 1 3) 0 + 1) % 2 ^ 64)
  ∧ (∀ (s : State) (x : Nat) (m : Marker),
      s.dev.laneState x ≠ laOff →
      s.dev.laneState x ≠ laDark →
      s.dev.laneState x ≠ laWaitLaser →
      m.crcOk = true →
      m.state ≤ 3 →
      Does (.markerWordReceived x m) s fun d => (d.lane x).mState = m.state ∧ (d.lane x).mDev = m.srcDev ∧ (d.lane x).badMarkers = 0 ∧
        (d.port (s.dev.lanePort x)).rxMask = m.activeNow)
  ∧ (∀ (s : State) (p : Nat),
      s.dev.formed p = true →
      (s.dev.port p).up = true →
      ∀ x ∈ s.dev.portLanes p, s.dev.laneState x = laReady ∧ bitOf (s.dev.port p).nextMask (s.dev.lanePos x) = true ∧
        (s.dev.lane x).stbyNext = false ∧ (s.dev.lane x).darkNext = false ∧ (s.dev.lane x).peerStbyNext = false →
      Does (.superframeBoundary p) s fun d => ∀ x ∈ s.dev.portLanes p, d.laneState x = laActive)
  ∧ (∀ (s : State) (x g : Nat),
      s.dev.inService x = true →
      g ≤ 3 →
      g ≠ s.dev.lrd R.OE_LSTAT_GAIN x →
      Does (.gainRangeChange x g) s fun d => (d.lane x).gainRun = (s.dev.lane x).gainRun + 1 ∧
        (15 ≤ (s.dev.lane x).gainRun → (d.lane x).gainNext = some g))
  ∧ (∀ (s : State) (x : Nat),
      (s.dev.lane x).csym ≤ s.dev.rd R.OE_MONCFG_RETRAIN_CSYM (x / 32) →
      Does (.marginMonitorWindow x) s fun d => d.lrd R.OE_LMARG_CSYM x = min (s.dev.lane x).csym 0xFFFF ∧ (d.lane x).csym = 0 ∧ (d.lane x).overs = 0 ∧
        d.lrd R.OE_LSTAT_LAST_LOW x = 0)
  ∧ (∀ (s : State) (x : Nat),
      s.dev.laneState x = laRetrain →
      ((s.dev.portLanes (s.dev.lanePort x)).find? fun y => (s.dev.lane y).wantRetrain) = none →
      Does (.laneRetrainComplete x true) s fun d => d.laneState x = laReady ∧ d.laneStep x = 8 ∧ (d.lane x).retrainFails = 0)
  ∧ (∀ (s : State) (x : Nat),
      (s.dev.lane x).peerDarkNext = false →
      (s.dev.lane x).peerStbyNext = false →
      s.dev.inService x = true →
      (s.dev.port (s.dev.lanePort x)).up = false →
      Does (.laneLossOfLight x) s fun d => d.laneState x = laFailed ∧ d.lrd R.OE_LSTAT_FAIL_CAUSE x = 1 ∧ (d.lane x).retryAt = some (s.dev.now + 10000000))
  ∧ (∀ (s : State) (x : Nat),
      s.dev.inService x = true →
      3 ≤ (s.dev.lane x).badFrames →
      (s.dev.port (s.dev.lanePort x)).up = false →
      Does (.laneFrameSyncLoss x) s fun d => d.laneState x = laFailed ∧ d.lrd R.OE_LSTAT_FAIL_CAUSE x = 2 ∧ (d.lane x).retryAt = some (s.dev.now + 10000000))
  ∧ (∀ (s : State) (x : Nat),
      s.dev.inService x = true →
      16 ≤ ((s.dev.lane x).uncTimes.filter fun t => decide (s.dev.now < t + 100000)).length →
      (s.dev.port (s.dev.lanePort x)).up = false →
      Does (.laneUncorrectableBurst x) s fun d => d.laneState x = laFailed ∧ d.lrd R.OE_LSTAT_FAIL_CAUSE x = 3 ∧ (d.lane x).retryAt = some (s.dev.now + 10000000))
  ∧ (∀ (s : State) (x : Nat),
      s.dev.inService x = true →
      (s.dev.port (s.dev.lanePort x)).up = false →
      Does (.ringLockLost x) s fun d => d.laneState x = laFailed ∧ d.lrd R.OE_LSTAT_FAIL_CAUSE x = 4 ∧ (d.lane x).retryAt = some (s.dev.now + 10000000))
  ∧ (∀ (s : State) (x : Nat),
      s.dev.laneState x = laStandby →
      Does (.lightInStandby x) s fun d => d.lrd R.OE_LSTAT_WAKE_SEEN x = 1)
  ∧ (∀ (s : State) (x t : Nat),
      (s.dev.lane x).wakeAt = some t →
      t + 1000000 ≤ s.dev.now →
      s.dev.laneState x = laStandby →
      s.dev.bothLow (x / 32) = false →
      Does (.wakeTimeout x) s fun d => d.laneState x = laTraining ∧ d.laneStep x = 1 ∧ (d.lane x).wakeAt = none)
  ∧ (∀ (s : State) (aseq : Nat) (j : JEntry),
      Begun s.dev aseq 0x0202 j →
      s.dev.formed (bits (j.w 4) 8 0) = true →
      s.dev.pdOn (pdOe (bits (j.w 4) 8 0 / 16)) = true →
      bits (j.w 4) 10 9 = 0 →
      Does (.portState aseq) s fun d => Answered d j St.ok ∧ (d.port (bits (j.w 4) 8 0)).cmdState = 0)

/-- A good DATA flit in order advances ESEQ and its packet waits for its arrival, at once or when its batch verifies; a failed flit leaves a NAK for ESEQ; a reserved kind is flagged; an LCF releases what it acknowledges; a NEG flit in NEGOTIATE with a common version leads to CONFIRM. -/
def Obligations.LinkReceiveEvents : Prop :=
  (∀ (s : State) (p : Nat) (f : DataFlit) (k : Packet),
      (s.dev.link p).enc = false →
      s.dev.linkState p = lsUp →
      f.crV = false →
      serialDiff (s.dev.seqMod p) f.seq (s.dev.link p).eseq = 0 →
      0 < s.dev.rd R.LNK_PEER_MAX_OUT p →
      s.dev.overrun p f.vc = false →
      framingBad (s.dev.link p) f = false →
      f.pkt = some k →
      Does (.dataFlitReceived p f) s fun d => (d.link p).eseq = ((s.dev.link p).eseq + 1) % s.dev.seqMod p ∧ d.net.arrivals.getLast?.map Arrival.pkt = some k)
  ∧ (∀ (s : State) (p : Nat),
      s.dev.linkState p = lsUp →
      (s.dev.link p).nakPending = false →
      Does (.failedFlit p) s fun d => d.rd R.LNK_ERR_FAILED_FLIT p = 1 ∧ (d.link p).nakPending = true ∧ (d.link p).lcfNak = some (s.dev.link p).eseq ∧
        (d.link p).lcfDue = true)
  ∧ (∀ (s : State) (p byte0 : Nat),
      s.dev.linkState p ≠ lsDown →
      5 ≤ byte0 / 16 →
      byte0 / 16 < 15 →
      Does (.reservedFlitKind p byte0) s fun d => d.rd R.LNK_ERR_RSVD_FKIND p = 1)
  ∧ (∀ (s : State) (p : Nat) (f : Lcf),
      s.dev.linkState p = lsUp →
      f.nak = false →
      0 < serialDiff (s.dev.seqMod p) (f.ack % s.dev.seqMod p) (s.dev.link p).lastAck →
      Does (.lcfReceived p f) s fun d => (d.link p).lastAck = f.ack % s.dev.seqMod p ∧ (d.link p).timeouts = 0)
  ∧ (∀ (s : State) (p v : Nat) (f : NegFlit),
      s.dev.linkState p = lsNegotiate →
      f.nstep ≤ 1 →
      chooseVersion f.maxv f.minv = some v →
      Does (.negFlitReceived p f) s fun d => d.linkState p = lsConfirm)
  ∧ (∀ (s : State) (p firstSeq : Nat) (f : DataFlit) (k : Packet),
      (s.dev.link p).enc = true →
      (s.dev.link p).rxHeld = [f] →
      (s.dev.link p).rxBad = false →
      f.seq = firstSeq →
      s.dev.linkState p = lsUp →
      f.crV = false →
      serialDiff (s.dev.seqMod p) f.seq (s.dev.link p).eseq = 0 →
      0 < s.dev.rd R.LNK_PEER_MAX_OUT p →
      s.dev.overrun p f.vc = false →
      framingBad (s.dev.link p) f = false →
      f.pkt = some k →
      Does (.linkAuthReceived p firstSeq 1 true) s fun d => (d.link p).rxHeld = [] ∧
        (d.link p).eseq = ((s.dev.link p).eseq + 1) % s.dev.seqMod p ∧ d.net.arrivals.getLast?.map Arrival.pkt = some k)

/-- Each timer of R107 to R130 leaves the flag, time or state it stands for, and a block slot with a pennant waiting sends it and keeps it for replay. -/
def Obligations.LinkTimersAndTransmitter : Prop :=
  (∀ (s : State) (p t : Nat),
      s.dev.linkState p = lsUp →
      (s.dev.link p).ackDue = some t →
      t ≤ s.dev.now →
      Does (.ackHoldExpiry p) s fun d => (d.link p).ackDue = none ∧ (d.link p).lcfDue = true)
  ∧ (∀ (s : State) (p : Nat),
      s.dev.linkState p = lsUp →
      (s.dev.link p).lastLcf + 1000 ≤ s.dev.now →
      Does (.lcfPeriodic p) s fun d => (d.link p).lcfDue = true ∧ (d.link p).lastLcf = s.dev.now)
  ∧ (∀ (s : State) (p v t : Nat),
      s.dev.linkState p = lsUp →
      (s.dev.link p).unrepAt.getD v none = some t →
      t + 64 ≤ s.dev.now →
      Does (.creditReportDue p v) s fun d => (d.link p).lcfDue = true)
  ∧ (∀ (s : State) (p : Nat),
      (s.dev.link p).nakPending = true →
      (s.dev.link p).nakAt ≤ s.dev.now →
      Does (.nakHoldoffExpiry p) s fun d => (d.link p).nakPending = false)
  ∧ (∀ (s : State) (p : Nat) (f : TxFlit) (rest : List TxFlit),
      s.dev.linkState p = lsUp →
      (s.dev.link p).replay = f :: rest →
      (s.dev.link p).replayFrom = none →
      f.sentAt + 16 * s.dev.rd R.LNK_CFG_REPLAY_TO p ≤ s.dev.now →
      (s.dev.link p).timeouts + 1 < s.dev.rd R.LNK_CFG_MAX_TMO p →
      Does (.replayTimeout p) s fun d => (d.link p).replayFrom = some f.seq ∧ (d.link p).timeouts = (s.dev.link p).timeouts + 1)
  ∧ (∀ (s : State) (p : Nat),
      s.dev.negotiating p = true →
      (s.dev.link p).negNext + 1000 ≤ s.dev.now →
      Does (.negFlitTimer p) s fun d => (d.link p).negNext = s.dev.now)
  ∧ (∀ (s : State) (p : Nat),
      s.dev.linkState p = lsConfirm →
      (s.dev.link p).enteredAt + 100000 ≤ s.dev.now →
      Does (.confirmTimeout p) s fun d => d.linkState p = lsNegotiate ∧ d.rd R.LNK_PEER_AGREED p = 0)
  ∧ (∀ (s : State) (p : Nat),
      s.dev.linkState p = lsResync →
      (s.dev.link p).enteredAt + 100000 ≤ s.dev.now →
      Does (.resyncTimeout p) s fun d => d.linkState p = lsNegotiate ∧ d.rd R.LNK_STAT_VER p = 0 ∧ (d.link p).enteredAt = d.now)
  ∧ (∀ (s : State) (p : Nat),
      s.dev.linkState p ≠ lsDown →
      (s.dev.link p).timeNext ≤ s.dev.now →
      Does (.timeWordTimer p) s fun d => (d.link p).timeNext = s.dev.now + 10000 ∧ (d.link p).halyOut.length = (s.dev.link p).halyOut.length + 1)
  ∧ (∀ (s : State) (p v t : Nat),
      v < 8 →
      (s.dev.link p).pauseUntil.getD v none = some t →
      t ≤ s.dev.now →
      Does (.pauseExpiry p) s fun d => (d.link p).pauseUntil.getD v none = none ∧ d.rdBit R.LNK_HSTAT_PAUSED_BY_PEER v p = false)
  ∧ (∀ (s : State) (p : Nat) (t : TxPen) (rest : List TxPen),
      s.dev.linkState p = lsUp →
      (s.dev.link p).halyOut = [] →
      (s.dev.link p).enc = false →
      (s.dev.link p).lcfDue = false →
      (s.dev.link p).replayFrom = none →
      (s.dev.link p).replay.length < s.dev.maxOutForce p →
      (s.dev.link p).txReady = t :: rest →
      Does (.transmitBlockSlot p) s fun d => (d.link p).txReady = rest ∧ (d.link p).replay.length = (s.dev.link p).replay.length + 1 ∧
        (d.link p).txSeq = ((s.dev.link p).txSeq + 1) % s.dev.seqMod p)

/-- A descriptor that crosses is appended to its queue; the scheduler takes the head of the queue it chooses; a shaper that refills wakes its queue; the last release ends a packet; errors, ageing ticks, flushes, records and mesh failures leave what R140 to R165 say. -/
def Obligations.SwitchCoreEvents : Prop :=
  (∀ (s : State) (pid : Nat) (h : Holder) (st : Stored),
      s.dev.pkt? pid = some st →
      s.dev.net.crossing.contains (pid, h) = true →
      s.dev.meshPath st.home (quadOf h.eg) = true →
      st.holders.contains h = true →
      isPort h.eg = false →
      Does (.descriptorEntry pid h) s fun d => (d.queue h.eg h.vc).descs.map Desc.pid = (s.dev.queue h.eg h.vc).descs.map Desc.pid ++ [pid])
  ∧ (∀ (s : State) (e v : Nat) (c : Desc) (rest : List Desc) (st : Stored),
      isPort e = false ∨ (s.dev.link e).txOpen = none →
      s.dev.choose e (List.range 8) = some v →
      (s.dev.queue e v).descs = c :: rest →
      s.dev.pkt? c.pid = some st →
      Does (.schedulerPacketStart e) s fun d => (d.queue e v).descs = rest ∧
        (isPort e = false → d.net.attachIn.get e [] = s.dev.net.attachIn.get e [] ++ [(c.pid, c.hold)]))
  ∧ (∀ (s : State) (p v : Nat) (o : TxOpen) (c : Desc) (rest : List Desc) (st : Stored),
      isPort p = true →
      (s.dev.link p).txOpen = some o →
      o.allow ≠ 0 →
      s.dev.rd R.LNK_CFG_ILV_RATIO p ≠ 0 →
      s.dev.choose p ([0, 1, 7].filter (s.dev.headPennant p)) = some v →
      (s.dev.queue p v).descs = c :: rest →
      s.dev.pkt? c.pid = some st →
      Does (.pennantSlot p) s fun d => (d.queue p v).descs = rest ∧ (d.link p).txOpen.map TxOpen.allow = some (o.allow - 1))
  ∧ (∀ (s : State) (p v : Nat),
      isPort p = true →
      v < 7 →
      (s.dev.queue p v).tokens < 0 →
      0 ≤ s.dev.shaperTokens p v →
      s.dev.rd R.SCH_QSHAPE_RATE p v ≠ 0xFFFF →
      Does (.shaperRefill p v) s fun d => (d.queue p v).tokens = s.dev.shaperTokens p v ∧ (d.queue p v).tokAt = s.dev.now)
  ∧ (∀ (s : State) (pid : Nat) (h : Holder) (loc : Storage) (st : Stored),
      s.dev.pkt? pid = some st →
      st.ctx = none →
      st.done.contains h = true →
      st.holders = [h] →
      st.count = 1 →
      s.dev.mgmt.outWait = [] →
      s.dev.models = [] →
      s.dev.red.running = [] →
      (s.dev.net.pkts.map Prod.fst).Nodup →
      Does (.holderRelease pid h loc) s fun d => d.pkt? pid = none)
  ∧ (∀ (s : State) (pid flit : Nat) (bad : Bool) (st : Stored),
      s.dev.pkt? pid = some st →
      st.stomped = false →
      flit < st.flits →
      Does (.bufferEccUncorrectable pid flit bad) s fun d => d.rd R.BPM_PSTAT_ECC_UNC_SEEN st.home = 1)
  ∧ (∀ (s : State) (e v : Nat),
      s.dev.now % 100000 = 0 →
      (s.dev.queue e v).tickAt ≠ some s.dev.now →
      s.dev.ageRuns e v = true →
      (s.dev.queue e v).age + 1 < s.dev.ageLimit e v →
      isPort e = true →
      Does (.ageingTick e v) s fun d => (d.queue e v).age = (s.dev.queue e v).age + 1 ∧ (d.queue e v).descs = (s.dev.queue e v).descs)
  ∧ (∀ (s : State) (e v r : Nat) (c : Desc) (st : Stored),
      (s.dev.queue e v).descs = [c] →
      c.mark = some r →
      s.dev.pkt? c.pid = some st →
      s.dev.recRoom st.home = true →
      Does (.flushRecordRoom e v) s fun d => (d.queue e v).descs = [])
  ∧ (∀ (s : State) (q : Nat) (r : FailRec) (rest : List FailRec),
      s.dev.net.recq.get q [] = r :: rest →
      r.toBlock.isSome = true ∨ r.histOnly = true →
      Does (.failureRecordIssue q) s fun d => d.net.recq.get q [] = rest ∧ d.mgmt.hist.getLast?.map HEntry.code = some r.reason)
  ∧ (∀ (s : State) (pair sub : Nat),
      s.dev.subUp pair sub = true →
      sub < 16 →
      pair < 6 →
      Does (.meshSublinkFail pair sub) s fun d => d.subUp pair sub = false)
  ∧ (∀ (s : State) (pair : Nat),
      s.dev.meshLinkUp (pairQuads pair).1 (pairQuads pair).2 = true →
      pair < 6 →
      Does (.meshLinkFail pair) s fun d => d.meshLinkUp (pairQuads pair).1 (pairQuads pair).2 = false)
  ∧ (∀ (s : State) (p : Nat) (a : Arrival),
      (s.dev.net.arrivals.find? fun a => a.port = p) = some a →
      a.vc = 7 →
      s.dev.ingressTest p 7 a.pkt = (0, 0) →
      a.pkt.dst = 0xFFFFE →
      hubTakes a.pkt = true →
      s.dev.pdOn pdHub = true →
      s.dev.fenced 0x1FF a.pkt = false →
      Does (.packetArrival p) s fun d => (d.pkt? s.dev.net.nextPid).map Stored.pkt = some a.pkt ∧ d.net.nextPid = s.dev.net.nextPid + 1)

/-- A port's notice is repeated every 100 ms while it stays excluded; RESTORE_HOLD's end and its repeats count; a notice of the epoch in force sets or clears the port's mask bit; a held notice whose 1 ms has passed is discarded; quenches run out; a queue's sample is taken each period. -/
def Obligations.RouteNoticeAndQuenchEvents : Prop :=
  (∀ (s : State) (p t : Nat),
      (s.dev.portRoute p).noticeAt = some t →
      t ≤ s.dev.now →
      s.dev.localExcl p = true →
      Does (.routeNoticeRepeat p) s fun d => (d.portRoute p).noticeAt = some (s.dev.now + 100000000))
  ∧ (∀ (s : State) (p t : Nat),
      (s.dev.portRoute p).goodSince = some t →
      t + s.dev.restoreHold p ≤ s.dev.now →
      s.dev.upAdm p = true →
      (s.dev.portRoute p).mismatch = false →
      Does (.restoreHoldExpiry p) s fun d => (d.portRoute p).goodSince = none ∧ (d.portRoute p).restoresLeft = if (s.dev.attr (p / 128) p).noticeV then 2 else 0)
  ∧ (∀ (s : State) (p t : Nat),
      (s.dev.portRoute p).restoreAt = some t →
      t ≤ s.dev.now →
      0 < (s.dev.portRoute p).restoresLeft →
      Does (.routeRestoreRepeat p) s fun d => (d.portRoute p).restoresLeft = (s.dev.portRoute p).restoresLeft - 1 ∧
        (d.portRoute p).restoreAt = if (s.dev.portRoute p).restoresLeft = 1 then none else some (s.dev.now + 100000000))
  ∧ (∀ (s : State) (pid : Nat) (st : Stored) (d1 : Dev),
      s.dev.takeHub pid isNotice = some (st, d1) →
      (st.pkt.arg6 % 256) = (d1.bank (st.ing / 128)).epoch →
      Does (.routeNoticeReceived pid) s fun d => ((List.range 4).all fun q => (wordsBE st.pkt.payload (min 8 (st.pkt.arg6 / 256 % 256))).all fun w =>
        !((d1.bank (st.ing / 128)).notices.get (w / 2 ^ 18) {}).v ||
          ((d.net.masks.get (q, ((d1.bank (st.ing / 128)).notices.get (w / 2 ^ 18) {}).rgrp) []).contains st.ing ==
            decide (st.pkt.opcode ≠ 0x41))) = true)
  ∧ (∀ (s : State) (n : HeldNotice),
      s.dev.net.heldNotices = [n] →
      n.until_ ≤ s.dev.now →
      0 < serialDiff 256 n.epoch (s.dev.bank (n.port / 128)).epoch →
      Does (.noticeHoldExpiry) s fun d => d.net.heldNotices = [] ∧ d.rd R.RTE_ERR_NOTICE_EPOCH (n.port / 128) = 1)
  ∧ (∀ (s : State),
      Does (.quenchExpiry) s fun d => d.net.quenches = s.dev.net.quenches.filter fun z => decide (s.dev.now < z.until_))
  ∧ (∀ (s : State) (q : Nat),
      q < 4 →
      s.dev.tel.sampleAt.get q 0 ≤ s.dev.now →
      Does (.queueSampleTimer q) s fun d => d.tel.sampleAt.get q 0 = s.dev.now + s.dev.samplePeriod q ∧ ∀ ev ∈ quadQueues q, (d.queue ev.1 ev.2).maxDelay = 0)

/-- CTX_OPEN that no check refuses sets the context OPEN with its descriptor words and units; a DONE or ABORTED context closes to FREE; an OPEN one is aborted, becomes a stub, or takes new migration fields; CTX_BIND writes the result binding; CTX_STAT answers the words of the context's table entry. -/
def Obligations.ContextCommands : Prop :=
  (∀ (s : State) (aseq : Nat) (j : JEntry) (w : List Nat),
      Begun s.dev aseq 0x0301 j →
      s.dev.classed (((j.pkt.words ++ List.replicate 32 0).drop 5).take 9) (bitOf (j.w 14) 0) = w →
      s.dev.openStatus (bits (j.w 4) 15 0) { w := w } (if s.dev.chRole j.chan = 0 then some j.burgee else none) = St.ok →
      s.dev.mayLaunch (Ctx.burgee { w := w }) = true →
      Does (.ctxOpen aseq) s fun d => Answered d j St.ok ∧ (d.ctx (bits (j.w 4) 15 0)).state = csOpen ∧ (d.ctx (bits (j.w 4) 15 0)).w = w ∧ (d.ctx (bits (j.w 4) 15 0)).units = Ctx.need { w := w })
  ∧ (∀ (s : State) (aseq : Nat) (j : JEntry),
      Begun s.dev aseq 0x0302 j →
      s.dev.chRole j.chan ≠ 0 ∨ s.dev.ctxReach (bits (j.w 4) 15 0) j.burgee = true →
      (s.dev.ctx (bits (j.w 4) 15 0)).state = csDone ∨ (s.dev.ctx (bits (j.w 4) 15 0)).state = csAborted →
      Does (.ctxClose aseq) s fun d => Answered d j St.ok ∧ (d.ctx (bits (j.w 4) 15 0)).state = csFree)
  ∧ (∀ (s : State) (aseq : Nat) (j : JEntry),
      Begun s.dev aseq 0x0303 j →
      s.dev.chRole j.chan ≠ 0 ∨ s.dev.ctxReach (bits (j.w 4) 15 0) j.burgee = true →
      (s.dev.ctx (bits (j.w 4) 15 0)).state = csOpen →
      (s.dev.ctx (bits (j.w 4) 15 0)).slots = [] →
      (s.dev.ctx (bits (j.w 4) 15 0)).deferred = [] →
      (s.dev.ctx (bits (j.w 4) 15 0)).scope = false →
      (s.dev.ctx (bits (j.w 4) 15 0)).token = none →
      Does (.ctxAbort aseq) s fun d => Answered d j St.ok ∧ (d.ctx (bits (j.w 4) 15 0)).state = csAborted ∧ (d.ctx (bits (j.w 4) 15 0)).cause = acCommand)
  ∧ (∀ (s : State) (aseq : Nat) (j : JEntry),
      Begun s.dev aseq 0x0304 j →
      s.dev.chRole j.chan ≠ 0 ∨ s.dev.ctxReach (bits (j.w 4) 15 0) j.burgee = true →
      (s.dev.ctx (bits (j.w 4) 15 0)).state = csOpen →
      (s.dev.ctx (bits (j.w 4) 15 0)).root = true →
      bits (j.w 6) 7 0 = ((s.dev.ctx (bits (j.w 4) 15 0)).epoch + 1) % 256 →
      ((s.dev.ctx (bits (j.w 4) 15 0)).slots.any fun x => decide (j.w 5 ≤ x.n) && x.ins != []) = false →
      (s.dev.ctx (bits (j.w 4) 15 0)).deferred = [] →
      Does (.ctxMigrate aseq) s fun d => Answered d j St.ok ∧ (d.ctx (bits (j.w 4) 15 0)).state = csStub ∧ (d.ctx (bits (j.w 4) 15 0)).stubAt = s.dev.now ∧
        (d.ctx (bits (j.w 4) 15 0)).w = migWords (s.dev.ctx (bits (j.w 4) 15 0)).w (j.w 5) (bits (j.w 6) 7 0) (bits (j.w 6) 16 8) true (s.dev.ctx (bits (j.w 4) 15 0)).oldOk)
  ∧ (∀ (s : State) (aseq : Nat) (j : JEntry),
      Begun s.dev aseq 0x0305 j →
      s.dev.chRole j.chan ≠ 0 ∨ s.dev.ctxReach (bits (j.w 4) 15 0) j.burgee = true →
      (s.dev.ctx (bits (j.w 4) 15 0)).state = csOpen →
      Does (.ctxReparent aseq) s fun d => Answered d j St.ok ∧ (d.ctx (bits (j.w 4) 15 0)).w = migWords (s.dev.ctx (bits (j.w 4) 15 0)).w (j.w 5) (bits (j.w 6) 7 0) (bits (j.w 6) 16 8)
          (bitOf (j.w 6) 17) (bitOf (j.w 6) 18))
  ∧ (∀ (s : State) (aseq : Nat) (j : JEntry),
      Begun s.dev aseq 0x0306 j →
      s.dev.chRole j.chan ≠ 0 ∨ s.dev.ctxReach (bits (j.w 4) 15 0) j.burgee = true →
      s.dev.bindReach j = true →
      Does (.ctxBind aseq) s fun d => Answered d j St.ok ∧ d.red.bindings.get (bits (j.w 4) 15 0) {} =
          { v := true, region := j.w 5, base := j.w 6 * 2 ^ 32 + j.w 7, trig := bits (j.w 8) 31 15, trigV := bitOf (j.w 8) 14 })
  ∧ (∀ (s : State) (aseq : Nat) (j : JEntry),
      Begun s.dev aseq 0x0307 j →
      s.dev.chRole j.chan ≠ 0 ∨ s.dev.ctxReach (bits (j.w 4) 15 0) j.burgee = true →
      Does (.ctxStat aseq) s fun d => Answered d j St.ok ([nth (s.dev.ctx (bits (j.w 4) 15 0)).w 0, nth (s.dev.ctx (bits (j.w 4) 15 0)).w 1] ++ s.dev.ctxStatus (bits (j.w 4) 15 0)))

/-- An EXACT context holds an input of the window whose rank is not the next; a complete chunk's partial goes up and LOW moves past it; a root's chunk is counted as a result; a result stored whole is counted as passed down; an arrival timeout or an ECC error aborts; a drained stub retires after STUB_MIN. -/
def Obligations.ReductionEvents : Prop :=
  (∀ (s : State) (pid q r n : Nat) (st : Stored) (h : Holder) (d1 : Dev),
      s.dev.clusterOf pid = some q →
      s.dev.pkt? pid = some st →
      (s.dev.engineQueue q (st.pkt.collId / 1024 % 16)).head? = some pid →
      s.dev.takeWhole (rcAttach q) pid (rcTgt q) = some (st, h, d1) →
      d1.parking = false →
      (match d1.inputTest q (st.pkt.collId % 65536) st.pkt with
        | .ok x => some x
        | .error _ => none) = some (r, n) →
      (d1.ctx (st.pkt.collId % 65536)).state = csOpen →
      (d1.ctx (st.pkt.collId % 65536)).low ≤ n →
      n < (d1.ctx (st.pkt.collId % 65536)).low + (d1.ctx (st.pkt.collId % 65536)).window →
      (d1.ctx (st.pkt.collId % 65536)).exact = true →
      ((d1.ctx (st.pkt.collId % 65536)).slot n).held = [] →
      ((d1.ctx (st.pkt.collId % 65536)).slot n).done ≠ r →
      (((d1.ctx (st.pkt.collId % 65536)).slot n).ins.any fun a => a.rank = r) = false →
      Does (.contributionTaken pid) s fun d => ((d.ctx (st.pkt.collId % 65536)).slot n).ins.map Arr.rank = ((d1.ctx (st.pkt.collId % 65536)).slot n).ins.map Arr.rank ++ [r] ∧
        ((d.ctx (st.pkt.collId % 65536)).slot n).held = [(r, pid)])
  ∧ (∀ (s : State) (i n : Nat) (acc : List Nat),
      (s.dev.ctx i).state = csOpen →
      (s.dev.ctx i).root = false →
      (s.dev.ctx i).ready n = true →
      n = (s.dev.ctx i).low →
      s.dev.slotted (s.dev.ctx i).burgee = false →
      ((s.dev.ctx i).slot n).acc = some acc →
      s.dev.localExcl ((s.dev.ctx i).upPort n) = false →
      (match s.dev.trySend (s.dev.ctxPkt i (s.dev.ctx i) n 1 (s.dev.ctx i).partFmt (s.dev.ownKey i (s.dev.ctx i))
            (encodeVals (s.dev.ctx i).partFmt ((s.dev.ctx i).accVals acc) (s.dev.ctx i).ovf).1) (rcAttach (ctxQuad i)) 4
            (some [⟨(s.dev.ctx i).upPort n, 4, 0x1000, false⟩]) with
        | (_, .ok (some _)) => true
        | _ => false) = true →
      (s.dev.ctx i).slots.length = 1 →
      (s.dev.ctx i).deferred = [] →
      (s.dev.ctx i).trigV = false →
      n + 1 ≠ (s.dev.ctx i).nchunk →
      Does (.chunkComplete i n) s fun d => (d.ctx i).low = n + 1 ∧ (d.ctx i).slots = [])
  ∧ (∀ (s : State) (i n : Nat) (acc : List Nat) (k : Packet),
      (s.dev.ctx i).state = csOpen →
      (s.dev.ctx i).root = true →
      (s.dev.ctx i).ready n = true →
      s.dev.slotted (s.dev.ctx i).burgee = false →
      ((s.dev.ctx i).slot n).acc = some acc →
      (s.dev.ctx i).token = none →
      k = s.dev.ctxPkt i (s.dev.ctx i) n 2 (s.dev.ctx i).rfmt 0 (encodeVals (s.dev.ctx i).rfmt ((s.dev.ctx i).accVals acc) (s.dev.ctx i).ovf).1 →
      s.dev.resultHolders i (s.dev.ctx i) ≠ [] →
      (s.dev.storePkt k (rcAttach (ctxQuad i)) 5 (flitsOf k) (s.dev.resultHolders i (s.dev.ctx i)) none (some i)).2.isSome = true →
      (s.dev.ctx i).deferred = [] →
      (s.dev.ctx i).trigV = false →
      (s.dev.ctx i).autoclose = false →
      Does (.rootChunkComplete i n) s fun d => (d.ctx i).resCount = (s.dev.ctx i).resCount + 1)
  ∧ (∀ (s : State) (p pid : Nat) (st : Stored),
      (s.dev.net.arrivals.find? fun a => a.port = p) = none →
      (s.dev.net.pkts.filter fun x => x.2.ing = p && x.2.ctx.isSome).map Prod.fst = [pid] →
      s.dev.pkt? pid = some st →
      st.pkt.pclass = 2 ∧ st.pkt.typ = 2 ∧ isPort st.ing = true ∧ st.have_ = st.flits ∧ st.stomped = false ∧ st.ctx.isSome = true →
      (s.dev.ctx (st.pkt.collId % 65536)).low ≠ (s.dev.ctx (st.pkt.collId % 65536)).nchunk →
      Does (.resultArrival p) s fun d => (d.ctx (st.pkt.collId % 65536)).resCount = (s.dev.ctx (st.pkt.collId % 65536)).resCount + 1 ∧
        (d.ctx (st.pkt.collId % 65536)).down = (s.dev.ctx (st.pkt.collId % 65536)).down ++ [st.pkt.offset / (s.dev.ctx (st.pkt.collId % 65536)).chunkBytes (s.dev.ctx (st.pkt.collId % 65536)).rfmt])
  ∧ (∀ (s : State) (i : Nat),
      (s.dev.ctx i).state = csOpen →
      (s.dev.ctx i).timer + s.dev.arriveNs i (s.dev.ctx i) ≤ s.dev.now →
      (s.dev.ctx i).slots = [] →
      (s.dev.ctx i).deferred = [] →
      (s.dev.ctx i).scope = false →
      (s.dev.ctx i).token = none →
      Does (.arrivalTimeout i) s fun d => (d.ctx i).state = csAborted ∧ (d.ctx i).cause = acArriveTimeout ∧ d.rd R.RED_ERR_ABORT_SEEN (ctxQuad i) = 1)
  ∧ (∀ (s : State) (i : Nat),
      (s.dev.ctx i).state = csOpen →
      (s.dev.ctx i).slots = [] →
      (s.dev.ctx i).deferred = [] →
      (s.dev.ctx i).scope = false →
      (s.dev.ctx i).token = none →
      Does (.accEcc i) s fun d => (d.ctx i).state = csAborted ∧ (d.ctx i).cause = acAccEcc ∧ d.rd R.RED_ERR_ACC_ECC_SEEN (ctxQuad i) = 1)
  ∧ (∀ (s : State) (i : Nat),
      (s.dev.ctx i).state = csStub →
      s.dev.drain (s.dev.ctx i) = 0 →
      (s.dev.ctx i).stubAt + s.dev.stubMinNs i ≤ s.dev.now →
      Does (.stubRetire i) s fun d => (d.ctx i).state = csRetired ∧ (d.ctx i).units = 0)

/-- An operation that ended well leaves its entry DONE; the RSP of a REMOTE action gives its outcome, and after 10 ms a free value does; TRIG_ARM arms with its words, TRIG_DISARM clears, TRIG_ADVANCE counts up, OP_WRITE writes an operation entry, and a COLL_LAUNCH writes its schedule and advances its first entry. -/
def Obligations.TriggerAndOperationEvents : Prop :=
  (∀ (s : State) (t : Nat) (o : RunOp),
      (s.dev.red.running.find? fun o => o.trig = t) = some o →
      o.outcome = some 0 →
      (s.dev.trig t).disarm = false →
      (s.dev.trig t).rep = false →
      (s.dev.trig t).jobs = [] →
      bitOf (o.w 0) 10 = false →
      Does (.operationEnd t) s fun d => (d.trig t).state = tgDone ∧ d.red.running = s.dev.red.running.filter fun x => x.trig ≠ t)
  ∧ (∀ (s : State) (pid : Nat) (st : Stored) (d1 : Dev) (o : RunOp),
      s.dev.takeHub pid (fun k => k.pclass = 1 && k.typ = 1 && k.opcode = 1) = some (st, d1) →
      (d1.red.running.find? fun o => o.action = 4 && o.tag = st.pkt.tag && o.outcome.isNone) = some o →
      Does (.remoteRspReceived pid) s fun d => d.red.running = d1.red.running.map fun x =>
          if x.trig = o.trig && x.outcome.isNone then { x with outcome := some (st.pkt.arg5 % 65536) } else x)
  ∧ (∀ (s : State) (t : Nat) (o : RunOp),
      (s.dev.red.running.find? fun o => o.trig = t && o.action = 4 && o.outcome.isNone) = some o →
      o.deadline ≤ s.dev.now →
      Does (.remoteRspTimeout t) s fun d => (d.red.running.all fun x => x.trig != t || x.outcome.isSome) = true ∧ d.freeCtr = s.dev.freeCtr + 1)
  ∧ (∀ (s : State) (aseq : Nat) (j : JEntry) (n : Trig),
      Begun s.dev aseq 0x0308 j →
      trigOf ((j.pkt.words ++ List.replicate 32 0).drop 5) = n →
      s.dev.cmdReach j n.burgee = true →
      (s.dev.trig (j.w 4 % 2 ^ 17)).state = tgFree →
      n.thresh ≠ 0 →
      Does (.trigArm aseq) s fun d => Answered d j St.ok ∧ d.trig (j.w 4 % 2 ^ 17) = { n with state := tgArmed, count := 0 })
  ∧ (∀ (s : State) (aseq : Nat) (j : JEntry),
      Begun s.dev aseq 0x0309 j →
      (s.dev.trig (j.w 4 % 2 ^ 17)).state ≠ tgFiring →
      (s.dev.trig (j.w 4 % 2 ^ 17)).state = tgFree ∨ s.dev.cmdReach j (s.dev.trig (j.w 4 % 2 ^ 17)).burgee = true →
      Does (.trigDisarm aseq) s fun d => Answered d j St.ok ∧ d.trig (j.w 4 % 2 ^ 17) = {})
  ∧ (∀ (s : State) (aseq : Nat) (j : JEntry),
      Begun s.dev aseq 0x030A j →
      bits (j.w 4) 14 7 ≠ 0 →
      (s.dev.trig (bits (j.w 4) 31 15)).state = tgArmed →
      j.burgee = 0 ∨ j.burgee = (s.dev.trig (bits (j.w 4) 31 15)).burgee →
      s.dev.cmdReach j (s.dev.trig (bits (j.w 4) 31 15)).burgee = true →
      (s.dev.trig (bits (j.w 4) 31 15)).count + bits (j.w 4) 14 7 < (s.dev.trig (bits (j.w 4) 31 15)).thresh →
      (s.dev.trig (bits (j.w 4) 31 15)).count + bits (j.w 4) 14 7 < 2 ^ 32 →
      Does (.trigAdvance aseq) s fun d => Answered d j St.ok ∧ (d.trig (bits (j.w 4) 31 15)).count = (s.dev.trig (bits (j.w 4) 31 15)).count + bits (j.w 4) 14 7 ∧ (d.trig (bits (j.w 4) 31 15)).state = tgArmed)
  ∧ (∀ (s : State) (aseq : Nat) (j : JEntry),
      Begun s.dev aseq 0x030B j →
      opEntryOk (((j.pkt.words ++ List.replicate 32 0).drop 5).take 16) = true →
      Does (.opWrite aseq) s fun d => Answered d j St.ok ∧ d.red.ops.look (j.w 4 % 2 ^ 17) = some (((j.pkt.words ++ List.replicate 32 0).drop 5).take 16))
  ∧ (∀ (s : State) (aseq t : Nat) (j : JEntry) (x : Schedule) (w : List Nat),
      Begun s.dev aseq 0x030C j →
      s.dev.red.schedules.look (j.w 4 % 65536) = some x →
      s.dev.parking = false →
      s.dev.launchStatus j (x.at_ (j.w 5) (j.w 6) (j.w 7)) (j.w 5) (j.w 6) = St.ok →
      (x.at_ (j.w 5) (j.w 6) (j.w 7)).trigs = [(t, w)] →
      (x.at_ (j.w 5) (j.w 6) (j.w 7)).first = t →
      2 ≤ (trigOf w).thresh →
      Does (.collLaunch aseq) s fun d => Answered d j St.ok ∧ d.trig t = { trigOf w with state := tgArmed, count := 1 })
  ∧ (∀ (s : State) (pid : Nat) (st : Stored) (d1 : Dev),
      s.dev.takeHub pid (fun k => k.pclass = 1 && k.typ = 6 && k.opcode = 1) = some (st, d1) →
      (d1.answersLive.find? fun x => x.1 = st.pkt.src && x.2.1 = st.pkt.tag) = none →
      st.pkt.arg5 / 2 ^ 7 % 256 ≠ 0 →
      (d1.trig (st.pkt.arg5 / 2 ^ 15)).state = tgArmed →
      st.pkt.burgee = 0 ∨ st.pkt.burgee = (d1.trig (st.pkt.arg5 / 2 ^ 15)).burgee →
      (d1.trig (st.pkt.arg5 / 2 ^ 15)).count + st.pkt.arg5 / 2 ^ 7 % 256 < (d1.trig (st.pkt.arg5 / 2 ^ 15)).thresh →
      (d1.trig (st.pkt.arg5 / 2 ^ 15)).count + st.pkt.arg5 / 2 ^ 7 % 256 < 2 ^ 32 →
      Does (.trigPennantReceived pid) s fun d => (d.trig (st.pkt.arg5 / 2 ^ 15)).count = (d1.trig (st.pkt.arg5 / 2 ^ 15)).count + st.pkt.arg5 / 2 ^ 7 % 256 ∧
        d.red.answered.getLast? = some (st.pkt.src, st.pkt.tag, St.ok, d1.now + 1000000000))

/-- REGION_REG writes its entry and REGION_DEREG clears its V; a checked streamer begins to land and its bytes are written when it completes; a neighbour record aborts the context it names; a token takes the lowest free slot of its quadrant; a gate record of no expert ends its token, and a gate timeout does. -/
def Obligations.RegionsLandingsAndDispatch : Prop :=
  (∀ (s : State) (aseq : Nat) (j : JEntry) (r : Region),
      Begun s.dev aseq 0x030D j →
      regionOf ((j.pkt.words ++ List.replicate 32 0).drop 5) = r →
      s.dev.cmdReach j r.burgee = true →
      (s.dev.region (j.w 4)).v = false ∨ s.dev.cmdReach j (s.dev.region (j.w 4)).burgee = true →
      j.w 4 / 65536 ≠ 0 →
      r.check = j.w 4 / 65536 →
      j.w 4 / 4096 % 4 = 0 →
      r.v = false ∨ s.dev.regionPlace r = St.ok →
      Does (.regionReg aseq) s fun d => Answered d j St.ok ∧ d.region (j.w 4) = r)
  ∧ (∀ (s : State) (aseq : Nat) (j : JEntry),
      Begun s.dev aseq 0x030E j →
      (s.dev.region (j.w 4)).v = true →
      (s.dev.region (j.w 4)).check = j.w 4 / 65536 →
      j.w 4 / 65536 ≠ 0 →
      s.dev.cmdReach j (s.dev.region (j.w 4)).burgee = true →
      s.dev.landingIn (regionNo (j.w 4)) = false →
      Does (.regionDereg aseq) s fun d => Answered d j St.ok ∧ d.region (j.w 4) = { s.dev.region (j.w 4) with v := false })
  ∧ (∀ (s : State) (no : Nat),
      s.dev.landingIn no = false →
      Does (.regionDeregComplete no) s fun d => d.red.deregs = s.dev.red.deregs.filter fun x => x.1 ≠ no)
  ∧ (∀ (s : State) (pid t r off : Nat) (st : Stored) (h : Holder) (d1 : Dev) (trig : Option Nat) (e : Region),
      s.dev.takeWhole (attachOf t) pid t = some (st, h, d1) →
      landsInMemory st.pkt = true →
      st.pkt.typ ≠ 2 ∨ d1.redFmt st.pkt.fmt = true →
      d1.landingPlace st.pkt = some (r, off, trig) →
      (match d1.regionCheck r off st.pkt.payload.length st.pkt.burgee true with
        | .ok x => some x
        | .error _ => none) = some e →
      Does (.streamerLanding pid t) s fun d => d.red.landings = d1.red.landings ++
          [{ pid := pid, hold := h, target := e.target, addr := e.base + off, region := regionNo r, trig := trig }])
  ∧ (∀ (s : State) (pid t : Nat) (l : Landing) (st : Stored),
      (s.dev.red.landings.find? fun l => l.pid = pid && l.hold.tgt = t) = some l →
      s.dev.pkt? pid = some st →
      l.target < 64 →
      s.dev.pdOn (pdOfMem l.target) = true →
      (s.dev.eccOf l.target).poison = [] →
      l.trig = none →
      Does (.landingComplete pid t) s fun d => d.red.landings = s.dev.red.landings.erase l ∧ d.sramOf l.target = (s.dev.sramOf l.target).writeN l.addr st.pkt.payload)
  ∧ (∀ (s : State) (pid : Nat) (st : Stored) (d1 : Dev),
      s.dev.takeHub pid isFail = some (st, d1) →
      st.pkt.dst = 0xFFFFE →
      st.pkt.arg5 / 2 ^ 28 = 7 →
      st.pkt.opcode = rCtxAborted →
      (d1.ctx (st.pkt.arg6 % 65536)).check = st.pkt.arg6 / 65536 →
      (d1.ctx (st.pkt.arg6 % 65536)).state = csOpen →
      (d1.ctx (st.pkt.arg6 % 65536)).slots = [] →
      (d1.ctx (st.pkt.arg6 % 65536)).deferred = [] →
      (d1.ctx (st.pkt.arg6 % 65536)).scope = false →
      (d1.ctx (st.pkt.arg6 % 65536)).token = none →
      Does (.failPennantReceived pid) s fun d => (d.ctx (st.pkt.arg6 % 65536)).state = csAborted ∧ (d.ctx (st.pkt.arg6 % 65536)).cause = acNeighbour)
  ∧ (∀ (s : State) (pid t n : Nat) (st : Stored) (h : Holder) (d1 d2 : Dev),
      s.dev.takeWhole (attachOf t) pid t = some (st, h, d1) →
      st.pkt.pclass = 2 →
      st.pkt.typ = 3 →
      d1.tokenTest t st.pkt = 0 →
      d1.red.tokenWait.get (quadOfTile t) [] = [] →
      d2 = { d1 with red := { d1.red with tokenWait := d1.red.tokenWait.put (quadOfTile t) [(pid, h, d1.now)] } } →
      d2.freeToken (quadOfTile t) = some n →
      (d2.rxPut t false (tokenBytes n (st.pkt.collId % 256) st.pkt)).isSome = true →
      Does (.dispatchTokenReceived pid t) s fun d => (d.red.tokens.look (quadOfTile t, n)).map (fun k => (k.pid, k.group, k.ctx)) = some (pid, st.pkt.collId % 256, none))
  ∧ (∀ (s : State) (q pid n x : Nat) (st : Stored) (h : Holder) (rest : List (Nat × Holder × Nat)),
      s.dev.red.tokenWait.get q [] = (pid, h, x) :: rest →
      s.dev.pkt? pid = some st →
      s.dev.freeToken q = some n →
      (s.dev.rxPut h.tgt false (tokenBytes n (st.pkt.collId % 256) st.pkt)).isSome = true →
      Does (.tokenSlotAvailable q) s fun d => (d.red.tokens.look (q, n)).map Token.pid = some pid ∧ d.red.tokenWait.get q [] = rest)
  ∧ (∀ (s : State) (q : Nat) (r : GateRec) (rest : List GateRec) (k : Token) (o : Slot),
      s.dev.red.gateRecs.get q [] = r :: rest →
      s.dev.red.tokens.look (q, nth r.words 0 / 65536) = some k →
      k.ctx = none →
      k.group = nth r.words 0 / 256 % 256 →
      (s.dev.group q (nth r.words 0 / 256 % 256)).tile = r.tile →
      nth r.words 0 / 16 % 16 = 0 →
      (match s.dev.originSlot q k with
        | .ok x => some x
        | .error _ => none) = some o →
      Does (.gateRecordTaken q) s fun d => d.red.gateRecs.get q [] = rest ∧ (d.red.tokens.look (q, nth r.words 0 / 65536)).isNone = true)
  ∧ (∀ (s : State) (q slot : Nat) (k : Token),
      s.dev.red.tokens.look (q, slot) = some k →
      k.ctx = none →
      k.due ≤ s.dev.now →
      s.dev.red.tokenWait.get q [] = [] →
      Does (.gateTimeout q slot) s fun d => (d.red.tokens.look (q, slot)).isNone = true ∧ d.rd R.COL_ERR_GATE_TO_SEEN q = 1)
  ∧ (∀ (s : State) (pid q : Nat) (st : Stored) (h : Holder) (d1 d2 : Dev),
      ((List.range 4).find? fun q => (s.dev.net.attachIn.get (rcAttach q) []).any fun x => x.1 = pid) = some q →
      s.dev.takeWhole (rcAttach q) pid (rcTgt q) = some (st, h, d1) →
      isFail st.pkt = true →
      d2 = (d1.release pid h).retryOut →
      st.pkt.opcode = rCtxAborted →
      ctxQuad (st.pkt.arg6 % 65536) = q →
      (d2.ctx (st.pkt.arg6 % 65536)).token.isSome = true →
      (d2.ctx (st.pkt.arg6 % 65536)).check = st.pkt.arg6 / 65536 →
      (d2.ctx (st.pkt.arg6 % 65536)).state = csOpen →
      (d2.ctx (st.pkt.arg6 % 65536)).slots = [] →
      (d2.ctx (st.pkt.arg6 % 65536)).deferred = [] →
      (d2.ctx (st.pkt.arg6 % 65536)).scope = false →
      Does (.expertFailReceived pid) s fun d => (d.ctx (st.pkt.arg6 % 65536)).state = csAborted ∧ (d.ctx (st.pkt.arg6 % 65536)).cause = acNeighbour)

/-- A fetched image that passes R339 makes its slot CACHED; a load takes the ready trigger and LOADING; written sections advance EPOCH; a swap or move is DRAINING until the step in hand is over; an evicted slot is EMPTY; a step processes a waiting token. -/
def Obligations.ModelCommands : Prop :=
  (∀ (s : State) (aseq m : Nat) (j : JEntry) (o : Obj),
      Begun s.dev aseq 0x0404 j →
      s.dev.nvs = nsReady →
      s.dev.obj? (j.w 4) = some o →
      objReach o j.burgee (s.dev.isOwner j) = true →
      o.kind = 1 →
      o.state = 2 →
      s.dev.emptySlot = some m →
      ceilDiv (mdlWord o.data 8) 4096 * 4096 ≤ s.dev.cacheFree →
      Does (.modelFetch aseq) s fun d => (d.model m).fetch = some aseq ∧ (d.model m).bodyB = mdlWord o.data 8 ∧
        d.store.jobs.getLast?.map StoreJob.src = some (.fetch m) ∧ Running d j)
  ∧ (∀ (s : State) (m aseq : Nat) (sig : Bool) (j : JEntry) (x : StoreJob),
      (s.dev.model m).fetch = some aseq →
      (s.dev.store.jobs.find? fun j => j.src = StoreSrc.fetch m && j.ended) = some x →
      x.failed = none →
      s.dev.job? aseq = some j →
      j.pkt.origin = .pcie →
      j.lost = false →
      imageStatus (imageModel x.data) (sig && s.dev.modelKey (imageModel x.data).burgee) j.burgee = 0 →
      Does (.modelFetchComplete m sig) s fun d => d.model m = { imageModel x.data with state := msCached } ∧ Answered d j St.ok [m])
  ∧ (∀ (s : State) (aseq t : Nat) (sig : Bool) (j : JEntry),
      Begun s.dev aseq 0x0405 j →
      s.dev.modelReach j (s.dev.model (bits (j.w 4) 7 0)) = true →
      (s.dev.model (bits (j.w 4) 7 0)).state = msCached →
      (s.dev.model (bits (j.w 4) 7 0)).job = none →
      imageStatus (s.dev.model (bits (j.w 4) 7 0)) (sig && s.dev.modelKey (s.dev.model (bits (j.w 4) 7 0)).burgee) j.burgee = 0 →
      (maskTiles (j.tileMask 5)).length = (s.dev.model (bits (j.w 4) 7 0)).tiles →
      s.dev.placeStatus (bits (j.w 4) 7 0) (j.tileMask 5) (bits (j.w 4) 7 0) = 0 →
      s.dev.freeTrig (j.tileMask 5) = some t →
      Does (.modelLoad aseq sig) s fun d => (d.model (bits (j.w 4) 7 0)).state = msLoading ∧ (d.model (bits (j.w 4) 7 0)).mask = j.tileMask 5 ∧ (d.model (bits (j.w 4) 7 0)).ready = some t ∧
        (d.trig t).state = tgArmed ∧ (d.trig t).thresh = (s.dev.model (bits (j.w 4) 7 0)).tiles ∧ Running d j)
  ∧ (∀ (s : State) (m : Nat),
      (s.dev.model m).state = msLoading →
      (s.dev.model m).loading = true →
      Does (.modelLoadSectionsWritten m) s fun d => (d.model m).loading = false ∧ (d.model m).epoch = nextEpoch (s.dev.model m).epoch ∧ (d.model m).prevTill = none)
  ∧ (∀ (s : State) (aseq t : Nat) (sig : Bool) (j : JEntry),
      Begun s.dev aseq 0x0406 j →
      (s.dev.model (bits (j.w 4) 7 0)).state = msResident →
      (s.dev.model (bits (j.w 5) 7 0)).state = msCached →
      (s.dev.model (bits (j.w 5) 7 0)).job = none →
      (s.dev.model (bits (j.w 5) 7 0)).tiles ≤ (s.dev.model (bits (j.w 4) 7 0)).tiles →
      s.dev.modelReach j (s.dev.model (bits (j.w 4) 7 0)) = true →
      s.dev.modelReach j (s.dev.model (bits (j.w 5) 7 0)) = true →
      imageStatus (s.dev.model (bits (j.w 5) 7 0)) (sig && s.dev.modelKey (s.dev.model (bits (j.w 5) 7 0)).burgee) j.burgee = 0 →
      s.dev.placeStatus (bits (j.w 5) 7 0) (maskOf ((maskTiles (s.dev.model (bits (j.w 4) 7 0)).mask).take (s.dev.model (bits (j.w 5) 7 0)).tiles)) (bits (j.w 4) 7 0) = 0 →
      s.dev.freeTrig (maskOf ((maskTiles (s.dev.model (bits (j.w 4) 7 0)).mask).take (s.dev.model (bits (j.w 5) 7 0)).tiles)) = some t →
      Does (.modelSwap aseq sig) s fun d => (d.model (bits (j.w 4) 7 0)).state = msDraining ∧ (d.model (bits (j.w 4) 7 0)).incoming = some (bits (j.w 5) 7 0) ∧ (d.model (bits (j.w 5) 7 0)).ready = some t ∧ Running d j)
  ∧ (∀ (s : State) (m i : Nat),
      (s.dev.model m).state = msDraining →
      (s.dev.model m).incoming = some i →
      i ≠ m →
      (s.dev.model m).sess = [] →
      Does (.modelSwapStepDrained m) s fun d => (d.model m).state = msCached ∧ (d.model m).mask = 0 ∧ (d.model i).state = msLoading ∧ (d.model i).mask = (s.dev.model i).nextMask)
  ∧ (∀ (s : State) (aseq t : Nat) (j : JEntry),
      Begun s.dev aseq 0x0407 j →
      (s.dev.model (bits (j.w 4) 7 0)).state = msResident →
      (maskTiles (j.tileMask 5)).length = (s.dev.model (bits (j.w 4) 7 0)).tiles →
      s.dev.placeStatus (bits (j.w 4) 7 0) (j.tileMask 5) (bits (j.w 4) 7 0) = 0 →
      s.dev.freeTrig (j.tileMask 5) = some t →
      Does (.modelMove aseq) s fun d => (d.model (bits (j.w 4) 7 0)).state = msDraining ∧ (d.model (bits (j.w 4) 7 0)).incoming = some (bits (j.w 4) 7 0) ∧ (d.model (bits (j.w 4) 7 0)).nextMask = j.tileMask 5 ∧ Running d j)
  ∧ (∀ (s : State) (m t : Nat),
      (s.dev.model m).prevTill = some t →
      t ≤ s.dev.now →
      Does (.modelMoveStubExpiry m) s fun d => (d.model m).prevTill = none)
  ∧ (∀ (s : State) (aseq : Nat) (j : JEntry),
      Begun s.dev aseq 0x0408 j →
      (s.dev.model (bits (j.w 4) 7 0)).state = msCached ∨ (s.dev.model (bits (j.w 4) 7 0)).state = msResident ∨ (s.dev.model (bits (j.w 4) 7 0)).state = msFailed →
      (s.dev.model (bits (j.w 4) 7 0)).job = none →
      (s.dev.model (bits (j.w 4) 7 0)).fetch = none →
      s.dev.modelReach j (s.dev.model (bits (j.w 4) 7 0)) = true →
      (s.dev.model (bits (j.w 4) 7 0)).sess = [] →
      Does (.modelEvict aseq) s fun d => Answered d j St.ok ∧ d.model (bits (j.w 4) 7 0) = {})
  ∧ (∀ (s : State) (m dur i : Nat) (out : List SessOut) (a : AppendReq),
      (s.dev.model m).state = msResident →
      s.dev.rd R.PWR_OPSTAT_OP_CUR ≠ 3 →
      (s.dev.model m).sessIn 1 = [i] →
      (s.dev.session m i).gen = none →
      (s.dev.model m).waiting = [i] →
      (s.dev.session m i).apps = [a] →
      a.left.length = 1 →
      Does (.modelStep m dur out) s fun d => (d.model m).steps = min (2 ^ 32 - 1) ((s.dev.model m).steps + 1) ∧ (d.session m i).nextPos = (s.dev.session m i).nextPos + 1 ∧
        (d.session m i).apps = [])

/-- A request that passes the tests of R352 opens the lowest free session, queues its tokens, starts, cancels, parks, resumes or closes its session, or starts a transfer through the store, whose end answers it; the answers that the rules give at once are kept for a repeat of the TAG. -/
def Obligations.ServeRequests : Prop :=
  (∀ (s : State) (pid ing m : Nat) (k : Packet) (d1 : Dev) (n : Nat),
      Asks s.dev pid 1 k ing d1 m →
      (d1.model m).openedBy (reqOf k ing) = none →
      (d1.model m).freeSession = some n →
      Does (.serveOpen pid) s fun d => (d.session m n).state = 1 ∧ (d.session m n).owner = k.src ∧ (d.session m n).region = k.arg7 ∧
        (d.session m n).last = some (k.tag, 1, St.ok, 0))
  ∧ (∀ (s : State) (pid ing m : Nat) (k : Packet) (d1 : Dev) (x : Session),
      Asks s.dev pid 2 k ing d1 m →
      Owns d1 k m 1 x →
      x.gen = none →
      k.arg6 / 256 = x.nextPos + x.queued →
      (reqOf k ing).tokens ≠ [] →
      x.nextPos + x.queued + (reqOf k ing).tokens.length ≤ maxPos →
      Does (.serveAppend pid) s fun d => (d.session m (k.arg5 % 65536)).apps.map AppendReq.left = x.apps.map AppendReq.left ++ [(reqOf k ing).tokens])
  ∧ (∀ (s : State) (pid ing m : Nat) (k : Packet) (d1 : Dev) (x : Session),
      Asks s.dev pid 3 k ing d1 m →
      Owns d1 k m 1 x →
      x.gen = none →
      ((d1.model m).sess.filter fun y => y.2.gen.isSome).length < 128 / (d1.model m).rows →
      k.arg6 / 256 = (x.nextPos + x.queued) % 2 ^ 24 →
      x.nextPos + x.queued < maxPos →
      k.arg7 / 256 ≤ x.nslot * x.deliver * (d1.model m).rows →
      Does (.serveGenerate pid) s fun d => (d.session m (k.arg5 % 65536)).gen.map (fun g => (g.tag, g.maxNew, g.topK)) = some (k.tag, k.arg7 / 256, k.arg7 % 256))
  ∧ (∀ (s : State) (pid ing m : Nat) (k : Packet) (d1 : Dev) (x : Session) (g : Gen),
      Asks s.dev pid 4 k ing d1 m →
      Owns d1 k m 1 x →
      x.gen = some g →
      Does (.serveCancel pid) s fun d => (d.session m (k.arg5 % 65536)).gen = some { g with cancel := true } ∧ (d.session m (k.arg5 % 65536)).last = some (k.tag, 4, St.ok, 0))
  ∧ (∀ (s : State) (pid ing m : Nat) (k : Packet) (d1 : Dev) (x : Session),
      Asks s.dev pid 5 k ing d1 m →
      Owns d1 k m 1 x →
      x.gen = none →
      x.apps = [] →
      x.storing = none →
      Does (.servePark pid) s fun d => (d.session m (k.arg5 % 65536)).state = 2 ∧ (d.session m (k.arg5 % 65536)).parked.length = (maskTiles (d1.model m).mask).length ∧
        (d.session m (k.arg5 % 65536)).last = some (k.tag, 5, St.ok, 0))
  ∧ (∀ (s : State) (pid ing m : Nat) (k : Packet) (d1 : Dev) (x : Session) (n : Nat),
      Asks s.dev pid 6 k ing d1 m →
      Owns d1 k m 2 x →
      x.dead = false →
      (d1.model m).freeSlot = some n →
      Does (.serveResume pid) s fun d => (d.session m (k.arg5 % 65536)).state = 1 ∧ (d.session m (k.arg5 % 65536)).slotNo = n ∧ (d.session m (k.arg5 % 65536)).last = some (k.tag, 6, St.ok, 0))
  ∧ (∀ (s : State) (pid ing m : Nat) (k : Packet) (d1 : Dev) (x : Session),
      Asks s.dev pid 9 k ing d1 m →
      Owns d1 k m 1 x →
      x.gen = none →
      x.apps = [] →
      x.storing = none →
      Does (.serveClose pid) s fun d => (d.session m (k.arg5 % 65536)).state = 0 ∧ (d.session m (k.arg5 % 65536)).last = some (k.tag, 9, St.ok, 0))
  ∧ (∀ (s : State) (pid ing m : Nat) (k : Packet) (d1 : Dev) (x : Session),
      s.dev.takeReq pid (fun k => k.pclass = 2 && k.typ = 4 && k.region = 0) = some (k, ing, d1) →
      d1.modelById (k.collId / 65536) = some m →
      (d1.model m).state = msResident →
      k.burgee = (d1.model m).burgee →
      (d1.models.any fun x => x.2.state != msEmpty && x.2.id = k.collId / 65536) = true →
      d1.session m (k.collId % 65536) = x →
      x.state = 1 →
      x.owner = k.src →
      x.burgee = k.burgee →
      k.collId % 65536 < (d1.model m).users →
      x.openTags.contains k.tag = false →
      x.last = none →
      x.gen = none →
      k.offset / 4 = x.nextPos + x.queued →
      (reqOfStream k ing).tokens ≠ [] →
      x.nextPos + x.queued + (reqOfStream k ing).tokens.length ≤ maxPos →
      Does (.serveDataAppend pid) s fun d => (d.session m (k.collId % 65536)).apps.map AppendReq.left = x.apps.map AppendReq.left ++ [(reqOfStream k ing).tokens])
  ∧ (∀ (s : State) (pid ing m : Nat) (k : Packet) (d1 : Dev) (x : Session) (o : Obj),
      Asks s.dev pid 7 k ing d1 m →
      Owns d1 k m 1 x →
      x.gen = none →
      x.apps = [] →
      x.storing = none →
      d1.nvs = nsReady →
      d1.obj? k.arg7 = some o →
      o.kind = 3 →
      o.state = 1 →
      o.burgee = k.burgee →
      (d1.model m).snapBytes ((d1.model m).live x.nextPos) ≤ o.size →
      d1.writeStatus k.arg7 0 ((d1.model m).snapBytes ((d1.model m).live x.nextPos)) = St.ok →
      d1.store.quiesceJob = none →
      d1.store.jobs = [] →
      Does (.serveSnapshot pid) s fun d => (d.session m (k.arg5 % 65536)).storing = some (k.tag, 7, k.arg7) ∧ d.store.jobs.map StoreJob.src = [.snap m (k.arg5 % 65536)])
  ∧ (∀ (s : State) (pid ing m : Nat) (k : Packet) (d1 : Dev) (n : Nat) (o : Obj),
      Asks s.dev pid 8 k ing d1 m →
      (d1.model m).openedBy (reqOf k ing) = none →
      (d1.model m).freeSession = some n →
      d1.nvs = nsReady →
      d1.obj? k.arg7 = some o →
      o.kind = 3 →
      o.state = 2 →
      o.burgee = k.burgee →
      mdlWord o.data 0 = (d1.model m).id →
      (d1.model m).snapBytes ((d1.model m).live (mdlWord o.data 1)) ≤ o.size →
      mdlWord o.data 1 ≤ maxPos →
      Does (.serveRestore pid) s fun d => (d.session m n).state = 3 ∧ (d.session m n).storing = some (k.tag, 8, k.arg7) ∧
        d.store.jobs.getLast?.map StoreJob.src = some (.restore m n))
  ∧ (∀ (s : State) (m i tag h : Nat) (j : StoreJob),
      (s.dev.session m i).storing = some (tag, 8, h) →
      (s.dev.store.jobs.find? fun j => (j.src = StoreSrc.snap m i || j.src = StoreSrc.restore m i) && j.ended) = some j →
      j.failed = none →
      Does (.serveStoreOpComplete m i) s fun d => (d.session m i).state = 1 ∧ (d.session m i).nextPos = mdlWord j.data 1 ∧ (d.session m i).storing = none ∧
        (d.session m i).last = some (tag, 8, St.ok, 0))

/-- A containment reset that is due resets its idle tile; a scrub pass, a refresh and a temperature reading take their time; SRAM_TEST starts the march of its tile, whose end leaves RESULT pass; an uncorrectable block is poisoned; retraining goes channel by channel as R378 says, and a failed channel is tried again. -/
def Obligations.MemoryProtectionEvents : Prop :=
  (∀ (s : State) (t x : Nat),
      (s.dev.eccOf t).resetAt = some x →
      x ≤ s.dev.now →
      s.dev.mgmt.resets = [] →
      s.dev.tileState t = tsIdle →
      s.dev.modelOf t = none →
      Does (.sramEccResetTimer t) s fun d => d.tileState t = tsResetting ∧ (d.eccOf t).resetAt = none)
  ∧ (∀ (s : State) (t : Nat) (hits : EccHits),
      s.dev.rd R.SRAM_SCRUB_PERIOD_S t ≠ 0 →
      s.dev.pdOn (pdTile t) = true →
      (s.dev.eccOf t).scrubAt + 1000000000 * s.dev.rd R.SRAM_SCRUB_PERIOD_S t ≤ s.dev.now →
      Does (.sramScrubPeriod t hits) s fun d => (d.eccOf t).scrubAt = s.dev.now)
  ∧ (∀ (s : State) (aseq t : Nat) (j : JEntry),
      Begun s.dev aseq 0x0403 j →
      maskBits (j.w 4 + j.w 5 * 2 ^ 32) 64 = [t] →
      j.w 6 % 4 ≠ 0 →
      s.dev.marchState t (j.w 6 % 4) = true →
      j.w 6 % 4 = 3 ∨ s.dev.modelOf t = none →
      Does (.sramTest aseq) s fun d => (d.eccOf t).march = some (j.w 6 % 4, some aseq) ∧ d.rd R.SRAM_MTEST_RESULT t = 1 ∧ Running d j)
  ∧ (∀ (s : State) (t mode : Nat),
      (s.dev.eccOf t).march = some (mode, none) →
      mode ≠ 3 →
      s.dev.mgmt.boot.sram = [] →
      s.dev.tileState t ≠ tsRunning →
      Does (.marchTestComplete t [] false []) s fun d => (d.eccOf t).march = none ∧ d.rd R.SRAM_MTEST_RESULT t = 2 ∧ d.sramOf t = [] ∧ (d.eccOf t).poison = [])
  ∧ (∀ (s : State) (q addr : Nat),
      s.dev.pdOn (pdHbm q) = true →
      (s.dev.stack q).poison.contains (addr / 64 * 64) = false →
      Does (.hbmUncorrectable q addr .none) s fun d => (d.stack q).poison = (s.dev.stack q).poison ++ [addr / 64 * 64] ∧ d.rd R.HBM_ERR_UNC_SEEN q = 1)
  ∧ (∀ (s : State) (q ondie : Nat) (unc corr : List Nat),
      s.dev.pdOn (pdHbm q) = true →
      (s.dev.stack q).scrubAt + 86400000000000 ≤ s.dev.now →
      Does (.hbmPatrolScrub q unc corr ondie) s fun d => (d.stack q).scrubAt = s.dev.now)
  ∧ (∀ (s : State) (q : Nat),
      s.dev.pdOn (pdHbm q) = true →
      Does (.hbmRefreshDue q) s fun d => (d.stack q).refreshAt = s.dev.now)
  ∧ (∀ (s : State) (q temp : Nat),
      s.dev.pdOn (pdHbm q) = true →
      (s.dev.stack q).tempAt + 1000000 ≤ s.dev.now →
      Does (.hbmTempCheck q temp) s fun d => (d.stack q).tempAt = s.dev.now ∧ d.rd R.HBM_STAT_TEMP q = temp % 2 ^ 8)
  ∧ (∀ (s : State) (q t : Nat),
      (s.dev.stack q).holdTill = some t →
      t ≤ s.dev.now →
      (s.dev.stack q).single = false →
      s.dev.rd R.HBM_STAT_TRAIN_CH q ≠ 31 →
      Does (.hbmChannelRetrainDone q true) s fun d => (d.stack q).holdTill = none ∧ (d.stack q).nextAt = some (s.dev.now + 10000))
  ∧ (∀ (s : State) (q t : Nat),
      (s.dev.stack q).nextAt = some t →
      t ≤ s.dev.now →
      Does (.hbmChannelRetrainNext q) s fun d => (d.stack q).holdTill = some (s.dev.now + 1500) ∧ d.rd R.HBM_STAT_TRAIN_CH q = (s.dev.rd R.HBM_STAT_TRAIN_CH q + 1) % 32 ∧
        d.rd R.HBM_STAT_TRAINING q = 1)
  ∧ (∀ (s : State) (q ch t : Nat) (rest : List (Nat × Nat)),
      (s.dev.stack q).retry = (ch, t) :: rest →
      t ≤ s.dev.now →
      s.dev.on R.HBM_STAT_TRAINING q = false →
      Does (.hbmRetrainRetry q) s fun d => (d.stack q).retry = rest ∧ (d.stack q).holdTill = some (s.dev.now + 1500) ∧ d.rd R.HBM_STAT_TRAIN_CH q = ch % 32)

/-- A decoded unit counts a read of its block and ends the read it was the last unit of; arriving bytes move a transfer on; a program unit that completes leaves the list and its units are programmed; an erased block is free; a refreshed block's units lie in the other block and the old block is erased; a target that has not responded is excluded. -/
def Obligations.StoreTransferEvents : Prop :=
  (∀ (s : State) (h u step t b a : Nat) (heavy : Bool) (j : StoreJob),
      (s.dev.store.jobs.filter fun x => !x.write && x.obj = h && x.left.contains u) = [j] →
      s.dev.blockOf h u = some (t, b) →
      step ≠ 0 →
      j.src = .cmd a →
      j.left = [u] →
      (s.dev.obj? h).isSome = true →
      j.obj = h →
      j.target.isSome = true →
      Does (.unitReadComplete h u step heavy) s fun d => d.sjob? j.id = none ∧ (d.nblock t b).reads = (s.dev.nblock t b).reads + 1)
  ∧ (∀ (s : State) (t b i step : Nat) (heavy : Bool) (hu : Nat × Nat),
      (s.dev.nblock t b).units[i]? = some hu →
      (s.dev.nblock t b).state = bData →
      (s.dev.nblock t b).sampled + max 1 (s.dev.rd R.NVS_CFG_RET_DAYS) * 86400000000000 ≤ s.dev.now →
      step ≠ 0 →
      Does (.retentionScan t b i step heavy) s fun d => (d.nblock t b).sampled = s.dev.now ∧ (d.nblock t b).reads = (s.dev.nblock t b).reads + 1)
  ∧ (∀ (s : State) (id : Nat) (p : ProgUnit),
      (s.dev.store.prog.find? fun x => x.id = id) = some p →
      Does (.programComplete id true) s fun d => d.store.prog = (s.dev.store.prog.filter fun x => x.id ≠ id) ∧
        (p.units.all fun r => (d.obj? r.obj).all fun o => o.programmed.contains r.unit) = true)
  ∧ (∀ (s : State) (t b : Nat),
      (s.dev.nblock t b).state = bErasing →
      (s.dev.store.blocks.map Prod.fst).Nodup →
      Does (.eraseComplete t b true) s fun d => (d.nblock t b).state = bFree ∧ (d.nblock t b).units = [] ∧ (d.nblock t b).erases = (s.dev.nblock t b).erases + 1)
  ∧ (∀ (s : State) (t b : Nat) (uc : Nat × Nat),
      (s.dev.nblock t b).state = bRefresh →
      ((t :: s.dev.targetsUsed).findSome? fun u => match s.dev.nextBlock u (s.dev.nblock t b).units.length with
        | some c => if u = t ∧ c = b then none else some (u, c)
        | none => none) = some uc →
      Does (.blockRefreshComplete t b) s fun d => (d.nblock t b).state = bErasing ∧ (d.nblock t b).units = [] ∧
        (d.nblock uc.1 uc.2).units = (s.dev.nblock uc.1 uc.2).units ++ (s.dev.nblock t b).units)
  ∧ (∀ (s : State) (t : Nat),
      (s.dev.target t).used = true →
      s.dev.store.jobs = [] →
      s.dev.store.prog = [] →
      Does (.targetTimeout t) s fun d => (d.target t).used = false ∧ d.rdBit R.NVS_TGT_FAILED (t % 8) 0 (t / 8) = true)
  ∧ (∀ (s : State) (id n : Nat) (j : StoreJob),
      s.dev.sjob? id = some j →
      s.dev.store.jobs = [j] →
      j.write = true →
      j.ended = false →
      n ≠ 0 →
      j.moved + n < j.len →
      s.dev.mayProgram = true →
      j.target = none →
      Does (.storeDataArrival id n) s fun d => (d.sjob? id).map StoreJob.moved = some (j.moved + n))
  ∧ (∀ (s : State) (t : Nat),
      s.dev.store.fillAt = some t →
      t ≤ s.dev.now →
      s.dev.store.jobs = [] →
      s.dev.mayProgram = true →
      s.dev.store.assembly.length + s.dev.store.metas.length ≤ 48 →
      0 < s.dev.store.assembly.length + s.dev.store.metas.length →
      (s.dev.programOn s.dev.store.assembly s.dev.store.metas).isSome = true →
      Does (.fillToExpiry) s fun d => d.store.assembly = [] ∧ d.store.metas = [] ∧ d.store.fillAt = none ∧ d.store.unitsIssued = s.dev.store.unitsIssued + 1)
  ∧ (∀ (s : State) (pid : Nat) (st : Stored) (h : Holder) (d1 : Dev) (b : AbsorbEnt),
      s.dev.takeWhole hubAttach pid tgtStore = some (st, h, d1) →
      (d1.store.binds.find? fun b => b.ctx = st.ctx.getD (st.pkt.collId % 65536)) = some b →
      (d1.startWrite (.result pid h) b.obj (b.base + st.pkt.offset) st.pkt.payload.length none 0
        (Mem.writeN [] 0 st.pkt.payload)).2 = 0 →
      st.pkt.payload ≠ [] →
      d1.store.jobs = [] →
      Does (.absorbResultReceived pid) s fun d => d.store.nextJob = d1.store.nextJob + 1 ∧ d.store.jobs.map StoreJob.len = [st.pkt.payload.length])
  ∧ (∀ (s : State),
      s.dev.mayProgram = true →
      s.dev.store.dirty = true →
      s.dev.store.lastMap + 1000000000 ≤ s.dev.now →
      Does (.mapCheckpoint) s fun d => d.store.dirty = false ∧ d.store.lastMap = s.dev.now)
  ∧ (∀ (s : State),
      s.dev.nvs = nsRebuilding →
      s.dev.rd R.HUB_BOOT_PHASE ≠ 6 →
      Does (.rebuildComplete) s fun d => d.store.uncleanEvt = true ∧ d.store.objs = s.dev.store.objs.map (fun x => (x.1, tornObj x.2)) ∧ (d.nvs = nsReady ∨ d.nvs = nsReadOnly))

/-- A store command that no check refuses is answered, or is under way with the object, the transfer or the binding that R388 to R394 and R405 give it; a write or read whose transfer is over is answered with its status. -/
def Obligations.StoreCommands : Prop :=
  (∀ (s : State) (aseq : Nat) (j : JEntry),
      Begun s.dev aseq 0x0501 j →
      s.dev.storeGate ≠ St.storeNoTargets →
      7 ≤ bits (j.w 4) 7 0 →
      bits (j.w 4) 7 0 ≤ 28 →
      s.dev.store.jobs = [] →
      Does (.storeFormat aseq) s fun d => d.store.formatJob = some aseq ∧ d.nvs = nsUnformatted ∧ d.store.opPct = bits (j.w 4) 7 0 ∧ d.store.binds = [] ∧
        (d.store.objs.all fun x => x.2.state = 0) = true)
  ∧ (∀ (s : State) (aseq : Nat) (j : JEntry),
      Begun s.dev aseq 0x0502 j →
      s.dev.storeGate ≠ St.storeNoTargets →
      s.dev.nvs ≠ nsQuiesced →
      Does (.storeStat aseq) s fun d => Answered d j St.ok s.dev.storeWords)
  ∧ (∀ (s : State) (aseq : Nat) (j : JEntry),
      Begun s.dev aseq 0x0503 j →
      s.dev.nvs = nsReady →
      s.dev.store.jobs = [] →
      s.dev.store.assembly = [] →
      s.dev.store.metas = [] →
      Does (.storeQuiesce aseq) s fun d => d.store.quiesceJob = some aseq ∧ Running d j)
  ∧ (∀ (s : State) (aseq i : Nat) (j : JEntry),
      Begun s.dev aseq 0x0504 j →
      s.dev.nvs = nsReady →
      bits (j.w 4) 3 0 ≤ 3 →
      s.dev.store.quiesceJob = none →
      ¬ s.dev.storeFree < 4096 * unitsOfSize (j.w 5 * 2 ^ 32 + j.w 6) →
      i < 65536 →
      (s.dev.store.objs.get i {}).state = 0 →
      ∀ k < i, (s.dev.store.objs.get k {}).state ≠ 0 →
      s.dev.store.assembly.length + s.dev.store.metas.length < 47 →
      Does (.objCreate aseq) s fun d => d.store.objs.get i {} = { gen := nextGen (s.dev.store.objs.get i {}).gen, state := 1, burgee := j.burgee, kind := bits (j.w 4) 3 0, size := j.w 5 * 2 ^ 32 + j.w 6 } ∧ d.store.metas = s.dev.store.metas ++ [aseq])
  ∧ (∀ (s : State) (aseq : Nat) (j : JEntry) (o : Obj),
      Begun s.dev aseq 0x0505 j →
      s.dev.nvs = nsReady →
      (j.bref 7).kind = 1 →
      s.dev.chIntf j.chan = 0 →
      j.buf.isSome = true →
      s.dev.obj? (j.w 4) = some o →
      objReach o j.burgee (s.dev.isOwner j) = true →
      s.dev.writeStatus (j.w 4) (j.w 5 * 2 ^ 32 + j.w 6) (j.bref 7).len = St.ok →
      (j.bref 7).len ≠ 0 →
      s.dev.store.jobs = [] →
      s.dev.store.quiesceJob = none →
      Does (.objWrite aseq) s fun d => d.store.jobs.map (fun x => (x.src, x.obj, x.off, x.len, x.write)) =
          [(.cmd aseq, j.w 4, j.w 5 * 2 ^ 32 + j.w 6, (j.bref 7).len, true)] ∧ Running d j)
  ∧ (∀ (s : State) (aseq : Nat) (j : JEntry) (o : Obj),
      Begun s.dev aseq 0x0506 j →
      s.dev.nvs = nsReady →
      (j.bref 7).kind = 1 →
      s.dev.chIntf j.chan = 0 →
      s.dev.obj? (j.w 4) = some o →
      objReach o j.burgee (s.dev.isOwner j) = true →
      o.state = 2 →
      j.w 5 * 2 ^ 32 + j.w 6 + (j.bref 7).len ≤ o.size →
      ((unitsIn (j.w 5 * 2 ^ 32 + j.w 6) (j.bref 7).len).any fun u => !(o.programmed.contains u)) = false →
      (unitsIn (j.w 5 * 2 ^ 32 + j.w 6) (j.bref 7).len).any o.bad.contains = false →
      (j.bref 7).len ≠ 0 →
      Does (.objRead aseq) s fun d => d.store.jobs.length = s.dev.store.jobs.length + 1 ∧
        d.store.jobs.getLast?.map (fun x => (x.src, x.obj, x.off, x.len, x.write)) =
          some (.cmd aseq, j.w 4, j.w 5 * 2 ^ 32 + j.w 6, (j.bref 7).len, false) ∧ Running d j)
  ∧ (∀ (s : State) (aseq : Nat) (j : JEntry) (o : Obj),
      Begun s.dev aseq 0x0507 j →
      s.dev.nvs = nsReady →
      s.dev.obj? (j.w 4) = some o →
      objReach o j.burgee (s.dev.isOwner j) = true →
      o.state = 1 →
      o.sealing = none →
      s.dev.store.quiesceJob = none →
      ((List.range (unitsOfSize o.size)).all fun u => o.programmed.contains u) = true →
      s.dev.store.jobs = [] →
      Does (.objSeal aseq) s fun d => (d.obj? (j.w 4)).map (fun x => (x.sealing, x.ranges)) = some (some aseq, [(0, o.size)]) ∧ Running d j)
  ∧ (∀ (s : State) (aseq : Nat) (j : JEntry) (o : Obj),
      Begun s.dev aseq 0x0508 j →
      s.dev.nvs = nsReady →
      s.dev.obj? (j.w 4) = some o →
      objReach o j.burgee (s.dev.isOwner j) = true →
      o.state ≠ 4 →
      s.dev.store.quiesceJob = none →
      ((s.dev.store.jobs.any fun x => x.obj = j.w 4) || s.dev.store.binds.any fun b => b.obj = j.w 4) = false →
      s.dev.store.assembly.length + s.dev.store.metas.length < 47 →
      Does (.objDelete aseq) s fun d => (d.obj? (j.w 4)).map Obj.state = some 4 ∧ d.store.metas = s.dev.store.metas ++ [aseq])
  ∧ (∀ (s : State) (aseq : Nat) (j : JEntry) (o : Obj),
      Begun s.dev aseq 0x0509 j →
      s.dev.nvs = nsReady →
      s.dev.obj? (j.w 4) = some o →
      objReach o j.burgee (s.dev.isOwner j) = true →
      (j.bref 5).kind = 0 →
      Does (.objStat aseq) s fun d => Answered d j St.ok ((objWords o).take 7))
  ∧ (∀ (s : State) (aseq : Nat) (j : JEntry) (o : Obj),
      Begun s.dev aseq 0x050A j →
      s.dev.nvs = nsReady →
      s.dev.obj? (j.w 5) = some o →
      objReach o j.burgee (s.dev.isOwner j) = true →
      o.state = 1 →
      s.dev.store.quiesceJob = none →
      s.dev.chRole j.chan ≠ 0 ∨ s.dev.ctxReach (bits (j.w 4) 15 0) j.burgee = true →
      (s.dev.store.binds.filter fun b => b.ctx ≠ bits (j.w 4) 15 0).length < 4096 →
      Does (.absorbBind aseq) s fun d => Answered d j St.ok ∧ d.store.binds = (s.dev.store.binds.filter fun b => b.ctx ≠ bits (j.w 4) 15 0) ++
          [{ ctx := bits (j.w 4) 15 0, obj := j.w 5, base := j.w 6 * 2 ^ 32 + j.w 7 }])
  ∧ (∀ (s : State) (aseq : Nat) (j : JEntry),
      s.dev.job? aseq = some j →
      j.phase = .running →
      j.host = false →
      j.op = 0x0505 ∨ j.op = 0x0506 →
      j.waits = 0 →
      j.pkt.origin = .pcie →
      j.lost = false →
      Does (.storeTransferComplete aseq) s fun d => Answered d j j.status)

/-- A well-formed packet to a bound window of a channel with room is accepted into its inbound FIFO, by DMWr, doorbell, MCTP message or CMD pennant; CPL_HEAD retires completions; EMPTY_ARM and CTL.LOCK are set by their writes. -/
def Obligations.MailboxAccesses : Prop :=
  (∀ (s : State) (fn ch : Nat) (ws : List Nat),
      s.dev.hasWindow ch fn = true →
      4 ≤ ws.length →
      ws.length ≤ 32 →
      4 + bits (nth ws 0) 20 16 ≤ ws.length →
      s.dev.boundTo ch fn = true →
      s.dev.accepts = true →
      s.dev.chFull ch = false →
      Does (.mbxSendDmwr fn ch 0 ws) s fun d => (d.chan ch).inq = (s.dev.chan ch).inq ++ [{ words := pktWords ws, origin := .pcie }])
  ∧ (∀ (s : State) (fn ch : Nat),
      s.dev.hasWindow ch fn = true →
      bits (s.dev.rd R.MBX_STAGE_DATA ch 0) 20 16 ≤ 28 →
      s.dev.boundTo ch fn = true →
      s.dev.accepts = true →
      s.dev.chFull ch = false →
      Does (.mbxDoorbellWrite fn ch false) s fun d => (d.chan ch).inq = (s.dev.chan ch).inq ++
        [{ words := pktWords ((List.range 32).map fun k => s.dev.rd R.MBX_STAGE_DATA ch k), origin := .pcie }])
  ∧ (∀ (s : State) (fn ch n : Nat),
      s.dev.hasWindow ch fn = true →
      s.dev.boundTo ch fn = true →
      Does (.mbxCplHeadWrite fn ch n) s fun d => (d.chan ch).cplq = (s.dev.chan ch).cplq.drop n ∧
        ((s.dev.chan ch).cplq.length < n → d.rd R.MBX_ERR_CPL_UNDERRUN ch = 1))
  ∧ (∀ (s : State) (fn ch : Nat),
      s.dev.hasWindow ch fn = true →
      s.dev.boundTo ch fn = true →
      (s.dev.chan ch).inq ≠ [] →
      Does (.mbxEmptyArmWrite fn ch) s fun d => d.rd R.MBX_IEN_EMPTY_ARM ch = 1)
  ∧ (∀ (s : State),
      s.dev.pdOn pdHub = true →
      s.dev.mgmt.d3hot.contains 0 = false →
      Does (.mbxCtlLockWrite) s fun d => d.rd R.MBX_CTL_LOCK = 1 ∧ d.rdBit R.HUB_LOCK_LOCKED 5 = true)
  ∧ (∀ (s : State) (intf eid mtag ch : Nat) (ws : List Nat),
      s.dev.matchChan intf eid = some ch →
      ((s.dev.chan ch).recent.find? fun x => x.1 = nth ws 1 && decide (s.dev.now < x.2.2)) = none →
      s.dev.inProgress ch (fun k => nth k.words 1 = nth ws 1) = false →
      s.dev.accepts = true →
      s.dev.chFull ch = false →
      s.dev.outst ch < 8 →
      Does (.mctpCommandMessage intf eid mtag ws) s fun d => (d.chan ch).inq = (s.dev.chan ch).inq ++ [{ words := pktWords ws, origin := .mctp intf eid mtag }])
  ∧ (∀ (s : State) (pid ch : Nat) (st : Stored) (d1 : Dev),
      s.dev.takeHub pid (fun k => k.pclass = 1 && k.typ = 2 && k.opcode = 1) = some (st, d1) →
      d1.matchChan 3 st.pkt.src = some ch →
      isPort st.ing = false ∨ d1.admitted st.ing = true →
      ((d1.chan ch).recent.find? fun x => x.1 = st.pkt.tag + 2 ^ 32 * st.pkt.src && decide (d1.now < x.2.2)) = none →
      d1.inProgress ch (fun c => match c.origin with
        | .fabric _ src tag => src = st.pkt.src && tag = st.pkt.tag
        | _ => false) = false →
      d1.accepts = true →
      d1.chFull ch = false →
      nth (wordsBE st.pkt.payload (st.pkt.len / 4)) 1 = st.pkt.tag →
      Does (.cmdPennantReceived pid) s fun d => (d.chan ch).inq = (d1.chan ch).inq ++
        [{ words := pktWords (wordsBE st.pkt.payload (st.pkt.len / 4)), origin := .fabric st.ing st.pkt.src st.pkt.tag }])

/-- Thidan takes the next packet of its round into the journal with the next ASEQ; a command whose objects no earlier one names begins; a host transfer's end answers the command; a Function Level Reset, PERST_N and D3hot discard what the channels hold. -/
def Obligations.ThidanTakingAndBeginning : Prop :=
  (∀ (s : State) (ch : Nat) (rest : List Nat) (k : CmdPkt) (q : List CmdPkt),
      s.dev.mgmt.thdDown = false →
      s.dev.mgmt.journal.length < 256 →
      s.dev.accepts = true →
      s.dev.nextTake = some (ch, rest) →
      (s.dev.chan ch).inq = k :: q →
      s.dev.packetCheck ch k.words = (0, 0) →
      s.dev.job? s.dev.mgmt.nextAseq = none →
      Does (.commandTaken) s fun d => (d.job? s.dev.mgmt.nextAseq).map JEntry.pkt = some k ∧ (d.chan ch).inq = q ∧
        d.mgmt.nextAseq = (s.dev.mgmt.nextAseq + 1) % 2 ^ 32 ∧ d.mgmt.round = rest)
  ∧ (∀ (s : State) (aseq : Nat) (j : JEntry),
      s.dev.job? aseq = some j →
      j.phase = .taken →
      s.dev.mgmt.thdDown = false →
      (s.dev.mgmt.journal.filter fun j => j.phase = .begun || j.phase = .running).length < 64 →
      waitsForObjects j.op = false ∨ (((s.dev.earlier aseq).any fun e =>
        e.objects.any fun x => j.objects.any fun y => sameObject x y) = false ∧
        j.objects.any (s.dev.objFenced j) = false) →
      Does (.commandBegin aseq) s fun d => (d.job? aseq).map JEntry.phase = some .begun)
  ∧ (∀ (s : State) (aseq : Nat) (bytes : List Nat) (j : JEntry),
      s.dev.job? aseq = some j →
      j.host = true →
      j.pkt.origin = .pcie →
      j.lost = false →
      Does (.hostTransferComplete aseq true bytes) s fun d => Answered d j j.status j.res j.detail)
  ∧ (∀ (s : State) (fn : Nat),
      Does (.functionLevelReset fn) s fun d => d.mgmt.d3hot = s.dev.mgmt.d3hot.filter (fun f => f ≠ fn) ∧
        ∀ ch ∈ s.dev.fnChans fn, (d.chan ch).inq = [] ∧ (d.chan ch).cplq = [])
  ∧ (∀ (s : State),
      Does (.perst) s fun d => d.mgmt.d3hot = [] ∧
        ∀ ch ∈ (List.range 128).filter (fun c => s.dev.chEn c && s.dev.chIntf c = 0),
          (d.chan ch).inq = [] ∧ (d.chan ch).cplq = [])
  ∧ (∀ (s : State) (fn : Nat),
      s.dev.mgmt.d3hot.contains fn = false →
      Does (.d3hotEntry fn) s fun d => d.mgmt.d3hot = s.dev.mgmt.d3hot ++ [fn] ∧
        ∀ ch ∈ s.dev.fnChans fn, (d.chan ch).inq = [] ∧ (d.chan ch).cplq = [])

/-- NOP gives back words 4 to 15; DEV_INFO and CMD_CAPS answer what R438 and R439 list; CHAN_BIND writes a legal entry and CHAN_LOCK locks the table; a change takes effect once the old commands have completed; CMD_CANCEL ends a command that is taken and not begun. -/
def Obligations.ThidanOwnCommands : Prop :=
  (∀ (s : State) (aseq : Nat) (j : JEntry),
      Begun s.dev aseq 0x0001 j →
      Does (.nop aseq) s fun d => Answered d j St.ok ((List.range 12).map fun k => j.w (4 + k)))
  ∧ (∀ (s : State) (aseq : Nat) (j : JEntry),
      Begun s.dev aseq 0x0002 j →
      Does (.devInfo aseq) s fun d => Answered d j St.ok [0x5120, s.dev.rd R.HUB_ID_STEPPING + s.dev.rd R.HUB_ID_GRADE * 256, s.dev.rd R.HUB_FWVER_VERSION,
        s.dev.rd R.HUB_SHORTID_ID, s.dev.devFeid, s.dev.rd R.HUB_NPROF_ID])
  ∧ (∀ (s : State) (aseq : Nat) (j : JEntry),
      Begun s.dev aseq 0x0003 j →
      Does (.cmdCaps aseq) s fun d => Answered d j St.ok (b2n (opInfo (bits (j.w 4) 15 0) 0).isSome ::
        (List.range 8).map fun k => maskOf ((List.range 32).filter fun b =>
          (opInfo (bits (j.w 4) 15 0 / 256 * 256 + 32 * k + b) 0).isSome)))
  ∧ (∀ (s : State) (aseq : Nat) (j : JEntry),
      Begun s.dev aseq 0x0004 j →
      s.dev.on R.MBX_CTL_LOCK = false →
      entryOk (j.w 5) (j.w 6) = true →
      Does (.chanBind aseq) s fun d => Answered d j St.ok ∧ d.rd R.MBX_CTAB_A_ENTRY_A 0 (j.w 4 % 128) = j.w 5 % 2 ^ 32 ∧
        d.rd R.MBX_CTAB_B_ENTRY_B 0 (j.w 4 % 128) = j.w 6 % 2 ^ 32)
  ∧ (∀ (s : State) (ch : Nat),
      (s.dev.chan ch).rebind.isSome = true →
      (s.dev.mgmt.journal.any fun j => j.chan = ch) = false →
      Does (.channelRebindEffective ch) s fun d => (d.chan ch).rebind = none ∧ d.bindA ch = s.dev.rd R.MBX_CTAB_A_ENTRY_A 0 ch)
  ∧ (∀ (s : State) (aseq : Nat) (j : JEntry),
      Begun s.dev aseq 0x0005 j →
      Does (.chanLock aseq) s fun d => Answered d j St.ok ∧ d.rd R.MBX_CTL_LOCK = 1 ∧ d.rdBit R.HUB_LOCK_LOCKED 5 = true)
  ∧ (∀ (s : State) (aseq : Nat) (j x : JEntry),
      Begun s.dev aseq 0x0006 j →
      (s.dev.mgmt.journal.find? fun y => y.chan = j.chan && y.phase = .taken && y.w 1 = j.w 4) = some x →
      x.aseq ≠ aseq →
      x.pkt.origin = .pcie →
      Does (.cmdCancel aseq) s fun d => Answered d j St.ok [1] ∧ d.job? x.aseq = none)

/-- An ARRIVE of a new rank is counted for the current instance; the parent's RELEASE advances SEQ and waits for T_REL; a FAIL from the parent or at the root, a root's deadline and a cut-off advance SEQ; a release that is due is taken from the list and advances the burgee's step counter. -/
def Obligations.HoistPennantsAndDeadlines : Prop :=
  (∀ (s : State) (pid : Nat) (st : Stored) (d1 : Dev),
      s.dev.takeHub pid (fun k => k.pclass = 1 && k.typ = 7 && k.opcode = 1) = some (st, d1) →
      (d1.hoist (st.pkt.arg5 % 1024)).v = true →
      st.pkt.arg5 / 1024 = (d1.hoist (st.pkt.arg5 % 1024)).seq →
      st.pkt.burgee = (d1.hoist (st.pkt.arg5 % 1024)).burgee →
      ((d1.inst (st.pkt.arg5 % 1024)).ranks.any fun r => r.1 = st.pkt.arg6 / 2 ^ 22) = false →
      (d1.inst (st.pkt.arg5 % 1024)).ranks.length + 1 + (d1.inst (st.pkt.arg5 % 1024)).joins.length < (d1.hoist (st.pkt.arg5 % 1024)).nChild + (d1.hoist (st.pkt.arg5 % 1024)).nLocal →
      Does (.hoistArrive pid) s fun d => (d.inst (st.pkt.arg5 % 1024)).ranks = (d1.inst (st.pkt.arg5 % 1024)).ranks ++ [(st.pkt.arg6 / 2 ^ 22, st.ing)])
  ∧ (∀ (s : State) (pid : Nat) (st : Stored) (d1 : Dev),
      s.dev.takeHub pid (fun k => k.pclass = 1 && k.typ = 7 && k.opcode = 2) = some (st, d1) →
      (d1.hoist (st.pkt.arg5 % 1024)).v = true →
      (d1.hoist (st.pkt.arg5 % 1024)).root = false →
      st.pkt.arg5 / 1024 = (d1.hoist (st.pkt.arg5 % 1024)).seq →
      st.pkt.burgee = (d1.hoist (st.pkt.arg5 % 1024)).burgee →
      (d1.inst (st.pkt.arg5 % 1024)).heldRanks = [] →
      (d1.inst (st.pkt.arg5 % 1024)).heldJoins = [] →
      d1.now < st.pkt.arg6 * 2 ^ 32 + st.pkt.arg7 →
      Does (.hoistReleaseReceived pid) s fun d => (d.hoist (st.pkt.arg5 % 1024)).seq = ((d1.hoist (st.pkt.arg5 % 1024)).seq + 1) % seqMax ∧
        d.time.releases.map HoistRel.trel = d1.time.releases.map HoistRel.trel ++ [st.pkt.arg6 * 2 ^ 32 + st.pkt.arg7])
  ∧ (∀ (s : State) (pid : Nat) (st : Stored) (d1 : Dev),
      s.dev.takeHub pid (fun k => k.pclass = 1 && k.typ = 7 && k.opcode = 3) = some (st, d1) →
      (d1.hoist (st.pkt.arg5 % 1024)).v = true →
      st.pkt.arg5 / 1024 = (d1.hoist (st.pkt.arg5 % 1024)).seq →
      st.pkt.burgee = (d1.hoist (st.pkt.arg5 % 1024)).burgee →
      (d1.hoist (st.pkt.arg5 % 1024)).root = true ∨ st.ing = (d1.hoist (st.pkt.arg5 % 1024)).parentPort →
      d1.net.armed = none →
      (d1.inst (st.pkt.arg5 % 1024)).joins = [] →
      (d1.inst (st.pkt.arg5 % 1024)).heldRanks = [] →
      (d1.inst (st.pkt.arg5 % 1024)).heldJoins = [] →
      Does (.hoistFailReceived pid) s fun d => (d.hoist (st.pkt.arg5 % 1024)).seq = ((d1.hoist (st.pkt.arg5 % 1024)).seq + 1) % seqMax)
  ∧ (∀ (s : State) (i : Nat) (r : HoistRel),
      (s.dev.time.releases.find? fun r => r.ent = i && decide (r.trel ≤ s.dev.now)) = some r →
      r.joins = [] →
      Does (.hoistReleaseTime i) s fun d => d.time.releases = s.dev.time.releases.erase r ∧
        (r.step.all fun b => d.time.steps.get b 0 = (s.dev.time.steps.get b 0 + 1) % 2 ^ 64) = true)
  ∧ (∀ (s : State) (i : Nat),
      (s.dev.hoist i).root = true →
      s.dev.net.armed = none →
      (s.dev.inst i).first.isSome = true →
      (s.dev.inst i).deadlineAt ≤ s.dev.now →
      (s.dev.inst i).joins = [] →
      (s.dev.inst i).heldRanks = [] →
      (s.dev.inst i).heldJoins = [] →
      Does (.hoistDeadline i) s fun d => (d.hoist i).seq = ((s.dev.hoist i).seq + 1) % seqMax)
  ∧ (∀ (s : State) (i t : Nat),
      (s.dev.hoist i).root = false →
      (s.dev.inst i).sentArrive = true →
      (s.dev.inst i).first = some t →
      t + 2 * ((s.dev.inst i).deadlineAt - t) ≤ s.dev.now →
      (s.dev.inst i).joins = [] →
      (s.dev.inst i).heldRanks = [] →
      (s.dev.inst i).heldJoins = [] →
      Does (.cutOff i) s fun d => (d.hoist i).seq = ((s.dev.hoist i).seq + 1) % seqMax ∧ d.rd R.HUB_FTSTAT_CUT_OFF = 1)

/-- A join that is not the last arrival is added and its command runs on; a slot start makes a tile launch that waited; the guard band reports an injection that is late; a new TIME word of a link that is not followed leaves its HSEQ and arrival time for the answer. -/
def Obligations.HoistCommandsSlotsAndHalyard : Prop :=
  (∀ (s : State) (aseq : Nat) (j : JEntry),
      Begun s.dev aseq 0x0901 j →
      (s.dev.hoist (j.w 4 % 1024)).v = true →
      s.dev.chRole j.chan ≠ 0 ∨ (s.dev.hoist (j.w 4 % 1024)).burgee = j.burgee →
      j.w 4 / 1024 = (s.dev.hoist (j.w 4 % 1024)).seq →
      (s.dev.inst (j.w 4 % 1024)).joins.length < (s.dev.hoist (j.w 4 % 1024)).nLocal →
      (s.dev.inst (j.w 4 % 1024)).ranks.length + (s.dev.inst (j.w 4 % 1024)).joins.length + 1 < (s.dev.hoist (j.w 4 % 1024)).nChild + (s.dev.hoist (j.w 4 % 1024)).nLocal →
      Does (.hoistJoin aseq) s fun d => (d.inst (j.w 4 % 1024)).joins = (s.dev.inst (j.w 4 % 1024)).joins ++ [.cmd aseq] ∧ Running d j)
  ∧ (∀ (s : State) (aseq : Nat) (j : JEntry),
      Begun s.dev aseq 0x0902 j →
      (s.dev.hoist (j.w 4 % 1024)).v = true →
      (s.dev.hoist (j.w 4 % 1024)).slot = true →
      (s.dev.hoist (j.w 4 % 1024)).burgee = j.burgee →
      s.dev.locked = true →
      s.dev.time.det = 2 →
      j.w 4 / 1024 = (s.dev.hoist (j.w 4 % 1024)).seq →
      (s.dev.inst (j.w 4 % 1024)).joins.length < (s.dev.hoist (j.w 4 % 1024)).nLocal →
      (s.dev.inst (j.w 4 % 1024)).ranks.length + (s.dev.inst (j.w 4 % 1024)).joins.length + 1 < (s.dev.hoist (j.w 4 % 1024)).nChild + (s.dev.hoist (j.w 4 % 1024)).nLocal →
      Does (.lockstepStart aseq) s fun d => (d.inst (j.w 4 % 1024)).joins = (s.dev.inst (j.w 4 % 1024)).joins ++ [.lock aseq (j.w 5 * 2 ^ 32 + j.w 6)] ∧ Running d j)
  ∧ (∀ (s : State) (src slot t : Nat) (l : Launch) (rest : List Launch),
      s.dev.time.det ≠ 2 ∨ s.dev.now % slotNs < guardAt →
      s.dev.slotDue = [⟨src, slot, .launch t⟩] →
      (s.dev.tile t).lq = l :: rest →
      s.dev.tileState t = tsIdle →
      Does (.slotStart) s fun d => (d.tile t).lq = rest ∧ d.tileState t = tsRunning ∧ (d.tile t).prog = some l ∧
        d.time.slotReady = s.dev.time.slotReady.erase ⟨src, slot, .launch t⟩)
  ∧ (∀ (s : State),
      s.dev.time.det = 2 →
      guardAt ≤ s.dev.now % slotNs →
      (s.dev.time.slotReady.filter fun i => decide (i.slot < s.dev.now / slotNs) && s.dev.slotLeft i.act) ≠ [] →
      Does (.slotGuardBand) s fun d => d.rd R.HUB_FTSTAT_SLOT_OVERRUN = 1)
  ∧ (∀ (s : State) (p : Nat) (w : Haly) (tagOk : Bool),
      w.htype = 3 →
      s.dev.linkState p ≠ lsDown →
      (s.dev.link p).halyLast.look 3 ≠ some w.hseq →
      s.dev.time.followed = none →
      Does (.halyardBlockReceived p [w] true tagOk) s fun d => (d.link p).timePeer = some (w.hseq, s.dev.now) ∧ (d.link p).halyLast.look 3 = some w.hseq)

/-- The quiet timer ends in NORMAL and the STRUCK window in STRUCK; FLT_CLEAR takes STRUCK to FAULT and clears the recoveries; FLT_HIST_READ answers ESEQ and the entries; a watchdog resets its scope; a lost heartbeat restarts Thidan, whose journal is settled then; the sentinel and the hardware watchdog force a DEVICE reset. -/
def Obligations.FaultStateAndWatchdogs : Prop :=
  (∀ (s : State) (aseq : Nat) (j : JEntry),
      Begun s.dev aseq 0x0601 j →
      (j.bref 4).kind = 0 →
      Does (.fltHistRead aseq) s fun d => Answered d j St.ok [s.dev.mgmt.eseq, s.dev.mgmt.hist.length, s.dev.rd R.FLT_HQLOST_LOST])
  ∧ (∀ (s : State),
      s.dev.fltState = 1 →
      s.dev.mgmt.quietAt ≤ s.dev.now →
      ((s.dev.mgmt.recov.filter fun t => decide (s.dev.now < t + s.dev.struckWinNs)) ++ [s.dev.now]).length ≤ s.dev.rd R.FLT_CFG_STRUCK_N →
      Does (.quietTimerExpiry) s fun d => d.fltState = 0 ∧ d.mgmt.recov = (s.dev.mgmt.recov.filter fun t => decide (s.dev.now < t + s.dev.struckWinNs)) ++ [s.dev.now])
  ∧ (∀ (s : State),
      s.dev.fltState = 1 →
      s.dev.mgmt.faultSince + s.dev.struckWinNs ≤ s.dev.now →
      Does (.struckWindowExpiry) s fun d => d.fltState = 2)
  ∧ (∀ (s : State) (aseq : Nat) (j : JEntry),
      Begun s.dev aseq 0x0602 j →
      s.dev.fltState = 2 →
      Does (.fltClear aseq) s fun d => Answered d j St.ok ∧ d.fltState = 1 ∧ d.mgmt.recov = [])
  ∧ (∀ (s : State) (t : Nat),
      s.dev.tileState t = tsRunning →
      (s.dev.tile t).prog.isSome = true →
      s.dev.mgmt.resets = [] →
      s.dev.modelOf t = none →
      Does (.watchdog t) s fun d => d.tileState t = tsResetting ∧ d.mgmt.resets.map (fun r => (r.level, r.target)) = [(rlTile, t)])
  ∧ (∀ (s : State) (e : Nat),
      s.dev.engineBusy e = true →
      s.dev.mgmt.resets = [] →
      Does (.engineHang e) s fun d => d.mgmt.resets.map (fun r => (r.level, r.target)) = [(rlCluster, e / 16)])
  ∧ (∀ (s : State) (q : Nat),
      (s.dev.red.running.any fun o => trigQuad o.trig = q) = true →
      s.dev.mgmt.resets = [] →
      Does (.seqHang q) s fun d => d.mgmt.resets.map (fun r => (r.level, r.target)) = [(rlCompute, 0)])
  ∧ (∀ (s : State) (q : Nat),
      s.dev.red.gateRecs.get q [] ≠ [] ∨ s.dev.red.tokenWait.get q [] ≠ [] →
      s.dev.mgmt.resets = [] →
      Does (.dispatchHang q) s fun d => d.mgmt.resets.map (fun r => (r.level, r.target)) = [(rlCompute, 0)])
  ∧ (∀ (s : State),
      s.dev.store.assembly ≠ [] ∨ s.dev.store.prog ≠ [] ∨ s.dev.store.metas ≠ [] →
      s.dev.mgmt.resets = [] →
      Does (.ctrlHang) s fun d => d.mgmt.resets.map (fun r => (r.level, r.target)) = [(rlStore, 0)])
  ∧ (∀ (s : State),
      s.dev.mgmt.thdDown = false →
      Does (.thidanHeartbeat) s fun d => d.mgmt.heartbeat = s.dev.now ∧ d.mgmt.restartAt = none)
  ∧ (∀ (s : State),
      s.dev.devReset = false →
      s.dev.mgmt.restartAt = none →
      s.dev.mgmt.thdDown = false →
      s.dev.mgmt.heartbeat + 1000000 * max 5 (s.dev.rd R.FLT_WDCFG_THD_HB_MS) ≤ s.dev.now →
      Does (.heartbeatLost) s fun d => d.mgmt.thdDown = true ∧ d.mgmt.restartAt = some s.dev.now ∧ d.rd R.THD_STAT_STATE = 3)
  ∧ (∀ (s : State) (j : JEntry),
      s.dev.mgmt.thdDown = true →
      (s.dev.mgmt.journal.filter fun j => j.phase = .begun || j.phase = .running) = [j] →
      s.dev.job? j.aseq = some j →
      rerunOps.contains j.op = false →
      j.pkt.origin = .pcie →
      j.lost = false →
      Does (.thidanRestartComplete) s fun d => Answered d j St.thdRestarted ∧ d.mgmt.thdDown = false)
  ∧ (∀ (s : State) (t : Nat),
      s.dev.mgmt.restartAt = some t →
      s.dev.devReset = false →
      t + 500000000 ≤ s.dev.now →
      s.dev.bootPhase = bpReady →
      Does (.restartFail) s fun d => d.mgmt.restartAt = none ∧ (d.mgmt.resets.any fun r => r.level = rlDevice && r.forced) = true)
  ∧ (∀ (s : State),
      Does (.sentinelKick) s fun d => d.mgmt.kick = s.dev.now)
  ∧ (∀ (s : State),
      s.dev.devReset = false →
      s.dev.mgmt.boot.held = false →
      s.dev.mgmt.kick + 50000000 ≤ s.dev.now →
      s.dev.bootPhase = bpReady →
      Does (.hwWatchdog) s fun d => d.mgmt.hwLatch = true ∧ d.mgmt.kick = s.dev.now ∧ (d.mgmt.resets.any fun r => r.level = rlDevice && r.forced) = true)

/-- A TILE reset makes its tile RESETTING with the command running on; a release takes the reset out of the list; a TILE reset that hangs escalates to its die; the forced flush drops the records not issued; JOB_ABORT aborts the context that it names. -/
def Obligations.ResetsAndAborts : Prop :=
  (∀ (s : State) (aseq t : Nat) (j : JEntry),
      Begun s.dev aseq 0x0603 j →
      bits (j.w 4) 2 0 = rlTile →
      j.w 5 = t →
      t < 64 →
      j.w 6 = 0 →
      s.dev.mgmt.resets = [] →
      s.dev.tileState t = tsIdle →
      s.dev.modelOf t = none →
      Does (.reset aseq) s fun d => d.tileState t = tsResetting ∧ Running d j ∧ d.mgmt.resets.map (fun r => (r.level, r.target, r.jobs)) = [(rlTile, t, [aseq])])
  ∧ (∀ (s : State) (aseq t : Nat) (j : JEntry),
      Begun s.dev aseq 0x0402 j →
      maskBits (j.w 4 + j.w 5 * 2 ^ 32) 64 = [t] →
      s.dev.mgmt.resets = [] →
      s.dev.tileState t = tsIdle →
      s.dev.modelOf t = none →
      Does (.tileReset aseq) s fun d => d.tileState t = tsResetting ∧ Running d j ∧ d.mgmt.resets.map (fun r => (r.level, r.target, r.jobs)) = [(rlTile, t, [aseq])])
  ∧ (∀ (s : State) (level target : Nat) (r : RunReset),
      (s.dev.mgmt.resets.find? fun r => r.level = level && r.target = target) = some r →
      level ≠ rlDevice →
      r.jobs = [] →
      r.escJobs = [] →
      Does (.resetRelease level target) s fun d => d.mgmt.resets = s.dev.mgmt.resets.erase r ∧ d.rd R.RST_STAT_LEVEL = r.level % 2 ^ 3)
  ∧ (∀ (s : State) (target : Nat) (r : RunReset),
      s.dev.mgmt.resets = [r] →
      r.level = rlTile →
      r.target = target →
      r.start + resetTimeout rlTile < s.dev.now →
      r.tiles = [target] →
      Does (.resetHung rlTile target) s fun d => d.mgmt.resets.map (fun r => (r.level, r.target)) = [(rlDie, target / 8)])
  ∧ (∀ (s : State) (r : RunReset),
      (s.dev.mgmt.resets.find? fun r => r.level = rlDevice && r.forced && !r.cleared) = some r →
      r.start + 20000000 ≤ s.dev.now →
      Does (.forcedFlushLimit) s fun d => d.net.recq = [] ∧ d.mgmt.resets = s.dev.mgmt.resets.map fun x => if x = r then { x with cleared := true } else x)
  ∧ (∀ (s : State) (aseq : Nat) (j : JEntry),
      Begun s.dev aseq 0x0604 j →
      j.w 4 ≠ 0 →
      (s.dev.ctx (j.w 4 % 65536)).state = csOpen →
      (s.dev.ctx (j.w 4 % 65536)).check = j.w 4 / 65536 →
      (s.dev.ctx (j.w 4 % 65536)).burgee = j.w 5 % 512 →
      (s.dev.ctx (j.w 4 % 65536)).slots = [] →
      (s.dev.ctx (j.w 4 % 65536)).deferred = [] →
      (s.dev.ctx (j.w 4 % 65536)).token = none →
      Does (.jobAbort aseq) s fun d => Answered d j St.ok ∧ (d.ctx (j.w 4 % 65536)).state = csAborted ∧ (d.ctx (j.w 4 % 65536)).cause = acJobAbort)

/-- COLD_RST_N holds the device as at reset; its release with every rail in range powers the always-on domain; fuses, boot ROM, discovery, HBM training and tests, known-answer runs and the test record each leave what the spec says, and DEVICE_READY ends in READY. -/
def Obligations.BringUpEvents : Prop :=
  (∀ (s : State),
      s.dev.mgmt.boot.held = true →
      (List.range numRails).all (fun r => s.dev.mgmt.boot.rails.contains r) = true →
      Does (.bringupStart) s fun d => d.mgmt.boot.held = false ∧ d.mgmt.boot.phaseAt = s.dev.now ∧ d.pdOn pdAon = true)
  ∧ (∀ (s : State),
      s.dev.store.holdup = none →
      Does (.coldResetAsserted) s fun d => d.mgmt.boot.held = true ∧ d.mgmt.journal = [] ∧ d.net = {} ∧ d.red = {} ∧ d.sram = [] ∧ d.hbm = [] ∧ d.tiles = [] ∧
        d.models = [] ∧ d.counters = [] ∧ d.mgmt.boot.rails = s.dev.mgmt.boot.rails)
  ∧ (∀ (s : State),
      s.dev.bootPhase = bpFuses →
      s.dev.mgmt.boot.held = false →
      Does (.fuseLoadComplete) s fun d => d.bootPhase = bpSecure ∧ d.mgmt.boot.phaseAt = s.dev.now ∧ d.pdOn pdHub = true)
  ∧ (∀ (s : State) (goodB : Bool),
      s.dev.bootPhase = bpSecure →
      s.dev.mgmt.boot.held = false →
      s.dev.mgmt.resets = [] →
      s.dev.sec.next = none →
      s.dev.sec.active = 0 →
      (s.dev.fwSlot 0).ok = true →
      s.dev.sec.fwArb ≤ (s.dev.fwSlot 0).svn →
      s.dev.mgmt.hwLatch = false →
      Does (.secureBootComplete true goodB) s fun d => d.bootPhase = bpDomains ∧ d.rd R.THD_STAT_STATE = 2 ∧ d.rd R.HUB_FWVER_VERSION = (s.dev.fwSlot 0).ver % 2 ^ 32)
  ∧ (∀ (s : State) (ts : List TargetInfo),
      s.dev.mgmt.boot.discover = true →
      s.dev.pdOn pdNand = true →
      s.dev.bootPhase ≠ bpDomains →
      Does (.nvsDiscoveryComplete ts) s fun d => d.mgmt.boot.discover = false ∧ (d.nvs = nsRebuilding → d.store.rebuildBy = some (s.dev.now + 2000000000)))
  ∧ (∀ (s : State) (q : Nat),
      s.dev.mgmt.boot.train.contains q = true →
      Does (.hbmTrainingComplete q) s fun d => d.mgmt.boot.train = s.dev.mgmt.boot.train.filter (fun y => y ≠ q) ∧ d.freeCtr = s.dev.freeCtr + 1)
  ∧ (∀ (s : State) (q : Nat) (march ret dist rep : List Nat),
      s.dev.mgmt.boot.hbm.contains q = true →
      s.dev.rd R.HUB_BOOT_MODE = 2 →
      ((s.dev.stack q).remap ++ march ++ ret ++ dist).eraseDups.length ≤ 1024 →
      Does (.hbmMemtestComplete q march ret dist rep) s fun d => d.mgmt.boot.hbm = s.dev.mgmt.boot.hbm.filter (fun y => y ≠ q) ∧
        (d.stack q).remap = ((s.dev.stack q).remap ++ march ++ ret ++ dist).eraseDups ∧ d.hbm.get q [] = [])
  ∧ (∀ (s : State) (blk i : Nat),
      s.dev.mgmt.boot.katReady blk i = true →
      Does (.katComplete blk i true) s fun d => d.mgmt.boot.kat = s.dev.mgmt.boot.kat.filter (fun y => y ≠ (blk, i)))
  ∧ (∀ (s : State),
      s.dev.bootPhase = bpRecord →
      s.dev.mgmt.boot.recDone = false →
      s.dev.rd R.HUB_BOOT_MODE = 1 →
      Does (.testRecordWritten) s fun d => d.mgmt.boot.recDone = true ∧ d.rd R.HUB_BOOTCFG_QS_LEFT = 8 ∧ d.rd R.HUB_BOOTCFG_QS_SLICE = 0 ∧
        d.mgmt.boot.seq = (s.dev.mgmt.boot.seq + 1) % 2 ^ 32)
  ∧ (∀ (s : State),
      s.dev.bootPhase = bpRecord →
      s.dev.mgmt.boot.recDone = true →
      s.dev.store.uncleanEvt = false →
      s.dev.mgmt.resets = [] →
      Does (.deviceReady) s fun d => d.bootPhase = bpReady ∧ d.mgmt.boot.fails = 0)
  ∧ (∀ (s : State),
      s.dev.mgmt.recNew.isSome = true →
      s.dev.nvs = nsReady →
      Does (.testRecordSync) s fun d => d.mgmt.recNew = none ∧ d.mgmt.boot.seq = (s.dev.mgmt.boot.seq + 1) % 2 ^ 32 ∧
        (d.store.recA = some d.buildRec ∨ d.store.recB = some d.buildRec))

/-- A commit whose image passes its checks writes its sections, sets CFG_DONE and the lock of SEC and completes; CANCEL disarms an armed switch; a quadrant that is empty counts as drained, and after 10 ms the commit is given up; an armed switch is made at T, drains from T, joins its hoist when empty, and cancels its pauses 1 µs after. -/
def Obligations.ConfigurationAndSwitches : Prop :=
  (∀ (s : State) (aseq : Nat) (bodies : List CfgBody) (j : JEntry) (bs : List Nat),
      Begun s.dev aseq 0x0201 j →
      bits (j.w 8) 1 0 ≠ 3 →
      s.dev.mgmt.cfgJob = none →
      (match s.dev.bufIn j (j.bref 4) with
        | .ok x => x
        | .error _ => none) = some bs →
      bits (j.w 8) 5 4 ≠ 2 →
      bits (j.w 8) 3 2 ≠ 2 →
      headerOk bs = true →
      badSection bs = none →
      imgLocal bs = true →
      s.dev.chRole j.chan = 1 →
      ((sectsOf bs bodies).all fun x => x.ty = tyTune && x.body.sets = []) = true →
      Does (.cfgCommit aseq bodies true) s fun d => Answered d j St.ok ∧ d.rd R.HUB_BOOT_CFG_DONE = 1 ∧ d.rdBit R.HUB_LOCK_LOCKED 1 = true ∧ d.mgmt.cfgLocal = sectsOf bs bodies)
  ∧ (∀ (s : State) (aseq : Nat) (j : JEntry) (a : Armed),
      Begun s.dev aseq 0x0201 j →
      bits (j.w 8) 1 0 = 3 →
      s.dev.net.armed = some a →
      a.joined = false →
      a.aseq ≠ aseq →
      Does (.cfgCommitCancel aseq) s fun d => Answered d j St.ok ∧ d.net.armed = none)
  ∧ (∀ (s : State) (q : Nat) (c : CfgJob),
      s.dev.mgmt.cfgJob = some c →
      c.relaid = false →
      c.quads.contains q = true →
      c.drained.contains q = false →
      s.dev.quadEmpty q = true →
      c.quads.all (c.drained ++ [q]).contains = false →
      Does (.quadrantRelayDrained q) s fun d => d.mgmt.cfgJob = some { c with drained := c.drained ++ [q] })
  ∧ (∀ (s : State) (c : CfgJob),
      s.dev.mgmt.cfgJob = some c →
      c.relaid = true →
      (c.sects.all fun x => x.ty = tyTune && x.body.sets = []) = true →
      c.reform = [] →
      Does (.cfgCommitDrainComplete) s fun d => d.mgmt.cfgJob = none ∧ d.rd R.HUB_BOOT_CFG_DONE = 1 ∧ d.rd R.HUB_CFGSTAT_LAST_STATUS = St.ok)
  ∧ (∀ (s : State) (c : CfgJob),
      s.dev.mgmt.cfgJob = some c →
      c.relaid = false →
      c.start + 10000000 ≤ s.dev.now →
      c.quads.all s.dev.quadEmpty = false →
      Does (.bufProfileDrainTimeout) s fun d => d.mgmt.cfgJob = none ∧ d.net.held = s.dev.net.held.filter fun q => !(c.quads.contains q))
  ∧ (∀ (s : State) (a : Armed),
      s.dev.net.armed = some a →
      a.mode = 1 →
      a.t ≤ s.dev.now →
      Does (.atTimeSwitch) s fun d => d.net.armed = none ∧ ((List.range 4).all fun q => d.bank q = (s.dev.net.banks.get q ({}, {})).2) = true ∧ d.net.masks = [])
  ∧ (∀ (s : State) (a : Armed),
      s.dev.net.armed = some a →
      a.mode = 2 →
      a.draining = false →
      a.t ≤ s.dev.now →
      Does (.drainStart) s fun d => d.net.armed = some { a with draining := true })
  ∧ (∀ (s : State) (a : Armed),
      s.dev.net.armed = some a →
      a.draining = true →
      a.joined = false →
      s.dev.dataEmpty = true →
      (s.dev.hoist (a.hoist % 1024)).v = true →
      a.hoist / 1024 = (s.dev.hoist (a.hoist % 1024)).seq →
      (s.dev.inst (a.hoist % 1024)).joins.length < (s.dev.hoist (a.hoist % 1024)).nLocal →
      (s.dev.inst (a.hoist % 1024)).ranks.length + (s.dev.inst (a.hoist % 1024)).joins.length + 1 < (s.dev.hoist (a.hoist % 1024)).nChild + (s.dev.hoist (a.hoist % 1024)).nLocal →
      Does (.drainComplete) s fun d => d.net.armed = some { a with joined := true } ∧ (d.inst (a.hoist % 1024)).joins = (s.dev.inst (a.hoist % 1024)).joins ++ [.drain])
  ∧ (∀ (s : State) (t : Nat),
      s.dev.net.drainUnpause = some t →
      t ≤ s.dev.now →
      Does (.drainPauseCancel) s fun d => d.net.drainUnpause = none)

/-- TEL_READ gives the entry of every counter of its list; SNAP_ARM arms a set, T takes it and SNAP_READ gives its entries and frees it; TAG_SET writes TEL.TAGCFG and the key; HIST gives a root's histogram; SAMPLE_SET names what is sampled; SAMPLE_READ and TRACE_READ give records from a SEQ on. -/
def Obligations.CountersSnapshotsAndTags : Prop :=
  (∀ (s : State) (aseq : Nat) (j : JEntry) (bs : List Nat),
      Begun s.dev aseq 0x0701 j →
      j.w 4 % 16 = 0 →
      bitOf 15 (s.dev.chRole j.chan) = true →
      0 < bits (j.w 5) 10 0 →
      bits (j.w 5) 10 0 ≤ 1024 →
      (j.bref 6).kind = 1 →
      s.dev.chIntf j.chan = 0 →
      j.buf = some bs →
      4 * bits (j.w 5) 10 0 ≤ (bs.take (j.bref 6).len).length →
      (j.bref 10).kind = 0 ∨ ((j.bref 10).kind = 1 ∧ s.dev.chIntf j.chan = 0) →
      Does (.telRead aseq) s fun d => (let ids := leWords (bs.take (j.bref 6).len) (bits (j.w 5) 10 0)
        let es := ids.map fun id => counterEntry id (s.dev.readCounter id (s.dev.tenantOf j) s.dev.now)
        let bytes := (es.flatMap fun e => e.flatMap (bytesLE 4)).take (j.bref 10).len
        ((j.bref 10).kind = 0 → Answered d j St.ok []) ∧
        ((j.bref 10).kind = 1 → Out.host (j.bref 10).addr bytes ∈ d.out ∧ Running d j)))
  ∧ (∀ (s : State) (aseq : Nat) (j : JEntry) (bs : List Nat),
      Begun s.dev aseq 0x0701 j →
      j.w 4 % 16 = 1 →
      bitOf 15 (s.dev.chRole j.chan) = true →
      0 < bits (j.w 6) 8 0 →
      bits (j.w 6) 8 0 ≤ 256 →
      (j.bref 7).kind = 1 →
      s.dev.chIntf j.chan = 0 →
      j.buf = some bs →
      4 * bits (j.w 6) 8 0 ≤ (bs.take (j.bref 7).len).length →
      (s.dev.snap (j.w 5 % 4)).state = 0 →
      s.dev.now + 10000 ≤ j.w 11 * 2 ^ 32 + j.w 12 →
      Does (.snapArm aseq) s fun d => Answered d j St.ok ∧ (d.snap (j.w 5 % 4)).state = 1 ∧ (d.snap (j.w 5 % 4)).t = j.w 11 * 2 ^ 32 + j.w 12 ∧
        (d.snap (j.w 5 % 4)).ids = leWords (bs.take (j.bref 7).len) (bits (j.w 6) 8 0))
  ∧ (∀ (s : State) (i : Nat),
      (s.dev.snap i).state = 1 →
      (s.dev.snap i).t ≤ s.dev.now →
      Does (.snapshotTime i) s fun d => (d.snap i).state = 2 ∧ (d.snap i).taken = (s.dev.snap i).ids.map fun id =>
        counterEntry id (s.dev.readCounter id ((s.dev.snap i).tenant.map fun b => (b, (s.dev.snap i).chan)) (s.dev.snap i).t))
  ∧ (∀ (s : State) (aseq : Nat) (j : JEntry),
      Begun s.dev aseq 0x0701 j →
      j.w 4 % 16 = 2 →
      bitOf 15 (s.dev.chRole j.chan) = true →
      (s.dev.snap (j.w 5 % 4)).state = 2 →
      (j.bref 6).kind = 0 ∨ ((j.bref 6).kind = 1 ∧ s.dev.chIntf j.chan = 0) →
      Does (.snapRead aseq) s fun d => (let bytes := ((s.dev.snap (j.w 5 % 4)).taken.flatMap fun e => e.flatMap (bytesLE 4)).take (j.bref 6).len
        ((j.bref 6).kind = 0 → Answered d j St.ok [2]) ∧
        ((j.bref 6).kind = 1 → Out.host (j.bref 6).addr bytes ∈ d.out ∧ Running d j)) ∧
        d.snap (j.w 5 % 4) = if bitOf (j.w 10) 0 then {} else s.dev.snap (j.w 5 % 4))
  ∧ (∀ (s : State) (aseq : Nat) (j : JEntry),
      Begun s.dev aseq 0x0701 j →
      j.w 4 % 16 = 3 →
      bitOf 6 (s.dev.chRole j.chan) = true →
      Does (.tagSet aseq) s fun d => Answered d j St.ok ∧ d.rd R.TEL_TAGCFG_PKT_LOG2 = bits (j.w 5) 4 0 ∧
        d.rd R.TEL_TAGCFG_INS_LOG2 = bits (j.w 5) 9 5 ∧
        (12 ≤ bits (j.w 5) 14 10 → bits (j.w 5) 14 10 ≤ 22 → d.rd R.TEL_TAGCFG_TRACE_LOG2 = bits (j.w 5) 14 10) ∧
        d.tel.tagKey = j.w 6 * 2 ^ 32 + j.w 7)
  ∧ (∀ (s : State) (aseq : Nat) (j : JEntry),
      Begun s.dev aseq 0x0701 j →
      j.w 4 % 16 = 4 →
      bitOf 15 (s.dev.chRole j.chan) = true →
      s.dev.cmdReach j (s.dev.ctx (j.w 5 % 65536)).burgee = true →
      (s.dev.ctx (j.w 5 % 65536)).state = csOpen →
      (s.dev.ctx (j.w 5 % 65536)).root = true →
      (s.dev.ctx (j.w 5 % 65536)).hist.length = 64 →
      (j.bref 6).kind = 0 ∨ ((j.bref 6).kind = 1 ∧ s.dev.chIntf j.chan = 0) →
      Does (.hist aseq) s fun d => (let bytes := ((s.dev.ctx (j.w 5 % 65536)).hist.flatMap (bytesLE 4)).take (j.bref 6).len
        ((j.bref 6).kind = 0 → Answered d j St.ok []) ∧
        ((j.bref 6).kind = 1 → Out.host (j.bref 6).addr bytes ∈ d.out ∧ Running d j)))
  ∧ (∀ (s : State) (aseq : Nat) (j : JEntry),
      Begun s.dev aseq 0x0701 j →
      j.w 4 % 16 = 5 →
      bitOf 6 (s.dev.chRole j.chan) = true →
      12 ≤ bits (j.w 21) 12 8 →
      bits (j.w 21) 12 8 ≤ 22 →
      ([0, 1, 2, 3].all fun q => decide (s.dev.buntUsed q none + 16 * 2 ^ bits (j.w 21) 12 8 ≤ s.dev.buntArea q)) = true →
      Does (.sampleSet aseq) s fun d => Answered d j St.ok ∧ d.tel.samplePorts = (List.range 512).filter (fun p => bitOf (j.w (5 + p / 32)) (p % 32)) ∧
        d.tel.sampleAttach = bitOf (j.w 21) 0 ∧ d.tel.sampleLog2 = bits (j.w 21) 12 8)
  ∧ (∀ (s : State) (aseq : Nat) (j : JEntry),
      Begun s.dev aseq 0x0701 j →
      j.w 4 % 16 = 6 →
      bitOf 14 (s.dev.chRole j.chan) = true →
      (j.bref 7).kind = 0 ∨ ((j.bref 7).kind = 1 ∧ s.dev.chIntf j.chan = 0) →
      Does (.sampleRead aseq) s fun d => (let bytes := (((s.dev.tel.sampleRing.get (j.w 5 % 4) []).filter (fun e => decide (0 ≤ serialDiff (2 ^ 32) (nth e 3) (j.w 6)))).take
          (min (j.w 11) ((j.bref 7).len / 16)) |>.flatMap fun e => e.flatMap (bytesLE 4)).take (j.bref 7).len
        ((j.bref 7).kind = 0 → Answered d j St.ok []) ∧
        ((j.bref 7).kind = 1 → Out.host (j.bref 7).addr bytes ∈ d.out ∧ Running d j)))
  ∧ (∀ (s : State) (aseq : Nat) (j : JEntry),
      Begun s.dev aseq 0x0701 j →
      j.w 4 % 16 = 7 →
      bitOf 14 (s.dev.chRole j.chan) = true →
      (j.bref 7).kind = 0 ∨ ((j.bref 7).kind = 1 ∧ s.dev.chIntf j.chan = 0) →
      Does (.traceRead aseq) s fun d => (let bytes := (((s.dev.tel.trace.get (j.w 5 % 4) []).filter (fun e => decide (0 ≤ serialDiff (2 ^ 32) (nth e 14) (j.w 6)))).take
          (min (j.w 11) ((j.bref 7).len / 64)) |>.flatMap fun e => e.flatMap (bytesLE 4)).take (j.bref 7).len
        ((j.bref 7).kind = 0 → Answered d j St.ok []) ∧
        ((j.bref 7).kind = 1 → Out.host (j.bref 7).addr bytes ∈ d.out ∧ Running d j)))

/-- BUNTING_SET gives a formed port a ring of the settings it names; ARM empties it, FREEZE freezes it at once or after FREEZE_AFTER entries, READ gives its entries oldest first and FREE drops it; MIRROR_SET writes session n, and its copies start again from none. -/
def Obligations.BuntingRingsAndMirrors : Prop :=
  (∀ (s : State) (aseq p : Nat) (j : JEntry),
      Begun s.dev aseq 0x0703 j →
      j.w 4 % 16 = 0 →
      bits (j.w 4) 24 16 = p →
      10 ≤ bits (j.w 5) 4 0 →
      bits (j.w 5) 4 0 ≤ 20 →
      bits (j.w 5) 7 6 ≠ 0 →
      s.dev.formed p = true →
      s.dev.buntUsed (p / 128) (some p) + sampleBytes s.dev.tel.samplePorts s.dev.tel.sampleAttach s.dev.tel.sampleLog2 (p / 128) +
        64 * 2 ^ bits (j.w 5) 4 0 ≤ s.dev.buntArea (p / 128) →
      Does (.buntingSet aseq) s fun d => Answered d j St.ok ∧ d.tel.bunting.look p = some { log2 := bits (j.w 5) 4 0, freeze := bitOf (j.w 5) 5, dir := bits (j.w 5) 7 6, vcmask := bits (j.w 5) 15 8, haly := bitOf (j.w 5) 16, linkCh := bitOf (j.w 5) 17, freezeAfter := bits (j.w 5) 31 20 })
  ∧ (∀ (s : State) (aseq p : Nat) (j : JEntry) (r : BuntRing),
      Begun s.dev aseq 0x0703 j →
      j.w 4 % 16 = 1 →
      bits (j.w 4) 24 16 = p →
      s.dev.tel.bunting.look p = some r →
      Does (.buntingArm aseq) s fun d => Answered d j St.ok ∧ d.tel.bunting.look p = some { r with entries := [], gap := 0, leftAfter := none, frozen := false })
  ∧ (∀ (s : State) (aseq p : Nat) (j : JEntry) (r : BuntRing),
      Begun s.dev aseq 0x0703 j →
      j.w 4 % 16 = 2 →
      bits (j.w 4) 24 16 = p →
      s.dev.tel.bunting.look p = some r →
      Does (.buntingFreeze aseq) s fun d => Answered d j St.ok ∧ (r.leftAfter = none → r.frozen = false →
          d.tel.bunting.look p = some (if r.freeze && r.freezeAfter != 0 then { r with leftAfter := some r.freezeAfter }
            else { r with leftAfter := some 0, frozen := true })))
  ∧ (∀ (s : State) (aseq p : Nat) (j : JEntry) (r : BuntRing),
      Begun s.dev aseq 0x0703 j →
      j.w 4 % 16 = 3 →
      bits (j.w 4) 24 16 = p →
      s.dev.tel.bunting.look p = some r →
      (j.bref 5).kind = 0 ∨ ((j.bref 5).kind = 1 ∧ s.dev.chIntf j.chan = 0) →
      Does (.buntingRead aseq) s fun d => (let es := r.entries.take (min (j.w 9) ((j.bref 5).len / 64))
        let bytes := (es.flatMap fun e => e.flatMap (bytesLE 4)).take (j.bref 5).len
        ((j.bref 5).kind = 0 → Answered d j St.ok [es.length, 0]) ∧
        ((j.bref 5).kind = 1 → Out.host (j.bref 5).addr bytes ∈ d.out ∧ Running d j)))
  ∧ (∀ (s : State) (aseq p : Nat) (j : JEntry),
      Begun s.dev aseq 0x0703 j →
      j.w 4 % 16 = 4 →
      bits (j.w 4) 24 16 = p →
      Does (.buntingFree aseq) s fun d => Answered d j St.ok ∧ d.tel.bunting.look p = none)
  ∧ (∀ (s : State) (aseq : Nat) (j : JEntry),
      Begun s.dev aseq 0x0702 j →
      (mirrorOf j).en = true → 0 < (mirrorOf j).trunc ∧ (mirrorOf j).trunc ≤ 1023 →
      (mirrorOf j).en = true → (mirrorOf j).remote = false → s.dev.formed (mirrorOf j).aport = true ∧
        (s.dev.enforced ((mirrorOf j).aport / 128) && (s.dev.attr ((mirrorOf j).aport / 128) (mirrorOf j).aport).edge) = false →
      Does (.mirrorSet aseq) s fun d => Answered d j St.ok ∧ d.tel.mirrors.look (j.w 4 % 16) = some (mirrorOf j))

/-- A rail that comes into range is counted as present; an undervoltage and PWRFAIL_N start the power-fail sequence, which HOLDUP_DONE ends; the losses and returns of the reference clocks set the OK and LOST_SEEN bits and the counter's source. -/
def Obligations.SupplyAndClockEvents : Prop :=
  (∀ (s : State) (r : Nat),
      r < numRails →
      s.dev.mgmt.boot.rails.contains r = false →
      Does (.railInRange r) s fun d => d.mgmt.boot.rails = s.dev.mgmt.boot.rails ++ [r] ∧
        d.rd R.PWR_RAILMON_VHUB_OK = b2n ((s.dev.mgmt.boot.rails ++ [r]).contains 24))
  ∧ (∀ (s : State) (r : Nat),
      s.dev.mgmt.boot.rails.contains r = true →
      s.dev.mgmt.boot.held = false →
      s.dev.on R.PWR_RAILMON_PFAIL_PIN = false →
      Does (.railUndervoltage r) s fun d => d.mgmt.boot.rails.contains r = false ∧ d.store.holdup.isSome = true ∧
        d.rd R.PWR_RAILMON_UV_SEEN = 1 ∧ d.rd R.PWR_IPEND_UV = 1)
  ∧ (∀ (s : State),
      s.dev.on R.PWR_RAILMON_PFAIL_PIN = false →
      s.dev.mgmt.boot.held = false →
      s.dev.store.holdup = none →
      s.dev.nvs ≠ nsAbsent →
      Does (.pwrfailAsserted) s fun d => d.store.holdup = some s.dev.now ∧ d.rd R.NVS_STAT_STATE = nsPowerFail)
  ∧ (∀ (s : State) (t : Nat),
      s.dev.store.holdup = some t →
      s.dev.store.prog = [] ∨ t + 2500000 ≤ s.dev.now →
      s.dev.mgmt.boot.cold = false →
      Does (.holdupDone) s fun d => d.store.holdup = none ∧ d.store.prog = [] ∧ d.rd R.NVS_STAT_HOLDUP_DONE = 1)
  ∧ (∀ (s : State),
      Does (.pwrfailDeasserted) s fun d => d = s.dev.wr R.PWR_RAILMON_PFAIL_PIN 0)
  ∧ (∀ (s : State),
      s.dev.on R.PWR_CLKSTAT_FT_OK = true →
      Does (.refclkLoss 1) s fun d => d.rd R.PWR_CLKSTAT_FT_OK = 0 ∧ d.rd R.PWR_CLKSTAT_FT_LOST_SEEN = 1 ∧ d.rd R.PWR_IPEND_CLK_LOST = 1)
  ∧ (∀ (s : State),
      Does (.refclkFtReturn) s fun d => d.rd R.PWR_CLKSTAT_FT_OK = 1 ∧ d.rd R.PWR_CLKSTAT_FT_SRC = 0)
  ∧ (∀ (s : State),
      Does (.refclkReturn 0) s fun d => d.rd R.PWR_CLKSTAT_PHY_OK = 1 ∧ d.rd R.PWR_CLKSTAT_FT_SRC ≠ 2)

/-- A challenge stands for 10 s and a good response to it authorises the channel; the audit log is read; a legal setting takes the next change slot, burned and then made valid; a counter moves up to 64; a key enters or leaves its slot of the key store. -/
def Obligations.OwnerKeysAndFuses : Prop :=
  (∀ (s : State) (aseq : Nat) (j : JEntry),
      Begun s.dev aseq 0x0801 j →
      j.w 4 % 16 = 0 →
      Does (.ownerAuthChallenge aseq) s fun d => Answered d j St.ok ((List.range 12).map fun k => Config.freeValue (s.dev.freeCtr + k) % 2 ^ 32) ∧
        (d.chan j.chan).challenge = some (s.dev.freeCtr, s.dev.now + 10000000000))
  ∧ (∀ (s : State) (aseq n t : Nat) (j : JEntry) (bs : List Nat),
      Begun s.dev aseq 0x0801 j →
      j.w 4 % 16 = 1 →
      (j.bref 5).kind = 1 →
      s.dev.chIntf j.chan = 0 →
      j.buf = some bs →
      193 ≤ (bs.take (j.bref 5).len).length →
      (s.dev.chan j.chan).challenge = some (n, t) →
      s.dev.now ≤ t →
      s.dev.ownerSet = false ∨ (sha384 (bs.take 97)).flatMap (bytesBE 4) = s.dev.inForce 3 →
      Does (.ownerAuthResponse aseq true) s fun d => Answered d j St.ok ∧ (d.chan j.chan).auth = true)
  ∧ (∀ (s : State) (aseq : Nat) (j : JEntry) (bs : List Nat),
      Begun s.dev aseq 0x0801 j →
      j.w 4 % 16 = 1 →
      (j.bref 5).kind = 1 →
      s.dev.chIntf j.chan = 0 →
      j.buf = some bs →
      Does (.ownerAuthResponse aseq false) s fun d => Answered d j St.ownerAuthFail ∧ d.rd R.SEC_ERR_OWNER_FAIL = 1)
  ∧ (∀ (s : State) (aseq : Nat) (j : JEntry),
      Begun s.dev aseq 0x0801 j →
      j.w 4 % 16 = 2 →
      (j.bref 5).kind = 0 ∨ ((j.bref 5).kind = 1 ∧ s.dev.chIntf j.chan = 0) →
      Does (.ownerAuthAuditRead aseq) s fun d => (let bytes := (((List.range 64).flatMap fun k => s.dev.sec.audit.get k (List.replicate 8 0)).flatMap (bytesLE 4)).take (j.bref 5).len
        ((j.bref 5).kind = 0 → Answered d j St.ok []) ∧
        ((j.bref 5).kind = 1 → Out.host (j.bref 5).addr bytes ∈ d.out ∧ Running d j)))
  ∧ (∀ (s : State) (aseq i : Nat) (j : JEntry) (bs : List Nat),
      Begun s.dev aseq 0x0802 j →
      j.w 4 % 4 = i →
      (j.bref 5).kind = 1 →
      s.dev.chIntf j.chan = 0 →
      j.buf = some bs →
      (s.dev.sec.changes.get i []).length < 8 →
      s.dev.settingOk i (bs.take (j.bref 5).len) = true →
      Does (.fuseWrite aseq) s fun d => Running d j ∧ d.sec.changes.get i [] = s.dev.sec.changes.get i [] ++ [{ value := bs.take (j.bref 5).len, valid := false }] ∧
        d.sec.burn = some { aseq := aseq, setting := i, slot := (s.dev.sec.changes.get i []).length })
  ∧ (∀ (s : State) (b : Burn) (j : JEntry),
      s.dev.sec.burn = some b →
      s.dev.job? b.aseq = some j →
      j.pkt.origin = .pcie →
      j.lost = false →
      Does (.fuseBurnComplete) s fun d => Answered d j St.ok ∧ d.sec.burn = none ∧
        d.sec.changes.get b.setting [] = validate (s.dev.sec.changes.get b.setting []) b.slot)
  ∧ (∀ (s : State) (aseq v : Nat) (j : JEntry),
      Begun s.dev aseq 0x0803 j →
      j.w 5 % 128 = v →
      (if j.w 4 % 2 = 0 then s.dev.sec.fwArb else s.dev.sec.keysArb) < v →
      v ≤ 64 →
      j.w 4 % 2 = 0 → v ≤ s.dev.rd R.SEC_STAT_SVN →
      (s.dev.sec.audit.filter fun e => 32 ≤ e.1).length < 32 →
      Does (.arbAdvance aseq) s fun d => Answered d j St.ok ∧ (if j.w 4 % 2 = 0 then d.sec.fwArb = v ∧ d.sec.keysArb = s.dev.sec.keysArb
        else d.sec.keysArb = v ∧ d.sec.fwArb = s.dev.sec.fwArb))
  ∧ (∀ (s : State) (aseq k : Nat) (sig : Bool) (j : JEntry) (bs : List Nat),
      Begun s.dev aseq 0x0804 j →
      bits (j.w 4) 7 0 = k →
      bitOf (j.w 4) 8 = false →
      (j.bref 6).kind = 1 →
      s.dev.chIntf j.chan = 0 →
      j.buf = some bs →
      keySlotOk k = true →
      s.dev.chRole j.chan ≠ 2 ∨ 2 ≤ k →
      97 ≤ (bs.take (j.bref 6).len).length →
      Does (.keyInstall aseq sig) s fun d => Answered d j St.ok ∧ d.keyStore.look k = some { burgee := j.w 5 % 512, key := (bs.take (j.bref 6).len).take 97 })
  ∧ (∀ (s : State) (aseq k : Nat) (j : JEntry),
      Begun s.dev aseq 0x0804 j →
      bits (j.w 4) 7 0 = k →
      bitOf (j.w 4) 8 = true →
      (j.bref 6).kind = 0 →
      keySlotOk k = true →
      s.dev.chRole j.chan ≠ 2 ∨ 2 ≤ k →
      Does (.keyInstall aseq false) s fun d => Answered d j St.ok ∧ d.keyStore.look k = none)

/-- FW_STAGE writes a piece into the inactive slot and answers its check on the last; FW_ACTIVATE names that slot; 60 s without a transfer end the session; PLDM and MCTP control messages are answered on their binding; a JTAG instruction is in force, a locked debug one as BYPASS. -/
def Obligations.FirmwareSlotsAndStaging : Prop :=
  (∀ (s : State) (aseq : Nat) (c : FwCheck) (j : JEntry) (bs : List Nat),
      Begun s.dev aseq 0x0805 j →
      (j.bref 4).kind = 1 →
      s.dev.chIntf j.chan = 0 →
      j.buf = some bs →
      s.dev.stagedBy true = false →
      j.w 8 % 4096 = 0 →
      Does (.fwStage aseq c) s fun d => Answered d j (if bitOf (j.w 9) 0 then s.dev.fwStatus c else St.ok) ∧ d.sec.staging = some (false, s.dev.now) ∧
        (d.fwSlot s.dev.inactive).ok = (bitOf (j.w 9) 0 && s.dev.fwStatus c == St.ok))
  ∧ (∀ (s : State) (aseq : Nat) (j : JEntry),
      Begun s.dev aseq 0x0806 j →
      (s.dev.fwSlot s.dev.inactive).ok = true →
      bitOf (j.w 4) 0 = false →
      Does (.fwActivate aseq) s fun d => Answered d j St.ok ∧ d.sec.next = some s.dev.inactive ∧ d.sec.staging = none)
  ∧ (∀ (s : State) (b : Bool) (t : Nat),
      s.dev.sec.staging = some (b, t) →
      t + 60000000000 ≤ s.dev.now →
      Does (.stagingSessionTimeout) s fun d => d.sec.staging = none ∧ d.rd R.SEC_STAT_STAGING = 0)
  ∧ (∀ (s : State) (intf eid mtag e : Nat),
      s.dev.bootPhase ≠ bpFuses →
      s.dev.bootPhase ≠ bpFailed →
      Does (.pldmMessage intf eid mtag (.setEventReceiver e)) s fun d => d.sec.receiver = (if e = 0 then none else some (intf, e)) ∧ Out.mctp intf eid mtag 1 [pldmOk] ∈ d.out)
  ∧ (∀ (s : State) (intf eid mtag : Nat),
      s.dev.bootPhase ≠ bpFuses →
      s.dev.sec.staging = none →
      Does (.pldmMessage intf eid mtag .requestUpdate) s fun d => d.sec.staging = some (true, s.dev.now) ∧ Out.mctp intf eid mtag 1 [pldmOk, 0] ∈ d.out)
  ∧ (∀ (s : State) (intf eid mtag i v : Nat),
      s.dev.bootPhase ≠ bpFuses →
      s.dev.bootPhase ≠ bpFailed →
      s.dev.sensorVal i = some v →
      Does (.pldmMessage intf eid mtag (.sensor i)) s fun d => Out.mctp intf eid mtag 1 [i, pldmOk, v] ∈ d.out)
  ∧ (∀ (s : State) (intf eid mtag : Nat) (m : MctpCtl),
      s.dev.bootPhase ≠ bpFuses →
      Does (.mctpControlMessage intf eid mtag m) s fun d => (∀ e, m = .setEid e → e ≠ 0 → e ≠ 255 → d.sec.eids.get intf 0 = e ∧ Out.mctp intf eid mtag 0 [1, 0, e] ∈ d.out) ∧
        (m = .getEid → Out.mctp intf eid mtag 0 [2, 0, s.dev.sec.eids.get intf 0] ∈ d.out))
  ∧ (∀ (s : State) (m : JtagOp),
      Does (.jtagInstruction m) s fun d => d.sec.tapIr = (match m with
        | .debug n => if s.dev.debugUnlocked then 16 + n else 0
        | _ => jtagNum m))
  ∧ (∀ (s : State),
      Does (.jtagInstruction .idcode) s fun d => Out.jtag [s.dev.idcode] ∈ d.out)
  ∧ (∀ (s : State),
      s.dev.sec.debugChal.isSome = true →
      Does (.jtagInstruction (.unlock true)) s fun d => d.sec.debugOpen = true ∧ d.sec.debugChal = none ∧ d.rd R.SEC_STAT_DEBUG_OPEN = 1)

/-- LINK_ADMIT admits a link whose peer is attested where it can be, or revokes it and forgets the peer; an exchange without a fault makes the attestation succeed; an SPDM request over MCTP gets its response; 20 ms without success fail it and it is retried after 1 s. -/
def Obligations.PeerAttestationAndAdmission : Prop :=
  (∀ (s : State) (aseq p : Nat) (j : JEntry),
      Begun s.dev aseq 0x0203 j →
      j.w 4 % 512 = p →
      s.dev.formed p = true →
      bitOf (j.w 4) 9 = true →
      s.dev.linkState p = lsUp →
      s.dev.attestable p = false ∨ (s.dev.link p).attState = 2 →
      s.dev.cryptReq p = false ∨ bitOf (s.dev.link p).peerCaps 2 = true →
      Does (.linkAdmit aseq) s fun d => Answered d j St.ok ∧ d.admitted p = true)
  ∧ (∀ (s : State) (aseq p : Nat) (j : JEntry),
      Begun s.dev aseq 0x0203 j →
      j.w 4 % 512 = p →
      s.dev.formed p = true →
      bitOf (j.w 4) 9 = false →
      Does (.linkAdmit aseq) s fun d => Answered d j St.ok ∧ d.sec.known.look p = none)
  ∧ (∀ (s : State) (intf eid mtag : Nat) (m : SpdmMsg),
      s.dev.bootPhase ≠ bpFuses →
      m.secured = true → s.dev.sec.spdm.get (intf, eid) 0 ≠ 0 ∧ s.dev.bootPhase ≠ bpFailed →
      spdmRequests.contains m.code = true →
      m.code = 0xE8 → m.secured = true →
      Does (.spdmMessageReceived (.mctp intf eid mtag) m) s fun d => d.sec.spdm.get (intf, eid) 0 = sessionAfter (s.dev.sec.spdm.get (intf, eid) 0) m.code ∧
        Out.mctp intf eid mtag (if m.secured then 6 else 5) [m.code - 0x80, s.dev.free % 2 ^ 32] ∈ d.out)
  ∧ (∀ (s : State) (pid : Nat) (m : SpdmMsg) (r : AttResult) (st : Stored) (d1 : Dev),
      s.dev.takeHub pid (fun k => k.pclass = 1 && (k.typ = 2 || k.typ = 3) && k.opcode = 0x10) = some (st, d1) →
      isPort st.ing = true →
      d1.linkState st.ing = lsUp →
      m.secured = true ∨ nth st.pkt.payload 1 = m.code →
      m.att = some r →
      (d1.link st.ing).attState = 1 →
      (d1.requester st.ing).2 = false →
      d1.attFault st.ing r = 0 →
      Does (.spdmMessageReceived (.vc7 pid) m) s fun d => (d.link st.ing).attState = 2 ∧ (d.link st.ing).digest = r.digest)
  ∧ (∀ (s : State) (p : Nat),
      (s.dev.link p).attState = 1 →
      (s.dev.link p).attAt ≤ s.dev.now →
      s.dev.linkState p = lsUp ∨ s.dev.linkState p = lsResync →
      Does (.attestationTimeout p) s fun d => (d.link p).attState = 3 ∧ (d.link p).attNext = s.dev.now + 1000000000 ∧ d.rd R.SEC_ERR_ATTEST_FAIL = 1)
  ∧ (∀ (s : State) (p : Nat),
      (s.dev.link p).attState = 3 →
      (s.dev.link p).attNext ≤ s.dev.now →
      s.dev.linkState p = lsUp →
      Does (.attestationRetry p) s fun d => (d.link p).attState = 1 ∧ (d.link p).attAt = s.dev.now + 20000000)

/-- A 4-byte write to a register that only stores leaves each of its fields as R9 gives its access code; a write after the lock leaves RWL fields alone and sets HUB.LOCKDISC; partial and unmapped accesses and those to a domain that is off set their bit of HUB.ERR, and change no register of their own; a cleared HUB.ERR frees HUB.ERRADDR. -/
def Obligations.RegisterWrites : Prop :=
  (∀ (s : State) (off w0 w1 inst k : Nat) (r : RegRow),
      s.dev.barOn 0 = true →
      off % 4 = 0 →
      isPba 0 off = false →
      isMsix 0 off = false →
      pfReg off = some (r, inst, k) →
      s.dev.pdOn (regPd r inst) = true →
      stores r = true →
      takesWrite r k = true →
      s.dev.blkLocked r.blk = false →
      Does (.registerWrite 0 off 4 true w0 w1) s fun d => ∀ f ∈ r.flds, d.rd f inst k = written f (s.dev.rd f inst k) (w0 / 2 ^ f.lo % 2 ^ f.w))
  ∧ (∀ (s : State) (off w0 w1 inst k : Nat) (r : RegRow) (n : Nat),
      s.dev.barOn 0 = true →
      off % 4 = 0 →
      isPba 0 off = false →
      isMsix 0 off = false →
      pfReg off = some (r, inst, k) →
      s.dev.pdOn (regPd r inst) = true →
      stores r = true →
      takesWrite r k = true →
      s.dev.blkLocked r.blk = true →
      lockBit r.blk = some n →
      (r.flds.any fun f => f.acc = .rwl) = true →
      Does (.registerWrite 0 off 4 true w0 w1) s fun d => d.rdBit R.HUB_LOCKDISC_DISC n = true ∧ ∀ f ∈ r.flds, f.acc = .rwl → d.rd f inst k = s.dev.rd f inst k)
  ∧ (∀ (s : State) (off len w0 w1 : Nat) (whole : Bool),
      s.dev.barOn 0 = true →
      0 < len →
      off % 4 + len ≤ 4 →
      len ≠ 4 ∨ whole = false →
      Does (.registerWrite 0 off len whole w0 w1) s fun d => d.rd R.HUB_ERR_PARTIAL_WR = 1 ∧ d.rd R.HUB_ERRADDR_VALID = 1)
  ∧ (∀ (s : State) (off w0 w1 : Nat),
      s.dev.barOn 0 = true →
      off % 4 = 0 →
      isPba 0 off = false →
      isMsix 0 off = false →
      (pfReg off).isNone = true →
      Does (.registerWrite 0 off 4 true w0 w1) s fun d => d.rd R.HUB_ERR_UNMAPPED = 1 ∧ d.rd R.HUB_ERRADDR_VALID = 1 ∧
        (s.dev.on R.HUB_ERRADDR_VALID = false → d.rd R.HUB_ERRADDR_OFFSET = off % 2 ^ 26))
  ∧ (∀ (s : State) (off w0 w1 inst k : Nat) (r : RegRow),
      s.dev.barOn 0 = true →
      off % 4 = 0 →
      isPba 0 off = false →
      isMsix 0 off = false →
      pfReg off = some (r, inst, k) →
      s.dev.pdOn (regPd r inst) = false →
      Does (.registerWrite 0 off 4 true w0 w1) s fun d => d.rd R.HUB_ERR_OFF_ACCESS = 1 ∧ d.rd R.HUB_ERRADDR_VALID = 1)
  ∧ (∀ (s : State) (off w0 w1 : Nat),
      s.dev.barOn 0 = true →
      off % 4 = 0 →
      isPba 0 off = false →
      isMsix 0 off = true →
      Does (.registerWrite 0 off 4 true w0 w1) s fun d => d.mgmt.msix.look (0, off / 4) = some w0)
  ∧ (∀ (s : State) (w0 w1 : Nat),
      s.dev.barOn 0 = true →
      w0 % 8 = 7 →
      Does (.registerWrite 0 0x2C 4 true w0 w1) s fun d => d.rd R.HUB_ERR_UNMAPPED = 0 ∧ d.rd R.HUB_ERR_PARTIAL_WR = 0 ∧ d.rd R.HUB_ERR_OFF_ACCESS = 0 ∧ d.rd R.HUB_ERRADDR_VALID = 0)

/-- A read of a low word latches its companions as the same access reads them; a 1 written to OE.LCTL.RETRAIN retrains an ACTIVE lane of a port with another in service, to HBM.CTL.RETRAIN begins the sequence of R378; a cleared bit of TILE.ERR drops its record. -/
def Obligations.LatchingReadsAndRegisterCommands : Prop :=
  (∀ (s : State),
      s.dev.barOn 0 = true →
      Does (.hubFtimeLoRead) s fun d => d.rd R.HUB_FTIME_HI_T_HI = s.dev.now / 2 ^ 32 % 2 ^ 32 ∧ Out.regRead 0x100 (s.dev.now % 2 ^ 32) ∈ d.out)
  ∧ (∀ (s : State) (n : Nat),
      s.dev.barOn 0 = true →
      s.dev.time.steps.get (s.dev.rd R.HUB_STEPACC_BURGEE) 0 = n →
      Does (.hubSteploRead) s fun d => d.rd R.HUB_STEPHI_STEP_HI = n / 2 ^ 32 % 2 ^ 32 ∧ Out.regRead 0x11C (n % 2 ^ 32) ∈ d.out)
  ∧ (∀ (s : State) (r : Nat × Nat × Nat × Nat),
      s.dev.barOn 0 = true →
      s.dev.readCounter (s.dev.rd R.TEL_CSEL_ID) none s.dev.now = r →
      Does (.telCvalLoRead) s fun d => d.rd R.TEL_CVAL_HI_V_HI = r.2.2.1 / 2 ^ 32 % 2 ^ 32 ∧ d.rd R.TEL_CSTAMP_LO_S_LO = r.2.2.2 % 2 ^ 32 ∧
        d.rd R.TEL_CSTAMP_HI_S_HI = r.2.2.2 / 2 ^ 32 % 2 ^ 32 ∧ d.rd R.TEL_CSTAT_LIFE = r.1 % 2 ^ 16 ∧
        d.rd R.TEL_CSTAT_RSTAT = r.2.1 % 4 ∧ Out.regRead 0x3F00004 (r.2.2.1 % 2 ^ 32) ∈ d.out)
  ∧ (∀ (s : State) (x y : Nat),
      s.dev.barOn 0 = true →
      s.dev.pdOn (pdOe (x / 32)) = true →
      s.dev.laneState x = laActive →
      y ≠ x →
      (s.dev.portLanes (s.dev.lanePort x)).contains y = true →
      s.dev.laneState y = laActive →
      (s.dev.portLanes (s.dev.lanePort x)).all (fun z => z = x || s.dev.laneState z != laRetrain) = true →
      Does (.oeLctlRetrainWrite x) s fun d => d.laneState x = laRetrain ∧ (d.lane x).wantRetrain = false)
  ∧ (∀ (s : State) (q : Nat),
      s.dev.barOn 0 = true →
      s.dev.pdOn (pdHbm q) = true →
      s.dev.mgmt.boot.train.contains q = false →
      s.dev.mgmt.boot.hbm.contains q = false →
      s.dev.on R.HBM_STAT_TRAINING q = false →
      Does (.hbmCtlRetrainWrite q) s fun d => d.rd R.HBM_STAT_TRAINING q = 1 ∧ d.rd R.HBM_STAT_TRAIN_CH q = 0 ∧ (d.stack q).holdTill = some (s.dev.now + 1500))
  ∧ (∀ (s : State) (t : Nat),
      s.dev.barOn 0 = true →
      s.dev.pdOn (pdTile t) = true →
      Does (.tileErrUnhandledClear t) s fun d => d.rd R.TILE_ERR_UNHANDLED t = 0 ∧ d.rd R.TILE_EXC0_VALID t = 0)
  ∧ (∀ (s : State) (t : Nat),
      s.dev.barOn 0 = true →
      s.dev.pdOn (pdTile t) = true →
      Does (.tileErrResetSeenClear t) s fun d => d.rd R.TILE_ERR_RESET_SEEN t = 0 ∧ d.rd R.TILE_RSTREC0_VALID t = 0)

/-- NOP changes nothing; ADD, SUB, MUL, AND, OR, XOR, the shifts by g[rs2] mod 64 and the comparisons write g[rd] from g[rs1] and g[rs2]; PC moves on by 8, every other register of the tile, every other tile, and every byte of SRAM and HBM are unchanged, and g0 discards its write. -/
def Obligations.ScalarRegisterArithmetic : Prop :=
  (∀ (s : State) (t w : Nat) (bad : EccHits),
      Fetches s.dev t 0x00 w bad →
      resvR w = false →
      Does (.tileNop t bad) s fun d => Retires s.dev d t (fun y => y))
  ∧ (∀ (s : State) (t w : Nat) (bad : EccHits),
      Fetches s.dev t 0x01 w bad →
      resvR w = false →
      Does (.add t bad) s fun d => let x := s.dev.tile t
        Retires s.dev d t (fun y => y.putG (iRd w) (x.gv (iRs1 w) + x.gv (iRs2 w))))
  ∧ (∀ (s : State) (t w : Nat) (bad : EccHits),
      Fetches s.dev t 0x02 w bad →
      resvR w = false →
      Does (.sub t bad) s fun d => let x := s.dev.tile t
        Retires s.dev d t (fun y => y.putG (iRd w) (x.gv (iRs1 w) - x.gv (iRs2 w))))
  ∧ (∀ (s : State) (t w : Nat) (bad : EccHits),
      Fetches s.dev t 0x03 w bad →
      resvR w = false →
      Does (.mul t bad) s fun d => let x := s.dev.tile t
        Retires s.dev d t (fun y => y.putG (iRd w) (x.gv (iRs1 w) * x.gv (iRs2 w))))
  ∧ (∀ (s : State) (t w : Nat) (bad : EccHits),
      Fetches s.dev t 0x04 w bad →
      resvR w = false →
      Does (.and t bad) s fun d => let x := s.dev.tile t
        Retires s.dev d t (fun y => y.putG (iRd w) (x.gv (iRs1 w) &&& x.gv (iRs2 w))))
  ∧ (∀ (s : State) (t w : Nat) (bad : EccHits),
      Fetches s.dev t 0x05 w bad →
      resvR w = false →
      Does (.or t bad) s fun d => let x := s.dev.tile t
        Retires s.dev d t (fun y => y.putG (iRd w) (x.gv (iRs1 w) ||| x.gv (iRs2 w))))
  ∧ (∀ (s : State) (t w : Nat) (bad : EccHits),
      Fetches s.dev t 0x06 w bad →
      resvR w = false →
      Does (.xor t bad) s fun d => let x := s.dev.tile t
        Retires s.dev d t (fun y => y.putG (iRd w) (x.gv (iRs1 w) ^^^ x.gv (iRs2 w))))
  ∧ (∀ (s : State) (t w : Nat) (bad : EccHits),
      Fetches s.dev t 0x07 w bad →
      resvR w = false →
      Does (.shl t bad) s fun d => let x := s.dev.tile t
        Retires s.dev d t (fun y => y.putG (iRd w) (x.gv (iRs1 w) <<< ((x.gv (iRs2 w)).toNat % 64))))
  ∧ (∀ (s : State) (t w : Nat) (bad : EccHits),
      Fetches s.dev t 0x08 w bad →
      resvR w = false →
      Does (.shr t bad) s fun d => let x := s.dev.tile t
        Retires s.dev d t (fun y => y.putG (iRd w) (x.gv (iRs1 w) >>> ((x.gv (iRs2 w)).toNat % 64))))
  ∧ (∀ (s : State) (t w : Nat) (bad : EccHits),
      Fetches s.dev t 0x09 w bad →
      resvR w = false →
      Does (.sra t bad) s fun d => let x := s.dev.tile t
        Retires s.dev d t (fun y => y.putG (iRd w) ((x.gv (iRs1 w)).sshiftRight ((x.gv (iRs2 w)).toNat % 64))))
  ∧ (∀ (s : State) (t w : Nat) (bad : EccHits),
      Fetches s.dev t 0x0A w bad →
      resvR w = false →
      Does (.slt t bad) s fun d => let x := s.dev.tile t
        Retires s.dev d t (fun y => y.putG (iRd w) (if (x.gv (iRs1 w)).slt (x.gv (iRs2 w)) then 1 else 0)))
  ∧ (∀ (s : State) (t w : Nat) (bad : EccHits),
      Fetches s.dev t 0x0B w bad →
      resvR w = false →
      Does (.sltu t bad) s fun d => let x := s.dev.tile t
        Retires s.dev d t (fun y => y.putG (iRd w) (if (x.gv (iRs1 w)).ult (x.gv (iRs2 w)) then 1 else 0)))

/-- ADDI, ANDI, ORI, XORI, the shifts by IMM[5:0] and LUI write g[rd] from g[rs1] and the sign-extended IMM; PC moves on by 8, and every other register of the tile, every other tile, and every byte of SRAM and HBM are unchanged. -/
def Obligations.ScalarImmediateArithmetic : Prop :=
  (∀ (s : State) (t w : Nat) (bad : EccHits),
      Fetches s.dev t 0x10 w bad →
      resvI w = false →
      Does (.addi t bad) s fun d => let x := s.dev.tile t
        Retires s.dev d t (fun y => y.putG (iRd w) (x.gv (iRs1 w) + imm64 w)))
  ∧ (∀ (s : State) (t w : Nat) (bad : EccHits),
      Fetches s.dev t 0x11 w bad →
      resvI w = false →
      Does (.andi t bad) s fun d => let x := s.dev.tile t
        Retires s.dev d t (fun y => y.putG (iRd w) (x.gv (iRs1 w) &&& imm64 w)))
  ∧ (∀ (s : State) (t w : Nat) (bad : EccHits),
      Fetches s.dev t 0x12 w bad →
      resvI w = false →
      Does (.ori t bad) s fun d => let x := s.dev.tile t
        Retires s.dev d t (fun y => y.putG (iRd w) (x.gv (iRs1 w) ||| imm64 w)))
  ∧ (∀ (s : State) (t w : Nat) (bad : EccHits),
      Fetches s.dev t 0x13 w bad →
      resvI w = false →
      Does (.xori t bad) s fun d => let x := s.dev.tile t
        Retires s.dev d t (fun y => y.putG (iRd w) (x.gv (iRs1 w) ^^^ imm64 w)))
  ∧ (∀ (s : State) (t w : Nat) (bad : EccHits),
      Fetches s.dev t 0x14 w bad →
      resvI w = false →
      Does (.shli t bad) s fun d => let x := s.dev.tile t
        Retires s.dev d t (fun y => y.putG (iRd w) (x.gv (iRs1 w) <<< ((imm64 w).toNat % 64))))
  ∧ (∀ (s : State) (t w : Nat) (bad : EccHits),
      Fetches s.dev t 0x15 w bad →
      resvI w = false →
      Does (.shri t bad) s fun d => let x := s.dev.tile t
        Retires s.dev d t (fun y => y.putG (iRd w) (x.gv (iRs1 w) >>> ((imm64 w).toNat % 64))))
  ∧ (∀ (s : State) (t w : Nat) (bad : EccHits),
      Fetches s.dev t 0x16 w bad →
      resvI w = false →
      Does (.srai t bad) s fun d => let x := s.dev.tile t
        Retires s.dev d t (fun y => y.putG (iRd w) ((x.gv (iRs1 w)).sshiftRight ((imm64 w).toNat % 64))))
  ∧ (∀ (s : State) (t w : Nat) (bad : EccHits),
      Fetches s.dev t 0x17 w bad →
      resvI w = false →
      Does (.lui t bad) s fun d => let x := s.dev.tile t
        Retires s.dev d t (fun y => y.putG (iRd w) ((imm64 w <<< 32) ||| (x.gv (iRs1 w) &&& 0xFFFFFFFF))))

/-- LD writes g[rd] with the bytes of the access, extended as FN says; ST puts its bytes at the end of the store buffer; AMO writes g[rd] with the old word and memory with the new; a performed store changes its own bytes of its tile's SRAM and leaves the buffer. -/
def Obligations.LoadsStoresAndAtomics : Prop :=
  (∀ (s : State) (t w : Nat) (bad : EccHits) (ea : Nat),
      Fetches s.dev t 0x18 w bad →
      resvIFn (fun f => decide (f < 8)) w = false →
      ((s.dev.tile t).reg (iRs1 w) + (imm64 w).toNat) % 2 ^ 64 = ea →
      s.dev.eaFault t ea (accSize (iFn w)) (accSize (iFn w)) false = 0 →
      clean bad (eaOff ea) (accSize (iFn w)) = true →
      s.dev.loadBad t (eaTile t ea) (eaOff ea) (accSize (iFn w)) = false →
      Does (.ld t bad) s fun d => Retires s.dev d t (fun y => y.setReg (iRd w) (loadVal (s.dev.loadBytes t (eaTile t ea) (eaOff ea) (accSize (iFn w))) (accSize (iFn w)) (bitOf (iFn w) 2))))
  ∧ (∀ (s : State) (t w : Nat) (bad : EccHits) (ea : Nat),
      Fetches s.dev t 0x19 w bad →
      resvIFn (fun f => decide (f < 4)) w = false →
      ((s.dev.tile t).reg (iRs1 w) + (imm64 w).toNat) % 2 ^ 64 = ea →
      s.dev.eaFault t ea (accSize (iFn w)) (accSize (iFn w)) true = 0 →
      (s.dev.tile t).buf.length < 16 →
      Does (.st t bad) s fun d => Retires s.dev d t (fun y => { y with buf := y.buf ++ [{ tile := eaTile t ea, remote := bitOf ea 27, addr := eaOff ea, bytes := bytesLE (accSize (iFn w)) (y.reg (iRd w)), ea := ea, grp := y.grp }] }))
  ∧ (∀ (s : State) (t w : Nat) (bad : EccHits) (ea u : Nat),
      Fetches s.dev t 0x1A w bad →
      resvRFn (fun f => decide (f < 16) && decide (f % 8 ≤ 4)) w = false →
      (s.dev.tile t).reg (iRs1 w) = ea →
      eaTile t ea = u →
      s.dev.eaFault t ea (amoSize (iFn w % 8)) (amoSize (iFn w % 8)) false = 0 →
      (s.dev.tile t).amoWaits u (eaOff ea) (amoSize (iFn w % 8)) (bitOf (iFn w) 3) = false →
      clean bad (eaOff ea) (amoSize (iFn w % 8)) = true →
      s.dev.poisonIn u (eaOff ea) (amoSize (iFn w % 8)) = none →
      Does (.amo t bad) s fun d => let x := s.dev.tile t
        let n := amoSize (iFn w % 8)
        let old := ofLE ((s.dev.sramOf u).readN (eaOff ea) n)
        d.tile t = x.after (x.pc + 8) (fun y => y.setReg (iRd w) old) ∧
        (∀ v, d.sramOf v = if v = u then (s.dev.sramOf u).writeN (eaOff ea) (bytesLE n (amoNew (iFn w % 8) old (x.reg (iRs2 w))))
          else s.dev.sramOf v) ∧ d.hbm = s.dev.hbm)
  ∧ (∀ (s : State) (t i : Nat) (e : StoreEnt),
      (s.dev.tile t).buf[i]? = some e →
      ((s.dev.tile t).buf.take i).any (fun o => o.overlaps e || decide (o.grp < e.grp)) = false →
      e.remote = false ∨ s.dev.remoteOk t e.tile = true →
      (wordsOf e.addr e.bytes.length).filter (s.dev.eccOf e.tile).poison.contains = [] →
      (s.dev.tile t).ending = none →
      Does (.storePerformed t i) s fun d => (d.tile t).buf = (s.dev.tile t).buf.eraseIdx i ∧ d.sramOf e.tile = (s.dev.sramOf e.tile).writeN e.addr e.bytes ∧
        (∀ u, u ≠ e.tile → d.sramOf u = s.dev.sramOf u) ∧ d.hbm = s.dev.hbm)
  ∧ (∀ (s : State) (t i : Nat) (e : StoreEnt),
      (s.dev.tile t).buf[i]? = some e →
      ((s.dev.tile t).buf.take i).any (fun o => o.overlaps e || decide (o.grp < e.grp)) = false →
      e.remote = true →
      s.dev.remoteOk t e.tile = false →
      (s.dev.tile t).ending = none →
      Does (.storePerformed t i) s fun d => (d.tile t).buf = (s.dev.tile t).buf.eraseIdx i ∧ d.rd R.TILE_ERR_REMOTE_DROP t = 1 ∧ (∀ u, d.sramOf u = s.dev.sramOf u) ∧ d.hbm = s.dev.hbm)

/-- BR, JAL and JALR set PC and the link; TRAP saves the exception record and goes to EVEC, and RETE returns to EPC; HALT ends the program, and the next launch starts; a fence or WAIT whose condition holds retires; CSRR reads any CSR and CSRW writes a writable one. -/
def Obligations.BranchesFencesAndCsrs : Prop :=
  (∀ (s : State) (t w : Nat) (bad : EccHits),
      Fetches s.dev t 0x20 w bad →
      (iRd w != 0 || decide (5 < iFn w)) = false →
      Does (.br t bad) s fun d => let x := s.dev.tile t
        Moves s.dev d t (if (match iFn w with
          | 0 => x.gv (iRs1 w) == x.gv (iRs2 w)
          | 1 => x.gv (iRs1 w) != x.gv (iRs2 w)
          | 2 => (x.gv (iRs1 w)).slt (x.gv (iRs2 w))
          | 3 => (x.gv (iRs2 w)).sle (x.gv (iRs1 w))
          | 4 => (x.gv (iRs1 w)).ult (x.gv (iRs2 w))
          | _ => (x.gv (iRs2 w)).ule (x.gv (iRs1 w))) then x.pc + 8 * (imm64 w).toNat else x.pc + 8) (fun y => y))
  ∧ (∀ (s : State) (t w : Nat) (bad : EccHits),
      Fetches s.dev t 0x21 w bad →
      (resvI w || iRs1 w != 0) = false →
      Does (.jal t bad) s fun d => let x := s.dev.tile t
        Moves s.dev d t (x.pc + 8 * (imm64 w).toNat) (fun y => y.setReg (iRd w) (x.pc + 8)))
  ∧ (∀ (s : State) (t w : Nat) (bad : EccHits),
      Fetches s.dev t 0x22 w bad →
      resvI w = false →
      ((s.dev.tile t).reg (iRs1 w) + (imm64 w).toNat) % 2 ^ 64 % 8 = 0 →
      Does (.jalr t bad) s fun d => let x := s.dev.tile t
        Moves s.dev d t (x.reg (iRs1 w) + (imm64 w).toNat) (fun y => y.setReg (iRd w) (x.pc + 8)))
  ∧ (∀ (s : State) (t w : Nat) (bad : EccHits),
      Fetches s.dev t 0x2B w bad →
      resvI w = false →
      (s.dev.tile t).active = false →
      (s.dev.tile t).evec ≠ 0 →
      (s.dev.tile t).evec < 2 ^ 64 →
      (s.dev.tile t).buf = [] →
      Does (.trap t bad) s fun d => let x := s.dev.tile t
        Moves s.dev d t x.evec (fun y => { y with epc := x.pc, ecause := ecTrap, einfo := 0, eaddr := (imm64 w).toNat, active := true }))
  ∧ (∀ (s : State) (t w : Nat) (bad : EccHits),
      Fetches s.dev t 0x2C w bad →
      resvR w = false →
      (s.dev.tile t).epc % 8 = 0 →
      Does (.rete t bad) s fun d => let x := s.dev.tile t
        Moves s.dev d t x.epc (fun y => { y with active := false }))
  ∧ (∀ (s : State) (t w : Nat) (bad : EccHits),
      Fetches s.dev t 0x2A w bad →
      resvR w = false →
      (s.dev.tile t).quiet = true →
      (s.dev.tile t).doneErrs = [] →
      (s.dev.tile t).buf = [] →
      (s.dev.tile t).lq = [] →
      Does (.halt t bad) s fun d => (d.tile t).prog = none ∧ d.tileState t = tsIdle)
  ∧ (∀ (s : State) (t w : Nat) (bad : EccHits) (l : Launch) (rest : List Launch),
      Fetches s.dev t 0x2A w bad →
      resvR w = false →
      (s.dev.tile t).quiet = true →
      (s.dev.tile t).doneErrs = [] →
      (s.dev.tile t).buf = [] →
      (s.dev.tile t).lq = l :: rest →
      s.dev.slotted l.burgee = false →
      Does (.halt t bad) s fun d => (d.tile t).prog = some l ∧ (d.tile t).lq = rest ∧ (d.tile t).pc = l.entry ∧ (d.tile t).gv 1 = BitVec.ofNat 64 l.arg ∧
        (d.tile t).gv 2 = BitVec.ofNat 64 l.id ∧ d.tileState t = tsRunning)
  ∧ (∀ (s : State) (t w : Nat) (bad : EccHits),
      Fetches s.dev t 0x28 w bad →
      resvRFn (fun f => decide (f < 4)) w = false →
      iFn w = 0 →
      Does (.fenceLd t bad) s fun d => Retires s.dev d t (fun y => y))
  ∧ (∀ (s : State) (t w : Nat) (bad : EccHits),
      Fetches s.dev t 0x28 w bad →
      resvRFn (fun f => decide (f < 4)) w = false →
      iFn w = 1 →
      Does (.fenceSt t bad) s fun d => Retires s.dev d t (fun y => { y with grp := y.grp + 1 }))
  ∧ (∀ (s : State) (t w : Nat) (bad : EccHits),
      Fetches s.dev t 0x28 w bad →
      resvRFn (fun f => decide (f < 4)) w = false →
      iFn w = 2 →
      (s.dev.tile t).buf = [] →
      Does (.fenceSc t bad) s fun d => Retires s.dev d t (fun y => y))
  ∧ (∀ (s : State) (t w : Nat) (bad : EccHits),
      Fetches s.dev t 0x28 w bad →
      resvRFn (fun f => decide (f < 4)) w = false →
      iFn w = 3 →
      (s.dev.tile t).quiet = true →
      (s.dev.tile t).doneErrs = [] →
      Does (.fenceTn t bad) s fun d => Retires s.dev d t (fun y => y))
  ∧ (∀ (s : State) (t w : Nat) (bad : EccHits) (q n : Nat),
      Fetches s.dev t 0x29 w bad →
      resvR w = false →
      (s.dev.tile t).reg (iRs1 w) / 2 ^ 62 = q →
      (s.dev.tile t).reg (iRs1 w) % 2 ^ 62 = n →
      q < 3 →
      0 < n →
      n ≤ nth (s.dev.tile t).issued q →
      ((s.dev.tile t).queues.getD q []).any (fun o => o.token = (s.dev.tile t).reg (iRs1 w)) = false →
      (s.dev.tile t).doneErrs.find? (fun e => e.1 = (s.dev.tile t).reg (iRs1 w)) = none →
      Does (.wait t bad) s fun d => Retires s.dev d t (fun y => y))
  ∧ (∀ (s : State) (t w : Nat) (bad : EccHits) (v : Nat),
      Fetches s.dev t 0x2D w bad →
      resvI w = false →
      s.dev.csr t (iImm w % 4096) = some v →
      Does (.csrr t bad) s fun d => Retires s.dev d t (fun y => y.setReg (iRd w) v))
  ∧ (∀ (s : State) (t w : Nat) (bad : EccHits),
      Fetches s.dev t 0x2E w bad →
      resvI w = false →
      csrWritable (iImm w % 4096) = true →
      iImm w % 4096 = 0x21 ∨ iImm w % 4096 = 0x29 → (s.dev.tile t).reg (iRs1 w) % 256 = 0 →
      iImm w % 4096 < 0x20 ∨ 0x22 < iImm w % 4096 ∨ s.dev.red.tokenWait.get (quadOfTile t) [] = [] →
      Does (.csrw t bad) s fun d => let x := s.dev.tile t
        Retires s.dev d t (fun y => y.setCsr (iImm w % 4096) (x.reg (iRs1 w))))
  ∧ (∀ (s : State) (t w : Nat) (bad : EccHits),
      Fetches s.dev t 0x2E w bad →
      resvI w = false →
      iImm w % 4096 = 0x21 ∨ iImm w % 4096 = 0x29 →
      (s.dev.tile t).reg (iRs1 w) % 256 ≠ 0 →
      s.dev.red.tokenWait.get (quadOfTile t) [] = [] →
      Does (.csrw t bad) s fun d => Retires s.dev d t (fun y => y.setCsr (iImm w % 4096) (s.dev.free % 2 ^ 56 * 256)) ∧ d.freeCtr = s.dev.freeCtr + 1)

/-- Each lane of vd is the exact result rounded once to FP32, to nearest even, its overflow as OVF_MODE says (or the comparison, the selection, the larger or smaller lane); a lane whose mask bit is 0 keeps its value under MASK_EN; nothing else of any tile, SRAM or HBM changes. -/
def Obligations.VectorArithmetic : Prop :=
  (∀ (s : State) (t w : Nat) (bad : EccHits),
      Fetches s.dev t 0x42 w bad →
      resvV [iRd w, iRs1 w, iRs2 w] (· = 0) w = false →
      ((s.dev.tile t).vreg (iRs1 w)).length = 64 →
      ((s.dev.tile t).vreg (iRs2 w)).length = 64 →
      Does (.vadd t bad) s fun d => let x := s.dev.tile t
        Retires s.dev d t (fun y => y.setVreg w (iRd w) ((List.range 64).map fun k => round32 (exactSum [of32 (nth (x.vreg (iRs1 w)) k), of32 (nth (x.vreg (iRs2 w)) k)]) (iOvf w))))
  ∧ (∀ (s : State) (t w : Nat) (bad : EccHits),
      Fetches s.dev t 0x43 w bad →
      resvV [iRd w, iRs1 w, iRs2 w] (· = 0) w = false →
      ((s.dev.tile t).vreg (iRs1 w)).length = 64 →
      ((s.dev.tile t).vreg (iRs2 w)).length = 64 →
      Does (.vsub t bad) s fun d => let x := s.dev.tile t
        Retires s.dev d t (fun y => y.setVreg w (iRd w) ((List.range 64).map fun k => round32 (exactSum [of32 (nth (x.vreg (iRs1 w)) k), (of32 (nth (x.vreg (iRs2 w)) k)).negate]) (iOvf w))))
  ∧ (∀ (s : State) (t w : Nat) (bad : EccHits),
      Fetches s.dev t 0x44 w bad →
      resvV [iRd w, iRs1 w, iRs2 w] (· = 0) w = false →
      ((s.dev.tile t).vreg (iRs1 w)).length = 64 →
      ((s.dev.tile t).vreg (iRs2 w)).length = 64 →
      Does (.vmul t bad) s fun d => let x := s.dev.tile t
        Retires s.dev d t (fun y => y.setVreg w (iRd w) ((List.range 64).map fun k => round32 ((of32 (nth (x.vreg (iRs1 w)) k)).mul (of32 (nth (x.vreg (iRs2 w)) k))) (iOvf w))))
  ∧ (∀ (s : State) (t w : Nat) (bad : EccHits),
      Fetches s.dev t 0x48 w bad →
      resvV [iRd w, iRs1 w, iRs2 w] (· = 0) w = false →
      ((s.dev.tile t).vreg (iRs1 w)).length = 64 →
      ((s.dev.tile t).vreg (iRs2 w)).length = 64 →
      Does (.vdiv t bad) s fun d => let x := s.dev.tile t
        Retires s.dev d t (fun y => y.setVreg w (iRd w) ((List.range 64).map fun k => round32 ((of32 (nth (x.vreg (iRs1 w)) k)).div (of32 (nth (x.vreg (iRs2 w)) k))) (iOvf w))))
  ∧ (∀ (s : State) (t w : Nat) (bad : EccHits),
      Fetches s.dev t 0x49 w bad →
      resvV [iRd w, iRs1 w] (· = 0) w = false →
      ((s.dev.tile t).vreg (iRs1 w)).length = 64 →
      Does (.vsqrt t bad) s fun d => let x := s.dev.tile t
        Retires s.dev d t (fun y => y.setVreg w (iRd w) ((List.range 64).map fun k => round32 (of32 (nth (x.vreg (iRs1 w)) k)).sqrt (iOvf w))))
  ∧ (∀ (s : State) (t w : Nat) (bad : EccHits),
      Fetches s.dev t 0x45 w bad →
      resvV [iRd w, iRs1 w, iRs2 w, iVs3 w] (· = 0) w = false →
      Does (.vfma t bad) s fun d => let x := s.dev.tile t
        Retires s.dev d t (fun y => y.setVreg w (iRd w) ((List.range 64).map fun k => round32 (exactSum [(of32 (nth (x.vreg (iRs1 w)) k)).mul (of32 (nth (x.vreg (iRs2 w)) k)), of32 (nth (x.vreg (iVs3 w)) k)]) (iOvf w))))
  ∧ (∀ (s : State) (t w : Nat) (bad : EccHits),
      Fetches s.dev t 0x46 w bad →
      resvV [iRd w, iRs1 w, iRs2 w] (· = 0) w = false →
      Does (.vmax t bad) s fun d => let x := s.dev.tile t
        Retires s.dev d t (fun y => y.setVreg w (iRd w) ((List.range 64).map fun k => laneMax false (bitOf s.dev.free k) (nth (x.vreg (iRs1 w)) k) (nth (x.vreg (iRs2 w)) k))))
  ∧ (∀ (s : State) (t w : Nat) (bad : EccHits),
      Fetches s.dev t 0x47 w bad →
      resvV [iRd w, iRs1 w, iRs2 w] (· = 0) w = false →
      Does (.vmin t bad) s fun d => let x := s.dev.tile t
        Retires s.dev d t (fun y => y.setVreg w (iRd w) ((List.range 64).map fun k => laneMax true (bitOf s.dev.free k) (nth (x.vreg (iRs1 w)) k) (nth (x.vreg (iRs2 w)) k))))
  ∧ (∀ (s : State) (t w : Nat) (bad : EccHits),
      Fetches s.dev t 0x4A w bad →
      (resvV [iRs1 w, iRs2 w] (fun s => decide (s < 4)) w || decide (3 < iRd w)) = false →
      (s.dev.tile t).m.length = 4 →
      Does (.vcmp t bad) s fun d => let x := s.dev.tile t
        (d.tile t).m.length = x.m.length ∧ (∀ k, k < 64 → bitOf ((d.tile t).mreg (iRd w)) k =
          if iMaskEn w && !(bitOf (x.mreg (iMask w)) k) then bitOf (x.mreg (iRd w)) k else laneCmp (iSub w) (nth (x.vreg (iRs1 w)) k) (nth (x.vreg (iRs2 w)) k)) ∧
        (∀ i, i ≠ iRd w → (d.tile t).mreg i = x.mreg i) ∧ Retires s.dev d t (fun y => { y with m := (d.tile t).m }))
  ∧ (∀ (s : State) (t w : Nat) (bad : EccHits),
      Fetches s.dev t 0x4B w bad →
      (resvV [iRd w, iRs1 w, iRs2 w] (· = 0) w || decide (3 < iVs3 w)) = false →
      Does (.vsel t bad) s fun d => let x := s.dev.tile t
        Retires s.dev d t (fun y => y.setVreg w (iRd w) ((List.range 64).map fun k => if bitOf (x.mreg (iVs3 w)) k then nth (x.vreg (iRs1 w)) k else nth (x.vreg (iRs2 w)) k)))

/-- VREDSUM and VREDMAX leave their result in lane 0 and zeros beside it; VBCAST and VEXTR move a lane; the approximate functions are those of R313 lane by lane, with a free value for VRSQRT of −0; VRNG draws 64 numbers and moves the counter by 64; VLD decodes, and VST encodes into the store buffer. -/
def Obligations.VectorMovesReductionsAndFunctions : Prop :=
  (∀ (s : State) (t w : Nat) (bad : EccHits),
      Fetches s.dev t 0x4D w bad →
      resvV [iRd w, iRs1 w] (· = 0) w = false →
      Does (.vredsum t bad) s fun d => let x := s.dev.tile t
        Retires s.dev d t (fun y => y.setVreg w (iRd w) (((x.vreg (iRs1 w)).drop 1).foldl (fun a b => add32 a b (iOvf w)) (nth (x.vreg (iRs1 w)) 0) :: List.replicate 63 0)))
  ∧ (∀ (s : State) (t w : Nat) (bad : EccHits) (r : Nat),
      Fetches s.dev t 0x4E w bad →
      resvV [iRd w, iRs1 w] (· = 0) w = false →
      iMaskEn w = false →
      ((s.dev.tile t).vreg (iRs1 w)).length = 64 →
      iRd w < (s.dev.tile t).v.length →
      r ∈ (s.dev.tile t).vreg (iRs1 w) →
      (of32 r).isNan = false →
      ((s.dev.tile t).vreg (iRs1 w)).all (fun a => !(of32 a).isNan && (a == r || (of32 a).lt (of32 r))) = true →
      Does (.vredmax t bad) s fun d => nth ((d.tile t).vreg (iRd w)) 0 = r ∧ Retires s.dev d t (fun y => y.setVreg w (iRd w) (r :: List.replicate 63 0)))
  ∧ (∀ (s : State) (t w : Nat) (bad : EccHits),
      Fetches s.dev t 0x4C w bad →
      (resvI w || decide (15 < iRd w)) = false →
      Does (.vbcast t bad) s fun d => let x := s.dev.tile t
        Retires s.dev d t (fun y => { y with v := setAt y.v (iRd w) (List.replicate 64 (x.reg (iRs1 w) % 2 ^ 32)) }))
  ∧ (∀ (s : State) (t w : Nat) (bad : EccHits),
      Fetches s.dev t 0x4F w bad →
      (resvI w || decide (15 < iRs1 w)) = false →
      Does (.vextr t bad) s fun d => let x := s.dev.tile t
        Retires s.dev d t (fun y => y.setReg (iRd w) (nth (x.vreg (iRs1 w)) (iImm w % 64))))
  ∧ (∀ (s : State) (t w : Nat) (bad : EccHits),
      Fetches s.dev t 0x50 w bad →
      resvV [iRd w, iRs1 w] (· = 0) w = false →
      Does (.vexp2 t bad) s fun d => let x := s.dev.tile t
        Retires s.dev d t (fun y => y.setVreg w (iRd w) ((x.vreg (iRs1 w)).map fun a => approxLane (s.dev.rd R.HUB_NPROF_ID) 0 (iOvf w) a)))
  ∧ (∀ (s : State) (t w : Nat) (bad : EccHits),
      Fetches s.dev t 0x51 w bad →
      resvV [iRd w, iRs1 w] (· = 0) w = false →
      Does (.vlog2 t bad) s fun d => let x := s.dev.tile t
        Retires s.dev d t (fun y => y.setVreg w (iRd w) ((x.vreg (iRs1 w)).map fun a => approxLane (s.dev.rd R.HUB_NPROF_ID) 1 (iOvf w) a)))
  ∧ (∀ (s : State) (t w : Nat) (bad : EccHits),
      Fetches s.dev t 0x52 w bad →
      resvV [iRd w, iRs1 w] (· = 0) w = false →
      Does (.vrcp t bad) s fun d => let x := s.dev.tile t
        Retires s.dev d t (fun y => y.setVreg w (iRd w) ((x.vreg (iRs1 w)).map fun a => approxLane (s.dev.rd R.HUB_NPROF_ID) 2 (iOvf w) a)))
  ∧ (∀ (s : State) (t w : Nat) (bad : EccHits),
      Fetches s.dev t 0x53 w bad →
      resvV [iRd w, iRs1 w] (· = 0) w = false →
      Does (.vrsqrt t bad) s fun d => let x := s.dev.tile t
        Retires s.dev d t (fun y => y.setVreg w (iRd w) ((x.vreg (iRs1 w)).map fun a => if a = 2 ^ 31 then s.dev.free % 2 ^ 32 else approxLane (s.dev.rd R.HUB_NPROF_ID) 3 (iOvf w) a)))
  ∧ (∀ (s : State) (t w : Nat) (bad : EccHits),
      Fetches s.dev t 0x54 w bad →
      resvV [iRd w, iRs1 w] (· = 0) w = false →
      Does (.vtanh t bad) s fun d => let x := s.dev.tile t
        Retires s.dev d t (fun y => y.setVreg w (iRd w) ((x.vreg (iRs1 w)).map fun a => approxLane (s.dev.rd R.HUB_NPROF_ID) 4 (iOvf w) a)))
  ∧ (∀ (s : State) (t w : Nat) (bad : EccHits),
      Fetches s.dev t 0x55 w bad →
      resvV [iRd w, iRs1 w] (· = 0) w = false →
      Does (.vsigm t bad) s fun d => let x := s.dev.tile t
        Retires s.dev d t (fun y => y.setVreg w (iRd w) ((x.vreg (iRs1 w)).map fun a => approxLane (s.dev.rd R.HUB_NPROF_ID) 5 (iOvf w) a)))
  ∧ (∀ (s : State) (t w : Nat) (bad : EccHits),
      Fetches s.dev t 0x58 w bad →
      resvV [iRd w] (fun s => decide (s < 2)) w = false →
      Does (.vrng t bad) s fun d => let x := s.dev.tile t
        Retires s.dev d t (fun y => { y.setVreg w (iRd w) ((List.range 64).map fun k => if iSub w = 0 then uniform32 (cg32 x.rngKey ((x.rngCtr + k) % 2 ^ 64)) else cg32 x.rngKey ((x.rngCtr + k) % 2 ^ 64)) with rngCtr := (y.rngCtr + 64) % 2 ^ 64 }))
  ∧ (∀ (s : State) (t w : Nat) (bad : EccHits) (ea : Nat),
      Fetches s.dev t 0x40 w bad →
      (resvIFn (fun f => decide (f < 128) && (fmtMx (f % 64) || decide (f < 64))) w || decide (15 < iRd w)) = false →
      ((s.dev.tile t).reg (iRs1 w) + (imm64 w).toNat) % 2 ^ 64 = ea →
      ea % 64 = 0 →
      s.dev.vecFmt (iFn w % 64) = true →
      s.dev.eaFault t ea (vecBytes (iFn w % 64)) 64 false = 0 →
      clean bad (eaOff ea) (vecBytes (iFn w % 64)) = true →
      s.dev.loadBad t (eaTile t ea) (eaOff ea) (vecBytes (iFn w % 64)) = false →
      Does (.vld t bad) s fun d => Retires s.dev d t (fun y => { y with v := setAt y.v (iRd w) (vldLanes (iFn w % 64) (bitOf (iFn w) 6) (s.dev.free % 2 = 1) (s.dev.loadBytes t (eaTile t ea) (eaOff ea) (vecBytes (iFn w % 64)))) }))
  ∧ (∀ (s : State) (t w : Nat) (bad : EccHits) (ea : Nat),
      Fetches s.dev t 0x41 w bad →
      (resvIFn (fun f => bitOf f 6 = false && bitOf f 8 = false) w || decide (15 < iRd w) || (fmtMx (iFn w % 64) && iRd w % 2 = 1)) = false →
      ((s.dev.tile t).reg (iRs1 w) + (imm64 w).toNat) % 2 ^ 64 = ea →
      ea % 64 = 0 →
      s.dev.vecFmt (iFn w % 64) = true →
      s.dev.eaFault t ea (encodeVals (iFn w % 64) ((s.dev.tile t).vstVals (iFn w % 64) (iRd w)) (bitOf (iFn w) 7)).1.length 64 true = 0 →
      (s.dev.tile t).buf.length < 16 →
      Does (.vst t bad) s fun d => Retires s.dev d t (fun y => { y with buf := y.buf ++ [{ tile := eaTile t ea, remote := bitOf ea 27, addr := eaOff ea, bytes := (encodeVals (iFn w % 64) (y.vstVals (iFn w % 64) (iRd w)) (bitOf (iFn w) 7)).1, ea := ea, grp := y.grp }] }))

/-- An asynchronous instruction whose descriptor is read and passes its checks enters its queue last, with the next token of the queue in g[rd]; PC moves on by 8, and no other tile and no byte of SRAM or HBM changes. -/
def Obligations.AsynchronousIssue : Prop :=
  (∀ (s : State) (t w a : Nat) (x : Tile),
      Fetches s.dev t 0x60 w {} →
      resvR w = false →
      s.dev.tile t = x →
      x.reg (iRs1 w) = a →
      x.queues.length = 3 →
      x.issued.length = 3 →
      (x.buf.any fun e => e.tile = t) = false →
      (x.queues.getD 0 []).length < 16 →
      a % 64 = 0 ∧ a + 64 ≤ sramBytes →
      s.dev.poisonIn t a 64 = none →
      (s.dev.mmaCheck x a (s.dev.sramWords t a 16) false).isNone = true →
      Does (.mma t {}) s fun d => ((d.tile t).queues.getD 0 []).length = (x.queues.getD 0 []).length + 1 ∧
        (((d.tile t).queues.getD 0 []).getLast?).map AsyncOp.token = some (0 * 2 ^ 62 + (nth x.issued 0 + 1)) ∧
        (d.tile t).g = (x.setReg (iRd w) (0 * 2 ^ 62 + (nth x.issued 0 + 1))).g ∧ (d.tile t).pc = (x.pc + 8) % 2 ^ 64 ∧
        (∀ u, u ≠ t → d.tile u = s.dev.tile u) ∧ (∀ u, d.sramOf u = s.dev.sramOf u) ∧ d.hbm = s.dev.hbm)
  ∧ (∀ (s : State) (t w a : Nat) (x : Tile),
      Fetches s.dev t 0x61 w {} →
      resvR w = false →
      s.dev.tile t = x →
      x.reg (iRs1 w) = a →
      x.queues.length = 3 →
      x.issued.length = 3 →
      (x.buf.any fun e => e.tile = t) = false →
      (x.queues.getD 0 []).length < 16 →
      a % 64 = 0 ∧ a + 96 ≤ sramBytes →
      s.dev.poisonIn t a 96 = none →
      (s.dev.mmaCheck x a (s.dev.sramWords t a 24) true).isNone = true →
      Does (.mmaC t {}) s fun d => ((d.tile t).queues.getD 0 []).length = (x.queues.getD 0 []).length + 1 ∧
        (((d.tile t).queues.getD 0 []).getLast?).map AsyncOp.token = some (0 * 2 ^ 62 + (nth x.issued 0 + 1)) ∧
        (d.tile t).g = (x.setReg (iRd w) (0 * 2 ^ 62 + (nth x.issued 0 + 1))).g ∧ (d.tile t).pc = (x.pc + 8) % 2 ^ 64 ∧
        (∀ u, u ≠ t → d.tile u = s.dev.tile u) ∧ (∀ u, d.sramOf u = s.dev.sramOf u) ∧ d.hbm = s.dev.hbm)
  ∧ (∀ (s : State) (t w a : Nat) (x : Tile),
      Fetches s.dev t 0x62 w {} →
      resvR w = false →
      s.dev.tile t = x →
      x.reg (iRs1 w) = a →
      x.queues.length = 3 →
      x.issued.length = 3 →
      (x.buf.any fun e => e.tile = t) = false →
      (x.queues.getD 1 []).length < 16 →
      a % 64 = 0 ∧ a + 32 ≤ sramBytes →
      s.dev.poisonIn t a 32 = none →
      (let k := s.dev.sramWords t a 8; nth k 0 % 2 ^ 31 = 0 ∧ bits (nth k 1) 31 24 = 0 ∧ bits (nth k 5) 31 24 = 0 ∧ nth k 6 % 2 ^ 14 = 0 ∧ nth k 7 = 0 ∧
        bits (nth k 5) 23 0 ≠ 0 ∧ bits (nth k 1) 23 0 + bits (nth k 5) 23 0 ≤ sramBytes ∧
        (match s.dev.regionCheck (nth k 2) (nth k 3 * 2 ^ 32 + nth k 4) (bits (nth k 5) 23 0) x.burgee (bitOf (nth k 0) 31) true with
          | .ok _ => true
          | .error e => e == rDomainOff) = true) →
      Does (.xfer t {}) s fun d => ((d.tile t).queues.getD 1 []).length = (x.queues.getD 1 []).length + 1 ∧
        (((d.tile t).queues.getD 1 []).getLast?).map AsyncOp.token = some (1 * 2 ^ 62 + (nth x.issued 1 + 1)) ∧
        (d.tile t).g = (x.setReg (iRd w) (1 * 2 ^ 62 + (nth x.issued 1 + 1))).g ∧ (d.tile t).pc = (x.pc + 8) % 2 ^ 64 ∧
        (∀ u, u ≠ t → d.tile u = s.dev.tile u) ∧ (∀ u, d.sramOf u = s.dev.sramOf u) ∧ d.hbm = s.dev.hbm)
  ∧ (∀ (s : State) (t w a : Nat) (x : Tile),
      Fetches s.dev t 0x70 w {} →
      resvR w = false →
      s.dev.tile t = x →
      x.reg (iRs1 w) = a →
      x.queues.length = 3 →
      x.issued.length = 3 →
      (x.buf.any fun e => e.tile = t) = false →
      (x.queues.getD 2 []).length < 16 →
      a % 64 = 0 ∧ a + 32 ≤ sramBytes →
      s.dev.poisonIn t a 32 = none →
      (let k := s.dev.sramWords t a 8; bits (nth k 1) 13 8 = 0 ∧ bits (nth k 3) 31 24 = 0 ∧ nth k 4 / 64 = 0 ∧ nth k 6 = 0 ∧ nth k 7 = 0 ∧
        bits (nth k 3) 23 0 + nth k 5 ≤ sramBytes) →
      Does (.cinj t {}) s fun d => ((d.tile t).queues.getD 2 []).length = (x.queues.getD 2 []).length + 1 ∧
        (((d.tile t).queues.getD 2 []).getLast?).map AsyncOp.token = some (2 * 2 ^ 62 + (nth x.issued 2 + 1)) ∧
        (d.tile t).g = (x.setReg (iRd w) (2 * 2 ^ 62 + (nth x.issued 2 + 1))).g ∧ (d.tile t).pc = (x.pc + 8) % 2 ^ 64 ∧
        (∀ u, u ≠ t → d.tile u = s.dev.tile u) ∧ (∀ u, d.sramOf u = s.dev.sramOf u) ∧ d.hbm = s.dev.hbm)
  ∧ (∀ (s : State) (t w a : Nat) (x : Tile),
      Fetches s.dev t 0x74 w {} →
      resvR w = false →
      s.dev.tile t = x →
      x.reg (iRs1 w) = a →
      x.queues.length = 3 →
      x.issued.length = 3 →
      (x.buf.any fun e => e.tile = t) = false →
      (x.queues.getD 2 []).length < 16 →
      a % 64 = 0 ∧ a + 48 ≤ sramBytes →
      s.dev.poisonIn t a 48 = none →
      Does (.gpost t {}) s fun d => ((d.tile t).queues.getD 2 []).length = (x.queues.getD 2 []).length + 1 ∧
        (((d.tile t).queues.getD 2 []).getLast?).map AsyncOp.token = some (2 * 2 ^ 62 + (nth x.issued 2 + 1)) ∧
        (d.tile t).g = (x.setReg (iRd w) (2 * 2 ^ 62 + (nth x.issued 2 + 1))).g ∧ (d.tile t).pc = (x.pc + 8) % 2 ^ 64 ∧
        (∀ u, u ≠ t → d.tile u = s.dev.tile u) ∧ (∀ u, d.sramOf u = s.dev.sramOf u) ∧ d.hbm = s.dev.hbm)

/-- A matrix multiply or a transfer takes place and leaves its queue, its error kept for WAIT; a GPOST whose record is taken, and an injection whose blocks are all over, leave their queue; a ready block is handed to the attach, or waits for its slot; TILE_LAUNCH starts an idle tile or queues the launch. -/
def Obligations.AsynchronousEndsBlocksAndLaunches : Prop :=
  (∀ (s : State) (t : Nat) (o : AsyncOp) (bad : EccHits),
      s.dev.headOp t 0 = some o →
      (s.dev.tile t).queues.length = 3 →
      (s.dev.tile t).ending = none →
      o.kind = .mma →
      o.err = none →
      Does (.asyncInstructionComplete t 0 bad) s fun d => (∀ u, d.sramOf u = (s.dev.mmaRun t o.desc bad).1.sramOf u) ∧ ((d.tile t).queues.getD 0 []).length + 1 = ((s.dev.tile t).queues.getD 0 []).length ∧
        (d.tile t).doneErrs = (s.dev.tile t).doneErrs ++ ((s.dev.mmaRun t o.desc bad).2.toList.map fun e => (o.token, e)))
  ∧ (∀ (s : State) (t : Nat) (o : AsyncOp) (bad : EccHits),
      s.dev.headOp t 1 = some o →
      (s.dev.tile t).queues.length = 3 →
      (s.dev.tile t).ending = none →
      o.kind = .xfer →
      o.err = none →
      bitOf (nth o.desc 6) 14 = false →
      Does (.asyncInstructionComplete t 1 bad) s fun d => (∀ u, d.sramOf u = (s.dev.xferRun t o.desc bad).1.sramOf u) ∧ d.hbm = (s.dev.xferRun t o.desc bad).1.hbm ∧ ((d.tile t).queues.getD 1 []).length + 1 = ((s.dev.tile t).queues.getD 1 []).length ∧
        (d.tile t).doneErrs = (s.dev.tile t).doneErrs ++ ((s.dev.xferRun t o.desc bad).2.toList.map fun e => (o.token, e)))
  ∧ (∀ (s : State) (t : Nat) (o : AsyncOp),
      s.dev.headOp t 2 = some o →
      (s.dev.tile t).queues.length = 3 →
      (s.dev.tile t).ending = none →
      o.kind = .gpost →
      o.posted = true →
      Does (.asyncInstructionComplete t 2 {}) s fun d => ((d.tile t).queues.getD 2 []).length + 1 = ((s.dev.tile t).queues.getD 2 []).length ∧ (d.tile t).doneErrs = (s.dev.tile t).doneErrs ++ (o.err.toList.map fun e => (o.token, e)))
  ∧ (∀ (s : State) (t : Nat) (o : AsyncOp),
      s.dev.headOp t 0 = some o →
      (s.dev.tile t).queues.length = 3 →
      (s.dev.tile t).ending = none →
      o.kind = .mmac →
      s.dev.blocksOver o = true →
      Does (.asyncInstructionComplete t 0 {}) s fun d => ((d.tile t).queues.getD 0 []).length + 1 = ((s.dev.tile t).queues.getD 0 []).length ∧ (d.tile t).doneErrs = (s.dev.tile t).doneErrs ++ (o.err.toList.map fun e => (o.token, e)))
  ∧ (∀ (s : State) (t : Nat) (o : AsyncOp),
      s.dev.headOp t 2 = some o →
      (s.dev.tile t).queues.length = 3 →
      (s.dev.tile t).ending = none →
      o.kind = .cinj →
      s.dev.blocksOver o = true →
      Does (.asyncInstructionComplete t 2 {}) s fun d => ((d.tile t).queues.getD 2 []).length + 1 = ((s.dev.tile t).queues.getD 2 []).length ∧ (d.tile t).doneErrs = (s.dev.tile t).doneErrs ++ (o.err.toList.map fun e => (o.token, e)))
  ∧ (∀ (s : State) (t : Nat) (o : AsyncOp) (b : Nat × List Nat) (rest : List (Nat × List Nat)) (pid : Nat),
      s.dev.headOp t 2 = some o →
      (s.dev.tile t).queues.length = 3 →
      (s.dev.tile t).ending = none →
      o.written = true →
      o.injects = true →
      o.blocks = b :: rest →
      s.dev.slotted (s.dev.tile t).burgee = false →
      s.dev.blockHeld t 2 o b.1 = false →
      (s.dev.poisonIn t (o.blockAt b.1).1 (o.blockAt b.1).2).isNone = true →
      (match (s.dev.trySend (s.dev.blockPkt t o b.1 b.2) (attachOf t) 4 (ownCluster (s.dev.blockPkt t o b.1 b.2))).2 with
        | .ok (some p) => p == pid
        | _ => false) = true →
      Does (.blockInjection t 2 {}) s fun d => (d.headOp t 2).map AsyncOp.blocks = some rest ∧ (d.headOp t 2).map AsyncOp.pids = some (o.pids ++ [pid]))
  ∧ (∀ (s : State) (t : Nat) (o : AsyncOp) (q : Nat),
      s.dev.headOp t 2 = some o →
      (s.dev.tile t).queues.length = 3 →
      (s.dev.tile t).ending = none →
      q = 2 →
      o.written = true →
      o.injects = true →
      o.blocks ≠ [] →
      s.dev.slotted (s.dev.tile t).burgee = true →
      Does (.blockInjection t q {}) s fun d => d.time.slotReady.any (fun i => i.act = .block t) = true ∧ d.net = s.dev.net)
  ∧ (∀ (s : State) (aseq t : Nat) (j : JEntry),
      Begun s.dev aseq 0x0401 j →
      s.dev.parking = false →
      (j.w 5 % 2 ^ 24) % 8 = 0 →
      j.w 5 % 2 ^ 24 < sramBytes →
      s.dev.modelOf (j.w 4 % 64) = none →
      j.w 4 % 64 = t →
      s.dev.tileState t = tsIdle →
      (s.dev.tile t).lq = [] →
      s.dev.slotted j.burgee = false →
      Does (.tileLaunch aseq) s fun d => Answered d j St.ok ∧ (d.tile t).prog = some { entry := j.w 5 % 2 ^ 24, arg := j.w 6 * 2 ^ 32 + j.w 7, id := j.w 1, burgee := j.burgee } ∧
        (d.tile t).pc = j.w 5 % 2 ^ 24 ∧ (d.tile t).gv 1 = BitVec.ofNat 64 (j.w 6 * 2 ^ 32 + j.w 7) ∧
        (d.tile t).gv 2 = BitVec.ofNat 64 (j.w 1) ∧ d.tileState t = tsRunning)
  ∧ (∀ (s : State) (aseq t : Nat) (j : JEntry),
      Begun s.dev aseq 0x0401 j →
      s.dev.parking = false →
      (j.w 5 % 2 ^ 24) % 8 = 0 →
      j.w 5 % 2 ^ 24 < sramBytes →
      s.dev.modelOf (j.w 4 % 64) = none →
      j.w 4 % 64 = t →
      s.dev.tileState t = tsRunning ∨ s.dev.tileState t = tsParked →
      (s.dev.tile t).lq.length < 4 →
      Does (.tileLaunch aseq) s fun d => Answered d j St.ok ∧ d.tile t = { s.dev.tile t with lq := (s.dev.tile t).lq ++
          [{ entry := j.w 5 % 2 ^ 24, arg := j.w 6 * 2 ^ 32 + j.w 7, id := j.w 1, burgee := j.burgee }] })

/-- CBIND binds a context to the region and trigger of its record; TADV advances a trigger; TWAIT retires once its trigger is DONE; RXWAIT gives the slot at the head of a ring, and RXDONE consumes it. -/
def Obligations.TileCollectiveInterface : Prop :=
  (∀ (s : State) (t w : Nat) (bad : EccHits) (bs : List Nat),
      Fetches s.dev t 0x71 w bad →
      resvR w = false →
      (s.dev.tile t).reg (iRs2 w) + 16 ≤ sramBytes →
      s.dev.loadBad t t ((s.dev.tile t).reg (iRs2 w)) 16 = false →
      s.dev.loadBytes t t ((s.dev.tile t).reg (iRs2 w)) 16 = bs →
      s.dev.handleOk (ofLE (bs.take 4)) (s.dev.tile t).burgee = true →
      Does (.cbind t {}) s fun d => Moves s.dev d t ((s.dev.tile t).pc + 8) (fun y => y) ∧ d.red.bindings.look ((s.dev.tile t).reg (iRs1 w) % 65536) =
          some { v := true, region := ofLE (bs.take 4), base := ofLE ((bs.drop 4).take 4), trig := bits (ofLE ((bs.drop 8).take 4)) 31 15, trigV := bitOf (ofLE ((bs.drop 8).take 4)) 14 })
  ∧ (∀ (s : State) (t w : Nat) (bad : EccHits),
      Fetches s.dev t 0x72 w bad →
      (resvI w || iImm w = 0 || decide (255 < iImm w)) = false →
      (s.dev.tile t).reg (iRs1 w) < 2 ^ 17 →
      (s.dev.trig ((s.dev.tile t).reg (iRs1 w))).state ≠ tgFree →
      (s.dev.tile t).burgee = 0 ∨ (s.dev.tile t).burgee = (s.dev.trig ((s.dev.tile t).reg (iRs1 w))).burgee →
      Does (.tadv t {}) s fun d => d.tile t = ((s.dev.trigAdv ((s.dev.tile t).reg (iRs1 w)) (iImm w) (s.dev.tile t).burgee).1.tile t).after
          (((s.dev.trigAdv ((s.dev.tile t).reg (iRs1 w)) (iImm w) (s.dev.tile t).burgee).1.tile t).pc + 8) (fun y => y) ∧
        d.red = (s.dev.trigAdv ((s.dev.tile t).reg (iRs1 w)) (iImm w) (s.dev.tile t).burgee).1.red)
  ∧ (∀ (s : State) (t w : Nat) (bad : EccHits),
      Fetches s.dev t 0x73 w bad →
      resvR w = false →
      (s.dev.tile t).reg (iRs1 w) < 2 ^ 17 →
      (s.dev.trig ((s.dev.tile t).reg (iRs1 w))).state = tgDone →
      (s.dev.trig ((s.dev.tile t).reg (iRs1 w))).rep = false →
      Does (.twait t bad) s fun d => Retires s.dev d t (fun y => y))
  ∧ (∀ (s : State) (t w : Nat) (bad : EccHits) (r : RxRing),
      Fetches s.dev t 0x75 w bad →
      resvR w = false →
      (s.dev.tile t).reg (iRs1 w) < 2 →
      (s.dev.tile t).ring ((s.dev.tile t).reg (iRs1 w)) = r →
      r.used ≠ 0 →
      Does (.rxwait t bad) s fun d => Retires s.dev d t (fun y => y.setReg (iRd w) (r.base + r.head * r.slot)))
  ∧ (∀ (s : State) (t w : Nat) (bad : EccHits),
      Fetches s.dev t 0x76 w bad →
      resvR w = false →
      (s.dev.tile t).reg (iRs1 w) < 2 →
      (s.dev.tile t).reg (iRs1 w) ≠ 0 ∨ s.dev.red.tokenWait.get (quadOfTile t) [] = [] →
      Does (.rxdone t bad) s fun d => Retires s.dev d t (fun y => if (s.dev.tile t).reg (iRs1 w) = 0 then { y with rx0 := y.rx0.pop } else { y with rx1 := y.rx1.pop }))

/-- For every command and state, a step with the command at the front of the queue is the command's effect on the state with the rest of the queue. -/
def Obligations.StepRunsTheFrontCommand : Prop :=
  ∀ (c : Instr) (d : Dev) (rest : List Instr),
    step { dev := d, pending := c :: rest } = exec c { dev := d, pending := rest }

/-- On an empty queue a step answers the state with fabric time one nanosecond later and nothing else changed. This is the model's own choice (assumption log, row 7). -/
def Obligations.IdleStepPassesTime : Prop :=
  ∀ d : Dev, step { dev := d, pending := [] } = .next { dev := { d with now := d.now + 1 }, pending := [] }

/-- For every command and every state, exec answers a next state, never a fault or a refusal, and the queue of that state is the queue it was given. -/
def Obligations.EveryCommandCompletes : Prop :=
  ∀ (c : Instr) (s : State), ∃ t, exec c s = .next t ∧ t.pending = s.pending

/-- From every state whose waiting commands are all well formed, every step leaves a state whose waiting commands are all well formed, and they are those that stood behind the front one, in their order. -/
def Obligations.WaitingCommandsStayWellFormed : Prop :=
  ∀ s s' : State, Waiting s → step s = .next s' → Waiting s' ∧ s'.pending = s.pending.tail

/-- From every state in which each tile's SRAM and each stack's memory is in its canonical form (addresses strictly rising, no listed byte equal to what an unlisted address reads as), every step leaves a state in which they are. -/
def Obligations.MemoriesStayCanonical : Prop :=
  ∀ s s' : State, Canonical s.dev → step s = .next s' → Canonical s'.dev

/-- After reset every memory is in its canonical form and lists nothing, no command waits, no packet is stored and no command is journalled. -/
def Obligations.ResetStateIsCanonical : Prop :=
  Canonical State.reset.dev ∧ State.reset.pending = [] ∧ State.reset.dev.sram = [] ∧ State.reset.dev.hbm = [] ∧
    State.reset.dev.net.pkts = [] ∧ State.reset.dev.mgmt.journal = []

/-- After reset a field whose register row prints a reset value holds it; XBAR.AGE is 50 ms for VC0 to VC5, 500 ms for VC6 and 20 ms for VC7; the mailbox channels 0 to 3 hold their default bindings and the others none. -/
def Obligations.ResetRegisterValues : Prop :=
  (∀ (f : Fld) (v i k : Nat), f.rst = .const v → State.reset.dev.rd f i k = v) ∧
    (∀ q k, State.reset.dev.rd R.XBAR_AGE_AGE_MS q k = if k ≤ 5 then 50 else if k = 6 then 500 else 20) ∧
    (List.range 5).map (fun k => State.reset.dev.rd R.MBX_CTAB_A_ENTRY_A 0 k) =
      [0x85000000, 0xAC0FFFFF, 0x9C0FFFFF, 0xB90FFFFF, 0]

/-- In a state whose memories are canonical, a write of bytes to a range of a tile's SRAM with no poisoned word, or to a stack, reads back as written, every other byte of every memory reads as before, and the memories stay canonical. -/
def Obligations.MemoryWritesReachTheirBytesAlone : Prop :=
  ∀ (d : Dev) (u a : Nat) (bs : List Nat), Canonical d →
    ((wordsOf a bs.length).filter (d.eccOf u).poison.contains = [] →
      Canonical (d.sramWrite u a bs) ∧ (d.sramWrite u a bs).hbm = d.hbm ∧
      ∀ v b, ((d.sramWrite u a bs).sramOf v).readByte b =
        if v = u ∧ a ≤ b ∧ b < a + bs.length then BitVec.ofNat 8 (nth bs (b - a)) else (d.sramOf v).readByte b) ∧
    Canonical (d.hbmWrite u a bs) ∧ (d.hbmWrite u a bs).sram = d.sram ∧
    ∀ v b, ((d.hbmWrite u a bs).hbmOf v).readByte b =
      if v = u ∧ a ≤ b ∧ b < a + bs.length then BitVec.ofNat 8 (nth bs (b - a)) else (d.hbmOf v).readByte b

/-- Each of these commands changes only the register fields named, with what goes out: every other field, every byte of memory, every tile, FIFO, table and counter is unchanged. The stack events change only their own stack's record, HBM registers, counters and what goes out. -/
def Obligations.EventFrames : Prop :=
  (∀ (s : State),
      Does (.hubFtimeLoRead) s fun d => OnlyRegs s.dev d [R.HUB_FTIME_LO_T_LO, R.HUB_FTIME_HI_T_HI])
  ∧ (∀ (s : State),
      Does (.hubSteploRead) s fun d => OnlyRegs s.dev d [R.HUB_STEPLO_STEP_LO, R.HUB_STEPHI_STEP_HI])
  ∧ (∀ (s : State),
      Does (.telCvalLoRead) s fun d => OnlyRegs s.dev d [R.TEL_CVAL_LO_V_LO, R.TEL_CVAL_HI_V_HI, R.TEL_CSTAMP_LO_S_LO, R.TEL_CSTAMP_HI_S_HI, R.TEL_CSTAT_LIFE, R.TEL_CSTAT_RSTAT])
  ∧ (∀ (s : State),
      Does (.pwrfailDeasserted) s fun d => OnlyRegs s.dev d [R.PWR_RAILMON_PFAIL_PIN])
  ∧ (∀ (s : State) (t : Nat),
      Does (.tileErrUnhandledClear t) s fun d => OnlyRegs s.dev d [R.TILE_ERR_UNHANDLED, R.TILE_EXC0_VALID, R.HUB_ERR_OFF_ACCESS, R.HUB_ERRADDR_OFFSET, R.HUB_ERRADDR_VALID])
  ∧ (∀ (s : State) (t : Nat),
      Does (.tileErrResetSeenClear t) s fun d => OnlyRegs s.dev d [R.TILE_ERR_RESET_SEEN, R.TILE_RSTREC0_VALID, R.HUB_ERR_OFF_ACCESS, R.HUB_ERRADDR_OFFSET, R.HUB_ERRADDR_VALID])
  ∧ (∀ (s : State) (q : Nat),
      Does (.hbmRefreshDue q) s fun d => { d with regs := s.dev.regs, counters := s.dev.counters, hstacks := s.dev.hstacks, out := s.dev.out } = s.dev ∧
        ∀ q', q' ≠ q → d.stack q' = s.dev.stack q')
  ∧ (∀ (s : State) (q temp : Nat),
      Does (.hbmTempCheck q temp) s fun d => { d with regs := s.dev.regs, counters := s.dev.counters, hstacks := s.dev.hstacks, out := s.dev.out } = s.dev ∧
        ∀ q', q' ≠ q → d.stack q' = s.dev.stack q')
  ∧ (∀ (s : State) (q : Nat),
      Does (.hbmChannelRetrainNext q) s fun d => { d with regs := s.dev.regs, counters := s.dev.counters, hstacks := s.dev.hstacks, out := s.dev.out } = s.dev ∧
        ∀ q', q' ≠ q → d.stack q' = s.dev.stack q')
  ∧ (∀ (s : State) (q : Nat),
      Does (.hbmRetrainRetry q) s fun d => { d with regs := s.dev.regs, counters := s.dev.counters, hstacks := s.dev.hstacks, out := s.dev.out } = s.dev ∧
        ∀ q', q' ≠ q → d.stack q' = s.dev.stack q')

/-- These Thidan commands, whatever their journal entry holds, leave fabric time, every byte of memory and its protection, every tile, model, context, trigger, hoist and object as they were. -/
def Obligations.CommandFrames : Prop :=
  (∀ (s : State) (aseq : Nat),
      Does (.nop aseq) s fun d => SameBlocks s.dev d)
  ∧ (∀ (s : State) (aseq : Nat),
      Does (.devInfo aseq) s fun d => SameBlocks s.dev d)
  ∧ (∀ (s : State) (aseq : Nat),
      Does (.cmdCaps aseq) s fun d => SameBlocks s.dev d)
  ∧ (∀ (s : State) (aseq : Nat),
      Does (.chanLock aseq) s fun d => SameBlocks s.dev d)
  ∧ (∀ (s : State) (aseq : Nat),
      Does (.chanBind aseq) s fun d => SameBlocks s.dev d)
  ∧ (∀ (s : State) (aseq : Nat),
      Does (.arbAdvance aseq) s fun d => SameBlocks s.dev d)
  ∧ (∀ (s : State) (aseq : Nat),
      Does (.ownerAuthChallenge aseq) s fun d => SameBlocks s.dev d)
  ∧ (∀ (s : State) (aseq : Nat),
      Does (.tagSet aseq) s fun d => SameBlocks s.dev d)
  ∧ (∀ (s : State) (aseq : Nat),
      Does (.sampleSet aseq) s fun d => SameBlocks s.dev d)
  ∧ (∀ (s : State) (aseq : Nat),
      Does (.buntingSet aseq) s fun d => SameBlocks s.dev d)
  ∧ (∀ (s : State) (aseq : Nat),
      Does (.buntingArm aseq) s fun d => SameBlocks s.dev d)
  ∧ (∀ (s : State) (aseq : Nat),
      Does (.buntingFreeze aseq) s fun d => SameBlocks s.dev d)
  ∧ (∀ (s : State) (aseq : Nat),
      Does (.buntingFree aseq) s fun d => SameBlocks s.dev d)
  ∧ (∀ (s : State) (aseq : Nat),
      Does (.mirrorSet aseq) s fun d => SameBlocks s.dev d)
  ∧ (∀ (s : State) (aseq : Nat),
      Does (.fuseWrite aseq) s fun d => SameBlocks s.dev d)

/-- A misaligned PC, an opcode that is not listed, a reserved part that is not zero, a misaligned LD, a bad token or CSR raise their exception: it is saved and PC goes to EVEC, with no register or byte of memory changed; with no handler TILE.ERR.UNHANDLED and the record of TILE.EXC are written. -/
def Obligations.TileExceptionsAreTaken : Prop :=
  (∀ (s : State) (t : Nat) (bad : EccHits),
      s.dev.canIssue t = true →
      (s.dev.tile t).pc % 8 ≠ 0 →
      (s.dev.tile t).active = false →
      (s.dev.tile t).evec ≠ 0 →
      (s.dev.tile t).evec < 2 ^ 64 →
      (s.dev.tile t).buf = [] →
      Does (.tileNop t bad) s fun d => Takes s.dev d t ecMisaligned (s.dev.tile t).pc 0)
  ∧ (∀ (s : State) (t w : Nat) (bad : EccHits),
      s.dev.canIssue t = true →
      (s.dev.tile t).pc % 8 = 0 →
      (s.dev.tile t).pc < sramBytes →
      s.dev.poisonIn t (s.dev.tile t).pc 8 = none →
      clean bad (s.dev.tile t).pc 8 = true →
      ofLE ((s.dev.sramOf t).readN (s.dev.tile t).pc 8) = w →
      opcListed (iOpc w) = false →
      (s.dev.tile t).active = false →
      (s.dev.tile t).evec ≠ 0 →
      (s.dev.tile t).evec < 2 ^ 64 →
      (s.dev.tile t).buf = [] →
      Does (.tileNop t bad) s fun d => Takes s.dev d t ecIllegal w 0)
  ∧ (∀ (s : State) (t : Nat) (p : Nat),
      s.dev.canIssue t = true →
      (s.dev.tile t).pc % 8 = 0 →
      (s.dev.tile t).pc < sramBytes →
      s.dev.poisonIn t (s.dev.tile t).pc 8 = some p →
      (s.dev.tile t).active = false →
      (s.dev.tile t).evec ≠ 0 →
      (s.dev.tile t).evec < 2 ^ 64 →
      (s.dev.tile t).buf = [] →
      Does (.tileNop t {}) s fun d => Takes s.dev d t ecSram (s.dev.tile t).pc 0)
  ∧ (∀ (s : State) (t w : Nat) (bad : EccHits),
      Fetches s.dev t 0x01 w bad →
      resvR w = true →
      (s.dev.tile t).active = false →
      (s.dev.tile t).evec ≠ 0 →
      (s.dev.tile t).evec < 2 ^ 64 →
      (s.dev.tile t).buf = [] →
      Does (.add t bad) s fun d => Takes s.dev d t ecReserved w 0)
  ∧ (∀ (s : State) (t w : Nat) (bad : EccHits),
      Fetches s.dev t 0x18 w bad →
      resvIFn (fun f => decide (f < 8)) w = false →
      ((s.dev.tile t).reg (iRs1 w) + (imm64 w).toNat) % 2 ^ 64 % accSize (iFn w) ≠ 0 →
      (s.dev.tile t).active = false →
      (s.dev.tile t).evec ≠ 0 →
      (s.dev.tile t).evec < 2 ^ 64 →
      (s.dev.tile t).buf = [] →
      Does (.ld t bad) s fun d => Takes s.dev d t ecMisaligned (((s.dev.tile t).reg (iRs1 w) + (imm64 w).toNat) % 2 ^ 64) 0)
  ∧ (∀ (s : State) (t w : Nat) (bad : EccHits),
      Fetches s.dev t 0x29 w bad →
      resvR w = false →
      (s.dev.tile t).reg (iRs1 w) / 2 ^ 62 = 3 →
      (s.dev.tile t).active = false →
      (s.dev.tile t).evec ≠ 0 →
      (s.dev.tile t).evec < 2 ^ 64 →
      (s.dev.tile t).buf = [] →
      Does (.wait t bad) s fun d => Takes s.dev d t ecDesc ((s.dev.tile t).reg (iRs1 w)) 0)
  ∧ (∀ (s : State) (t w : Nat) (bad : EccHits),
      Fetches s.dev t 0x2D w bad →
      resvI w = false →
      s.dev.csr t (iImm w % 4096) = none →
      (s.dev.tile t).active = false →
      (s.dev.tile t).evec ≠ 0 →
      (s.dev.tile t).evec < 2 ^ 64 →
      (s.dev.tile t).buf = [] →
      Does (.csrr t bad) s fun d => Takes s.dev d t ecCsr (iImm w % 4096) 0)
  ∧ (∀ (s : State) (t w : Nat) (bad : EccHits),
      Fetches s.dev t 0x01 w bad →
      resvR w = true →
      (s.dev.tile t).evec = 0 →
      (s.dev.tile t).active = false →
      (s.dev.tile t).quiet = false →
      Does (.add t bad) s fun d => d.rd R.TILE_ERR_UNHANDLED t = 1 ∧ d.rd R.TILE_EXC0_VALID t = 1 ∧ d.rd R.TILE_EXC0_CAUSE t = ecReserved ∧
        (d.tile t).ending = some ecReserved)

/-- Thidan answers with NOT_PERMITTED, and does not begin, a well-formed command that the channel's role may not give, that an OWNER channel gives before OWNER_AUTH, or that a TENANT channel gives for another burgee. -/
def Obligations.PermissionsOfChannels : Prop :=
  (∀ (s : State) (ch op : Nat) (rest : List Nat) (k : CmdPkt) (q : List CmdPkt) (roles : Nat) (lay : List Nat),
      s.dev.mgmt.thdDown = false →
      s.dev.mgmt.journal.length < 256 →
      s.dev.accepts = true →
      s.dev.nextTake = some (ch, rest) →
      (s.dev.chan ch).inq = k :: q →
      s.dev.job? s.dev.mgmt.nextAseq = none →
      k.origin = .pcie →
      bits (nth k.words 0) 31 24 = 0x11 →
      bits (nth k.words 0) 15 0 = op →
      opInfo op (nth k.words 4) = some (roles, lay) →
      bits (nth k.words 0) 23 21 = 0 ∧ bits (nth k.words 2) 21 0 = 0 ∧ nth k.words 3 = 0 →
      ((List.range 28).any fun i => nth k.words (4 + i) &&& (fullW - nth lay i) != 0) = false →
      s.dev.bootPhase ≠ bpFailed →
      bitOf roles (s.dev.chRole ch) = false ∨ (s.dev.chRole ch = 1 ∧ (s.dev.chan ch).auth = false ∧ openOps.contains op = false) ∨
        (s.dev.chRole ch = 0 ∧ bits (nth k.words 2) 31 23 ≠ s.dev.chBurgee ch) →
      Does (.commandTaken) s fun d => d.job? s.dev.mgmt.nextAseq = none ∧ (d.chan ch).inq = q ∧
        (d.chan ch).cplq.getLast? = some (cplWords 0 op (nth k.words 1) St.notPermitted ch 5 []))

/-- For every FP32 word that is not a NaN, rounding the value that it stands for gives the word again, in both overflow modes where it is finite. -/
def Obligations.Fp32RoundsToItself : Prop :=
  ∀ (w : Nat) (inf : Bool), w < 2 ^ 32 → (of32 w).isNan = false → ((of32 w).isInf = false ∨ inf = true) → round32 (of32 w) inf = w

/-- A scale byte below 0xFF multiplies an element by 2^(x − 127), from 2^-127 to 2^127, and leaves its sign, its zero and its special values as they are; 0xFF makes it NaN. -/
def Obligations.ScaleBytesArePowersOfTwo : Prop :=
  (∀ (c e x : Nat) (n : Bool) (m : Nat) (k : Int), x ≤ 254 → (fmtFp c).decode e = .fin n m k →
      mxVal c x e = .fin n m (k + ((x : Int) - 127))) ∧
    (∀ (c e x : Nat), x ≤ 254 → ((fmtFp c).decode e).special = true → mxVal c x e = (fmtFp c).decode e) ∧
    ∀ c e : Nat, mxVal c 0xFF e = .nan

/-- The 128 values of an MX group are its elements times the scale of their block of 32; every element of a block whose scale is 0xFF is NaN, whatever its bits. -/
def Obligations.MxElementsOfBlocks : Prop :=
  ∀ (c : Nat) (bs : List Nat) (k : Nat), k < 128 →
    (groupVals c bs)[k]? = some (if nth bs (k / 32) = 0xFF then .nan
      else ((fmtFp c).decode (mxElem c (bs.drop 4) k)).scale ((nth bs (k / 32) : Int) - 127))

/-- VREDSUM leaves in lane 0 the 64 lanes added in ascending order, one FP32 addition a step, beginning with lane 0. VREDMAX leaves there the largest lane: NaN when any lane is NaN, +0 when the zeros compared differ in sign, and else a lane that no lane exceeds. -/
def Obligations.VectorReductions : Prop :=
  ∀ (s : State) (t w : Nat) (bad : EccHits), resvV [iRd w, iRs1 w] (· = 0) w = false → iMaskEn w = false →
    (s.dev.tile t).v.length = 16 → ((s.dev.tile t).vreg (iRs1 w)).length = 64 →
    (∀ a ∈ (s.dev.tile t).vreg (iRs1 w), a < 2 ^ 32) →
    (Fetches s.dev t 0x4D w bad → Does (.vredsum t bad) s fun d => nth ((d.tile t).vreg (iRd w)) 0 =
      (((s.dev.tile t).vreg (iRs1 w)).drop 1).foldl (fun a b => add32 a b (iOvf w)) (nth ((s.dev.tile t).vreg (iRs1 w)) 0)) ∧
    (Fetches s.dev t 0x4E w bad → Does (.vredmax t bad) s fun d =>
      let ls := (s.dev.tile t).vreg (iRs1 w)
      let r := nth ((d.tile t).vreg (iRd w)) 0
      if ls.any (fun a => (of32 a).isNan) then (of32 r).isNan = true
      else (∀ a ∈ ls, (of32 r).lt (of32 a) = false) ∧
        (if 0 ∈ ls ∧ 2 ^ 31 ∈ ls ∧ (of32 r).isZero = true then r = 0 else r ∈ ls))
end

