-- ==== Sys2Proof/Laws/State.lean ====
section
/-! SUPPORT. What each named update of the device leaves alone: one lemma for each field, so that no proof unfolds an
update.  A field that an update writes has its own lemma in `Laws/Ops.lean`. -/

namespace Sys2Proof.Machine

variable (d : Dev)

@[simp] theorem Dev.wr_now (f : Fld) (v i k : Nat) : (d.wr f v i k).now = d.now := rfl
@[simp] theorem Dev.wr_freeCtr (f : Fld) (v i k : Nat) : (d.wr f v i k).freeCtr = d.freeCtr := rfl
@[simp] theorem Dev.wr_counters (f : Fld) (v i k : Nat) : (d.wr f v i k).counters = d.counters := rfl
@[simp] theorem Dev.wr_out (f : Fld) (v i k : Nat) : (d.wr f v i k).out = d.out := rfl
@[simp] theorem Dev.wr_net (f : Fld) (v i k : Nat) : (d.wr f v i k).net = d.net := rfl
@[simp] theorem Dev.wr_mgmt (f : Fld) (v i k : Nat) : (d.wr f v i k).mgmt = d.mgmt := rfl
@[simp] theorem Dev.wr_tel (f : Fld) (v i k : Nat) : (d.wr f v i k).tel = d.tel := rfl
@[simp] theorem Dev.wr_time (f : Fld) (v i k : Nat) : (d.wr f v i k).time = d.time := rfl
@[simp] theorem Dev.wr_sec (f : Fld) (v i k : Nat) : (d.wr f v i k).sec = d.sec := rfl
@[simp] theorem Dev.wr_red (f : Fld) (v i k : Nat) : (d.wr f v i k).red = d.red := rfl
@[simp] theorem Dev.wr_sram (f : Fld) (v i k : Nat) : (d.wr f v i k).sram = d.sram := rfl
@[simp] theorem Dev.wr_hbm (f : Fld) (v i k : Nat) : (d.wr f v i k).hbm = d.hbm := rfl
@[simp] theorem Dev.wr_ecc (f : Fld) (v i k : Nat) : (d.wr f v i k).ecc = d.ecc := rfl
@[simp] theorem Dev.wr_hstacks (f : Fld) (v i k : Nat) : (d.wr f v i k).hstacks = d.hstacks := rfl
@[simp] theorem Dev.wr_tiles (f : Fld) (v i k : Nat) : (d.wr f v i k).tiles = d.tiles := rfl
@[simp] theorem Dev.wr_models (f : Fld) (v i k : Nat) : (d.wr f v i k).models = d.models := rfl
@[simp] theorem Dev.wr_store (f : Fld) (v i k : Nat) : (d.wr f v i k).store = d.store := rfl

@[simp] theorem Dev.set_now (f : Fld) (i k : Nat) : (d.set f i k).now = d.now := rfl
@[simp] theorem Dev.set_freeCtr (f : Fld) (i k : Nat) : (d.set f i k).freeCtr = d.freeCtr := rfl
@[simp] theorem Dev.set_counters (f : Fld) (i k : Nat) : (d.set f i k).counters = d.counters := rfl
@[simp] theorem Dev.set_out (f : Fld) (i k : Nat) : (d.set f i k).out = d.out := rfl
@[simp] theorem Dev.set_net (f : Fld) (i k : Nat) : (d.set f i k).net = d.net := rfl
@[simp] theorem Dev.set_mgmt (f : Fld) (i k : Nat) : (d.set f i k).mgmt = d.mgmt := rfl
@[simp] theorem Dev.set_tel (f : Fld) (i k : Nat) : (d.set f i k).tel = d.tel := rfl
@[simp] theorem Dev.set_time (f : Fld) (i k : Nat) : (d.set f i k).time = d.time := rfl
@[simp] theorem Dev.set_sec (f : Fld) (i k : Nat) : (d.set f i k).sec = d.sec := rfl
@[simp] theorem Dev.set_red (f : Fld) (i k : Nat) : (d.set f i k).red = d.red := rfl
@[simp] theorem Dev.set_sram (f : Fld) (i k : Nat) : (d.set f i k).sram = d.sram := rfl
@[simp] theorem Dev.set_hbm (f : Fld) (i k : Nat) : (d.set f i k).hbm = d.hbm := rfl
@[simp] theorem Dev.set_ecc (f : Fld) (i k : Nat) : (d.set f i k).ecc = d.ecc := rfl
@[simp] theorem Dev.set_hstacks (f : Fld) (i k : Nat) : (d.set f i k).hstacks = d.hstacks := rfl
@[simp] theorem Dev.set_tiles (f : Fld) (i k : Nat) : (d.set f i k).tiles = d.tiles := rfl
@[simp] theorem Dev.set_models (f : Fld) (i k : Nat) : (d.set f i k).models = d.models := rfl
@[simp] theorem Dev.set_store (f : Fld) (i k : Nat) : (d.set f i k).store = d.store := rfl

@[simp] theorem Dev.clr_now (f : Fld) (i k : Nat) : (d.clr f i k).now = d.now := rfl
@[simp] theorem Dev.clr_freeCtr (f : Fld) (i k : Nat) : (d.clr f i k).freeCtr = d.freeCtr := rfl
@[simp] theorem Dev.clr_counters (f : Fld) (i k : Nat) : (d.clr f i k).counters = d.counters := rfl
@[simp] theorem Dev.clr_out (f : Fld) (i k : Nat) : (d.clr f i k).out = d.out := rfl
@[simp] theorem Dev.clr_net (f : Fld) (i k : Nat) : (d.clr f i k).net = d.net := rfl
@[simp] theorem Dev.clr_mgmt (f : Fld) (i k : Nat) : (d.clr f i k).mgmt = d.mgmt := rfl
@[simp] theorem Dev.clr_tel (f : Fld) (i k : Nat) : (d.clr f i k).tel = d.tel := rfl
@[simp] theorem Dev.clr_time (f : Fld) (i k : Nat) : (d.clr f i k).time = d.time := rfl
@[simp] theorem Dev.clr_sec (f : Fld) (i k : Nat) : (d.clr f i k).sec = d.sec := rfl
@[simp] theorem Dev.clr_red (f : Fld) (i k : Nat) : (d.clr f i k).red = d.red := rfl
@[simp] theorem Dev.clr_sram (f : Fld) (i k : Nat) : (d.clr f i k).sram = d.sram := rfl
@[simp] theorem Dev.clr_hbm (f : Fld) (i k : Nat) : (d.clr f i k).hbm = d.hbm := rfl
@[simp] theorem Dev.clr_ecc (f : Fld) (i k : Nat) : (d.clr f i k).ecc = d.ecc := rfl
@[simp] theorem Dev.clr_hstacks (f : Fld) (i k : Nat) : (d.clr f i k).hstacks = d.hstacks := rfl
@[simp] theorem Dev.clr_tiles (f : Fld) (i k : Nat) : (d.clr f i k).tiles = d.tiles := rfl
@[simp] theorem Dev.clr_models (f : Fld) (i k : Nat) : (d.clr f i k).models = d.models := rfl
@[simp] theorem Dev.clr_store (f : Fld) (i k : Nat) : (d.clr f i k).store = d.store := rfl

@[simp] theorem Dev.bump_now (f : Fld) (i k n : Nat) : (d.bump f i k n).now = d.now := rfl
@[simp] theorem Dev.bump_freeCtr (f : Fld) (i k n : Nat) : (d.bump f i k n).freeCtr = d.freeCtr := rfl
@[simp] theorem Dev.bump_counters (f : Fld) (i k n : Nat) : (d.bump f i k n).counters = d.counters := rfl
@[simp] theorem Dev.bump_out (f : Fld) (i k n : Nat) : (d.bump f i k n).out = d.out := rfl
@[simp] theorem Dev.bump_net (f : Fld) (i k n : Nat) : (d.bump f i k n).net = d.net := rfl
@[simp] theorem Dev.bump_mgmt (f : Fld) (i k n : Nat) : (d.bump f i k n).mgmt = d.mgmt := rfl
@[simp] theorem Dev.bump_tel (f : Fld) (i k n : Nat) : (d.bump f i k n).tel = d.tel := rfl
@[simp] theorem Dev.bump_time (f : Fld) (i k n : Nat) : (d.bump f i k n).time = d.time := rfl
@[simp] theorem Dev.bump_sec (f : Fld) (i k n : Nat) : (d.bump f i k n).sec = d.sec := rfl
@[simp] theorem Dev.bump_red (f : Fld) (i k n : Nat) : (d.bump f i k n).red = d.red := rfl
@[simp] theorem Dev.bump_sram (f : Fld) (i k n : Nat) : (d.bump f i k n).sram = d.sram := rfl
@[simp] theorem Dev.bump_hbm (f : Fld) (i k n : Nat) : (d.bump f i k n).hbm = d.hbm := rfl
@[simp] theorem Dev.bump_ecc (f : Fld) (i k n : Nat) : (d.bump f i k n).ecc = d.ecc := rfl
@[simp] theorem Dev.bump_hstacks (f : Fld) (i k n : Nat) : (d.bump f i k n).hstacks = d.hstacks := rfl
@[simp] theorem Dev.bump_tiles (f : Fld) (i k n : Nat) : (d.bump f i k n).tiles = d.tiles := rfl
@[simp] theorem Dev.bump_models (f : Fld) (i k n : Nat) : (d.bump f i k n).models = d.models := rfl
@[simp] theorem Dev.bump_store (f : Fld) (i k n : Nat) : (d.bump f i k n).store = d.store := rfl

@[simp] theorem Dev.wrSat_now (f : Fld) (v i k : Nat) : (d.wrSat f v i k).now = d.now := rfl
@[simp] theorem Dev.wrSat_freeCtr (f : Fld) (v i k : Nat) : (d.wrSat f v i k).freeCtr = d.freeCtr := rfl
@[simp] theorem Dev.wrSat_counters (f : Fld) (v i k : Nat) : (d.wrSat f v i k).counters = d.counters := rfl
@[simp] theorem Dev.wrSat_out (f : Fld) (v i k : Nat) : (d.wrSat f v i k).out = d.out := rfl
@[simp] theorem Dev.wrSat_net (f : Fld) (v i k : Nat) : (d.wrSat f v i k).net = d.net := rfl
@[simp] theorem Dev.wrSat_mgmt (f : Fld) (v i k : Nat) : (d.wrSat f v i k).mgmt = d.mgmt := rfl
@[simp] theorem Dev.wrSat_tel (f : Fld) (v i k : Nat) : (d.wrSat f v i k).tel = d.tel := rfl
@[simp] theorem Dev.wrSat_time (f : Fld) (v i k : Nat) : (d.wrSat f v i k).time = d.time := rfl
@[simp] theorem Dev.wrSat_sec (f : Fld) (v i k : Nat) : (d.wrSat f v i k).sec = d.sec := rfl
@[simp] theorem Dev.wrSat_red (f : Fld) (v i k : Nat) : (d.wrSat f v i k).red = d.red := rfl
@[simp] theorem Dev.wrSat_sram (f : Fld) (v i k : Nat) : (d.wrSat f v i k).sram = d.sram := rfl
@[simp] theorem Dev.wrSat_hbm (f : Fld) (v i k : Nat) : (d.wrSat f v i k).hbm = d.hbm := rfl
@[simp] theorem Dev.wrSat_ecc (f : Fld) (v i k : Nat) : (d.wrSat f v i k).ecc = d.ecc := rfl
@[simp] theorem Dev.wrSat_hstacks (f : Fld) (v i k : Nat) : (d.wrSat f v i k).hstacks = d.hstacks := rfl
@[simp] theorem Dev.wrSat_tiles (f : Fld) (v i k : Nat) : (d.wrSat f v i k).tiles = d.tiles := rfl
@[simp] theorem Dev.wrSat_models (f : Fld) (v i k : Nat) : (d.wrSat f v i k).models = d.models := rfl
@[simp] theorem Dev.wrSat_store (f : Fld) (v i k : Nat) : (d.wrSat f v i k).store = d.store := rfl

@[simp] theorem Dev.wrBit_now (f : Fld) (b : Nat) (v : Bool) (i k : Nat) : (d.wrBit f b v i k).now = d.now := rfl
@[simp] theorem Dev.wrBit_freeCtr (f : Fld) (b : Nat) (v : Bool) (i k : Nat) : (d.wrBit f b v i k).freeCtr = d.freeCtr := rfl
@[simp] theorem Dev.wrBit_counters (f : Fld) (b : Nat) (v : Bool) (i k : Nat) : (d.wrBit f b v i k).counters = d.counters := rfl
@[simp] theorem Dev.wrBit_out (f : Fld) (b : Nat) (v : Bool) (i k : Nat) : (d.wrBit f b v i k).out = d.out := rfl
@[simp] theorem Dev.wrBit_net (f : Fld) (b : Nat) (v : Bool) (i k : Nat) : (d.wrBit f b v i k).net = d.net := rfl
@[simp] theorem Dev.wrBit_mgmt (f : Fld) (b : Nat) (v : Bool) (i k : Nat) : (d.wrBit f b v i k).mgmt = d.mgmt := rfl
@[simp] theorem Dev.wrBit_tel (f : Fld) (b : Nat) (v : Bool) (i k : Nat) : (d.wrBit f b v i k).tel = d.tel := rfl
@[simp] theorem Dev.wrBit_time (f : Fld) (b : Nat) (v : Bool) (i k : Nat) : (d.wrBit f b v i k).time = d.time := rfl
@[simp] theorem Dev.wrBit_sec (f : Fld) (b : Nat) (v : Bool) (i k : Nat) : (d.wrBit f b v i k).sec = d.sec := rfl
@[simp] theorem Dev.wrBit_red (f : Fld) (b : Nat) (v : Bool) (i k : Nat) : (d.wrBit f b v i k).red = d.red := rfl
@[simp] theorem Dev.wrBit_sram (f : Fld) (b : Nat) (v : Bool) (i k : Nat) : (d.wrBit f b v i k).sram = d.sram := rfl
@[simp] theorem Dev.wrBit_hbm (f : Fld) (b : Nat) (v : Bool) (i k : Nat) : (d.wrBit f b v i k).hbm = d.hbm := rfl
@[simp] theorem Dev.wrBit_ecc (f : Fld) (b : Nat) (v : Bool) (i k : Nat) : (d.wrBit f b v i k).ecc = d.ecc := rfl
@[simp] theorem Dev.wrBit_hstacks (f : Fld) (b : Nat) (v : Bool) (i k : Nat) : (d.wrBit f b v i k).hstacks = d.hstacks := rfl
@[simp] theorem Dev.wrBit_tiles (f : Fld) (b : Nat) (v : Bool) (i k : Nat) : (d.wrBit f b v i k).tiles = d.tiles := rfl
@[simp] theorem Dev.wrBit_models (f : Fld) (b : Nat) (v : Bool) (i k : Nat) : (d.wrBit f b v i k).models = d.models := rfl
@[simp] theorem Dev.wrBit_store (f : Fld) (b : Nat) (v : Bool) (i k : Nat) : (d.wrBit f b v i k).store = d.store := rfl

@[simp] theorem Dev.setPd_now (pd : Nat) (v : Bool) : (d.setPd pd v).now = d.now := rfl
@[simp] theorem Dev.setPd_freeCtr (pd : Nat) (v : Bool) : (d.setPd pd v).freeCtr = d.freeCtr := rfl
@[simp] theorem Dev.setPd_counters (pd : Nat) (v : Bool) : (d.setPd pd v).counters = d.counters := rfl
@[simp] theorem Dev.setPd_out (pd : Nat) (v : Bool) : (d.setPd pd v).out = d.out := rfl
@[simp] theorem Dev.setPd_net (pd : Nat) (v : Bool) : (d.setPd pd v).net = d.net := rfl
@[simp] theorem Dev.setPd_mgmt (pd : Nat) (v : Bool) : (d.setPd pd v).mgmt = d.mgmt := rfl
@[simp] theorem Dev.setPd_tel (pd : Nat) (v : Bool) : (d.setPd pd v).tel = d.tel := rfl
@[simp] theorem Dev.setPd_time (pd : Nat) (v : Bool) : (d.setPd pd v).time = d.time := rfl
@[simp] theorem Dev.setPd_sec (pd : Nat) (v : Bool) : (d.setPd pd v).sec = d.sec := rfl
@[simp] theorem Dev.setPd_red (pd : Nat) (v : Bool) : (d.setPd pd v).red = d.red := rfl
@[simp] theorem Dev.setPd_sram (pd : Nat) (v : Bool) : (d.setPd pd v).sram = d.sram := rfl
@[simp] theorem Dev.setPd_hbm (pd : Nat) (v : Bool) : (d.setPd pd v).hbm = d.hbm := rfl
@[simp] theorem Dev.setPd_ecc (pd : Nat) (v : Bool) : (d.setPd pd v).ecc = d.ecc := rfl
@[simp] theorem Dev.setPd_hstacks (pd : Nat) (v : Bool) : (d.setPd pd v).hstacks = d.hstacks := rfl
@[simp] theorem Dev.setPd_tiles (pd : Nat) (v : Bool) : (d.setPd pd v).tiles = d.tiles := rfl
@[simp] theorem Dev.setPd_models (pd : Nat) (v : Bool) : (d.setPd pd v).models = d.models := rfl
@[simp] theorem Dev.setPd_store (pd : Nat) (v : Bool) : (d.setPd pd v).store = d.store := rfl

@[simp] theorem Dev.resetFields_now (ids : List Nat) (p : Nat → Bool) : (d.resetFields ids p).now = d.now := rfl
@[simp] theorem Dev.resetFields_freeCtr (ids : List Nat) (p : Nat → Bool) : (d.resetFields ids p).freeCtr = d.freeCtr := rfl
@[simp] theorem Dev.resetFields_counters (ids : List Nat) (p : Nat → Bool) : (d.resetFields ids p).counters = d.counters := rfl
@[simp] theorem Dev.resetFields_out (ids : List Nat) (p : Nat → Bool) : (d.resetFields ids p).out = d.out := rfl
@[simp] theorem Dev.resetFields_net (ids : List Nat) (p : Nat → Bool) : (d.resetFields ids p).net = d.net := rfl
@[simp] theorem Dev.resetFields_mgmt (ids : List Nat) (p : Nat → Bool) : (d.resetFields ids p).mgmt = d.mgmt := rfl
@[simp] theorem Dev.resetFields_tel (ids : List Nat) (p : Nat → Bool) : (d.resetFields ids p).tel = d.tel := rfl
@[simp] theorem Dev.resetFields_time (ids : List Nat) (p : Nat → Bool) : (d.resetFields ids p).time = d.time := rfl
@[simp] theorem Dev.resetFields_sec (ids : List Nat) (p : Nat → Bool) : (d.resetFields ids p).sec = d.sec := rfl
@[simp] theorem Dev.resetFields_red (ids : List Nat) (p : Nat → Bool) : (d.resetFields ids p).red = d.red := rfl
@[simp] theorem Dev.resetFields_sram (ids : List Nat) (p : Nat → Bool) : (d.resetFields ids p).sram = d.sram := rfl
@[simp] theorem Dev.resetFields_hbm (ids : List Nat) (p : Nat → Bool) : (d.resetFields ids p).hbm = d.hbm := rfl
@[simp] theorem Dev.resetFields_ecc (ids : List Nat) (p : Nat → Bool) : (d.resetFields ids p).ecc = d.ecc := rfl
@[simp] theorem Dev.resetFields_hstacks (ids : List Nat) (p : Nat → Bool) : (d.resetFields ids p).hstacks = d.hstacks := rfl
@[simp] theorem Dev.resetFields_tiles (ids : List Nat) (p : Nat → Bool) : (d.resetFields ids p).tiles = d.tiles := rfl
@[simp] theorem Dev.resetFields_models (ids : List Nat) (p : Nat → Bool) : (d.resetFields ids p).models = d.models := rfl
@[simp] theorem Dev.resetFields_store (ids : List Nat) (p : Nat → Bool) : (d.resetFields ids p).store = d.store := rfl

@[simp] theorem Dev.count_now (blk inst grp sub n : Nat) : (d.count blk inst grp sub n).now = d.now := rfl
@[simp] theorem Dev.count_freeCtr (blk inst grp sub n : Nat) : (d.count blk inst grp sub n).freeCtr = d.freeCtr := rfl
@[simp] theorem Dev.count_regs (blk inst grp sub n : Nat) : (d.count blk inst grp sub n).regs = d.regs := rfl
@[simp] theorem Dev.count_out (blk inst grp sub n : Nat) : (d.count blk inst grp sub n).out = d.out := rfl
@[simp] theorem Dev.count_net (blk inst grp sub n : Nat) : (d.count blk inst grp sub n).net = d.net := rfl
@[simp] theorem Dev.count_mgmt (blk inst grp sub n : Nat) : (d.count blk inst grp sub n).mgmt = d.mgmt := rfl
@[simp] theorem Dev.count_tel (blk inst grp sub n : Nat) : (d.count blk inst grp sub n).tel = d.tel := rfl
@[simp] theorem Dev.count_time (blk inst grp sub n : Nat) : (d.count blk inst grp sub n).time = d.time := rfl
@[simp] theorem Dev.count_sec (blk inst grp sub n : Nat) : (d.count blk inst grp sub n).sec = d.sec := rfl
@[simp] theorem Dev.count_red (blk inst grp sub n : Nat) : (d.count blk inst grp sub n).red = d.red := rfl
@[simp] theorem Dev.count_sram (blk inst grp sub n : Nat) : (d.count blk inst grp sub n).sram = d.sram := rfl
@[simp] theorem Dev.count_hbm (blk inst grp sub n : Nat) : (d.count blk inst grp sub n).hbm = d.hbm := rfl
@[simp] theorem Dev.count_ecc (blk inst grp sub n : Nat) : (d.count blk inst grp sub n).ecc = d.ecc := rfl
@[simp] theorem Dev.count_hstacks (blk inst grp sub n : Nat) : (d.count blk inst grp sub n).hstacks = d.hstacks := rfl
@[simp] theorem Dev.count_tiles (blk inst grp sub n : Nat) : (d.count blk inst grp sub n).tiles = d.tiles := rfl
@[simp] theorem Dev.count_models (blk inst grp sub n : Nat) : (d.count blk inst grp sub n).models = d.models := rfl
@[simp] theorem Dev.count_store (blk inst grp sub n : Nat) : (d.count blk inst grp sub n).store = d.store := rfl

@[simp] theorem Dev.emit_now (o : Out) : (d.emit o).now = d.now := rfl
@[simp] theorem Dev.emit_freeCtr (o : Out) : (d.emit o).freeCtr = d.freeCtr := rfl
@[simp] theorem Dev.emit_regs (o : Out) : (d.emit o).regs = d.regs := rfl
@[simp] theorem Dev.emit_counters (o : Out) : (d.emit o).counters = d.counters := rfl
@[simp] theorem Dev.emit_net (o : Out) : (d.emit o).net = d.net := rfl
@[simp] theorem Dev.emit_mgmt (o : Out) : (d.emit o).mgmt = d.mgmt := rfl
@[simp] theorem Dev.emit_tel (o : Out) : (d.emit o).tel = d.tel := rfl
@[simp] theorem Dev.emit_time (o : Out) : (d.emit o).time = d.time := rfl
@[simp] theorem Dev.emit_sec (o : Out) : (d.emit o).sec = d.sec := rfl
@[simp] theorem Dev.emit_red (o : Out) : (d.emit o).red = d.red := rfl
@[simp] theorem Dev.emit_sram (o : Out) : (d.emit o).sram = d.sram := rfl
@[simp] theorem Dev.emit_hbm (o : Out) : (d.emit o).hbm = d.hbm := rfl
@[simp] theorem Dev.emit_ecc (o : Out) : (d.emit o).ecc = d.ecc := rfl
@[simp] theorem Dev.emit_hstacks (o : Out) : (d.emit o).hstacks = d.hstacks := rfl
@[simp] theorem Dev.emit_tiles (o : Out) : (d.emit o).tiles = d.tiles := rfl
@[simp] theorem Dev.emit_models (o : Out) : (d.emit o).models = d.models := rfl
@[simp] theorem Dev.emit_store (o : Out) : (d.emit o).store = d.store := rfl

@[simp] theorem Dev.usedFree_now : (d.usedFree).now = d.now := rfl
@[simp] theorem Dev.usedFree_regs : (d.usedFree).regs = d.regs := rfl
@[simp] theorem Dev.usedFree_counters : (d.usedFree).counters = d.counters := rfl
@[simp] theorem Dev.usedFree_out : (d.usedFree).out = d.out := rfl
@[simp] theorem Dev.usedFree_net : (d.usedFree).net = d.net := rfl
@[simp] theorem Dev.usedFree_mgmt : (d.usedFree).mgmt = d.mgmt := rfl
@[simp] theorem Dev.usedFree_tel : (d.usedFree).tel = d.tel := rfl
@[simp] theorem Dev.usedFree_time : (d.usedFree).time = d.time := rfl
@[simp] theorem Dev.usedFree_sec : (d.usedFree).sec = d.sec := rfl
@[simp] theorem Dev.usedFree_red : (d.usedFree).red = d.red := rfl
@[simp] theorem Dev.usedFree_sram : (d.usedFree).sram = d.sram := rfl
@[simp] theorem Dev.usedFree_hbm : (d.usedFree).hbm = d.hbm := rfl
@[simp] theorem Dev.usedFree_ecc : (d.usedFree).ecc = d.ecc := rfl
@[simp] theorem Dev.usedFree_hstacks : (d.usedFree).hstacks = d.hstacks := rfl
@[simp] theorem Dev.usedFree_tiles : (d.usedFree).tiles = d.tiles := rfl
@[simp] theorem Dev.usedFree_models : (d.usedFree).models = d.models := rfl
@[simp] theorem Dev.usedFree_store : (d.usedFree).store = d.store := rfl

@[simp] theorem Dev.modBoot_now (f : Boot → Boot) : (d.modBoot f).now = d.now := rfl
@[simp] theorem Dev.modBoot_freeCtr (f : Boot → Boot) : (d.modBoot f).freeCtr = d.freeCtr := rfl
@[simp] theorem Dev.modBoot_regs (f : Boot → Boot) : (d.modBoot f).regs = d.regs := rfl
@[simp] theorem Dev.modBoot_counters (f : Boot → Boot) : (d.modBoot f).counters = d.counters := rfl
@[simp] theorem Dev.modBoot_out (f : Boot → Boot) : (d.modBoot f).out = d.out := rfl
@[simp] theorem Dev.modBoot_net (f : Boot → Boot) : (d.modBoot f).net = d.net := rfl
@[simp] theorem Dev.modBoot_tel (f : Boot → Boot) : (d.modBoot f).tel = d.tel := rfl
@[simp] theorem Dev.modBoot_time (f : Boot → Boot) : (d.modBoot f).time = d.time := rfl
@[simp] theorem Dev.modBoot_sec (f : Boot → Boot) : (d.modBoot f).sec = d.sec := rfl
@[simp] theorem Dev.modBoot_red (f : Boot → Boot) : (d.modBoot f).red = d.red := rfl
@[simp] theorem Dev.modBoot_sram (f : Boot → Boot) : (d.modBoot f).sram = d.sram := rfl
@[simp] theorem Dev.modBoot_hbm (f : Boot → Boot) : (d.modBoot f).hbm = d.hbm := rfl
@[simp] theorem Dev.modBoot_ecc (f : Boot → Boot) : (d.modBoot f).ecc = d.ecc := rfl
@[simp] theorem Dev.modBoot_hstacks (f : Boot → Boot) : (d.modBoot f).hstacks = d.hstacks := rfl
@[simp] theorem Dev.modBoot_tiles (f : Boot → Boot) : (d.modBoot f).tiles = d.tiles := rfl
@[simp] theorem Dev.modBoot_models (f : Boot → Boot) : (d.modBoot f).models = d.models := rfl
@[simp] theorem Dev.modBoot_store (f : Boot → Boot) : (d.modBoot f).store = d.store := rfl

@[simp] theorem Dev.modPwr_now (f : PwrSt → PwrSt) : (d.modPwr f).now = d.now := rfl
@[simp] theorem Dev.modPwr_freeCtr (f : PwrSt → PwrSt) : (d.modPwr f).freeCtr = d.freeCtr := rfl
@[simp] theorem Dev.modPwr_regs (f : PwrSt → PwrSt) : (d.modPwr f).regs = d.regs := rfl
@[simp] theorem Dev.modPwr_counters (f : PwrSt → PwrSt) : (d.modPwr f).counters = d.counters := rfl
@[simp] theorem Dev.modPwr_out (f : PwrSt → PwrSt) : (d.modPwr f).out = d.out := rfl
@[simp] theorem Dev.modPwr_net (f : PwrSt → PwrSt) : (d.modPwr f).net = d.net := rfl
@[simp] theorem Dev.modPwr_tel (f : PwrSt → PwrSt) : (d.modPwr f).tel = d.tel := rfl
@[simp] theorem Dev.modPwr_time (f : PwrSt → PwrSt) : (d.modPwr f).time = d.time := rfl
@[simp] theorem Dev.modPwr_sec (f : PwrSt → PwrSt) : (d.modPwr f).sec = d.sec := rfl
@[simp] theorem Dev.modPwr_red (f : PwrSt → PwrSt) : (d.modPwr f).red = d.red := rfl
@[simp] theorem Dev.modPwr_sram (f : PwrSt → PwrSt) : (d.modPwr f).sram = d.sram := rfl
@[simp] theorem Dev.modPwr_hbm (f : PwrSt → PwrSt) : (d.modPwr f).hbm = d.hbm := rfl
@[simp] theorem Dev.modPwr_ecc (f : PwrSt → PwrSt) : (d.modPwr f).ecc = d.ecc := rfl
@[simp] theorem Dev.modPwr_hstacks (f : PwrSt → PwrSt) : (d.modPwr f).hstacks = d.hstacks := rfl
@[simp] theorem Dev.modPwr_tiles (f : PwrSt → PwrSt) : (d.modPwr f).tiles = d.tiles := rfl
@[simp] theorem Dev.modPwr_models (f : PwrSt → PwrSt) : (d.modPwr f).models = d.models := rfl
@[simp] theorem Dev.modPwr_store (f : PwrSt → PwrSt) : (d.modPwr f).store = d.store := rfl

@[simp] theorem Dev.setChan_now (ch : Nat) (c : Chan) : (d.setChan ch c).now = d.now := rfl
@[simp] theorem Dev.setChan_freeCtr (ch : Nat) (c : Chan) : (d.setChan ch c).freeCtr = d.freeCtr := rfl
@[simp] theorem Dev.setChan_regs (ch : Nat) (c : Chan) : (d.setChan ch c).regs = d.regs := rfl
@[simp] theorem Dev.setChan_counters (ch : Nat) (c : Chan) : (d.setChan ch c).counters = d.counters := rfl
@[simp] theorem Dev.setChan_out (ch : Nat) (c : Chan) : (d.setChan ch c).out = d.out := rfl
@[simp] theorem Dev.setChan_net (ch : Nat) (c : Chan) : (d.setChan ch c).net = d.net := rfl
@[simp] theorem Dev.setChan_tel (ch : Nat) (c : Chan) : (d.setChan ch c).tel = d.tel := rfl
@[simp] theorem Dev.setChan_time (ch : Nat) (c : Chan) : (d.setChan ch c).time = d.time := rfl
@[simp] theorem Dev.setChan_sec (ch : Nat) (c : Chan) : (d.setChan ch c).sec = d.sec := rfl
@[simp] theorem Dev.setChan_red (ch : Nat) (c : Chan) : (d.setChan ch c).red = d.red := rfl
@[simp] theorem Dev.setChan_sram (ch : Nat) (c : Chan) : (d.setChan ch c).sram = d.sram := rfl
@[simp] theorem Dev.setChan_hbm (ch : Nat) (c : Chan) : (d.setChan ch c).hbm = d.hbm := rfl
@[simp] theorem Dev.setChan_ecc (ch : Nat) (c : Chan) : (d.setChan ch c).ecc = d.ecc := rfl
@[simp] theorem Dev.setChan_hstacks (ch : Nat) (c : Chan) : (d.setChan ch c).hstacks = d.hstacks := rfl
@[simp] theorem Dev.setChan_tiles (ch : Nat) (c : Chan) : (d.setChan ch c).tiles = d.tiles := rfl
@[simp] theorem Dev.setChan_models (ch : Nat) (c : Chan) : (d.setChan ch c).models = d.models := rfl
@[simp] theorem Dev.setChan_store (ch : Nat) (c : Chan) : (d.setChan ch c).store = d.store := rfl

@[simp] theorem Dev.modJob_now (a : Nat) (f : JEntry → JEntry) : (d.modJob a f).now = d.now := rfl
@[simp] theorem Dev.modJob_freeCtr (a : Nat) (f : JEntry → JEntry) : (d.modJob a f).freeCtr = d.freeCtr := rfl
@[simp] theorem Dev.modJob_regs (a : Nat) (f : JEntry → JEntry) : (d.modJob a f).regs = d.regs := rfl
@[simp] theorem Dev.modJob_counters (a : Nat) (f : JEntry → JEntry) : (d.modJob a f).counters = d.counters := rfl
@[simp] theorem Dev.modJob_out (a : Nat) (f : JEntry → JEntry) : (d.modJob a f).out = d.out := rfl
@[simp] theorem Dev.modJob_net (a : Nat) (f : JEntry → JEntry) : (d.modJob a f).net = d.net := rfl
@[simp] theorem Dev.modJob_tel (a : Nat) (f : JEntry → JEntry) : (d.modJob a f).tel = d.tel := rfl
@[simp] theorem Dev.modJob_time (a : Nat) (f : JEntry → JEntry) : (d.modJob a f).time = d.time := rfl
@[simp] theorem Dev.modJob_sec (a : Nat) (f : JEntry → JEntry) : (d.modJob a f).sec = d.sec := rfl
@[simp] theorem Dev.modJob_red (a : Nat) (f : JEntry → JEntry) : (d.modJob a f).red = d.red := rfl
@[simp] theorem Dev.modJob_sram (a : Nat) (f : JEntry → JEntry) : (d.modJob a f).sram = d.sram := rfl
@[simp] theorem Dev.modJob_hbm (a : Nat) (f : JEntry → JEntry) : (d.modJob a f).hbm = d.hbm := rfl
@[simp] theorem Dev.modJob_ecc (a : Nat) (f : JEntry → JEntry) : (d.modJob a f).ecc = d.ecc := rfl
@[simp] theorem Dev.modJob_hstacks (a : Nat) (f : JEntry → JEntry) : (d.modJob a f).hstacks = d.hstacks := rfl
@[simp] theorem Dev.modJob_tiles (a : Nat) (f : JEntry → JEntry) : (d.modJob a f).tiles = d.tiles := rfl
@[simp] theorem Dev.modJob_models (a : Nat) (f : JEntry → JEntry) : (d.modJob a f).models = d.models := rfl
@[simp] theorem Dev.modJob_store (a : Nat) (f : JEntry → JEntry) : (d.modJob a f).store = d.store := rfl

@[simp] theorem Dev.setLink_now (p : Nat) (x : Link) : (d.setLink p x).now = d.now := rfl
@[simp] theorem Dev.setLink_freeCtr (p : Nat) (x : Link) : (d.setLink p x).freeCtr = d.freeCtr := rfl
@[simp] theorem Dev.setLink_regs (p : Nat) (x : Link) : (d.setLink p x).regs = d.regs := rfl
@[simp] theorem Dev.setLink_counters (p : Nat) (x : Link) : (d.setLink p x).counters = d.counters := rfl
@[simp] theorem Dev.setLink_out (p : Nat) (x : Link) : (d.setLink p x).out = d.out := rfl
@[simp] theorem Dev.setLink_mgmt (p : Nat) (x : Link) : (d.setLink p x).mgmt = d.mgmt := rfl
@[simp] theorem Dev.setLink_tel (p : Nat) (x : Link) : (d.setLink p x).tel = d.tel := rfl
@[simp] theorem Dev.setLink_time (p : Nat) (x : Link) : (d.setLink p x).time = d.time := rfl
@[simp] theorem Dev.setLink_sec (p : Nat) (x : Link) : (d.setLink p x).sec = d.sec := rfl
@[simp] theorem Dev.setLink_red (p : Nat) (x : Link) : (d.setLink p x).red = d.red := rfl
@[simp] theorem Dev.setLink_sram (p : Nat) (x : Link) : (d.setLink p x).sram = d.sram := rfl
@[simp] theorem Dev.setLink_hbm (p : Nat) (x : Link) : (d.setLink p x).hbm = d.hbm := rfl
@[simp] theorem Dev.setLink_ecc (p : Nat) (x : Link) : (d.setLink p x).ecc = d.ecc := rfl
@[simp] theorem Dev.setLink_hstacks (p : Nat) (x : Link) : (d.setLink p x).hstacks = d.hstacks := rfl
@[simp] theorem Dev.setLink_tiles (p : Nat) (x : Link) : (d.setLink p x).tiles = d.tiles := rfl
@[simp] theorem Dev.setLink_models (p : Nat) (x : Link) : (d.setLink p x).models = d.models := rfl
@[simp] theorem Dev.setLink_store (p : Nat) (x : Link) : (d.setLink p x).store = d.store := rfl

@[simp] theorem Dev.modLink_now (p : Nat) (f : Link → Link) : (d.modLink p f).now = d.now := rfl
@[simp] theorem Dev.modLink_freeCtr (p : Nat) (f : Link → Link) : (d.modLink p f).freeCtr = d.freeCtr := rfl
@[simp] theorem Dev.modLink_regs (p : Nat) (f : Link → Link) : (d.modLink p f).regs = d.regs := rfl
@[simp] theorem Dev.modLink_counters (p : Nat) (f : Link → Link) : (d.modLink p f).counters = d.counters := rfl
@[simp] theorem Dev.modLink_out (p : Nat) (f : Link → Link) : (d.modLink p f).out = d.out := rfl
@[simp] theorem Dev.modLink_mgmt (p : Nat) (f : Link → Link) : (d.modLink p f).mgmt = d.mgmt := rfl
@[simp] theorem Dev.modLink_tel (p : Nat) (f : Link → Link) : (d.modLink p f).tel = d.tel := rfl
@[simp] theorem Dev.modLink_time (p : Nat) (f : Link → Link) : (d.modLink p f).time = d.time := rfl
@[simp] theorem Dev.modLink_sec (p : Nat) (f : Link → Link) : (d.modLink p f).sec = d.sec := rfl
@[simp] theorem Dev.modLink_red (p : Nat) (f : Link → Link) : (d.modLink p f).red = d.red := rfl
@[simp] theorem Dev.modLink_sram (p : Nat) (f : Link → Link) : (d.modLink p f).sram = d.sram := rfl
@[simp] theorem Dev.modLink_hbm (p : Nat) (f : Link → Link) : (d.modLink p f).hbm = d.hbm := rfl
@[simp] theorem Dev.modLink_ecc (p : Nat) (f : Link → Link) : (d.modLink p f).ecc = d.ecc := rfl
@[simp] theorem Dev.modLink_hstacks (p : Nat) (f : Link → Link) : (d.modLink p f).hstacks = d.hstacks := rfl
@[simp] theorem Dev.modLink_tiles (p : Nat) (f : Link → Link) : (d.modLink p f).tiles = d.tiles := rfl
@[simp] theorem Dev.modLink_models (p : Nat) (f : Link → Link) : (d.modLink p f).models = d.models := rfl
@[simp] theorem Dev.modLink_store (p : Nat) (f : Link → Link) : (d.modLink p f).store = d.store := rfl

@[simp] theorem Dev.setPort_now (p : Nat) (x : Port) : (d.setPort p x).now = d.now := rfl
@[simp] theorem Dev.setPort_freeCtr (p : Nat) (x : Port) : (d.setPort p x).freeCtr = d.freeCtr := rfl
@[simp] theorem Dev.setPort_regs (p : Nat) (x : Port) : (d.setPort p x).regs = d.regs := rfl
@[simp] theorem Dev.setPort_counters (p : Nat) (x : Port) : (d.setPort p x).counters = d.counters := rfl
@[simp] theorem Dev.setPort_out (p : Nat) (x : Port) : (d.setPort p x).out = d.out := rfl
@[simp] theorem Dev.setPort_mgmt (p : Nat) (x : Port) : (d.setPort p x).mgmt = d.mgmt := rfl
@[simp] theorem Dev.setPort_tel (p : Nat) (x : Port) : (d.setPort p x).tel = d.tel := rfl
@[simp] theorem Dev.setPort_time (p : Nat) (x : Port) : (d.setPort p x).time = d.time := rfl
@[simp] theorem Dev.setPort_sec (p : Nat) (x : Port) : (d.setPort p x).sec = d.sec := rfl
@[simp] theorem Dev.setPort_red (p : Nat) (x : Port) : (d.setPort p x).red = d.red := rfl
@[simp] theorem Dev.setPort_sram (p : Nat) (x : Port) : (d.setPort p x).sram = d.sram := rfl
@[simp] theorem Dev.setPort_hbm (p : Nat) (x : Port) : (d.setPort p x).hbm = d.hbm := rfl
@[simp] theorem Dev.setPort_ecc (p : Nat) (x : Port) : (d.setPort p x).ecc = d.ecc := rfl
@[simp] theorem Dev.setPort_hstacks (p : Nat) (x : Port) : (d.setPort p x).hstacks = d.hstacks := rfl
@[simp] theorem Dev.setPort_tiles (p : Nat) (x : Port) : (d.setPort p x).tiles = d.tiles := rfl
@[simp] theorem Dev.setPort_models (p : Nat) (x : Port) : (d.setPort p x).models = d.models := rfl
@[simp] theorem Dev.setPort_store (p : Nat) (x : Port) : (d.setPort p x).store = d.store := rfl

@[simp] theorem Dev.setLane_now (l : Nat) (x : Lane) : (d.setLane l x).now = d.now := rfl
@[simp] theorem Dev.setLane_freeCtr (l : Nat) (x : Lane) : (d.setLane l x).freeCtr = d.freeCtr := rfl
@[simp] theorem Dev.setLane_regs (l : Nat) (x : Lane) : (d.setLane l x).regs = d.regs := rfl
@[simp] theorem Dev.setLane_counters (l : Nat) (x : Lane) : (d.setLane l x).counters = d.counters := rfl
@[simp] theorem Dev.setLane_out (l : Nat) (x : Lane) : (d.setLane l x).out = d.out := rfl
@[simp] theorem Dev.setLane_mgmt (l : Nat) (x : Lane) : (d.setLane l x).mgmt = d.mgmt := rfl
@[simp] theorem Dev.setLane_tel (l : Nat) (x : Lane) : (d.setLane l x).tel = d.tel := rfl
@[simp] theorem Dev.setLane_time (l : Nat) (x : Lane) : (d.setLane l x).time = d.time := rfl
@[simp] theorem Dev.setLane_sec (l : Nat) (x : Lane) : (d.setLane l x).sec = d.sec := rfl
@[simp] theorem Dev.setLane_red (l : Nat) (x : Lane) : (d.setLane l x).red = d.red := rfl
@[simp] theorem Dev.setLane_sram (l : Nat) (x : Lane) : (d.setLane l x).sram = d.sram := rfl
@[simp] theorem Dev.setLane_hbm (l : Nat) (x : Lane) : (d.setLane l x).hbm = d.hbm := rfl
@[simp] theorem Dev.setLane_ecc (l : Nat) (x : Lane) : (d.setLane l x).ecc = d.ecc := rfl
@[simp] theorem Dev.setLane_hstacks (l : Nat) (x : Lane) : (d.setLane l x).hstacks = d.hstacks := rfl
@[simp] theorem Dev.setLane_tiles (l : Nat) (x : Lane) : (d.setLane l x).tiles = d.tiles := rfl
@[simp] theorem Dev.setLane_models (l : Nat) (x : Lane) : (d.setLane l x).models = d.models := rfl
@[simp] theorem Dev.setLane_store (l : Nat) (x : Lane) : (d.setLane l x).store = d.store := rfl

@[simp] theorem Dev.modLane_now (l : Nat) (f : Lane → Lane) : (d.modLane l f).now = d.now := rfl
@[simp] theorem Dev.modLane_freeCtr (l : Nat) (f : Lane → Lane) : (d.modLane l f).freeCtr = d.freeCtr := rfl
@[simp] theorem Dev.modLane_regs (l : Nat) (f : Lane → Lane) : (d.modLane l f).regs = d.regs := rfl
@[simp] theorem Dev.modLane_counters (l : Nat) (f : Lane → Lane) : (d.modLane l f).counters = d.counters := rfl
@[simp] theorem Dev.modLane_out (l : Nat) (f : Lane → Lane) : (d.modLane l f).out = d.out := rfl
@[simp] theorem Dev.modLane_mgmt (l : Nat) (f : Lane → Lane) : (d.modLane l f).mgmt = d.mgmt := rfl
@[simp] theorem Dev.modLane_tel (l : Nat) (f : Lane → Lane) : (d.modLane l f).tel = d.tel := rfl
@[simp] theorem Dev.modLane_time (l : Nat) (f : Lane → Lane) : (d.modLane l f).time = d.time := rfl
@[simp] theorem Dev.modLane_sec (l : Nat) (f : Lane → Lane) : (d.modLane l f).sec = d.sec := rfl
@[simp] theorem Dev.modLane_red (l : Nat) (f : Lane → Lane) : (d.modLane l f).red = d.red := rfl
@[simp] theorem Dev.modLane_sram (l : Nat) (f : Lane → Lane) : (d.modLane l f).sram = d.sram := rfl
@[simp] theorem Dev.modLane_hbm (l : Nat) (f : Lane → Lane) : (d.modLane l f).hbm = d.hbm := rfl
@[simp] theorem Dev.modLane_ecc (l : Nat) (f : Lane → Lane) : (d.modLane l f).ecc = d.ecc := rfl
@[simp] theorem Dev.modLane_hstacks (l : Nat) (f : Lane → Lane) : (d.modLane l f).hstacks = d.hstacks := rfl
@[simp] theorem Dev.modLane_tiles (l : Nat) (f : Lane → Lane) : (d.modLane l f).tiles = d.tiles := rfl
@[simp] theorem Dev.modLane_models (l : Nat) (f : Lane → Lane) : (d.modLane l f).models = d.models := rfl
@[simp] theorem Dev.modLane_store (l : Nat) (f : Lane → Lane) : (d.modLane l f).store = d.store := rfl

@[simp] theorem Dev.setPkt_now (pid : Nat) (x : Stored) : (d.setPkt pid x).now = d.now := rfl
@[simp] theorem Dev.setPkt_freeCtr (pid : Nat) (x : Stored) : (d.setPkt pid x).freeCtr = d.freeCtr := rfl
@[simp] theorem Dev.setPkt_regs (pid : Nat) (x : Stored) : (d.setPkt pid x).regs = d.regs := rfl
@[simp] theorem Dev.setPkt_counters (pid : Nat) (x : Stored) : (d.setPkt pid x).counters = d.counters := rfl
@[simp] theorem Dev.setPkt_out (pid : Nat) (x : Stored) : (d.setPkt pid x).out = d.out := rfl
@[simp] theorem Dev.setPkt_mgmt (pid : Nat) (x : Stored) : (d.setPkt pid x).mgmt = d.mgmt := rfl
@[simp] theorem Dev.setPkt_tel (pid : Nat) (x : Stored) : (d.setPkt pid x).tel = d.tel := rfl
@[simp] theorem Dev.setPkt_time (pid : Nat) (x : Stored) : (d.setPkt pid x).time = d.time := rfl
@[simp] theorem Dev.setPkt_sec (pid : Nat) (x : Stored) : (d.setPkt pid x).sec = d.sec := rfl
@[simp] theorem Dev.setPkt_red (pid : Nat) (x : Stored) : (d.setPkt pid x).red = d.red := rfl
@[simp] theorem Dev.setPkt_sram (pid : Nat) (x : Stored) : (d.setPkt pid x).sram = d.sram := rfl
@[simp] theorem Dev.setPkt_hbm (pid : Nat) (x : Stored) : (d.setPkt pid x).hbm = d.hbm := rfl
@[simp] theorem Dev.setPkt_ecc (pid : Nat) (x : Stored) : (d.setPkt pid x).ecc = d.ecc := rfl
@[simp] theorem Dev.setPkt_hstacks (pid : Nat) (x : Stored) : (d.setPkt pid x).hstacks = d.hstacks := rfl
@[simp] theorem Dev.setPkt_tiles (pid : Nat) (x : Stored) : (d.setPkt pid x).tiles = d.tiles := rfl
@[simp] theorem Dev.setPkt_models (pid : Nat) (x : Stored) : (d.setPkt pid x).models = d.models := rfl
@[simp] theorem Dev.setPkt_store (pid : Nat) (x : Stored) : (d.setPkt pid x).store = d.store := rfl

@[simp] theorem Dev.setQueue_now (e v : Nat) (x : Queue) : (d.setQueue e v x).now = d.now := rfl
@[simp] theorem Dev.setQueue_freeCtr (e v : Nat) (x : Queue) : (d.setQueue e v x).freeCtr = d.freeCtr := rfl
@[simp] theorem Dev.setQueue_regs (e v : Nat) (x : Queue) : (d.setQueue e v x).regs = d.regs := rfl
@[simp] theorem Dev.setQueue_counters (e v : Nat) (x : Queue) : (d.setQueue e v x).counters = d.counters := rfl
@[simp] theorem Dev.setQueue_out (e v : Nat) (x : Queue) : (d.setQueue e v x).out = d.out := rfl
@[simp] theorem Dev.setQueue_mgmt (e v : Nat) (x : Queue) : (d.setQueue e v x).mgmt = d.mgmt := rfl
@[simp] theorem Dev.setQueue_tel (e v : Nat) (x : Queue) : (d.setQueue e v x).tel = d.tel := rfl
@[simp] theorem Dev.setQueue_time (e v : Nat) (x : Queue) : (d.setQueue e v x).time = d.time := rfl
@[simp] theorem Dev.setQueue_sec (e v : Nat) (x : Queue) : (d.setQueue e v x).sec = d.sec := rfl
@[simp] theorem Dev.setQueue_red (e v : Nat) (x : Queue) : (d.setQueue e v x).red = d.red := rfl
@[simp] theorem Dev.setQueue_sram (e v : Nat) (x : Queue) : (d.setQueue e v x).sram = d.sram := rfl
@[simp] theorem Dev.setQueue_hbm (e v : Nat) (x : Queue) : (d.setQueue e v x).hbm = d.hbm := rfl
@[simp] theorem Dev.setQueue_ecc (e v : Nat) (x : Queue) : (d.setQueue e v x).ecc = d.ecc := rfl
@[simp] theorem Dev.setQueue_hstacks (e v : Nat) (x : Queue) : (d.setQueue e v x).hstacks = d.hstacks := rfl
@[simp] theorem Dev.setQueue_tiles (e v : Nat) (x : Queue) : (d.setQueue e v x).tiles = d.tiles := rfl
@[simp] theorem Dev.setQueue_models (e v : Nat) (x : Queue) : (d.setQueue e v x).models = d.models := rfl
@[simp] theorem Dev.setQueue_store (e v : Nat) (x : Queue) : (d.setQueue e v x).store = d.store := rfl

@[simp] theorem Dev.setPortRoute_now (p : Nat) (x : PortRoute) : (d.setPortRoute p x).now = d.now := rfl
@[simp] theorem Dev.setPortRoute_freeCtr (p : Nat) (x : PortRoute) : (d.setPortRoute p x).freeCtr = d.freeCtr := rfl
@[simp] theorem Dev.setPortRoute_regs (p : Nat) (x : PortRoute) : (d.setPortRoute p x).regs = d.regs := rfl
@[simp] theorem Dev.setPortRoute_counters (p : Nat) (x : PortRoute) : (d.setPortRoute p x).counters = d.counters := rfl
@[simp] theorem Dev.setPortRoute_out (p : Nat) (x : PortRoute) : (d.setPortRoute p x).out = d.out := rfl
@[simp] theorem Dev.setPortRoute_mgmt (p : Nat) (x : PortRoute) : (d.setPortRoute p x).mgmt = d.mgmt := rfl
@[simp] theorem Dev.setPortRoute_tel (p : Nat) (x : PortRoute) : (d.setPortRoute p x).tel = d.tel := rfl
@[simp] theorem Dev.setPortRoute_time (p : Nat) (x : PortRoute) : (d.setPortRoute p x).time = d.time := rfl
@[simp] theorem Dev.setPortRoute_sec (p : Nat) (x : PortRoute) : (d.setPortRoute p x).sec = d.sec := rfl
@[simp] theorem Dev.setPortRoute_red (p : Nat) (x : PortRoute) : (d.setPortRoute p x).red = d.red := rfl
@[simp] theorem Dev.setPortRoute_sram (p : Nat) (x : PortRoute) : (d.setPortRoute p x).sram = d.sram := rfl
@[simp] theorem Dev.setPortRoute_hbm (p : Nat) (x : PortRoute) : (d.setPortRoute p x).hbm = d.hbm := rfl
@[simp] theorem Dev.setPortRoute_ecc (p : Nat) (x : PortRoute) : (d.setPortRoute p x).ecc = d.ecc := rfl
@[simp] theorem Dev.setPortRoute_hstacks (p : Nat) (x : PortRoute) : (d.setPortRoute p x).hstacks = d.hstacks := rfl
@[simp] theorem Dev.setPortRoute_tiles (p : Nat) (x : PortRoute) : (d.setPortRoute p x).tiles = d.tiles := rfl
@[simp] theorem Dev.setPortRoute_models (p : Nat) (x : PortRoute) : (d.setPortRoute p x).models = d.models := rfl
@[simp] theorem Dev.setPortRoute_store (p : Nat) (x : PortRoute) : (d.setPortRoute p x).store = d.store := rfl

@[simp] theorem Dev.setBunt_now (p : Nat) (r : BuntRing) : (d.setBunt p r).now = d.now := rfl
@[simp] theorem Dev.setBunt_freeCtr (p : Nat) (r : BuntRing) : (d.setBunt p r).freeCtr = d.freeCtr := rfl
@[simp] theorem Dev.setBunt_regs (p : Nat) (r : BuntRing) : (d.setBunt p r).regs = d.regs := rfl
@[simp] theorem Dev.setBunt_counters (p : Nat) (r : BuntRing) : (d.setBunt p r).counters = d.counters := rfl
@[simp] theorem Dev.setBunt_out (p : Nat) (r : BuntRing) : (d.setBunt p r).out = d.out := rfl
@[simp] theorem Dev.setBunt_net (p : Nat) (r : BuntRing) : (d.setBunt p r).net = d.net := rfl
@[simp] theorem Dev.setBunt_mgmt (p : Nat) (r : BuntRing) : (d.setBunt p r).mgmt = d.mgmt := rfl
@[simp] theorem Dev.setBunt_time (p : Nat) (r : BuntRing) : (d.setBunt p r).time = d.time := rfl
@[simp] theorem Dev.setBunt_sec (p : Nat) (r : BuntRing) : (d.setBunt p r).sec = d.sec := rfl
@[simp] theorem Dev.setBunt_red (p : Nat) (r : BuntRing) : (d.setBunt p r).red = d.red := rfl
@[simp] theorem Dev.setBunt_sram (p : Nat) (r : BuntRing) : (d.setBunt p r).sram = d.sram := rfl
@[simp] theorem Dev.setBunt_hbm (p : Nat) (r : BuntRing) : (d.setBunt p r).hbm = d.hbm := rfl
@[simp] theorem Dev.setBunt_ecc (p : Nat) (r : BuntRing) : (d.setBunt p r).ecc = d.ecc := rfl
@[simp] theorem Dev.setBunt_hstacks (p : Nat) (r : BuntRing) : (d.setBunt p r).hstacks = d.hstacks := rfl
@[simp] theorem Dev.setBunt_tiles (p : Nat) (r : BuntRing) : (d.setBunt p r).tiles = d.tiles := rfl
@[simp] theorem Dev.setBunt_models (p : Nat) (r : BuntRing) : (d.setBunt p r).models = d.models := rfl
@[simp] theorem Dev.setBunt_store (p : Nat) (r : BuntRing) : (d.setBunt p r).store = d.store := rfl

@[simp] theorem Dev.setSnap_now (i : Nat) (x : SnapSet) : (d.setSnap i x).now = d.now := rfl
@[simp] theorem Dev.setSnap_freeCtr (i : Nat) (x : SnapSet) : (d.setSnap i x).freeCtr = d.freeCtr := rfl
@[simp] theorem Dev.setSnap_regs (i : Nat) (x : SnapSet) : (d.setSnap i x).regs = d.regs := rfl
@[simp] theorem Dev.setSnap_counters (i : Nat) (x : SnapSet) : (d.setSnap i x).counters = d.counters := rfl
@[simp] theorem Dev.setSnap_out (i : Nat) (x : SnapSet) : (d.setSnap i x).out = d.out := rfl
@[simp] theorem Dev.setSnap_net (i : Nat) (x : SnapSet) : (d.setSnap i x).net = d.net := rfl
@[simp] theorem Dev.setSnap_mgmt (i : Nat) (x : SnapSet) : (d.setSnap i x).mgmt = d.mgmt := rfl
@[simp] theorem Dev.setSnap_time (i : Nat) (x : SnapSet) : (d.setSnap i x).time = d.time := rfl
@[simp] theorem Dev.setSnap_sec (i : Nat) (x : SnapSet) : (d.setSnap i x).sec = d.sec := rfl
@[simp] theorem Dev.setSnap_red (i : Nat) (x : SnapSet) : (d.setSnap i x).red = d.red := rfl
@[simp] theorem Dev.setSnap_sram (i : Nat) (x : SnapSet) : (d.setSnap i x).sram = d.sram := rfl
@[simp] theorem Dev.setSnap_hbm (i : Nat) (x : SnapSet) : (d.setSnap i x).hbm = d.hbm := rfl
@[simp] theorem Dev.setSnap_ecc (i : Nat) (x : SnapSet) : (d.setSnap i x).ecc = d.ecc := rfl
@[simp] theorem Dev.setSnap_hstacks (i : Nat) (x : SnapSet) : (d.setSnap i x).hstacks = d.hstacks := rfl
@[simp] theorem Dev.setSnap_tiles (i : Nat) (x : SnapSet) : (d.setSnap i x).tiles = d.tiles := rfl
@[simp] theorem Dev.setSnap_models (i : Nat) (x : SnapSet) : (d.setSnap i x).models = d.models := rfl
@[simp] theorem Dev.setSnap_store (i : Nat) (x : SnapSet) : (d.setSnap i x).store = d.store := rfl

@[simp] theorem Dev.setHoist_now (i : Nat) (h : HoistEnt) : (d.setHoist i h).now = d.now := rfl
@[simp] theorem Dev.setHoist_freeCtr (i : Nat) (h : HoistEnt) : (d.setHoist i h).freeCtr = d.freeCtr := rfl
@[simp] theorem Dev.setHoist_regs (i : Nat) (h : HoistEnt) : (d.setHoist i h).regs = d.regs := rfl
@[simp] theorem Dev.setHoist_counters (i : Nat) (h : HoistEnt) : (d.setHoist i h).counters = d.counters := rfl
@[simp] theorem Dev.setHoist_out (i : Nat) (h : HoistEnt) : (d.setHoist i h).out = d.out := rfl
@[simp] theorem Dev.setHoist_net (i : Nat) (h : HoistEnt) : (d.setHoist i h).net = d.net := rfl
@[simp] theorem Dev.setHoist_mgmt (i : Nat) (h : HoistEnt) : (d.setHoist i h).mgmt = d.mgmt := rfl
@[simp] theorem Dev.setHoist_tel (i : Nat) (h : HoistEnt) : (d.setHoist i h).tel = d.tel := rfl
@[simp] theorem Dev.setHoist_sec (i : Nat) (h : HoistEnt) : (d.setHoist i h).sec = d.sec := rfl
@[simp] theorem Dev.setHoist_red (i : Nat) (h : HoistEnt) : (d.setHoist i h).red = d.red := rfl
@[simp] theorem Dev.setHoist_sram (i : Nat) (h : HoistEnt) : (d.setHoist i h).sram = d.sram := rfl
@[simp] theorem Dev.setHoist_hbm (i : Nat) (h : HoistEnt) : (d.setHoist i h).hbm = d.hbm := rfl
@[simp] theorem Dev.setHoist_ecc (i : Nat) (h : HoistEnt) : (d.setHoist i h).ecc = d.ecc := rfl
@[simp] theorem Dev.setHoist_hstacks (i : Nat) (h : HoistEnt) : (d.setHoist i h).hstacks = d.hstacks := rfl
@[simp] theorem Dev.setHoist_tiles (i : Nat) (h : HoistEnt) : (d.setHoist i h).tiles = d.tiles := rfl
@[simp] theorem Dev.setHoist_models (i : Nat) (h : HoistEnt) : (d.setHoist i h).models = d.models := rfl
@[simp] theorem Dev.setHoist_store (i : Nat) (h : HoistEnt) : (d.setHoist i h).store = d.store := rfl

@[simp] theorem Dev.setInst_now (i : Nat) (x : HoistInst) : (d.setInst i x).now = d.now := rfl
@[simp] theorem Dev.setInst_freeCtr (i : Nat) (x : HoistInst) : (d.setInst i x).freeCtr = d.freeCtr := rfl
@[simp] theorem Dev.setInst_regs (i : Nat) (x : HoistInst) : (d.setInst i x).regs = d.regs := rfl
@[simp] theorem Dev.setInst_counters (i : Nat) (x : HoistInst) : (d.setInst i x).counters = d.counters := rfl
@[simp] theorem Dev.setInst_out (i : Nat) (x : HoistInst) : (d.setInst i x).out = d.out := rfl
@[simp] theorem Dev.setInst_net (i : Nat) (x : HoistInst) : (d.setInst i x).net = d.net := rfl
@[simp] theorem Dev.setInst_mgmt (i : Nat) (x : HoistInst) : (d.setInst i x).mgmt = d.mgmt := rfl
@[simp] theorem Dev.setInst_tel (i : Nat) (x : HoistInst) : (d.setInst i x).tel = d.tel := rfl
@[simp] theorem Dev.setInst_sec (i : Nat) (x : HoistInst) : (d.setInst i x).sec = d.sec := rfl
@[simp] theorem Dev.setInst_red (i : Nat) (x : HoistInst) : (d.setInst i x).red = d.red := rfl
@[simp] theorem Dev.setInst_sram (i : Nat) (x : HoistInst) : (d.setInst i x).sram = d.sram := rfl
@[simp] theorem Dev.setInst_hbm (i : Nat) (x : HoistInst) : (d.setInst i x).hbm = d.hbm := rfl
@[simp] theorem Dev.setInst_ecc (i : Nat) (x : HoistInst) : (d.setInst i x).ecc = d.ecc := rfl
@[simp] theorem Dev.setInst_hstacks (i : Nat) (x : HoistInst) : (d.setInst i x).hstacks = d.hstacks := rfl
@[simp] theorem Dev.setInst_tiles (i : Nat) (x : HoistInst) : (d.setInst i x).tiles = d.tiles := rfl
@[simp] theorem Dev.setInst_models (i : Nat) (x : HoistInst) : (d.setInst i x).models = d.models := rfl
@[simp] theorem Dev.setInst_store (i : Nat) (x : HoistInst) : (d.setInst i x).store = d.store := rfl

@[simp] theorem Dev.modSec_now (f : Sec → Sec) : (d.modSec f).now = d.now := rfl
@[simp] theorem Dev.modSec_freeCtr (f : Sec → Sec) : (d.modSec f).freeCtr = d.freeCtr := rfl
@[simp] theorem Dev.modSec_regs (f : Sec → Sec) : (d.modSec f).regs = d.regs := rfl
@[simp] theorem Dev.modSec_counters (f : Sec → Sec) : (d.modSec f).counters = d.counters := rfl
@[simp] theorem Dev.modSec_out (f : Sec → Sec) : (d.modSec f).out = d.out := rfl
@[simp] theorem Dev.modSec_net (f : Sec → Sec) : (d.modSec f).net = d.net := rfl
@[simp] theorem Dev.modSec_mgmt (f : Sec → Sec) : (d.modSec f).mgmt = d.mgmt := rfl
@[simp] theorem Dev.modSec_tel (f : Sec → Sec) : (d.modSec f).tel = d.tel := rfl
@[simp] theorem Dev.modSec_time (f : Sec → Sec) : (d.modSec f).time = d.time := rfl
@[simp] theorem Dev.modSec_red (f : Sec → Sec) : (d.modSec f).red = d.red := rfl
@[simp] theorem Dev.modSec_sram (f : Sec → Sec) : (d.modSec f).sram = d.sram := rfl
@[simp] theorem Dev.modSec_hbm (f : Sec → Sec) : (d.modSec f).hbm = d.hbm := rfl
@[simp] theorem Dev.modSec_ecc (f : Sec → Sec) : (d.modSec f).ecc = d.ecc := rfl
@[simp] theorem Dev.modSec_hstacks (f : Sec → Sec) : (d.modSec f).hstacks = d.hstacks := rfl
@[simp] theorem Dev.modSec_tiles (f : Sec → Sec) : (d.modSec f).tiles = d.tiles := rfl
@[simp] theorem Dev.modSec_models (f : Sec → Sec) : (d.modSec f).models = d.models := rfl
@[simp] theorem Dev.modSec_store (f : Sec → Sec) : (d.modSec f).store = d.store := rfl

@[simp] theorem Dev.setCtx_now (i : Nat) (c : Ctx) : (d.setCtx i c).now = d.now := rfl
@[simp] theorem Dev.setCtx_freeCtr (i : Nat) (c : Ctx) : (d.setCtx i c).freeCtr = d.freeCtr := rfl
@[simp] theorem Dev.setCtx_regs (i : Nat) (c : Ctx) : (d.setCtx i c).regs = d.regs := rfl
@[simp] theorem Dev.setCtx_counters (i : Nat) (c : Ctx) : (d.setCtx i c).counters = d.counters := rfl
@[simp] theorem Dev.setCtx_out (i : Nat) (c : Ctx) : (d.setCtx i c).out = d.out := rfl
@[simp] theorem Dev.setCtx_net (i : Nat) (c : Ctx) : (d.setCtx i c).net = d.net := rfl
@[simp] theorem Dev.setCtx_mgmt (i : Nat) (c : Ctx) : (d.setCtx i c).mgmt = d.mgmt := rfl
@[simp] theorem Dev.setCtx_tel (i : Nat) (c : Ctx) : (d.setCtx i c).tel = d.tel := rfl
@[simp] theorem Dev.setCtx_time (i : Nat) (c : Ctx) : (d.setCtx i c).time = d.time := rfl
@[simp] theorem Dev.setCtx_sec (i : Nat) (c : Ctx) : (d.setCtx i c).sec = d.sec := rfl
@[simp] theorem Dev.setCtx_sram (i : Nat) (c : Ctx) : (d.setCtx i c).sram = d.sram := rfl
@[simp] theorem Dev.setCtx_hbm (i : Nat) (c : Ctx) : (d.setCtx i c).hbm = d.hbm := rfl
@[simp] theorem Dev.setCtx_ecc (i : Nat) (c : Ctx) : (d.setCtx i c).ecc = d.ecc := rfl
@[simp] theorem Dev.setCtx_hstacks (i : Nat) (c : Ctx) : (d.setCtx i c).hstacks = d.hstacks := rfl
@[simp] theorem Dev.setCtx_tiles (i : Nat) (c : Ctx) : (d.setCtx i c).tiles = d.tiles := rfl
@[simp] theorem Dev.setCtx_models (i : Nat) (c : Ctx) : (d.setCtx i c).models = d.models := rfl
@[simp] theorem Dev.setCtx_store (i : Nat) (c : Ctx) : (d.setCtx i c).store = d.store := rfl

@[simp] theorem Dev.modRun_now (t : Nat) (f : RunOp → RunOp) : (d.modRun t f).now = d.now := rfl
@[simp] theorem Dev.modRun_freeCtr (t : Nat) (f : RunOp → RunOp) : (d.modRun t f).freeCtr = d.freeCtr := rfl
@[simp] theorem Dev.modRun_regs (t : Nat) (f : RunOp → RunOp) : (d.modRun t f).regs = d.regs := rfl
@[simp] theorem Dev.modRun_counters (t : Nat) (f : RunOp → RunOp) : (d.modRun t f).counters = d.counters := rfl
@[simp] theorem Dev.modRun_out (t : Nat) (f : RunOp → RunOp) : (d.modRun t f).out = d.out := rfl
@[simp] theorem Dev.modRun_net (t : Nat) (f : RunOp → RunOp) : (d.modRun t f).net = d.net := rfl
@[simp] theorem Dev.modRun_mgmt (t : Nat) (f : RunOp → RunOp) : (d.modRun t f).mgmt = d.mgmt := rfl
@[simp] theorem Dev.modRun_tel (t : Nat) (f : RunOp → RunOp) : (d.modRun t f).tel = d.tel := rfl
@[simp] theorem Dev.modRun_time (t : Nat) (f : RunOp → RunOp) : (d.modRun t f).time = d.time := rfl
@[simp] theorem Dev.modRun_sec (t : Nat) (f : RunOp → RunOp) : (d.modRun t f).sec = d.sec := rfl
@[simp] theorem Dev.modRun_sram (t : Nat) (f : RunOp → RunOp) : (d.modRun t f).sram = d.sram := rfl
@[simp] theorem Dev.modRun_hbm (t : Nat) (f : RunOp → RunOp) : (d.modRun t f).hbm = d.hbm := rfl
@[simp] theorem Dev.modRun_ecc (t : Nat) (f : RunOp → RunOp) : (d.modRun t f).ecc = d.ecc := rfl
@[simp] theorem Dev.modRun_hstacks (t : Nat) (f : RunOp → RunOp) : (d.modRun t f).hstacks = d.hstacks := rfl
@[simp] theorem Dev.modRun_tiles (t : Nat) (f : RunOp → RunOp) : (d.modRun t f).tiles = d.tiles := rfl
@[simp] theorem Dev.modRun_models (t : Nat) (f : RunOp → RunOp) : (d.modRun t f).models = d.models := rfl
@[simp] theorem Dev.modRun_store (t : Nat) (f : RunOp → RunOp) : (d.modRun t f).store = d.store := rfl

@[simp] theorem Dev.bindCtx_now (i r b w : Nat) : (d.bindCtx i r b w).now = d.now := rfl
@[simp] theorem Dev.bindCtx_freeCtr (i r b w : Nat) : (d.bindCtx i r b w).freeCtr = d.freeCtr := rfl
@[simp] theorem Dev.bindCtx_regs (i r b w : Nat) : (d.bindCtx i r b w).regs = d.regs := rfl
@[simp] theorem Dev.bindCtx_counters (i r b w : Nat) : (d.bindCtx i r b w).counters = d.counters := rfl
@[simp] theorem Dev.bindCtx_out (i r b w : Nat) : (d.bindCtx i r b w).out = d.out := rfl
@[simp] theorem Dev.bindCtx_net (i r b w : Nat) : (d.bindCtx i r b w).net = d.net := rfl
@[simp] theorem Dev.bindCtx_mgmt (i r b w : Nat) : (d.bindCtx i r b w).mgmt = d.mgmt := rfl
@[simp] theorem Dev.bindCtx_tel (i r b w : Nat) : (d.bindCtx i r b w).tel = d.tel := rfl
@[simp] theorem Dev.bindCtx_time (i r b w : Nat) : (d.bindCtx i r b w).time = d.time := rfl
@[simp] theorem Dev.bindCtx_sec (i r b w : Nat) : (d.bindCtx i r b w).sec = d.sec := rfl
@[simp] theorem Dev.bindCtx_sram (i r b w : Nat) : (d.bindCtx i r b w).sram = d.sram := rfl
@[simp] theorem Dev.bindCtx_hbm (i r b w : Nat) : (d.bindCtx i r b w).hbm = d.hbm := rfl
@[simp] theorem Dev.bindCtx_ecc (i r b w : Nat) : (d.bindCtx i r b w).ecc = d.ecc := rfl
@[simp] theorem Dev.bindCtx_hstacks (i r b w : Nat) : (d.bindCtx i r b w).hstacks = d.hstacks := rfl
@[simp] theorem Dev.bindCtx_tiles (i r b w : Nat) : (d.bindCtx i r b w).tiles = d.tiles := rfl
@[simp] theorem Dev.bindCtx_models (i r b w : Nat) : (d.bindCtx i r b w).models = d.models := rfl
@[simp] theorem Dev.bindCtx_store (i r b w : Nat) : (d.bindCtx i r b w).store = d.store := rfl

@[simp] theorem Dev.setSram_now (t : Nat) (m : Mem) : (d.setSram t m).now = d.now := rfl
@[simp] theorem Dev.setSram_freeCtr (t : Nat) (m : Mem) : (d.setSram t m).freeCtr = d.freeCtr := rfl
@[simp] theorem Dev.setSram_regs (t : Nat) (m : Mem) : (d.setSram t m).regs = d.regs := rfl
@[simp] theorem Dev.setSram_counters (t : Nat) (m : Mem) : (d.setSram t m).counters = d.counters := rfl
@[simp] theorem Dev.setSram_out (t : Nat) (m : Mem) : (d.setSram t m).out = d.out := rfl
@[simp] theorem Dev.setSram_net (t : Nat) (m : Mem) : (d.setSram t m).net = d.net := rfl
@[simp] theorem Dev.setSram_mgmt (t : Nat) (m : Mem) : (d.setSram t m).mgmt = d.mgmt := rfl
@[simp] theorem Dev.setSram_tel (t : Nat) (m : Mem) : (d.setSram t m).tel = d.tel := rfl
@[simp] theorem Dev.setSram_time (t : Nat) (m : Mem) : (d.setSram t m).time = d.time := rfl
@[simp] theorem Dev.setSram_sec (t : Nat) (m : Mem) : (d.setSram t m).sec = d.sec := rfl
@[simp] theorem Dev.setSram_red (t : Nat) (m : Mem) : (d.setSram t m).red = d.red := rfl
@[simp] theorem Dev.setSram_hbm (t : Nat) (m : Mem) : (d.setSram t m).hbm = d.hbm := rfl
@[simp] theorem Dev.setSram_ecc (t : Nat) (m : Mem) : (d.setSram t m).ecc = d.ecc := rfl
@[simp] theorem Dev.setSram_hstacks (t : Nat) (m : Mem) : (d.setSram t m).hstacks = d.hstacks := rfl
@[simp] theorem Dev.setSram_tiles (t : Nat) (m : Mem) : (d.setSram t m).tiles = d.tiles := rfl
@[simp] theorem Dev.setSram_models (t : Nat) (m : Mem) : (d.setSram t m).models = d.models := rfl
@[simp] theorem Dev.setSram_store (t : Nat) (m : Mem) : (d.setSram t m).store = d.store := rfl

@[simp] theorem Dev.setHbm_now (q : Nat) (m : Mem) : (d.setHbm q m).now = d.now := rfl
@[simp] theorem Dev.setHbm_freeCtr (q : Nat) (m : Mem) : (d.setHbm q m).freeCtr = d.freeCtr := rfl
@[simp] theorem Dev.setHbm_regs (q : Nat) (m : Mem) : (d.setHbm q m).regs = d.regs := rfl
@[simp] theorem Dev.setHbm_counters (q : Nat) (m : Mem) : (d.setHbm q m).counters = d.counters := rfl
@[simp] theorem Dev.setHbm_out (q : Nat) (m : Mem) : (d.setHbm q m).out = d.out := rfl
@[simp] theorem Dev.setHbm_net (q : Nat) (m : Mem) : (d.setHbm q m).net = d.net := rfl
@[simp] theorem Dev.setHbm_mgmt (q : Nat) (m : Mem) : (d.setHbm q m).mgmt = d.mgmt := rfl
@[simp] theorem Dev.setHbm_tel (q : Nat) (m : Mem) : (d.setHbm q m).tel = d.tel := rfl
@[simp] theorem Dev.setHbm_time (q : Nat) (m : Mem) : (d.setHbm q m).time = d.time := rfl
@[simp] theorem Dev.setHbm_sec (q : Nat) (m : Mem) : (d.setHbm q m).sec = d.sec := rfl
@[simp] theorem Dev.setHbm_red (q : Nat) (m : Mem) : (d.setHbm q m).red = d.red := rfl
@[simp] theorem Dev.setHbm_sram (q : Nat) (m : Mem) : (d.setHbm q m).sram = d.sram := rfl
@[simp] theorem Dev.setHbm_ecc (q : Nat) (m : Mem) : (d.setHbm q m).ecc = d.ecc := rfl
@[simp] theorem Dev.setHbm_hstacks (q : Nat) (m : Mem) : (d.setHbm q m).hstacks = d.hstacks := rfl
@[simp] theorem Dev.setHbm_tiles (q : Nat) (m : Mem) : (d.setHbm q m).tiles = d.tiles := rfl
@[simp] theorem Dev.setHbm_models (q : Nat) (m : Mem) : (d.setHbm q m).models = d.models := rfl
@[simp] theorem Dev.setHbm_store (q : Nat) (m : Mem) : (d.setHbm q m).store = d.store := rfl

@[simp] theorem Dev.setEcc_now (t : Nat) (e : SramEcc) : (d.setEcc t e).now = d.now := rfl
@[simp] theorem Dev.setEcc_freeCtr (t : Nat) (e : SramEcc) : (d.setEcc t e).freeCtr = d.freeCtr := rfl
@[simp] theorem Dev.setEcc_regs (t : Nat) (e : SramEcc) : (d.setEcc t e).regs = d.regs := rfl
@[simp] theorem Dev.setEcc_counters (t : Nat) (e : SramEcc) : (d.setEcc t e).counters = d.counters := rfl
@[simp] theorem Dev.setEcc_out (t : Nat) (e : SramEcc) : (d.setEcc t e).out = d.out := rfl
@[simp] theorem Dev.setEcc_net (t : Nat) (e : SramEcc) : (d.setEcc t e).net = d.net := rfl
@[simp] theorem Dev.setEcc_mgmt (t : Nat) (e : SramEcc) : (d.setEcc t e).mgmt = d.mgmt := rfl
@[simp] theorem Dev.setEcc_tel (t : Nat) (e : SramEcc) : (d.setEcc t e).tel = d.tel := rfl
@[simp] theorem Dev.setEcc_time (t : Nat) (e : SramEcc) : (d.setEcc t e).time = d.time := rfl
@[simp] theorem Dev.setEcc_sec (t : Nat) (e : SramEcc) : (d.setEcc t e).sec = d.sec := rfl
@[simp] theorem Dev.setEcc_red (t : Nat) (e : SramEcc) : (d.setEcc t e).red = d.red := rfl
@[simp] theorem Dev.setEcc_sram (t : Nat) (e : SramEcc) : (d.setEcc t e).sram = d.sram := rfl
@[simp] theorem Dev.setEcc_hbm (t : Nat) (e : SramEcc) : (d.setEcc t e).hbm = d.hbm := rfl
@[simp] theorem Dev.setEcc_hstacks (t : Nat) (e : SramEcc) : (d.setEcc t e).hstacks = d.hstacks := rfl
@[simp] theorem Dev.setEcc_tiles (t : Nat) (e : SramEcc) : (d.setEcc t e).tiles = d.tiles := rfl
@[simp] theorem Dev.setEcc_models (t : Nat) (e : SramEcc) : (d.setEcc t e).models = d.models := rfl
@[simp] theorem Dev.setEcc_store (t : Nat) (e : SramEcc) : (d.setEcc t e).store = d.store := rfl

@[simp] theorem Dev.setStack_now (q : Nat) (x : HbmSt) : (d.setStack q x).now = d.now := rfl
@[simp] theorem Dev.setStack_freeCtr (q : Nat) (x : HbmSt) : (d.setStack q x).freeCtr = d.freeCtr := rfl
@[simp] theorem Dev.setStack_regs (q : Nat) (x : HbmSt) : (d.setStack q x).regs = d.regs := rfl
@[simp] theorem Dev.setStack_counters (q : Nat) (x : HbmSt) : (d.setStack q x).counters = d.counters := rfl
@[simp] theorem Dev.setStack_out (q : Nat) (x : HbmSt) : (d.setStack q x).out = d.out := rfl
@[simp] theorem Dev.setStack_net (q : Nat) (x : HbmSt) : (d.setStack q x).net = d.net := rfl
@[simp] theorem Dev.setStack_mgmt (q : Nat) (x : HbmSt) : (d.setStack q x).mgmt = d.mgmt := rfl
@[simp] theorem Dev.setStack_tel (q : Nat) (x : HbmSt) : (d.setStack q x).tel = d.tel := rfl
@[simp] theorem Dev.setStack_time (q : Nat) (x : HbmSt) : (d.setStack q x).time = d.time := rfl
@[simp] theorem Dev.setStack_sec (q : Nat) (x : HbmSt) : (d.setStack q x).sec = d.sec := rfl
@[simp] theorem Dev.setStack_red (q : Nat) (x : HbmSt) : (d.setStack q x).red = d.red := rfl
@[simp] theorem Dev.setStack_sram (q : Nat) (x : HbmSt) : (d.setStack q x).sram = d.sram := rfl
@[simp] theorem Dev.setStack_hbm (q : Nat) (x : HbmSt) : (d.setStack q x).hbm = d.hbm := rfl
@[simp] theorem Dev.setStack_ecc (q : Nat) (x : HbmSt) : (d.setStack q x).ecc = d.ecc := rfl
@[simp] theorem Dev.setStack_tiles (q : Nat) (x : HbmSt) : (d.setStack q x).tiles = d.tiles := rfl
@[simp] theorem Dev.setStack_models (q : Nat) (x : HbmSt) : (d.setStack q x).models = d.models := rfl
@[simp] theorem Dev.setStack_store (q : Nat) (x : HbmSt) : (d.setStack q x).store = d.store := rfl

@[simp] theorem Dev.setModel_now (i : Nat) (m : Model) : (d.setModel i m).now = d.now := rfl
@[simp] theorem Dev.setModel_freeCtr (i : Nat) (m : Model) : (d.setModel i m).freeCtr = d.freeCtr := rfl
@[simp] theorem Dev.setModel_regs (i : Nat) (m : Model) : (d.setModel i m).regs = d.regs := rfl
@[simp] theorem Dev.setModel_counters (i : Nat) (m : Model) : (d.setModel i m).counters = d.counters := rfl
@[simp] theorem Dev.setModel_out (i : Nat) (m : Model) : (d.setModel i m).out = d.out := rfl
@[simp] theorem Dev.setModel_net (i : Nat) (m : Model) : (d.setModel i m).net = d.net := rfl
@[simp] theorem Dev.setModel_mgmt (i : Nat) (m : Model) : (d.setModel i m).mgmt = d.mgmt := rfl
@[simp] theorem Dev.setModel_tel (i : Nat) (m : Model) : (d.setModel i m).tel = d.tel := rfl
@[simp] theorem Dev.setModel_time (i : Nat) (m : Model) : (d.setModel i m).time = d.time := rfl
@[simp] theorem Dev.setModel_sec (i : Nat) (m : Model) : (d.setModel i m).sec = d.sec := rfl
@[simp] theorem Dev.setModel_red (i : Nat) (m : Model) : (d.setModel i m).red = d.red := rfl
@[simp] theorem Dev.setModel_sram (i : Nat) (m : Model) : (d.setModel i m).sram = d.sram := rfl
@[simp] theorem Dev.setModel_hbm (i : Nat) (m : Model) : (d.setModel i m).hbm = d.hbm := rfl
@[simp] theorem Dev.setModel_ecc (i : Nat) (m : Model) : (d.setModel i m).ecc = d.ecc := rfl
@[simp] theorem Dev.setModel_hstacks (i : Nat) (m : Model) : (d.setModel i m).hstacks = d.hstacks := rfl
@[simp] theorem Dev.setModel_tiles (i : Nat) (m : Model) : (d.setModel i m).tiles = d.tiles := rfl
@[simp] theorem Dev.setModel_store (i : Nat) (m : Model) : (d.setModel i m).store = d.store := rfl

@[simp] theorem Dev.modStore_now (f : Store → Store) : (d.modStore f).now = d.now := rfl
@[simp] theorem Dev.modStore_freeCtr (f : Store → Store) : (d.modStore f).freeCtr = d.freeCtr := rfl
@[simp] theorem Dev.modStore_regs (f : Store → Store) : (d.modStore f).regs = d.regs := rfl
@[simp] theorem Dev.modStore_counters (f : Store → Store) : (d.modStore f).counters = d.counters := rfl
@[simp] theorem Dev.modStore_out (f : Store → Store) : (d.modStore f).out = d.out := rfl
@[simp] theorem Dev.modStore_net (f : Store → Store) : (d.modStore f).net = d.net := rfl
@[simp] theorem Dev.modStore_mgmt (f : Store → Store) : (d.modStore f).mgmt = d.mgmt := rfl
@[simp] theorem Dev.modStore_tel (f : Store → Store) : (d.modStore f).tel = d.tel := rfl
@[simp] theorem Dev.modStore_time (f : Store → Store) : (d.modStore f).time = d.time := rfl
@[simp] theorem Dev.modStore_sec (f : Store → Store) : (d.modStore f).sec = d.sec := rfl
@[simp] theorem Dev.modStore_red (f : Store → Store) : (d.modStore f).red = d.red := rfl
@[simp] theorem Dev.modStore_sram (f : Store → Store) : (d.modStore f).sram = d.sram := rfl
@[simp] theorem Dev.modStore_hbm (f : Store → Store) : (d.modStore f).hbm = d.hbm := rfl
@[simp] theorem Dev.modStore_ecc (f : Store → Store) : (d.modStore f).ecc = d.ecc := rfl
@[simp] theorem Dev.modStore_hstacks (f : Store → Store) : (d.modStore f).hstacks = d.hstacks := rfl
@[simp] theorem Dev.modStore_tiles (f : Store → Store) : (d.modStore f).tiles = d.tiles := rfl
@[simp] theorem Dev.modStore_models (f : Store → Store) : (d.modStore f).models = d.models := rfl

@[simp] theorem Dev.setTile_now (t : Nat) (x : Tile) : (d.setTile t x).now = d.now := rfl
@[simp] theorem Dev.setTile_freeCtr (t : Nat) (x : Tile) : (d.setTile t x).freeCtr = d.freeCtr := rfl
@[simp] theorem Dev.setTile_counters (t : Nat) (x : Tile) : (d.setTile t x).counters = d.counters := rfl
@[simp] theorem Dev.setTile_out (t : Nat) (x : Tile) : (d.setTile t x).out = d.out := rfl
@[simp] theorem Dev.setTile_net (t : Nat) (x : Tile) : (d.setTile t x).net = d.net := rfl
@[simp] theorem Dev.setTile_mgmt (t : Nat) (x : Tile) : (d.setTile t x).mgmt = d.mgmt := rfl
@[simp] theorem Dev.setTile_tel (t : Nat) (x : Tile) : (d.setTile t x).tel = d.tel := rfl
@[simp] theorem Dev.setTile_time (t : Nat) (x : Tile) : (d.setTile t x).time = d.time := rfl
@[simp] theorem Dev.setTile_sec (t : Nat) (x : Tile) : (d.setTile t x).sec = d.sec := rfl
@[simp] theorem Dev.setTile_red (t : Nat) (x : Tile) : (d.setTile t x).red = d.red := rfl
@[simp] theorem Dev.setTile_sram (t : Nat) (x : Tile) : (d.setTile t x).sram = d.sram := rfl
@[simp] theorem Dev.setTile_hbm (t : Nat) (x : Tile) : (d.setTile t x).hbm = d.hbm := rfl
@[simp] theorem Dev.setTile_ecc (t : Nat) (x : Tile) : (d.setTile t x).ecc = d.ecc := rfl
@[simp] theorem Dev.setTile_hstacks (t : Nat) (x : Tile) : (d.setTile t x).hstacks = d.hstacks := rfl
@[simp] theorem Dev.setTile_models (t : Nat) (x : Tile) : (d.setTile t x).models = d.models := rfl
@[simp] theorem Dev.setTile_store (t : Nat) (x : Tile) : (d.setTile t x).store = d.store := rfl

@[simp] theorem Dev.setTileState_now (t st : Nat) : (d.setTileState t st).now = d.now := rfl
@[simp] theorem Dev.setTileState_freeCtr (t st : Nat) : (d.setTileState t st).freeCtr = d.freeCtr := rfl
@[simp] theorem Dev.setTileState_counters (t st : Nat) : (d.setTileState t st).counters = d.counters := rfl
@[simp] theorem Dev.setTileState_out (t st : Nat) : (d.setTileState t st).out = d.out := rfl
@[simp] theorem Dev.setTileState_net (t st : Nat) : (d.setTileState t st).net = d.net := rfl
@[simp] theorem Dev.setTileState_mgmt (t st : Nat) : (d.setTileState t st).mgmt = d.mgmt := rfl
@[simp] theorem Dev.setTileState_tel (t st : Nat) : (d.setTileState t st).tel = d.tel := rfl
@[simp] theorem Dev.setTileState_time (t st : Nat) : (d.setTileState t st).time = d.time := rfl
@[simp] theorem Dev.setTileState_sec (t st : Nat) : (d.setTileState t st).sec = d.sec := rfl
@[simp] theorem Dev.setTileState_red (t st : Nat) : (d.setTileState t st).red = d.red := rfl
@[simp] theorem Dev.setTileState_sram (t st : Nat) : (d.setTileState t st).sram = d.sram := rfl
@[simp] theorem Dev.setTileState_hbm (t st : Nat) : (d.setTileState t st).hbm = d.hbm := rfl
@[simp] theorem Dev.setTileState_ecc (t st : Nat) : (d.setTileState t st).ecc = d.ecc := rfl
@[simp] theorem Dev.setTileState_hstacks (t st : Nat) : (d.setTileState t st).hstacks = d.hstacks := rfl
@[simp] theorem Dev.setTileState_tiles (t st : Nat) : (d.setTileState t st).tiles = d.tiles := rfl
@[simp] theorem Dev.setTileState_models (t st : Nat) : (d.setTileState t st).models = d.models := rfl
@[simp] theorem Dev.setTileState_store (t st : Nat) : (d.setTileState t st).store = d.store := rfl

/-! ### The state -/

@[simp] theorem State.dev_withDev (s : State) (e : Dev) : ({ s with dev := e } : State).dev = e := rfl
@[simp] theorem State.pending_withDev (s : State) (e : Dev) : ({ s with dev := e } : State).pending = s.pending := rfl
@[simp] theorem State.dev_withPending (s : State) (q : List Instr) : ({ s with pending := q } : State).dev = s.dev := rfl
@[simp] theorem State.pending_withPending (s : State) (q : List Instr) : ({ s with pending := q } : State).pending = q := rfl

end Sys2Proof.Machine
end

