-- ==== Sys2Proof/Laws/Table.lean ====
section
/-! SUPPORT. Laws of finite tables: what is read after a key is written or removed. -/

namespace Sys2Proof

variable {κ α : Type} [DecidableEq κ]

@[simp] theorem Tab.get_nil (k : κ) (d : α) : Tab.get ([] : Tab κ α) k d = d := rfl
@[simp] theorem Tab.look_nil (k : κ) : Tab.look ([] : Tab κ α) k = none := rfl

theorem Tab.get_put (t : Tab κ α) (k k' : κ) (v d : α) :
    Tab.get (Tab.put t k v) k' d = if k = k' then v else Tab.get t k' d := by
  induction t with
  | nil => simp [Tab.put, Tab.get]
  | cons e t ih =>
    obtain ⟨x, y⟩ := e
    by_cases hx : x = k
    · subst hx
      by_cases hk : x = k' <;> simp [Tab.put, Tab.get, hk]
    · by_cases hk : x = k'
      · subst hk
        simp [Tab.put, Tab.get, hx, Ne.symm hx]
      · simp [Tab.put, Tab.get, hx, hk, ih]

@[simp] theorem Tab.get_put_self (t : Tab κ α) (k : κ) (v d : α) : Tab.get (Tab.put t k v) k d = v := by
  simp [Tab.get_put]

theorem Tab.get_put_other (t : Tab κ α) {k k' : κ} (h : k ≠ k') (v d : α) :
    Tab.get (Tab.put t k v) k' d = Tab.get t k' d := by simp [Tab.get_put, h]

theorem Tab.look_put (t : Tab κ α) (k k' : κ) (v : α) :
    Tab.look (Tab.put t k v) k' = if k = k' then some v else Tab.look t k' := by
  induction t with
  | nil => simp [Tab.put, Tab.look]
  | cons e t ih =>
    obtain ⟨x, y⟩ := e
    by_cases hx : x = k
    · subst hx
      by_cases hk : x = k' <;> simp [Tab.put, Tab.look, hk]
    · by_cases hk : x = k'
      · subst hk
        simp [Tab.put, Tab.look, hx, Ne.symm hx]
      · simp [Tab.put, Tab.look, hx, hk, ih]

@[simp] theorem Tab.look_put_self (t : Tab κ α) (k : κ) (v : α) : Tab.look (Tab.put t k v) k = some v := by
  simp [Tab.look_put]

/-- A read with a default is the listed value, or the default. -/
theorem Tab.get_eq_look (t : Tab κ α) (k : κ) (d : α) : Tab.get t k d = (Tab.look t k).getD d := by
  induction t with
  | nil => rfl
  | cons e t ih =>
    obtain ⟨x, y⟩ := e
    by_cases hx : x = k <;> simp [Tab.get, Tab.look, hx, ih]

theorem Tab.look_del (t : Tab κ α) (k k' : κ) :
    Tab.look (Tab.del t k) k' = if k = k' then none else Tab.look t k' := by
  induction t with
  | nil => simp [Tab.del, Tab.look]
  | cons e t ih =>
    obtain ⟨x, y⟩ := e
    unfold Tab.del at ih ⊢
    simp only [ne_eq, decide_not] at ih ⊢
    by_cases hx : x = k
    · subst hx
      by_cases hk : x = k'
      · simpa [Tab.look, hk] using ih
      · simp [Tab.look, hk, ih]
    · by_cases hk : x = k'
      · subst hk
        simp [Tab.look, hx, Ne.symm hx]
      · simp [Tab.look, hx, hk, ih]

@[simp] theorem Tab.look_del_self (t : Tab κ α) (k : κ) : Tab.look (Tab.del t k) k = none := by simp [Tab.look_del]

end Sys2Proof
end

