-- ==== Sys2Proof/Laws/Ops.lean ====
section
/-! SUPPORT. What each shared operation does to the fields that it writes: register fields, counters, what goes out,
channels and the journal, links, tiles and memories; and how a command begins, is answered and leaves the journal. -/

namespace Sys2Proof.Machine

/-! ### Register fields -/

theorem Dev.rd_wr (d : Dev) (f g : Fld) (v i k j l : Nat) :
    (d.wr f v i k).rd g j l = if f.id = g.id ∧ i = j ∧ k = l then v % 2 ^ f.w else d.rd g j l := by
  unfold Dev.wr Dev.rd
  rw [Tab.get_put]
  by_cases h : f.id = g.id ∧ i = j ∧ k = l
  · obtain ⟨h1, h2, h3⟩ := h
    simp [h1, h2, h3]
  · rw [if_neg h, if_neg]
    intro e
    injection e with e1 e2 e3
    exact h ⟨e1, e2, e3⟩

@[simp] theorem Dev.rd_wr_self (d : Dev) (f : Fld) (v i k : Nat) : (d.wr f v i k).rd f i k = v % 2 ^ f.w := by
  simp [Dev.rd_wr]

theorem Dev.rd_wr_other (d : Dev) {f g : Fld} (h : f.id ≠ g.id) (v i k j l : Nat) :
    (d.wr f v i k).rd g j l = d.rd g j l := by simp [Dev.rd_wr, h]

theorem Dev.rd_clr_self (d : Dev) (f : Fld) (i k : Nat) : (d.clr f i k).rd f i k = 0 := by
  simp [Dev.clr]

/-- A field is read from the register file alone. -/
theorem Dev.rd_congr {d e : Dev} (h : d.regs = e.regs) (f : Fld) (i k : Nat) : d.rd f i k = e.rd f i k := by
  unfold Dev.rd
  rw [h]

@[simp] theorem Dev.rd_count (d : Dev) (b i g s n : Nat) (f : Fld) (j l : Nat) :
    (d.count b i g s n).rd f j l = d.rd f j l := rfl
@[simp] theorem Dev.rd_emit (d : Dev) (o : Out) (f : Fld) (i k : Nat) : (d.emit o).rd f i k = d.rd f i k := rfl
@[simp] theorem Dev.rd_usedFree (d : Dev) (f : Fld) (i k : Nat) : d.usedFree.rd f i k = d.rd f i k := rfl

/-! ### Counters, output and free values -/

theorem Dev.counters_count (d : Dev) (b i g s n id : Nat) :
    (d.count b i g s n).counters.get id 0 =
      if counterId b i g s = id then (d.counters.get id 0 + n) % 2 ^ 64 else d.counters.get id 0 := by
  unfold Dev.count
  simp only [Tab.get_put]
  split
  · subst_vars
    rfl
  · rfl

@[simp] theorem Dev.out_emit (d : Dev) (o : Out) : (d.emit o).out = d.out ++ [o] := rfl
@[simp] theorem Dev.freeCtr_usedFree (d : Dev) : d.usedFree.freeCtr = d.freeCtr + 1 := rfl

/-! ### Parts kept in tables -/

@[simp] theorem Dev.link_setLink (d : Dev) (p : Nat) (x : Link) : (d.setLink p x).link p = x := by
  simp [Dev.setLink, Dev.link]
theorem Dev.link_setLink_other (d : Dev) {p q : Nat} (h : p ≠ q) (x : Link) : (d.setLink p x).link q = d.link q := by
  simp [Dev.setLink, Dev.link, Tab.get_put, h]
@[simp] theorem Dev.lane_setLane (d : Dev) (l : Nat) (x : Lane) : (d.setLane l x).lane l = x := by
  simp [Dev.setLane, Dev.lane]
@[simp] theorem Dev.chan_setChan (d : Dev) (ch : Nat) (c : Chan) : (d.setChan ch c).chan ch = c := by
  simp [Dev.setChan, Dev.chan]
theorem Dev.chan_setChan_other (d : Dev) {a b : Nat} (h : a ≠ b) (c : Chan) : (d.setChan a c).chan b = d.chan b := by
  simp [Dev.setChan, Dev.chan, Tab.get_put, h]
@[simp] theorem Dev.model_setModel (d : Dev) (i : Nat) (m : Model) : (d.setModel i m).model i = m := by
  simp [Dev.setModel, Dev.model]
@[simp] theorem Dev.ctx_setCtx (d : Dev) (i : Nat) (c : Ctx) : (d.setCtx i c).ctx i = c := by
  simp [Dev.setCtx, Dev.ctx]
@[simp] theorem Dev.stack_setStack (d : Dev) (q : Nat) (x : HbmSt) : (d.setStack q x).stack q = x := by
  simp [Dev.setStack, Dev.stack]
@[simp] theorem Dev.eccOf_setEcc (d : Dev) (t : Nat) (e : SramEcc) : (d.setEcc t e).eccOf t = e := by
  simp [Dev.setEcc, Dev.eccOf]
@[simp] theorem Dev.sramOf_setSram (d : Dev) (t : Nat) (m : Mem) : (d.setSram t m).sramOf t = m := by
  simp [Dev.setSram, Dev.sramOf]
theorem Dev.sramOf_setSram_other (d : Dev) {t u : Nat} (h : t ≠ u) (m : Mem) :
    (d.setSram t m).sramOf u = d.sramOf u := by simp [Dev.setSram, Dev.sramOf, Tab.get_put, h]
@[simp] theorem Dev.hbmOf_setHbm (d : Dev) (q : Nat) (m : Mem) : (d.setHbm q m).hbmOf q = m := by
  simp [Dev.setHbm, Dev.hbmOf]
@[simp] theorem Dev.tiles_setTile (d : Dev) (t : Nat) (x : Tile) : (d.setTile t x).tiles = d.tiles.put t x := rfl
@[simp] theorem Dev.tile_setTile (d : Dev) (t : Nat) (x : Tile) : (d.setTile t x).tile t = x := by
  simp [Dev.tile]
theorem Dev.tile_setTile_other (d : Dev) {t u : Nat} (h : t ≠ u) (x : Tile) :
    (d.setTile t x).tile u = d.tile u := by simp [Dev.tile, Tab.get_put, h]
@[simp] theorem Dev.tile_modTile (d : Dev) (t : Nat) (f : Tile → Tile) : (d.modTile t f).tile t = f (d.tile t) := by
  simp [Dev.modTile]
theorem Dev.tile_modTile_other (d : Dev) {t u : Nat} (h : t ≠ u) (f : Tile → Tile) :
    (d.modTile t f).tile u = d.tile u := by simp [Dev.modTile, Dev.tile_setTile_other _ h]

/-! ### Meanings -/

/-- The messages that follow a step change nothing but what goes out. -/
theorem Dev.platform_frame (b d : Dev) : ∃ o, b.platform d = { d with out := o } := by
  unfold Dev.platform
  split
  · exact ⟨d.out, rfl⟩
  · rename_i intf eid _
    suffices h : ∀ (l : List Nat) (e : Dev), (∃ o, e = { d with out := o }) →
        ∃ o, e.each l (fun d id => if b.eventVal id = d.eventVal id then d
          else d.emit (.mctp intf eid 0 1 [id, b.eventVal id, d.eventVal id])) = { d with out := o } from
      h _ d ⟨d.out, rfl⟩
    intro l
    induction l with
    | nil => intro e he; exact he
    | cons x l ih =>
      intro e he
      refine ih _ ?_
      dsimp only
      split
      · exact he
      · obtain ⟨o, rfl⟩ := he
        exact ⟨_, rfl⟩

/-- A meaning answers a next state with the queue as it stood. -/
theorem act_next (f : Dev → Dev) (s : State) :
    act f s = .next { s with dev := s.dev.platform (f s.dev) } := rfl

/-! ### Journal entries -/

/-- A command that has begun runs its effect, and its entry is running from then on. -/
theorem Dev.cmd_begun {d : Dev} {aseq op : Nat} {j : JEntry} (f : JEntry → Dev → Dev) (h : d.job? aseq = some j)
    (hp : j.phase = .begun) (ho : j.op = op) :
    d.cmd aseq op f = f j (d.modJob aseq fun j => { j with phase := .running }) := by
  unfold Dev.cmd
  rw [h]
  simp [hp, ho]

/-- A command whose entry has not begun, or is of another opcode, does nothing. -/
theorem Dev.cmd_other {d : Dev} {aseq op : Nat} (f : JEntry → Dev → Dev)
    (h : ∀ j, d.job? aseq = some j → ¬(j.phase = .begun ∧ j.op = op)) : d.cmd aseq op f = d := by
  unfold Dev.cmd
  split
  · rw [if_neg (h _ ‹_›)]
  · rfl

theorem find?_filter_ne (l : List JEntry) (a : Nat) :
    (l.filter fun x => x.aseq ≠ a).find? (fun j => j.aseq = a) = none := by
  induction l with
  | nil => rfl
  | cons x l ih =>
    by_cases h : x.aseq = a
    · rw [List.filter_cons_of_neg (by simpa using h)]
      exact ih
    · rw [List.filter_cons_of_pos (by simpa using h), List.find?_cons_of_neg (by simpa using h)]
      exact ih

/-- The entry looked up has the number that it is looked up by. -/
theorem Dev.job?_aseq {d : Dev} {a : Nat} {j : JEntry} (h : d.job? a = some j) : j.aseq = a := by
  have := List.find?_some h
  simpa using this

end Sys2Proof.Machine
end

