-- ==== Sys2Proof/Laws/Command.lean ====
section
/-! SUPPORT. How a Thidan command ends: what `complete` does for a PCIe packet, stated once, and what bringing a channel's
registers up to date leaves alone. -/

namespace Sys2Proof.Machine

/-- A fold of updates that write registers alone writes registers alone. -/
theorem Dev.each_regs {α : Type} (l : List α) (f : Dev → α → Dev) (hf : ∀ d a, ∃ r, f d a = { d with regs := r })
    (d : Dev) : ∃ r, d.each l f = { d with regs := r } := by
  unfold Dev.each
  induction l generalizing d with
  | nil => exact ⟨d.regs, rfl⟩
  | cons a l ih =>
    obtain ⟨r, hr⟩ := hf d a
    obtain ⟨r', h'⟩ := ih (f d a)
    refine ⟨r', ?_⟩
    rw [List.foldl_cons, h', hr]

/-- A register written after updates that write registers alone. -/
theorem Dev.wr_of_regs {d e : Dev} (h : ∃ r, e = { d with regs := r }) (f : Fld) (v i k : Nat) :
    ∃ r, e.wr f v i k = { d with regs := r } := by
  obtain ⟨r, rfl⟩ := h
  exact ⟨_, rfl⟩

/-- Bringing a channel's registers up to date changes the register file alone. -/
theorem Dev.syncChan_regs (d : Dev) (ch : Nat) : ∃ r, d.syncChan ch = { d with regs := r } := by
  unfold Dev.syncChan
  iterate 8 refine Dev.wr_of_regs ?_ _ _ _ _
  exact Dev.each_regs _ _ (fun e k => ⟨_, rfl⟩) d

@[simp] theorem Dev.syncChan_mgmt (d : Dev) (ch : Nat) : (d.syncChan ch).mgmt = d.mgmt := by
  obtain ⟨r, h⟩ := d.syncChan_regs ch
  rw [h]

/-- A completion added to a channel's FIFO changes that channel and what goes out. -/
theorem Dev.postCpl_eq (d : Dev) (ch : Nat) (ws : List Nat) :
    ∃ o, d.postCpl ch ws =
      { d.setChan ch { d.chan ch with cplq := (d.chan ch).cplq ++ [ws] } with out := o } := by
  unfold Dev.postCpl
  dsimp only
  split
  · exact ⟨_, rfl⟩
  · exact ⟨_, rfl⟩

/-- A command given through a PCIe mailbox is answered: its entry leaves the journal, and its completion is the newest
of its channel's FIFO. -/
theorem Dev.complete_pcie {d : Dev} {a : Nat} {j : JEntry} (h : d.job? a = some j) (ho : j.pkt.origin = .pcie)
    (hl : j.lost = false) (st : Nat) (res : List Nat) (detail : Nat) :
    Answered (d.complete a st res detail) j st res detail := by
  have ha : j.aseq = a := Dev.job?_aseq h
  unfold Dev.job? at h
  unfold Answered Dev.complete
  simp only [h, hl, ho, Dev.deliver, Bool.false_eq_true, if_false]
  obtain ⟨o, hp⟩ := Dev.postCpl_eq
    (({ d with mgmt := { d.mgmt with journal := d.mgmt.journal.filter fun x => x.aseq ≠ a } }).count 0x13 j.chan 0
      (if st = 0 then 4 else 5)) j.chan (cplWords 0 (bits (nth j.pkt.words 0) 15 0) (nth j.pkt.words 1) st j.chan detail res)
  rw [hp]
  refine ⟨?_, ?_⟩
  · unfold Dev.job?
    rw [Dev.syncChan_mgmt, ha]
    exact find?_filter_ne _ a
  · unfold Dev.chan
    rw [Dev.syncChan_mgmt]
    simp [Dev.setChan, JEntry.op, JEntry.w]

end Sys2Proof.Machine
end

