-- ==== Sys2Proof/Laws/Mem.lean ====
section
/-! SUPPORT. Laws of a memory: every operation keeps the canonical form, and a byte reads as it was last written. -/

namespace Sys2Proof.Machine

/-- The canonical form of the rest of a memory. -/
theorem Mem.wfFrom_cons (lo : Option Nat) (a : Nat) (b : Byte) (t : Mem) :
    Mem.wfFrom lo ((a, b) :: t) = true ↔
      (∀ l, lo = some l → l < a) ∧ b ≠ Mem.blank ∧ Mem.wfFrom (some a) t = true := by
  cases lo <;> simp [Mem.wfFrom, and_assoc]

/-- A lower bound may be lowered. -/
theorem Mem.wfFrom_lower {l : Nat} {lo : Option Nat} {m : Mem} (h : Mem.wfFrom (some l) m = true)
    (hl : ∀ x, lo = some x → x ≤ l) : Mem.wfFrom lo m = true := by
  cases m with
  | nil => rfl
  | cons e t =>
    obtain ⟨a, b⟩ := e
    rw [Mem.wfFrom_cons] at h ⊢
    exact ⟨fun x hx => Nat.lt_of_le_of_lt (hl x hx) (h.1 l rfl), h.2.1, h.2.2⟩

theorem Mem.writeByte_wfFrom (m : Mem) (lo : Option Nat) (a : Nat) (b : Byte) (h : Mem.wfFrom lo m = true)
    (ha : ∀ l, lo = some l → l < a) : Mem.wfFrom lo (m.writeByte a b) = true := by
  induction m generalizing lo with
  | nil =>
    unfold Mem.writeByte
    split
    · rfl
    · exact (Mem.wfFrom_cons ..).2 ⟨ha, ‹_›, rfl⟩
  | cons e t ih =>
    obtain ⟨k, c⟩ := e
    have hk := (Mem.wfFrom_cons ..).1 h
    unfold Mem.writeByte
    split
    · split
      · exact h
      · refine (Mem.wfFrom_cons ..).2 ⟨ha, ‹_›, (Mem.wfFrom_cons ..).2 ⟨?_, hk.2⟩⟩
        intro l hl
        cases hl
        assumption
    · split
      · split
        · refine Mem.wfFrom_lower hk.2.2 fun x hx => Nat.le_of_lt (hk.1 x hx)
        · subst_vars
          exact (Mem.wfFrom_cons ..).2 ⟨hk.1, ‹_›, hk.2.2⟩
      · refine (Mem.wfFrom_cons ..).2 ⟨hk.1, hk.2.1, ih (some k) hk.2.2 ?_⟩
        intro l hl
        cases hl
        omega

/-- Writing a byte keeps the canonical form. -/
theorem Mem.writeByte_wf {m : Mem} (h : m.wf = true) (a : Nat) (b : Byte) : (m.writeByte a b).wf = true :=
  Mem.writeByte_wfFrom m none a b h (by simp)

/-- Writing bytes keeps the canonical form. -/
theorem Mem.writeN_wf {m : Mem} (h : m.wf = true) (a : Nat) (bs : List Nat) : (m.writeN a bs).wf = true := by
  induction bs generalizing m a with
  | nil => exact h
  | cons b bs ih => exact ih (Mem.writeByte_wf h a _) (a + 1)

theorem Mem.filter_wfFrom (p : Host.Cell → Bool) (m : Mem) (lo : Option Nat) (h : Mem.wfFrom lo m = true) :
    Mem.wfFrom lo (m.filter p) = true := by
  induction m generalizing lo with
  | nil => rfl
  | cons e t ih =>
    obtain ⟨k, c⟩ := e
    have hk := (Mem.wfFrom_cons ..).1 h
    by_cases hp : p (k, c) = true
    · rw [List.filter_cons_of_pos hp]
      exact (Mem.wfFrom_cons ..).2 ⟨hk.1, hk.2.1, ih _ hk.2.2⟩
    · rw [List.filter_cons_of_neg hp]
      exact ih _ (Mem.wfFrom_lower hk.2.2 fun x hx => Nat.le_of_lt (hk.1 x hx))

/-- Making bytes zero keeps the canonical form. -/
theorem Mem.zero_wf {m : Mem} (h : m.wf = true) (a n : Nat) : (m.zero a n).wf = true := Mem.filter_wfFrom _ m none h

/-- An address at or below the bound of a memory reads as the blank. -/
theorem Mem.readByte_low {m : Mem} {l a : Nat} (h : Mem.wfFrom (some l) m = true) (ha : a ≤ l) :
    m.readByte a = Mem.blank := by
  induction m generalizing l with
  | nil => rfl
  | cons e t ih =>
    obtain ⟨k, c⟩ := e
    have hk := (Mem.wfFrom_cons ..).1 h
    have := hk.1 l rfl
    unfold Mem.readByte
    rw [if_neg (by omega)]
    exact ih hk.2.2 (by omega)

theorem Mem.readByte_writeByte_from (m : Mem) (lo : Option Nat) (a c : Nat) (b : Byte) (h : Mem.wfFrom lo m = true) :
    (m.writeByte a b).readByte c = if a = c then b else m.readByte c := by
  induction m generalizing lo with
  | nil =>
    unfold Mem.writeByte
    split <;> simp_all [Mem.readByte]
  | cons e t ih =>
    obtain ⟨k, x⟩ := e
    have hk := (Mem.wfFrom_cons ..).1 h
    unfold Mem.writeByte
    split
    · split
      · by_cases hc : a = c
        · subst hc
          rw [if_pos rfl, ‹b = _›]
          unfold Mem.readByte
          rw [if_neg (by omega)]
          exact Mem.readByte_low hk.2.2 (by omega)
        · rw [if_neg hc]
      · by_cases hc : a = c <;> simp [Mem.readByte, hc]
    · rename_i hlt
      by_cases he : a = k
      · rw [if_pos he]
        subst he
        split
        · by_cases hc : a = c
          · subst hc
            rw [if_pos rfl, ‹b = _›]
            exact Mem.readByte_low hk.2.2 (Nat.le_refl _)
          · simp [Mem.readByte, hc]
        · by_cases hc : a = c <;> simp [Mem.readByte, hc]
      · rw [if_neg he]
        have := ih (some k) hk.2.2
        by_cases hc : k = c
        · subst hc
          simp [Mem.readByte, he]
        · simp [Mem.readByte, hc, this]

/-- A byte written reads back, and every other byte reads as before. -/
theorem Mem.readByte_writeByte {m : Mem} (h : m.wf = true) (a c : Nat) (b : Byte) :
    (m.writeByte a b).readByte c = if a = c then b else m.readByte c := Mem.readByte_writeByte_from m none a c b h

/-- Writing bytes leaves every byte below them alone. -/
theorem Mem.readByte_writeN_below {m : Mem} (h : m.wf = true) (a c : Nat) (bs : List Nat) (hc : c < a) :
    (m.writeN a bs).readByte c = m.readByte c := by
  induction bs generalizing m a with
  | nil => rfl
  | cons b bs ih =>
    rw [Mem.writeN, ih (Mem.writeByte_wf h a _) (a + 1) (by omega), Mem.readByte_writeByte h, if_neg (by omega)]

end Sys2Proof.Machine
end

