-- ==== Sys2Proof/Laws/Tile.lean ====
section
/-! SUPPORT. How a tile's instruction comes to run: an access in which no word is found uncorrectable leaves every memory,
tile and poisoned word as it is, and `step1` is its body once the instruction has been fetched and its reserved parts
are zero. -/

namespace Sys2Proof.Machine

/-- What an access with corrected bits alone may change. -/
def Dev.MetClean (d e : Dev) : Prop :=
  (∃ x r c, e = { d with ecc := x, regs := r, counters := c }) ∧ ∀ u, (e.eccOf u).poison = (d.eccOf u).poison

theorem Dev.MetClean.refl (d : Dev) : d.MetClean d := ⟨⟨d.ecc, d.regs, d.counters, rfl⟩, fun _ => rfl⟩

theorem Dev.MetClean.trans {a b c : Dev} (h : a.MetClean b) (g : b.MetClean c) : a.MetClean c := by
  obtain ⟨⟨x, r, n, rfl⟩, hp⟩ := h
  obtain ⟨⟨x', r', n', rfl⟩, hq⟩ := g
  exact ⟨⟨x', r', n', rfl⟩, fun u => (hq u).trans (hp u)⟩

/-- A corrected bit changes counts and the tile's record of corrected bits. -/
theorem Dev.sramCorr_clean (d : Dev) (t w bit : Nat) : d.MetClean (d.sramCorr t w bit) := by
  unfold Dev.sramCorr
  dsimp only
  split
  · exact .refl d
  · refine ⟨⟨_, _, _, rfl⟩, fun u => ?_⟩
    by_cases h : t = u
    · subst h
      simp [Dev.eccOf, Dev.setEcc]
    · simp [Dev.eccOf, Dev.setEcc, Tab.get_put, h]

/-- An access of which the ECC finds no word uncorrectable. -/
theorem Dev.sramMeet_clean (d : Dev) (t a n : Nat) (bad : EccHits) (port : Nat) (h : clean bad a n = true) :
    d.MetClean (d.sramMeet t a n bad port) := by
  have hempty : (wordsOf a n).filter bad.unc.contains = [] := by
    rw [List.filter_eq_nil_iff]
    intro w hw
    have := List.all_eq_true.1 h w hw
    simpa using this
  unfold Dev.sramMeet
  simp only [hempty]
  generalize bad.corr.filter _ = l
  show d.MetClean (Dev.each (Dev.each d l fun d c => d.sramCorr t c.1 c.2) [] fun d w => d.sramUnc t w port)
  show d.MetClean (Dev.each d l fun d c => d.sramCorr t c.1 c.2)
  unfold Dev.each
  induction l generalizing d with
  | nil => exact .refl d
  | cons c l ih => exact (d.sramCorr_clean t c.1 c.2).trans (ih _)

/-- The instruction that a tile fetches runs, once its reserved parts are zero, on the device as the fetch left it. -/
theorem Dev.step1_fetches {d : Dev} {t opc w : Nat} {bad : EccHits} (resv : Nat → Bool)
    (body : Nat → Tile → Dev → Dev) (h : Fetches d t opc w bad) (hr : resv w = false) :
    d.step1 t opc bad resv body = body w (d.tile t) (d.sramMeet t (d.tile t).pc 8 bad) := by
  obtain ⟨hc, hal, hpc, hpo, hcl, hw, hop, hli⟩ := h
  obtain ⟨_, hq⟩ := d.sramMeet_clean t (d.tile t).pc 8 bad 0 hcl
  have hpo' : ((d.sramMeet t (d.tile t).pc 8 bad).poisonIn t (d.tile t).pc 8).isSome = false := by
    unfold Dev.poisonIn at hpo ⊢
    rw [hq, hpo]
    rfl
  unfold Dev.step1
  simp only [hc, hw, hop, hli, hr, hpo', Bool.true_eq_false, Bool.false_eq_true, if_false, ne_eq, hal, not_true]
  rw [if_neg (by omega)]

end Sys2Proof.Machine
end

