-- ==== Sys2Proof/Machine/RegRead.lean ====
section
/-! DEFINITION. What a read of BAR0 returns: registers, and the views that select an entry of a table (spec/22, R584 to
R586 and R588; spec/06, RTE.TACC; spec/07, SCH.TACC; spec/09, RED.CACC; spec/10, COL.TACC; spec/17, FLT.HQACC).  A read
has no effect but in the three rows that latch, so that none of this is a step. -/

namespace Sys2Proof.Machine

/-! ### Entries as words -/

/-- A route entry (R169), a spray set entry and a slot (R170). -/
def RouteEnt.words (e : RouteEnt) : List Nat :=
  [e.kind * 2 ^ 29 + b2n e.psetV * 2 ^ 28 + e.set * 2 ^ 14 + e.pset, e.rgrp * 2 ^ 20 + e.alt * 2 ^ 6 + b2n e.altV * 32]
def SpraySet.word (s : SpraySet) : Nat := s.base * 512 + (s.n - 1)
def Slot.word (s : Slot) : Nat := s.tgt + b2n s.int * 512

/-- A port attribute (R177) and a notice entry (R178). -/
def PortAttr.words (a : PortAttr) : List Nat :=
  [b2n a.edge * 2 ^ 31 + b2n a.dline * 2 ^ 30 + a.axis * 2 ^ 28 + b2n a.nrelay * 2 ^ 27 + b2n a.noticeV * 2 ^ 26
    + a.noticeId * 2 ^ 12, a.expDev]
def NoticeEnt.word (n : NoticeEnt) : Nat := b2n n.v * 2 ^ 31 + n.rgrp * 2 ^ 19 + n.relayId * 32 + b2n n.relayV * 16

/-- A burgee table entry (R201). -/
def BurgeeEnt.words (b : BurgeeEnt) : List Nat :=
  [b.pmode * 2 ^ 30 + b.pmask * 2 ^ 22 + b.prate, b.quota * 2 ^ 16 + b.pburst]

/-- A result binding, laid out as the record of R322. -/
def Binding.words (b : Binding) : List Nat :=
  if b.v then [b.region, b.base, b.trig * 2 ^ 15 + b2n b.trigV * 2 ^ 14, 0] else []

/-- A dispatch group and an expert map entry (R288). -/
def Group.words (g : Group) : List Nat :=
  [b2n g.v * 2 ^ 31 + g.burgee * 2 ^ 22 + g.tile * 2 ^ 16 + g.k * 2 ^ 12 + g.cfmt * 64 + g.chunk * 16 + b2n g.ovf * 8
    + b2n g.cls * 4, g.ret * 2 ^ 12 + g.gateTo, g.cmbBase * 2 ^ 16 + g.cmbN, g.keyBase * 2 ^ 16 + g.holdBase * 2,
   g.expBase * 2 ^ 20]
def Expert.word (e : Expert) : Nat := e.feid * 2 ^ 12 + e.entropy * 2 + b2n e.v

/-! ### Views -/

/-- The words of the entry that RTE.TACC of quadrant `q` selects. -/
def Dev.rteView (d : Dev) (q : Nat) : List Nat :=
  let i := d.rd R.RTE_TACC_INDEX q
  let b := (d.net.banks.get q ({}, {}))
  let b := if d.on R.RTE_TACC_BANK q then b.2 else b.1
  let t := d.rd R.RTE_TACC_TABLE q
  if t = 0 then (b.routes.get i {}).words
  else if t = 1 then (if i < b.nSets then [(b.sets.get i {}).word] else [])
  else if t = 2 then (if i < b.nSlots then [(b.slots.get i {}).word] else [])
  else if t = 3 then 
    [maskOf ((List.range 32).filter fun n => (d.net.masks.get (q, i / 16) []).contains (32 * (i % 16) + n))]
  else if t = 4 then (if i < 512 then (b.attrs.get i {}).words else [])
  else if t = 5 then [(b.notices.get i {}).word]
  else []

/-- The words of the entry that SCH.TACC selects. -/
def Dev.schView (d : Dev) (q : Nat) : List Nat :=
  let i := d.rd R.SCH_TACC_INDEX q
  if d.rd R.SCH_TACC_TABLE q = 0 then (if i < 512 then (d.net.burgees.get (q, i) {}).words else [])
  else if i < 2048 then
    [maskOf ((List.range 32).filter fun b => (d.net.allow.get (128 * q + i / 16) []).contains (32 * (i % 16) + b))]
  else []

/-- The word that RED.CACC selects. -/
def Dev.redView (d : Dev) (q : Nat) : Nat :=
  let i := d.rd R.RED_CACC_CTX q
  let w := d.rd R.RED_CACC_WORD q
  if i / 2 ^ 14 ≠ q then 0
  else if w ≤ 8 then nth (d.ctx i).w w
  else if w < 16 then 0
  else if w ≤ 20 then nth (d.ctxStatus i) (w - 16)
  else if 32 ≤ w ∧ w ≤ 95 then nth (d.ctx i).hist (w - 32)
  else 0

/-- The word that COL.TACC selects; the spec does not lay out a token slot, whose words are free values. -/
def Dev.colView (d : Dev) (q : Nat) : Nat :=
  let i := d.rd R.COL_TACC_INDEX q
  let w := d.rd R.COL_TACC_WORD q
  let t := d.rd R.COL_TACC_TABLE q
  if t = 0 then nth (d.red.trigs.get (2 ^ 15 * q + i) {}).words w
  else if t = 1 then nth (d.red.ops.get (2 ^ 15 * q + i) []) w
  else if t = 2 then nth (d.red.regions.get (q, i) {}).words w
  else if t = 3 then nth (d.red.bindings.get (2 ^ 14 * q + i) {}).words w
  else if t = 4 then nth (d.red.groups.get (q, i) {}).words w
  else if t = 5 then (if w = 0 then (d.red.experts.get (q, i) {}).word else 0)
  else if t = 6 ∧ (d.red.tokens.look (q, i)).isSome then d.free % 2 ^ 32
  else 0

/-- The word that FLT.HQACC selects; position 0 is the oldest entry. -/
def Dev.histView (d : Dev) : Nat :=
  match d.mgmt.hist[d.rd R.FLT_HQACC_POS]? with
  | some e => nth e.words (d.rd R.FLT_HQACC_WORD)
  | none => 0

/-- Window `k` of the active bank. -/
def Dev.winView (d : Dev) (q k : Nat) : Window := (d.bank q).windows.getD k {}

/-! ### Reads -/

/-- The stored fields of a register in their places; WO fields read 0 (R9). -/
def Dev.fieldWord (d : Dev) (fs : List Fld) (inst k : Nat) : Nat :=
  fs.foldl (fun n f => if f.acc = .wo then n else n + d.rd f inst k * 2 ^ f.lo) 0

/-- What a register of a domain that is on holds. -/
def Dev.regValue (d : Dev) (r : RegRow) (inst k : Nat) : Nat :=
  let has (f : Fld) : Bool := r.flds.any fun g => g.id = f.id
  let w := d.winView inst k
  if has R.HUB_FTIME_LO_T_LO then d.now % 2 ^ 32
  else if has R.HUB_STEPLO_STEP_LO then d.time.steps.get (d.rd R.HUB_STEPACC_BURGEE) 0 % 2 ^ 32
  else if has R.RTE_WIN_A_BASE then w.base + w.shift * 2 ^ 24 + b2n w.v * 2 ^ 31
  else if has R.RTE_WIN_B_LIMIT then w.limit
  else if has R.RTE_WIN_C_TBASE then w.tbase
  else if has R.RTE_PEERMM_MM then maskOf ((List.range 32).filter fun n => (d.portRoute (32 * k + n)).mismatch)
  else if has R.RTE_TDATA0_DATA then nth (d.rteView inst) 0
  else if has R.RTE_TDATA1_DATA then nth (d.rteView inst) 1
  else if has R.SCH_TDATA0_DATA then nth (d.schView inst) 0
  else if has R.SCH_TDATA1_DATA then nth (d.schView inst) 1
  else if has R.RED_CDATA_DATA then d.redView inst
  else if has R.COL_TDATA_DATA then d.colView inst
  else if has R.FLT_HQDATA_DATA then d.histView
  else if has R.RED_ESTAT_UNITS_FREE ∧ d.pdOn (pdRed inst) = false then 0
  else if takesWrite r k = false then 0
  else d.fieldWord r.flds inst k

/-- The word that a function's read of a DWORD of its BAR0 returns: 0 where nothing lies, and from a domain that is
off, but for TILE.STAT.STATE and the reset record of a tile. -/
def Dev.readWord (d : Dev) (fn o : Nat) : Nat :=
  if d.barOn fn = false then 0
  else if isPba fn o then 0
  else if isMsix fn o then d.mgmt.msix.get (fn, o / 4) 0
  else match d.regAt fn o with
    | none => 0
    | some (r, inst, k) =>
      if d.pdOn (regPd r inst) then d.regValue r inst k
      else
        let keep := [R.TILE_STAT_STATE, R.TILE_RSTREC0_DISCARDED, R.TILE_RSTREC0_RCAUSE, R.TILE_RSTREC0_VALID,
          R.TILE_RSTREC1_FIRST_EA].map Fld.id
        d.fieldWord (r.flds.filter fun f => keep.contains f.id) inst k

/-- The words that a read of `len` bytes returns (R584): whole DWORDs, and zeros from a span that reaches no register. -/
def Dev.barRead (d : Dev) (fn off len : Nat) : List Nat :=
  if len = 8 ∧ off % 8 = 0 then [d.readWord fn off, d.readWord fn (off + 4)]
  else if off % 4 + len ≤ 4 then [d.readWord fn (off / 4 * 4)]
  else List.replicate (ceilDiv (off % 4 + len) 4) 0

end Sys2Proof.Machine
end

