-- ==== Sys2Proof/Tests/Slice0.lean ====
section
/-! SUPPORT. Tests: ill-formed commands are refused, single commands on small states, and for every statement with
hypotheses a state and operands that meet them. -/

set_option linter.unusedVariables false
set_option Elab.async false

namespace Sys2Proof.Tests

open Sys2Proof.Machine

/-! ### Small states -/

/-- A state with an empty queue. -/
def at_ (d : Dev) : State := { dev := d, pending := [] }

/-- A journal entry that has begun: a PCIe packet on channel 0 with TAG 7, burgee 0 and the words from word 4. -/
def job (op : Nat) (ws : List Nat) : JEntry :=
  { aseq := 1, chan := 0, pkt := { words := [0x11000000 + op, 7, 0, 0] ++ ws, origin := .pcie }, phase := .begun }

/-- The device with that entry in its journal. -/
def begun (op : Nat) (ws : List Nat) (d : Dev) : State :=
  at_ { d with mgmt := { d.mgmt with journal := [job op ws] } }

/-- A pennant stored in a ring of port 3 that the hub attach point of Q0 holds for Thidan, as packet 1. -/
def heldStored (k : Packet) : Stored :=
  { pkt := k, ing := 3, vc := 7, home := 0, flits := 1, have_ := 1, store := .ring 3 7 1, count := 1,
    holders := [⟨hubAttach, 7, tgtThidan, false⟩] }

def hubHolds (k : Packet) (d : Dev) : Dev :=
  { d with net := { d.net with
      pkts := [(1, heldStored k)], nextPid := 2,
      attachIn := [(hubAttach, [(1, ⟨hubAttach, 7, tgtThidan, false⟩)])] } }

/-- The device as `takeHub` leaves it. -/
def afterHub (d : Dev) (want : Packet → Bool) : Dev := (d.takeHub 1 want).elim {} Prod.snd

/-- A device that is READY, with PCIe and hub on and channel 0 bound to the PF as the owner's. -/
def ready : Dev :=
  (((({} : Dev).wr R.HUB_BOOT_PHASE 6).setPd pdPcie true).setPd pdHub true).wr R.MBX_CTAB_A_ENTRY_A 0x84000000 0 0

def cmdPen : Packet :=
  { dst := 0xFFFFE, src := 7, tag := 9, typ := 2, opcode := 1, len := 16,
    payload := [0x11, 0, 0, 1, 0, 0, 0, 9, 0, 0, 0, 0, 0, 0, 0, 0] }

def noticePen : Packet :=
  { dst := 0xFFFFE, typ := 3, opcode := 0x40, len := 4, arg5 := 9, arg6 := 0x10101, payload := [0, 0x14, 0, 0] }

def noticeDev : Dev :=
  { net := { banks := [(0, ({ epoch := 1, notices := [(5, { v := true, rgrp := 3 })] }, {}))] } }

/-- A stored pennant whose holder is Thidan. -/
def pst : Stored :=
  { pkt := cmdPen, ing := 3, vc := 7, home := 0, flits := 1, have_ := 1, store := .ring 3 7 1, count := 1,
    holders := [⟨515, 7, 0x1FF, false⟩] }

/-- A result for context 5 of Q0 that the hub attach point holds for the store controller, with an open object. -/
def absPkt : Stored :=
  { pkt := { dst := 0xFFFFE, collId := 5, len := 4, payload := [1, 2, 3, 4] }, ing := 3, vc := 6, home := 0, flits := 1,
    have_ := 1, store := .ring 3 6 1, count := 1, ctx := some 5, holders := [⟨hubAttach, 6, tgtStore, false⟩] }

def absDev : Dev :=
  ({ net := { pkts := [(1, absPkt)], nextPid := 2, attachIn := [(hubAttach, [(1, ⟨hubAttach, 6, tgtStore, false⟩)])] },
     store := { objs := [(0, { gen := 1, state := 1, size := 8192 })], binds := [{ ctx := 5, obj := 0x10000, base := 0 }] } } : Dev).wr R.NVS_STAT_STATE 3

/-- A HOIST pennant of an opcode for entry 5, instance 0, and a device whose entry 5 is `h` with instance `x`. -/
def hoistPk (opcode w6 w7 : Nat) : Packet :=
  { pclass := 1, dst := 0xFFFFE, src := 9, typ := 7, opcode := opcode, arg5 := 5, arg6 := w6, arg7 := w7 }

def hoistDev (h : HoistEnt) (x : HoistInst) : Dev := { time := { hoists := [(5, h)], insts := [(5, x)] } }

def isHoist (op : Nat) (k : Packet) : Bool := k.pclass = 1 && k.typ = 7 && k.opcode = op

def innerNode : HoistEnt := { v := true, nChild := 2, nLocal := 2, parentPort := 3, deadline := 100 }

/-- An EXACT context 5 of engine 0 with two inputs, a window of 4 chunks and 9 chunks, in some state; `root` is bit 7
of word 0. -/
def ctxW (w0 : Nat) : List Nat := [0x10000 + w0, 4, 9, 0x400000, 0, 0, 0, 0, 0]

def ctxIn (w0 st : Nat) : Ctx := { w := ctxW w0, state := st }

def ctxDev (c : Ctx) : Dev :=
  { red := { ctxs := [(5, c)], keys := [((0, 0), { key := 7 }), ((0, 1), { key := 9 })] } }

/-- A packet stored whole that attach point `e` has handed to the target `t`, as packet 1. -/
def atBlock (e t vc : Nat) (k : Packet) : Stored :=
  { pkt := k, ing := 3, vc := vc, home := 0, flits := 1, have_ := 1, store := .ring 3 vc 1, count := 1,
    holders := [⟨e, vc, t, false⟩] }

def blockHolds (e t vc : Nat) (k : Packet) (d : Dev) : Dev :=
  { d with net := { d.net with
      pkts := [(1, atBlock e t vc k)], nextPid := 2, attachIn := [(e, [(1, ⟨e, vc, t, false⟩)])] } }

def afterTake (d : Dev) (e t : Nat) : Dev := (d.takeWhole e 1 t).elim {} fun x => x.2.2

def contribPk : Packet :=
  { pclass := 2, typ := 1, dst := 0xFFFFE, src := 8, collId := 0x10005, contrib := 9, len := 512 }

/-- A complete chunk's slot. -/
def fullSlot : ChunkSlot := { n := 0, acc := some [], done := 2 }

def ctxOpenDev : Dev := (({ red := { keys := [((0, 0), { key := 7 }), ((0, 1), { key := 9 })] } } : Dev).setPd 100 true).wr R.RED_ESTAT_UNITS_FREE 1024

def chunkDev : Dev :=
  ((ctxDev { ctxIn 0x40 1 with w := [0x10040, 4, 9, 0x400000, 0, 0, 0, 0, 0], slots := [fullSlot] }).wr
    R.LNK_STAT_STATE 3 0).set R.LNK_STAT_ADMITTED 0

def rootDev : Dev :=
  ((ctxDev { ctxIn 0xC0 1 with slots := [fullSlot] }).wr R.LNK_STAT_STATE 3 0).set R.LNK_STAT_ADMITTED 0

def resPk : Stored :=
  { pkt := { pclass := 2, typ := 2, dst := 0xFFFFE, collId := 0x10005, len := 512 }, ing := 3, vc := 5, home := 0,
    flits := 1, have_ := 1, store := .ring 3 5 1, count := 1, ctx := some 5, holders := [⟨515, 5, 0x1FF, false⟩] }

/-- A region of SRAM of tile 3: handle 0x10002. -/
def regE : Region := { check := 1, v := true, wr := true, rd := true, target := 3, base := 256, len := 4096 }

def regDev : Dev := ({ red := { regions := [((0, 2), regE)] } } : Dev).setPd 35 true

def dataPk : Packet := { pclass := 2, typ := 0, region := 0x10002, offset := 8, len := 64, payload := [1, 2, 3] }

def landDev : Dev := blockHolds 513 3 2 dataPk regDev

def landing1 : Landing := { pid := 1, hold := ⟨513, 2, 3, false⟩, target := 3, addr := 264, region := 2, trig := none }

def rspPk : Packet := { pclass := 1, dst := 0xFFFFE, typ := 1, opcode := 1, tag := 6, arg5 := 0 }

def remoteOp : RunOp := { trig := 4, words := [0x40000000], tag := 6, deadline := 10 }

def trigPk : Packet := { pclass := 1, dst := 0xFFFFE, src := 8, typ := 6, opcode := 1, tag := 6, arg5 := 4 * 2 ^ 15 + 3 * 2 ^ 7 }

def trigDev (e : Trig) : Dev := { red := { trigs := [(4, e)] } }

def nbrPk : Packet :=
  { pclass := 1, dst := 0xFFFFE, typ := 4, opcode := 0x55, arg5 := 7 * 2 ^ 28, arg6 := 0x10005, tag := 0xFFFFFFFF }

/-- A dispatch group of tile 3 and a token of it. -/
def grp1 : Group := { v := true, tile := 3, k := 2, gateTo := 50, cmbN := 1, cmbBase := 5 }

def tokPk : Packet := { pclass := 2, typ := 3, src := 8, collId := 1, len := 512 }

def grpDev : Dev :=
  ({ red := { groups := [((0, 1), grp1)] }, tiles := [(3, { rx0 := { base := 0, slot := 256, n := 4 } })] } : Dev).setPd 35 true

def tokDev : Dev := blockHolds 513 3 2 tokPk grpDev

def tok1 : Token := { pid := 1, group := 1, pkt := tokPk, ing := 3, due := 50000 }

def gate1 : GateRec := { tile := 3, token := 9, words := [256] }

def gateDev : Dev :=
  { grpDev with
    net := { banks := [(0, ({ windows := [{ v := true, base := 8, limit := 8, tbase := 0 }], routes := [(0, { kind := 2, set := 3 })] }, {}))] }
    red := { groups := [((0, 1), grp1)], tokens := [((0, 0), tok1)], gateRecs := [(0, [gate1])] } }

def expFail : Packet := { pclass := 1, typ := 4, opcode := 0x55, arg6 := 0x10005 }

def expDev : Dev := blockHolds 512 0x100 1 expFail (ctxDev { ctxIn 0xC0 1 with token := some 0 })

def sched1 : Schedule := { trigs := [(0, [0, 0, 0x500, 0, 0])], ops := [(0, [0])], first := 0 }

/-- An owner-local configuration image with one empty section of TYPE TUNE, and the packet words that commit it. -/
def tuneDesc : List Nat := [0x0CF00000, 80, 0, 0].flatMap (bytesLE 4)

def tuneImage : List Nat :=
  ([0x464C4731, 0x01010001, 80] ++ sha384 tuneDesc ++ [0]).flatMap (bytesLE 4) ++ tuneDesc ++ List.replicate 96 0

def tuneJob : JEntry := { job 0x0201 [0x400000B0, 0, 0, 0, 0x3C, 0, 0] with buf := some tuneImage }

/-- A resident model 7 in slot 2, on tile 3, with session 0 of FEID 8, and a SERVE pennant that its tile's attach point
holds. -/
def mdl (x : Session) : Model :=
  { state := 3, id := 7, tiles := 1, users := 4, mask := 8, sess := [(0, x)], window := 4, kvB := 8, stateB := 8 }

def sessX : Session := { state := 1, owner := 8, region := 0x10002, nslot := 4 }

def servePk (op arg6 arg7 : Nat) (pl : List Nat) : Packet :=
  { pclass := 1, dst := 5, src := 8, tag := 77, typ := 5, opcode := op, len := pl.length, arg5 := 7 * 65536, arg6 := arg6,
    arg7 := arg7, payload := pl }

def serveDev (k : Packet) (x : Session) : Dev := blockHolds 513 3 0 k { models := [(2, mdl x)] }

def afterReq (d : Dev) (op : Nat) : Dev :=
  (d.takeReq 1 fun k => k.pclass = 1 && k.typ = 5 && k.opcode = op).elim {} fun x => x.2.2

/-- An image of one tile with an empty section, and its model. -/
def imgTable : List Nat := [0, 0, 0, 0].flatMap (bytesLE 4)

def image1 : Mem :=
  Mem.writeN [] 0 (([0x4D444C31, 0x70101, 0x40100, 0, 0, 0, 0, 0, 0, 0, 0, 0] ++ sha384 imgTable
    ++ List.replicate 8 0).flatMap (bytesLE 4) ++ imgTable)

def cached1 : Model := { imageModel image1 with state := 1 }

def keyed : Dev := ({ sec := { keys := [(2, { key := [], burgee := 0 })] } } : Dev).setPd 35 true

/-- An instruction word of format R or I (R303). -/
def insWord (opc rd rs1 rs2 fn imm : Nat) : Nat :=
  opc * 2 ^ 56 + rd * 2 ^ 51 + rs1 * 2 ^ 46 + rs2 * 2 ^ 41 + fn * 2 ^ 32 + imm

/-- A tile with g1, g2 and PC 64. -/
def tileX (a b : Nat) : Tile := { g := 0 :: BitVec.ofNat 64 a :: BitVec.ofNat 64 b :: List.replicate 29 0, pc := 64, prog := some {} }

/-- Tile 3, RUNNING, with the word at PC 64 of its SRAM. -/
def tileDev (w : Nat) (x : Tile) : Dev :=
  ({ tiles := [(3, x)], sram := [(3, Mem.writeN [] 64 (bytesLE 8 w))] } : Dev).wr R.TILE_STAT_STATE tsRunning 3

theorem witness_OperatingPointCommands_opSet : ∃ (s : State) (aseq : Nat) (j : JEntry),
    (Begun s.dev aseq 0x0101 j) ∧ (s.dev.pwr.opJob = none) ∧ (s.dev.time.det ≠ 2) ∧ (j.w 4 % 4 ≠ 3) ∧ (s.dev.rd R.PWR_OPSTAT_OP_CUR ≠ 3) ∧ (j.w 4 % 4 ≠ s.dev.rd R.PWR_OPSTAT_OP_CUR) :=
  ⟨begun 0x0101 [2] {}, 1, job 0x0101 [2], by decide⟩

theorem witness_OperatingPointCommands_railRampSettled : ∃ (s : State) (v : List Nat),
    (s.dev.on R.PWR_OPSTAT_RAMPING = true) ∧ (s.dev.pwr.phase = .ramp) ∧ ((v.any fun x => decide (x + 1 < vcoreOf (s.dev.rd R.PWR_OPSTAT_OP_TGT)) ||
        decide (vcoreOf (s.dev.rd R.PWR_OPSTAT_OP_TGT) + 1 < x)) = false) :=
  ⟨at_ (((({ mgmt := { pwr := { phase := .ramp } } } : Dev).wr R.PWR_OPSTAT_RAMPING 1).wr R.PWR_OPSTAT_OP_TGT 2)), [130, 131, 129, 130], by decide⟩

theorem witness_OperatingPointCommands_op3DrainComplete : ∃ (s : State),
    (s.dev.pwr.phase = .drain) ∧ (s.dev.drainedForOp3 = true) :=
  ⟨at_ ({ mgmt := { pwr := { phase := .drain } } }), by decide⟩

theorem witness_OperatingPointCommands_op3DrainTimeout : ∃ (s : State),
    (s.dev.pwr.phase = .drain) ∧ (s.dev.pwr.opAt + 10000000 ≤ s.dev.now) :=
  ⟨at_ ({ now := 10000000, mgmt := { pwr := { phase := .drain } } }), by decide⟩

theorem witness_OperatingPointCommands_op3ExitComplete : ∃ (s : State),
    (s.dev.pwr.phase = .exit) ∧ (s.dev.on R.PWR_OPSTAT_RAMPING = false) ∧ (∀ x < 1024, s.dev.laneState x = laStandby → (s.dev.lane x).wakeAt = none) :=
  ⟨at_ ({ mgmt := { pwr := { phase := .exit } } }), by decide, by decide, fun _ _ _ => rfl⟩

theorem witness_OperatingPointCommands_regulation : ∃ (s : State) (pv : Nat),
    (s.dev.on R.PWR_OPSTAT_RAMPING = false) :=
  ⟨at_ ({}), 2, by decide⟩

theorem witness_MarginHeatAndPowerEvents_qmarginWindow : ∃ (s : State) (q m : Nat),
    (s.dev.pdOn (pdQuad q) = true) ∧ (256 ≤ m) ∧ (m < 1024) :=
  ⟨at_ ((({} : Dev).setPd 96 true)), 0, 256, by decide⟩

theorem witness_MarginHeatAndPowerEvents_belowLinePennantRepeat : ∃ (s : State) (q : Nat),
    (s.dev.on R.PWR_QMARGIN_BELOW_LINE 0 q = true) ∧ (s.dev.belowDue q = true) :=
  ⟨at_ ((({} : Dev).set R.PWR_QMARGIN_BELOW_LINE 0 1)), 1, by decide⟩

theorem witness_MarginHeatAndPowerEvents_junctionTemperatureChange : ∃ (s : State) (tj sensor : Nat),
    (tj < 120) ∧ (s.dev.mgmt.boot.cooling = false) :=
  ⟨at_ ({}), 112, 5, by decide⟩

theorem witness_MarginHeatAndPowerEvents_powerLimitWindow : ∃ (s : State) (w : Nat),
    (w ≤ s.dev.rd R.PWR_PLIMIT_LIMIT_W) :=
  ⟨at_ ({}), 2400, by decide⟩

theorem witness_MarginHeatAndPowerEvents_lmodFltChange : ∃ (s : State) (m : Nat) (low : Bool),
    (m < 16) :=
  ⟨at_ ({}), 15, true, by decide⟩

theorem witness_MarginHeatAndPowerEvents_lmodEnOffDelay : ∃ (s : State) (m t : Nat),
    (m < 16) ∧ (s.dev.pwr.lmodOff.look m = some t) ∧ (t ≤ s.dev.now) :=
  ⟨at_ ((({ now := 9, mgmt := { pwr := { lmodOff := [(3, 9)] } } } : Dev).wr R.PWR_LMOD_EN 8)), 3, 9, by decide⟩

theorem witness_PowerDomainCommands_pdSet : ∃ (s : State) (aseq : Nat) (j : JEntry),
    (Begun s.dev aseq 0x0102 j) ∧ (s.dev.pwr.pdJob = none) ∧ (s.dev.pdRefusal j = 0) ∧ (((pdOrder j.pdMask (bitOf (j.w 8) 0)).dropWhile fun x => decide (s.dev.pdOn x.1 = x.2)) ≠ []) :=
  ⟨begun 0x0102 [0, 0, 0, 0x1000, 1] ((({} : Dev).setPd 110 true).setPd 111 true), 1, job 0x0102 [0, 0, 0, 0x1000, 1], by decide⟩

theorem witness_PowerDomainCommands_domainOnComplete : ∃ (s : State) (pd : Nat),
    (s.dev.pdStep pd true = true) ∧ (100 ≤ pd) ∧ (pd < 110) :=
  ⟨at_ ({ mgmt := { pwr := { pdSteps := [(108, true)] } } }), 108, by decide⟩

theorem witness_PowerDomainCommands_domainOffComplete : ∃ (s : State) (pd : Nat),
    (s.dev.pdStep pd false = true) ∧ (32 ≤ pd) ∧ (pd < 110) :=
  ⟨at_ ((({ mgmt := { pwr := { pdSteps := [(40, false)] } } } : Dev).setPd 40 true)), 40, by decide⟩

theorem witness_PowerDomainCommands_oeClass : ∃ (s : State) (aseq : Nat) (j : JEntry),
    (Begun s.dev aseq 0x0103 j) ∧ (j.w 5 % 4 ≠ 3) ∧ ((maskBits (j.w 4) 32).all (fun e => s.dev.pdOn (pdOe e)) = true) :=
  ⟨begun 0x0103 [0x11, 2] ((({} : Dev).setPd 0 true).setPd 4 true), 1, job 0x0103 [0x11, 2], by decide⟩

theorem witness_LaneBringUpEvents_laserLow : ∃ (s : State) (e : Nat),
    (s.dev.on R.OE_LASER_IN0_LOW e = false) ∧ (s.dev.on R.OE_LASER_IN1_LOW e = false) :=
  ⟨at_ ({}), 3, by decide⟩

theorem witness_LaneBringUpEvents_laserInputRestored : ∃ (s : State) (e power : Nat),
    (s.dev.on R.OE_LASER_IN0_LOW e = true) ∧ (170 ≤ power) :=
  ⟨at_ ((({} : Dev).set R.OE_LASER_IN0_LOW 3)), 3, 170, by decide⟩

theorem witness_LaneBringUpEvents_laneBringupStart : ∃ (s : State) (x : Nat),
    (s.dev.mayStart x = true) ∧ (s.dev.bothLow (x / 32) = false) :=
  ⟨at_ ((({} : Dev).setPd 1 true)), 34, by decide⟩

theorem witness_LaneBringUpEvents_laneRingLock : ∃ (s : State) (x : Nat),
    (s.dev.laneState x = laTraining) ∧ (s.dev.laneStep x = 1) ∧ (s.dev.on R.PWR_CLKSTAT_PHY_OK = true) :=
  ⟨at_ ((((({} : Dev).wr R.OE_LSTAT_STATE 4 1 2).wr R.OE_LSTAT_STEP 1 1 2).set R.PWR_CLKSTAT_PHY_OK)), 34, by decide⟩

theorem witness_LaneBringUpEvents_laneLightDetected : ∃ (s : State) (x : Nat),
    (s.dev.laneState x = laWaitLight) ∧ (s.dev.laneStep x = 2) :=
  ⟨at_ (((({} : Dev).wr R.OE_LSTAT_STATE 3 1 2).wr R.OE_LSTAT_STEP 2 1 2)), 34, by decide⟩

theorem witness_LaneBringUpEvents_laneCdrLock : ∃ (s : State) (x : Nat),
    (s.dev.laneState x = laTraining) ∧ (s.dev.laneStep x = 3) :=
  ⟨at_ (((({} : Dev).wr R.OE_LSTAT_STATE 4 1 2).wr R.OE_LSTAT_STEP 3 1 2)), 34, by decide⟩

theorem witness_LaneBringUpEvents_laneFrameLock : ∃ (s : State) (x : Nat) (inv : Bool),
    (s.dev.laneState x = laTraining) ∧ (s.dev.laneStep x = 4) :=
  ⟨at_ (((({} : Dev).wr R.OE_LSTAT_STATE 4 1 2).wr R.OE_LSTAT_STEP 4 1 2)), 34, true, by decide⟩

theorem witness_LaneBringUpEvents_laneEqTrained : ∃ (s : State) (x : Nat),
    (s.dev.laneState x = laTraining) ∧ (s.dev.laneStep x = 5) :=
  ⟨at_ (((({} : Dev).wr R.OE_LSTAT_STATE 4 1 2).wr R.OE_LSTAT_STEP 5 1 2)), 34, by decide⟩

theorem witness_LaneBringUpEvents_laneQualified : ∃ (s : State) (x errs total : Nat),
    (s.dev.laneState x = laTraining) ∧ (s.dev.laneStep x = 6) ∧ (errs * 100000 ≤ total) :=
  ⟨at_ (((({} : Dev).wr R.OE_LSTAT_STATE 4 1 2).wr R.OE_LSTAT_STEP 6 1 2)), 34, 1, 100000, by decide⟩

theorem witness_LaneBringUpEvents_laneIdentityCheck : ∃ (s : State) (p : Nat) (k : Nat × Nat × Nat × Nat),
    (majority ((s.dev.readyAtStep p 7).map fun x => peerKey (s.dev.lane x)) = some k) ∧ (∀ x ∈ s.dev.readyAtStep p 7, peerKey (s.dev.lane x) = k) ∧ (k.2.1 = widthCode (s.dev.portWidth p)) :=
  ⟨at_ (((((((({} : Dev).wr R.OE_LSTAT_STATE 5 1 2).wr R.OE_LSTAT_STEP 7 1 2).wr R.OE_LSTAT_STATE 5 1 3).wr R.OE_LSTAT_STEP 7 1 3).setLane 34 { mWidth := 1, mDev := 5 }).setLane 35 { mWidth := 1, mDev := 5 })), 17, (5, 1, 0, 0), by decide⟩

theorem witness_LaneBringUpEvents_laneAligned : ∃ (s : State) (p skew : Nat),
    (s.dev.readyAtStep p 8 ≠ []) ∧ (skew ≤ 150) :=
  ⟨at_ (((({} : Dev).wr R.OE_LSTAT_STATE 5 1 2).wr R.OE_LSTAT_STEP 8 1 2)), 17, 150, by decide⟩

theorem witness_LaneBringUpEvents_portUp : ∃ (s : State) (p : Nat),
    ((s.dev.port p).up = false) ∧ (s.dev.readyAtStep p 9 ≠ []) ∧ ((s.dev.readyAtStep p 9).length = (s.dev.portLanes p).length) :=
  ⟨at_ ((((((({} : Dev).wr R.OE_LSTAT_STATE 5 1 2).wr R.OE_LSTAT_STEP 9 1 2).wr R.OE_LSTAT_STATE 5 1 3).wr R.OE_LSTAT_STEP 9 1 3))), 17, by decide⟩

theorem witness_LaneBringUpEvents_portUpTimer : ∃ (s : State) (p t : Nat),
    ((s.dev.port p).up = false) ∧ (s.dev.readyAtStep p 9 ≠ []) ∧ ((s.dev.port p).readyAt = some t) ∧ (t + 5000000 ≤ s.dev.now) :=
  ⟨at_ ((((({ now := 5000000 } : Dev).wr R.OE_LSTAT_STATE 5 1 2).wr R.OE_LSTAT_STEP 9 1 2).setPort 17 { readyAt := some 0 })), 17, 0, by decide⟩

theorem witness_LaneBringUpEvents_laneStepTimeout : ∃ (s : State) (x : Nat),
    (s.dev.laneState x = laTraining) ∧ ((s.dev.lane x).retryAt = none) ∧ (0 < stepSpan (s.dev.laneStep x)) ∧ ((s.dev.lane x).stepAt + 5 * stepSpan (s.dev.laneStep x) < s.dev.now) ∧ ((s.dev.port (s.dev.lanePort x)).up = false) ∧ ((s.dev.lane x).failed = false) ∧ ((s.dev.lane x).tries < 2) :=
  ⟨at_ (((({ now := 300001 } : Dev).wr R.OE_LSTAT_STATE 4 1 2).wr R.OE_LSTAT_STEP 3 1 2)), 34, by decide⟩

theorem witness_LaneBringUpEvents_laneRetryTimer : ∃ (s : State) (x t : Nat),
    ((s.dev.lane x).retryAt = some t) ∧ (t ≤ s.dev.now) ∧ (s.dev.pdOn (pdOe (x / 32)) = true) ∧ (s.dev.on R.PWR_CLKSTAT_PHY_OK = true) ∧ (s.dev.laneState x ≠ laRetrain) ∧ (s.dev.bothLow (x / 32) = false) :=
  ⟨at_ ((((({} : Dev).setPd 1 true).set R.PWR_CLKSTAT_PHY_OK).setLane 34 { retryAt := some 0 })), 34, 0, by decide⟩

theorem witness_LaneServiceEvents_codewordReceived : ∃ (s : State) (x errs blocks : Nat),
    (s.dev.laneState x ≠ laOff) ∧ (s.dev.laneState x ≠ laDark) ∧ ((s.dev.lane x).gainNext = none) ∧ (errs ≤ 15) :=
  ⟨at_ (((({} : Dev).wr R.OE_LSTAT_STATE 6 1 2).wr R.OE_LSTAT_STEP 9 1 2)), 34, 15, 1, by decide⟩

theorem witness_LaneServiceEvents_blockReceived : ∃ (s : State) (x : Nat),
    (s.dev.laneState x = laActive) ∧ (s.dev.lrd R.OE_LSTAT_IN_MASK x ≠ 0) ∧ ((s.dev.lane x).poison = 0) :=
  ⟨at_ (((({} : Dev).wr R.OE_LSTAT_STATE 6 1 2).wr R.OE_LSTAT_STEP 9 1 2).wr R.OE_LSTAT_IN_MASK 1 1 2), 34, by decide⟩

theorem witness_LaneServiceEvents_markerWordReceived : ∃ (s : State) (x : Nat) (m : Marker),
    (s.dev.laneState x ≠ laOff) ∧ (s.dev.laneState x ≠ laDark) ∧ (s.dev.laneState x ≠ laWaitLaser) ∧ (m.crcOk = true) ∧ (m.state ≤ 3) :=
  ⟨at_ (((({} : Dev).wr R.OE_LSTAT_STATE 6 1 2).wr R.OE_LSTAT_STEP 9 1 2)), 34, { state := 3, srcDev := 5 }, by decide⟩

theorem witness_LaneServiceEvents_superframeBoundary : ∃ (s : State) (p : Nat),
    (s.dev.formed p = true) ∧ ((s.dev.port p).up = true) ∧ (∀ x ∈ s.dev.portLanes p, s.dev.laneState x = laReady ∧ bitOf (s.dev.port p).nextMask (s.dev.lanePos x) = true ∧
        (s.dev.lane x).stbyNext = false ∧ (s.dev.lane x).darkNext = false ∧ (s.dev.lane x).peerStbyNext = false) :=
  ⟨at_ (((((({} : Dev).wr R.OE_LSTAT_STATE 5 1 2).wr R.OE_LSTAT_STEP 9 1 2).wr R.OE_LSTAT_STATE 5 1 3).setPort 17 { up := true, nextMask := 3 })), 17, by decide⟩

theorem witness_LaneServiceEvents_gainRangeChange : ∃ (s : State) (x g : Nat),
    (s.dev.inService x = true) ∧ (g ≤ 3) ∧ (g ≠ s.dev.lrd R.OE_LSTAT_GAIN x) :=
  ⟨at_ (((({} : Dev).wr R.OE_LSTAT_STATE 6 1 2).wr R.OE_LSTAT_STEP 9 1 2)), 34, 2, by decide⟩

theorem witness_LaneServiceEvents_marginMonitorWindow : ∃ (s : State) (x : Nat),
    ((s.dev.lane x).csym ≤ s.dev.rd R.OE_MONCFG_RETRAIN_CSYM (x / 32)) :=
  ⟨at_ (((({} : Dev).wr R.OE_LSTAT_STATE 6 1 2).wr R.OE_LSTAT_STEP 9 1 2)), 34, by decide⟩

theorem witness_LaneServiceEvents_laneRetrainComplete : ∃ (s : State) (x : Nat),
    (s.dev.laneState x = laRetrain) ∧ (((s.dev.portLanes (s.dev.lanePort x)).find? fun y => (s.dev.lane y).wantRetrain) = none) :=
  ⟨at_ (((({} : Dev).wr R.OE_LSTAT_STATE 7 1 2).wr R.OE_LSTAT_STEP 6 1 2)), 34, by decide⟩

theorem witness_LaneServiceEvents_laneLossOfLight : ∃ (s : State) (x : Nat),
    ((s.dev.lane x).peerDarkNext = false) ∧ ((s.dev.lane x).peerStbyNext = false) ∧ (s.dev.inService x = true) ∧ ((s.dev.port (s.dev.lanePort x)).up = false) :=
  ⟨at_ (((({} : Dev).wr R.OE_LSTAT_STATE 5 1 2).wr R.OE_LSTAT_STEP 7 1 2)), 34, by decide⟩

theorem witness_LaneServiceEvents_laneFrameSyncLoss : ∃ (s : State) (x : Nat),
    (s.dev.inService x = true) ∧ (3 ≤ (s.dev.lane x).badFrames) ∧ ((s.dev.port (s.dev.lanePort x)).up = false) :=
  ⟨at_ ((((({} : Dev).wr R.OE_LSTAT_STATE 5 1 2).wr R.OE_LSTAT_STEP 7 1 2).setLane 34 { badFrames := 3 })), 34, by decide⟩

theorem witness_LaneServiceEvents_laneUncorrectableBurst : ∃ (s : State) (x : Nat),
    (s.dev.inService x = true) ∧ (16 ≤ ((s.dev.lane x).uncTimes.filter fun t => decide (s.dev.now < t + 100000)).length) ∧ ((s.dev.port (s.dev.lanePort x)).up = false) :=
  ⟨at_ ((((({} : Dev).wr R.OE_LSTAT_STATE 5 1 2).wr R.OE_LSTAT_STEP 7 1 2).setLane 34 { uncTimes := List.replicate 16 0 })), 34, by decide⟩

theorem witness_LaneServiceEvents_ringLockLost : ∃ (s : State) (x : Nat),
    (s.dev.inService x = true) ∧ ((s.dev.port (s.dev.lanePort x)).up = false) :=
  ⟨at_ (((({} : Dev).wr R.OE_LSTAT_STATE 5 1 2).wr R.OE_LSTAT_STEP 7 1 2)), 34, by decide⟩

theorem witness_LaneServiceEvents_lightInStandby : ∃ (s : State) (x : Nat),
    (s.dev.laneState x = laStandby) :=
  ⟨at_ (((({} : Dev).wr R.OE_LSTAT_STATE 8 1 2).wr R.OE_LSTAT_STEP 0 1 2)), 34, by decide⟩

theorem witness_LaneServiceEvents_wakeTimeout : ∃ (s : State) (x t : Nat),
    ((s.dev.lane x).wakeAt = some t) ∧ (t + 1000000 ≤ s.dev.now) ∧ (s.dev.laneState x = laStandby) ∧ (s.dev.bothLow (x / 32) = false) :=
  ⟨at_ ((((({ now := 1000000 } : Dev).wr R.OE_LSTAT_STATE 8 1 2).wr R.OE_LSTAT_STEP 0 1 2).setLane 34 { wakeAt := some 0 })), 34, 0, by decide⟩

theorem witness_LaneServiceEvents_portState : ∃ (s : State) (aseq : Nat) (j : JEntry),
    (Begun s.dev aseq 0x0202 j) ∧ (s.dev.formed (bits (j.w 4) 8 0) = true) ∧ (s.dev.pdOn (pdOe (bits (j.w 4) 8 0 / 16)) = true) ∧ (bits (j.w 4) 10 9 = 0) :=
  ⟨begun 0x0202 [17] ((({} : Dev).setPd 1 true).setPort 17 { cmdState := 1 }), 1, job 0x0202 [17], by decide⟩

theorem witness_LinkReceiveEvents_dataFlitReceived : ∃ (s : State) (p : Nat) (f : DataFlit) (k : Packet),
    ((s.dev.link p).enc = false) ∧ (s.dev.linkState p = lsUp) ∧ (f.crV = false) ∧ (serialDiff (s.dev.seqMod p) f.seq (s.dev.link p).eseq = 0) ∧ (0 < s.dev.rd R.LNK_PEER_MAX_OUT p) ∧ (s.dev.overrun p f.vc = false) ∧ (framingBad (s.dev.link p) f = false) ∧ (f.pkt = some k) :=
  ⟨at_ (((({} : Dev).wr R.LNK_STAT_STATE 3 5).wr R.LNK_PEER_MAX_OUT 64 5).setLink 5 { granted := [4, 4, 4, 4, 4, 4, 4, 4] }), 5, { pkt := some cmdPen, vc := 7 }, cmdPen, by decide⟩

theorem witness_LinkReceiveEvents_failedFlit : ∃ (s : State) (p : Nat),
    (s.dev.linkState p = lsUp) ∧ ((s.dev.link p).nakPending = false) :=
  ⟨at_ ((({} : Dev).wr R.LNK_STAT_STATE 3 5)), 5, by decide⟩

theorem witness_LinkReceiveEvents_reservedFlitKind : ∃ (s : State) (p byte0 : Nat),
    (s.dev.linkState p ≠ lsDown) ∧ (5 ≤ byte0 / 16) ∧ (byte0 / 16 < 15) :=
  ⟨at_ ((({} : Dev).wr R.LNK_STAT_STATE 3 5)), 5, 0xE0, by decide⟩

theorem witness_LinkReceiveEvents_lcfReceived : ∃ (s : State) (p : Nat) (f : Lcf),
    (s.dev.linkState p = lsUp) ∧ (f.nak = false) ∧ (0 < serialDiff (s.dev.seqMod p) (f.ack % s.dev.seqMod p) (s.dev.link p).lastAck) :=
  ⟨at_ ((({} : Dev).wr R.LNK_STAT_STATE 3 5)), 5, { ack := 3 }, by decide⟩

theorem witness_LinkReceiveEvents_negFlitReceived : ∃ (s : State) (p v : Nat) (f : NegFlit),
    (s.dev.linkState p = lsNegotiate) ∧ (f.nstep ≤ 1) ∧ (chooseVersion f.maxv f.minv = some v) :=
  ⟨at_ ((({} : Dev).wr R.LNK_STAT_STATE 1 5)), 5, 0x30, {}, by decide⟩

theorem witness_LinkReceiveEvents_linkAuthReceived : ∃ (s : State) (p firstSeq : Nat) (f : DataFlit) (k : Packet),
    ((s.dev.link p).enc = true) ∧ ((s.dev.link p).rxHeld = [f]) ∧ ((s.dev.link p).rxBad = false) ∧ (f.seq = firstSeq) ∧ (s.dev.linkState p = lsUp) ∧ (f.crV = false) ∧ (serialDiff (s.dev.seqMod p) f.seq (s.dev.link p).eseq = 0) ∧ (0 < s.dev.rd R.LNK_PEER_MAX_OUT p) ∧ (s.dev.overrun p f.vc = false) ∧ (framingBad (s.dev.link p) f = false) ∧ (f.pkt = some k) :=
  ⟨at_ (((({} : Dev).wr R.LNK_STAT_STATE 3 5).wr R.LNK_PEER_MAX_OUT 64 5).setLink 5 { enc := true, rxHeld := [{ pkt := some cmdPen, vc := 7 }], granted := [4, 4, 4, 4, 4, 4, 4, 4] }), 5, 0, { pkt := some cmdPen, vc := 7 }, cmdPen, by decide⟩

theorem witness_LinkTimersAndTransmitter_ackHoldExpiry : ∃ (s : State) (p t : Nat),
    (s.dev.linkState p = lsUp) ∧ ((s.dev.link p).ackDue = some t) ∧ (t ≤ s.dev.now) :=
  ⟨at_ (((({} : Dev).wr R.LNK_STAT_STATE 3 5).setLink 5 { ackDue := some 0 })), 5, 0, by decide⟩

theorem witness_LinkTimersAndTransmitter_lcfPeriodic : ∃ (s : State) (p : Nat),
    (s.dev.linkState p = lsUp) ∧ ((s.dev.link p).lastLcf + 1000 ≤ s.dev.now) :=
  ⟨at_ ((({ now := 1000 } : Dev).wr R.LNK_STAT_STATE 3 5)), 5, by decide⟩

theorem witness_LinkTimersAndTransmitter_creditReportDue : ∃ (s : State) (p v t : Nat),
    (s.dev.linkState p = lsUp) ∧ ((s.dev.link p).unrepAt.getD v none = some t) ∧ (t + 64 ≤ s.dev.now) :=
  ⟨at_ (((({ now := 64 } : Dev).wr R.LNK_STAT_STATE 3 5).setLink 5 { unrepAt := [some 0] })), 5, 0, 0, by decide⟩

theorem witness_LinkTimersAndTransmitter_nakHoldoffExpiry : ∃ (s : State) (p : Nat),
    ((s.dev.link p).nakPending = true) ∧ ((s.dev.link p).nakAt ≤ s.dev.now) :=
  ⟨at_ (((({} : Dev).wr R.LNK_STAT_STATE 3 5).setLink 5 { nakPending := true })), 5, by decide⟩

theorem witness_LinkTimersAndTransmitter_replayTimeout : ∃ (s : State) (p : Nat) (f : TxFlit) (rest : List TxFlit),
    (s.dev.linkState p = lsUp) ∧ ((s.dev.link p).replay = f :: rest) ∧ ((s.dev.link p).replayFrom = none) ∧ (f.sentAt + 16 * s.dev.rd R.LNK_CFG_REPLAY_TO p ≤ s.dev.now) ∧ ((s.dev.link p).timeouts + 1 < s.dev.rd R.LNK_CFG_MAX_TMO p) :=
  ⟨at_ (((((({ now := 160 } : Dev).wr R.LNK_STAT_STATE 3 5).wr R.LNK_CFG_REPLAY_TO 10 5).wr R.LNK_CFG_MAX_TMO 3 5).setLink 5 { replay := [⟨2, 7, true, true, false, cmdPen, 0, 0⟩] })), 5, ⟨2, 7, true, true, false, cmdPen, 0, 0⟩, [], by decide⟩

theorem witness_LinkTimersAndTransmitter_negFlitTimer : ∃ (s : State) (p : Nat),
    (s.dev.negotiating p = true) ∧ ((s.dev.link p).negNext + 1000 ≤ s.dev.now) :=
  ⟨at_ ((({ now := 1000 } : Dev).wr R.LNK_STAT_STATE 1 5)), 5, by decide⟩

theorem witness_LinkTimersAndTransmitter_confirmTimeout : ∃ (s : State) (p : Nat),
    (s.dev.linkState p = lsConfirm) ∧ ((s.dev.link p).enteredAt + 100000 ≤ s.dev.now) :=
  ⟨at_ ((({ now := 100000 } : Dev).wr R.LNK_STAT_STATE 2 5)), 5, by decide⟩

theorem witness_LinkTimersAndTransmitter_resyncTimeout : ∃ (s : State) (p : Nat),
    (s.dev.linkState p = lsResync) ∧ ((s.dev.link p).enteredAt + 100000 ≤ s.dev.now) :=
  ⟨at_ ((({ now := 100000 } : Dev).wr R.LNK_STAT_STATE 4 5)), 5, by decide⟩

theorem witness_LinkTimersAndTransmitter_timeWordTimer : ∃ (s : State) (p : Nat),
    (s.dev.linkState p ≠ lsDown) ∧ ((s.dev.link p).timeNext ≤ s.dev.now) :=
  ⟨at_ ((({} : Dev).wr R.LNK_STAT_STATE 3 5)), 5, by decide⟩

theorem witness_LinkTimersAndTransmitter_pauseExpiry : ∃ (s : State) (p v t : Nat),
    (v < 8) ∧ ((s.dev.link p).pauseUntil.getD v none = some t) ∧ (t ≤ s.dev.now) :=
  ⟨at_ ((((({} : Dev).wr R.LNK_STAT_STATE 3 5).setLink 5 { pauseUntil := [none, some 0] }).wr R.LNK_HSTAT_PAUSED_BY_PEER 2 5)), 5, 1, 0, by decide⟩

theorem witness_LinkTimersAndTransmitter_transmitBlockSlot : ∃ (s : State) (p : Nat) (t : TxPen) (rest : List TxPen),
    (s.dev.linkState p = lsUp) ∧ ((s.dev.link p).halyOut = []) ∧ ((s.dev.link p).enc = false) ∧ ((s.dev.link p).lcfDue = false) ∧ ((s.dev.link p).replayFrom = none) ∧ ((s.dev.link p).replay.length < s.dev.maxOutForce p) ∧ ((s.dev.link p).txReady = t :: rest) :=
  ⟨at_ (((({} : Dev).wr R.LNK_STAT_STATE 3 5).setLink 5 { txReady := [⟨1, 7, cmdPen, 512, ⟨5, 7, 0x1000, false⟩⟩] })), 5, ⟨1, 7, cmdPen, 512, ⟨5, 7, 0x1000, false⟩⟩, [], by decide⟩

theorem witness_SwitchCoreEvents_descriptorEntry : ∃ (s : State) (pid : Nat) (h : Holder) (st : Stored),
    (s.dev.pkt? pid = some st) ∧ (s.dev.net.crossing.contains (pid, h) = true) ∧ (s.dev.meshPath st.home (quadOf h.eg) = true) ∧ (st.holders.contains h = true) ∧ (isPort h.eg = false) :=
  ⟨at_ ({ net := { pkts := [(1, pst)], nextPid := 2, crossing := [(1, ⟨515, 7, 0x1FF, false⟩)] } }), 1, ⟨515, 7, 0x1FF, false⟩, pst, by decide⟩

theorem witness_SwitchCoreEvents_schedulerPacketStart : ∃ (s : State) (e v : Nat) (c : Desc) (rest : List Desc) (st : Stored),
    (isPort e = false ∨ (s.dev.link e).txOpen = none) ∧ (s.dev.choose e (List.range 8) = some v) ∧ ((s.dev.queue e v).descs = c :: rest) ∧ (s.dev.pkt? c.pid = some st) :=
  ⟨at_ (({ net := { pkts := [(1, pst)], nextPid := 2, queues := [((515, 7), { descs := [⟨1, ⟨515, 7, 0x1FF, false⟩, 0, 1, none⟩] })] } } : Dev)), 515, 7, ⟨1, ⟨515, 7, 0x1FF, false⟩, 0, 1, none⟩, [], pst, by decide⟩

theorem witness_SwitchCoreEvents_pennantSlot : ∃ (s : State) (p v : Nat) (o : TxOpen) (c : Desc) (rest : List Desc) (st : Stored),
    (isPort p = true) ∧ ((s.dev.link p).txOpen = some o) ∧ (o.allow ≠ 0) ∧ (s.dev.rd R.LNK_CFG_ILV_RATIO p ≠ 0) ∧ (s.dev.choose p ([0, 1, 7].filter (s.dev.headPennant p)) = some v) ∧ ((s.dev.queue p v).descs = c :: rest) ∧ (s.dev.pkt? c.pid = some st) :=
  ⟨at_ (((({ net := { pkts := [(1, pst)], queues := [((5, 7), { descs := [⟨1, ⟨5, 7, 0x1000, false⟩, 0, 1, none⟩] })] } } : Dev).wr R.LNK_STAT_STATE 3 5).wr R.LNK_CFG_ILV_RATIO 4 5).setLink 5 { txOpen := some ⟨0, 2, cmdPen, 0, 3, 1, 2, 0, ⟨5, 2, 0x1000, false⟩, false⟩, crAvail := [4, 4, 4, 4, 4, 4, 4, 4] }), 5, 7, ⟨0, 2, cmdPen, 0, 3, 1, 2, 0, ⟨5, 2, 0x1000, false⟩, false⟩, ⟨1, ⟨5, 7, 0x1000, false⟩, 0, 1, none⟩, [], pst, by decide⟩

theorem witness_SwitchCoreEvents_shaperRefill : ∃ (s : State) (p v : Nat),
    (isPort p = true) ∧ (v < 7) ∧ ((s.dev.queue p v).tokens < 0) ∧ (0 ≤ s.dev.shaperTokens p v) ∧ (s.dev.rd R.SCH_QSHAPE_RATE p v ≠ 0xFFFF) :=
  ⟨at_ (((({ now := 100, net := { queues := [((5, 2), { tokens := -80 })] } } : Dev).wr R.SCH_QSHAPE_RATE 8 5 2).wr R.SCH_QSHAPE_BURST 4 5 2)), 5, 2, by decide⟩

theorem witness_SwitchCoreEvents_holderRelease : ∃ (s : State) (pid : Nat) (h : Holder) (loc : Storage) (st : Stored),
    (s.dev.pkt? pid = some st) ∧ (st.ctx = none) ∧ (st.done.contains h = true) ∧ (st.holders = [h]) ∧ (st.count = 1) ∧ (s.dev.mgmt.outWait = []) ∧ (s.dev.models = []) ∧ (s.dev.red.running = []) ∧ ((s.dev.net.pkts.map Prod.fst).Nodup) :=
  ⟨at_ ({ net := { pkts := [(1, { pst with done := [⟨515, 7, 0x1FF, false⟩] })], nextPid := 2 } }), 1, ⟨515, 7, 0x1FF, false⟩, .ring 3 7 1, { pst with done := [⟨515, 7, 0x1FF, false⟩] }, by decide⟩

theorem witness_SwitchCoreEvents_bufferEccUncorrectable : ∃ (s : State) (pid flit : Nat) (bad : Bool) (st : Stored),
    (s.dev.pkt? pid = some st) ∧ (st.stomped = false) ∧ (flit < st.flits) :=
  ⟨at_ (({ net := { pkts := [(1, pst)], nextPid := 2, queues := [((515, 7), { descs := [⟨1, ⟨515, 7, 0x1FF, false⟩, 0, 1, none⟩] })] } } : Dev)), 1, 0, false, pst, by decide⟩

theorem witness_SwitchCoreEvents_ageingTick : ∃ (s : State) (e v : Nat),
    (s.dev.now % 100000 = 0) ∧ ((s.dev.queue e v).tickAt ≠ some s.dev.now) ∧ (s.dev.ageRuns e v = true) ∧ ((s.dev.queue e v).age + 1 < s.dev.ageLimit e v) ∧ (isPort e = true) :=
  ⟨at_ ({ net := { queues := [((5, 2), { descs := [⟨1, ⟨5, 2, 0x1000, false⟩, 0, 1, none⟩] })] } }), 5, 2, by decide⟩

theorem witness_SwitchCoreEvents_flushRecordRoom : ∃ (s : State) (e v r : Nat) (c : Desc) (st : Stored),
    ((s.dev.queue e v).descs = [c]) ∧ (c.mark = some r) ∧ (s.dev.pkt? c.pid = some st) ∧ (s.dev.recRoom st.home = true) :=
  ⟨at_ ({ net := { pkts := [(1, pst)], queues := [((515, 7), { descs := [⟨1, ⟨515, 7, 0x1FF, false⟩, 0, 1, some 0x20⟩] })] } }), 515, 7, 0x20, ⟨1, ⟨515, 7, 0x1FF, false⟩, 0, 1, some 0x20⟩, pst, by decide⟩

theorem witness_SwitchCoreEvents_failureRecordIssue : ∃ (s : State) (q : Nat) (r : FailRec) (rest : List FailRec),
    (s.dev.net.recq.get q [] = r :: rest) ∧ (r.toBlock.isSome = true ∨ r.histOnly = true) :=
  ⟨at_ ({ net := { recq := [(2, [{ reason := 0x30, histOnly := true }])] } }), 2, { reason := 0x30, histOnly := true }, [], by decide⟩

theorem witness_SwitchCoreEvents_meshSublinkFail : ∃ (s : State) (pair sub : Nat),
    (s.dev.subUp pair sub = true) ∧ (sub < 16) ∧ (pair < 6) :=
  ⟨at_ ((({} : Dev).wr R.XBAR_MESHSTAT_SUBLINKS 0xFFFF 0 0)), 0, 15, by decide⟩

theorem witness_SwitchCoreEvents_meshLinkFail : ∃ (s : State) (pair : Nat),
    (s.dev.meshLinkUp (pairQuads pair).1 (pairQuads pair).2 = true) ∧ (pair < 6) :=
  ⟨at_ (((({} : Dev).wr R.XBAR_MESHSTAT_SUBLINKS 0xFFFF 0 0).wr R.XBAR_MESHSTAT_UP 1 0 0)), 0, by decide⟩

theorem witness_SwitchCoreEvents_packetArrival : ∃ (s : State) (p : Nat) (a : Arrival),
    ((s.dev.net.arrivals.find? fun a => a.port = p) = some a) ∧ (a.vc = 7) ∧ (s.dev.ingressTest p 7 a.pkt = (0, 0)) ∧ (a.pkt.dst = 0xFFFFE) ∧ (hubTakes a.pkt = true) ∧ (s.dev.pdOn pdHub = true) ∧ (s.dev.fenced 0x1FF a.pkt = false) :=
  ⟨at_ (({ net := { arrivals := [{ port := 5, vc := 7, pkt := cmdPen, seq := 0, stamp := 0 }] } } : Dev).setPd pdHub true), 5, { port := 5, vc := 7, pkt := cmdPen, seq := 0, stamp := 0 }, by decide⟩

theorem witness_RouteNoticeAndQuenchEvents_routeNoticeRepeat : ∃ (s : State) (p t : Nat),
    ((s.dev.portRoute p).noticeAt = some t) ∧ (t ≤ s.dev.now) ∧ (s.dev.localExcl p = true) :=
  ⟨at_ ({ net := { portRoute := [(5, { noticeAt := some 0 })] } }), 5, 0, by decide⟩

theorem witness_RouteNoticeAndQuenchEvents_restoreHoldExpiry : ∃ (s : State) (p t : Nat),
    ((s.dev.portRoute p).goodSince = some t) ∧ (t + s.dev.restoreHold p ≤ s.dev.now) ∧ (s.dev.upAdm p = true) ∧ ((s.dev.portRoute p).mismatch = false) :=
  ⟨at_ ((({ now := 10000000000, net := { portRoute := [(5, { goodSince := some 0 })], banks := [(0, ({ attrs := [(5, { noticeV := true })] }, {}))] } } : Dev).wr R.LNK_STAT_STATE 3 5).set R.LNK_STAT_ADMITTED 5), 5, 0, by decide⟩

theorem witness_RouteNoticeAndQuenchEvents_routeRestoreRepeat : ∃ (s : State) (p t : Nat),
    ((s.dev.portRoute p).restoreAt = some t) ∧ (t ≤ s.dev.now) ∧ (0 < (s.dev.portRoute p).restoresLeft) :=
  ⟨at_ ({ net := { portRoute := [(5, { restoreAt := some 0, restoresLeft := 2 })] } }), 5, 0, by decide⟩

theorem witness_RouteNoticeAndQuenchEvents_routeNoticeReceived : ∃ (s : State) (pid : Nat) (st : Stored) (d1 : Dev),
    (s.dev.takeHub pid isNotice = some (st, d1)) ∧ ((st.pkt.arg6 % 256) = (d1.bank (st.ing / 128)).epoch) :=
  ⟨at_ (hubHolds noticePen noticeDev), 1, heldStored noticePen, afterHub (hubHolds noticePen noticeDev) isNotice, by decide⟩

theorem witness_RouteNoticeAndQuenchEvents_noticeHoldExpiry : ∃ (s : State) (n : HeldNotice),
    (s.dev.net.heldNotices = [n]) ∧ (n.until_ ≤ s.dev.now) ∧ (0 < serialDiff 256 n.epoch (s.dev.bank (n.port / 128)).epoch) :=
  ⟨at_ ({ net := { heldNotices := [⟨5, false, 1, 1, 3, [], 0⟩] } }), ⟨5, false, 1, 1, 3, [], 0⟩, by decide⟩

theorem witness_RouteNoticeAndQuenchEvents_queueSampleTimer : ∃ (s : State) (q : Nat),
    (q < 4) ∧ (s.dev.tel.sampleAt.get q 0 ≤ s.dev.now) :=
  ⟨at_ ({}), 1, by decide⟩

theorem witness_ContextCommands_ctxOpen : ∃ (s : State) (aseq : Nat) (j : JEntry) (w : List Nat),
    (Begun s.dev aseq 0x0301 j) ∧ (s.dev.classed (((j.pkt.words ++ List.replicate 32 0).drop 5).take 9) (bitOf (j.w 14) 0) = w) ∧ (s.dev.openStatus (bits (j.w 4) 15 0) { w := w } (if s.dev.chRole j.chan = 0 then some j.burgee else none) = St.ok) ∧ (s.dev.mayLaunch (Ctx.burgee { w := w }) = true) :=
  ⟨begun 0x0301 (5 :: ctxW 0xC0) (ctxOpenDev), 1, job 0x0301 (5 :: ctxW 0xC0), ctxW 0xC0, by decide⟩

theorem witness_ContextCommands_ctxClose : ∃ (s : State) (aseq : Nat) (j : JEntry),
    (Begun s.dev aseq 0x0302 j) ∧ (s.dev.chRole j.chan ≠ 0 ∨ s.dev.ctxReach (bits (j.w 4) 15 0) j.burgee = true) ∧ ((s.dev.ctx (bits (j.w 4) 15 0)).state = csDone ∨ (s.dev.ctx (bits (j.w 4) 15 0)).state = csAborted) :=
  ⟨begun 0x0302 [5] (ctxDev (ctxIn 0x40 2)), 1, job 0x0302 [5], by decide⟩

theorem witness_ContextCommands_ctxAbort : ∃ (s : State) (aseq : Nat) (j : JEntry),
    (Begun s.dev aseq 0x0303 j) ∧ (s.dev.chRole j.chan ≠ 0 ∨ s.dev.ctxReach (bits (j.w 4) 15 0) j.burgee = true) ∧ ((s.dev.ctx (bits (j.w 4) 15 0)).state = csOpen) ∧ ((s.dev.ctx (bits (j.w 4) 15 0)).slots = []) ∧ ((s.dev.ctx (bits (j.w 4) 15 0)).deferred = []) ∧ ((s.dev.ctx (bits (j.w 4) 15 0)).scope = false) ∧ ((s.dev.ctx (bits (j.w 4) 15 0)).token = none) :=
  ⟨begun 0x0303 [5] (ctxDev (ctxIn 0xC0 1)), 1, job 0x0303 [5], by decide⟩

theorem witness_ContextCommands_ctxMigrate : ∃ (s : State) (aseq : Nat) (j : JEntry),
    (Begun s.dev aseq 0x0304 j) ∧ (s.dev.chRole j.chan ≠ 0 ∨ s.dev.ctxReach (bits (j.w 4) 15 0) j.burgee = true) ∧ ((s.dev.ctx (bits (j.w 4) 15 0)).state = csOpen) ∧ ((s.dev.ctx (bits (j.w 4) 15 0)).root = true) ∧ (bits (j.w 6) 7 0 = ((s.dev.ctx (bits (j.w 4) 15 0)).epoch + 1) % 256) ∧ (((s.dev.ctx (bits (j.w 4) 15 0)).slots.any fun x => decide (j.w 5 ≤ x.n) && x.ins != []) = false) ∧ ((s.dev.ctx (bits (j.w 4) 15 0)).deferred = []) :=
  ⟨begun 0x0304 [5, 4, 0x301] (ctxDev (ctxIn 0xC0 1)), 1, job 0x0304 [5, 4, 0x301], by decide⟩

theorem witness_ContextCommands_ctxReparent : ∃ (s : State) (aseq : Nat) (j : JEntry),
    (Begun s.dev aseq 0x0305 j) ∧ (s.dev.chRole j.chan ≠ 0 ∨ s.dev.ctxReach (bits (j.w 4) 15 0) j.burgee = true) ∧ ((s.dev.ctx (bits (j.w 4) 15 0)).state = csOpen) :=
  ⟨begun 0x0305 [5, 4, 0x301] (ctxDev (ctxIn 0xC0 1)), 1, job 0x0305 [5, 4, 0x301], by decide⟩

theorem witness_ContextCommands_ctxBind : ∃ (s : State) (aseq : Nat) (j : JEntry),
    (Begun s.dev aseq 0x0306 j) ∧ (s.dev.chRole j.chan ≠ 0 ∨ s.dev.ctxReach (bits (j.w 4) 15 0) j.burgee = true) ∧ (s.dev.bindReach j = true) :=
  ⟨begun 0x0306 [5, 0x10003, 0, 64, 0x4000] {}, 1, job 0x0306 [5, 0x10003, 0, 64, 0x4000], by decide⟩

theorem witness_ContextCommands_ctxStat : ∃ (s : State) (aseq : Nat) (j : JEntry),
    (Begun s.dev aseq 0x0307 j) ∧ (s.dev.chRole j.chan ≠ 0 ∨ s.dev.ctxReach (bits (j.w 4) 15 0) j.burgee = true) :=
  ⟨begun 0x0307 [5] (ctxDev (ctxIn 0x40 1)), 1, job 0x0307 [5], by decide⟩

theorem witness_ReductionEvents_contributionTaken : ∃ (s : State) (pid q r n : Nat) (st : Stored) (h : Holder) (d1 : Dev),
    (s.dev.clusterOf pid = some q) ∧ (s.dev.pkt? pid = some st) ∧ ((s.dev.engineQueue q (st.pkt.collId / 1024 % 16)).head? = some pid) ∧ (s.dev.takeWhole (rcAttach q) pid (rcTgt q) = some (st, h, d1)) ∧ (d1.parking = false) ∧ ((match d1.inputTest q (st.pkt.collId % 65536) st.pkt with
        | .ok x => some x
        | .error _ => none) = some (r, n)) ∧ ((d1.ctx (st.pkt.collId % 65536)).state = csOpen) ∧ ((d1.ctx (st.pkt.collId % 65536)).low ≤ n) ∧ (n < (d1.ctx (st.pkt.collId % 65536)).low + (d1.ctx (st.pkt.collId % 65536)).window) ∧ ((d1.ctx (st.pkt.collId % 65536)).exact = true) ∧ (((d1.ctx (st.pkt.collId % 65536)).slot n).held = []) ∧ (((d1.ctx (st.pkt.collId % 65536)).slot n).done ≠ r) ∧ ((((d1.ctx (st.pkt.collId % 65536)).slot n).ins.any fun a => a.rank = r) = false) :=
  ⟨at_ (blockHolds 512 0x100 4 contribPk (ctxDev (ctxIn 0x40 1))), 1, 0, 1, 0, atBlock 512 0x100 4 contribPk, ⟨512, 4, 0x100, false⟩, afterTake (blockHolds 512 0x100 4 contribPk (ctxDev (ctxIn 0x40 1))) 512 0x100, by decide⟩

theorem witness_ReductionEvents_chunkComplete : ∃ (s : State) (i n : Nat) (acc : List Nat),
    ((s.dev.ctx i).state = csOpen) ∧ ((s.dev.ctx i).root = false) ∧ ((s.dev.ctx i).ready n = true) ∧ (n = (s.dev.ctx i).low) ∧ (s.dev.slotted (s.dev.ctx i).burgee = false) ∧ (((s.dev.ctx i).slot n).acc = some acc) ∧ (s.dev.localExcl ((s.dev.ctx i).upPort n) = false) ∧ ((match s.dev.trySend (s.dev.ctxPkt i (s.dev.ctx i) n 1 (s.dev.ctx i).partFmt (s.dev.ownKey i (s.dev.ctx i))
            (encodeVals (s.dev.ctx i).partFmt ((s.dev.ctx i).accVals acc) (s.dev.ctx i).ovf).1) (rcAttach (ctxQuad i)) 4
            (some [⟨(s.dev.ctx i).upPort n, 4, 0x1000, false⟩]) with
        | (_, .ok (some _)) => true
        | _ => false) = true) ∧ ((s.dev.ctx i).slots.length = 1) ∧ ((s.dev.ctx i).deferred = []) ∧ ((s.dev.ctx i).trigV = false) ∧ (n + 1 ≠ (s.dev.ctx i).nchunk) :=
  ⟨at_ (chunkDev), 5, 0, [], by decide⟩

theorem witness_ReductionEvents_rootChunkComplete : ∃ (s : State) (i n : Nat) (acc : List Nat) (k : Packet),
    ((s.dev.ctx i).state = csOpen) ∧ ((s.dev.ctx i).root = true) ∧ ((s.dev.ctx i).ready n = true) ∧ (s.dev.slotted (s.dev.ctx i).burgee = false) ∧ (((s.dev.ctx i).slot n).acc = some acc) ∧ ((s.dev.ctx i).token = none) ∧ (k = s.dev.ctxPkt i (s.dev.ctx i) n 2 (s.dev.ctx i).rfmt 0 (encodeVals (s.dev.ctx i).rfmt ((s.dev.ctx i).accVals acc) (s.dev.ctx i).ovf).1) ∧ (s.dev.resultHolders i (s.dev.ctx i) ≠ []) ∧ ((s.dev.storePkt k (rcAttach (ctxQuad i)) 5 (flitsOf k) (s.dev.resultHolders i (s.dev.ctx i)) none (some i)).2.isSome = true) ∧ ((s.dev.ctx i).deferred = []) ∧ ((s.dev.ctx i).trigV = false) ∧ ((s.dev.ctx i).autoclose = false) :=
  ⟨at_ (rootDev), 5, 0, [], (rootDev.ctxPkt 5 (rootDev.ctx 5) 0 2 0 0 []), by decide⟩

theorem witness_ReductionEvents_resultArrival : ∃ (s : State) (p pid : Nat) (st : Stored),
    ((s.dev.net.arrivals.find? fun a => a.port = p) = none) ∧ ((s.dev.net.pkts.filter fun x => x.2.ing = p && x.2.ctx.isSome).map Prod.fst = [pid]) ∧ (s.dev.pkt? pid = some st) ∧ (st.pkt.pclass = 2 ∧ st.pkt.typ = 2 ∧ isPort st.ing = true ∧ st.have_ = st.flits ∧ st.stomped = false ∧ st.ctx.isSome = true) ∧ ((s.dev.ctx (st.pkt.collId % 65536)).low ≠ (s.dev.ctx (st.pkt.collId % 65536)).nchunk) :=
  ⟨at_ ({ (ctxDev { ctxIn 0x40 1 with w := [0x10040, 0x80, 9, 0x400000, 0, 0, 0, 0, 0] }) with net := { pkts := [(1, resPk)] } }), 3, 1, resPk, by decide⟩

theorem witness_ReductionEvents_arrivalTimeout : ∃ (s : State) (i : Nat),
    ((s.dev.ctx i).state = csOpen) ∧ ((s.dev.ctx i).timer + s.dev.arriveNs i (s.dev.ctx i) ≤ s.dev.now) ∧ ((s.dev.ctx i).slots = []) ∧ ((s.dev.ctx i).deferred = []) ∧ ((s.dev.ctx i).scope = false) ∧ ((s.dev.ctx i).token = none) :=
  ⟨at_ ({ ctxDev (ctxIn 0xC0 1) with now := 100000 * 65536 }), 5, by decide⟩

theorem witness_ReductionEvents_accEcc : ∃ (s : State) (i : Nat),
    ((s.dev.ctx i).state = csOpen) ∧ ((s.dev.ctx i).slots = []) ∧ ((s.dev.ctx i).deferred = []) ∧ ((s.dev.ctx i).scope = false) ∧ ((s.dev.ctx i).token = none) :=
  ⟨at_ (ctxDev (ctxIn 0xC0 1)), 5, by decide⟩

theorem witness_ReductionEvents_stubRetire : ∃ (s : State) (i : Nat),
    ((s.dev.ctx i).state = csStub) ∧ (s.dev.drain (s.dev.ctx i) = 0) ∧ ((s.dev.ctx i).stubAt + s.dev.stubMinNs i ≤ s.dev.now) :=
  ⟨at_ ({ ctxDev (ctxIn 0xC0 4) with now := 100000 * 65536 }), 5, by decide⟩

theorem witness_TriggerAndOperationEvents_operationEnd : ∃ (s : State) (t : Nat) (o : RunOp),
    ((s.dev.red.running.find? fun o => o.trig = t) = some o) ∧ (o.outcome = some 0) ∧ ((s.dev.trig t).disarm = false) ∧ ((s.dev.trig t).rep = false) ∧ ((s.dev.trig t).jobs = []) ∧ (bitOf (o.w 0) 10 = false) :=
  ⟨at_ ({ (trigDev { state := 2 }) with red := { trigs := [(4, { state := 2 })], running := [{ trig := 4, words := [0], outcome := some 0 }] } }), 4, { trig := 4, words := [0], outcome := some 0 }, by decide⟩

theorem witness_TriggerAndOperationEvents_remoteRspReceived : ∃ (s : State) (pid : Nat) (st : Stored) (d1 : Dev) (o : RunOp),
    (s.dev.takeHub pid (fun k => k.pclass = 1 && k.typ = 1 && k.opcode = 1) = some (st, d1)) ∧ ((d1.red.running.find? fun o => o.action = 4 && o.tag = st.pkt.tag && o.outcome.isNone) = some o) :=
  ⟨at_ (hubHolds rspPk { red := { running := [remoteOp] } }), 1, heldStored rspPk, afterHub (hubHolds rspPk { red := { running := [remoteOp] } }) fun k => k.pclass = 1 && k.typ = 1 && k.opcode = 1, remoteOp, by decide⟩

theorem witness_TriggerAndOperationEvents_remoteRspTimeout : ∃ (s : State) (t : Nat) (o : RunOp),
    ((s.dev.red.running.find? fun o => o.trig = t && o.action = 4 && o.outcome.isNone) = some o) ∧ (o.deadline ≤ s.dev.now) :=
  ⟨at_ ({ now := 10, red := { running := [remoteOp] } }), 4, remoteOp, by decide⟩

theorem witness_TriggerAndOperationEvents_trigArm : ∃ (s : State) (aseq : Nat) (j : JEntry) (n : Trig),
    (Begun s.dev aseq 0x0308 j) ∧ (trigOf ((j.pkt.words ++ List.replicate 32 0).drop 5) = n) ∧ (s.dev.cmdReach j n.burgee = true) ∧ ((s.dev.trig (j.w 4 % 2 ^ 17)).state = tgFree) ∧ (n.thresh ≠ 0) :=
  ⟨begun 0x0308 [4, 0, 0, 0x500, 0, 0, 0] {}, 1, job 0x0308 [4, 0, 0, 0x500, 0, 0, 0], { thresh := 5 }, by decide⟩

theorem witness_TriggerAndOperationEvents_trigDisarm : ∃ (s : State) (aseq : Nat) (j : JEntry),
    (Begun s.dev aseq 0x0309 j) ∧ ((s.dev.trig (j.w 4 % 2 ^ 17)).state ≠ tgFiring) ∧ ((s.dev.trig (j.w 4 % 2 ^ 17)).state = tgFree ∨ s.dev.cmdReach j (s.dev.trig (j.w 4 % 2 ^ 17)).burgee = true) :=
  ⟨begun 0x0309 [4] (trigDev { state := 1 }), 1, job 0x0309 [4], by decide⟩

theorem witness_TriggerAndOperationEvents_trigAdvance : ∃ (s : State) (aseq : Nat) (j : JEntry),
    (Begun s.dev aseq 0x030A j) ∧ (bits (j.w 4) 14 7 ≠ 0) ∧ ((s.dev.trig (bits (j.w 4) 31 15)).state = tgArmed) ∧ (j.burgee = 0 ∨ j.burgee = (s.dev.trig (bits (j.w 4) 31 15)).burgee) ∧ (s.dev.cmdReach j (s.dev.trig (bits (j.w 4) 31 15)).burgee = true) ∧ ((s.dev.trig (bits (j.w 4) 31 15)).count + bits (j.w 4) 14 7 < (s.dev.trig (bits (j.w 4) 31 15)).thresh) ∧ ((s.dev.trig (bits (j.w 4) 31 15)).count + bits (j.w 4) 14 7 < 2 ^ 32) :=
  ⟨begun 0x030A [4 * 2 ^ 15 + 3 * 2 ^ 7] (trigDev { state := 1, thresh := 9 }), 1, job 0x030A [4 * 2 ^ 15 + 3 * 2 ^ 7], by decide⟩

theorem witness_TriggerAndOperationEvents_opWrite : ∃ (s : State) (aseq : Nat) (j : JEntry),
    (Begun s.dev aseq 0x030B j) ∧ (opEntryOk (((j.pkt.words ++ List.replicate 32 0).drop 5).take 16) = true) :=
  ⟨begun 0x030B [4, 0x60000000, 0, 1, 2] {}, 1, job 0x030B [4, 0x60000000, 0, 1, 2], by decide⟩

theorem witness_TriggerAndOperationEvents_collLaunch : ∃ (s : State) (aseq t : Nat) (j : JEntry) (x : Schedule) (w : List Nat),
    (Begun s.dev aseq 0x030C j) ∧ (s.dev.red.schedules.look (j.w 4 % 65536) = some x) ∧ (s.dev.parking = false) ∧ (s.dev.launchStatus j (x.at_ (j.w 5) (j.w 6) (j.w 7)) (j.w 5) (j.w 6) = St.ok) ∧ ((x.at_ (j.w 5) (j.w 6) (j.w 7)).trigs = [(t, w)]) ∧ ((x.at_ (j.w 5) (j.w 6) (j.w 7)).first = t) ∧ (2 ≤ (trigOf w).thresh) :=
  ⟨begun 0x030C [1, 4, 4, 0] ({ red := { schedules := [(1, sched1)] } } : Dev), 1, 4, job 0x030C [1, 4, 4, 0], sched1, [0, 0, 0x500, 4 * 2 ^ 17, 0], by decide⟩

theorem witness_TriggerAndOperationEvents_trigPennantReceived : ∃ (s : State) (pid : Nat) (st : Stored) (d1 : Dev),
    (s.dev.takeHub pid (fun k => k.pclass = 1 && k.typ = 6 && k.opcode = 1) = some (st, d1)) ∧ ((d1.answersLive.find? fun x => x.1 = st.pkt.src && x.2.1 = st.pkt.tag) = none) ∧ (st.pkt.arg5 / 2 ^ 7 % 256 ≠ 0) ∧ ((d1.trig (st.pkt.arg5 / 2 ^ 15)).state = tgArmed) ∧ (st.pkt.burgee = 0 ∨ st.pkt.burgee = (d1.trig (st.pkt.arg5 / 2 ^ 15)).burgee) ∧ ((d1.trig (st.pkt.arg5 / 2 ^ 15)).count + st.pkt.arg5 / 2 ^ 7 % 256 < (d1.trig (st.pkt.arg5 / 2 ^ 15)).thresh) ∧ ((d1.trig (st.pkt.arg5 / 2 ^ 15)).count + st.pkt.arg5 / 2 ^ 7 % 256 < 2 ^ 32) :=
  ⟨at_ (hubHolds trigPk (trigDev { state := 1, thresh := 9 })), 1, heldStored trigPk, afterHub (hubHolds trigPk (trigDev { state := 1, thresh := 9 })) fun k => k.pclass = 1 && k.typ = 6 && k.opcode = 1, by decide⟩

theorem witness_RegionsLandingsAndDispatch_regionReg : ∃ (s : State) (aseq : Nat) (j : JEntry) (r : Region),
    (Begun s.dev aseq 0x030D j) ∧ (regionOf ((j.pkt.words ++ List.replicate 32 0).drop 5) = r) ∧ (s.dev.cmdReach j r.burgee = true) ∧ ((s.dev.region (j.w 4)).v = false ∨ s.dev.cmdReach j (s.dev.region (j.w 4)).burgee = true) ∧ (j.w 4 / 65536 ≠ 0) ∧ (r.check = j.w 4 / 65536) ∧ (j.w 4 / 4096 % 4 = 0) ∧ (r.v = false ∨ s.dev.regionPlace r = St.ok) :=
  ⟨begun 0x030D [0x10002, 0x1E030, 0, 0, 256, 0, 4096] {}, 1, job 0x030D [0x10002, 0x1E030, 0, 0, 256, 0, 4096], regE, by decide⟩

theorem witness_RegionsLandingsAndDispatch_regionDereg : ∃ (s : State) (aseq : Nat) (j : JEntry),
    (Begun s.dev aseq 0x030E j) ∧ ((s.dev.region (j.w 4)).v = true) ∧ ((s.dev.region (j.w 4)).check = j.w 4 / 65536) ∧ (j.w 4 / 65536 ≠ 0) ∧ (s.dev.cmdReach j (s.dev.region (j.w 4)).burgee = true) ∧ (s.dev.landingIn (regionNo (j.w 4)) = false) :=
  ⟨begun 0x030E [0x10002] regDev, 1, job 0x030E [0x10002], by decide⟩

theorem witness_RegionsLandingsAndDispatch_regionDeregComplete : ∃ (s : State) (no : Nat),
    (s.dev.landingIn no = false) :=
  ⟨at_ ({ red := { deregs := [(2, 1), (3, 1)] } }), 2, by decide⟩

theorem witness_RegionsLandingsAndDispatch_streamerLanding : ∃ (s : State) (pid t r off : Nat) (st : Stored) (h : Holder) (d1 : Dev) (trig : Option Nat) (e : Region),
    (s.dev.takeWhole (attachOf t) pid t = some (st, h, d1)) ∧ (landsInMemory st.pkt = true) ∧ (st.pkt.typ ≠ 2 ∨ d1.redFmt st.pkt.fmt = true) ∧ (d1.landingPlace st.pkt = some (r, off, trig)) ∧ ((match d1.regionCheck r off st.pkt.payload.length st.pkt.burgee true with
        | .ok x => some x
        | .error _ => none) = some e) :=
  ⟨at_ (landDev), 1, 3, 0x10002, 8, atBlock 513 3 2 dataPk, ⟨513, 2, 3, false⟩, afterTake landDev 513 3, none, regE, by decide⟩

theorem witness_RegionsLandingsAndDispatch_landingComplete : ∃ (s : State) (pid t : Nat) (l : Landing) (st : Stored),
    ((s.dev.red.landings.find? fun l => l.pid = pid && l.hold.tgt = t) = some l) ∧ (s.dev.pkt? pid = some st) ∧ (l.target < 64) ∧ (s.dev.pdOn (pdOfMem l.target) = true) ∧ ((s.dev.eccOf l.target).poison = []) ∧ (l.trig = none) :=
  ⟨at_ ({ landDev with red := { regions := [((0, 2), regE)], landings := [landing1] } }), 1, 3, landing1, atBlock 513 3 2 dataPk, by decide⟩

theorem witness_RegionsLandingsAndDispatch_failPennantReceived : ∃ (s : State) (pid : Nat) (st : Stored) (d1 : Dev),
    (s.dev.takeHub pid isFail = some (st, d1)) ∧ (st.pkt.dst = 0xFFFFE) ∧ (st.pkt.arg5 / 2 ^ 28 = 7) ∧ (st.pkt.opcode = rCtxAborted) ∧ ((d1.ctx (st.pkt.arg6 % 65536)).check = st.pkt.arg6 / 65536) ∧ ((d1.ctx (st.pkt.arg6 % 65536)).state = csOpen) ∧ ((d1.ctx (st.pkt.arg6 % 65536)).slots = []) ∧ ((d1.ctx (st.pkt.arg6 % 65536)).deferred = []) ∧ ((d1.ctx (st.pkt.arg6 % 65536)).scope = false) ∧ ((d1.ctx (st.pkt.arg6 % 65536)).token = none) :=
  ⟨at_ (hubHolds nbrPk (ctxDev (ctxIn 0xC0 1))), 1, heldStored nbrPk, afterHub (hubHolds nbrPk (ctxDev (ctxIn 0xC0 1))) isFail, by decide⟩

theorem witness_RegionsLandingsAndDispatch_dispatchTokenReceived : ∃ (s : State) (pid t n : Nat) (st : Stored) (h : Holder) (d1 d2 : Dev),
    (s.dev.takeWhole (attachOf t) pid t = some (st, h, d1)) ∧ (st.pkt.pclass = 2) ∧ (st.pkt.typ = 3) ∧ (d1.tokenTest t st.pkt = 0) ∧ (d1.red.tokenWait.get (quadOfTile t) [] = []) ∧ (d2 = { d1 with red := { d1.red with tokenWait := d1.red.tokenWait.put (quadOfTile t) [(pid, h, d1.now)] } }) ∧ (d2.freeToken (quadOfTile t) = some n) ∧ ((d2.rxPut t false (tokenBytes n (st.pkt.collId % 256) st.pkt)).isSome = true) :=
  ⟨at_ (tokDev), 1, 3, 0, atBlock 513 3 2 tokPk, ⟨513, 2, 3, false⟩, afterTake tokDev 513 3, { (afterTake tokDev 513 3) with red := { (afterTake tokDev 513 3).red with tokenWait := [(0, [(1, ⟨513, 2, 3, false⟩, 0)])] } }, by decide⟩

theorem witness_RegionsLandingsAndDispatch_tokenSlotAvailable : ∃ (s : State) (q pid n x : Nat) (st : Stored) (h : Holder) (rest : List (Nat × Holder × Nat)),
    (s.dev.red.tokenWait.get q [] = (pid, h, x) :: rest) ∧ (s.dev.pkt? pid = some st) ∧ (s.dev.freeToken q = some n) ∧ ((s.dev.rxPut h.tgt false (tokenBytes n (st.pkt.collId % 256) st.pkt)).isSome = true) :=
  ⟨at_ ({ tokDev with red := { tokDev.red with tokenWait := [(0, [(1, ⟨513, 2, 3, false⟩, 0)])] } }), 0, 1, 0, 0, atBlock 513 3 2 tokPk, ⟨513, 2, 3, false⟩, [], by decide⟩

theorem witness_RegionsLandingsAndDispatch_gateRecordTaken : ∃ (s : State) (q : Nat) (r : GateRec) (rest : List GateRec) (k : Token) (o : Slot),
    (s.dev.red.gateRecs.get q [] = r :: rest) ∧ (s.dev.red.tokens.look (q, nth r.words 0 / 65536) = some k) ∧ (k.ctx = none) ∧ (k.group = nth r.words 0 / 256 % 256) ∧ ((s.dev.group q (nth r.words 0 / 256 % 256)).tile = r.tile) ∧ (nth r.words 0 / 16 % 16 = 0) ∧ ((match s.dev.originSlot q k with
        | .ok x => some x
        | .error _ => none) = some o) :=
  ⟨at_ (gateDev), 0, gate1, [], tok1, { tgt := 3, int := true }, by decide⟩

theorem witness_RegionsLandingsAndDispatch_gateTimeout : ∃ (s : State) (q slot : Nat) (k : Token),
    (s.dev.red.tokens.look (q, slot) = some k) ∧ (k.ctx = none) ∧ (k.due ≤ s.dev.now) ∧ (s.dev.red.tokenWait.get q [] = []) :=
  ⟨at_ ({ gateDev with now := 50000 }), 0, 0, tok1, by decide⟩

theorem witness_RegionsLandingsAndDispatch_expertFailReceived : ∃ (s : State) (pid q : Nat) (st : Stored) (h : Holder) (d1 d2 : Dev),
    (((List.range 4).find? fun q => (s.dev.net.attachIn.get (rcAttach q) []).any fun x => x.1 = pid) = some q) ∧ (s.dev.takeWhole (rcAttach q) pid (rcTgt q) = some (st, h, d1)) ∧ (isFail st.pkt = true) ∧ (d2 = (d1.release pid h).retryOut) ∧ (st.pkt.opcode = rCtxAborted) ∧ (ctxQuad (st.pkt.arg6 % 65536) = q) ∧ ((d2.ctx (st.pkt.arg6 % 65536)).token.isSome = true) ∧ ((d2.ctx (st.pkt.arg6 % 65536)).check = st.pkt.arg6 / 65536) ∧ ((d2.ctx (st.pkt.arg6 % 65536)).state = csOpen) ∧ ((d2.ctx (st.pkt.arg6 % 65536)).slots = []) ∧ ((d2.ctx (st.pkt.arg6 % 65536)).deferred = []) ∧ ((d2.ctx (st.pkt.arg6 % 65536)).scope = false) :=
  ⟨at_ (expDev), 1, 0, atBlock 512 0x100 1 expFail, ⟨512, 1, 0x100, false⟩, afterTake expDev 512 0x100, ((afterTake expDev 512 0x100).release 1 ⟨512, 1, 0x100, false⟩).retryOut, by decide⟩

theorem witness_ModelCommands_modelFetch : ∃ (s : State) (aseq m : Nat) (j : JEntry) (o : Obj),
    (Begun s.dev aseq 0x0404 j) ∧ (s.dev.nvs = nsReady) ∧ (s.dev.obj? (j.w 4) = some o) ∧ (objReach o j.burgee (s.dev.isOwner j) = true) ∧ (o.kind = 1) ∧ (o.state = 2) ∧ (s.dev.emptySlot = some m) ∧ (ceilDiv (mdlWord o.data 8) 4096 * 4096 ≤ s.dev.cacheFree) :=
  ⟨at_ ((((({ store := { objs := [(0, { gen := 1, state := 2, kind := 1, size := 144 })] }, mgmt := { journal := [job 0x0404 [0x10000]] } } : Dev)).wr R.NVS_STAT_STATE 3))), 1, 0, job 0x0404 [0x10000], { gen := 1, state := 2, kind := 1, size := 144 }, by decide⟩

theorem witness_ModelCommands_modelFetchComplete : ∃ (s : State) (m aseq : Nat) (sig : Bool) (j : JEntry) (x : StoreJob),
    ((s.dev.model m).fetch = some aseq) ∧ ((s.dev.store.jobs.find? fun j => j.src = StoreSrc.fetch m && j.ended) = some x) ∧ (x.failed = none) ∧ (s.dev.job? aseq = some j) ∧ (j.pkt.origin = .pcie) ∧ (j.lost = false) ∧ (imageStatus (imageModel x.data) (sig && s.dev.modelKey (imageModel x.data).burgee) j.burgee = 0) :=
  ⟨at_ ({ keyed with store := { jobs := [{ id := 4, src := .fetch 2, obj := 0x10000, off := 0, len := 144, write := false, ended := true, data := image1 }] }, models := [(2, { fetch := some 1 })], mgmt := { journal := [{ job 0x0404 [] with phase := .running }] } }), 2, 1, true, { job 0x0404 [] with phase := .running }, { id := 4, src := .fetch 2, obj := 0x10000, off := 0, len := 144, write := false, ended := true, data := image1 }, by decide +kernel⟩

theorem witness_ModelCommands_modelLoad : ∃ (s : State) (aseq t : Nat) (sig : Bool) (j : JEntry),
    (Begun s.dev aseq 0x0405 j) ∧ (s.dev.modelReach j (s.dev.model (bits (j.w 4) 7 0)) = true) ∧ ((s.dev.model (bits (j.w 4) 7 0)).state = msCached) ∧ ((s.dev.model (bits (j.w 4) 7 0)).job = none) ∧ (imageStatus (s.dev.model (bits (j.w 4) 7 0)) (sig && s.dev.modelKey (s.dev.model (bits (j.w 4) 7 0)).burgee) j.burgee = 0) ∧ ((maskTiles (j.tileMask 5)).length = (s.dev.model (bits (j.w 4) 7 0)).tiles) ∧ (s.dev.placeStatus (bits (j.w 4) 7 0) (j.tileMask 5) (bits (j.w 4) 7 0) = 0) ∧ (s.dev.freeTrig (j.tileMask 5) = some t) :=
  ⟨begun 0x0405 [2, 8, 0] { keyed with models := [(2, cached1)] }, 1, 0, true, job 0x0405 [2, 8, 0], by decide +kernel⟩

theorem witness_ModelCommands_modelLoadSectionsWritten : ∃ (s : State) (m : Nat),
    ((s.dev.model m).state = msLoading) ∧ ((s.dev.model m).loading = true) :=
  ⟨at_ ({ models := [(2, { cached1 with state := 2, loading := true, mask := 8 })] }), 2, by decide⟩

theorem witness_ModelCommands_modelSwap : ∃ (s : State) (aseq t : Nat) (sig : Bool) (j : JEntry),
    (Begun s.dev aseq 0x0406 j) ∧ ((s.dev.model (bits (j.w 4) 7 0)).state = msResident) ∧ ((s.dev.model (bits (j.w 5) 7 0)).state = msCached) ∧ ((s.dev.model (bits (j.w 5) 7 0)).job = none) ∧ ((s.dev.model (bits (j.w 5) 7 0)).tiles ≤ (s.dev.model (bits (j.w 4) 7 0)).tiles) ∧ (s.dev.modelReach j (s.dev.model (bits (j.w 4) 7 0)) = true) ∧ (s.dev.modelReach j (s.dev.model (bits (j.w 5) 7 0)) = true) ∧ (imageStatus (s.dev.model (bits (j.w 5) 7 0)) (sig && s.dev.modelKey (s.dev.model (bits (j.w 5) 7 0)).burgee) j.burgee = 0) ∧ (s.dev.placeStatus (bits (j.w 5) 7 0) (maskOf ((maskTiles (s.dev.model (bits (j.w 4) 7 0)).mask).take (s.dev.model (bits (j.w 5) 7 0)).tiles)) (bits (j.w 4) 7 0) = 0) ∧ (s.dev.freeTrig (maskOf ((maskTiles (s.dev.model (bits (j.w 4) 7 0)).mask).take (s.dev.model (bits (j.w 5) 7 0)).tiles)) = some t) :=
  ⟨begun 0x0406 [2, 5, 0] { keyed with models := [(2, mdl sessX), (5, cached1)] }, 1, 0, true, job 0x0406 [2, 5, 0], by decide +kernel⟩

theorem witness_ModelCommands_modelSwapStepDrained : ∃ (s : State) (m i : Nat),
    ((s.dev.model m).state = msDraining) ∧ ((s.dev.model m).incoming = some i) ∧ (i ≠ m) ∧ ((s.dev.model m).sess = []) :=
  ⟨at_ ({ keyed with models := [(2, { mdl sessX with state := 4, incoming := some 5, sess := [] }), (5, { cached1 with nextMask := 8 })] }), 2, 5, by decide⟩

theorem witness_ModelCommands_modelMove : ∃ (s : State) (aseq t : Nat) (j : JEntry),
    (Begun s.dev aseq 0x0407 j) ∧ ((s.dev.model (bits (j.w 4) 7 0)).state = msResident) ∧ ((maskTiles (j.tileMask 5)).length = (s.dev.model (bits (j.w 4) 7 0)).tiles) ∧ (s.dev.placeStatus (bits (j.w 4) 7 0) (j.tileMask 5) (bits (j.w 4) 7 0) = 0) ∧ (s.dev.freeTrig (j.tileMask 5) = some t) :=
  ⟨begun 0x0407 [2, 8, 0] { keyed with models := [(2, mdl sessX)] }, 1, 0, job 0x0407 [2, 8, 0], by decide⟩

theorem witness_ModelCommands_modelMoveStubExpiry : ∃ (s : State) (m t : Nat),
    ((s.dev.model m).prevTill = some t) ∧ (t ≤ s.dev.now) :=
  ⟨at_ ({ now := 9, models := [(2, { mdl sessX with prevTill := some 5 })] }), 2, 5, by decide⟩

theorem witness_ModelCommands_modelEvict : ∃ (s : State) (aseq : Nat) (j : JEntry),
    (Begun s.dev aseq 0x0408 j) ∧ ((s.dev.model (bits (j.w 4) 7 0)).state = msCached ∨ (s.dev.model (bits (j.w 4) 7 0)).state = msResident ∨ (s.dev.model (bits (j.w 4) 7 0)).state = msFailed) ∧ ((s.dev.model (bits (j.w 4) 7 0)).job = none) ∧ ((s.dev.model (bits (j.w 4) 7 0)).fetch = none) ∧ (s.dev.modelReach j (s.dev.model (bits (j.w 4) 7 0)) = true) ∧ ((s.dev.model (bits (j.w 4) 7 0)).sess = []) :=
  ⟨begun 0x0408 [2] { keyed with models := [(2, { mdl sessX with sess := [] })] }, 1, job 0x0408 [2], by decide⟩

theorem witness_ModelCommands_modelStep : ∃ (s : State) (m dur i : Nat) (out : List SessOut) (a : AppendReq),
    ((s.dev.model m).state = msResident) ∧ (s.dev.rd R.PWR_OPSTAT_OP_CUR ≠ 3) ∧ ((s.dev.model m).sessIn 1 = [i]) ∧ ((s.dev.session m i).gen = none) ∧ ((s.dev.model m).waiting = [i]) ∧ ((s.dev.session m i).apps = [a]) ∧ (a.left.length = 1) :=
  ⟨at_ ({ models := [(2, mdl { sessX with apps := [{ tag := 4, left := [9] }] })] }), 2, 50, 0, [], { tag := 4, left := [9] }, by decide⟩

theorem witness_ServeRequests_serveOpen : ∃ (s : State) (pid ing m : Nat) (k : Packet) (d1 : Dev) (n : Nat),
    (Asks s.dev pid 1 k ing d1 m) ∧ ((d1.model m).openedBy (reqOf k ing) = none) ∧ ((d1.model m).freeSession = some n) :=
  ⟨at_ ((serveDev (servePk 1 0 0 []) sessX)), 1, 513, 2, (servePk 1 0 0 []), (afterReq (serveDev (servePk 1 0 0 []) sessX) 1), 1, by decide⟩

theorem witness_ServeRequests_serveAppend : ∃ (s : State) (pid ing m : Nat) (k : Packet) (d1 : Dev) (x : Session),
    (Asks s.dev pid 2 k ing d1 m) ∧ (Owns d1 k m 1 x) ∧ (x.gen = none) ∧ (k.arg6 / 256 = x.nextPos + x.queued) ∧ ((reqOf k ing).tokens ≠ []) ∧ (x.nextPos + x.queued + (reqOf k ing).tokens.length ≤ maxPos) :=
  ⟨at_ ((serveDev (servePk 2 0 0 [0, 0, 0, 5]) sessX)), 1, 513, 2, (servePk 2 0 0 [0, 0, 0, 5]), (afterReq (serveDev (servePk 2 0 0 [0, 0, 0, 5]) sessX) 2), sessX, by decide⟩

theorem witness_ServeRequests_serveGenerate : ∃ (s : State) (pid ing m : Nat) (k : Packet) (d1 : Dev) (x : Session),
    (Asks s.dev pid 3 k ing d1 m) ∧ (Owns d1 k m 1 x) ∧ (x.gen = none) ∧ (((d1.model m).sess.filter fun y => y.2.gen.isSome).length < 128 / (d1.model m).rows) ∧ (k.arg6 / 256 = (x.nextPos + x.queued) % 2 ^ 24) ∧ (x.nextPos + x.queued < maxPos) ∧ (k.arg7 / 256 ≤ x.nslot * x.deliver * (d1.model m).rows) :=
  ⟨at_ ((serveDev (servePk 3 0 (3 * 256 + 5) []) sessX)), 1, 513, 2, (servePk 3 0 (3 * 256 + 5) []), (afterReq (serveDev (servePk 3 0 (3 * 256 + 5) []) sessX) 3), sessX, by decide⟩

theorem witness_ServeRequests_serveCancel : ∃ (s : State) (pid ing m : Nat) (k : Packet) (d1 : Dev) (x : Session) (g : Gen),
    (Asks s.dev pid 4 k ing d1 m) ∧ (Owns d1 k m 1 x) ∧ (x.gen = some g) :=
  ⟨at_ ((serveDev (servePk 4 0 0 []) { sessX with gen := some ⟨5, 3, 0, 0, 9, 0, 0, [], 0, false, none⟩ })), 1, 513, 2, (servePk 4 0 0 []), (afterReq (serveDev (servePk 4 0 0 []) { sessX with gen := some ⟨5, 3, 0, 0, 9, 0, 0, [], 0, false, none⟩ }) 4), { sessX with gen := some ⟨5, 3, 0, 0, 9, 0, 0, [], 0, false, none⟩ }, ⟨5, 3, 0, 0, 9, 0, 0, [], 0, false, none⟩, by decide⟩

theorem witness_ServeRequests_servePark : ∃ (s : State) (pid ing m : Nat) (k : Packet) (d1 : Dev) (x : Session),
    (Asks s.dev pid 5 k ing d1 m) ∧ (Owns d1 k m 1 x) ∧ (x.gen = none) ∧ (x.apps = []) ∧ (x.storing = none) :=
  ⟨at_ ((serveDev (servePk 5 0 0 []) sessX)), 1, 513, 2, (servePk 5 0 0 []), (afterReq (serveDev (servePk 5 0 0 []) sessX) 5), sessX, by decide⟩

theorem witness_ServeRequests_serveResume : ∃ (s : State) (pid ing m : Nat) (k : Packet) (d1 : Dev) (x : Session) (n : Nat),
    (Asks s.dev pid 6 k ing d1 m) ∧ (Owns d1 k m 2 x) ∧ (x.dead = false) ∧ ((d1.model m).freeSlot = some n) :=
  ⟨at_ ((serveDev (servePk 6 0 0 []) { sessX with state := 2 })), 1, 513, 2, (servePk 6 0 0 []), (afterReq (serveDev (servePk 6 0 0 []) { sessX with state := 2 }) 6), { sessX with state := 2 }, 0, by decide⟩

theorem witness_ServeRequests_serveClose : ∃ (s : State) (pid ing m : Nat) (k : Packet) (d1 : Dev) (x : Session),
    (Asks s.dev pid 9 k ing d1 m) ∧ (Owns d1 k m 1 x) ∧ (x.gen = none) ∧ (x.apps = []) ∧ (x.storing = none) :=
  ⟨at_ ((serveDev (servePk 9 0 0 []) sessX)), 1, 513, 2, (servePk 9 0 0 []), (afterReq (serveDev (servePk 9 0 0 []) sessX) 9), sessX, by decide⟩

theorem witness_ServeRequests_serveDataAppend : ∃ (s : State) (pid ing m : Nat) (k : Packet) (d1 : Dev) (x : Session),
    (s.dev.takeReq pid (fun k => k.pclass = 2 && k.typ = 4 && k.region = 0) = some (k, ing, d1)) ∧ (d1.modelById (k.collId / 65536) = some m) ∧ ((d1.model m).state = msResident) ∧ (k.burgee = (d1.model m).burgee) ∧ ((d1.models.any fun x => x.2.state != msEmpty && x.2.id = k.collId / 65536) = true) ∧ (d1.session m (k.collId % 65536) = x) ∧ (x.state = 1) ∧ (x.owner = k.src) ∧ (x.burgee = k.burgee) ∧ (k.collId % 65536 < (d1.model m).users) ∧ (x.openTags.contains k.tag = false) ∧ (x.last = none) ∧ (x.gen = none) ∧ (k.offset / 4 = x.nextPos + x.queued) ∧ ((reqOfStream k ing).tokens ≠ []) ∧ (x.nextPos + x.queued + (reqOfStream k ing).tokens.length ≤ maxPos) :=
  ⟨at_ ((blockHolds 513 3 2 { pclass := 2, typ := 4, dst := 5, src := 8, tag := 77, collId := 7 * 65536, len := 64, payload := [0, 0, 0, 5] } { models := [(2, mdl sessX)] })), 1, 513, 2, { pclass := 2, typ := 4, dst := 5, src := 8, tag := 77, collId := 7 * 65536, len := 64, payload := [0, 0, 0, 5] }, (((blockHolds 513 3 2 { pclass := 2, typ := 4, dst := 5, src := 8, tag := 77, collId := 7 * 65536, len := 64, payload := [0, 0, 0, 5] } { models := [(2, mdl sessX)] }).takeReq 1 fun k => k.pclass = 2 && k.typ = 4 && k.region = 0).elim {} fun x => x.2.2), sessX, by decide⟩

theorem witness_ServeRequests_serveSnapshot : ∃ (s : State) (pid ing m : Nat) (k : Packet) (d1 : Dev) (x : Session) (o : Obj),
    (Asks s.dev pid 7 k ing d1 m) ∧ (Owns d1 k m 1 x) ∧ (x.gen = none) ∧ (x.apps = []) ∧ (x.storing = none) ∧ (d1.nvs = nsReady) ∧ (d1.obj? k.arg7 = some o) ∧ (o.kind = 3) ∧ (o.state = 1) ∧ (o.burgee = k.burgee) ∧ ((d1.model m).snapBytes ((d1.model m).live x.nextPos) ≤ o.size) ∧ (d1.writeStatus k.arg7 0 ((d1.model m).snapBytes ((d1.model m).live x.nextPos)) = St.ok) ∧ (d1.store.quiesceJob = none) ∧ (d1.store.jobs = []) :=
  ⟨at_ (({ ((serveDev (servePk 7 0 0x10000 []) sessX).wr R.NVS_STAT_STATE 3) with store := { objs := [(0, { gen := 1, state := 1, kind := 3, size := 8192 })] } })), 1, 513, 2, (servePk 7 0 0x10000 []), (afterReq ({ ((serveDev (servePk 7 0 0x10000 []) sessX).wr R.NVS_STAT_STATE 3) with store := { objs := [(0, { gen := 1, state := 1, kind := 3, size := 8192 })] } }) 7), sessX, { gen := 1, state := 1, kind := 3, size := 8192 }, by decide⟩

theorem witness_ServeRequests_serveRestore : ∃ (s : State) (pid ing m : Nat) (k : Packet) (d1 : Dev) (n : Nat) (o : Obj),
    (Asks s.dev pid 8 k ing d1 m) ∧ ((d1.model m).openedBy (reqOf k ing) = none) ∧ ((d1.model m).freeSession = some n) ∧ (d1.nvs = nsReady) ∧ (d1.obj? k.arg7 = some o) ∧ (o.kind = 3) ∧ (o.state = 2) ∧ (o.burgee = k.burgee) ∧ (mdlWord o.data 0 = (d1.model m).id) ∧ ((d1.model m).snapBytes ((d1.model m).live (mdlWord o.data 1)) ≤ o.size) ∧ (mdlWord o.data 1 ≤ maxPos) :=
  ⟨at_ (({ ((serveDev (servePk 8 0 0x10000 []) sessX).wr R.NVS_STAT_STATE 3) with store := { objs := [(0, { gen := 1, state := 2, kind := 3, size := 8192, data := [(0, 7)] })] } })), 1, 513, 2, (servePk 8 0 0x10000 []), (afterReq ({ ((serveDev (servePk 8 0 0x10000 []) sessX).wr R.NVS_STAT_STATE 3) with store := { objs := [(0, { gen := 1, state := 2, kind := 3, size := 8192, data := [(0, 7)] })] } }) 8), 1, { gen := 1, state := 2, kind := 3, size := 8192, data := [(0, 7)] }, by decide⟩

theorem witness_ServeRequests_serveStoreOpComplete : ∃ (s : State) (m i tag h : Nat) (j : StoreJob),
    ((s.dev.session m i).storing = some (tag, 8, h)) ∧ ((s.dev.store.jobs.find? fun j => (j.src = StoreSrc.snap m i || j.src = StoreSrc.restore m i) && j.ended) = some j) ∧ (j.failed = none) :=
  ⟨at_ ({ models := [(2, mdl { sessX with state := 3, storing := some (5, 8, 0x10000) })], store := { jobs := [{ id := 4, src := .restore 2 0, obj := 0x10000, off := 0, len := 4096, write := false, ended := true, data := [(0, 7), (4, 2)] }] } }), 2, 0, 5, 0x10000, { id := 4, src := .restore 2 0, obj := 0x10000, off := 0, len := 4096, write := false, ended := true, data := [(0, 7), (4, 2)] }, by decide⟩

theorem witness_MemoryProtectionEvents_sramEccResetTimer : ∃ (s : State) (t x : Nat),
    ((s.dev.eccOf t).resetAt = some x) ∧ (x ≤ s.dev.now) ∧ (s.dev.mgmt.resets = []) ∧ (s.dev.tileState t = tsIdle) ∧ (s.dev.modelOf t = none) :=
  ⟨at_ (({ now := 9, ecc := [(3, { resetAt := some 5 })] } : Dev).wr R.TILE_STAT_STATE 1 3), 3, 5, by decide⟩

theorem witness_MemoryProtectionEvents_sramScrubPeriod : ∃ (s : State) (t : Nat) (hits : EccHits),
    (s.dev.rd R.SRAM_SCRUB_PERIOD_S t ≠ 0) ∧ (s.dev.pdOn (pdTile t) = true) ∧ ((s.dev.eccOf t).scrubAt + 1000000000 * s.dev.rd R.SRAM_SCRUB_PERIOD_S t ≤ s.dev.now) :=
  ⟨at_ ((({ now := 10 ^ 15 } : Dev).setPd 35 true).wr R.SRAM_SCRUB_PERIOD_S 60 3), 3, { corr := [(8, 3)], unc := [16] }, by decide⟩

theorem witness_MemoryProtectionEvents_sramTest : ∃ (s : State) (aseq t : Nat) (j : JEntry),
    (Begun s.dev aseq 0x0403 j) ∧ (maskBits (j.w 4 + j.w 5 * 2 ^ 32) 64 = [t]) ∧ (j.w 6 % 4 ≠ 0) ∧ (s.dev.marchState t (j.w 6 % 4) = true) ∧ (j.w 6 % 4 = 3 ∨ s.dev.modelOf t = none) :=
  ⟨begun 0x0403 [8, 0, 1] (({} : Dev).wr R.TILE_STAT_STATE 1 3), 1, 3, job 0x0403 [8, 0, 1], by decide⟩

theorem witness_MemoryProtectionEvents_marchTestComplete : ∃ (s : State) (t mode : Nat),
    ((s.dev.eccOf t).march = some (mode, none)) ∧ (mode ≠ 3) ∧ (s.dev.mgmt.boot.sram = []) ∧ (s.dev.tileState t ≠ tsRunning) :=
  ⟨at_ ({ ecc := [(3, { march := some (1, none), poison := [8] })], sram := [(3, [(9, 1)])] }), 3, 1, by decide⟩

theorem witness_MemoryProtectionEvents_hbmUncorrectable : ∃ (s : State) (q addr : Nat),
    (s.dev.pdOn (pdHbm q) = true) ∧ ((s.dev.stack q).poison.contains (addr / 64 * 64) = false) :=
  ⟨at_ (({} : Dev).setPd 105 true), 1, 1000, by decide⟩

theorem witness_MemoryProtectionEvents_hbmPatrolScrub : ∃ (s : State) (q ondie : Nat) (unc corr : List Nat),
    (s.dev.pdOn (pdHbm q) = true) ∧ ((s.dev.stack q).scrubAt + 86400000000000 ≤ s.dev.now) :=
  ⟨at_ (({ now := 10 ^ 15 } : Dev).setPd 105 true), 1, 2, [64], [4096], by decide⟩

theorem witness_MemoryProtectionEvents_hbmRefreshDue : ∃ (s : State) (q : Nat),
    (s.dev.pdOn (pdHbm q) = true) :=
  ⟨at_ (({ now := 10 ^ 15 } : Dev).setPd 105 true), 1, by decide⟩

theorem witness_MemoryProtectionEvents_hbmTempCheck : ∃ (s : State) (q temp : Nat),
    (s.dev.pdOn (pdHbm q) = true) ∧ ((s.dev.stack q).tempAt + 1000000 ≤ s.dev.now) :=
  ⟨at_ (({ now := 10 ^ 15 } : Dev).setPd 105 true), 1, 60, by decide⟩

theorem witness_MemoryProtectionEvents_hbmChannelRetrainDone : ∃ (s : State) (q t : Nat),
    ((s.dev.stack q).holdTill = some t) ∧ (t ≤ s.dev.now) ∧ ((s.dev.stack q).single = false) ∧ (s.dev.rd R.HBM_STAT_TRAIN_CH q ≠ 31) :=
  ⟨at_ ({ now := 9, hstacks := [(1, { holdTill := some 5 })] }), 1, 5, by decide⟩

theorem witness_MemoryProtectionEvents_hbmChannelRetrainNext : ∃ (s : State) (q t : Nat),
    ((s.dev.stack q).nextAt = some t) ∧ (t ≤ s.dev.now) :=
  ⟨at_ ({ now := 9, hstacks := [(1, { nextAt := some 5 })] }), 1, 5, by decide⟩

theorem witness_MemoryProtectionEvents_hbmRetrainRetry : ∃ (s : State) (q ch t : Nat) (rest : List (Nat × Nat)),
    ((s.dev.stack q).retry = (ch, t) :: rest) ∧ (t ≤ s.dev.now) ∧ (s.dev.on R.HBM_STAT_TRAINING q = false) :=
  ⟨at_ ({ now := 9, hstacks := [(1, { retry := [(7, 5)] })] }), 1, 7, 5, [], by decide⟩

theorem witness_StoreTransferEvents_unitReadComplete : ∃ (s : State) (h u step t b a : Nat) (heavy : Bool) (j : StoreJob),
    ((s.dev.store.jobs.filter fun x => !x.write && x.obj = h && x.left.contains u) = [j]) ∧ (s.dev.blockOf h u = some (t, b)) ∧ (step ≠ 0) ∧ (j.src = .cmd a) ∧ (j.left = [u]) ∧ ((s.dev.obj? h).isSome = true) ∧ (j.obj = h) ∧ (j.target.isSome = true) :=
  ⟨at_ (((({ store := { objs := [(0, { gen := 1, state := 2, size := 8192, programmed := [0, 1] })], blocks := [((2, 3), { units := [(0x10000, 0)], state := 1 })], jobs := [{ id := 4, src := .cmd 1, obj := 0x10000, off := 0, len := 16, write := false, left := [0], target := some 3 }] } } : Dev).wr R.NVS_STAT_STATE 3))), 0x10000, 0, 1, 2, 3, 1, false, { id := 4, src := .cmd 1, obj := 0x10000, off := 0, len := 16, write := false, left := [0], target := some 3 }, by decide⟩

theorem witness_StoreTransferEvents_retentionScan : ∃ (s : State) (t b i step : Nat) (heavy : Bool) (hu : Nat × Nat),
    ((s.dev.nblock t b).units[i]? = some hu) ∧ ((s.dev.nblock t b).state = bData) ∧ ((s.dev.nblock t b).sampled + max 1 (s.dev.rd R.NVS_CFG_RET_DAYS) * 86400000000000 ≤ s.dev.now) ∧ (step ≠ 0) :=
  ⟨at_ ({ now := 86400000000000 * 1000, store := { blocks := [((2, 3), { units := [(0x10000, 0)], state := 1 })] } }), 2, 3, 0, 1, false, (0x10000, 0), by decide⟩

theorem witness_StoreTransferEvents_programComplete : ∃ (s : State) (id : Nat) (p : ProgUnit),
    ((s.dev.store.prog.find? fun x => x.id = id) = some p) :=
  ⟨at_ (((({ store := { objs := [(0, { gen := 1, state := 1, size := 8192 })], prog := [{ id := 6, target := 0, block := 0, units := [⟨0x10000, 1⟩] }] } } : Dev).wr R.NVS_STAT_STATE 3))), 6, { id := 6, target := 0, block := 0, units := [⟨0x10000, 1⟩] }, by decide⟩

theorem witness_StoreTransferEvents_eraseComplete : ∃ (s : State) (t b : Nat),
    ((s.dev.nblock t b).state = bErasing) ∧ ((s.dev.store.blocks.map Prod.fst).Nodup) :=
  ⟨at_ (((({ store := { blocks := [((2, 3), { state := 2, erases := 5 })] } } : Dev).wr R.NVS_STAT_STATE 3))), 2, 3, by decide⟩

theorem witness_StoreTransferEvents_blockRefreshComplete : ∃ (s : State) (t b : Nat) (uc : Nat × Nat),
    ((s.dev.nblock t b).state = bRefresh) ∧ (((t :: s.dev.targetsUsed).findSome? fun u => match s.dev.nextBlock u (s.dev.nblock t b).units.length with
        | some c => if u = t ∧ c = b then none else some (u, c)
        | none => none) = some uc) :=
  ⟨at_ (((({ store := { targets := [(2, { used := true, raw := 1000000, blocks := 2 })], blocks := [((2, 0), { state := 4, units := [(0x10000, 0)] })] } } : Dev).wr R.NVS_STAT_STATE 3))), 2, 0, (2, 1), by decide⟩

theorem witness_StoreTransferEvents_targetTimeout : ∃ (s : State) (t : Nat),
    ((s.dev.target t).used = true) ∧ (s.dev.store.jobs = []) ∧ (s.dev.store.prog = []) :=
  ⟨at_ (((({ store := { targets := [(9, { used := true, raw := 1000000, blocks := 2 })] } } : Dev).wr R.NVS_STAT_STATE 3))), 9, by decide⟩

theorem witness_StoreTransferEvents_storeDataArrival : ∃ (s : State) (id n : Nat) (j : StoreJob),
    (s.dev.sjob? id = some j) ∧ (s.dev.store.jobs = [j]) ∧ (j.write = true) ∧ (j.ended = false) ∧ (n ≠ 0) ∧ (j.moved + n < j.len) ∧ (s.dev.mayProgram = true) ∧ (j.target = none) :=
  ⟨at_ (((({ store := { objs := [(0, { gen := 1, state := 1, size := 8192 })], jobs := [{ id := 4, src := .cmd 1, obj := 0x10000, off := 0, len := 16, write := true }] } } : Dev).wr R.NVS_STAT_STATE 3))), 4, 8, { id := 4, src := .cmd 1, obj := 0x10000, off := 0, len := 16, write := true }, by decide⟩

theorem witness_StoreTransferEvents_fillToExpiry : ∃ (s : State) (t : Nat),
    (s.dev.store.fillAt = some t) ∧ (t ≤ s.dev.now) ∧ (s.dev.store.jobs = []) ∧ (s.dev.mayProgram = true) ∧ (s.dev.store.assembly.length + s.dev.store.metas.length ≤ 48) ∧ (0 < s.dev.store.assembly.length + s.dev.store.metas.length) ∧ ((s.dev.programOn s.dev.store.assembly s.dev.store.metas).isSome = true) :=
  ⟨at_ (((({ store := { fillAt := some 0, assembly := [⟨0x10000, 0⟩], targets := [(2, { used := true, raw := 1000000, blocks := 2 })] } } : Dev).wr R.NVS_STAT_STATE 3))), 0, by decide⟩

theorem witness_StoreTransferEvents_absorbResultReceived : ∃ (s : State) (pid : Nat) (st : Stored) (h : Holder) (d1 : Dev) (b : AbsorbEnt),
    (s.dev.takeWhole hubAttach pid tgtStore = some (st, h, d1)) ∧ ((d1.store.binds.find? fun b => b.ctx = st.ctx.getD (st.pkt.collId % 65536)) = some b) ∧ ((d1.startWrite (.result pid h) b.obj (b.base + st.pkt.offset) st.pkt.payload.length none 0
        (Mem.writeN [] 0 st.pkt.payload)).2 = 0) ∧ (st.pkt.payload ≠ []) ∧ (d1.store.jobs = []) :=
  ⟨at_ (absDev), 1, absPkt, ⟨hubAttach, 6, tgtStore, false⟩, ((absDev.takeWhole hubAttach 1 tgtStore).elim {} fun x => x.2.2), { ctx := 5, obj := 0x10000, base := 0 }, by decide⟩

theorem witness_StoreTransferEvents_mapCheckpoint : ∃ (s : State),
    (s.dev.mayProgram = true) ∧ (s.dev.store.dirty = true) ∧ (s.dev.store.lastMap + 1000000000 ≤ s.dev.now) :=
  ⟨at_ ((({ now := 1000000000, store := { dirty := true } } : Dev).wr R.NVS_STAT_STATE 3)), by decide⟩

theorem witness_StoreTransferEvents_rebuildComplete : ∃ (s : State),
    (s.dev.nvs = nsRebuilding) ∧ (s.dev.rd R.HUB_BOOT_PHASE ≠ 6) :=
  ⟨at_ ((({ store := { objs := [(0, { gen := 1, state := 1, size := 8192 })] } } : Dev).wr R.NVS_STAT_STATE 2)), by decide⟩

theorem witness_StoreCommands_storeFormat : ∃ (s : State) (aseq : Nat) (j : JEntry),
    (Begun s.dev aseq 0x0501 j) ∧ (s.dev.storeGate ≠ St.storeNoTargets) ∧ (7 ≤ bits (j.w 4) 7 0) ∧ (bits (j.w 4) 7 0 ≤ 28) ∧ (s.dev.store.jobs = []) :=
  ⟨at_ ((((({ store := { objs := [(0, { gen := 1, state := 1, size := 8192 })] }, mgmt := { journal := [job 0x0501 [12]] } } : Dev)).wr R.NVS_STAT_STATE 3))), 1, job 0x0501 [12], by decide⟩

theorem witness_StoreCommands_storeStat : ∃ (s : State) (aseq : Nat) (j : JEntry),
    (Begun s.dev aseq 0x0502 j) ∧ (s.dev.storeGate ≠ St.storeNoTargets) ∧ (s.dev.nvs ≠ nsQuiesced) :=
  ⟨at_ ((((({ store := {  }, mgmt := { journal := [job 0x0502 []] } } : Dev)).wr R.NVS_STAT_STATE 3))), 1, job 0x0502 [], by decide⟩

theorem witness_StoreCommands_storeQuiesce : ∃ (s : State) (aseq : Nat) (j : JEntry),
    (Begun s.dev aseq 0x0503 j) ∧ (s.dev.nvs = nsReady) ∧ (s.dev.store.jobs = []) ∧ (s.dev.store.assembly = []) ∧ (s.dev.store.metas = []) :=
  ⟨at_ ((((({ store := {  }, mgmt := { journal := [job 0x0503 []] } } : Dev)).wr R.NVS_STAT_STATE 3))), 1, job 0x0503 [], by decide⟩

theorem witness_StoreCommands_objCreate : ∃ (s : State) (aseq i : Nat) (j : JEntry),
    (Begun s.dev aseq 0x0504 j) ∧ (s.dev.nvs = nsReady) ∧ (bits (j.w 4) 3 0 ≤ 3) ∧ (s.dev.store.quiesceJob = none) ∧ (¬ s.dev.storeFree < 4096 * unitsOfSize (j.w 5 * 2 ^ 32 + j.w 6)) ∧ (i < 65536) ∧ ((s.dev.store.objs.get i {}).state = 0) ∧ (∀ k < i, (s.dev.store.objs.get k {}).state ≠ 0) ∧ (s.dev.store.assembly.length + s.dev.store.metas.length < 47) :=
  ⟨at_ ((((({ store := { objs := [(0, { gen := 1, state := 1, size := 8192 })], targets := [(2, { used := true, raw := 1000000, blocks := 2 })] }, mgmt := { journal := [job 0x0504 [1, 0, 8192]] } } : Dev)).wr R.NVS_STAT_STATE 3))), 1, 1, job 0x0504 [1, 0, 8192], by decide⟩

theorem witness_StoreCommands_objWrite : ∃ (s : State) (aseq : Nat) (j : JEntry) (o : Obj),
    (Begun s.dev aseq 0x0505 j) ∧ (s.dev.nvs = nsReady) ∧ ((j.bref 7).kind = 1) ∧ (s.dev.chIntf j.chan = 0) ∧ (j.buf.isSome = true) ∧ (s.dev.obj? (j.w 4) = some o) ∧ (objReach o j.burgee (s.dev.isOwner j) = true) ∧ (s.dev.writeStatus (j.w 4) (j.w 5 * 2 ^ 32 + j.w 6) (j.bref 7).len = St.ok) ∧ ((j.bref 7).len ≠ 0) ∧ (s.dev.store.jobs = []) ∧ (s.dev.store.quiesceJob = none) :=
  ⟨at_ ((((({ store := { objs := [(0, { gen := 1, state := 1, size := 8192 })] }, mgmt := { journal := [{ job 0x0505 [0x10000, 0, 0, 0x40000010, 0, 0, 0] with buf := some [1] }] } } : Dev)).wr R.NVS_STAT_STATE 3))), 1, { job 0x0505 [0x10000, 0, 0, 0x40000010, 0, 0, 0] with buf := some [1] }, { gen := 1, state := 1, size := 8192 }, by decide⟩

theorem witness_StoreCommands_objRead : ∃ (s : State) (aseq : Nat) (j : JEntry) (o : Obj),
    (Begun s.dev aseq 0x0506 j) ∧ (s.dev.nvs = nsReady) ∧ ((j.bref 7).kind = 1) ∧ (s.dev.chIntf j.chan = 0) ∧ (s.dev.obj? (j.w 4) = some o) ∧ (objReach o j.burgee (s.dev.isOwner j) = true) ∧ (o.state = 2) ∧ (j.w 5 * 2 ^ 32 + j.w 6 + (j.bref 7).len ≤ o.size) ∧ (((unitsIn (j.w 5 * 2 ^ 32 + j.w 6) (j.bref 7).len).any fun u => !(o.programmed.contains u)) = false) ∧ ((unitsIn (j.w 5 * 2 ^ 32 + j.w 6) (j.bref 7).len).any o.bad.contains = false) ∧ ((j.bref 7).len ≠ 0) :=
  ⟨at_ ((((({ store := { objs := [(0, { gen := 1, state := 2, size := 8192, programmed := [0, 1] })] }, mgmt := { journal := [job 0x0506 [0x10000, 0, 0, 0x40000010, 0, 0, 0]] } } : Dev)).wr R.NVS_STAT_STATE 3))), 1, job 0x0506 [0x10000, 0, 0, 0x40000010, 0, 0, 0], { gen := 1, state := 2, size := 8192, programmed := [0, 1] }, by decide⟩

theorem witness_StoreCommands_objSeal : ∃ (s : State) (aseq : Nat) (j : JEntry) (o : Obj),
    (Begun s.dev aseq 0x0507 j) ∧ (s.dev.nvs = nsReady) ∧ (s.dev.obj? (j.w 4) = some o) ∧ (objReach o j.burgee (s.dev.isOwner j) = true) ∧ (o.state = 1) ∧ (o.sealing = none) ∧ (s.dev.store.quiesceJob = none) ∧ (((List.range (unitsOfSize o.size)).all fun u => o.programmed.contains u) = true) ∧ (s.dev.store.jobs = []) :=
  ⟨at_ ((((({ store := { objs := [(0, { ({ gen := 1, state := 1, size := 8192 } : Obj) with programmed := [0, 1] })] }, mgmt := { journal := [job 0x0507 [0x10000, 0]] } } : Dev)).wr R.NVS_STAT_STATE 3))), 1, job 0x0507 [0x10000, 0], { ({ gen := 1, state := 1, size := 8192 } : Obj) with programmed := [0, 1] }, by decide⟩

theorem witness_StoreCommands_objDelete : ∃ (s : State) (aseq : Nat) (j : JEntry) (o : Obj),
    (Begun s.dev aseq 0x0508 j) ∧ (s.dev.nvs = nsReady) ∧ (s.dev.obj? (j.w 4) = some o) ∧ (objReach o j.burgee (s.dev.isOwner j) = true) ∧ (o.state ≠ 4) ∧ (s.dev.store.quiesceJob = none) ∧ (((s.dev.store.jobs.any fun x => x.obj = j.w 4) || s.dev.store.binds.any fun b => b.obj = j.w 4) = false) ∧ (s.dev.store.assembly.length + s.dev.store.metas.length < 47) :=
  ⟨at_ ((((({ store := { objs := [(0, { gen := 1, state := 2, size := 8192, programmed := [0, 1] })] }, mgmt := { journal := [job 0x0508 [0x10000]] } } : Dev)).wr R.NVS_STAT_STATE 3))), 1, job 0x0508 [0x10000], { gen := 1, state := 2, size := 8192, programmed := [0, 1] }, by decide⟩

theorem witness_StoreCommands_objStat : ∃ (s : State) (aseq : Nat) (j : JEntry) (o : Obj),
    (Begun s.dev aseq 0x0509 j) ∧ (s.dev.nvs = nsReady) ∧ (s.dev.obj? (j.w 4) = some o) ∧ (objReach o j.burgee (s.dev.isOwner j) = true) ∧ ((j.bref 5).kind = 0) :=
  ⟨at_ ((((({ store := { objs := [(0, { gen := 1, state := 2, size := 8192, programmed := [0, 1] })] }, mgmt := { journal := [job 0x0509 [0x10000, 0, 0, 0, 0]] } } : Dev)).wr R.NVS_STAT_STATE 3))), 1, job 0x0509 [0x10000, 0, 0, 0, 0], { gen := 1, state := 2, size := 8192, programmed := [0, 1] }, by decide⟩

theorem witness_StoreCommands_absorbBind : ∃ (s : State) (aseq : Nat) (j : JEntry) (o : Obj),
    (Begun s.dev aseq 0x050A j) ∧ (s.dev.nvs = nsReady) ∧ (s.dev.obj? (j.w 5) = some o) ∧ (objReach o j.burgee (s.dev.isOwner j) = true) ∧ (o.state = 1) ∧ (s.dev.store.quiesceJob = none) ∧ (s.dev.chRole j.chan ≠ 0 ∨ s.dev.ctxReach (bits (j.w 4) 15 0) j.burgee = true) ∧ ((s.dev.store.binds.filter fun b => b.ctx ≠ bits (j.w 4) 15 0).length < 4096) :=
  ⟨at_ ((((({ store := { objs := [(0, { gen := 1, state := 1, size := 8192 })] }, mgmt := { journal := [job 0x050A [5, 0x10000, 0, 64]] } } : Dev)).wr R.NVS_STAT_STATE 3))), 1, job 0x050A [5, 0x10000, 0, 64], { gen := 1, state := 1, size := 8192 }, by decide⟩

theorem witness_StoreCommands_storeTransferComplete : ∃ (s : State) (aseq : Nat) (j : JEntry),
    (s.dev.job? aseq = some j) ∧ (j.phase = .running) ∧ (j.host = false) ∧ (j.op = 0x0505 ∨ j.op = 0x0506) ∧ (j.waits = 0) ∧ (j.pkt.origin = .pcie) ∧ (j.lost = false) :=
  ⟨at_ ({ mgmt := { journal := [{ job 0x0505 [] with phase := .running }] } }), 1, { job 0x0505 [] with phase := .running }, by decide⟩

theorem witness_MailboxAccesses_mbxSendDmwr : ∃ (s : State) (fn ch : Nat) (ws : List Nat),
    (s.dev.hasWindow ch fn = true) ∧ (4 ≤ ws.length) ∧ (ws.length ≤ 32) ∧ (4 + bits (nth ws 0) 20 16 ≤ ws.length) ∧ (s.dev.boundTo ch fn = true) ∧ (s.dev.accepts = true) ∧ (s.dev.chFull ch = false) :=
  ⟨at_ (ready), 0, 0, [0x11000001, 9, 0, 0], by decide⟩

theorem witness_MailboxAccesses_mbxDoorbellWrite : ∃ (s : State) (fn ch : Nat),
    (s.dev.hasWindow ch fn = true) ∧ (bits (s.dev.rd R.MBX_STAGE_DATA ch 0) 20 16 ≤ 28) ∧ (s.dev.boundTo ch fn = true) ∧ (s.dev.accepts = true) ∧ (s.dev.chFull ch = false) :=
  ⟨at_ ((ready.wr R.MBX_STAGE_DATA 0x11000001 0 0)), 0, 0, by decide⟩

theorem witness_MailboxAccesses_mbxCplHeadWrite : ∃ (s : State) (fn ch n : Nat),
    (s.dev.hasWindow ch fn = true) ∧ (s.dev.boundTo ch fn = true) :=
  ⟨at_ ((ready.setChan 0 { cplq := [[1], [2]] })), 0, 0, 3, by decide⟩

theorem witness_MailboxAccesses_mbxEmptyArmWrite : ∃ (s : State) (fn ch : Nat),
    (s.dev.hasWindow ch fn = true) ∧ (s.dev.boundTo ch fn = true) ∧ ((s.dev.chan ch).inq ≠ []) :=
  ⟨at_ ((ready.setChan 0 { inq := [⟨[1], .pcie⟩] })), 0, 0, by decide⟩

theorem witness_MailboxAccesses_mbxCtlLockWrite : ∃ (s : State),
    (s.dev.pdOn pdHub = true) ∧ (s.dev.mgmt.d3hot.contains 0 = false) :=
  ⟨at_ (ready), by decide⟩

theorem witness_MailboxAccesses_mctpCommandMessage : ∃ (s : State) (intf eid mtag ch : Nat) (ws : List Nat),
    (s.dev.matchChan intf eid = some ch) ∧ (((s.dev.chan ch).recent.find? fun x => x.1 = nth ws 1 && decide (s.dev.now < x.2.2)) = none) ∧ (s.dev.inProgress ch (fun k => nth k.words 1 = nth ws 1) = false) ∧ (s.dev.accepts = true) ∧ (s.dev.chFull ch = false) ∧ (s.dev.outst ch < 8) :=
  ⟨at_ ((ready.wr R.MBX_CTAB_A_ENTRY_A 0xAC000042 0 1)), 2, 0x42, 3, 1, [0x11000001, 9, 0, 0], by decide⟩

theorem witness_MailboxAccesses_cmdPennantReceived : ∃ (s : State) (pid ch : Nat) (st : Stored) (d1 : Dev),
    (s.dev.takeHub pid (fun k => k.pclass = 1 && k.typ = 2 && k.opcode = 1) = some (st, d1)) ∧ (d1.matchChan 3 st.pkt.src = some ch) ∧ (isPort st.ing = false ∨ d1.admitted st.ing = true) ∧ (((d1.chan ch).recent.find? fun x => x.1 = st.pkt.tag + 2 ^ 32 * st.pkt.src && decide (d1.now < x.2.2)) = none) ∧ (d1.inProgress ch (fun c => match c.origin with
        | .fabric _ src tag => src = st.pkt.src && tag = st.pkt.tag
        | _ => false) = false) ∧ (d1.accepts = true) ∧ (d1.chFull ch = false) ∧ (nth (wordsBE st.pkt.payload (st.pkt.len / 4)) 1 = st.pkt.tag) :=
  ⟨at_ ((hubHolds cmdPen (ready.wr R.LNK_STAT_ADMITTED 1 3))), 1, 3, heldStored cmdPen, afterHub (hubHolds cmdPen (ready.wr R.LNK_STAT_ADMITTED 1 3)) fun k => k.pclass = 1 && k.typ = 2 && k.opcode = 1, by decide⟩

theorem witness_ThidanTakingAndBeginning_commandTaken : ∃ (s : State) (ch : Nat) (rest : List Nat) (k : CmdPkt) (q : List CmdPkt),
    (s.dev.mgmt.thdDown = false) ∧ (s.dev.mgmt.journal.length < 256) ∧ (s.dev.accepts = true) ∧ (s.dev.nextTake = some (ch, rest)) ∧ ((s.dev.chan ch).inq = k :: q) ∧ (s.dev.packetCheck ch k.words = (0, 0)) ∧ (s.dev.job? s.dev.mgmt.nextAseq = none) :=
  ⟨at_ ((ready.setChan 0 { inq := [⟨[0x11000001, 9, 0, 0], .pcie⟩] })), 0, [], ⟨[0x11000001, 9, 0, 0], .pcie⟩, [], by decide⟩

theorem witness_ThidanTakingAndBeginning_commandBegin : ∃ (s : State) (aseq : Nat) (j : JEntry),
    (s.dev.job? aseq = some j) ∧ (j.phase = .taken) ∧ (s.dev.mgmt.thdDown = false) ∧ ((s.dev.mgmt.journal.filter fun j => j.phase = .begun || j.phase = .running).length < 64) ∧ (waitsForObjects j.op = false ∨ (((s.dev.earlier aseq).any fun e =>
        e.objects.any fun x => j.objects.any fun y => sameObject x y) = false ∧
        j.objects.any (s.dev.objFenced j) = false)) :=
  ⟨at_ ({ mgmt := { journal := [{ job 1 [] with phase := .taken }] } }), 1, { job 1 [] with phase := .taken }, by decide⟩

theorem witness_ThidanTakingAndBeginning_hostTransferComplete : ∃ (s : State) (aseq : Nat) (bytes : List Nat) (j : JEntry),
    (s.dev.job? aseq = some j) ∧ (j.host = true) ∧ (j.pkt.origin = .pcie) ∧ (j.lost = false) :=
  ⟨at_ ({ mgmt := { journal := [{ job 0x0506 [] with phase := .running, host := true }] } }), 1, [], { job 0x0506 [] with phase := .running, host := true }, by decide⟩

theorem witness_ThidanTakingAndBeginning_d3hotEntry : ∃ (s : State) (fn : Nat),
    (s.dev.mgmt.d3hot.contains fn = false) :=
  ⟨at_ ((ready.setChan 0 { inq := [⟨[1], .pcie⟩] })), 0, by decide⟩

theorem witness_ThidanOwnCommands_nop : ∃ (s : State) (aseq : Nat) (j : JEntry),
    (Begun s.dev aseq 0x0001 j) :=
  ⟨begun 1 [5, 6] {}, 1, job 1 [5, 6], by decide⟩

theorem witness_ThidanOwnCommands_devInfo : ∃ (s : State) (aseq : Nat) (j : JEntry),
    (Begun s.dev aseq 0x0002 j) :=
  ⟨begun 2 [] {}, 1, job 2 [], by decide⟩

theorem witness_ThidanOwnCommands_cmdCaps : ∃ (s : State) (aseq : Nat) (j : JEntry),
    (Begun s.dev aseq 0x0003 j) :=
  ⟨begun 3 [0x0101] {}, 1, job 3 [0x0101], by decide⟩

theorem witness_ThidanOwnCommands_chanBind : ∃ (s : State) (aseq : Nat) (j : JEntry),
    (Begun s.dev aseq 0x0004 j) ∧ (s.dev.on R.MBX_CTL_LOCK = false) ∧ (entryOk (j.w 5) (j.w 6) = true) :=
  ⟨begun 4 [5, 0x80000001, 0x800000] {}, 1, job 4 [5, 0x80000001, 0x800000], by decide⟩

theorem witness_ThidanOwnCommands_channelRebindEffective : ∃ (s : State) (ch : Nat),
    ((s.dev.chan ch).rebind.isSome = true) ∧ ((s.dev.mgmt.journal.any fun j => j.chan = ch) = false) :=
  ⟨at_ ((({} : Dev).setChan 4 { rebind := some (0, 0) })), 4, by decide⟩

theorem witness_ThidanOwnCommands_chanLock : ∃ (s : State) (aseq : Nat) (j : JEntry),
    (Begun s.dev aseq 0x0005 j) :=
  ⟨begun 5 [] {}, 1, job 5 [], by decide⟩

theorem witness_ThidanOwnCommands_cmdCancel : ∃ (s : State) (aseq : Nat) (j x : JEntry),
    (Begun s.dev aseq 0x0006 j) ∧ ((s.dev.mgmt.journal.find? fun y => y.chan = j.chan && y.phase = .taken && y.w 1 = j.w 4) = some x) ∧ (x.aseq ≠ aseq) ∧ (x.pkt.origin = .pcie) :=
  ⟨at_ ({ mgmt := { journal := [job 6 [9], { aseq := 2, chan := 0, pkt := ⟨[0x11000001, 9, 0, 0], .pcie⟩ }] } }), 1, job 6 [9], { aseq := 2, chan := 0, pkt := ⟨[0x11000001, 9, 0, 0], .pcie⟩ }, by decide⟩

theorem witness_HoistPennantsAndDeadlines_hoistArrive : ∃ (s : State) (pid : Nat) (st : Stored) (d1 : Dev),
    (s.dev.takeHub pid (fun k => k.pclass = 1 && k.typ = 7 && k.opcode = 1) = some (st, d1)) ∧ ((d1.hoist (st.pkt.arg5 % 1024)).v = true) ∧ (st.pkt.arg5 / 1024 = (d1.hoist (st.pkt.arg5 % 1024)).seq) ∧ (st.pkt.burgee = (d1.hoist (st.pkt.arg5 % 1024)).burgee) ∧ (((d1.inst (st.pkt.arg5 % 1024)).ranks.any fun r => r.1 = st.pkt.arg6 / 2 ^ 22) = false) ∧ ((d1.inst (st.pkt.arg5 % 1024)).ranks.length + 1 + (d1.inst (st.pkt.arg5 % 1024)).joins.length < (d1.hoist (st.pkt.arg5 % 1024)).nChild + (d1.hoist (st.pkt.arg5 % 1024)).nLocal) :=
  ⟨at_ ((hubHolds (hoistPk 1 (3 * 2 ^ 22) 0) (hoistDev innerNode {}))), 1, heldStored (hoistPk 1 (3 * 2 ^ 22) 0), afterHub (hubHolds (hoistPk 1 (3 * 2 ^ 22) 0) (hoistDev innerNode {})) (isHoist 1), by decide⟩

theorem witness_HoistPennantsAndDeadlines_hoistReleaseReceived : ∃ (s : State) (pid : Nat) (st : Stored) (d1 : Dev),
    (s.dev.takeHub pid (fun k => k.pclass = 1 && k.typ = 7 && k.opcode = 2) = some (st, d1)) ∧ ((d1.hoist (st.pkt.arg5 % 1024)).v = true) ∧ ((d1.hoist (st.pkt.arg5 % 1024)).root = false) ∧ (st.pkt.arg5 / 1024 = (d1.hoist (st.pkt.arg5 % 1024)).seq) ∧ (st.pkt.burgee = (d1.hoist (st.pkt.arg5 % 1024)).burgee) ∧ ((d1.inst (st.pkt.arg5 % 1024)).heldRanks = []) ∧ ((d1.inst (st.pkt.arg5 % 1024)).heldJoins = []) ∧ (d1.now < st.pkt.arg6 * 2 ^ 32 + st.pkt.arg7) :=
  ⟨at_ ((hubHolds (hoistPk 2 0 1000) (hoistDev innerNode { first := some 0, sentArrive := true }))), 1, heldStored (hoistPk 2 0 1000), afterHub (hubHolds (hoistPk 2 0 1000) (hoistDev innerNode { first := some 0, sentArrive := true })) (isHoist 2), by decide⟩

theorem witness_HoistPennantsAndDeadlines_hoistFailReceived : ∃ (s : State) (pid : Nat) (st : Stored) (d1 : Dev),
    (s.dev.takeHub pid (fun k => k.pclass = 1 && k.typ = 7 && k.opcode = 3) = some (st, d1)) ∧ ((d1.hoist (st.pkt.arg5 % 1024)).v = true) ∧ (st.pkt.arg5 / 1024 = (d1.hoist (st.pkt.arg5 % 1024)).seq) ∧ (st.pkt.burgee = (d1.hoist (st.pkt.arg5 % 1024)).burgee) ∧ ((d1.hoist (st.pkt.arg5 % 1024)).root = true ∨ st.ing = (d1.hoist (st.pkt.arg5 % 1024)).parentPort) ∧ (d1.net.armed = none) ∧ ((d1.inst (st.pkt.arg5 % 1024)).joins = []) ∧ ((d1.inst (st.pkt.arg5 % 1024)).heldRanks = []) ∧ ((d1.inst (st.pkt.arg5 % 1024)).heldJoins = []) :=
  ⟨at_ ((hubHolds (hoistPk 3 1 0) (hoistDev innerNode { first := some 0 }))), 1, heldStored (hoistPk 3 1 0), afterHub (hubHolds (hoistPk 3 1 0) (hoistDev innerNode { first := some 0 })) (isHoist 3), by decide⟩

theorem witness_HoistPennantsAndDeadlines_hoistReleaseTime : ∃ (s : State) (i : Nat) (r : HoistRel),
    ((s.dev.time.releases.find? fun r => r.ent = i && decide (r.trel ≤ s.dev.now)) = some r) ∧ (r.joins = []) :=
  ⟨at_ ({ now := 9, time := { releases := [⟨5, 8, false, [], some 2⟩] } }), 5, ⟨5, 8, false, [], some 2⟩, by decide⟩

theorem witness_HoistPennantsAndDeadlines_hoistDeadline : ∃ (s : State) (i : Nat),
    ((s.dev.hoist i).root = true) ∧ (s.dev.net.armed = none) ∧ ((s.dev.inst i).first.isSome = true) ∧ ((s.dev.inst i).deadlineAt ≤ s.dev.now) ∧ ((s.dev.inst i).joins = []) ∧ ((s.dev.inst i).heldRanks = []) ∧ ((s.dev.inst i).heldJoins = []) :=
  ⟨at_ ((hoistDev { innerNode with root := true } { first := some 0 })), 5, by decide⟩

theorem witness_HoistPennantsAndDeadlines_cutOff : ∃ (s : State) (i t : Nat),
    ((s.dev.hoist i).root = false) ∧ ((s.dev.inst i).sentArrive = true) ∧ ((s.dev.inst i).first = some t) ∧ (t + 2 * ((s.dev.inst i).deadlineAt - t) ≤ s.dev.now) ∧ ((s.dev.inst i).joins = []) ∧ ((s.dev.inst i).heldRanks = []) ∧ ((s.dev.inst i).heldJoins = []) :=
  ⟨at_ ((hoistDev innerNode { first := some 0, sentArrive := true })), 5, 0, by decide⟩

theorem witness_HoistCommandsSlotsAndHalyard_hoistJoin : ∃ (s : State) (aseq : Nat) (j : JEntry),
    (Begun s.dev aseq 0x0901 j) ∧ ((s.dev.hoist (j.w 4 % 1024)).v = true) ∧ (s.dev.chRole j.chan ≠ 0 ∨ (s.dev.hoist (j.w 4 % 1024)).burgee = j.burgee) ∧ (j.w 4 / 1024 = (s.dev.hoist (j.w 4 % 1024)).seq) ∧ ((s.dev.inst (j.w 4 % 1024)).joins.length < (s.dev.hoist (j.w 4 % 1024)).nLocal) ∧ ((s.dev.inst (j.w 4 % 1024)).ranks.length + (s.dev.inst (j.w 4 % 1024)).joins.length + 1 < (s.dev.hoist (j.w 4 % 1024)).nChild + (s.dev.hoist (j.w 4 % 1024)).nLocal) :=
  ⟨begun 0x0901 [5] (hoistDev innerNode {}), 1, job 0x0901 [5], by decide⟩

theorem witness_HoistCommandsSlotsAndHalyard_lockstepStart : ∃ (s : State) (aseq : Nat) (j : JEntry),
    (Begun s.dev aseq 0x0902 j) ∧ ((s.dev.hoist (j.w 4 % 1024)).v = true) ∧ ((s.dev.hoist (j.w 4 % 1024)).slot = true) ∧ ((s.dev.hoist (j.w 4 % 1024)).burgee = j.burgee) ∧ (s.dev.locked = true) ∧ (s.dev.time.det = 2) ∧ (j.w 4 / 1024 = (s.dev.hoist (j.w 4 % 1024)).seq) ∧ ((s.dev.inst (j.w 4 % 1024)).joins.length < (s.dev.hoist (j.w 4 % 1024)).nLocal) ∧ ((s.dev.inst (j.w 4 % 1024)).ranks.length + (s.dev.inst (j.w 4 % 1024)).joins.length + 1 < (s.dev.hoist (j.w 4 % 1024)).nChild + (s.dev.hoist (j.w 4 % 1024)).nLocal) :=
  ⟨begun 0x0902 [5, 0, 9] (({ hoistDev { innerNode with slot := true } {} with time := { (hoistDev { innerNode with slot := true } {}).time with det := 2 } } : Dev).wr R.HUB_FTSTAT_STATE 2), 1, job 0x0902 [5, 0, 9], by decide⟩

theorem witness_HoistCommandsSlotsAndHalyard_slotStart : ∃ (s : State) (src slot t : Nat) (l : Launch) (rest : List Launch),
    (s.dev.time.det ≠ 2 ∨ s.dev.now % slotNs < guardAt) ∧ (s.dev.slotDue = [⟨src, slot, .launch t⟩]) ∧ ((s.dev.tile t).lq = l :: rest) ∧ (s.dev.tileState t = tsIdle) :=
  ⟨at_ ((({ now := 4100, time := { det := 2, slotReady := [⟨7, 1, .launch 7⟩] }, tiles := [(7, { lq := [{ entry := 64 }] })] } : Dev).wr R.TILE_STAT_STATE 1 7)), 7, 1, 7, { entry := 64 }, [], by decide⟩

theorem witness_HoistCommandsSlotsAndHalyard_slotGuardBand : ∃ (s : State),
    (s.dev.time.det = 2) ∧ (guardAt ≤ s.dev.now % slotNs) ∧ ((s.dev.time.slotReady.filter fun i => decide (i.slot < s.dev.now / slotNs) && s.dev.slotLeft i.act) ≠ []) :=
  ⟨at_ ((({ now := 5900, time := { det := 2, slotReady := [⟨7, 1, .launch 7⟩] }, tiles := [(7, { lq := [{ entry := 64 }] })] } : Dev).wr R.TILE_STAT_STATE 1 7)), by decide⟩

theorem witness_HoistCommandsSlotsAndHalyard_halyardBlockReceived : ∃ (s : State) (p : Nat) (w : Haly) (tagOk : Bool),
    (w.htype = 3) ∧ (s.dev.linkState p ≠ lsDown) ∧ ((s.dev.link p).halyLast.look 3 ≠ some w.hseq) ∧ (s.dev.time.followed = none) :=
  ⟨at_ (({ now := 77 } : Dev).wr R.LNK_STAT_STATE 3 5), 5, { htype := 3, hseq := 9 }, true, by decide⟩

theorem witness_FaultStateAndWatchdogs_fltHistRead : ∃ (s : State) (aseq : Nat) (j : JEntry),
    (Begun s.dev aseq 0x0601 j) ∧ ((j.bref 4).kind = 0) :=
  ⟨begun 0x0601 [0, 0, 0, 0] {}, 1, job 0x0601 [0, 0, 0, 0], by decide⟩

theorem witness_FaultStateAndWatchdogs_quietTimerExpiry : ∃ (s : State),
    (s.dev.fltState = 1) ∧ (s.dev.mgmt.quietAt ≤ s.dev.now) ∧ (((s.dev.mgmt.recov.filter fun t => decide (s.dev.now < t + s.dev.struckWinNs)) ++ [s.dev.now]).length ≤ s.dev.rd R.FLT_CFG_STRUCK_N) :=
  ⟨at_ ((({} : Dev).wr R.FLT_STAT_STATE 1)), by decide⟩

theorem witness_FaultStateAndWatchdogs_struckWindowExpiry : ∃ (s : State),
    (s.dev.fltState = 1) ∧ (s.dev.mgmt.faultSince + s.dev.struckWinNs ≤ s.dev.now) :=
  ⟨at_ (({ now := 10 ^ 15 } : Dev).wr R.FLT_STAT_STATE 1), by decide⟩

theorem witness_FaultStateAndWatchdogs_fltClear : ∃ (s : State) (aseq : Nat) (j : JEntry),
    (Begun s.dev aseq 0x0602 j) ∧ (s.dev.fltState = 2) :=
  ⟨begun 0x0602 [] (({} : Dev).wr R.FLT_STAT_STATE 2), 1, job 0x0602 [], by decide⟩

theorem witness_FaultStateAndWatchdogs_watchdog : ∃ (s : State) (t : Nat),
    (s.dev.tileState t = tsRunning) ∧ ((s.dev.tile t).prog.isSome = true) ∧ (s.dev.mgmt.resets = []) ∧ (s.dev.modelOf t = none) :=
  ⟨at_ (({ tiles := [(3, { prog := some {} })] } : Dev).wr R.TILE_STAT_STATE 2 3), 3, by decide⟩

theorem witness_FaultStateAndWatchdogs_engineHang : ∃ (s : State) (e : Nat),
    (s.dev.engineBusy e = true) ∧ (s.dev.mgmt.resets = []) :=
  ⟨at_ ({ red := { ctxs := [(5, { ctxIn 0x40 1 with slots := [fullSlot] })] } }), 0, by decide⟩

theorem witness_FaultStateAndWatchdogs_seqHang : ∃ (s : State) (q : Nat),
    ((s.dev.red.running.any fun o => trigQuad o.trig = q) = true) ∧ (s.dev.mgmt.resets = []) :=
  ⟨at_ ({ red := { running := [remoteOp] } }), 0, by decide⟩

theorem witness_FaultStateAndWatchdogs_dispatchHang : ∃ (s : State) (q : Nat),
    (s.dev.red.gateRecs.get q [] ≠ [] ∨ s.dev.red.tokenWait.get q [] ≠ []) ∧ (s.dev.mgmt.resets = []) :=
  ⟨at_ ({ red := { gateRecs := [(1, [gate1])] } }), 1, by decide⟩

theorem witness_FaultStateAndWatchdogs_ctrlHang : ∃ (s : State),
    (s.dev.store.assembly ≠ [] ∨ s.dev.store.prog ≠ [] ∨ s.dev.store.metas ≠ []) ∧ (s.dev.mgmt.resets = []) :=
  ⟨at_ ({ store := { assembly := [⟨0x10000, 0⟩] } }), by decide⟩

theorem witness_FaultStateAndWatchdogs_thidanHeartbeat : ∃ (s : State),
    (s.dev.mgmt.thdDown = false) :=
  ⟨at_ ({ now := 7, mgmt := { restartAt := some 3 } }), by decide⟩

theorem witness_FaultStateAndWatchdogs_heartbeatLost : ∃ (s : State),
    (s.dev.devReset = false) ∧ (s.dev.mgmt.restartAt = none) ∧ (s.dev.mgmt.thdDown = false) ∧ (s.dev.mgmt.heartbeat + 1000000 * max 5 (s.dev.rd R.FLT_WDCFG_THD_HB_MS) ≤ s.dev.now) :=
  ⟨at_ ({ now := 10 ^ 12 }), by decide⟩

theorem witness_FaultStateAndWatchdogs_thidanRestartComplete : ∃ (s : State) (j : JEntry),
    (s.dev.mgmt.thdDown = true) ∧ ((s.dev.mgmt.journal.filter fun j => j.phase = .begun || j.phase = .running) = [j]) ∧ (s.dev.job? j.aseq = some j) ∧ (rerunOps.contains j.op = false) ∧ (j.pkt.origin = .pcie) ∧ (j.lost = false) :=
  ⟨at_ ({ mgmt := { thdDown := true, journal := [job 0x0401 []] } }), job 0x0401 [], by decide⟩

theorem witness_FaultStateAndWatchdogs_restartFail : ∃ (s : State) (t : Nat),
    (s.dev.mgmt.restartAt = some t) ∧ (s.dev.devReset = false) ∧ (t + 500000000 ≤ s.dev.now) ∧ (s.dev.bootPhase = bpReady) :=
  ⟨at_ (({ now := 10 ^ 12, mgmt := { restartAt := some 0 } } : Dev).wr R.HUB_BOOT_PHASE 6), 0, by decide⟩

theorem witness_FaultStateAndWatchdogs_hwWatchdog : ∃ (s : State),
    (s.dev.devReset = false) ∧ (s.dev.mgmt.boot.held = false) ∧ (s.dev.mgmt.kick + 50000000 ≤ s.dev.now) ∧ (s.dev.bootPhase = bpReady) :=
  ⟨at_ (({ now := 10 ^ 12, mgmt := { boot := { held := false } } } : Dev).wr R.HUB_BOOT_PHASE 6), by decide⟩

theorem witness_ResetsAndAborts_reset : ∃ (s : State) (aseq t : Nat) (j : JEntry),
    (Begun s.dev aseq 0x0603 j) ∧ (bits (j.w 4) 2 0 = rlTile) ∧ (j.w 5 = t) ∧ (t < 64) ∧ (j.w 6 = 0) ∧ (s.dev.mgmt.resets = []) ∧ (s.dev.tileState t = tsIdle) ∧ (s.dev.modelOf t = none) :=
  ⟨begun 0x0603 [0, 3, 0] (({} : Dev).wr R.TILE_STAT_STATE 1 3), 1, 3, job 0x0603 [0, 3, 0], by decide⟩

theorem witness_ResetsAndAborts_tileReset : ∃ (s : State) (aseq t : Nat) (j : JEntry),
    (Begun s.dev aseq 0x0402 j) ∧ (maskBits (j.w 4 + j.w 5 * 2 ^ 32) 64 = [t]) ∧ (s.dev.mgmt.resets = []) ∧ (s.dev.tileState t = tsIdle) ∧ (s.dev.modelOf t = none) :=
  ⟨begun 0x0402 [8, 0] (({} : Dev).wr R.TILE_STAT_STATE 1 3), 1, 3, job 0x0402 [8, 0], by decide⟩

theorem witness_ResetsAndAborts_resetRelease : ∃ (s : State) (level target : Nat) (r : RunReset),
    ((s.dev.mgmt.resets.find? fun r => r.level = level && r.target = target) = some r) ∧ (level ≠ rlDevice) ∧ (r.jobs = []) ∧ (r.escJobs = []) :=
  ⟨at_ ({ mgmt := { resets := [{ level := 0, target := 3, start := 0, cause := 1, tiles := [3] }] } }), 0, 3, { level := 0, target := 3, start := 0, cause := 1, tiles := [3] }, by decide⟩

theorem witness_ResetsAndAborts_resetHung : ∃ (s : State) (target : Nat) (r : RunReset),
    (s.dev.mgmt.resets = [r]) ∧ (r.level = rlTile) ∧ (r.target = target) ∧ (r.start + resetTimeout rlTile < s.dev.now) ∧ (r.tiles = [target]) :=
  ⟨at_ ({ now := 10 ^ 9, mgmt := { resets := [{ level := 0, target := 3, start := 0, cause := 1, tiles := [3] }] } }), 3, { level := 0, target := 3, start := 0, cause := 1, tiles := [3] }, by decide⟩

theorem witness_ResetsAndAborts_forcedFlushLimit : ∃ (s : State) (r : RunReset),
    ((s.dev.mgmt.resets.find? fun r => r.level = rlDevice && r.forced && !r.cleared) = some r) ∧ (r.start + 20000000 ≤ s.dev.now) :=
  ⟨at_ ({ now := 10 ^ 9, mgmt := { resets := [{ level := 4, target := 0, start := 0, cause := 1, forced := true }] } }), { level := 4, target := 0, start := 0, cause := 1, forced := true }, by decide⟩

theorem witness_ResetsAndAborts_jobAbort : ∃ (s : State) (aseq : Nat) (j : JEntry),
    (Begun s.dev aseq 0x0604 j) ∧ (j.w 4 ≠ 0) ∧ ((s.dev.ctx (j.w 4 % 65536)).state = csOpen) ∧ ((s.dev.ctx (j.w 4 % 65536)).check = j.w 4 / 65536) ∧ ((s.dev.ctx (j.w 4 % 65536)).burgee = j.w 5 % 512) ∧ ((s.dev.ctx (j.w 4 % 65536)).slots = []) ∧ ((s.dev.ctx (j.w 4 % 65536)).deferred = []) ∧ ((s.dev.ctx (j.w 4 % 65536)).token = none) :=
  ⟨begun 0x0604 [0x10005, 0] (ctxDev (ctxIn 0xC0 1)), 1, job 0x0604 [0x10005, 0], by decide⟩

theorem witness_BringUpEvents_bringupStart : ∃ (s : State),
    (s.dev.mgmt.boot.held = true) ∧ ((List.range numRails).all (fun r => s.dev.mgmt.boot.rails.contains r) = true) :=
  ⟨at_ ({ mgmt := { boot := { rails := List.range 29 } } }), by decide⟩

theorem witness_BringUpEvents_coldResetAsserted : ∃ (s : State),
    (s.dev.store.holdup = none) :=
  ⟨at_ ({ sram := [(0, [(1, 2)])], now := 5 }), by decide⟩

theorem witness_BringUpEvents_fuseLoadComplete : ∃ (s : State),
    (s.dev.bootPhase = bpFuses) ∧ (s.dev.mgmt.boot.held = false) :=
  ⟨at_ ({ mgmt := { boot := { held := false } } }), by decide⟩

theorem witness_BringUpEvents_secureBootComplete : ∃ (s : State) (goodB : Bool),
    (s.dev.bootPhase = bpSecure) ∧ (s.dev.mgmt.boot.held = false) ∧ (s.dev.mgmt.resets = []) ∧ (s.dev.sec.next = none) ∧ (s.dev.sec.active = 0) ∧ ((s.dev.fwSlot 0).ok = true) ∧ (s.dev.sec.fwArb ≤ (s.dev.fwSlot 0).svn) ∧ (s.dev.mgmt.hwLatch = false) :=
  ⟨at_ ((({ mgmt := { boot := { held := false } }, sec := { slots := [(0, { ok := true })] } } : Dev).wr R.HUB_BOOT_PHASE 1)), false, by decide⟩

theorem witness_BringUpEvents_nvsDiscoveryComplete : ∃ (s : State) (ts : List TargetInfo),
    (s.dev.mgmt.boot.discover = true) ∧ (s.dev.pdOn pdNand = true) ∧ (s.dev.bootPhase ≠ bpDomains) :=
  ⟨at_ ((({ mgmt := { boot := { discover := true } } } : Dev).setPd pdNand true)), [], by decide⟩

theorem witness_BringUpEvents_hbmTrainingComplete : ∃ (s : State) (q : Nat),
    (s.dev.mgmt.boot.train.contains q = true) :=
  ⟨at_ ({ mgmt := { boot := { train := [0, 2] } } }), 2, by decide⟩

theorem witness_BringUpEvents_hbmMemtestComplete : ∃ (s : State) (q : Nat) (march ret dist rep : List Nat),
    (s.dev.mgmt.boot.hbm.contains q = true) ∧ (s.dev.rd R.HUB_BOOT_MODE = 2) ∧ (((s.dev.stack q).remap ++ march ++ ret ++ dist).eraseDups.length ≤ 1024) :=
  ⟨at_ ((({ mgmt := { boot := { hbm := [1] } } } : Dev).wr R.HUB_BOOT_MODE 2)), 1, [5], [6, 5], [], [], by decide⟩

theorem witness_BringUpEvents_katComplete : ∃ (s : State) (blk i : Nat),
    (s.dev.mgmt.boot.katReady blk i = true) :=
  ⟨at_ ({ mgmt := { boot := { kat := [(8, 3), (9, 1)] } } }), 9, 1, by decide⟩

theorem witness_BringUpEvents_testRecordWritten : ∃ (s : State),
    (s.dev.bootPhase = bpRecord) ∧ (s.dev.mgmt.boot.recDone = false) ∧ (s.dev.rd R.HUB_BOOT_MODE = 1) :=
  ⟨at_ (((({} : Dev).wr R.HUB_BOOT_PHASE 5).wr R.HUB_BOOT_MODE 1)), by decide⟩

theorem witness_BringUpEvents_deviceReady : ∃ (s : State),
    (s.dev.bootPhase = bpRecord) ∧ (s.dev.mgmt.boot.recDone = true) ∧ (s.dev.store.uncleanEvt = false) ∧ (s.dev.mgmt.resets = []) :=
  ⟨at_ ((({ mgmt := { boot := { recDone := true, fails := 2 } } } : Dev).wr R.HUB_BOOT_PHASE 5)), by decide⟩

theorem witness_BringUpEvents_testRecordSync : ∃ (s : State),
    (s.dev.mgmt.recNew.isSome = true) ∧ (s.dev.nvs = nsReady) :=
  ⟨at_ ((({ mgmt := { recNew := some 4 } } : Dev).wr R.NVS_STAT_STATE nsReady)), by decide⟩

theorem witness_ConfigurationAndSwitches_cfgCommit : ∃ (s : State) (aseq : Nat) (bodies : List CfgBody) (j : JEntry) (bs : List Nat),
    (Begun s.dev aseq 0x0201 j) ∧ (bits (j.w 8) 1 0 ≠ 3) ∧ (s.dev.mgmt.cfgJob = none) ∧ ((match s.dev.bufIn j (j.bref 4) with
        | .ok x => x
        | .error _ => none) = some bs) ∧ (bits (j.w 8) 5 4 ≠ 2) ∧ (bits (j.w 8) 3 2 ≠ 2) ∧ (headerOk bs = true) ∧ (badSection bs = none) ∧ (imgLocal bs = true) ∧ (s.dev.chRole j.chan = 1) ∧ (((sectsOf bs bodies).all fun x => x.ty = tyTune && x.body.sets = []) = true) :=
  ⟨at_ ({ mgmt := { journal := [tuneJob] } }), 1, [{}], tuneJob, tuneImage, by decide +kernel⟩

theorem witness_ConfigurationAndSwitches_cfgCommitCancel : ∃ (s : State) (aseq : Nat) (j : JEntry) (a : Armed),
    (Begun s.dev aseq 0x0201 j) ∧ (bits (j.w 8) 1 0 = 3) ∧ (s.dev.net.armed = some a) ∧ (a.joined = false) ∧ (a.aseq ≠ aseq) :=
  ⟨begun 0x0201 [0, 0, 0, 0, 3] { net := { armed := some { mode := 1, t := 5, hoist := 0, aseq := 2 } } }, 1, job 0x0201 [0, 0, 0, 0, 3], { mode := 1, t := 5, hoist := 0, aseq := 2 }, by decide⟩

theorem witness_ConfigurationAndSwitches_quadrantRelayDrained : ∃ (s : State) (q : Nat) (c : CfgJob),
    (s.dev.mgmt.cfgJob = some c) ∧ (c.relaid = false) ∧ (c.quads.contains q = true) ∧ (c.drained.contains q = false) ∧ (s.dev.quadEmpty q = true) ∧ (c.quads.all (c.drained ++ [q]).contains = false) :=
  ⟨at_ ({ mgmt := { cfgJob := some { aseq := 1, sects := [], mode := 0, t := 0, det := 3, cls := 3, isLocal := false, quads := [0, 1], start := 0 } } }), 1, { aseq := 1, sects := [], mode := 0, t := 0, det := 3, cls := 3, isLocal := false, quads := [0, 1], start := 0 }, by decide⟩

theorem witness_ConfigurationAndSwitches_cfgCommitDrainComplete : ∃ (s : State) (c : CfgJob),
    (s.dev.mgmt.cfgJob = some c) ∧ (c.relaid = true) ∧ ((c.sects.all fun x => x.ty = tyTune && x.body.sets = []) = true) ∧ (c.reform = []) :=
  ⟨at_ ({ mgmt := { cfgJob := some { aseq := 1, sects := [], mode := 0, t := 0, det := 3, cls := 3, isLocal := false, quads := [0, 1], start := 0, relaid := true } } }), { aseq := 1, sects := [], mode := 0, t := 0, det := 3, cls := 3, isLocal := false, quads := [0, 1], start := 0, relaid := true }, by decide⟩

theorem witness_ConfigurationAndSwitches_bufProfileDrainTimeout : ∃ (s : State) (c : CfgJob),
    (s.dev.mgmt.cfgJob = some c) ∧ (c.relaid = false) ∧ (c.start + 10000000 ≤ s.dev.now) ∧ (c.quads.all s.dev.quadEmpty = false) :=
  ⟨at_ ({ now := 10000000, net := { pkts := [(1, pst)] }, mgmt := { cfgJob := some { aseq := 1, sects := [], mode := 0, t := 0, det := 3, cls := 3, isLocal := false, quads := [0, 1], start := 0 } } }), { aseq := 1, sects := [], mode := 0, t := 0, det := 3, cls := 3, isLocal := false, quads := [0, 1], start := 0 }, by decide⟩

theorem witness_ConfigurationAndSwitches_atTimeSwitch : ∃ (s : State) (a : Armed),
    (s.dev.net.armed = some a) ∧ (a.mode = 1) ∧ (a.t ≤ s.dev.now) :=
  ⟨at_ ({ now := 9, net := { armed := some { mode := 1, t := 5, hoist := 5, aseq := 2 }, banks := [(1, ({ epoch := 3 }, { epoch := 4 }))] } }), { mode := 1, t := 5, hoist := 5, aseq := 2 }, by decide⟩

theorem witness_ConfigurationAndSwitches_drainStart : ∃ (s : State) (a : Armed),
    (s.dev.net.armed = some a) ∧ (a.mode = 2) ∧ (a.draining = false) ∧ (a.t ≤ s.dev.now) :=
  ⟨at_ ({ now := 9, net := { armed := some { mode := 2, t := 5, hoist := 5, aseq := 2 } } }), { mode := 2, t := 5, hoist := 5, aseq := 2 }, by decide⟩

theorem witness_ConfigurationAndSwitches_drainComplete : ∃ (s : State) (a : Armed),
    (s.dev.net.armed = some a) ∧ (a.draining = true) ∧ (a.joined = false) ∧ (s.dev.dataEmpty = true) ∧ ((s.dev.hoist (a.hoist % 1024)).v = true) ∧ (a.hoist / 1024 = (s.dev.hoist (a.hoist % 1024)).seq) ∧ ((s.dev.inst (a.hoist % 1024)).joins.length < (s.dev.hoist (a.hoist % 1024)).nLocal) ∧ ((s.dev.inst (a.hoist % 1024)).ranks.length + (s.dev.inst (a.hoist % 1024)).joins.length + 1 < (s.dev.hoist (a.hoist % 1024)).nChild + (s.dev.hoist (a.hoist % 1024)).nLocal) :=
  ⟨at_ ({ hoistDev innerNode {} with net := { armed := some { mode := 2, t := 5, hoist := 5, aseq := 2, draining := true } } }), { mode := 2, t := 5, hoist := 5, aseq := 2, draining := true }, by decide⟩

theorem witness_ConfigurationAndSwitches_drainPauseCancel : ∃ (s : State) (t : Nat),
    (s.dev.net.drainUnpause = some t) ∧ (t ≤ s.dev.now) :=
  ⟨at_ ({ now := 9, net := { drainUnpause := some 5 } }), 5, by decide⟩

theorem witness_CountersSnapshotsAndTags_telRead : ∃ (s : State) (aseq : Nat) (j : JEntry) (bs : List Nat),
    (Begun s.dev aseq 0x0701 j) ∧ (j.w 4 % 16 = 0) ∧ (bitOf 15 (s.dev.chRole j.chan) = true) ∧ (0 < bits (j.w 5) 10 0) ∧ (bits (j.w 5) 10 0 ≤ 1024) ∧ ((j.bref 6).kind = 1) ∧ (s.dev.chIntf j.chan = 0) ∧ (j.buf = some bs) ∧ (4 * bits (j.w 5) 10 0 ≤ (bs.take (j.bref 6).len).length) ∧ ((j.bref 10).kind = 0 ∨ ((j.bref 10).kind = 1 ∧ s.dev.chIntf j.chan = 0)) :=
  ⟨at_ ({ ({} : Dev) with mgmt := { journal := [{ job 0x0701 [0, 1, 0x40000004, 0, 0, 0, 0x40000018, 0, 0, 64] with buf := some ([0, 0, 0, 1]) }] } }), 1, { job 0x0701 [0, 1, 0x40000004, 0, 0, 0, 0x40000018, 0, 0, 64] with buf := some ([0, 0, 0, 1]) }, [0, 0, 0, 1], by decide⟩

theorem witness_CountersSnapshotsAndTags_snapArm : ∃ (s : State) (aseq : Nat) (j : JEntry) (bs : List Nat),
    (Begun s.dev aseq 0x0701 j) ∧ (j.w 4 % 16 = 1) ∧ (bitOf 15 (s.dev.chRole j.chan) = true) ∧ (0 < bits (j.w 6) 8 0) ∧ (bits (j.w 6) 8 0 ≤ 256) ∧ ((j.bref 7).kind = 1) ∧ (s.dev.chIntf j.chan = 0) ∧ (j.buf = some bs) ∧ (4 * bits (j.w 6) 8 0 ≤ (bs.take (j.bref 7).len).length) ∧ ((s.dev.snap (j.w 5 % 4)).state = 0) ∧ (s.dev.now + 10000 ≤ j.w 11 * 2 ^ 32 + j.w 12) :=
  ⟨at_ ({ ({} : Dev) with mgmt := { journal := [{ job 0x0701 [1, 2, 1, 0x40000004, 0, 0, 0, 0, 50000] with buf := some ([0, 0, 0, 1]) }] } }), 1, { job 0x0701 [1, 2, 1, 0x40000004, 0, 0, 0, 0, 50000] with buf := some ([0, 0, 0, 1]) }, [0, 0, 0, 1], by decide⟩

theorem witness_CountersSnapshotsAndTags_snapshotTime : ∃ (s : State) (i : Nat),
    ((s.dev.snap i).state = 1) ∧ ((s.dev.snap i).t ≤ s.dev.now) :=
  ⟨at_ ((({ now := 9 } : Dev).setSnap 2 { state := 1, ids := [0x01000000], t := 5 })), 2, by decide⟩

theorem witness_CountersSnapshotsAndTags_snapRead : ∃ (s : State) (aseq : Nat) (j : JEntry),
    (Begun s.dev aseq 0x0701 j) ∧ (j.w 4 % 16 = 2) ∧ (bitOf 15 (s.dev.chRole j.chan) = true) ∧ ((s.dev.snap (j.w 5 % 4)).state = 2) ∧ ((j.bref 6).kind = 0 ∨ ((j.bref 6).kind = 1 ∧ s.dev.chIntf j.chan = 0)) :=
  ⟨begun 0x0701 [2, 2, 0x40000018, 0, 0, 64, 1] (({} : Dev).setSnap 2 { state := 2, taken := [[1, 2, 3, 4, 5, 6]] }), 1, job 0x0701 [2, 2, 0x40000018, 0, 0, 64, 1], by decide⟩

theorem witness_CountersSnapshotsAndTags_tagSet : ∃ (s : State) (aseq : Nat) (j : JEntry),
    (Begun s.dev aseq 0x0701 j) ∧ (j.w 4 % 16 = 3) ∧ (bitOf 6 (s.dev.chRole j.chan) = true) :=
  ⟨begun 0x0701 [3, 0x3CA5, 1, 2] {}, 1, job 0x0701 [3, 0x3CA5, 1, 2], by decide⟩

theorem witness_CountersSnapshotsAndTags_hist : ∃ (s : State) (aseq : Nat) (j : JEntry),
    (Begun s.dev aseq 0x0701 j) ∧ (j.w 4 % 16 = 4) ∧ (bitOf 15 (s.dev.chRole j.chan) = true) ∧ (s.dev.cmdReach j (s.dev.ctx (j.w 5 % 65536)).burgee = true) ∧ ((s.dev.ctx (j.w 5 % 65536)).state = csOpen) ∧ ((s.dev.ctx (j.w 5 % 65536)).root = true) ∧ ((s.dev.ctx (j.w 5 % 65536)).hist.length = 64) ∧ ((j.bref 6).kind = 0 ∨ ((j.bref 6).kind = 1 ∧ s.dev.chIntf j.chan = 0)) :=
  ⟨begun 0x0701 [4, 5, 0x40000100, 0, 0, 64] (ctxDev { ctxIn 0x80 csOpen with hist := List.replicate 64 3 }), 1, job 0x0701 [4, 5, 0x40000100, 0, 0, 64], by decide⟩

theorem witness_CountersSnapshotsAndTags_sampleSet : ∃ (s : State) (aseq : Nat) (j : JEntry),
    (Begun s.dev aseq 0x0701 j) ∧ (j.w 4 % 16 = 5) ∧ (bitOf 6 (s.dev.chRole j.chan) = true) ∧ (12 ≤ bits (j.w 21) 12 8) ∧ (bits (j.w 21) 12 8 ≤ 22) ∧ (([0, 1, 2, 3].all fun q => decide (s.dev.buntUsed q none + 16 * 2 ^ bits (j.w 21) 12 8 ≤ s.dev.buntArea q)) = true) :=
  ⟨begun 0x0701 [5, 8, 0, 0, 0, 0, 0, 0, 0, 0, 0, 0, 0, 0, 0, 0, 0, 0xC01] ({} : Dev), 1, job 0x0701 [5, 8, 0, 0, 0, 0, 0, 0, 0, 0, 0, 0, 0, 0, 0, 0, 0, 0xC01], by decide⟩

theorem witness_CountersSnapshotsAndTags_sampleRead : ∃ (s : State) (aseq : Nat) (j : JEntry),
    (Begun s.dev aseq 0x0701 j) ∧ (j.w 4 % 16 = 6) ∧ (bitOf 14 (s.dev.chRole j.chan) = true) ∧ ((j.bref 7).kind = 0 ∨ ((j.bref 7).kind = 1 ∧ s.dev.chIntf j.chan = 0)) :=
  ⟨begun 0x0701 [6, 1, 4, 0x40000100, 0, 0, 64, 2] { tel := { sampleRing := [(1, [[9, 9, 9, 9]])] } }, 1, job 0x0701 [6, 1, 4, 0x40000100, 0, 0, 64, 2], by decide⟩

theorem witness_CountersSnapshotsAndTags_traceRead : ∃ (s : State) (aseq : Nat) (j : JEntry),
    (Begun s.dev aseq 0x0701 j) ∧ (j.w 4 % 16 = 7) ∧ (bitOf 14 (s.dev.chRole j.chan) = true) ∧ ((j.bref 7).kind = 0 ∨ ((j.bref 7).kind = 1 ∧ s.dev.chIntf j.chan = 0)) :=
  ⟨begun 0x0701 [7, 1, 4, 0x40000100, 0, 0, 64, 2] { tel := { trace := [(1, [[9, 9, 9, 9, 9, 9, 9, 9, 9, 9, 9, 9, 9, 9, 9, 9]])] } }, 1, job 0x0701 [7, 1, 4, 0x40000100, 0, 0, 64, 2], by decide⟩

theorem witness_BuntingRingsAndMirrors_buntingSet : ∃ (s : State) (aseq p : Nat) (j : JEntry),
    (Begun s.dev aseq 0x0703 j) ∧ (j.w 4 % 16 = 0) ∧ (bits (j.w 4) 24 16 = p) ∧ (10 ≤ bits (j.w 5) 4 0) ∧ (bits (j.w 5) 4 0 ≤ 20) ∧ (bits (j.w 5) 7 6 ≠ 0) ∧ (s.dev.formed p = true) ∧ (s.dev.buntUsed (p / 128) (some p) + sampleBytes s.dev.tel.samplePorts s.dev.tel.sampleAttach s.dev.tel.sampleLog2 (p / 128) +
        64 * 2 ^ bits (j.w 5) 4 0 ≤ s.dev.buntArea (p / 128)) :=
  ⟨begun 0x0703 [0x30000, 0x100004EA] {}, 1, 3, job 0x0703 [0x30000, 0x100004EA], by decide⟩

theorem witness_BuntingRingsAndMirrors_buntingArm : ∃ (s : State) (aseq p : Nat) (j : JEntry) (r : BuntRing),
    (Begun s.dev aseq 0x0703 j) ∧ (j.w 4 % 16 = 1) ∧ (bits (j.w 4) 24 16 = p) ∧ (s.dev.tel.bunting.look p = some r) :=
  ⟨begun 0x0703 [0x30001] { tel := { bunting := [(3, { log2 := 10, freeze := true, dir := 3, vcmask := 255, haly := true, linkCh := false, freezeAfter := 16, entries := [[1, 2], [3]] })] } }, 1, 3, job 0x0703 [0x30001], { log2 := 10, freeze := true, dir := 3, vcmask := 255, haly := true, linkCh := false, freezeAfter := 16, entries := [[1, 2], [3]] }, by decide⟩

theorem witness_BuntingRingsAndMirrors_buntingFreeze : ∃ (s : State) (aseq p : Nat) (j : JEntry) (r : BuntRing),
    (Begun s.dev aseq 0x0703 j) ∧ (j.w 4 % 16 = 2) ∧ (bits (j.w 4) 24 16 = p) ∧ (s.dev.tel.bunting.look p = some r) :=
  ⟨begun 0x0703 [0x30002] { tel := { bunting := [(3, { log2 := 10, freeze := true, dir := 3, vcmask := 255, haly := true, linkCh := false, freezeAfter := 16, entries := [[1, 2], [3]] })] } }, 1, 3, job 0x0703 [0x30002], { log2 := 10, freeze := true, dir := 3, vcmask := 255, haly := true, linkCh := false, freezeAfter := 16, entries := [[1, 2], [3]] }, by decide⟩

theorem witness_BuntingRingsAndMirrors_buntingRead : ∃ (s : State) (aseq p : Nat) (j : JEntry) (r : BuntRing),
    (Begun s.dev aseq 0x0703 j) ∧ (j.w 4 % 16 = 3) ∧ (bits (j.w 4) 24 16 = p) ∧ (s.dev.tel.bunting.look p = some r) ∧ ((j.bref 5).kind = 0 ∨ ((j.bref 5).kind = 1 ∧ s.dev.chIntf j.chan = 0)) :=
  ⟨begun 0x0703 [0x30003, 0x40000100, 0, 0, 64, 1] { tel := { bunting := [(3, { log2 := 10, freeze := true, dir := 3, vcmask := 255, haly := true, linkCh := false, freezeAfter := 16, entries := [[1, 2], [3]] })] } }, 1, 3, job 0x0703 [0x30003, 0x40000100, 0, 0, 64, 1], { log2 := 10, freeze := true, dir := 3, vcmask := 255, haly := true, linkCh := false, freezeAfter := 16, entries := [[1, 2], [3]] }, by decide⟩

theorem witness_BuntingRingsAndMirrors_buntingFree : ∃ (s : State) (aseq p : Nat) (j : JEntry),
    (Begun s.dev aseq 0x0703 j) ∧ (j.w 4 % 16 = 4) ∧ (bits (j.w 4) 24 16 = p) :=
  ⟨begun 0x0703 [0x30004] { tel := { bunting := [(3, { log2 := 10, freeze := true, dir := 3, vcmask := 255, haly := true, linkCh := false, freezeAfter := 16, entries := [[1, 2], [3]] })] } }, 1, 3, job 0x0703 [0x30004], by decide⟩

theorem witness_BuntingRingsAndMirrors_mirrorSet : ∃ (s : State) (aseq : Nat) (j : JEntry),
    (Begun s.dev aseq 0x0702 j) ∧ ((mirrorOf j).en = true → 0 < (mirrorOf j).trunc ∧ (mirrorOf j).trunc ≤ 1023) ∧ ((mirrorOf j).en = true → (mirrorOf j).remote = false → s.dev.formed (mirrorOf j).aport = true ∧
        (s.dev.enforced ((mirrorOf j).aport / 128) && (s.dev.attr ((mirrorOf j).aport / 128) (mirrorOf j).aport).edge) = false) :=
  ⟨begun 0x0702 [0x12, 0x203, 0, 0, 0x500FF, 0, 0x100040] (({} : Dev).wr R.SCH_TENANT_ISO 0 0), 1, job 0x0702 [0x12, 0x203, 0, 0, 0x500FF, 0, 0x100040], by decide⟩

theorem witness_SupplyAndClockEvents_railInRange : ∃ (s : State) (r : Nat),
    (r < numRails) ∧ (s.dev.mgmt.boot.rails.contains r = false) :=
  ⟨at_ ({}), 24, by decide⟩

theorem witness_SupplyAndClockEvents_railUndervoltage : ∃ (s : State) (r : Nat),
    (s.dev.mgmt.boot.rails.contains r = true) ∧ (s.dev.mgmt.boot.held = false) ∧ (s.dev.on R.PWR_RAILMON_PFAIL_PIN = false) :=
  ⟨at_ ({ mgmt := { boot := { held := false, rails := [24] } } }), 24, by decide⟩

theorem witness_SupplyAndClockEvents_pwrfailAsserted : ∃ (s : State),
    (s.dev.on R.PWR_RAILMON_PFAIL_PIN = false) ∧ (s.dev.mgmt.boot.held = false) ∧ (s.dev.store.holdup = none) ∧ (s.dev.nvs ≠ nsAbsent) :=
  ⟨at_ ((({ mgmt := { boot := { held := false } } } : Dev).wr R.NVS_STAT_STATE nsReady)), by decide⟩

theorem witness_SupplyAndClockEvents_holdupDone : ∃ (s : State) (t : Nat),
    (s.dev.store.holdup = some t) ∧ (s.dev.store.prog = [] ∨ t + 2500000 ≤ s.dev.now) ∧ (s.dev.mgmt.boot.cold = false) :=
  ⟨at_ ({ store := { holdup := some 3 } }), 3, by decide⟩

theorem witness_SupplyAndClockEvents_refclkLoss : ∃ (s : State),
    (s.dev.on R.PWR_CLKSTAT_FT_OK = true) :=
  ⟨at_ ((({} : Dev).set R.PWR_CLKSTAT_FT_OK)), by decide⟩

theorem witness_OwnerKeysAndFuses_ownerAuthChallenge : ∃ (s : State) (aseq : Nat) (j : JEntry),
    (Begun s.dev aseq 0x0801 j) ∧ (j.w 4 % 16 = 0) :=
  ⟨begun 0x0801 [0] {}, 1, job 0x0801 [0], by decide⟩

theorem witness_OwnerKeysAndFuses_ownerAuthResponse : ∃ (s : State) (aseq n t : Nat) (j : JEntry) (bs : List Nat),
    (Begun s.dev aseq 0x0801 j) ∧ (j.w 4 % 16 = 1) ∧ ((j.bref 5).kind = 1) ∧ (s.dev.chIntf j.chan = 0) ∧ (j.buf = some bs) ∧ (193 ≤ (bs.take (j.bref 5).len).length) ∧ ((s.dev.chan j.chan).challenge = some (n, t)) ∧ (s.dev.now ≤ t) ∧ (s.dev.ownerSet = false ∨ (sha384 (bs.take 97)).flatMap (bytesBE 4) = s.dev.inForce 3) :=
  ⟨at_ ((let d : Dev := ({ sec := { changes := [(3, [{ value := List.replicate 48 0, valid := true }])] } } : Dev).setChan 0 { challenge := some (0, 9) }; { d with mgmt := { d.mgmt with journal := [{ job 0x0801 [1, 0x400000C1, 0, 0, 64] with buf := some (List.replicate 193 1) }] } })), 1, 0, 9, { job 0x0801 [1, 0x400000C1, 0, 0, 64] with buf := some (List.replicate 193 1) }, List.replicate 193 1, by decide +kernel⟩

theorem witness_OwnerKeysAndFuses_ownerAuthResponse_2 : ∃ (s : State) (aseq : Nat) (j : JEntry) (bs : List Nat),
    (Begun s.dev aseq 0x0801 j) ∧ (j.w 4 % 16 = 1) ∧ ((j.bref 5).kind = 1) ∧ (s.dev.chIntf j.chan = 0) ∧ (j.buf = some bs) :=
  ⟨at_ ((let d : Dev := { sec := { changes := [(3, [{ value := List.replicate 48 0, valid := true }])] } }; { d with mgmt := { d.mgmt with journal := [{ job 0x0801 [1, 0x400000C1, 0, 0, 64] with buf := some ([1, 2]) }] } })), 1, { job 0x0801 [1, 0x400000C1, 0, 0, 64] with buf := some ([1, 2]) }, [1, 2], by decide⟩

theorem witness_OwnerKeysAndFuses_ownerAuthAuditRead : ∃ (s : State) (aseq : Nat) (j : JEntry),
    (Begun s.dev aseq 0x0801 j) ∧ (j.w 4 % 16 = 2) ∧ ((j.bref 5).kind = 0 ∨ ((j.bref 5).kind = 1 ∧ s.dev.chIntf j.chan = 0)) :=
  ⟨begun 0x0801 [2, 0x40000800, 0, 0, 64] {}, 1, job 0x0801 [2, 0x40000800, 0, 0, 64], by decide⟩

theorem witness_OwnerKeysAndFuses_fuseWrite : ∃ (s : State) (aseq i : Nat) (j : JEntry) (bs : List Nat),
    (Begun s.dev aseq 0x0802 j) ∧ (j.w 4 % 4 = i) ∧ ((j.bref 5).kind = 1) ∧ (s.dev.chIntf j.chan = 0) ∧ (j.buf = some bs) ∧ ((s.dev.sec.changes.get i []).length < 8) ∧ (s.dev.settingOk i (bs.take (j.bref 5).len) = true) :=
  ⟨at_ ((let d : Dev := { sec := { changes := [(3, [{ value := List.replicate 48 1, valid := true }])] } }; { d with mgmt := { d.mgmt with journal := [{ job 0x0802 [3, 0x40000030, 0, 0, 64] with buf := some (List.replicate 48 2) }] } })), 1, 3, { job 0x0802 [3, 0x40000030, 0, 0, 64] with buf := some (List.replicate 48 2) }, List.replicate 48 2, by decide⟩

theorem witness_OwnerKeysAndFuses_fuseBurnComplete : ∃ (s : State) (b : Burn) (j : JEntry),
    (s.dev.sec.burn = some b) ∧ (s.dev.job? b.aseq = some j) ∧ (j.pkt.origin = .pcie) ∧ (j.lost = false) :=
  ⟨begun 0x0802 [3] { sec := { burn := some { aseq := 1, setting := 3, slot := 1 }, changes := [(3, [{ value := List.replicate 48 1, valid := true }, { value := List.replicate 48 2, valid := false }])] } }, { aseq := 1, setting := 3, slot := 1 }, job 0x0802 [3], by decide⟩

theorem witness_OwnerKeysAndFuses_arbAdvance : ∃ (s : State) (aseq v : Nat) (j : JEntry),
    (Begun s.dev aseq 0x0803 j) ∧ (j.w 5 % 128 = v) ∧ ((if j.w 4 % 2 = 0 then s.dev.sec.fwArb else s.dev.sec.keysArb) < v) ∧ (v ≤ 64) ∧ (j.w 4 % 2 = 0 → v ≤ s.dev.rd R.SEC_STAT_SVN) ∧ ((s.dev.sec.audit.filter fun e => 32 ≤ e.1).length < 32) :=
  ⟨begun 0x0803 [1, 5] {}, 1, 5, job 0x0803 [1, 5], by decide⟩

theorem witness_OwnerKeysAndFuses_keyInstall : ∃ (s : State) (aseq k : Nat) (sig : Bool) (j : JEntry) (bs : List Nat),
    (Begun s.dev aseq 0x0804 j) ∧ (bits (j.w 4) 7 0 = k) ∧ (bitOf (j.w 4) 8 = false) ∧ ((j.bref 6).kind = 1) ∧ (s.dev.chIntf j.chan = 0) ∧ (j.buf = some bs) ∧ (keySlotOk k = true) ∧ (s.dev.chRole j.chan ≠ 2 ∨ 2 ≤ k) ∧ (97 ≤ (bs.take (j.bref 6).len).length) :=
  ⟨at_ ((let d : Dev := {}; { d with mgmt := { d.mgmt with journal := [{ job 0x0804 [3, 9, 0x40000061, 0, 0, 64] with buf := some (List.replicate 97 1) }] } })), 1, 3, false, { job 0x0804 [3, 9, 0x40000061, 0, 0, 64] with buf := some (List.replicate 97 1) }, List.replicate 97 1, by decide⟩

theorem witness_OwnerKeysAndFuses_keyInstall_2 : ∃ (s : State) (aseq k : Nat) (j : JEntry),
    (Begun s.dev aseq 0x0804 j) ∧ (bits (j.w 4) 7 0 = k) ∧ (bitOf (j.w 4) 8 = true) ∧ ((j.bref 6).kind = 0) ∧ (keySlotOk k = true) ∧ (s.dev.chRole j.chan ≠ 2 ∨ 2 ≤ k) :=
  ⟨begun 0x0804 [0x103] { sec := { keys := [(3, ⟨9, [1]⟩)] } }, 1, 3, job 0x0804 [0x103], by decide⟩

theorem witness_FirmwareSlotsAndStaging_fwStage : ∃ (s : State) (aseq : Nat) (c : FwCheck) (j : JEntry) (bs : List Nat),
    (Begun s.dev aseq 0x0805 j) ∧ ((j.bref 4).kind = 1) ∧ (s.dev.chIntf j.chan = 0) ∧ (j.buf = some bs) ∧ (s.dev.stagedBy true = false) ∧ (j.w 8 % 4096 = 0) :=
  ⟨at_ ((let d : Dev := {}; { d with mgmt := { d.mgmt with journal := [{ job 0x0805 [0x40000004, 0, 0, 64, 0x1000, 1] with buf := some ([1, 2, 3, 4]) }] } })), 1, ⟨true, true, true, 3, 9⟩, { job 0x0805 [0x40000004, 0, 0, 64, 0x1000, 1] with buf := some [1, 2, 3, 4] }, [1, 2, 3, 4], by decide⟩

theorem witness_FirmwareSlotsAndStaging_fwActivate : ∃ (s : State) (aseq : Nat) (j : JEntry),
    (Begun s.dev aseq 0x0806 j) ∧ ((s.dev.fwSlot s.dev.inactive).ok = true) ∧ (bitOf (j.w 4) 0 = false) :=
  ⟨begun 0x0806 [0] { sec := { slots := [(1, { ok := true })] } }, 1, job 0x0806 [0], by decide⟩

theorem witness_FirmwareSlotsAndStaging_stagingSessionTimeout : ∃ (s : State) (b : Bool) (t : Nat),
    (s.dev.sec.staging = some (b, t)) ∧ (t + 60000000000 ≤ s.dev.now) :=
  ⟨at_ ({ now := 10 ^ 12, sec := { staging := some (true, 5) } }), true, 5, by decide⟩

theorem witness_FirmwareSlotsAndStaging_pldmMessage : ∃ (s : State) (intf eid mtag e : Nat),
    (s.dev.bootPhase ≠ bpFuses) ∧ (s.dev.bootPhase ≠ bpFailed) :=
  ⟨at_ (ready), 2, 9, 3, 8, by decide⟩

theorem witness_FirmwareSlotsAndStaging_pldmMessage_2 : ∃ (s : State) (intf eid mtag : Nat),
    (s.dev.bootPhase ≠ bpFuses) ∧ (s.dev.sec.staging = none) :=
  ⟨at_ (ready), 2, 9, 3, by decide⟩

theorem witness_FirmwareSlotsAndStaging_pldmMessage_3 : ∃ (s : State) (intf eid mtag i v : Nat),
    (s.dev.bootPhase ≠ bpFuses) ∧ (s.dev.bootPhase ≠ bpFailed) ∧ (s.dev.sensorVal i = some v) :=
  ⟨at_ (ready), 2, 9, 3, 1, 0, by decide⟩

theorem witness_FirmwareSlotsAndStaging_mctpControlMessage : ∃ (s : State) (intf eid mtag : Nat) (m : MctpCtl),
    (s.dev.bootPhase ≠ bpFuses) :=
  ⟨at_ (ready), 2, 9, 3, .getEid, by decide⟩

theorem witness_FirmwareSlotsAndStaging_jtagInstruction_3 : ∃ (s : State),
    (s.dev.sec.debugChal.isSome = true) :=
  ⟨at_ ({ sec := { debugChal := some 4 } }), by decide⟩

theorem witness_PeerAttestationAndAdmission_linkAdmit : ∃ (s : State) (aseq p : Nat) (j : JEntry),
    (Begun s.dev aseq 0x0203 j) ∧ (j.w 4 % 512 = p) ∧ (s.dev.formed p = true) ∧ (bitOf (j.w 4) 9 = true) ∧ (s.dev.linkState p = lsUp) ∧ (s.dev.attestable p = false ∨ (s.dev.link p).attState = 2) ∧ (s.dev.cryptReq p = false ∨ bitOf (s.dev.link p).peerCaps 2 = true) :=
  ⟨begun 0x0203 [0x203] (({} : Dev).wr R.LNK_STAT_STATE 3 3), 1, 3, job 0x0203 [0x203], by decide⟩

theorem witness_PeerAttestationAndAdmission_linkAdmit_2 : ∃ (s : State) (aseq p : Nat) (j : JEntry),
    (Begun s.dev aseq 0x0203 j) ∧ (j.w 4 % 512 = p) ∧ (s.dev.formed p = true) ∧ (bitOf (j.w 4) 9 = false) :=
  ⟨begun 0x0203 [3] { sec := { known := [(3, [1])] } }, 1, 3, job 0x0203 [3], by decide⟩

theorem witness_PeerAttestationAndAdmission_spdmMessageReceived : ∃ (s : State) (intf eid mtag : Nat) (m : SpdmMsg),
    (s.dev.bootPhase ≠ bpFuses) ∧ (m.secured = true → s.dev.sec.spdm.get (intf, eid) 0 ≠ 0 ∧ s.dev.bootPhase ≠ bpFailed) ∧ (spdmRequests.contains m.code = true) ∧ (m.code = 0xE8 → m.secured = true) :=
  ⟨at_ (ready), 2, 9, 3, { code := 0xE4, secured := false }, by decide⟩

theorem witness_PeerAttestationAndAdmission_spdmMessageReceived_2 : ∃ (s : State) (pid : Nat) (m : SpdmMsg) (r : AttResult) (st : Stored) (d1 : Dev),
    (s.dev.takeHub pid (fun k => k.pclass = 1 && (k.typ = 2 || k.typ = 3) && k.opcode = 0x10) = some (st, d1)) ∧ (isPort st.ing = true) ∧ (d1.linkState st.ing = lsUp) ∧ (m.secured = true ∨ nth st.pkt.payload 1 = m.code) ∧ (m.att = some r) ∧ ((d1.link st.ing).attState = 1) ∧ ((d1.requester st.ing).2 = false) ∧ (d1.attFault st.ing r = 0) :=
  ⟨at_ ((hubHolds { dst := 0xFFFFE, src := 7, typ := 3, opcode := 0x10, len := 16, payload := [0x13, 0x65, 0, 0] } (((({} : Dev).wr R.LNK_STAT_STATE 3 3).wr R.HUB_SHORTID_ID 7).setLane 6 { mDev := 8 } |>.setLink 3 { attState := 1 }))), 1, { code := 0x65, secured := false, att := some { version := true, algo := true, chain := true, root := none, sigs := true, digest := [8, 1], meas := [2], crypt := false } }, { version := true, algo := true, chain := true, root := none, sigs := true, digest := [8, 1], meas := [2], crypt := false }, heldStored { dst := 0xFFFFE, src := 7, typ := 3, opcode := 0x10, len := 16, payload := [0x13, 0x65, 0, 0] }, afterHub (hubHolds { dst := 0xFFFFE, src := 7, typ := 3, opcode := 0x10, len := 16, payload := [0x13, 0x65, 0, 0] } (((({} : Dev).wr R.LNK_STAT_STATE 3 3).wr R.HUB_SHORTID_ID 7).setLane 6 { mDev := 8 } |>.setLink 3 { attState := 1 })) fun k => k.pclass = 1 && (k.typ = 2 || k.typ = 3) && k.opcode = 0x10, by decide⟩

theorem witness_PeerAttestationAndAdmission_attestationTimeout : ∃ (s : State) (p : Nat),
    ((s.dev.link p).attState = 1) ∧ ((s.dev.link p).attAt ≤ s.dev.now) ∧ (s.dev.linkState p = lsUp ∨ s.dev.linkState p = lsResync) :=
  ⟨at_ (((({ now := 9 } : Dev).wr R.LNK_STAT_STATE 3 3).setLink 3 { attState := 1, attAt := 5 })), 3, by decide⟩

theorem witness_PeerAttestationAndAdmission_attestationRetry : ∃ (s : State) (p : Nat),
    ((s.dev.link p).attState = 3) ∧ ((s.dev.link p).attNext ≤ s.dev.now) ∧ (s.dev.linkState p = lsUp) :=
  ⟨at_ ((((({ now := 9 } : Dev).wr R.LNK_STAT_STATE 3 3).wr R.HUB_SHORTID_ID 7).setLink 3 { attState := 3, attNext := 5 })), 3, by decide⟩

theorem witness_RegisterWrites_registerWrite : ∃ (s : State) (off w0 w1 inst k : Nat) (r : RegRow),
    (s.dev.barOn 0 = true) ∧ (off % 4 = 0) ∧ (isPba 0 off = false) ∧ (isMsix 0 off = false) ∧ (pfReg off = some (r, inst, k)) ∧ (s.dev.pdOn (regPd r inst) = true) ∧ (stores r = true) ∧ (takesWrite r k = true) ∧ (s.dev.blkLocked r.blk = false) :=
  ⟨at_ (((({} : Dev).setPd pdPcie true).setPd pdHub true)), 0x28, 77, 0, 0, 0, ⟨"HUB.IVEC", .hub, 0x28, 0, 1, [R.HUB_IVEC_VEC]⟩, by decide +kernel⟩

theorem witness_RegisterWrites_registerWrite_2 : ∃ (s : State) (off w0 w1 inst k : Nat) (r : RegRow) (n : Nat),
    (s.dev.barOn 0 = true) ∧ (off % 4 = 0) ∧ (isPba 0 off = false) ∧ (isMsix 0 off = false) ∧ (pfReg off = some (r, inst, k)) ∧ (s.dev.pdOn (regPd r inst) = true) ∧ (stores r = true) ∧ (takesWrite r k = true) ∧ (s.dev.blkLocked r.blk = true) ∧ (lockBit r.blk = some n) ∧ ((r.flds.any fun f => f.acc = .rwl) = true) :=
  ⟨at_ ((((({} : Dev).setPd pdPcie true).setPd pdHub true).wr R.HUB_LOCK_LOCKED 0x80000)), 0x3400004, 77, 0, 0, 0, ⟨"NVS.CFG", .nvs, 0x4, 0, 1, [R.NVS_CFG_FILL_TO, R.NVS_CFG_RET_DAYS, R.NVS_CFG_RD_LIMIT, R.NVS_CFG_WL_SPREAD]⟩, 19, by decide +kernel⟩

theorem witness_RegisterWrites_registerWrite_3 : ∃ (s : State) (off len w0 w1 : Nat) (whole : Bool),
    (s.dev.barOn 0 = true) ∧ (0 < len) ∧ (off % 4 + len ≤ 4) ∧ (len ≠ 4 ∨ whole = false) :=
  ⟨at_ (((({} : Dev).setPd pdPcie true).setPd pdHub true)), 0x29, 2, 5, 0, true, by decide⟩

theorem witness_RegisterWrites_registerWrite_4 : ∃ (s : State) (off w0 w1 : Nat),
    (s.dev.barOn 0 = true) ∧ (off % 4 = 0) ∧ (isPba 0 off = false) ∧ (isMsix 0 off = false) ∧ ((pfReg off).isNone = true) :=
  ⟨at_ (((({} : Dev).setPd pdPcie true).setPd pdHub true)), 0x1400000, 5, 0, by decide +kernel⟩

theorem witness_RegisterWrites_registerWrite_5 : ∃ (s : State) (off w0 w1 inst k : Nat) (r : RegRow),
    (s.dev.barOn 0 = true) ∧ (off % 4 = 0) ∧ (isPba 0 off = false) ∧ (isMsix 0 off = false) ∧ (pfReg off = some (r, inst, k)) ∧ (s.dev.pdOn (regPd r inst) = false) :=
  ⟨at_ (((({} : Dev).setPd pdPcie true).setPd pdHub true)), 0x80100C, 5, 0, 0, 0, ⟨"OE.LCTL", .oe, 0x100C, 64, 32, [R.OE_LCTL_RETRAIN]⟩, by decide +kernel⟩

theorem witness_RegisterWrites_registerWrite_6 : ∃ (s : State) (off w0 w1 : Nat),
    (s.dev.barOn 0 = true) ∧ (off % 4 = 0) ∧ (isPba 0 off = false) ∧ (isMsix 0 off = true) :=
  ⟨at_ (((({} : Dev).setPd pdPcie true).setPd pdHub true)), 0x100008, 5, 0, by decide⟩

theorem witness_RegisterWrites_registerWrite_7 : ∃ (s : State) (w0 w1 : Nat),
    (s.dev.barOn 0 = true) ∧ (w0 % 8 = 7) :=
  ⟨at_ ((((({} : Dev).setPd pdPcie true).setPd pdHub true).wr R.HUB_ERR_UNMAPPED 1)), 7, 0, by decide⟩

theorem witness_LatchingReadsAndRegisterCommands_hubFtimeLoRead : ∃ (s : State),
    (s.dev.barOn 0 = true) :=
  ⟨at_ (((({} : Dev).setPd pdPcie true).setPd pdHub true)), by decide⟩

theorem witness_LatchingReadsAndRegisterCommands_hubSteploRead : ∃ (s : State) (n : Nat),
    (s.dev.barOn 0 = true) ∧ (s.dev.time.steps.get (s.dev.rd R.HUB_STEPACC_BURGEE) 0 = n) :=
  ⟨at_ (((({} : Dev).setPd pdPcie true).setPd pdHub true)), 0, by decide⟩

theorem witness_LatchingReadsAndRegisterCommands_telCvalLoRead : ∃ (s : State) (r : Nat × Nat × Nat × Nat),
    (s.dev.barOn 0 = true) ∧ (s.dev.readCounter (s.dev.rd R.TEL_CSEL_ID) none s.dev.now = r) :=
  ⟨at_ ((((({} : Dev).setPd pdPcie true).setPd pdHub true).wr R.TEL_CSEL_ID 0x01000000)), (0, 0, 0, 0), by decide⟩

theorem witness_LatchingReadsAndRegisterCommands_oeLctlRetrainWrite : ∃ (s : State) (x y : Nat),
    (s.dev.barOn 0 = true) ∧ (s.dev.pdOn (pdOe (x / 32)) = true) ∧ (s.dev.laneState x = laActive) ∧ (y ≠ x) ∧ ((s.dev.portLanes (s.dev.lanePort x)).contains y = true) ∧ (s.dev.laneState y = laActive) ∧ ((s.dev.portLanes (s.dev.lanePort x)).all (fun z => z = x || s.dev.laneState z != laRetrain) = true) :=
  ⟨at_ ((((((({} : Dev).setPd pdPcie true).setPd pdHub true).setPd 0 true).wr R.OE_LSTAT_STATE laActive 0 6).wr R.OE_LSTAT_STATE laActive 0 7)), 6, 7, by decide⟩

theorem witness_LatchingReadsAndRegisterCommands_hbmCtlRetrainWrite : ∃ (s : State) (q : Nat),
    (s.dev.barOn 0 = true) ∧ (s.dev.pdOn (pdHbm q) = true) ∧ (s.dev.mgmt.boot.train.contains q = false) ∧ (s.dev.mgmt.boot.hbm.contains q = false) ∧ (s.dev.on R.HBM_STAT_TRAINING q = false) :=
  ⟨at_ ((((({} : Dev).setPd pdPcie true).setPd pdHub true).setPd 105 true)), 1, by decide⟩

theorem witness_LatchingReadsAndRegisterCommands_tileErrUnhandledClear : ∃ (s : State) (t : Nat),
    (s.dev.barOn 0 = true) ∧ (s.dev.pdOn (pdTile t) = true) :=
  ⟨at_ (((((({} : Dev).setPd pdPcie true).setPd pdHub true).setPd 35 true).wr R.TILE_ERR_UNHANDLED 1 3)), 3, by decide⟩

theorem witness_LatchingReadsAndRegisterCommands_tileErrResetSeenClear : ∃ (s : State) (t : Nat),
    (s.dev.barOn 0 = true) ∧ (s.dev.pdOn (pdTile t) = true) :=
  ⟨at_ (((((({} : Dev).setPd pdPcie true).setPd pdHub true).setPd 35 true).wr R.TILE_ERR_RESET_SEEN 1 3)), 3, by decide⟩

theorem witness_ScalarRegisterArithmetic_tileNop : ∃ (s : State) (t w : Nat) (bad : EccHits),
    (Fetches s.dev t 0x00 w bad) ∧ (resvR w = false) :=
  ⟨at_ ((tileDev (insWord 0x00 0 0 0 0 0x0) (tileX 0x8000000000000005 3))), 3, (insWord 0x00 0 0 0 0 0x0), { corr := [(64, 3)] }, by decide⟩

theorem witness_ScalarRegisterArithmetic_add : ∃ (s : State) (t w : Nat) (bad : EccHits),
    (Fetches s.dev t 0x01 w bad) ∧ (resvR w = false) :=
  ⟨at_ ((tileDev (insWord 0x01 5 1 2 0 0x0) (tileX 0x8000000000000005 3))), 3, (insWord 0x01 5 1 2 0 0x0), { corr := [(64, 3)] }, by decide⟩

theorem witness_ScalarRegisterArithmetic_sub : ∃ (s : State) (t w : Nat) (bad : EccHits),
    (Fetches s.dev t 0x02 w bad) ∧ (resvR w = false) :=
  ⟨at_ ((tileDev (insWord 0x02 5 1 2 0 0x0) (tileX 0x8000000000000005 3))), 3, (insWord 0x02 5 1 2 0 0x0), { corr := [(64, 3)] }, by decide⟩

theorem witness_ScalarRegisterArithmetic_mul : ∃ (s : State) (t w : Nat) (bad : EccHits),
    (Fetches s.dev t 0x03 w bad) ∧ (resvR w = false) :=
  ⟨at_ ((tileDev (insWord 0x03 5 1 2 0 0x0) (tileX 0x8000000000000005 3))), 3, (insWord 0x03 5 1 2 0 0x0), { corr := [(64, 3)] }, by decide⟩

theorem witness_ScalarRegisterArithmetic_and : ∃ (s : State) (t w : Nat) (bad : EccHits),
    (Fetches s.dev t 0x04 w bad) ∧ (resvR w = false) :=
  ⟨at_ ((tileDev (insWord 0x04 5 1 2 0 0x0) (tileX 0x8000000000000005 3))), 3, (insWord 0x04 5 1 2 0 0x0), { corr := [(64, 3)] }, by decide⟩

theorem witness_ScalarRegisterArithmetic_or : ∃ (s : State) (t w : Nat) (bad : EccHits),
    (Fetches s.dev t 0x05 w bad) ∧ (resvR w = false) :=
  ⟨at_ ((tileDev (insWord 0x05 5 1 2 0 0x0) (tileX 0x8000000000000005 3))), 3, (insWord 0x05 5 1 2 0 0x0), { corr := [(64, 3)] }, by decide⟩

theorem witness_ScalarRegisterArithmetic_xor : ∃ (s : State) (t w : Nat) (bad : EccHits),
    (Fetches s.dev t 0x06 w bad) ∧ (resvR w = false) :=
  ⟨at_ ((tileDev (insWord 0x06 5 1 2 0 0x0) (tileX 0x8000000000000005 3))), 3, (insWord 0x06 5 1 2 0 0x0), { corr := [(64, 3)] }, by decide⟩

theorem witness_ScalarRegisterArithmetic_shl : ∃ (s : State) (t w : Nat) (bad : EccHits),
    (Fetches s.dev t 0x07 w bad) ∧ (resvR w = false) :=
  ⟨at_ ((tileDev (insWord 0x07 5 1 2 0 0x0) (tileX 0x8000000000000005 3))), 3, (insWord 0x07 5 1 2 0 0x0), { corr := [(64, 3)] }, by decide⟩

theorem witness_ScalarRegisterArithmetic_shr : ∃ (s : State) (t w : Nat) (bad : EccHits),
    (Fetches s.dev t 0x08 w bad) ∧ (resvR w = false) :=
  ⟨at_ ((tileDev (insWord 0x08 5 1 2 0 0x0) (tileX 0x8000000000000005 3))), 3, (insWord 0x08 5 1 2 0 0x0), { corr := [(64, 3)] }, by decide⟩

theorem witness_ScalarRegisterArithmetic_sra : ∃ (s : State) (t w : Nat) (bad : EccHits),
    (Fetches s.dev t 0x09 w bad) ∧ (resvR w = false) :=
  ⟨at_ ((tileDev (insWord 0x09 5 1 2 0 0x0) (tileX 0x8000000000000005 3))), 3, (insWord 0x09 5 1 2 0 0x0), { corr := [(64, 3)] }, by decide⟩

theorem witness_ScalarRegisterArithmetic_slt : ∃ (s : State) (t w : Nat) (bad : EccHits),
    (Fetches s.dev t 0x0A w bad) ∧ (resvR w = false) :=
  ⟨at_ ((tileDev (insWord 0x0A 5 1 2 0 0x0) (tileX 0x8000000000000005 3))), 3, (insWord 0x0A 5 1 2 0 0x0), { corr := [(64, 3)] }, by decide⟩

theorem witness_ScalarRegisterArithmetic_sltu : ∃ (s : State) (t w : Nat) (bad : EccHits),
    (Fetches s.dev t 0x0B w bad) ∧ (resvR w = false) :=
  ⟨at_ ((tileDev (insWord 0x0B 5 1 2 0 0x0) (tileX 0x8000000000000005 3))), 3, (insWord 0x0B 5 1 2 0 0x0), { corr := [(64, 3)] }, by decide⟩

theorem witness_ScalarImmediateArithmetic_addi : ∃ (s : State) (t w : Nat) (bad : EccHits),
    (Fetches s.dev t 0x10 w bad) ∧ (resvI w = false) :=
  ⟨at_ ((tileDev (insWord 0x10 5 1 0 0 0xFFFFFFF3) (tileX 0x8000000000000005 3))), 3, (insWord 0x10 5 1 0 0 0xFFFFFFF3), { corr := [(64, 3)] }, by decide⟩

theorem witness_ScalarImmediateArithmetic_andi : ∃ (s : State) (t w : Nat) (bad : EccHits),
    (Fetches s.dev t 0x11 w bad) ∧ (resvI w = false) :=
  ⟨at_ ((tileDev (insWord 0x11 5 1 0 0 0xFFFFFFF3) (tileX 0x8000000000000005 3))), 3, (insWord 0x11 5 1 0 0 0xFFFFFFF3), { corr := [(64, 3)] }, by decide⟩

theorem witness_ScalarImmediateArithmetic_ori : ∃ (s : State) (t w : Nat) (bad : EccHits),
    (Fetches s.dev t 0x12 w bad) ∧ (resvI w = false) :=
  ⟨at_ ((tileDev (insWord 0x12 5 1 0 0 0xFFFFFFF3) (tileX 0x8000000000000005 3))), 3, (insWord 0x12 5 1 0 0 0xFFFFFFF3), { corr := [(64, 3)] }, by decide⟩

theorem witness_ScalarImmediateArithmetic_xori : ∃ (s : State) (t w : Nat) (bad : EccHits),
    (Fetches s.dev t 0x13 w bad) ∧ (resvI w = false) :=
  ⟨at_ ((tileDev (insWord 0x13 5 1 0 0 0xFFFFFFF3) (tileX 0x8000000000000005 3))), 3, (insWord 0x13 5 1 0 0 0xFFFFFFF3), { corr := [(64, 3)] }, by decide⟩

theorem witness_ScalarImmediateArithmetic_shli : ∃ (s : State) (t w : Nat) (bad : EccHits),
    (Fetches s.dev t 0x14 w bad) ∧ (resvI w = false) :=
  ⟨at_ ((tileDev (insWord 0x14 5 1 0 0 0xFFFFFFF3) (tileX 0x8000000000000005 3))), 3, (insWord 0x14 5 1 0 0 0xFFFFFFF3), { corr := [(64, 3)] }, by decide⟩

theorem witness_ScalarImmediateArithmetic_shri : ∃ (s : State) (t w : Nat) (bad : EccHits),
    (Fetches s.dev t 0x15 w bad) ∧ (resvI w = false) :=
  ⟨at_ ((tileDev (insWord 0x15 5 1 0 0 0xFFFFFFF3) (tileX 0x8000000000000005 3))), 3, (insWord 0x15 5 1 0 0 0xFFFFFFF3), { corr := [(64, 3)] }, by decide⟩

theorem witness_ScalarImmediateArithmetic_srai : ∃ (s : State) (t w : Nat) (bad : EccHits),
    (Fetches s.dev t 0x16 w bad) ∧ (resvI w = false) :=
  ⟨at_ ((tileDev (insWord 0x16 5 1 0 0 0xFFFFFFF3) (tileX 0x8000000000000005 3))), 3, (insWord 0x16 5 1 0 0 0xFFFFFFF3), { corr := [(64, 3)] }, by decide⟩

theorem witness_ScalarImmediateArithmetic_lui : ∃ (s : State) (t w : Nat) (bad : EccHits),
    (Fetches s.dev t 0x17 w bad) ∧ (resvI w = false) :=
  ⟨at_ ((tileDev (insWord 0x17 5 1 0 0 0xFFFFFFF3) (tileX 0x8000000000000005 3))), 3, (insWord 0x17 5 1 0 0 0xFFFFFFF3), { corr := [(64, 3)] }, by decide⟩

theorem witness_LoadsStoresAndAtomics_ld : ∃ (s : State) (t w : Nat) (bad : EccHits) (ea : Nat),
    (Fetches s.dev t 0x18 w bad) ∧ (resvIFn (fun f => decide (f < 8)) w = false) ∧ (((s.dev.tile t).reg (iRs1 w) + (imm64 w).toNat) % 2 ^ 64 = ea) ∧ (s.dev.eaFault t ea (accSize (iFn w)) (accSize (iFn w)) false = 0) ∧ (clean bad (eaOff ea) (accSize (iFn w)) = true) ∧ (s.dev.loadBad t (eaTile t ea) (eaOff ea) (accSize (iFn w)) = false) :=
  ⟨at_ ((tileDev (insWord 0x18 5 1 0 6 0x10) (tileX 64 3))), 3, (insWord 0x18 5 1 0 6 0x10), { corr := [(64, 3)] }, 80, by decide⟩

theorem witness_LoadsStoresAndAtomics_st : ∃ (s : State) (t w : Nat) (bad : EccHits) (ea : Nat),
    (Fetches s.dev t 0x19 w bad) ∧ (resvIFn (fun f => decide (f < 4)) w = false) ∧ (((s.dev.tile t).reg (iRs1 w) + (imm64 w).toNat) % 2 ^ 64 = ea) ∧ (s.dev.eaFault t ea (accSize (iFn w)) (accSize (iFn w)) true = 0) ∧ ((s.dev.tile t).buf.length < 16) :=
  ⟨at_ ((tileDev (insWord 0x19 2 1 0 2 0x10) (tileX 64 0x12345678))), 3, (insWord 0x19 2 1 0 2 0x10), { corr := [(64, 3)] }, 80, by decide⟩

theorem witness_LoadsStoresAndAtomics_amo : ∃ (s : State) (t w : Nat) (bad : EccHits) (ea u : Nat),
    (Fetches s.dev t 0x1A w bad) ∧ (resvRFn (fun f => decide (f < 16) && decide (f % 8 ≤ 4)) w = false) ∧ ((s.dev.tile t).reg (iRs1 w) = ea) ∧ (eaTile t ea = u) ∧ (s.dev.eaFault t ea (amoSize (iFn w % 8)) (amoSize (iFn w % 8)) false = 0) ∧ ((s.dev.tile t).amoWaits u (eaOff ea) (amoSize (iFn w % 8)) (bitOf (iFn w) 3) = false) ∧ (clean bad (eaOff ea) (amoSize (iFn w % 8)) = true) ∧ (s.dev.poisonIn u (eaOff ea) (amoSize (iFn w % 8)) = none) :=
  ⟨at_ ((tileDev (insWord 0x1A 5 1 2 1 0x0) (tileX 72 3))), 3, (insWord 0x1A 5 1 2 1 0x0), { corr := [(64, 3)] }, 72, 3, by decide⟩

theorem witness_LoadsStoresAndAtomics_storePerformed : ∃ (s : State) (t i : Nat) (e : StoreEnt),
    ((s.dev.tile t).buf[i]? = some e) ∧ (((s.dev.tile t).buf.take i).any (fun o => o.overlaps e || decide (o.grp < e.grp)) = false) ∧ (e.remote = false ∨ s.dev.remoteOk t e.tile = true) ∧ ((wordsOf e.addr e.bytes.length).filter (s.dev.eccOf e.tile).poison.contains = []) ∧ ((s.dev.tile t).ending = none) :=
  ⟨at_ ((tileDev 0 ({ tileX 0 0 with buf := [{ tile := 4, remote := true, addr := 16, bytes := [1, 2], ea := 16 }, { tile := 3, remote := false, addr := 8, bytes := [5, 6], ea := 8 }] }))), 3, 1, { tile := 3, remote := false, addr := 8, bytes := [5, 6], ea := 8 }, by decide⟩

theorem witness_LoadsStoresAndAtomics_storePerformed_2 : ∃ (s : State) (t i : Nat) (e : StoreEnt),
    ((s.dev.tile t).buf[i]? = some e) ∧ (((s.dev.tile t).buf.take i).any (fun o => o.overlaps e || decide (o.grp < e.grp)) = false) ∧ (e.remote = true) ∧ (s.dev.remoteOk t e.tile = false) ∧ ((s.dev.tile t).ending = none) :=
  ⟨at_ ((tileDev 0 ({ tileX 0 0 with buf := [{ tile := 4, remote := true, addr := 16, bytes := [1, 2], ea := 16 }, { tile := 3, remote := false, addr := 8, bytes := [5, 6], ea := 8 }] }))), 3, 0, { tile := 4, remote := true, addr := 16, bytes := [1, 2], ea := 16 }, by decide⟩

theorem witness_BranchesFencesAndCsrs_br : ∃ (s : State) (t w : Nat) (bad : EccHits),
    (Fetches s.dev t 0x20 w bad) ∧ ((iRd w != 0 || decide (5 < iFn w)) = false) :=
  ⟨at_ ((tileDev (insWord 0x20 0 1 2 2 0xFFFFFFFC) (tileX 0x8000000000000005 3))), 3, (insWord 0x20 0 1 2 2 0xFFFFFFFC), { corr := [(64, 3)] }, by decide⟩

theorem witness_BranchesFencesAndCsrs_jal : ∃ (s : State) (t w : Nat) (bad : EccHits),
    (Fetches s.dev t 0x21 w bad) ∧ ((resvI w || iRs1 w != 0) = false) :=
  ⟨at_ ((tileDev (insWord 0x21 5 0 0 0 0xFFFFFFFC) (tileX 0x8000000000000005 3))), 3, (insWord 0x21 5 0 0 0 0xFFFFFFFC), { corr := [(64, 3)] }, by decide⟩

theorem witness_BranchesFencesAndCsrs_jalr : ∃ (s : State) (t w : Nat) (bad : EccHits),
    (Fetches s.dev t 0x22 w bad) ∧ (resvI w = false) ∧ (((s.dev.tile t).reg (iRs1 w) + (imm64 w).toNat) % 2 ^ 64 % 8 = 0) :=
  ⟨at_ ((tileDev (insWord 0x22 5 1 0 0 0x10) (tileX 64 3))), 3, (insWord 0x22 5 1 0 0 0x10), { corr := [(64, 3)] }, by decide⟩

theorem witness_BranchesFencesAndCsrs_trap : ∃ (s : State) (t w : Nat) (bad : EccHits),
    (Fetches s.dev t 0x2B w bad) ∧ (resvI w = false) ∧ ((s.dev.tile t).active = false) ∧ ((s.dev.tile t).evec ≠ 0) ∧ ((s.dev.tile t).evec < 2 ^ 64) ∧ ((s.dev.tile t).buf = []) :=
  ⟨at_ ((tileDev (insWord 0x2B 0 0 0 0 0xFFFFFFFE) { tileX 0 0 with evec := 256 })), 3, (insWord 0x2B 0 0 0 0 0xFFFFFFFE), { corr := [(64, 3)] }, by decide⟩

theorem witness_BranchesFencesAndCsrs_rete : ∃ (s : State) (t w : Nat) (bad : EccHits),
    (Fetches s.dev t 0x2C w bad) ∧ (resvR w = false) ∧ ((s.dev.tile t).epc % 8 = 0) :=
  ⟨at_ ((tileDev (insWord 0x2C 0 0 0 0 0x0) { tileX 0 0 with epc := 128, active := true })), 3, (insWord 0x2C 0 0 0 0 0x0), { corr := [(64, 3)] }, by decide⟩

theorem witness_BranchesFencesAndCsrs_halt : ∃ (s : State) (t w : Nat) (bad : EccHits),
    (Fetches s.dev t 0x2A w bad) ∧ (resvR w = false) ∧ ((s.dev.tile t).quiet = true) ∧ ((s.dev.tile t).doneErrs = []) ∧ ((s.dev.tile t).buf = []) ∧ ((s.dev.tile t).lq = []) :=
  ⟨at_ ((tileDev (insWord 0x2A 0 1 0 0 0x0) (tileX 0x8000000000000005 3))), 3, (insWord 0x2A 0 1 0 0 0x0), { corr := [(64, 3)] }, by decide⟩

theorem witness_BranchesFencesAndCsrs_halt_2 : ∃ (s : State) (t w : Nat) (bad : EccHits) (l : Launch) (rest : List Launch),
    (Fetches s.dev t 0x2A w bad) ∧ (resvR w = false) ∧ ((s.dev.tile t).quiet = true) ∧ ((s.dev.tile t).doneErrs = []) ∧ ((s.dev.tile t).buf = []) ∧ ((s.dev.tile t).lq = l :: rest) ∧ (s.dev.slotted l.burgee = false) :=
  ⟨at_ ((tileDev (insWord 0x2A 0 1 0 0 0x0) { tileX 0 0 with lq := [{ entry := 8, arg := 9, id := 5 }] })), 3, (insWord 0x2A 0 1 0 0 0x0), { corr := [(64, 3)] }, { entry := 8, arg := 9, id := 5 }, [], by decide⟩

theorem witness_BranchesFencesAndCsrs_fenceLd : ∃ (s : State) (t w : Nat) (bad : EccHits),
    (Fetches s.dev t 0x28 w bad) ∧ (resvRFn (fun f => decide (f < 4)) w = false) ∧ (iFn w = 0) :=
  ⟨at_ ((tileDev (insWord 0x28 0 0 0 0 0x0) (tileX 0x8000000000000005 3))), 3, (insWord 0x28 0 0 0 0 0x0), { corr := [(64, 3)] }, by decide⟩

theorem witness_BranchesFencesAndCsrs_fenceSt : ∃ (s : State) (t w : Nat) (bad : EccHits),
    (Fetches s.dev t 0x28 w bad) ∧ (resvRFn (fun f => decide (f < 4)) w = false) ∧ (iFn w = 1) :=
  ⟨at_ ((tileDev (insWord 0x28 0 0 0 1 0x0) (tileX 0x8000000000000005 3))), 3, (insWord 0x28 0 0 0 1 0x0), { corr := [(64, 3)] }, by decide⟩

theorem witness_BranchesFencesAndCsrs_fenceSc : ∃ (s : State) (t w : Nat) (bad : EccHits),
    (Fetches s.dev t 0x28 w bad) ∧ (resvRFn (fun f => decide (f < 4)) w = false) ∧ (iFn w = 2) ∧ ((s.dev.tile t).buf = []) :=
  ⟨at_ ((tileDev (insWord 0x28 0 0 0 2 0x0) (tileX 0x8000000000000005 3))), 3, (insWord 0x28 0 0 0 2 0x0), { corr := [(64, 3)] }, by decide⟩

theorem witness_BranchesFencesAndCsrs_fenceTn : ∃ (s : State) (t w : Nat) (bad : EccHits),
    (Fetches s.dev t 0x28 w bad) ∧ (resvRFn (fun f => decide (f < 4)) w = false) ∧ (iFn w = 3) ∧ ((s.dev.tile t).quiet = true) ∧ ((s.dev.tile t).doneErrs = []) :=
  ⟨at_ ((tileDev (insWord 0x28 0 0 0 3 0x0) (tileX 0x8000000000000005 3))), 3, (insWord 0x28 0 0 0 3 0x0), { corr := [(64, 3)] }, by decide⟩

theorem witness_BranchesFencesAndCsrs_wait : ∃ (s : State) (t w : Nat) (bad : EccHits) (q n : Nat),
    (Fetches s.dev t 0x29 w bad) ∧ (resvR w = false) ∧ ((s.dev.tile t).reg (iRs1 w) / 2 ^ 62 = q) ∧ ((s.dev.tile t).reg (iRs1 w) % 2 ^ 62 = n) ∧ (q < 3) ∧ (0 < n) ∧ (n ≤ nth (s.dev.tile t).issued q) ∧ (((s.dev.tile t).queues.getD q []).any (fun o => o.token = (s.dev.tile t).reg (iRs1 w)) = false) ∧ ((s.dev.tile t).doneErrs.find? (fun e => e.1 = (s.dev.tile t).reg (iRs1 w)) = none) :=
  ⟨at_ ((tileDev (insWord 0x29 0 1 0 0 0x0) { tileX (2 ^ 62 + 1) 0 with issued := [0, 1, 0] })), 3, (insWord 0x29 0 1 0 0 0x0), { corr := [(64, 3)] }, 1, 1, by decide⟩

theorem witness_BranchesFencesAndCsrs_csrr : ∃ (s : State) (t w : Nat) (bad : EccHits) (v : Nat),
    (Fetches s.dev t 0x2D w bad) ∧ (resvI w = false) ∧ (s.dev.csr t (iImm w % 4096) = some v) :=
  ⟨at_ ((tileDev (insWord 0x2D 5 0 0 0 0x3) (tileX 0x8000000000000005 3))), 3, (insWord 0x2D 5 0 0 0 0x3), { corr := [(64, 3)] }, 0, by decide⟩

theorem witness_BranchesFencesAndCsrs_csrw : ∃ (s : State) (t w : Nat) (bad : EccHits),
    (Fetches s.dev t 0x2E w bad) ∧ (resvI w = false) ∧ (csrWritable (iImm w % 4096) = true) ∧ (iImm w % 4096 = 0x21 ∨ iImm w % 4096 = 0x29 → (s.dev.tile t).reg (iRs1 w) % 256 = 0) ∧ (iImm w % 4096 < 0x20 ∨ 0x22 < iImm w % 4096 ∨ s.dev.red.tokenWait.get (quadOfTile t) [] = []) :=
  ⟨at_ ((tileDev (insWord 0x2E 0 1 0 0 0x21) (tileX 512 0))), 3, (insWord 0x2E 0 1 0 0 0x21), { corr := [(64, 3)] }, by decide⟩

theorem witness_BranchesFencesAndCsrs_csrw_2 : ∃ (s : State) (t w : Nat) (bad : EccHits),
    (Fetches s.dev t 0x2E w bad) ∧ (resvI w = false) ∧ (iImm w % 4096 = 0x21 ∨ iImm w % 4096 = 0x29) ∧ ((s.dev.tile t).reg (iRs1 w) % 256 ≠ 0) ∧ (s.dev.red.tokenWait.get (quadOfTile t) [] = []) :=
  ⟨at_ ((tileDev (insWord 0x2E 0 1 0 0 0x29) (tileX 513 0))), 3, (insWord 0x2E 0 1 0 0 0x29), { corr := [(64, 3)] }, by decide⟩

theorem witness_VectorArithmetic_vadd : ∃ (s : State) (t w : Nat) (bad : EccHits),
    (Fetches s.dev t 0x42 w bad) ∧ (resvV [iRd w, iRs1 w, iRs2 w] (· = 0) w = false) ∧ (((s.dev.tile t).vreg (iRs1 w)).length = 64) ∧ (((s.dev.tile t).vreg (iRs2 w)).length = 64) :=
  ⟨at_ ((tileDev (insWord 0x42 2 0 1 448 0x0) ({ tileX 0x40000000 3 with v := List.replicate 64 0x3FC00000 :: List.replicate 64 0xC0200000 :: List.replicate 14 (List.replicate 64 7), m := [5, 6, 7, 8] }))), 3, (insWord 0x42 2 0 1 448 0x0), { corr := [(64, 3)] }, by decide⟩

theorem witness_VectorArithmetic_vsub : ∃ (s : State) (t w : Nat) (bad : EccHits),
    (Fetches s.dev t 0x43 w bad) ∧ (resvV [iRd w, iRs1 w, iRs2 w] (· = 0) w = false) ∧ (((s.dev.tile t).vreg (iRs1 w)).length = 64) ∧ (((s.dev.tile t).vreg (iRs2 w)).length = 64) :=
  ⟨at_ ((tileDev (insWord 0x43 2 0 1 448 0x0) ({ tileX 0x40000000 3 with v := List.replicate 64 0x3FC00000 :: List.replicate 64 0xC0200000 :: List.replicate 14 (List.replicate 64 7), m := [5, 6, 7, 8] }))), 3, (insWord 0x43 2 0 1 448 0x0), { corr := [(64, 3)] }, by decide⟩

theorem witness_VectorArithmetic_vmul : ∃ (s : State) (t w : Nat) (bad : EccHits),
    (Fetches s.dev t 0x44 w bad) ∧ (resvV [iRd w, iRs1 w, iRs2 w] (· = 0) w = false) ∧ (((s.dev.tile t).vreg (iRs1 w)).length = 64) ∧ (((s.dev.tile t).vreg (iRs2 w)).length = 64) :=
  ⟨at_ ((tileDev (insWord 0x44 2 0 1 448 0x0) ({ tileX 0x40000000 3 with v := List.replicate 64 0x3FC00000 :: List.replicate 64 0xC0200000 :: List.replicate 14 (List.replicate 64 7), m := [5, 6, 7, 8] }))), 3, (insWord 0x44 2 0 1 448 0x0), { corr := [(64, 3)] }, by decide⟩

theorem witness_VectorArithmetic_vdiv : ∃ (s : State) (t w : Nat) (bad : EccHits),
    (Fetches s.dev t 0x48 w bad) ∧ (resvV [iRd w, iRs1 w, iRs2 w] (· = 0) w = false) ∧ (((s.dev.tile t).vreg (iRs1 w)).length = 64) ∧ (((s.dev.tile t).vreg (iRs2 w)).length = 64) :=
  ⟨at_ ((tileDev (insWord 0x48 2 0 1 448 0x0) ({ tileX 0x40000000 3 with v := List.replicate 64 0x3FC00000 :: List.replicate 64 0xC0200000 :: List.replicate 14 (List.replicate 64 7), m := [5, 6, 7, 8] }))), 3, (insWord 0x48 2 0 1 448 0x0), { corr := [(64, 3)] }, by decide⟩

theorem witness_VectorArithmetic_vsqrt : ∃ (s : State) (t w : Nat) (bad : EccHits),
    (Fetches s.dev t 0x49 w bad) ∧ (resvV [iRd w, iRs1 w] (· = 0) w = false) ∧ (((s.dev.tile t).vreg (iRs1 w)).length = 64) :=
  ⟨at_ ((tileDev (insWord 0x49 2 0 1 0 0x0) ({ tileX 0x40000000 3 with v := List.replicate 64 0x3FC00000 :: List.replicate 64 0xC0200000 :: List.replicate 14 (List.replicate 64 7), m := [5, 6, 7, 8] }))), 3, (insWord 0x49 2 0 1 0 0x0), { corr := [(64, 3)] }, by decide⟩

theorem witness_VectorArithmetic_vfma : ∃ (s : State) (t w : Nat) (bad : EccHits),
    (Fetches s.dev t 0x45 w bad) ∧ (resvV [iRd w, iRs1 w, iRs2 w, iVs3 w] (· = 0) w = false) :=
  ⟨at_ ((tileDev (insWord 0x45 2 0 1 0 0x8000000) ({ tileX 0x40000000 3 with v := List.replicate 64 0x3FC00000 :: List.replicate 64 0xC0200000 :: List.replicate 14 (List.replicate 64 7), m := [5, 6, 7, 8] }))), 3, (insWord 0x45 2 0 1 0 0x8000000), { corr := [(64, 3)] }, by decide⟩

theorem witness_VectorArithmetic_vmax : ∃ (s : State) (t w : Nat) (bad : EccHits),
    (Fetches s.dev t 0x46 w bad) ∧ (resvV [iRd w, iRs1 w, iRs2 w] (· = 0) w = false) :=
  ⟨at_ ((tileDev (insWord 0x46 2 0 1 0 0x0) ({ tileX 0x40000000 3 with v := List.replicate 64 0x3FC00000 :: List.replicate 64 0xC0200000 :: List.replicate 14 (List.replicate 64 7), m := [5, 6, 7, 8] }))), 3, (insWord 0x46 2 0 1 0 0x0), { corr := [(64, 3)] }, by decide⟩

theorem witness_VectorArithmetic_vmin : ∃ (s : State) (t w : Nat) (bad : EccHits),
    (Fetches s.dev t 0x47 w bad) ∧ (resvV [iRd w, iRs1 w, iRs2 w] (· = 0) w = false) :=
  ⟨at_ ((tileDev (insWord 0x47 2 0 1 0 0x0) ({ tileX 0x40000000 3 with v := List.replicate 64 0x3FC00000 :: List.replicate 64 0xC0200000 :: List.replicate 14 (List.replicate 64 7), m := [5, 6, 7, 8] }))), 3, (insWord 0x47 2 0 1 0 0x0), { corr := [(64, 3)] }, by decide⟩

theorem witness_VectorArithmetic_vcmp : ∃ (s : State) (t w : Nat) (bad : EccHits),
    (Fetches s.dev t 0x4A w bad) ∧ ((resvV [iRs1 w, iRs2 w] (fun s => decide (s < 4)) w || decide (3 < iRd w)) = false) ∧ ((s.dev.tile t).m.length = 4) :=
  ⟨at_ ((tileDev (insWord 0x4A 1 0 1 2 0x0) ({ tileX 0x40000000 3 with v := List.replicate 64 0x3FC00000 :: List.replicate 64 0xC0200000 :: List.replicate 14 (List.replicate 64 7), m := [5, 6, 7, 8] }))), 3, (insWord 0x4A 1 0 1 2 0x0), { corr := [(64, 3)] }, by decide⟩

theorem witness_VectorArithmetic_vsel : ∃ (s : State) (t w : Nat) (bad : EccHits),
    (Fetches s.dev t 0x4B w bad) ∧ ((resvV [iRd w, iRs1 w, iRs2 w] (· = 0) w || decide (3 < iVs3 w)) = false) :=
  ⟨at_ ((tileDev (insWord 0x4B 2 0 1 0 0x18000000) ({ tileX 0x40000000 3 with v := List.replicate 64 0x3FC00000 :: List.replicate 64 0xC0200000 :: List.replicate 14 (List.replicate 64 7), m := [5, 6, 7, 8] }))), 3, (insWord 0x4B 2 0 1 0 0x18000000), { corr := [(64, 3)] }, by decide⟩

theorem witness_VectorMovesReductionsAndFunctions_vredsum : ∃ (s : State) (t w : Nat) (bad : EccHits),
    (Fetches s.dev t 0x4D w bad) ∧ (resvV [iRd w, iRs1 w] (· = 0) w = false) :=
  ⟨at_ ((tileDev (insWord 0x4D 2 0 0 0 0x0) ({ tileX 0x40000000 3 with v := List.replicate 64 0x3FC00000 :: List.replicate 64 0xC0200000 :: List.replicate 14 (List.replicate 64 7), m := [5, 6, 7, 8] }))), 3, (insWord 0x4D 2 0 0 0 0x0), { corr := [(64, 3)] }, by decide⟩

theorem witness_VectorMovesReductionsAndFunctions_vredmax : ∃ (s : State) (t w : Nat) (bad : EccHits) (r : Nat),
    (Fetches s.dev t 0x4E w bad) ∧ (resvV [iRd w, iRs1 w] (· = 0) w = false) ∧ (iMaskEn w = false) ∧ (((s.dev.tile t).vreg (iRs1 w)).length = 64) ∧ (iRd w < (s.dev.tile t).v.length) ∧ (r ∈ (s.dev.tile t).vreg (iRs1 w)) ∧ ((of32 r).isNan = false) ∧ (((s.dev.tile t).vreg (iRs1 w)).all (fun a => !(of32 a).isNan && (a == r || (of32 a).lt (of32 r))) = true) :=
  ⟨at_ ((tileDev (insWord 0x4E 2 0 0 0 0x0) ({ tileX 0x40000000 3 with v := List.replicate 64 0x3FC00000 :: List.replicate 64 0xC0200000 :: List.replicate 14 (List.replicate 64 7), m := [5, 6, 7, 8] }))), 3, (insWord 0x4E 2 0 0 0 0x0), { corr := [(64, 3)] }, 0x3FC00000, by decide +kernel⟩

theorem witness_VectorMovesReductionsAndFunctions_vbcast : ∃ (s : State) (t w : Nat) (bad : EccHits),
    (Fetches s.dev t 0x4C w bad) ∧ ((resvI w || decide (15 < iRd w)) = false) :=
  ⟨at_ ((tileDev (insWord 0x4C 2 1 0 0 0x0) ({ tileX 0x40000000 3 with v := List.replicate 64 0x3FC00000 :: List.replicate 64 0xC0200000 :: List.replicate 14 (List.replicate 64 7), m := [5, 6, 7, 8] }))), 3, (insWord 0x4C 2 1 0 0 0x0), { corr := [(64, 3)] }, by decide⟩

theorem witness_VectorMovesReductionsAndFunctions_vextr : ∃ (s : State) (t w : Nat) (bad : EccHits),
    (Fetches s.dev t 0x4F w bad) ∧ ((resvI w || decide (15 < iRs1 w)) = false) :=
  ⟨at_ ((tileDev (insWord 0x4F 2 1 0 0 0x46) ({ tileX 0x40000000 3 with v := List.replicate 64 0x3FC00000 :: List.replicate 64 0xC0200000 :: List.replicate 14 (List.replicate 64 7), m := [5, 6, 7, 8] }))), 3, (insWord 0x4F 2 1 0 0 0x46), { corr := [(64, 3)] }, by decide⟩

theorem witness_VectorMovesReductionsAndFunctions_vexp2 : ∃ (s : State) (t w : Nat) (bad : EccHits),
    (Fetches s.dev t 0x50 w bad) ∧ (resvV [iRd w, iRs1 w] (· = 0) w = false) :=
  ⟨at_ (((tileDev (insWord 0x50 2 0 0 0 0x0) ({ tileX 0x40000000 3 with v := List.replicate 64 0x3FC00000 :: List.replicate 64 0xC0200000 :: List.replicate 14 (List.replicate 64 7), m := [5, 6, 7, 8] })).wr R.HUB_NPROF_ID 0x0A01)), 3, (insWord 0x50 2 0 0 0 0x0), { corr := [(64, 3)] }, by decide⟩

theorem witness_VectorMovesReductionsAndFunctions_vlog2 : ∃ (s : State) (t w : Nat) (bad : EccHits),
    (Fetches s.dev t 0x51 w bad) ∧ (resvV [iRd w, iRs1 w] (· = 0) w = false) :=
  ⟨at_ (((tileDev (insWord 0x51 2 0 0 0 0x0) ({ tileX 0x40000000 3 with v := List.replicate 64 0x3FC00000 :: List.replicate 64 0xC0200000 :: List.replicate 14 (List.replicate 64 7), m := [5, 6, 7, 8] })).wr R.HUB_NPROF_ID 0x0A01)), 3, (insWord 0x51 2 0 0 0 0x0), { corr := [(64, 3)] }, by decide⟩

theorem witness_VectorMovesReductionsAndFunctions_vrcp : ∃ (s : State) (t w : Nat) (bad : EccHits),
    (Fetches s.dev t 0x52 w bad) ∧ (resvV [iRd w, iRs1 w] (· = 0) w = false) :=
  ⟨at_ (((tileDev (insWord 0x52 2 0 0 0 0x0) ({ tileX 0x40000000 3 with v := List.replicate 64 0x3FC00000 :: List.replicate 64 0xC0200000 :: List.replicate 14 (List.replicate 64 7), m := [5, 6, 7, 8] })).wr R.HUB_NPROF_ID 0x0A01)), 3, (insWord 0x52 2 0 0 0 0x0), { corr := [(64, 3)] }, by decide⟩

theorem witness_VectorMovesReductionsAndFunctions_vrsqrt : ∃ (s : State) (t w : Nat) (bad : EccHits),
    (Fetches s.dev t 0x53 w bad) ∧ (resvV [iRd w, iRs1 w] (· = 0) w = false) :=
  ⟨at_ (((tileDev (insWord 0x53 2 0 0 0 0x0) ({ tileX 0x40000000 3 with v := List.replicate 64 0x3FC00000 :: List.replicate 64 0xC0200000 :: List.replicate 14 (List.replicate 64 7), m := [5, 6, 7, 8] })).wr R.HUB_NPROF_ID 0x0A01)), 3, (insWord 0x53 2 0 0 0 0x0), { corr := [(64, 3)] }, by decide⟩

theorem witness_VectorMovesReductionsAndFunctions_vtanh : ∃ (s : State) (t w : Nat) (bad : EccHits),
    (Fetches s.dev t 0x54 w bad) ∧ (resvV [iRd w, iRs1 w] (· = 0) w = false) :=
  ⟨at_ (((tileDev (insWord 0x54 2 0 0 0 0x0) ({ tileX 0x40000000 3 with v := List.replicate 64 0x3FC00000 :: List.replicate 64 0xC0200000 :: List.replicate 14 (List.replicate 64 7), m := [5, 6, 7, 8] })).wr R.HUB_NPROF_ID 0x0A01)), 3, (insWord 0x54 2 0 0 0 0x0), { corr := [(64, 3)] }, by decide⟩

theorem witness_VectorMovesReductionsAndFunctions_vsigm : ∃ (s : State) (t w : Nat) (bad : EccHits),
    (Fetches s.dev t 0x55 w bad) ∧ (resvV [iRd w, iRs1 w] (· = 0) w = false) :=
  ⟨at_ (((tileDev (insWord 0x55 2 0 0 0 0x0) ({ tileX 0x40000000 3 with v := List.replicate 64 0x3FC00000 :: List.replicate 64 0xC0200000 :: List.replicate 14 (List.replicate 64 7), m := [5, 6, 7, 8] })).wr R.HUB_NPROF_ID 0x0A01)), 3, (insWord 0x55 2 0 0 0 0x0), { corr := [(64, 3)] }, by decide⟩

theorem witness_VectorMovesReductionsAndFunctions_vrng : ∃ (s : State) (t w : Nat) (bad : EccHits),
    (Fetches s.dev t 0x58 w bad) ∧ (resvV [iRd w] (fun s => decide (s < 2)) w = false) :=
  ⟨at_ ((tileDev (insWord 0x58 2 0 0 1 0x0) { tileX 0x40000000 3 with v := List.replicate 64 0x3FC00000 :: List.replicate 64 0xC0200000 :: List.replicate 14 (List.replicate 64 7), m := [5, 6, 7, 8], rngKey := 5, rngCtr := 7 })), 3, (insWord 0x58 2 0 0 1 0x0), { corr := [(64, 3)] }, by decide⟩

theorem witness_VectorMovesReductionsAndFunctions_vld : ∃ (s : State) (t w : Nat) (bad : EccHits) (ea : Nat),
    (Fetches s.dev t 0x40 w bad) ∧ ((resvIFn (fun f => decide (f < 128) && (fmtMx (f % 64) || decide (f < 64))) w || decide (15 < iRd w)) = false) ∧ (((s.dev.tile t).reg (iRs1 w) + (imm64 w).toNat) % 2 ^ 64 = ea) ∧ (ea % 64 = 0) ∧ (s.dev.vecFmt (iFn w % 64) = true) ∧ (s.dev.eaFault t ea (vecBytes (iFn w % 64)) 64 false = 0) ∧ (clean bad (eaOff ea) (vecBytes (iFn w % 64)) = true) ∧ (s.dev.loadBad t (eaTile t ea) (eaOff ea) (vecBytes (iFn w % 64)) = false) :=
  ⟨at_ (((tileDev (insWord 0x40 2 2 0 0 0x40) (tileX 0 0)).wr R.HUB_FMTCAP_VEC_VEC 0xFFFFFFFF)), 3, (insWord 0x40 2 2 0 0 0x40), {}, 64, by decide⟩

theorem witness_VectorMovesReductionsAndFunctions_vst : ∃ (s : State) (t w : Nat) (bad : EccHits) (ea : Nat),
    (Fetches s.dev t 0x41 w bad) ∧ ((resvIFn (fun f => bitOf f 6 = false && bitOf f 8 = false) w || decide (15 < iRd w) || (fmtMx (iFn w % 64) && iRd w % 2 = 1)) = false) ∧ (((s.dev.tile t).reg (iRs1 w) + (imm64 w).toNat) % 2 ^ 64 = ea) ∧ (ea % 64 = 0) ∧ (s.dev.vecFmt (iFn w % 64) = true) ∧ (s.dev.eaFault t ea (encodeVals (iFn w % 64) ((s.dev.tile t).vstVals (iFn w % 64) (iRd w)) (bitOf (iFn w) 7)).1.length 64 true = 0) ∧ ((s.dev.tile t).buf.length < 16) :=
  ⟨at_ (((tileDev (insWord 0x41 2 2 0 0 0x40) (tileX 0 0)).wr R.HUB_FMTCAP_VEC_VEC 0xFFFFFFFF)), 3, (insWord 0x41 2 2 0 0 0x40), {}, 64, by decide +kernel⟩

theorem witness_AsynchronousIssue_mma : ∃ (s : State) (t w a : Nat) (x : Tile),
    (Fetches s.dev t 0x60 w {}) ∧ (resvR w = false) ∧ (s.dev.tile t = x) ∧ (x.reg (iRs1 w) = a) ∧ (x.queues.length = 3) ∧ (x.issued.length = 3) ∧ ((x.buf.any fun e => e.tile = t) = false) ∧ ((x.queues.getD 0 []).length < 16) ∧ (a % 64 = 0 ∧ a + 64 ≤ sramBytes) ∧ (s.dev.poisonIn t a 64 = none) ∧ ((s.dev.mmaCheck x a (s.dev.sramWords t a 16) false).isNone = true) :=
  ⟨at_ ((((((tileDev (insWord 0x60 5 1 0 0 0x0) (tileX 128 0)).setSram 3 (Mem.writeN ((tileDev (insWord 0x60 5 1 0 0 0x0) (tileX 128 0)).sramOf 3) 128 (([0x0, 0x10001, 0x1, 0x1000, 0x100, 0x2000, 0x100, 0x0, 0x0, 0x3000, 0x100, 0x0, 0x0, 0x0, 0x0, 0x0] : List Nat).flatMap (bytesLE 4))))).wr R.HUB_FMTCAP_ARR_ARR 0xFFFFFFFF).wr R.HUB_FMTCAP_VEC_VEC 0xFFFFFFFF)), 3, (insWord 0x60 5 1 0 0 0x0), 128, tileX 128 0, by decide +kernel⟩

theorem witness_AsynchronousIssue_mmaC : ∃ (s : State) (t w a : Nat) (x : Tile),
    (Fetches s.dev t 0x61 w {}) ∧ (resvR w = false) ∧ (s.dev.tile t = x) ∧ (x.reg (iRs1 w) = a) ∧ (x.queues.length = 3) ∧ (x.issued.length = 3) ∧ ((x.buf.any fun e => e.tile = t) = false) ∧ ((x.queues.getD 0 []).length < 16) ∧ (a % 64 = 0 ∧ a + 96 ≤ sramBytes) ∧ (s.dev.poisonIn t a 96 = none) ∧ ((s.dev.mmaCheck x a (s.dev.sramWords t a 24) true).isNone = true) :=
  ⟨at_ ((((((tileDev (insWord 0x61 5 1 0 0 0x0) (tileX 128 0)).setSram 3 (Mem.writeN ((tileDev (insWord 0x61 5 1 0 0 0x0) (tileX 128 0)).sramOf 3) 128 (([0x0, 0x10001, 0x1, 0x1000, 0x100, 0x2000, 0x100, 0x0, 0x0, 0x3000, 0x4, 0x0, 0x5, 0x0, 0x0, 0x0, 0x0, 0x0, 0x0, 0x0, 0x0, 0x0, 0x0, 0x0] : List Nat).flatMap (bytesLE 4))))).wr R.HUB_FMTCAP_ARR_ARR 0xFFFFFFFF).wr R.HUB_FMTCAP_VEC_VEC 0xFFFFFFFF)), 3, (insWord 0x61 5 1 0 0 0x0), 128, tileX 128 0, by decide +kernel⟩

theorem witness_AsynchronousIssue_xfer : ∃ (s : State) (t w a : Nat) (x : Tile),
    (Fetches s.dev t 0x62 w {}) ∧ (resvR w = false) ∧ (s.dev.tile t = x) ∧ (x.reg (iRs1 w) = a) ∧ (x.queues.length = 3) ∧ (x.issued.length = 3) ∧ ((x.buf.any fun e => e.tile = t) = false) ∧ ((x.queues.getD 1 []).length < 16) ∧ (a % 64 = 0 ∧ a + 32 ≤ sramBytes) ∧ (s.dev.poisonIn t a 32 = none) ∧ ((let k := s.dev.sramWords t a 8; nth k 0 % 2 ^ 31 = 0 ∧ bits (nth k 1) 31 24 = 0 ∧ bits (nth k 5) 31 24 = 0 ∧ nth k 6 % 2 ^ 14 = 0 ∧ nth k 7 = 0 ∧
        bits (nth k 5) 23 0 ≠ 0 ∧ bits (nth k 1) 23 0 + bits (nth k 5) 23 0 ≤ sramBytes ∧
        (match s.dev.regionCheck (nth k 2) (nth k 3 * 2 ^ 32 + nth k 4) (bits (nth k 5) 23 0) x.burgee (bitOf (nth k 0) 31) true with
          | .ok _ => true
          | .error e => e == rDomainOff) = true)) :=
  ⟨at_ (((let d0 : Dev := ((tileDev (insWord 0x62 5 1 0 0 0x0) (tileX 128 0)).setSram 3 (Mem.writeN ((tileDev (insWord 0x62 5 1 0 0 0x0) (tileX 128 0)).sramOf 3) 128 (([0x0, 0x1000, 0x10002, 0x0, 0x0, 0x40, 0x0, 0x0] : List Nat).flatMap (bytesLE 4)))); { d0 with red := { regions := [((0, 2), regE)] } }).setPd 35 true)), 3, (insWord 0x62 5 1 0 0 0x0), 128, tileX 128 0, by decide +kernel⟩

theorem witness_AsynchronousIssue_cinj : ∃ (s : State) (t w a : Nat) (x : Tile),
    (Fetches s.dev t 0x70 w {}) ∧ (resvR w = false) ∧ (s.dev.tile t = x) ∧ (x.reg (iRs1 w) = a) ∧ (x.queues.length = 3) ∧ (x.issued.length = 3) ∧ ((x.buf.any fun e => e.tile = t) = false) ∧ ((x.queues.getD 2 []).length < 16) ∧ (a % 64 = 0 ∧ a + 32 ≤ sramBytes) ∧ (s.dev.poisonIn t a 32 = none) ∧ ((let k := s.dev.sramWords t a 8; bits (nth k 1) 13 8 = 0 ∧ bits (nth k 3) 31 24 = 0 ∧ nth k 4 / 64 = 0 ∧ nth k 6 = 0 ∧ nth k 7 = 0 ∧
        bits (nth k 3) 23 0 + nth k 5 ≤ sramBytes)) :=
  ⟨at_ ((((tileDev (insWord 0x70 5 1 0 0 0x0) (tileX 128 0)).setSram 3 (Mem.writeN ((tileDev (insWord 0x70 5 1 0 0 0x0) (tileX 128 0)).sramOf 3) 128 (([0x5, 0x0, 0x0, 0x1000, 0x0, 0x100, 0x0, 0x0] : List Nat).flatMap (bytesLE 4)))))), 3, (insWord 0x70 5 1 0 0 0x0), 128, tileX 128 0, by decide +kernel⟩

theorem witness_AsynchronousIssue_gpost : ∃ (s : State) (t w a : Nat) (x : Tile),
    (Fetches s.dev t 0x74 w {}) ∧ (resvR w = false) ∧ (s.dev.tile t = x) ∧ (x.reg (iRs1 w) = a) ∧ (x.queues.length = 3) ∧ (x.issued.length = 3) ∧ ((x.buf.any fun e => e.tile = t) = false) ∧ ((x.queues.getD 2 []).length < 16) ∧ (a % 64 = 0 ∧ a + 48 ≤ sramBytes) ∧ (s.dev.poisonIn t a 48 = none) :=
  ⟨at_ ((((tileDev (insWord 0x74 5 1 0 0 0x0) (tileX 128 0)).setSram 3 (Mem.writeN ((tileDev (insWord 0x74 5 1 0 0 0x0) (tileX 128 0)).sramOf 3) 128 (([0x1, 0x1, 0x1, 0x1, 0x1, 0x1, 0x1, 0x1, 0x1, 0x1, 0x1, 0x1] : List Nat).flatMap (bytesLE 4)))))), 3, (insWord 0x74 5 1 0 0 0x0), 128, tileX 128 0, by decide +kernel⟩

theorem witness_AsynchronousEndsBlocksAndLaunches_asyncInstructionComplete : ∃ (s : State) (t : Nat) (o : AsyncOp) (bad : EccHits),
    (s.dev.headOp t 0 = some o) ∧ ((s.dev.tile t).queues.length = 3) ∧ ((s.dev.tile t).ending = none) ∧ (o.kind = .mma) ∧ (o.err = none) :=
  ⟨at_ ((tileDev 0 ({ tileX 0 0 with queues := [[{ kind := .mma, token := 1, descAt := 0, desc := [0x0, 0x10001, 0x1, 0x1000, 0x100, 0x2000, 0x100, 0x0, 0x0, 0x3000, 0x100, 0x0, 0x0, 0x0, 0x0, 0x0] }], [], []] }))), 3, { kind := .mma, token := 1, descAt := 0, desc := [0x0, 0x10001, 0x1, 0x1000, 0x100, 0x2000, 0x100, 0x0, 0x0, 0x3000, 0x100, 0x0, 0x0, 0x0, 0x0, 0x0] }, {}, by decide +kernel⟩

theorem witness_AsynchronousEndsBlocksAndLaunches_asyncInstructionComplete_2 : ∃ (s : State) (t : Nat) (o : AsyncOp) (bad : EccHits),
    (s.dev.headOp t 1 = some o) ∧ ((s.dev.tile t).queues.length = 3) ∧ ((s.dev.tile t).ending = none) ∧ (o.kind = .xfer) ∧ (o.err = none) ∧ (bitOf (nth o.desc 6) 14 = false) :=
  ⟨at_ ((tileDev 0 ({ tileX 0 0 with queues := [[], [{ kind := .xfer, token := 2 ^ 62 + 1, descAt := 0, desc := [0, 0x1000, 0x10002, 0, 0, 8, 0, 0, 4, 256] }], []] }))), 3, { kind := .xfer, token := 2 ^ 62 + 1, descAt := 0, desc := [0, 0x1000, 0x10002, 0, 0, 8, 0, 0, 4, 256] }, {}, by decide +kernel⟩

theorem witness_AsynchronousEndsBlocksAndLaunches_asyncInstructionComplete_3 : ∃ (s : State) (t : Nat) (o : AsyncOp),
    (s.dev.headOp t 2 = some o) ∧ ((s.dev.tile t).queues.length = 3) ∧ ((s.dev.tile t).ending = none) ∧ (o.kind = .gpost) ∧ (o.posted = true) :=
  ⟨at_ ((tileDev 0 ({ tileX 0 0 with queues := [[], [], [{ kind := .gpost, token := 2 ^ 63 + 1, descAt := 0, desc := [], written := true, posted := true }]] }))), 3, { kind := .gpost, token := 2 ^ 63 + 1, descAt := 0, desc := [], written := true, posted := true }, by decide +kernel⟩

theorem witness_AsynchronousEndsBlocksAndLaunches_asyncInstructionComplete_4 : ∃ (s : State) (t : Nat) (o : AsyncOp),
    (s.dev.headOp t 0 = some o) ∧ ((s.dev.tile t).queues.length = 3) ∧ ((s.dev.tile t).ending = none) ∧ (o.kind = .mmac) ∧ (s.dev.blocksOver o = true) :=
  ⟨at_ ((tileDev 0 ({ tileX 0 0 with queues := [[{ kind := .mmac, token := 2 ^ 63 + 1, descAt := 0, desc := [5, 0, 0, 0x1000, 0, 256, 0, 0], written := true, blocks := [] }], [], []] }))), 3, { kind := .mmac, token := 2 ^ 63 + 1, descAt := 0, desc := [5, 0, 0, 0x1000, 0, 256, 0, 0], written := true, blocks := [] }, by decide +kernel⟩

theorem witness_AsynchronousEndsBlocksAndLaunches_asyncInstructionComplete_5 : ∃ (s : State) (t : Nat) (o : AsyncOp),
    (s.dev.headOp t 2 = some o) ∧ ((s.dev.tile t).queues.length = 3) ∧ ((s.dev.tile t).ending = none) ∧ (o.kind = .cinj) ∧ (s.dev.blocksOver o = true) :=
  ⟨at_ ((tileDev 0 ({ tileX 0 0 with queues := [[], [], [{ kind := .cinj, token := 2 ^ 63 + 1, descAt := 0, desc := [5, 0, 0, 0x1000, 0, 256, 0, 0], written := true, blocks := [] }]] }))), 3, { kind := .cinj, token := 2 ^ 63 + 1, descAt := 0, desc := [5, 0, 0, 0x1000, 0, 256, 0, 0], written := true, blocks := [] }, by decide +kernel⟩

theorem witness_AsynchronousEndsBlocksAndLaunches_blockInjection : ∃ (s : State) (t : Nat) (o : AsyncOp) (b : Nat × List Nat) (rest : List (Nat × List Nat)) (pid : Nat),
    (s.dev.headOp t 2 = some o) ∧ ((s.dev.tile t).queues.length = 3) ∧ ((s.dev.tile t).ending = none) ∧ (o.written = true) ∧ (o.injects = true) ∧ (o.blocks = b :: rest) ∧ (s.dev.slotted (s.dev.tile t).burgee = false) ∧ (s.dev.blockHeld t 2 o b.1 = false) ∧ ((s.dev.poisonIn t (o.blockAt b.1).1 (o.blockAt b.1).2).isNone = true) ∧ ((match (s.dev.trySend (s.dev.blockPkt t o b.1 b.2) (attachOf t) 4 (ownCluster (s.dev.blockPkt t o b.1 b.2))).2 with
        | .ok (some p) => p == pid
        | _ => false) = true) :=
  ⟨at_ (((tileDev 0 ({ tileX 0 0 with queues := [[], [], [{ kind := .cinj, token := 2 ^ 63 + 1, descAt := 0, desc := [5, 0, 0, 0x1000, 0, 256, 0, 0], written := true, blocks := [(0, List.replicate 256 7)] }]] })).setPd 100 true)), 3, { kind := .cinj, token := 2 ^ 63 + 1, descAt := 0, desc := [5, 0, 0, 0x1000, 0, 256, 0, 0], written := true, blocks := [(0, List.replicate 256 7)] }, (0, List.replicate 256 7), [], 0, by decide +kernel⟩

theorem witness_AsynchronousEndsBlocksAndLaunches_blockInjection_2 : ∃ (s : State) (t : Nat) (o : AsyncOp) (q : Nat),
    (s.dev.headOp t 2 = some o) ∧ ((s.dev.tile t).queues.length = 3) ∧ ((s.dev.tile t).ending = none) ∧ (q = 2) ∧ (o.written = true) ∧ (o.injects = true) ∧ (o.blocks ≠ []) ∧ (s.dev.slotted (s.dev.tile t).burgee = true) :=
  ⟨at_ (({ (tileDev 0 ({ tileX 0 0 with queues := [[], [], [{ kind := .cinj, token := 2 ^ 63 + 1, descAt := 0, desc := [5, 0, 0, 0x1000, 0, 256, 0, 0], written := true, blocks := [(0, List.replicate 256 7)] }]] })) with time := { det := 2, lockstep := [0] } })), 3, { kind := .cinj, token := 2 ^ 63 + 1, descAt := 0, desc := [5, 0, 0, 0x1000, 0, 256, 0, 0], written := true, blocks := [(0, List.replicate 256 7)] }, 2, by decide +kernel⟩

theorem witness_AsynchronousEndsBlocksAndLaunches_tileLaunch : ∃ (s : State) (aseq t : Nat) (j : JEntry),
    (Begun s.dev aseq 0x0401 j) ∧ (s.dev.parking = false) ∧ ((j.w 5 % 2 ^ 24) % 8 = 0) ∧ (j.w 5 % 2 ^ 24 < sramBytes) ∧ (s.dev.modelOf (j.w 4 % 64) = none) ∧ (j.w 4 % 64 = t) ∧ (s.dev.tileState t = tsIdle) ∧ ((s.dev.tile t).lq = []) ∧ (s.dev.slotted j.burgee = false) :=
  ⟨begun 0x0401 [3, 8, 0, 9] (({} : Dev).wr R.TILE_STAT_STATE tsIdle 3), 1, 3, job 0x0401 [3, 8, 0, 9], by decide⟩

theorem witness_AsynchronousEndsBlocksAndLaunches_tileLaunch_2 : ∃ (s : State) (aseq t : Nat) (j : JEntry),
    (Begun s.dev aseq 0x0401 j) ∧ (s.dev.parking = false) ∧ ((j.w 5 % 2 ^ 24) % 8 = 0) ∧ (j.w 5 % 2 ^ 24 < sramBytes) ∧ (s.dev.modelOf (j.w 4 % 64) = none) ∧ (j.w 4 % 64 = t) ∧ (s.dev.tileState t = tsRunning ∨ s.dev.tileState t = tsParked) ∧ ((s.dev.tile t).lq.length < 4) :=
  ⟨begun 0x0401 [3, 8, 0, 9] (({} : Dev).wr R.TILE_STAT_STATE tsRunning 3), 1, 3, job 0x0401 [3, 8, 0, 9], by decide⟩

theorem witness_TileCollectiveInterface_cbind : ∃ (s : State) (t w : Nat) (bad : EccHits) (bs : List Nat),
    (Fetches s.dev t 0x71 w bad) ∧ (resvR w = false) ∧ ((s.dev.tile t).reg (iRs2 w) + 16 ≤ sramBytes) ∧ (s.dev.loadBad t t ((s.dev.tile t).reg (iRs2 w)) 16 = false) ∧ (s.dev.loadBytes t t ((s.dev.tile t).reg (iRs2 w)) 16 = bs) ∧ (s.dev.handleOk (ofLE (bs.take 4)) (s.dev.tile t).burgee = true) :=
  ⟨at_ ((((let d0 : Dev := tileDev (insWord 0x71 0 1 2 0 0x0) (tileX 5 128); { d0 with red := { regions := [((0, 2), regE)] } }).setSram 3 (Mem.writeN ((tileDev (insWord 0x71 0 1 2 0 0x0) (tileX 5 128)).sramOf 3) 128 [2, 0, 1, 0, 0, 0, 0, 0, 0, 64, 1, 0, 0, 0, 0, 0])))), 3, (insWord 0x71 0 1 2 0 0x0), {}, [2, 0, 1, 0, 0, 0, 0, 0, 0, 64, 1, 0, 0, 0, 0, 0], by decide⟩

theorem witness_TileCollectiveInterface_tadv : ∃ (s : State) (t w : Nat) (bad : EccHits),
    (Fetches s.dev t 0x72 w bad) ∧ ((resvI w || iImm w = 0 || decide (255 < iImm w)) = false) ∧ ((s.dev.tile t).reg (iRs1 w) < 2 ^ 17) ∧ ((s.dev.trig ((s.dev.tile t).reg (iRs1 w))).state ≠ tgFree) ∧ ((s.dev.tile t).burgee = 0 ∨ (s.dev.tile t).burgee = (s.dev.trig ((s.dev.tile t).reg (iRs1 w))).burgee) :=
  ⟨at_ (((tileDev (insWord 0x72 0 1 0 0 0x3) (tileX 9 0)).setTrig 9 { state := tgArmed, thresh := 100 })), 3, (insWord 0x72 0 1 0 0 0x3), {}, by decide⟩

theorem witness_TileCollectiveInterface_twait : ∃ (s : State) (t w : Nat) (bad : EccHits),
    (Fetches s.dev t 0x73 w bad) ∧ (resvR w = false) ∧ ((s.dev.tile t).reg (iRs1 w) < 2 ^ 17) ∧ ((s.dev.trig ((s.dev.tile t).reg (iRs1 w))).state = tgDone) ∧ ((s.dev.trig ((s.dev.tile t).reg (iRs1 w))).rep = false) :=
  ⟨at_ (((tileDev (insWord 0x73 0 1 0 0 0x0) (tileX 9 0)).setTrig 9 { state := tgDone, thresh := 100 })), 3, (insWord 0x73 0 1 0 0 0x0), { corr := [(64, 3)] }, by decide⟩

theorem witness_TileCollectiveInterface_rxwait : ∃ (s : State) (t w : Nat) (bad : EccHits) (r : RxRing),
    (Fetches s.dev t 0x75 w bad) ∧ (resvR w = false) ∧ ((s.dev.tile t).reg (iRs1 w) < 2) ∧ ((s.dev.tile t).ring ((s.dev.tile t).reg (iRs1 w)) = r) ∧ (r.used ≠ 0) :=
  ⟨at_ ((tileDev (insWord 0x75 5 1 0 0 0x0) { tileX 1 0 with rx1 := { base := 4096, slot := 256, n := 4, head := 2, tail := 3, used := 1 } })), 3, (insWord 0x75 5 1 0 0 0x0), { corr := [(64, 3)] }, { base := 4096, slot := 256, n := 4, head := 2, tail := 3, used := 1 }, by decide⟩

theorem witness_TileCollectiveInterface_rxdone : ∃ (s : State) (t w : Nat) (bad : EccHits),
    (Fetches s.dev t 0x76 w bad) ∧ (resvR w = false) ∧ ((s.dev.tile t).reg (iRs1 w) < 2) ∧ ((s.dev.tile t).reg (iRs1 w) ≠ 0 ∨ s.dev.red.tokenWait.get (quadOfTile t) [] = []) :=
  ⟨at_ ((tileDev (insWord 0x76 0 1 0 0 0x0) { tileX 1 0 with rx1 := { base := 4096, slot := 256, n := 4, head := 2, tail := 3, used := 1 } })), 3, (insWord 0x76 0 1 0 0 0x0), { corr := [(64, 3)] }, by decide⟩

theorem witness_WaitingCommandsStayWellFormed : ∃ s s', Waiting s ∧ step s = .next s' ∧ s.pending ≠ [] :=
  ⟨{ dev := {}, pending := [.pwrfailDeasserted] }, _, by decide, rfl, by decide⟩

theorem witness_MemoriesStayCanonical : ∃ s s', Canonical s.dev ∧ step s = .next s' :=
  ⟨{ dev := {}, pending := [.pwrfailDeasserted] }, _, ⟨fun _ => rfl, fun _ => rfl⟩, rfl⟩

theorem witness_ResetRegisterValues : ∃ (f : Fld) (v : Nat), f.rst = .const v := ⟨R.NVS_CFG_FILL_TO, 10, rfl⟩

theorem witness_MemoryWritesReachTheirBytesAlone : ∃ (d : Dev) (u a : Nat) (bs : List Nat), Canonical d ∧
    (wordsOf a bs.length).filter (d.eccOf u).poison.contains = [] :=
  ⟨{}, 3, 8, [1, 2], ⟨fun _ => rfl, fun _ => rfl⟩, by decide⟩

theorem witness_TileExceptionsAreTaken_tileNop : ∃ (s : State) (t : Nat) (bad : EccHits),
    (s.dev.canIssue t = true) ∧ ((s.dev.tile t).pc % 8 ≠ 0) ∧ ((s.dev.tile t).active = false) ∧ ((s.dev.tile t).evec ≠ 0) ∧ ((s.dev.tile t).evec < 2 ^ 64) ∧ ((s.dev.tile t).buf = []) :=
  ⟨at_ ((tileDev 0 { tileX 0 0 with pc := 68, evec := 256 })), 3, {}, by decide⟩

theorem witness_TileExceptionsAreTaken_tileNop_2 : ∃ (s : State) (t w : Nat) (bad : EccHits),
    (s.dev.canIssue t = true) ∧ ((s.dev.tile t).pc % 8 = 0) ∧ ((s.dev.tile t).pc < sramBytes) ∧ (s.dev.poisonIn t (s.dev.tile t).pc 8 = none) ∧ (clean bad (s.dev.tile t).pc 8 = true) ∧ (ofLE ((s.dev.sramOf t).readN (s.dev.tile t).pc 8) = w) ∧ (opcListed (iOpc w) = false) ∧ ((s.dev.tile t).active = false) ∧ ((s.dev.tile t).evec ≠ 0) ∧ ((s.dev.tile t).evec < 2 ^ 64) ∧ ((s.dev.tile t).buf = []) :=
  ⟨at_ ((tileDev (insWord 0x0C 0 0 0 0 0) { tileX 0 0 with evec := 256 })), 3, insWord 0x0C 0 0 0 0 0, {}, by decide⟩

theorem witness_TileExceptionsAreTaken_tileNop_3 : ∃ (s : State) (t : Nat) (p : Nat),
    (s.dev.canIssue t = true) ∧ ((s.dev.tile t).pc % 8 = 0) ∧ ((s.dev.tile t).pc < sramBytes) ∧ (s.dev.poisonIn t (s.dev.tile t).pc 8 = some p) ∧ ((s.dev.tile t).active = false) ∧ ((s.dev.tile t).evec ≠ 0) ∧ ((s.dev.tile t).evec < 2 ^ 64) ∧ ((s.dev.tile t).buf = []) :=
  ⟨at_ ({ tileDev 0 { tileX 0 0 with evec := 256 } with ecc := [(3, { poison := [64] })] }), 3, 64, by decide⟩

theorem witness_TileExceptionsAreTaken_add : ∃ (s : State) (t w : Nat) (bad : EccHits),
    (Fetches s.dev t 0x01 w bad) ∧ (resvR w = true) ∧ ((s.dev.tile t).active = false) ∧ ((s.dev.tile t).evec ≠ 0) ∧ ((s.dev.tile t).evec < 2 ^ 64) ∧ ((s.dev.tile t).buf = []) :=
  ⟨at_ ((tileDev (insWord 0x01 5 1 2 0 0x1) { tileX 0 0 with evec := 256 })), 3, (insWord 0x01 5 1 2 0 0x1), { corr := [(64, 3)] }, by decide⟩

theorem witness_TileExceptionsAreTaken_ld : ∃ (s : State) (t w : Nat) (bad : EccHits),
    (Fetches s.dev t 0x18 w bad) ∧ (resvIFn (fun f => decide (f < 8)) w = false) ∧ (((s.dev.tile t).reg (iRs1 w) + (imm64 w).toNat) % 2 ^ 64 % accSize (iFn w) ≠ 0) ∧ ((s.dev.tile t).active = false) ∧ ((s.dev.tile t).evec ≠ 0) ∧ ((s.dev.tile t).evec < 2 ^ 64) ∧ ((s.dev.tile t).buf = []) :=
  ⟨at_ ((tileDev (insWord 0x18 5 1 0 3 0x4) { tileX 0 0 with evec := 256 })), 3, (insWord 0x18 5 1 0 3 0x4), { corr := [(64, 3)] }, by decide⟩

theorem witness_TileExceptionsAreTaken_wait : ∃ (s : State) (t w : Nat) (bad : EccHits),
    (Fetches s.dev t 0x29 w bad) ∧ (resvR w = false) ∧ ((s.dev.tile t).reg (iRs1 w) / 2 ^ 62 = 3) ∧ ((s.dev.tile t).active = false) ∧ ((s.dev.tile t).evec ≠ 0) ∧ ((s.dev.tile t).evec < 2 ^ 64) ∧ ((s.dev.tile t).buf = []) :=
  ⟨at_ ((tileDev (insWord 0x29 0 1 0 0 0x0) { tileX (3 * 2 ^ 62) 0 with evec := 256 })), 3, (insWord 0x29 0 1 0 0 0x0), { corr := [(64, 3)] }, by decide⟩

theorem witness_TileExceptionsAreTaken_csrr : ∃ (s : State) (t w : Nat) (bad : EccHits),
    (Fetches s.dev t 0x2D w bad) ∧ (resvI w = false) ∧ (s.dev.csr t (iImm w % 4096) = none) ∧ ((s.dev.tile t).active = false) ∧ ((s.dev.tile t).evec ≠ 0) ∧ ((s.dev.tile t).evec < 2 ^ 64) ∧ ((s.dev.tile t).buf = []) :=
  ⟨at_ ((tileDev (insWord 0x2D 5 0 0 0 0x100) { tileX 0 0 with evec := 256 })), 3, (insWord 0x2D 5 0 0 0 0x100), { corr := [(64, 3)] }, by decide⟩

theorem witness_TileExceptionsAreTaken_add_2 : ∃ (s : State) (t w : Nat) (bad : EccHits),
    (Fetches s.dev t 0x01 w bad) ∧ (resvR w = true) ∧ ((s.dev.tile t).evec = 0) ∧ ((s.dev.tile t).active = false) ∧ ((s.dev.tile t).quiet = false) :=
  ⟨at_ ((tileDev (insWord 0x01 5 1 2 0 0x1) { tileX 0 0 with queues := [[{ kind := .gpost, token := 1, descAt := 0, desc := [] }], [], []] })), 3, (insWord 0x01 5 1 2 0 0x1), { corr := [(64, 3)] }, by decide⟩

theorem witness_PermissionsOfChannels_commandTaken : ∃ (s : State) (ch op : Nat) (rest : List Nat) (k : CmdPkt) (q : List CmdPkt) (roles : Nat) (lay : List Nat),
    (s.dev.mgmt.thdDown = false) ∧ (s.dev.mgmt.journal.length < 256) ∧ (s.dev.accepts = true) ∧ (s.dev.nextTake = some (ch, rest)) ∧ ((s.dev.chan ch).inq = k :: q) ∧ (s.dev.job? s.dev.mgmt.nextAseq = none) ∧ (k.origin = .pcie) ∧ (bits (nth k.words 0) 31 24 = 0x11) ∧ (bits (nth k.words 0) 15 0 = op) ∧ (opInfo op (nth k.words 4) = some (roles, lay)) ∧ (bits (nth k.words 0) 23 21 = 0 ∧ bits (nth k.words 2) 21 0 = 0 ∧ nth k.words 3 = 0) ∧ (((List.range 28).any fun i => nth k.words (4 + i) &&& (fullW - nth lay i) != 0) = false) ∧ (s.dev.bootPhase ≠ bpFailed) ∧ (bitOf roles (s.dev.chRole ch) = false ∨ (s.dev.chRole ch = 1 ∧ (s.dev.chan ch).auth = false ∧ openOps.contains op = false) ∨
        (s.dev.chRole ch = 0 ∧ bits (nth k.words 2) 31 23 ≠ s.dev.chBurgee ch)) :=
  ⟨at_ ((ready.setChan 0 { inq := [⟨[0x11000001, 9, 2 ^ 23, 0], .pcie⟩] } |>.wr R.MBX_CTAB_A_ENTRY_A 0x80000000 0 0)), 0, 1, [], ⟨[0x11000001, 9, 2 ^ 23, 0], .pcie⟩, [], ((opInfo 1 0).getD (0, [])).1, ((opInfo 1 0).getD (0, [])).2, by decide +kernel⟩

theorem witness_Fp32RoundsToItself : ∃ w : Nat, w < 2 ^ 32 ∧ (of32 w).isNan = false ∧ (of32 w).isInf = false := ⟨0x80000001, by decide⟩

theorem witness_ScaleBytesArePowersOfTwo : ∃ (c e x : Nat) (n : Bool) (m : Nat) (k : Int), x ≤ 254 ∧ (fmtFp c).decode e = .fin n m k :=
  ⟨10, 3, 254, _, _, _, by decide, rfl⟩

theorem witness_ScaleBytesArePowersOfTwo_special : ∃ c e x : Nat, x ≤ 254 ∧ ((fmtFp c).decode e).special = true := ⟨8, 0x7F, 0, by decide⟩

theorem witness_MxElementsOfBlocks : ∃ k : Nat, k < 128 := ⟨127, by decide⟩

theorem witness_VectorReductions_vredsum : ∃ (s : State) (t w : Nat) (bad : EccHits), resvV [iRd w, iRs1 w] (· = 0) w = false ∧ iMaskEn w = false ∧
    (s.dev.tile t).v.length = 16 ∧ ((s.dev.tile t).vreg (iRs1 w)).length = 64 ∧
    (((s.dev.tile t).vreg (iRs1 w)).all (· < 2 ^ 32)) = true ∧ Fetches s.dev t 0x4D w bad :=
  ⟨at_ (tileDev (insWord 0x4D 2 0 0 0 0x0) ({ tileX 0x40000000 3 with v := List.replicate 64 0x3FC00000 :: List.replicate 64 0xC0200000 :: List.replicate 14 (List.replicate 64 7), m := [5, 6, 7, 8] })), 3, (insWord 0x4D 2 0 0 0 0x0), {}, by decide +kernel⟩

theorem witness_VectorReductions_vredmax : ∃ (s : State) (t w : Nat) (bad : EccHits), resvV [iRd w, iRs1 w] (· = 0) w = false ∧ iMaskEn w = false ∧
    (s.dev.tile t).v.length = 16 ∧ ((s.dev.tile t).vreg (iRs1 w)).length = 64 ∧
    (((s.dev.tile t).vreg (iRs1 w)).all (· < 2 ^ 32)) = true ∧ Fetches s.dev t 0x4E w bad :=
  ⟨at_ (tileDev (insWord 0x4E 2 0 0 0 0x0) ({ tileX 0x40000000 3 with v := List.replicate 64 0x3FC00000 :: List.replicate 64 0xC0200000 :: List.replicate 14 (List.replicate 64 7), m := [5, 6, 7, 8] })), 3, (insWord 0x4E 2 0 0 0 0x0), {}, by decide +kernel⟩

/-! ### Ill-formed and well-formed commands -/

theorem test_ill_formed_0 : ([.descriptorEntry 0 ⟨544, 0, 4096, false⟩,
    .descriptorEntry 0 ⟨3, 8, 4096, false⟩,
    .schedulerPacketStart 517,
    .pennantSlot (512),
    .ageingTick 517 0,
    .ageingTick 0 (8),
    .flushRecordRoom 517 0,
    .flushRecordRoom 0 (8),
    .failureRecordIssue (4),
    .meshSublinkFail (6) 0,
    .meshSublinkFail 0 (16),
    .meshLinkFail (6),
    .shaperRefill (512) 0,
    .shaperRefill 0 (8),
    .dataFlitReceived 0 { vc := 8 },
    .dataFlitReceived 0 { seq := 65536 },
    .dataFlitReceived 0 { ack := 65536 },
    .dataFlitReceived 0 { crVc := 8 },
    .dataFlitReceived 0 { crCum := 65536 },
    .dataFlitReceived 0 { pkt := some { pclass := 3 } },
    .dataFlitReceived 0 { pkt := some { burgee := 512 } },
    .dataFlitReceived 0 { pkt := some { hoplim := 64 } },
    .dataFlitReceived 0 { pkt := some { dst := 2 ^ 20 } },
    .dataFlitReceived 0 { pkt := some { entropy := 4096 } },
    .dataFlitReceived 0 { pkt := some { src := 2 ^ 20 } }] : List Instr).any wfInstr = false := by decide +kernel

theorem test_ill_formed_1 : ([.dataFlitReceived 0 { pkt := some { tag := 2 ^ 32 } },
    .dataFlitReceived 0 { pkt := some { typ := 16 } },
    .dataFlitReceived 0 { pkt := some { opcode := 256 } },
    .dataFlitReceived 0 { pkt := some { len := 256 } },
    .dataFlitReceived 0 { pkt := some { arg5 := 2 ^ 32 } },
    .dataFlitReceived 0 { pkt := some { arg6 := 2 ^ 32 } },
    .dataFlitReceived 0 { pkt := some { arg7 := 2 ^ 32 } },
    .dataFlitReceived 0 { pkt := some { fmt := 64 } },
    .dataFlitReceived 0 { pkt := some { epoch := 256 } },
    .dataFlitReceived 0 { pkt := some { collId := 2 ^ 32 } },
    .dataFlitReceived 0 { pkt := some { contrib := 2 ^ 18 } },
    .dataFlitReceived 0 { pkt := some { offset := 2 ^ 64 } },
    .dataFlitReceived 0 { pkt := some { region := 2 ^ 32 } },
    .dataFlitReceived 0 { pkt := some { trigger := 2 ^ 17 } },
    .dataFlitReceived 0 { pkt := some { payload := [256] } },
    .dataFlitReceived 0 { pkt := some { pclass := 2, len := 8192 } },
    .dataFlitReceived (512) {},
    .failedFlit (512),
    .reservedFlitKind (512) 0,
    .reservedFlitKind 0 (256),
    .lcfReceived 0 { cum := [0, 0, 0, 0, 0, 0, 0, 0], nakSeq := 65536 },
    .lcfReceived 0 { cum := [0, 0, 0, 0, 0, 0, 0, 0], ack := 65536 },
    .lcfReceived 0 { cum := [0] },
    .lcfReceived 0 { cum := [0, 0, 0, 0, 0, 0, 0, 65536] },
    .lcfReceived (512) { cum := [0, 0, 0, 0, 0, 0, 0, 0] }] : List Instr).any wfInstr = false := by decide +kernel

theorem test_ill_formed_2 : ([.negFlitReceived 0 { initCr := [0, 0, 0, 0, 0, 0, 0, 0], maxv := 256 },
    .negFlitReceived 0 { initCr := [0, 0, 0, 0, 0, 0, 0, 0], minv := 256 },
    .negFlitReceived 0 { initCr := [0, 0, 0, 0, 0, 0, 0, 0], nstep := 16 },
    .negFlitReceived 0 { initCr := [0, 0, 0, 0, 0, 0, 0, 0], nseq := 65536 },
    .negFlitReceived 0 { initCr := [0, 0, 0, 0, 0, 0, 0, 0], eseq := 65536 },
    .negFlitReceived 0 { initCr := [0, 0, 0, 0, 0, 0, 0, 0], srcDev := 2 ^ 32 },
    .negFlitReceived 0 { initCr := [0, 0, 0, 0, 0, 0, 0, 0], repoch := 256 },
    .negFlitReceived 0 { initCr := [0] },
    .negFlitReceived (512) { initCr := [0, 0, 0, 0, 0, 0, 0, 0] },
    .linkAuthReceived (512) 0 0 true,
    .linkAuthReceived 0 (65536) 0 true,
    .linkAuthReceived 0 0 (64) true,
    .ackHoldExpiry (512),
    .lcfPeriodic (512),
    .creditReportDue (512) 0,
    .creditReportDue 0 (8),
    .nakHoldoffExpiry (512),
    .replayTimeout (512),
    .negFlitTimer (512),
    .confirmTimeout (512),
    .resyncTimeout (512),
    .timeWordTimer (512),
    .pauseExpiry (512),
    .transmitBlockSlot (512),
    .laserLow (32) 0] : List Instr).any wfInstr = false := by decide +kernel

theorem test_ill_formed_3 : ([.laserLow 0 (2),
    .laserInputRestored (32) 0 0,
    .laserInputRestored 0 (2) 0,
    .laserInputRestored 0 0 (256),
    .codewordReceived (1024) 0 1,
    .codewordReceived 0 (545) 1,
    .codewordReceived 0 0 0,
    .codewordReceived 0 0 (5),
    .blockReceived (1024) 0,
    .blockReceived 0 (256),
    .markerWordReceived 0 { phyVer := 16 },
    .markerWordReceived 0 { state := 16 },
    .markerWordReceived 0 { width := 4 },
    .markerWordReceived 0 { pos := 8 },
    .markerWordReceived 0 { srcLane := 32 },
    .markerWordReceived 0 { srcOe := 32 },
    .markerWordReceived 0 { srcDev := 2 ^ 32 },
    .markerWordReceived 0 { activeNext := 256 },
    .markerWordReceived 0 { activeNow := 256 },
    .markerWordReceived 0 { margin := 256 },
    .markerWordReceived 0 { txReq := 2 ^ 16 },
    .markerWordReceived 0 { txAck := 2 ^ 16 },
    .markerWordReceived 0 { sfCount := 2 ^ 32 },
    .markerWordReceived (1024) {},
    .superframeBoundary (512)] : List Instr).any wfInstr = false := by decide +kernel

theorem test_ill_formed_4 : ([.laneBringupStart (1024),
    .laneRingLock (1024),
    .laneLightDetected (1024),
    .laneCdrLock (1024),
    .laneFrameLock (1024) true,
    .laneEqTrained (1024),
    .laneQualified (1024) 0 0,
    .laneIdentityCheck (512),
    .laneAligned (512) 0,
    .portUp (512),
    .portUpTimer (512),
    .laneStepTimeout (1024),
    .laneRetryTimer (1024),
    .gainRangeChange (1024) 0,
    .gainRangeChange 0 (4),
    .marginMonitorWindow (1024),
    .laneRetrainComplete (1024) true,
    .laneLossOfLight (1024),
    .laneFrameSyncLoss (1024),
    .laneUncorrectableBurst (1024),
    .ringLockLost (1024),
    .lightInStandby (1024),
    .wakeTimeout (1024),
    .routeNoticeRepeat (512),
    .restoreHoldExpiry (512)] : List Instr).any wfInstr = false := by decide +kernel

theorem test_ill_formed_5 : ([.routeRestoreRepeat (512),
    .queueSampleTimer (4),
    .hoistReleaseTime (1024),
    .hoistDeadline (1024),
    .cutOff (1024),
    .unitReadComplete 0 0 (4) true,
    .eraseComplete (64) 0 true,
    .targetTimeout (64),
    .retentionScan (64) 0 0 0 true,
    .retentionScan 0 0 0 (4) true,
    .blockRefreshComplete (64) 0,
    .streamerLanding 0 (64),
    .landingComplete 0 (64),
    .dispatchTokenReceived 0 (64),
    .tokenSlotAvailable (4),
    .gateRecordTaken (4),
    .gateTimeout (4) 0,
    .gateTimeout 0 (4096),
    .packetArrival (512),
    .resultArrival (512),
    .holderRelease 0 ⟨544, 0, 4096, false⟩ (.pool 0 0 []),
    .holderRelease 0 ⟨3, 8, 4096, false⟩ (.pool 0 0 []),
    .watchdog (64),
    .engineHang (64),
    .seqHang (4)] : List Instr).any wfInstr = false := by decide +kernel

theorem test_ill_formed_6 : ([.dispatchHang (4),
    .resetRelease (7) 0,
    .resetHung (7) 0,
    .halyardBlockReceived 0 (List.replicate 16 {}) true true,
    .halyardBlockReceived 0 [{ htype := 256 }] true true,
    .halyardBlockReceived 0 [{ hseq := 256 }] true true,
    .halyardBlockReceived 0 [{ b1 := 256 }] true true,
    .halyardBlockReceived 0 [{ b0 := 256 }] true true,
    .halyardBlockReceived 0 [{ w1 := 2 ^ 32 }] true true,
    .halyardBlockReceived 0 [{ w2 := 2 ^ 32 }] true true,
    .halyardBlockReceived 0 [{ w3 := 2 ^ 32 }] true true,
    .halyardBlockReceived (512) [] true true,
    .blockInjection (64) 0 {},
    .blockInjection 0 1 {},
    .asyncInstructionComplete (64) 0 {},
    .asyncInstructionComplete 0 (3) {},
    .storePerformed (64) 0,
    .storePerformed 0 (16),
    .tileNop (64) {},
    .add (64) {},
    .sub (64) {},
    .mul (64) {},
    .and (64) {},
    .or (64) {},
    .xor (64) {}] : List Instr).any wfInstr = false := by decide +kernel

theorem test_ill_formed_7 : ([.shl (64) {},
    .shr (64) {},
    .sra (64) {},
    .slt (64) {},
    .sltu (64) {},
    .addi (64) {},
    .andi (64) {},
    .ori (64) {},
    .xori (64) {},
    .shli (64) {},
    .shri (64) {},
    .srai (64) {},
    .lui (64) {},
    .ld (64) {},
    .st (64) {},
    .amo (64) {},
    .br (64) {},
    .jal (64) {},
    .jalr (64) {},
    .fenceLd (64) {},
    .fenceSt (64) {},
    .fenceSc (64) {},
    .fenceTn (64) {},
    .wait (64) {},
    .halt (64) {}] : List Instr).any wfInstr = false := by decide +kernel

theorem test_ill_formed_8 : ([.trap (64) {},
    .rete (64) {},
    .csrr (64) {},
    .csrw (64) {},
    .vld (64) {},
    .vst (64) {},
    .vadd (64) {},
    .vsub (64) {},
    .vmul (64) {},
    .vfma (64) {},
    .vmax (64) {},
    .vmin (64) {},
    .vdiv (64) {},
    .vsqrt (64) {},
    .vcmp (64) {},
    .vsel (64) {},
    .vbcast (64) {},
    .vredsum (64) {},
    .vredmax (64) {},
    .vextr (64) {},
    .vexp2 (64) {},
    .vlog2 (64) {},
    .vrcp (64) {},
    .vrsqrt (64) {},
    .vtanh (64) {}] : List Instr).any wfInstr = false := by decide +kernel

theorem test_ill_formed_9 : ([.vsigm (64) {},
    .vrng (64) {},
    .mma (64) {},
    .mmaC (64) {},
    .xfer (64) {},
    .cinj (64) {},
    .cbind (64) {},
    .tadv (64) {},
    .twait (64) {},
    .gpost (64) {},
    .rxwait (64) {},
    .rxdone (64) {},
    .cfgCommit 0 [{ prof := { en := 16 } }] true,
    .cfgCommit 0 [{ prof := { alpha := 8 } }] true,
    .cfgCommit 0 [{ prof := { cells := [] } }] true,
    .cfgCommit 0 [{ prof := { entries := [((512, 0), 0)] } }] true,
    .cfgCommit 0 [{ route := { epoch := 256 } }] true,
    .cfgCommit 0 [{ route := { prev := 256 } }] true,
    .cfgCommit 0 [{ route := { hoist := 2 ^ 32 } }] true,
    .cfgCommit 0 [{ route := { bank := { windows := List.replicate 33 {} } } }] true,
    .cfgCommit 0 [{ burgees := [(512, {})] }] true,
    .cfgCommit 0 [{ allow := [(512, [])] }] true,
    .cfgCommit 0 [{ keys := [(65536, {})] }] true,
    .cfgCommit 0 [{ holders := [(32768, {})] }] true,
    .cfgCommit 0 [{ hoists := [(1024, {})] }] true] : List Instr).any wfInstr = false := by decide +kernel

theorem test_ill_formed_10 : ([.cfgCommit 0 [{ groups := [(256, {})] }] true,
    .cfgCommit 0 [{ experts := [(4096, {})] }] true,
    .cfgCommit 0 [{ scheds := [(65536, {})] }] true,
    .quadrantRelayDrained (4),
    .railRampSettled [0],
    .railRampSettled [0, 0, 0, 256],
    .regulation (4),
    .qmarginWindow (4) 0,
    .qmarginWindow 0 (1024),
    .belowLinePennantRepeat (4),
    .qmarginBelowSeenClear (4),
    .junctionTemperatureChange 0 (128),
    .domainOnComplete (112),
    .domainOffComplete (112),
    .lmodFltChange (16) true,
    .lmodEnOffDelay (16),
    .sramEccResetTimer (64),
    .sramScrubPeriod (64) {},
    .marchTestComplete (64) [] true [],
    .marchTestComplete 0 [196608] true [],
    .hbmUncorrectable (4) 0 .none,
    .hbmUncorrectable 0 (0xC00000000) .none,
    .hbmPatrolScrub (4) [] [] 0,
    .hbmPatrolScrub 0 [0xC00000000] [] 0,
    .hbmPatrolScrub 0 [] [0xC00000000] 0] : List Instr).any wfInstr = false := by decide +kernel

theorem test_ill_formed_11 : ([.hbmRefreshDue (4),
    .hbmTempCheck (4) 0,
    .hbmTempCheck 0 (256),
    .hbmChannelRetrainDone (4) true,
    .hbmChannelRetrainNext (4),
    .hbmRetrainRetry (4),
    .modelFetchComplete (256) true,
    .modelLoadSectionsWritten (256),
    .modelSwapStepDrained (256),
    .modelMoveStubExpiry (256),
    .serveStoreOpComplete (256) 0,
    .serveStoreOpComplete 0 (4096),
    .modelStep 0 0 [{ sess := 4096 }],
    .modelStep 0 0 [{ sess := 0, logits := [[2 ^ 32]] }],
    .modelStep 0 0 [{ sess := 0, kv := [[256]] }],
    .modelStep (256) 0 [],
    .modelStep 0 (2 ^ 32) [],
    .mbxSendDmwr (65) 0 0 [],
    .mbxSendDmwr 0 (128) 0 [],
    .mbxSendDmwr 0 0 (128) [],
    .mbxSendDmwr 0 0 0 (List.replicate 1025 0),
    .mbxSendDmwr 0 0 0 [2 ^ 32],
    .mbxDoorbellWrite (65) 0 true,
    .mbxDoorbellWrite 0 (128) true,
    .mbxCplHeadWrite (65) 0 0] : List Instr).any wfInstr = false := by decide +kernel

theorem test_ill_formed_12 : ([.mbxCplHeadWrite 0 (128) 0,
    .mbxCplHeadWrite 0 0 (64),
    .mbxEmptyArmWrite (65) 0,
    .mbxEmptyArmWrite 0 (128),
    .mctpCommandMessage 3 0 0 [],
    .mctpCommandMessage 1 (256) 0 [],
    .mctpCommandMessage 1 0 (8) [],
    .mctpCommandMessage 1 0 0 [2 ^ 32],
    .hostTransferComplete 0 true [256],
    .functionLevelReset (65),
    .d3hotEntry (65),
    .channelRebindEffective (128),
    .snapshotTime (4),
    .fwStage 0 ⟨true, true, true, 256, 0⟩,
    .fwStage 0 ⟨true, true, true, 0, 2 ^ 32⟩,
    .spdmMessageReceived (.vc7 0) { code := 256, secured := true },
    .spdmMessageReceived (.vc7 0) { code := 0, secured := true, att := some ⟨true, true, true, none, true, [], [], true⟩ },
    .attestationTimeout (512),
    .attestationRetry (512),
    .pldmMessage 1 0 0 (.base 256),
    .pldmMessage 1 0 0 (.getPdr (2 ^ 32)),
    .pldmMessage 1 0 0 (.setEventReceiver 256),
    .pldmMessage 1 0 0 (.sensor 65536),
    .pldmMessage 1 0 0 (.firmwareData (2 ^ 32) [] none),
    .pldmMessage 1 0 0 (.firmwareData 0 [256] none)] : List Instr).any wfInstr = false := by decide +kernel

theorem test_ill_formed_13 : ([.pldmMessage 1 0 0 (.firmwareData 0 [] (some ⟨true, true, true, 256, 0⟩)),
    .pldmMessage 3 0 0 .requestUpdate,
    .pldmMessage 1 (256) 0 .requestUpdate,
    .pldmMessage 1 0 (8) .requestUpdate,
    .mctpControlMessage 1 0 0 (.setEid 256),
    .mctpControlMessage 1 0 0 (.other 256),
    .mctpControlMessage 3 0 0 .getEid,
    .mctpControlMessage 1 (256) 0 .getEid,
    .mctpControlMessage 1 0 (8) .getEid,
    .nvsDiscoveryComplete [⟨64, true, 0, 0, 0⟩],
    .nvsDiscoveryComplete [⟨0, true, 2 ^ 64, 0, 0⟩],
    .nvsDiscoveryComplete [⟨0, true, 0, 2 ^ 32, 0⟩],
    .nvsDiscoveryComplete [⟨0, true, 0, 0, 2 ^ 32⟩],
    .nvsDiscoveryComplete (List.replicate 65 ⟨0, true, 0, 0, 0⟩),
    .hbmTrainingComplete (4),
    .hbmMemtestComplete (4) [] [] [] [],
    .hbmMemtestComplete 0 [2 ^ 25] [] [] [],
    .hbmMemtestComplete 0 [] [2 ^ 25] [] [],
    .hbmMemtestComplete 0 [] [] [2 ^ 25] [],
    .hbmMemtestComplete 0 [] [] [] [2 ^ 25],
    .katComplete (32) 0 true,
    .katComplete 0 (64) true,
    .railUndervoltage (29),
    .railInRange (29),
    .refclkLoss (3)] : List Instr).any wfInstr = false := by decide +kernel

theorem test_ill_formed_14 : ([.refclkReturn 1,
    .oeLctlRetrainWrite (1024),
    .hbmCtlRetrainWrite (4),
    .tileErrUnhandledClear (64),
    .tileErrResetSeenClear (64),
    .registerWrite (64 + 1) 0 0 true 0 0,
    .registerWrite 0 (2 ^ 26) 0 true 0 0,
    .registerWrite 0 0x3FFFFFF 4 true 0 0,
    .registerWrite 0 0 0 true (2 ^ 32) 0,
    .registerWrite 0 0 0 true 0 (2 ^ 32)] : List Instr).any wfInstr = false := by decide +kernel

theorem test_well_formed_0 : ([.descriptorEntry 0 ⟨3, 0, 4096, false⟩,
    .schedulerPacketStart 0,
    .pennantSlot 0,
    .ageingTick 0 0,
    .flushRecordRoom 0 0,
    .failureRecordIssue 0,
    .meshSublinkFail 0 0,
    .meshLinkFail 0,
    .shaperRefill 0 0,
    .dataFlitReceived 0 {},
    .failedFlit 0,
    .reservedFlitKind 0 0,
    .lcfReceived 0 { cum := [0, 0, 0, 0, 0, 0, 0, 0] },
    .negFlitReceived 0 { initCr := [0, 0, 0, 0, 0, 0, 0, 0] },
    .linkAuthReceived 0 0 0 true,
    .ackHoldExpiry 0,
    .lcfPeriodic 0,
    .creditReportDue 0 0,
    .nakHoldoffExpiry 0,
    .replayTimeout 0,
    .negFlitTimer 0,
    .confirmTimeout 0,
    .resyncTimeout 0,
    .timeWordTimer 0,
    .pauseExpiry 0,
    .transmitBlockSlot 0,
    .laserLow 0 0,
    .laserInputRestored 0 0 0,
    .codewordReceived 0 0 1,
    .blockReceived 0 0,
    .markerWordReceived 0 {},
    .superframeBoundary 0,
    .laneBringupStart 0,
    .laneRingLock 0,
    .laneLightDetected 0,
    .laneCdrLock 0,
    .laneFrameLock 0 true,
    .laneEqTrained 0,
    .laneQualified 0 0 0,
    .laneIdentityCheck 0] : List Instr).all wfInstr = true := by decide

theorem test_well_formed_1 : ([.laneAligned 0 0,
    .portUp 0,
    .portUpTimer 0,
    .laneStepTimeout 0,
    .laneRetryTimer 0,
    .gainRangeChange 0 0,
    .marginMonitorWindow 0,
    .laneRetrainComplete 0 true,
    .laneLossOfLight 0,
    .laneFrameSyncLoss 0,
    .laneUncorrectableBurst 0,
    .ringLockLost 0,
    .lightInStandby 0,
    .wakeTimeout 0,
    .routeNoticeRepeat 0,
    .restoreHoldExpiry 0,
    .routeRestoreRepeat 0,
    .queueSampleTimer 0,
    .hoistReleaseTime 0,
    .hoistDeadline 0,
    .cutOff 0,
    .unitReadComplete 0 0 0 true,
    .eraseComplete 0 0 true,
    .targetTimeout 0,
    .retentionScan 0 0 0 0 true,
    .blockRefreshComplete 0 0,
    .streamerLanding 0 0,
    .landingComplete 0 0,
    .dispatchTokenReceived 0 0,
    .tokenSlotAvailable 0,
    .gateRecordTaken 0,
    .gateTimeout 0 0,
    .packetArrival 0,
    .resultArrival 0,
    .holderRelease 0 ⟨3, 0, 4096, false⟩ (.pool 0 0 []),
    .watchdog 0,
    .engineHang 0,
    .seqHang 0,
    .dispatchHang 0,
    .resetRelease 0 0] : List Instr).all wfInstr = true := by decide

theorem test_well_formed_2 : ([.resetHung 0 0,
    .halyardBlockReceived 0 [] true true,
    .blockInjection 0 0 {},
    .asyncInstructionComplete 0 0 {},
    .storePerformed 0 0,
    .tileNop 0 {},
    .add 0 {},
    .sub 0 {},
    .mul 0 {},
    .and 0 {},
    .or 0 {},
    .xor 0 {},
    .shl 0 {},
    .shr 0 {},
    .sra 0 {},
    .slt 0 {},
    .sltu 0 {},
    .addi 0 {},
    .andi 0 {},
    .ori 0 {},
    .xori 0 {},
    .shli 0 {},
    .shri 0 {},
    .srai 0 {},
    .lui 0 {},
    .ld 0 {},
    .st 0 {},
    .amo 0 {},
    .br 0 {},
    .jal 0 {},
    .jalr 0 {},
    .fenceLd 0 {},
    .fenceSt 0 {},
    .fenceSc 0 {},
    .fenceTn 0 {},
    .wait 0 {},
    .halt 0 {},
    .trap 0 {},
    .rete 0 {},
    .csrr 0 {}] : List Instr).all wfInstr = true := by decide

theorem test_well_formed_3 : ([.csrw 0 {},
    .vld 0 {},
    .vst 0 {},
    .vadd 0 {},
    .vsub 0 {},
    .vmul 0 {},
    .vfma 0 {},
    .vmax 0 {},
    .vmin 0 {},
    .vdiv 0 {},
    .vsqrt 0 {},
    .vcmp 0 {},
    .vsel 0 {},
    .vbcast 0 {},
    .vredsum 0 {},
    .vredmax 0 {},
    .vextr 0 {},
    .vexp2 0 {},
    .vlog2 0 {},
    .vrcp 0 {},
    .vrsqrt 0 {},
    .vtanh 0 {},
    .vsigm 0 {},
    .vrng 0 {},
    .mma 0 {},
    .mmaC 0 {},
    .xfer 0 {},
    .cinj 0 {},
    .cbind 0 {},
    .tadv 0 {},
    .twait 0 {},
    .gpost 0 {},
    .rxwait 0 {},
    .rxdone 0 {},
    .cfgCommit 0 [] true,
    .quadrantRelayDrained 0,
    .railRampSettled [0, 0, 0, 0],
    .regulation 0,
    .qmarginWindow 0 0,
    .belowLinePennantRepeat 0] : List Instr).all wfInstr = true := by decide

theorem test_well_formed_4 : ([.qmarginBelowSeenClear 0,
    .junctionTemperatureChange 0 0,
    .domainOnComplete 0,
    .domainOffComplete 0,
    .lmodFltChange 0 true,
    .lmodEnOffDelay 0,
    .sramEccResetTimer 0,
    .sramScrubPeriod 0 {},
    .marchTestComplete 0 [] true [],
    .hbmUncorrectable 0 0 .none,
    .hbmPatrolScrub 0 [] [] 0,
    .hbmRefreshDue 0,
    .hbmTempCheck 0 0,
    .hbmChannelRetrainDone 0 true,
    .hbmChannelRetrainNext 0,
    .hbmRetrainRetry 0,
    .modelFetchComplete 0 true,
    .modelLoadSectionsWritten 0,
    .modelSwapStepDrained 0,
    .modelMoveStubExpiry 0,
    .serveStoreOpComplete 0 0,
    .modelStep 0 0 [],
    .mbxSendDmwr 0 0 0 [],
    .mbxDoorbellWrite 0 0 true,
    .mbxCplHeadWrite 0 0 0,
    .mbxEmptyArmWrite 0 0,
    .mctpCommandMessage 1 0 0 [],
    .hostTransferComplete 0 true [],
    .functionLevelReset 0,
    .d3hotEntry 0,
    .channelRebindEffective 0,
    .snapshotTime 0,
    .fwStage 0 ⟨true, true, true, 0, 0⟩,
    .spdmMessageReceived (.vc7 0) { code := 0, secured := true },
    .attestationTimeout 0,
    .attestationRetry 0,
    .pldmMessage 1 0 0 .requestUpdate,
    .mctpControlMessage 1 0 0 .getEid,
    .nvsDiscoveryComplete [],
    .hbmTrainingComplete 0] : List Instr).all wfInstr = true := by decide

theorem test_well_formed_5 : ([.hbmMemtestComplete 0 [] [] [] [],
    .katComplete 0 0 true,
    .railUndervoltage 0,
    .railInRange 0,
    .refclkLoss 0,
    .refclkReturn 0,
    .oeLctlRetrainWrite 0,
    .hbmCtlRetrainWrite 0,
    .tileErrUnhandledClear 0,
    .tileErrResetSeenClear 0,
    .registerWrite 0 0 0 true 0 0] : List Instr).all wfInstr = true := by decide

/-! ### Single operations against values from outside the model -/

/-- RFC 3720, B.4: 32 bytes of zeros. -/
theorem test_crc32c_zeros : crc32c (List.replicate 32 0) = 0x8A9136AA := by decide +kernel

/-- FIPS 180-4's example: the first word of SHA-384 of "abc". -/
theorem test_sha384_abc : nth (sha384 [0x61, 0x62, 0x63]) 0 = 0xCB00753F := by decide +kernel

/-- spec/08, R227: an E2M1 quotient of 7.5 saturates to 6 under both OVF settings. -/
theorem test_e2m1_saturates : ((fmtFp 12).round (.fin false 15 (-1)) false, (fmtFp 12).round (.fin false 15 (-1)) true)
    = ((7, true), (7, true)) := by decide +kernel

/-- spec/08, R213: 2^(x − 127). -/
theorem test_scale_byte : mxVal 12 130 2 = .fin false 1 3 ∨ (mxVal 12 130 2).atUnit 0 = 8 := by decide +kernel

/-- spec/05, R143: pair 4 is Q1 and Q3. -/
theorem test_mesh_pair : meshPair 3 1 = 4 ∧ pairQuads 4 = (1, 3) := by decide

/-- spec/00, R104: serial distance across the wrap. -/
theorem test_serial_wrap : serialDiff 65536 2 65535 = 3 ∧ serialDiff 65536 65535 2 = -3 := by decide

/-- spec/22, R581 to R583: registers where the windows put them. -/
theorem test_register_map : (pfReg 0x2C).map (fun x => x.1.name) = some "HUB.ERR"
    ∧ (pfReg 0x1120080).isNone = true ∧ (pfReg 0x3400004).map (fun x => x.1.name) = some "NVS.CFG"
    ∧ (pfReg 0x84104C).map (fun x => (x.1.name, x.2)) = some ("OE.LCTL", 1, 1) := by decide +kernel

/-- spec/11, R304: ADD wraps, and its destination may be its source. -/
theorem test_add_wraps :
    ((insAdd 3 {} (tileDev (insWord 1 1 1 2 0 0) (tileX 0xFFFFFFFFFFFFFFFF 3))).tile 3).gv 1 = 2 := by decide +kernel

/-- spec/11, R297: a write to g0 is discarded. -/
theorem test_g0_stays_zero :
    ((insAdd 3 {} (tileDev (insWord 1 0 1 2 0 0) (tileX 1 3))).tile 3).reg 0 = 0 := by decide +kernel

/-- spec/11, R304: SRA keeps the sign, and shifts by g[rs2] mod 64. -/
theorem test_sra_sign :
    ((insSra 3 {} (tileDev (insWord 9 5 1 2 0 0) (tileX 0x8000000000000000 67))).tile 3).gv 5
      = 0xF000000000000000 := by decide +kernel

/-- spec/11, R305: a branch back by IMM × 8 from its own address. -/
theorem test_branch_back :
    ((insBr 3 {} (tileDev (insWord 0x20 0 1 2 1 0xFFFFFFFF) (tileX 1 3))).tile 3).pc = 56 := by decide +kernel

/-- An empty queue: time alone passes. -/
theorem test_idle : step (at_ { now := 4 }) = .next (at_ { now := 5 }) := rfl

/-- The front command is taken, and the rest stays. -/
theorem test_front : (match step { dev := {}, pending := [.pwrfailDeasserted, .perst] } with
    | .next t => t.pending
    | _ => []) = [.perst] := by decide +kernel

end Sys2Proof.Tests
end

section
/-! PROOF. REGISTER_WRITE (spec/22, R581 to R590; spec/00, R9): what a written word leaves in a register that only
stores, and what the accesses that reach no register leave in HUB.ERR. -/

namespace Sys2Proof.Machine

/-! ### From a command to its effect on the device -/

/-- A command whose meaning is `f` leaves the device as `f` does, but for the messages that follow a step. -/
theorem Does.of_act {c : Instr} {f : Dev → Dev} {s : State} {P : Dev → Prop} (hc : exec c s = act f s)
    (hP : P (s.dev.platform (f s.dev))) : Does c s P := ⟨_, hc, rfl, hP⟩

@[simp] theorem Dev.platform_regs (b d : Dev) : (b.platform d).regs = d.regs := by
  obtain ⟨o, ho⟩ := b.platform_frame d
  rw [ho]

@[simp] theorem Dev.platform_mgmt (b d : Dev) : (b.platform d).mgmt = d.mgmt := by
  obtain ⟨o, ho⟩ := b.platform_frame d
  rw [ho]

@[simp] theorem Dev.rd_platform (b d : Dev) (f : Fld) (i k : Nat) : (b.platform d).rd f i k = d.rd f i k :=
  Dev.rd_congr (b.platform_regs d) f i k

@[simp] theorem Dev.rdBit_platform (b d : Dev) (f : Fld) (n i k : Nat) :
    (b.platform d).rdBit f n i k = d.rdBit f n i k := by simp [Dev.rdBit]

/-! ### HUB.ERR and HUB.ERRADDR (R584 to R586) -/

theorem Dev.rd_set_self (d : Dev) {f : Fld} (hw : f.w = 1) (i k : Nat) : (d.set f i k).rd f i k = 1 := by
  simp [Dev.set, hw]

theorem Dev.rd_set_other (d : Dev) {f g : Fld} (h : f.id ≠ g.id) (i k j l : Nat) :
    (d.set f i k).rd g j l = d.rd g j l := Dev.rd_wr_other d h ..

theorem Dev.rd_clr_other (d : Dev) {f g : Fld} (h : f.id ≠ g.id) (i k j l : Nat) :
    (d.clr f i k).rd g j l = d.rd g j l := Dev.rd_wr_other d h ..

theorem Dev.rd_barErr_self (d : Dev) {f : Fld} (hw : f.w = 1) (o : Nat) : (d.barErr f o).rd f = 1 :=
  Dev.rd_set_self _ hw 0 0

theorem Dev.rd_barErr_valid (d : Dev) {f : Fld} (hf : f.id ≠ R.HUB_ERRADDR_VALID.id) (o : Nat) :
    (d.barErr f o).rd R.HUB_ERRADDR_VALID = 1 := by
  unfold Dev.barErr
  rw [Dev.rd_set_other _ hf]
  split
  · simpa [Dev.on] using ‹d.on _ = true›
  · exact Dev.rd_set_self _ rfl 0 0

/-- HUB.ERRADDR takes the address of the first error (R585). -/
theorem Dev.rd_barErr_offset (d : Dev) {f : Fld} (hf : f.id ≠ R.HUB_ERRADDR_OFFSET.id)
    (hv : d.on R.HUB_ERRADDR_VALID = false) (o : Nat) :
    (d.barErr f o).rd R.HUB_ERRADDR_OFFSET = o % 2 ^ 26 := by
  unfold Dev.barErr
  simp only [hv, Bool.false_eq_true, if_false]
  rw [Dev.rd_set_other _ hf, Dev.rd_set_other _ (by decide), Dev.rd_wr_self]
  rfl

/-! ### A field written under its access code (R9) -/

theorem Dev.rd_writeFld_other (d : Dev) {f g : Fld} (h : f.id ≠ g.id) (v i k j l : Nat) (b : Bool) :
    (d.writeFld f v i k b).rd g j l = d.rd g j l := by
  unfold Dev.writeFld
  cases f.acc
  case rwl => cases b <;> simp [Dev.rd_wr_other _ h]
  all_goals simp [Dev.rd_wr_other _ h]

/-- A locked RWL field keeps its value; any other takes the value of its access code. -/
theorem Dev.rd_writeFld_self (d : Dev) (f : Fld) (v i k : Nat) (b : Bool) :
    (d.writeFld f v i k b).rd f i k =
      if b = true ∧ f.acc = .rwl then d.rd f i k else written f (d.rd f i k) v := by
  unfold Dev.writeFld written
  cases h : f.acc
  case rwl => cases b <;> simp
  all_goals simp

theorem Dev.rd_each_writeFld_other (d : Dev) {l : List Fld} {g : Fld} (h : g.id ∉ l.map Fld.id) (v : Fld → Nat)
    (i k j m : Nat) (b : Bool) :
    (d.each l fun d f => d.writeFld f (v f) i k b).rd g j m = d.rd g j m := by
  induction l generalizing d with
  | nil => rfl
  | cons f l ih =>
    simp only [List.map_cons, List.mem_cons, not_or] at h
    obtain ⟨hf, hl⟩ := h
    exact (ih _ hl).trans (d.rd_writeFld_other (Ne.symm hf) ..)

/-- Fields of different numbers are written independently of each other. -/
theorem Dev.rd_each_writeFld (d : Dev) {l : List Fld} (hl : (l.map Fld.id).Nodup) {f : Fld} (hf : f ∈ l)
    (v : Fld → Nat) (i k : Nat) (b : Bool) :
    (d.each l fun d f => d.writeFld f (v f) i k b).rd f i k =
      if b = true ∧ f.acc = .rwl then d.rd f i k else written f (d.rd f i k) (v f) := by
  induction l generalizing d with
  | nil => cases hf
  | cons g l ih =>
    rw [List.map_cons, List.nodup_cons] at hl
    obtain ⟨hg, hl⟩ := hl
    rcases List.mem_cons.1 hf with rfl | hf
    · exact (Dev.rd_each_writeFld_other _ hg ..).trans (d.rd_writeFld_self ..)
    · have hne : g.id ≠ f.id := fun e => hg (e ▸ List.mem_map_of_mem hf)
      have hrd := d.rd_writeFld_other hne (v g) i k i k b
      exact (ih _ hl hf).trans (by rw [hrd])

/-- A 1 written to a one-bit RW1C field clears it. -/
theorem written_rw1c_one {f : Fld} (ha : f.acc = .rw1c) (hw : f.w = 1) (old : Nat) : written f old 1 = 0 := by
  simp only [written, ha, hw, Nat.and_one_is_mod]
  omega

/-! ### Locked writes (R590) -/

/-- The fields that record a discarded locked write. -/
def discardFlds : List Fld :=
  [R.HUB_FTSTAT_LOCK_DISCARD, R.PWR_ERR_LOCK_DISCARD, R.THD_SERVEERR_LOCK_DISCARD, R.SEC_ERR_LOCK_DISCARD,
    R.MBX_CTL_LOCK_DISCARD, R.FLT_ERR_LOCK_DISCARD, R.BPM_PSTAT_LOCK_DISCARD, R.RTE_ERR_LOCK_DISCARD,
    R.SCH_ERR_LOCK_DISCARD, R.RED_ERR_LOCK_DISCARD, R.HBM_ERR_LOCK_DISCARD, R.NVS_ERR_LOCK_DISCARD,
    R.HUB_LOCKDISC_DISC]

theorem Dev.rd_lockDiscard_other (d : Dev) (r : RegRow) (inst : Nat) {g : Fld} (h : g.id ∉ discardFlds.map Fld.id)
    (i k : Nat) : (d.lockDiscard r inst).rd g i k = d.rd g i k := by
  have hset (e : Dev) (f : Fld) (hf : f ∈ discardFlds) (j : Nat) : (e.set f j).rd g i k = e.rd g i k :=
    e.rd_set_other (fun he => h (he ▸ List.mem_map_of_mem hf)) ..
  have hbit (e : Dev) (n : Nat) : (e.wrBit R.HUB_LOCKDISC_DISC n true).rd g i k = e.rd g i k :=
    e.rd_wr_other (fun he => h (he ▸ List.mem_map_of_mem (by simp [discardFlds]))) ..
  unfold Dev.lockDiscard
  cases r.blk <;> simp only [lockBit, hbit]
  case hub =>
    split
    · exact hset _ _ (by simp [discardFlds]) _
    · rfl
  all_goals exact hset _ _ (by simp [discardFlds]) _

theorem bitOf_eq_testBit (v i : Nat) : bitOf v i = v.testBit i := by
  simp [bitOf, Nat.testBit, Nat.one_and_eq_mod_two]

theorem bitOf_setBit_self (v i : Nat) : bitOf (setBit v i true) i = true := by
  unfold setBit
  split
  · assumption
  · rename_i hv
    rw [bitOf_eq_testBit] at hv ⊢
    simpa [Nat.add_comm v, Nat.testBit_two_pow_add_eq] using hv

/-- A bit of a mask field that has been set reads 1. -/
theorem Dev.rdBit_wrBit_self (d : Dev) {f : Fld} {n : Nat} (hn : n < f.w) (i k : Nat) :
    (d.wrBit f n true i k).rdBit f n i k = true := by
  have hset := bitOf_setBit_self (d.rd f i k) n
  rw [bitOf_eq_testBit] at hset
  unfold Dev.rdBit Dev.wrBit
  rw [Dev.rd_wr_self, bitOf_eq_testBit, Nat.testBit_mod_two_pow, hset]
  simpa using hn

theorem lockBit_lt {b : Blk} {n : Nat} (h : lockBit b = some n) : n < 20 := by
  cases b <;> simp [lockBit] at h <;> omega

theorem Dev.rdBit_lockDiscard (d : Dev) {r : RegRow} {n : Nat} (h : lockBit r.blk = some n) (inst : Nat) :
    (d.lockDiscard r inst).rdBit R.HUB_LOCKDISC_DISC n = true := by
  unfold Dev.lockDiscard
  simp only [h]
  exact Dev.rdBit_wrBit_self _ (lockBit_lt h) 0 0

/-! ### The table of registers (R581 to R583) -/

/-- What the map finds is a register of the table. -/
def InTable (x : Option (RegRow × Nat × Nat)) : Prop := ∀ y, x = some y → y.1 ∈ regRows

theorem inTable_none : InTable none := fun _ h => nomatch h

theorem inTable_ite {c : Prop} [Decidable c] {x y : Option (RegRow × Nat × Nat)} :
    InTable (if c then x else y) ↔ (c → InTable x) ∧ (¬c → InTable y) := by
  split <;> simp [*]

theorem inTable_regIn (b : Blk) (i o : Nat) : InTable (regIn b i o) := by
  intro y h
  obtain ⟨r, hr, heq⟩ := List.exists_of_findSome?_eq_some h
  simp only [Option.ite_none_left_eq_some, Option.ite_none_right_eq_some, Option.some.injEq] at heq
  obtain ⟨-, -, rfl⟩ := heq
  exact hr

theorem inTable_queueReg (b : Blk) (i o : Nat) : InTable (queueReg b i o) := by
  intro y h
  obtain ⟨x, hx, rfl⟩ := Option.map_eq_some_iff.1 h
  exact inTable_regIn b i _ x hx

theorem inTable_hubReg (o : Nat) : InTable (hubReg o) := by
  simp only [hubReg, inTable_ite, inTable_none, inTable_regIn, implies_true, and_self]

theorem inTable_quadReg (q o : Nat) : InTable (quadReg q o) := by
  simp only [quadReg, inTable_ite, inTable_none, inTable_regIn, inTable_queueReg, implies_true, and_self]

theorem inTable_dieReg (c o : Nat) : InTable (dieReg c o) := by
  simp only [dieReg, inTable_ite, inTable_none, inTable_regIn, implies_true, and_self]

theorem inTable_pfReg (o : Nat) : InTable (pfReg o) := by
  simp only [pfReg, inTable_ite, inTable_none, inTable_hubReg, inTable_quadReg, inTable_dieReg, inTable_regIn,
    implies_true, and_self]

theorem pfReg_mem {o inst k : Nat} {r : RegRow} (h : pfReg o = some (r, inst, k)) : r ∈ regRows :=
  inTable_pfReg o _ h

/-- No register holds two fields of one number. -/
theorem regRows_nodup {r : RegRow} (h : r ∈ regRows) : (r.flds.map Fld.id).Nodup := by
  have hall : (regRows.all fun r => (r.flds.map Fld.id).Nodup) = true := by decide +kernel
  simpa using List.all_eq_true.1 hall r h

/-- No register holds both an RWL field and a record of a discarded write. -/
theorem regRows_rwl_not_discard {r : RegRow} (h : r ∈ regRows) (hrwl : (r.flds.any fun f => f.acc = .rwl) = true)
    {f : Fld} (hf : f ∈ r.flds) : f.id ∉ discardFlds.map Fld.id := by
  have hall : (regRows.all fun r => !(r.flds.any fun f => f.acc = .rwl) ||
      r.flds.all fun f => !(discardFlds.map Fld.id).contains f.id) = true := by decide +kernel
  have hrow := List.all_eq_true.1 hall r h
  rw [hrwl] at hrow
  simpa using List.all_eq_true.1 hrow f hf

/-! ### The fields of a register written with a word -/

/-- A register's field after a write: R9, with the lock of the register's block. -/
theorem Dev.rd_writeFlds (d : Dev) {r : RegRow} {k : Nat} (hr : r ∈ regRows) (ht : takesWrite r k = true) {f : Fld}
    (hf : f ∈ r.flds) (inst w : Nat) :
    (d.writeFlds r inst k w).rd f inst k =
      if d.blkLocked r.blk = true ∧ f.acc = .rwl then d.rd f inst k
      else written f (d.rd f inst k) (w / 2 ^ f.lo % 2 ^ f.w) := by
  have heach := d.rd_each_writeFld (regRows_nodup hr) hf (fun f => w / 2 ^ f.lo % 2 ^ f.w) inst k (d.blkLocked r.blk)
  unfold Dev.writeFlds
  simp only [ht, Bool.true_eq_false, if_false]
  rw [← heach]
  split
  · rename_i hlock
    exact Dev.rd_lockDiscard_other _ r inst (regRows_rwl_not_discard hr hlock.2 hf) inst k
  · rfl

/-- A write to RWL fields of a locked block sets the block's bit of HUB.LOCKDISC (R590). -/
theorem Dev.rdBit_writeFlds_locked (d : Dev) {r : RegRow} {k n : Nat} (ht : takesWrite r k = true)
    (hl : d.blkLocked r.blk = true) (hn : lockBit r.blk = some n) (hrwl : (r.flds.any fun f => f.acc = .rwl) = true)
    (inst w : Nat) : (d.writeFlds r inst k w).rdBit R.HUB_LOCKDISC_DISC n = true := by
  unfold Dev.writeFlds
  simp only [ht, hl, hrwl, Bool.true_eq_false, if_false, and_self, if_true]
  exact Dev.rdBit_lockDiscard _ hn inst

/-! ### Registers that only store -/

/-- The fields that something follows when they are written. -/
def followedFlds : List Fld :=
  [R.HUB_FTCFG_UPPORT, R.OE_PFORM_X4, R.LNK_CFG_REPLAY_TO, R.BPM_PCFG_EN, R.RTE_HCFG_SALT, R.HBM_AREA_WIN,
    R.RED_SCRATCH_SIZE, R.THD_MCACHE_SIZE, R.THD_MDLACC_SLOT, R.SEC_PACC_PORT, R.PWR_QMARGIN_MARGIN,
    R.TILE_ERR_UNHANDLED, R.HUB_ERR_UNMAPPED, R.HUB_IEN_PWR_EN, R.PWR_IEN_WARN, R.PWR_IPEND_WARN,
    R.FLT_STAT_FAULT_SEEN, R.MBX_CTL_LOCK, R.MBX_CTAB_A_ENTRY_A, R.MBX_CTAB_B_ENTRY_B, R.OE_LCTL_RETRAIN,
    R.HBM_CTL_RETRAIN]

theorem stores_blk {r : RegRow} (h : stores r = true) : r.blk ≠ .mbxw := by
  simp only [stores, Bool.and_eq_true, bne_iff_ne] at h
  exact h.1

/-- A register that only stores holds none of them. -/
theorem stores_not_followed {r : RegRow} (h : stores r = true) :
    ∀ f ∈ followedFlds, (r.flds.any fun g => g.id = f.id) = false := by
  simp only [stores, Bool.and_eq_true, Bool.not_eq_true', List.any_eq_false] at h
  intro f hf
  rw [List.any_eq_false]
  intro g hg hid
  exact h.2 g hg (List.any_eq_true.2 ⟨f, hf, hid⟩)

theorem Dev.afterWrite_stores (d was : Dev) {r : RegRow} (h : stores r = true) (inst k w : Nat) :
    d.afterWrite was r inst k w = d := by
  have hno := stores_not_followed h
  simp only [followedFlds, List.forall_mem_cons] at hno
  simp [Dev.afterWrite, hno]

/-! ### One DWORD of the PF's BAR0 written -/

theorem registerWrite_dword {d : Dev} {off : Nat} (hb : d.barOn 0 = true) (ho : off % 4 = 0) (w0 w1 : Nat) :
    registerWrite 0 off 4 true w0 w1 d = d.writeReg 0 off w0 := by
  simp [registerWrite, hb, ho]

theorem registerWrite_partial {d : Dev} {off len : Nat} {whole : Bool} (hb : d.barOn 0 = true) (h0 : 0 < len)
    (h4 : off % 4 + len ≤ 4) (hp : len ≠ 4 ∨ whole = false) (w0 w1 : Nat) :
    registerWrite 0 off len whole w0 w1 d = d.barErr R.HUB_ERR_PARTIAL_WR off := by
  have h8 : len ≠ 8 := by omega
  have hpart : ¬(len = 4 ∧ whole = true) := by
    rintro ⟨h, hw⟩
    exact hp.elim (· h) (by simp [hw])
  simp [registerWrite, hb, h0.ne', h8, h4, hpart]

section
variable {d : Dev} {off : Nat}

theorem Dev.writeReg_msix (hp : isPba 0 off = false) (hm : isMsix 0 off = true) (w : Nat) :
    d.writeReg 0 off w = { d with mgmt := { d.mgmt with msix := d.mgmt.msix.put (0, off / 4) w } } := by
  simp [Dev.writeReg, hp, hm]

theorem Dev.writeReg_unmapped (hp : isPba 0 off = false) (hm : isMsix 0 off = false) (hn : pfReg off = none)
    (w : Nat) : d.writeReg 0 off w = d.barErr R.HUB_ERR_UNMAPPED off := by
  simp [Dev.writeReg, Dev.regAt, hp, hm, hn]

variable {r : RegRow} {inst k : Nat} (hp : isPba 0 off = false) (hm : isMsix 0 off = false)
  (hr : pfReg off = some (r, inst, k))
include hp hm hr

theorem Dev.writeReg_off (hd : d.pdOn (regPd r inst) = false) (w : Nat) :
    d.writeReg 0 off w = d.barErr R.HUB_ERR_OFF_ACCESS off := by
  simp [Dev.writeReg, Dev.regAt, hp, hm, hr, hd]

/-- A register that only stores takes its fields, and nothing follows them. -/
theorem Dev.writeReg_stores (hd : d.pdOn (regPd r inst) = true) (hs : stores r = true) (w : Nat) :
    d.writeReg 0 off w = d.writeFlds r inst k w := by
  have hno := stores_not_followed hs
  simp only [followedFlds, List.forall_mem_cons] at hno
  simp [Dev.writeReg, Dev.regAt, hp, hm, hr, hd, stores_blk hs, hno, Dev.afterWrite_stores _ _ hs]

end

/-- The row of HUB.ERR. -/
def hubErrRow : RegRow :=
  ⟨"HUB.ERR", .hub, 0x2C, 0, 1, [R.HUB_ERR_UNMAPPED, R.HUB_ERR_PARTIAL_WR, R.HUB_ERR_OFF_ACCESS]⟩

theorem pfReg_hubErr : pfReg 0x2C = some (hubErrRow, 0, 0) := by decide +kernel

theorem Dev.barOn_pdHub {d : Dev} {fn : Nat} (h : d.barOn fn = true) : d.pdOn pdHub = true := by
  simp only [Dev.barOn, Bool.and_eq_true] at h
  exact h.2

theorem Dev.writeReg_hubErr {d : Dev} (hb : d.barOn 0 = true) (w : Nat) :
    d.writeReg 0 0x2C w = (d.writeFlds hubErrRow 0 0 w).afterWrite d hubErrRow 0 0 w := by
  have hpd : d.pdOn (regPd hubErrRow 0) = true := Dev.barOn_pdHub hb
  have hno : ∀ f ∈ followedFlds.drop 17, (hubErrRow.flds.any fun g => g.id = f.id) = false := by decide
  simp only [followedFlds, List.drop_succ_cons, List.drop_zero, List.forall_mem_cons] at hno
  simp [Dev.writeReg, Dev.regAt, isPba, isMsix, pfReg_hubErr, hpd, hno, show hubErrRow.blk = .hub from rfl]

/-- A 1 written to a bit of HUB.ERR clears it. -/
theorem Dev.rd_writeFlds_hubErr (d : Dev) {f : Fld} (hf : f ∈ hubErrRow.flds) {w : Nat}
    (hw : w / 2 ^ f.lo % 2 = 1) : (d.writeFlds hubErrRow 0 0 w).rd f = 0 := by
  have hacc : ∀ f ∈ hubErrRow.flds, f.acc = .rw1c ∧ f.w = 1 := by decide
  obtain ⟨ha, h1⟩ := hacc f hf
  rw [d.rd_writeFlds (pfReg_mem pfReg_hubErr) (by decide) hf, h1, pow_one, hw, written_rw1c_one ha h1]
  simp [ha]

/-- HUB.ERR without a bit set frees HUB.ERRADDR (R585). -/
theorem Dev.afterWrite_hubErr_clear {d : Dev} (h : ∀ f ∈ hubErrRow.flds, d.rd f = 0) (was : Dev) (w : Nat) :
    d.afterWrite was hubErrRow 0 0 w = d.clr R.HUB_ERRADDR_VALID := by
  have hnone : (d.on R.HUB_ERR_UNMAPPED || d.on R.HUB_ERR_PARTIAL_WR || d.on R.HUB_ERR_OFF_ACCESS) = false := by
    simp only [hubErrRow, List.forall_mem_cons] at h
    simp [Dev.on, h]
  have hno : ∀ f ∈ followedFlds.take 12, (hubErrRow.flds.any fun g => g.id = f.id) = false := by decide
  have hyes : (hubErrRow.flds.any fun g => g.id = R.HUB_ERR_UNMAPPED.id) = true := by decide
  simp only [followedFlds, List.take_succ_cons, List.forall_mem_cons] at hno
  simp [Dev.afterWrite, hno, hyes, hnone]

/-- Ones written to all three bits of HUB.ERR clear them and HUB.ERRADDR.VALID. -/
theorem Dev.rd_writeReg_hubErr {d : Dev} (hb : d.barOn 0 = true) {w : Nat} (hw : w % 8 = 7) :
    (∀ f ∈ hubErrRow.flds, (d.writeReg 0 0x2C w).rd f = 0) ∧ (d.writeReg 0 0x2C w).rd R.HUB_ERRADDR_VALID = 0 := by
  have hlo : ∀ f ∈ hubErrRow.flds, f.lo ≤ 2 := by decide
  have hid : ∀ f ∈ hubErrRow.flds, R.HUB_ERRADDR_VALID.id ≠ f.id := by decide
  have hbit : ∀ i ≤ 2, w / 2 ^ i % 2 = 1 := by
    intro i hi
    interval_cases i <;> omega
  have hclear f (hf : f ∈ hubErrRow.flds) : (d.writeFlds hubErrRow 0 0 w).rd f = 0 :=
    d.rd_writeFlds_hubErr hf (hbit _ (hlo f hf))
  rw [Dev.writeReg_hubErr hb, Dev.afterWrite_hubErr_clear hclear]
  exact ⟨fun f hf => (Dev.rd_clr_other _ (hid f hf) ..).trans (hclear f hf), Dev.rd_clr_self ..⟩

/-! ### The statement -/

/-- Settles O34: each access comes down to the one thing that it does on the device (fields written, a bit of HUB.ERR
set, an MSI-X word stored), which the laws above read. -/
theorem registerWrites : Obligations.RegisterWrites := by
  unfold Obligations.RegisterWrites
  refine ⟨?stored, ?locked, ?partialWrite, ?unmapped, ?domainOff, ?msix, ?hubErr⟩
  case stored =>
    intro s off w0 w1 inst k r hb ho hp hm hr hd hs ht hl
    refine Does.of_act rfl ?_
    rw [registerWrite_dword hb ho, Dev.writeReg_stores hp hm hr hd hs]
    intro f hf
    rw [Dev.rd_platform, Dev.rd_writeFlds _ (pfReg_mem hr) ht hf, if_neg (by simp [hl])]
  case locked =>
    intro s off w0 w1 inst k r n hb ho hp hm hr hd hs ht hl hn hrwl
    refine Does.of_act rfl ?_
    rw [registerWrite_dword hb ho, Dev.writeReg_stores hp hm hr hd hs, Dev.rdBit_platform]
    refine ⟨Dev.rdBit_writeFlds_locked _ ht hl hn hrwl inst w0, fun f hf ha => ?_⟩
    rw [Dev.rd_platform, Dev.rd_writeFlds _ (pfReg_mem hr) ht hf, if_pos ⟨hl, ha⟩]
  case partialWrite =>
    intro s off len w0 w1 whole hb h0 h4 hpart
    refine Does.of_act rfl ?_
    rw [registerWrite_partial hb h0 h4 hpart, Dev.rd_platform, Dev.rd_platform]
    exact ⟨Dev.rd_barErr_self _ rfl _, Dev.rd_barErr_valid _ (by decide) _⟩
  case unmapped =>
    intro s off w0 w1 hb ho hp hm hn
    refine Does.of_act rfl ?_
    rw [registerWrite_dword hb ho, Dev.writeReg_unmapped hp hm (Option.isNone_iff_eq_none.1 hn)]
    simp only [Dev.rd_platform]
    exact ⟨Dev.rd_barErr_self _ rfl _, Dev.rd_barErr_valid _ (by decide) _,
      fun hv => Dev.rd_barErr_offset _ (by decide) hv _⟩
  case domainOff =>
    intro s off w0 w1 inst k r hb ho hp hm hr hd
    refine Does.of_act rfl ?_
    rw [registerWrite_dword hb ho, Dev.writeReg_off hp hm hr hd, Dev.rd_platform, Dev.rd_platform]
    exact ⟨Dev.rd_barErr_self _ rfl _, Dev.rd_barErr_valid _ (by decide) _⟩
  case msix =>
    intro s off w0 w1 hb ho hp hm
    refine Does.of_act rfl ?_
    rw [registerWrite_dword hb ho, Dev.writeReg_msix hp hm, Dev.platform_mgmt]
    exact Tab.look_put_self ..
  case hubErr =>
    intro s w0 w1 hb hw
    refine Does.of_act rfl ?_
    obtain ⟨hbits, hvalid⟩ := Dev.rd_writeReg_hubErr hb hw
    rw [registerWrite_dword hb rfl]
    simp only [Dev.rd_platform]
    exact ⟨hbits _ (by decide), hbits _ (by decide), hbits _ (by decide), hvalid⟩

end Sys2Proof.Machine
end

section
/-! PROOF. The frame of traffic: what sending a packet (spec/05, R139, R147), recording a failure (R165, R476), answering
a command (R414) and sending an event (R433) leave as it was.  Each operation has one law, `Dev.Sends` of what it leaves;
the laws stand in the order in which the model defines the operations. -/

namespace Sys2Proof.Machine

/-! ### The relation -/

/-- The register fields that sending a packet, recording a failure, answering a command or sending an event writes. -/
def sentFlds : List Fld :=
  [R.RTE_ERR_NO_ROUTE_SEEN, R.RTE_ERR_NO_PATH_SEEN, R.RTE_ERR_ROUTE_CHECK_SEEN, R.TEL_ERR_TRACE_DROP,
    R.TEL_ERR_MIRROR_DROP, R.FLT_ERR_FAIL_DROP, R.BPM_PFREE_FREE, R.BPM_PSTAT_EMPTY, R.BPM_PSTAT_EMPTY_SEEN,
    R.BPM_PSTAT_RETIRED, R.BPM_RING_OCC, R.LNK_CRED_GRANTED, R.SCH_QSTAT_DEPTH, R.SCH_AQSTAT_DEPTH,
    R.SCH_QSTAT_HEAD_AGE, R.SCH_AQSTAT_HEAD_AGE, R.SCH_QSTAT_CONG, R.SCH_AQSTAT_CONG, R.SCH_QTAG_FTAG,
    R.SCH_AQTAG_FTAG, R.SCH_ERR_ISO_SEEN, R.MBX_CPL_DATA, R.MBX_STAT_INQ, R.MBX_STAT_OUTST, R.MBX_STAT_CPLQ,
    R.MBX_STAT_FREE, R.MBX_STAT_ORDER_HOLD, R.MBX_STAT_BOUND, R.THD_STAT_JOURNAL, R.THD_STAT_EXECUTING,
    R.FLT_HQLOST_LOST, R.FLT_HQSTAT_ENTRIES, R.FLT_HQSTAT_NEWEST, R.MBX_ERR_LOST, R.MBX_ERR_EVENT_DROP]

/-- A field that none of them writes. -/
abbrev Unsent (g : Fld) : Prop := ∀ f ∈ sentFlds, f.id ≠ g.id

/-- A device without the parts in which traffic stands: registers, counters, what goes out, the shared buffer with its
queues and records, the channels with the journal, and the traces. -/
def Dev.still (d : Dev) : Dev :=
  { d with
    regs := []
    counters := []
    out := []
    net := { d.net with
      links := [], nextPid := 0, pkts := [], queues := [], crossing := [], rings := [], pools := [], retiredCells := []
      badSlots := [], recq := [], quenchFilter := [], quenches := [] }
    mgmt := { d.mgmt with chans := [], journal := [], hist := [], eseq := 0, outWait := [] }
    tel := { d.tel with trace := [], traceSeq := [], rate := [], mirrors := [] } }

/-- `e` is `d` but for traffic: the rest of the device is as it was, and so is every field that traffic does not write. -/
structure Dev.Sends (d e : Dev) : Prop where
  still : e.still = d.still
  rd : ∀ g, Unsent g → ∀ i k, e.rd g i k = d.rd g i k

theorem Dev.Sends.refl (d : Dev) : d.Sends d := ⟨rfl, fun _ _ _ _ => rfl⟩

theorem Dev.Sends.pwr {d e : Dev} (h : d.Sends e) : e.pwr = d.pwr :=
  have hp : e.still.pwr = d.still.pwr := congrArg Dev.pwr h.still
  hp

/-! ### The shared operations -/

section
variable {d e : Dev}

/-- An update of the parts in which traffic stands, that writes no register. -/
theorem Dev.Sends.same {e' : Dev} (h : d.Sends e) (hs : e'.still = e.still) (hr : e'.regs = e.regs) : d.Sends e' :=
  ⟨hs.trans h.still, fun g hg i k => (Dev.rd_congr hr g i k).trans (h.rd g hg i k)⟩

theorem Dev.Sends.wr {f : Fld} {v i k : Nat} (h : d.Sends e) (hf : f ∈ sentFlds) : d.Sends (e.wr f v i k) :=
  ⟨h.still, fun g hg j l => (e.rd_wr_other (hg f hf) ..).trans (h.rd g hg j l)⟩

theorem Dev.Sends.set {f : Fld} {i k : Nat} (h : d.Sends e) (hf : f ∈ sentFlds) : d.Sends (e.set f i k) := h.wr hf

theorem Dev.Sends.bump {f : Fld} {i k n : Nat} (h : d.Sends e) (hf : f ∈ sentFlds) : d.Sends (e.bump f i k n) := h.wr hf

theorem Dev.Sends.wrSat {f : Fld} {v i k : Nat} (h : d.Sends e) (hf : f ∈ sentFlds) : d.Sends (e.wrSat f v i k) :=
  h.wr hf

theorem Dev.Sends.wrBit {f : Fld} {b i k : Nat} {v : Bool} (h : d.Sends e) (hf : f ∈ sentFlds) :
    d.Sends (e.wrBit f b v i k) := h.wr hf

theorem Dev.Sends.count {b i g s n : Nat} (h : d.Sends e) : d.Sends (e.count b i g s n) := h.same rfl rfl

theorem Dev.Sends.emit {o : Out} (h : d.Sends e) : d.Sends (e.emit o) := h.same rfl rfl

theorem Dev.Sends.setLink {p : Nat} {l : Link} (h : d.Sends e) : d.Sends (e.setLink p l) := h.same rfl rfl

theorem Dev.Sends.ite {c : Prop} [Decidable c] {a b : Dev} (ha : d.Sends a) (hb : d.Sends b) :
    d.Sends (if c then a else b) := by
  split
  · exact ha
  · exact hb

theorem Dev.Sends.iteFst {c : Prop} [Decidable c] {α : Type} {a b : Dev × α} (ha : d.Sends a.1) (hb : d.Sends b.1) :
    d.Sends (if c then a else b).1 := by
  split
  · exact ha
  · exact hb

theorem Dev.Sends.each {α : Type} {l : List α} {f : Dev → α → Dev} (h : d.Sends e)
    (hf : ∀ {e : Dev} {a : α}, d.Sends e → d.Sends (f e a)) : d.Sends (e.each l f) := by
  unfold Dev.each
  induction l generalizing e with
  | nil => exact h
  | cons a l ih => exact ih (hf h)

/-- The device of a pair that an operation has answered. -/
theorem Dev.Sends.ofPair {α : Type} {x : Dev × α} {y : α} (hx : x = (e, y)) (h : d.Sends x.1) : d.Sends e := by
  subst hx
  exact h

/-- A fold that carries a value beside the device. -/
theorem Dev.Sends.foldlFst {α β : Type} {l : List α} {f : Dev × β → α → Dev × β} {x : Dev × β} (h : d.Sends x.1)
    (hf : ∀ {x : Dev × β} {a : α}, d.Sends x.1 → d.Sends (f x a).1) : d.Sends (l.foldl f x).1 := by
  induction l generalizing x with
  | nil => exact h
  | cons a l ih => exact ih (hf h)

/-! ### Lookups and traces (R192, R524) -/

theorem Dev.Sends.countRefusal {q x : Nat} (h : d.Sends e) : d.Sends (e.countRefusal q x) :=
  .ite (h.count.set (by decide)) (.ite (h.count.set (by decide)) (.ite (h.count.set (by decide)) h.count))

theorem Dev.Sends.countRoute {q : Nat} {r : RouteRes × Bool} (h : d.Sends e) : d.Sends (e.countRoute q r) := by
  have hc : d.Sends (if r.2 then (e.count 0x06 q 0 0).count 0x06 q 0 2 else e.count 0x06 q 0 0) :=
    .ite h.count.count h.count
  unfold Dev.countRoute
  dsimp only
  split
  · exact hc.countRefusal
  · exact hc

theorem Dev.Sends.rateOk {kind i limit : Nat} (h : d.Sends e) : d.Sends (e.rateOk kind i limit).1 :=
  .iteFst (h.same rfl rfl) h

theorem Dev.Sends.traceWrite {q : Nat} {ws : List Nat} (h : d.Sends e) : d.Sends (e.traceWrite q ws) := by
  unfold Dev.traceWrite
  split
  · exact (Dev.Sends.ofPair ‹_› h.rateOk).count.set (by decide)
  · have hr := Dev.Sends.ofPair ‹_› (h.rateOk (kind := 0) (i := q) (limit := 1000000))
    exact hr.same rfl rfl

theorem Dev.Sends.traceEnd {s : Stored} (h : d.Sends e) : d.Sends (e.traceEnd s) := by
  unfold Dev.traceEnd
  split
  · exact h
  · exact h.traceWrite

/-! ### Records, credits and storage (R113, R144 to R154, R165, R530) -/

theorem Dev.Sends.record {q : Nat} {r : FailRec} (h : d.Sends e) : d.Sends (e.record q r) :=
  .ite (h.set (by decide)) (h.same rfl rfl)

theorem Dev.Sends.sendHaly {p t b1 b0 w1 w2 w3 : Nat} (h : d.Sends e) : d.Sends (e.sendHaly p t b1 b0 w1 w2 w3) :=
  h.setLink.count

theorem Dev.Sends.syncPool {q k : Nat} (h : d.Sends e) : d.Sends (e.syncPool q k) :=
  (h.wr (by decide)).wrBit (by decide)

theorem Dev.Sends.alloc {q f src b vc : Nat} (h : d.Sends e) : d.Sends (e.alloc q f src b vc).1 := by
  unfold Dev.alloc
  split
  · exact h
  · refine .iteFst (.ite ?_ (.count ?_)) (.syncPool (.ite (.count (h.same rfl rfl)) (h.same rfl rfl)))
    all_goals exact .ite (h.count.wrBit (by decide)) h.count

theorem Dev.Sends.setRing {x v : Nat} {l : List RingEnt} (h : d.Sends e) : d.Sends (e.setRing x v l) :=
  .ite (.wr (h.same rfl rfl) (by decide)) (h.same rfl rfl)

theorem Dev.Sends.returnCredit {p v n : Nat} (h : d.Sends e) : d.Sends (e.returnCredit p v n) :=
  .ite h (h.setLink.wrSat (by decide))

theorem Dev.Sends.mirrorCopies {k : Packet} {ing vc stamp : Nat} {hs : List Holder} (h : d.Sends e) :
    d.Sends (e.mirrorCopies k ing vc hs stamp).1 := by
  refine .foldlFst h fun {x s} hx => ?_
  dsimp only
  split
  · exact hx
  · split
    · exact hx.record.count.set (by decide)
    · exact .iteFst (hx.count.set (by decide)) (.count (hx.same rfl rfl))

/-- The packet itself, its mirror copies and its storage. -/
theorem Dev.Sends.storePkt {k : Packet} {ing vc got : Nat} {hs : List Holder} {tag : Option Trace} {ctx stamp : Option Nat}
    (h : d.Sends e) : d.Sends (e.storePkt k ing vc got hs tag ctx stamp).1 := by
  have ha : d.Sends (if (!(isPort ing) && (ing - 512) % 8 = 4) = true then (e, none)
      else e.alloc (quadOf ing) (flitsOf k) ing k.burgee vc).1 := .iteFst h h.alloc
  unfold Dev.storePkt
  dsimp only
  generalize (if (!(isPort ing) && (ing - 512) % 8 = 4) = true then (e, none)
    else e.alloc (quadOf ing) (flitsOf k) ing k.burgee vc) = x at ha ⊢
  have hm := ha.mirrorCopies (k := k) (ing := ing) (vc := vc) (hs := hs) (stamp := stamp.getD x.1.now)
  generalize x.1.mirrorCopies k ing vc hs (stamp.getD x.1.now) = m at hm ⊢
  split
  · exact .ite (.returnCredit (hm.same rfl rfl)) (hm.same rfl rfl)
  · exact .iteFst (.setRing (hm.same rfl rfl)) ha

theorem Dev.Sends.setPkt {pid : Nat} {s : Stored} (h : d.Sends e) : d.Sends (e.setPkt pid s) := h.same rfl rfl

theorem Dev.Sends.freeStorage {pid : Nat} {s : Stored} {bad : Option Nat} (h : d.Sends e) :
    d.Sends (e.freeStorage pid s bad) := by
  unfold Dev.freeStorage
  split
  · exact .syncPool (.ite (h.same rfl rfl) (.bump (h.same rfl rfl) (by decide)))
  · cases bad with
    | none => exact .ite h.setRing.returnCredit h.setRing
    | some c => exact .ite (.returnCredit (h.setRing.same rfl rfl)) (h.setRing.same rfl rfl)

theorem Dev.Sends.release {pid : Nat} {x : Holder} (h : d.Sends e) : d.Sends (e.release pid x) := by
  unfold Dev.release
  split
  · exact h
  · exact .ite (.ite (.traceEnd (.freeStorage (h.count.same rfl rfl))) h.count.setPkt) h

/-! ### Egress queues (R140, R163, R195 to R207) -/

theorem Dev.Sends.setQueue {x v : Nat} {q : Queue} (h : d.Sends e) : d.Sends (e.setQueue x v q) := h.same rfl rfl

theorem Dev.Sends.syncQueue {x v : Nat} (h : d.Sends e) : d.Sends (e.syncQueue x v) := by
  have hf {c : Prop} [Decidable c] {f g : Fld} (hf : f ∈ sentFlds) (hg : g ∈ sentFlds) :
      (if c then f else g) ∈ sentFlds := by
    split
    · exact hf
    · exact hg
  unfold Dev.syncQueue
  refine .wr (.wr (.wrSat (.wrSat h ?_) ?_) ?_) ?_
  all_goals exact hf (by decide) (by decide)

theorem Dev.Sends.filterQuench {q src b dst t : Nat} (h : d.Sends e) : d.Sends (e.filterQuench q src b dst t).1 :=
  .iteFst h (h.same rfl rfl)

theorem Dev.Sends.quenchSource {q ing src b dst m t : Nat} (h : d.Sends e) :
    d.Sends (e.quenchSource q ing src b dst m t) := by
  have hq : d.Sends (e.filterQuench q src b dst t).1 := h.filterQuench
  exact .ite hq.count (.ite hq.sendHaly.count (.count (hq.same rfl rfl)))

theorem Dev.Sends.failHolder {pid r b i : Nat} {x : Holder} (h : d.Sends e) : d.Sends (e.failHolder pid x r b i) := by
  unfold Dev.failHolder
  split
  · exact h
  · exact h.record.release

theorem Dev.Sends.congestTest {x v pid : Nat} (h : d.Sends e) : d.Sends (e.congestTest x v pid) := by
  unfold Dev.congestTest
  split
  · exact h
  · exact .ite h.quenchSource h

theorem Dev.Sends.prefetch {x v : Nat} (h : d.Sends e) : d.Sends (e.prefetch x v) := by
  unfold Dev.prefetch
  dsimp only
  split
  · exact h.setQueue
  · split
    · exact h.setQueue
    · exact h

theorem Dev.Sends.enqueue {pid n : Nat} {x : Holder} (h : d.Sends e) : d.Sends (e.enqueue pid x n) :=
  h.setQueue.count.prefetch.congestTest.syncQueue

theorem Dev.Sends.enterDesc {pid : Nat} {x : Holder} (h : d.Sends e) : d.Sends (e.enterDesc pid x) := by
  unfold Dev.enterDesc
  split
  · exact h
  · exact .ite h (.ite (.ite h.failHolder (.ite h.failHolder (.ite (h.failHolder.set (by decide)) h.enqueue))) h.enqueue)

/-! ### Packets of internal blocks (R139, R147) -/

theorem Dev.Sends.countLook {q : Nat} {r : RouteRes × Bool} {hs : Except Nat (List Holder × List Nat)} (h : d.Sends e) :
    d.Sends (e.countLook q r hs) := by
  unfold Dev.countLook
  dsimp only
  split
  · exact h.countRoute
  · exact .ite h.countRoute h.countRoute.countRefusal
  · exact .each h.countRoute Dev.Sends.countRefusal

theorem Dev.Sends.lookSend {k : Packet} {ing vc : Nat} (h : d.Sends e) : d.Sends (e.lookSend k ing vc).1 := by
  unfold Dev.lookSend
  dsimp only
  split
  · exact h.countLook.record
  · exact h.countLook.each Dev.Sends.record
  · split
    · exact h
    · have hs := Dev.Sends.ofPair ‹_› h.countLook.storePkt
      exact (hs.each Dev.Sends.record).each Dev.Sends.enterDesc

theorem Dev.Sends.inject {k : Packet} {ing vc : Nat} (h : d.Sends e) : d.Sends (e.inject k ing vc).1 := by
  unfold Dev.inject
  split <;> exact .ofPair ‹_› h.lookSend

theorem Dev.Sends.injectTo {k : Packet} {ing vc : Nat} {hs : List Holder} (h : d.Sends e) :
    d.Sends (e.injectTo k ing vc hs).1 := by
  unfold Dev.injectTo
  split
  · exact .ofPair ‹_› h.storePkt
  · exact (Dev.Sends.ofPair ‹_› h.storePkt).each Dev.Sends.enterDesc

theorem Dev.Sends.tryOut {w : Waiting} (h : d.Sends e) : d.Sends (e.tryOut w).1 := by
  unfold Dev.tryOut
  split
  · exact h.inject
  · exact h.injectTo

theorem Dev.Sends.sendOut {k : Packet} {ing vc : Nat} {hs : Option (List Holder)} (h : d.Sends e) :
    d.Sends (e.sendOut k ing vc hs) := by
  refine .ite (h.same rfl rfl) ?_
  split
  · exact .ofPair ‹_› h.tryOut
  · exact h.same rfl rfl

theorem Dev.Sends.hubSend {k : Packet} {vc : Nat} {p : Option Nat} (h : d.Sends e) : d.Sends (e.hubSend k vc p) := by
  unfold Dev.hubSend
  split <;> exact h.sendOut

/-! ### Completions and events (R414, R427 to R433, R473) -/

theorem Dev.Sends.setChan {ch : Nat} {c : Chan} (h : d.Sends e) : d.Sends (e.setChan ch c) := h.same rfl rfl

theorem Dev.Sends.syncChan {ch : Nat} (h : d.Sends e) : d.Sends (e.syncChan ch) := by
  have hd : d.Sends (e.each (List.range 16) fun x k => x.wr R.MBX_CPL_DATA (nth ((e.chan ch).cplq.headD []) k) ch k) :=
    h.each fun hx => hx.wr (by decide)
  unfold Dev.syncChan
  iterate 8 refine .wr ?_ (by decide)
  exact hd

theorem Dev.Sends.postCpl {ch : Nat} {ws : List Nat} (h : d.Sends e) : d.Sends (e.postCpl ch ws) :=
  .ite h.setChan.emit h.setChan

/-- A full history queue loses an entry (R474). -/
theorem Dev.Sends.histPush {x : HEntry} (h : d.Sends e) : d.Sends (e.histPush x) := by
  unfold Dev.histPush
  dsimp only
  split
  · exact h.same rfl rfl
  · by_cases hlen : e.mgmt.hist.length < 64 <;> simp only [hlen, if_true, if_false]
    · exact .wr (.wr (h.same rfl rfl) (by decide)) (by decide)
    · have hb : d.Sends (e.bump R.FLT_HQLOST_LOST) := h.bump (by decide)
      exact .wr (.wr (hb.same rfl rfl) (by decide)) (by decide)

theorem Dev.Sends.cmdLost {ch tag src : Nat} {fab : Bool} (h : d.Sends e) : d.Sends (e.cmdLost ch tag src fab) :=
  .ite (h.set (by decide)).record (h.set (by decide)).histPush.count

theorem Dev.Sends.deliver {ch tag : Nat} {o : Origin} {ws : List Nat} (h : d.Sends e) :
    d.Sends (e.deliver ch o tag ws) := by
  unfold Dev.deliver
  split
  · exact h.postCpl
  · exact h.setChan.emit
  · refine .ite h.setChan.hubSend ?_
    split
    · exact h.setChan.cmdLost
    · exact h.setChan.hubSend

theorem Dev.Sends.complete {a st detail : Nat} {res : List Nat} (h : d.Sends e) :
    d.Sends (e.complete a st res detail) := by
  unfold Dev.complete
  split
  · exact h
  · have hj (l : List JEntry) : d.Sends { e with mgmt := { e.mgmt with journal := l } } := h.same rfl rfl
    exact .ite (hj _).count.cmdLost.syncChan (hj _).count.deliver.syncChan

theorem Dev.Sends.sendEvent {code : Nat} {ws : List Nat} (h : d.Sends e) : d.Sends (e.sendEvent code ws) := by
  refine h.count.each fun {x ch} hx => .ite (.ite (.ite ?_ hx.hubSend) (.ite (.ite hx.postCpl.syncChan
    (hx.set (by decide))) hx)) hx
  split
  · exact hx.hubSend
  · exact hx

end
end Sys2Proof.Machine
end

section
/-! PROOF. Margins, heat, power windows and laser modules (spec/02, R44 to R48; spec/21, R574). -/

namespace Sys2Proof.Machine

/-! ### Bits of a mask field -/

theorem bitOf_setBit (v i : Nat) (b : Bool) : bitOf (setBit v i b) i = b := by
  cases b with
  | true => exact bitOf_setBit_self v i
  | false =>
    unfold setBit
    split
    · rename_i hv
      have hsub : (v - 2 ^ i) / 2 ^ i = v / 2 ^ i - 1 := by simpa using Nat.sub_mul_div v (2 ^ i) 1
      simp only [bitOf, Nat.shiftRight_eq_div_pow, decide_eq_true_eq] at hv
      simp only [bitOf, Nat.shiftRight_eq_div_pow, Bool.false_eq_true, if_false, hsub, decide_eq_false_iff_not]
      omega
    · simpa using ‹¬bitOf v i = true›

/-- A bit of a mask field reads as it was last written. -/
theorem Dev.rdBit_wrBit (d : Dev) {f : Fld} {n : Nat} (hn : n < f.w) (b : Bool) (i k : Nat) :
    (d.wrBit f n b i k).rdBit f n i k = b := by
  have hset := bitOf_setBit (d.rd f i k) n b
  rw [bitOf_eq_testBit] at hset
  simp [Dev.rdBit, Dev.wrBit, bitOf_eq_testBit, Nat.testBit_mod_two_pow, hset, hn]

/-! ### What leaves a field alone -/

theorem Dev.rd_modPwr (d : Dev) (w : PwrSt → PwrSt) (f : Fld) (i k : Nat) : (d.modPwr w).rd f i k = d.rd f i k := rfl

theorem Dev.rd_each_other {α : Type} (d : Dev) (l : List α) {f : Dev → α → Dev} {g : Fld} {i k : Nat}
    (hf : ∀ e a, (f e a).rd g i k = e.rd g i k) : (d.each l f).rd g i k = d.rd g i k := by
  unfold Dev.each
  induction l generalizing d with
  | nil => rfl
  | cons a l ih => exact (ih _).trans (hf d a)

/-- The fields that HUB.ISTAT shows the two sources of R592 in. -/
def istatFlds : List Fld := [R.HUB_ISTAT_PWR, R.HUB_ISTAT_FLT]

theorem Dev.rd_irq_other (d : Dev) {g : Fld} (h : ∀ f ∈ istatFlds, f.id ≠ g.id) (n i k : Nat) (c : Bool) :
    (d.irq n c).rd g i k = d.rd g i k := by
  simp only [istatFlds, List.forall_mem_cons] at h
  obtain ⟨hp, hf, -⟩ := h
  have hwr := ((d.wr R.HUB_ISTAT_PWR d.istatPwr).rd_wr_other hf d.istatFlt 0 0 i k).trans (d.rd_wr_other hp ..)
  unfold Dev.irq
  dsimp only
  split <;> exact hwr

theorem Dev.rd_pend_other (d : Dev) {f g : Fld} (hf : f.id ≠ g.id) (h : ∀ f ∈ istatFlds, f.id ≠ g.id) (i k : Nat) :
    (d.pend f).rd g i k = d.rd g i k := (Dev.rd_irq_other _ h ..).trans (d.rd_set_other hf ..)

@[simp] theorem Dev.pend_mgmt (d : Dev) (f : Fld) : (d.pend f).mgmt = d.mgmt := by
  unfold Dev.pend Dev.irq
  dsimp only
  split <;> rfl

/-! ### Margins (R44) -/

theorem Dev.rd_settleVout_other (d : Dev) {g : Fld} (hv : R.PWR_PVSTAT_VOUT.id ≠ g.id)
    (hc : R.PWR_OPSTAT_VCORE.id ≠ g.id) (q i k : Nat) : (d.settleVout q).rd g i k = d.rd g i k := by
  unfold Dev.settleVout
  dsimp only
  split
  · rfl
  · rw [Dev.rd_wr_other _ hc]
    split
    · exact d.rd_wr_other hv ..
    · rfl

/-- A window of a quadrant at or above line rate. -/
theorem rd_qmarginWindow_atLine {d : Dev} {q m : Nat} (hd : d.pdOn (pdQuad q) = true) (hm : 256 ≤ m) (hw : m < 1024) :
    (qmarginWindow q m d).rd R.PWR_QMARGIN_MARGIN 0 q = m ∧ (qmarginWindow q m d).rd R.PWR_QMARGIN_BELOW_LINE 0 q = 0 ∧
      (qmarginWindow q m d).rd R.PWR_QMARGIN_MARGIN_MIN 0 q = min m (d.rd R.PWR_QMARGIN_MARGIN_MIN 0 q) := by
  have hmin : min m (d.rd R.PWR_QMARGIN_MARGIN_MIN 0 q) < 1024 := by omega
  have hw' : m % 1024 = m := Nat.mod_eq_of_lt hw
  have hmin' := Nat.mod_eq_of_lt hmin
  have h10 : R.PWR_QMARGIN_MARGIN.w = 10 ∧ R.PWR_QMARGIN_MARGIN_MIN.w = 10 := ⟨rfl, rfl⟩
  simp (disch := decide) [qmarginWindow, hd, hm, hw', hmin', h10, Dev.rd_wr_other, Dev.rd_settleVout_other]

/-- The pennant of a quadrant below line rate is timed from when it was sent. -/
theorem Dev.belowSent_belowPennant (d : Dev) (q : Nat) : (d.belowPennant q).pwr.belowSent.look q = some d.now := by
  have hs := (Dev.Sends.refl (d.modPwr fun w => { w with belowSent := w.belowSent.put q d.now })).sendEvent
    (code := 0x0001) (ws := [q + d.rd R.PWR_QMARGIN_MARGIN 0 q * 2 ^ 16])
  exact (congrArg (fun w : PwrSt => w.belowSent.look q) hs.pwr).trans (Tab.look_put_self ..)

/-! ### Heat and power (R46 to R48) -/

theorem hotter_iff {was : Bool} {tj th : Nat} : hotter was tj th = true ↔ th ≤ tj ∨ was = true ∧ th ≤ tj + 3 := by
  simp [hotter]

/-- The fields that a change of a gate writes. -/
def gateFlds : List Fld :=
  [R.PWR_THERM_GATE_PCT, R.PWR_THERM_THROTTLE, R.PWR_THERM_THROTTLE_SEEN, R.PWR_IPEND_THROTTLE, R.HUB_ISTAT_PWR,
    R.HUB_ISTAT_FLT]

@[simp] theorem Dev.syncGate_mgmt (d : Dev) : d.syncGate.mgmt = d.mgmt := by
  unfold Dev.syncGate
  dsimp only
  split <;> simp

theorem Dev.rd_syncGate_other (d : Dev) {g : Fld} (h : ∀ f ∈ gateFlds, f.id ≠ g.id) (i k : Nat) :
    d.syncGate.rd g i k = d.rd g i k := by
  simp only [gateFlds, List.forall_mem_cons] at h
  obtain ⟨hg, ht, hs, hi, hp, hf, -⟩ := h
  have hist : ∀ f ∈ istatFlds, f.id ≠ g.id := by simp [istatFlds, hp, hf]
  unfold Dev.syncGate
  dsimp only
  split
  · rw [Dev.rd_pend_other _ hi hist, Dev.rd_set_other _ hs, Dev.rd_wr_other _ ht, Dev.rd_wr_other _ hg]
  · rw [Dev.rd_wr_other _ ht, Dev.rd_wr_other _ hg]

/-- The greater of the two gates is shown (R48). -/
theorem Dev.rd_syncGate_pct (d : Dev) :
    d.syncGate.rd R.PWR_THERM_GATE_PCT = max d.pwr.thermGate d.pwr.powGate % 2 ^ 8 := by
  unfold Dev.syncGate
  dsimp only
  split
  · rw [Dev.rd_pend_other _ (by decide) (by decide), Dev.rd_set_other _ (by decide), Dev.rd_wr_other _ (by decide),
      Dev.rd_wr_self]
    rfl
  · rw [Dev.rd_wr_other _ (by decide), Dev.rd_wr_self]
    rfl

theorem powerLimitWindow_within {d : Dev} {w : Nat} (h : w ≤ d.rd R.PWR_PLIMIT_LIMIT_W) :
    powerLimitWindow w d = (d.modPwr fun x => { x with watts := w, powGate := 0 }).syncGate := by
  unfold powerLimitWindow
  dsimp only
  rw [Dev.rd_modPwr, if_neg (by omega)]
  rfl

/-- The reading and the warning of R46, before the gate. -/
def Dev.heatSeen (d : Dev) (tj sensor : Nat) : Dev :=
  let d := (d.wr R.PWR_THERM_TJ_HOT (min tj 255)).wr R.PWR_THERM_HOT_SENSOR sensor
  let was := d.on R.PWR_THERM_WARN
  let warn := hotter was tj 95
  let d := d.wr R.PWR_THERM_WARN (b2n warn)
  if warn ∧ was = false then (d.set R.PWR_THERM_WARN_SEEN).pend R.PWR_IPEND_WARN else d

theorem Dev.heatSeen_mgmt (d : Dev) (tj sensor : Nat) : (d.heatSeen tj sensor).mgmt = d.mgmt := by
  unfold Dev.heatSeen
  dsimp only
  split <;> simp

theorem Dev.rd_heatSeen (d : Dev) (tj sensor : Nat) :
    (d.heatSeen tj sensor).rd R.PWR_THERM_TJ_HOT = min tj 255 % 2 ^ 8 ∧
      (d.heatSeen tj sensor).rd R.PWR_THERM_HOT_SENSOR = sensor % 2 ^ 7 := by
  unfold Dev.heatSeen
  dsimp only
  split
  · simp (disch := decide) only [Dev.rd_pend_other, Dev.rd_set_other, Dev.rd_wr_other, Dev.rd_wr_self]
    exact ⟨rfl, rfl⟩
  · simp (disch := decide) only [Dev.rd_wr_other, Dev.rd_wr_self]
    exact ⟨rfl, rfl⟩

/-- The gate of R47 after a reading. -/
def Dev.heatGated (d : Dev) (tj : Nat) : Dev :=
  (d.modPwr fun w => { w with thermGate := if hotter (decide (0 < d.pwr.thermGate)) tj 110 then 50 else 0 }).syncGate

theorem Dev.heatGated_mgmt (d : Dev) (tj : Nat) : (d.heatGated tj).mgmt = { d.mgmt with pwr := { d.pwr with
    thermGate := if 110 ≤ tj ∨ 0 < d.pwr.thermGate ∧ 107 ≤ tj then 50 else 0 } } := by
  have hg : hotter (decide (0 < d.pwr.thermGate)) tj 110 = true ↔ 110 ≤ tj ∨ 0 < d.pwr.thermGate ∧ 107 ≤ tj := by
    rw [hotter_iff, decide_eq_true_eq]
    omega
  unfold Dev.heatGated
  simp only [hg, Dev.syncGate_mgmt]
  rfl

theorem junctionTemperatureChange_eq (tj sensor : Nat) (d : Dev) : junctionTemperatureChange tj sensor d =
    let e := (d.heatSeen tj sensor).heatGated tj
    if 120 ≤ tj ∧ e.pwr.tripped = false then e.thermalTrip sensor
    else if e.mgmt.boot.cooling ∧ tj < 95 then e.cooled
    else e := rfl

/-- Below the trip, with bring-up not held up by heat, only the warning and the gate follow the reading. -/
theorem junctionTemperatureChange_below {d : Dev} {tj : Nat} (ht : tj < 120) (hc : d.mgmt.boot.cooling = false)
    (sensor : Nat) : junctionTemperatureChange tj sensor d = (d.heatSeen tj sensor).heatGated tj := by
  have hcool : ((d.heatSeen tj sensor).heatGated tj).mgmt.boot.cooling = false := by
    rw [Dev.heatGated_mgmt, Dev.heatSeen_mgmt]
    exact hc
  rw [junctionTemperatureChange_eq]
  simp [hcool, Nat.not_le.2 ht]

/-! ### Laser modules (R574) -/

theorem rdBit_lmodFltChange (d : Dev) {m : Nat} (hm : m < 16) (low : Bool) :
    (lmodFltChange m low d).rdBit R.PWR_LMOD_FLT m = low := by
  have hb := d.rdBit_wrBit (f := R.PWR_LMOD_FLT) hm low 0 0
  unfold lmodFltChange
  dsimp only
  split <;> exact hb

theorem Dev.lmodLow_off (d : Dev) {m : Nat} (hm : m < 16) :
    (d.lmodLow m).rdBit R.PWR_LMOD_EN m = false ∧ (d.lmodLow m).pwr.lmodOff.look m = none := by
  unfold Dev.lmodLow
  dsimp only
  split
  · exact ⟨Dev.rdBit_wrBit _ hm false 0 0, Tab.look_del_self ..⟩
  · rename_i h
    exact ⟨Bool.eq_false_iff.2 h, Tab.look_del_self ..⟩

/-! ### The statement on margins, heat and power -/

/-- Settles O2: each event comes down to the fields that it writes, and no later part of its effect writes them again. -/
theorem marginHeatAndPowerEvents : Obligations.MarginHeatAndPowerEvents := by
  unfold Obligations.MarginHeatAndPowerEvents
  refine ⟨?window, ?pennant, ?seenClear, ?junction, ?power, ?fault, ?enable⟩
  case window =>
    intro s q m hd hm hw
    refine Does.of_act rfl ?_
    simpa only [Dev.rd_platform] using rd_qmarginWindow_atLine hd hm hw
  case pennant =>
    intro s q hon hdue
    refine Does.of_act rfl ?_
    rw [belowLinePennantRepeat, if_pos ⟨hon, hdue⟩, Dev.pwr, Dev.platform_mgmt]
    exact Dev.belowSent_belowPennant ..
  case seenClear =>
    intro s q
    refine Does.of_act rfl ?_
    rw [Dev.rd_platform, Dev.rd_platform, qmarginBelowSeenClear, Dev.rd_wr_other _ (by decide), Dev.rd_wr_self,
      Dev.rd_wr_self]
    exact ⟨rfl, rfl⟩
  case junction =>
    intro s tj sensor ht hc
    refine Does.of_act rfl ?_
    obtain ⟨hhot, hsensor⟩ := s.dev.rd_heatSeen tj sensor
    rw [junctionTemperatureChange_below ht hc, Dev.rd_platform, Dev.rd_platform, Dev.pwr, Dev.platform_mgmt,
      Dev.heatGated_mgmt, Dev.pwr, Dev.heatSeen_mgmt, Dev.heatGated, Dev.rd_syncGate_other _ (by decide),
      Dev.rd_syncGate_other _ (by decide), Dev.rd_modPwr, Dev.rd_modPwr, hhot, hsensor]
    exact ⟨by omega, rfl, rfl⟩
  case power =>
    intro s w hw
    refine Does.of_act rfl ?_
    rw [powerLimitWindow_within hw, Dev.rd_platform, Dev.pwr, Dev.platform_mgmt, Dev.syncGate_mgmt, Dev.rd_syncGate_pct]
    exact ⟨rfl, rfl, congrArg (· % 2 ^ 8) (Nat.max_zero _)⟩
  case fault =>
    intro s m low hm
    refine Does.of_act rfl ?_
    rw [Dev.rdBit_platform]
    exact rdBit_lmodFltChange _ hm low
  case enable =>
    intro s m t hm hl ht
    refine Does.of_act rfl ?_
    rw [Dev.rdBit_platform, Dev.pwr, Dev.platform_mgmt]
    simp only [lmodEnOffDelay, hl, ht, if_true]
    exact Dev.lmodLow_off _ hm

end Sys2Proof.Machine
end

section
/-! PROOF. Power domains and OE_CLASS (spec/02, R41, R49 to R52). -/

namespace Sys2Proof.Machine

/-! ### Commands that have begun -/

theorem Dev.job?_congr {d e : Dev} (h : d.mgmt = e.mgmt) (a : Nat) : d.job? a = e.job? a := by
  unfold Dev.job?
  rw [h]

/-- A journal entry changed, its number kept, is looked up as changed. -/
theorem Dev.job?_modJob {d : Dev} {a : Nat} {j : JEntry} (h : d.job? a = some j) {f : JEntry → JEntry}
    (hf : ∀ x, (f x).aseq = x.aseq) : (d.modJob a f).job? a = some (f j) := by
  have hp : ((fun x : JEntry => decide (x.aseq = a)) ∘ fun x => if x.aseq = a then f x else x) =
      fun x => decide (x.aseq = a) := by
    funext x
    by_cases hx : x.aseq = a <;> simp [hx, hf]
  unfold Dev.job? at h ⊢
  simp only [Dev.modJob, List.find?_map, hp, h, Option.map_some, if_pos (Dev.job?_aseq h)]

/-- A completion reads the same after the messages that follow a step. -/
theorem Dev.answered_platform {d : Dev} {j : JEntry} {st detail : Nat} {res : List Nat} (b : Dev)
    (h : Answered d j st res detail) : Answered (b.platform d) j st res detail := by
  have hm := b.platform_mgmt d
  unfold Answered at h ⊢
  rwa [Dev.job?_congr hm, Dev.chan, hm]

/-! ### Domains on and off (R49 to R52) -/

theorem Dev.pdOn_congr {d e : Dev} (h : ∀ i k, d.rd R.PWR_PDSTAT_ON i k = e.rd R.PWR_PDSTAT_ON i k) (pd : Nat) :
    d.pdOn pd = e.pdOn pd := congrArg (fun v => bitOf v (pd % 32)) (h _ _)

theorem Dev.Sends.pdOn {d e : Dev} (h : d.Sends e) (pd : Nat) : e.pdOn pd = d.pdOn pd :=
  Dev.pdOn_congr (h.rd _ (by decide)) pd

@[simp] theorem Dev.pdOn_setPd (d : Dev) (pd : Nat) (v : Bool) : (d.setPd pd v).pdOn pd = v :=
  d.rdBit_wrBit (f := R.PWR_PDSTAT_ON) (Nat.mod_lt _ (by decide)) v 0 (pd / 32)

theorem Dev.pdOn_syncEngines (d : Dev) (q pd : Nat) : (d.syncEngines q).pdOn pd = d.pdOn pd :=
  Dev.pdOn_congr (fun _ _ => Dev.rd_each_other d _ fun e _ =>
    (Dev.rd_wr_other _ (by decide) ..).trans (e.rd_wr_other (by decide) ..)) pd

theorem Dev.pdOn_hbmOn (d : Dev) (q pd : Nat) : (d.hbmOn q).pdOn pd = d.pdOn pd := by
  refine Dev.pdOn_congr (fun i k => ?_) pd
  have htemp := ((((d.wr R.HBM_STAT_TEMP (d.free % 256) q).wr R.HBM_STAT_TRAIN_TEMP (d.free % 256) q).rd_wr_other
    (g := R.PWR_PDSTAT_ON) (f := R.HBM_SPARE_SOFT_USED) (by decide) (d.stack q).remap.length q 0 i k).trans
    (Dev.rd_wr_other _ (by decide) ..)).trans (d.rd_wr_other (by decide) ..)
  exact (Dev.rd_each_other _ _ fun e _ => e.rd_wr_other (by decide) ..).trans htemp

/-- What follows the step in hand of a PD_SET leaves the domains as they are. -/
theorem Dev.pdOn_pdNext (d : Dev) (pd : Nat) : d.pdNext.pdOn pd = d.pdOn pd := by
  unfold Dev.pdNext
  dsimp only
  split
  · split
    · rw [(Dev.Sends.refl _).complete.pdOn]
      have hregs (b : Bool) (x y : Dev) (hx : x.regs = d.regs) (hy : y.regs = d.regs) :
          (if b then x else y).regs = d.regs := by cases b <;> assumption
      refine Dev.pdOn_congr (Dev.rd_congr ?_ _) pd
      exact hregs _ _ _ rfl rfl
    · rfl
  · rfl

/-- A PD_SET with steps left is in hand with them. -/
theorem Dev.pdNext_of_steps {d : Dev} (h : (d.pwr.pdSteps.dropWhile fun x => d.pdOn x.1 = x.2) ≠ []) :
    d.pdNext = d.modPwr fun w => { w with pdSteps := d.pwr.pdSteps.dropWhile fun x => d.pdOn x.1 = x.2 } := by
  unfold Dev.pdNext
  dsimp only
  split
  · exact if_neg h
  · rfl

/-- A PD_SET that no check refuses and that has something to switch is in hand. -/
theorem pdSet_inHand {d : Dev} {a : Nat} {j : JEntry} (hj : d.job? a = some j) (hph : j.phase = .begun)
    (hop : j.op = 0x0102) (hidle : d.pwr.pdJob = none) (hst : d.pdRefusal j = 0)
    (hsteps : ((pdOrder j.pdMask (bitOf (j.w 8) 0)).dropWhile fun x => decide (d.pdOn x.1 = x.2)) ≠ []) :
    (pdSet a d).pwr.pdJob = some a ∧ (pdSet a d).pwr.pdSteps =
      (pdOrder j.pdMask (bitOf (j.w 8) 0)).dropWhile fun x => decide (d.pdOn x.1 = x.2) := by
  have hst' : (d.modJob a fun j => { j with phase := .running }).pdRefusal j = 0 := hst
  unfold pdSet
  rw [hidle, Dev.cmd_begun _ hj hph hop]
  simp only [Option.isSome_none, Bool.false_eq_true, if_false, hst', ne_eq, not_true_eq_false]
  rw [Dev.pdNext_of_steps hsteps]
  exact ⟨rfl, rfl⟩

/-- A reduction cluster, an HBM interface, the NAND interface or the PCIe block that comes on is on. -/
theorem Dev.pdOn_domainOn (d : Dev) {pd : Nat} (h100 : 100 ≤ pd) (h110 : pd < 110) : (d.domainOn pd).pdOn pd = true := by
  unfold Dev.domainOn
  split
  · assumption
  · have hset : ((d.freshDomain pd).setPd pd true).pdOn pd = true := Dev.pdOn_setPd ..
    dsimp only
    rw [if_neg (by omega), if_neg (by omega), if_neg (by omega)]
    split
    · rw [Dev.pdOn_syncEngines, hset]
    · split
      · rw [Dev.pdOn_hbmOn, hset]
      · split <;> exact hset

/-- A domain's bit is cleared last when it goes off (R52). -/
theorem Dev.pdOn_domainOff (d : Dev) {pd : Nat} (h32 : 32 ≤ pd) : (d.domainOff pd).pdOn pd = false := by
  unfold Dev.domainOff
  split
  · assumption
  · dsimp only
    rw [if_neg (show ¬pd < 32 by omega)]
    exact Dev.pdOn_setPd ..

/-! ### OE_CLASS (R41) -/

theorem Dev.rd_each_wr (d : Dev) (l : List Nat) (f : Fld) (v e : Nat) :
    (d.each l fun d e => d.wr f v e).rd f e = if e ∈ l then v % 2 ^ f.w else d.rd f e := by
  unfold Dev.each
  induction l generalizing d with
  | nil => simp
  | cons a l ih =>
    rw [List.foldl_cons, ih, Dev.rd_wr]
    by_cases hl : e ∈ l
    · simp [hl]
    · by_cases ha : e = a
      · simp [ha]
      · simp [hl, ha, Ne.symm ha]

theorem oeClass_answered {d : Dev} {a : Nat} {j : JEntry} (hj : Begun d a 0x0103 j) (hc : j.w 5 % 4 ≠ 3)
    (hon : (maskBits (j.w 4) 32).all (fun e => d.pdOn (pdOe e)) = true) :
    Answered (oeClass a d) j St.ok ∧
      ∀ e ∈ maskBits (j.w 4) 32, (oeClass a d).rd R.OE_LASER_CLASS_NEXT e = j.w 5 % 4 := by
  obtain ⟨hj, hph, hop, ho, hl⟩ := hj
  have hrun : (d.modJob a fun j => { j with phase := .running }).job? a = some { j with phase := .running } :=
    Dev.job?_modJob hj fun _ => rfl
  have hoff : ((maskBits (j.w 4) 32).any fun e => !d.pdOn (pdOe e)) = false := by simpa using hon
  have hoff' : ((maskBits (j.w 4) 32).any fun e => !(d.modJob a fun j => { j with phase := .running }).pdOn (pdOe e)) =
      false := hoff
  unfold oeClass
  rw [Dev.cmd_begun _ hj hph hop]
  simp only [hc, hoff', if_false, Bool.false_eq_true]
  obtain ⟨r, hr⟩ := Dev.each_regs (maskBits (j.w 4) 32) (fun d e => d.wr R.OE_LASER_CLASS_NEXT (j.w 5 % 4) e)
    (fun _ _ => ⟨_, rfl⟩) (d.modJob a fun j => { j with phase := .running })
  have hjob := (Dev.job?_congr (congrArg Dev.mgmt hr) a).trans hrun
  refine ⟨Dev.complete_pcie hjob ho hl .., fun e he => ?_⟩
  rw [(Dev.Sends.refl _).complete.rd _ (by decide), Dev.rd_each_wr, if_pos he]
  have hw : j.w 5 % 4 < 2 ^ R.OE_LASER_CLASS_NEXT.w := (Nat.mod_lt _ (by decide)).trans (by decide)
  exact Nat.mod_eq_of_lt hw

/-! ### The statement on power domains -/

/-- Settles O3: a PD_SET keeps the steps that change something; a domain's bit is written after all that the domain loses,
and neither what follows nor the command's completion writes it again; OE_CLASS writes before it is answered. -/
theorem powerDomainCommands : Obligations.PowerDomainCommands := by
  unfold Obligations.PowerDomainCommands
  refine ⟨?pdSet, ?domainOn, ?domainOff, ?oeClass⟩
  case pdSet =>
    intro s aseq j hbegun hidle hst hsteps
    obtain ⟨hj, hph, hop, -, -⟩ := hbegun
    refine Does.of_act rfl ?_
    rw [Dev.pwr, Dev.platform_mgmt]
    exact pdSet_inHand hj hph hop hidle hst hsteps
  case domainOn =>
    intro s pd hstep h100 h110
    refine Does.of_act rfl ?_
    rw [Dev.pdOn, Dev.rdBit_platform, domainOnComplete, if_pos hstep]
    exact (Dev.pdOn_pdNext ..).trans (Dev.pdOn_domainOn _ h100 h110)
  case domainOff =>
    intro s pd hstep h32 _
    refine Does.of_act rfl ?_
    rw [Dev.pdOn, Dev.rdBit_platform, domainOffComplete, if_pos hstep]
    exact (Dev.pdOn_pdNext ..).trans (Dev.pdOn_domainOff _ h32)
  case oeClass =>
    intro s aseq j hbegun hc hon
    obtain ⟨hans, hcls⟩ := oeClass_answered hbegun hc hon
    refine Does.of_act rfl ⟨Dev.answered_platform _ hans, fun e he => ?_⟩
    rw [Dev.rd_platform]
    exact hcls e he

end Sys2Proof.Machine
end

section
/-! PROOF. DATA flits received (spec/04, R102, R103, R106): the statement does not hold of a flit that is stomped. -/

namespace Sys2Proof.Machine

/-- What a command leaves is what its meaning leaves, but for the messages that follow a step. -/
theorem Does.platform {c : Instr} {f : Dev → Dev} {s : State} {P : Dev → Prop} (hc : exec c s = act f s)
    (h : Does c s P) : P (s.dev.platform (f s.dev)) := by
  obtain ⟨t, ht, -, hP⟩ := h
  rw [hc, act_next] at ht
  injection ht with ht
  rwa [← ht] at hP

@[simp] theorem Dev.platform_net (b d : Dev) : (b.platform d).net = d.net := by
  obtain ⟨o, ho⟩ := b.platform_frame d
  rw [ho]

/-- A link UP and not encrypted, with credits granted on VC7 and nothing open. -/
def stompedRx : State :=
  { dev := ((({} : Dev).wr R.LNK_STAT_STATE lsUp 5).wr R.LNK_PEER_MAX_OUT 64 5).setLink 5
      { granted := [4, 4, 4, 4, 4, 4, 4, 4] }
    pending := [] }

/-- A streamer of one flit. -/
def stompedPkt : Packet := { pclass := 2 }

/-- The one flit of that streamer, in order, with SOP, EOP and STOMP. -/
def stompedFlit : DataFlit := { vc := 7, stomp := true, pkt := some stompedPkt }

/-- The flit is accepted in order, and its packet is discarded (R103). -/
theorem dataFlitReceived_stompedFlit :
    ((dataFlitReceived 5 stompedFlit stompedRx.dev).link 5).eseq = 1 ∧
      (dataFlitReceived 5 stompedFlit stompedRx.dev).rd R.LNK_ERR_STOMP_RX 5 = 1 ∧
      (dataFlitReceived 5 stompedFlit stompedRx.dev).net.arrivals = [] := by decide +kernel

/-- Refutes O6: a flit with SOP, EOP and STOMP breaks no framing rule (R102) and is accepted in order, and no packet of
it waits for its arrival, for a receiver discards every flit of a stomped packet (R103). -/
theorem not_linkReceiveEvents : ¬Obligations.LinkReceiveEvents := by
  unfold Obligations.LinkReceiveEvents
  rintro ⟨hdata, -⟩
  have hdoes := hdata stompedRx 5 stompedFlit stompedPkt (by decide) (by decide) (by decide) (by decide) (by decide)
    (by decide) (by decide) rfl
  obtain ⟨-, harrival⟩ := Does.platform (c := .dataFlitReceived 5 stompedFlit) rfl hdoes
  obtain ⟨-, -, hnone⟩ := dataFlitReceived_stompedFlit
  rw [Dev.platform_net, hnone] at harrival
  exact absurd harrival (by decide)

end Sys2Proof.Machine
end

section
/-! PROOF. What a link holds and the state it is in: which operations leave them as they are (spec/05, spec/06,
spec/19), and what a link that changes state keeps (spec/04, R129 to R133). -/

namespace Sys2Proof.Machine

/-! ### Reading a link -/

@[simp] theorem Dev.link_platform (b d : Dev) (p : Nat) : (b.platform d).link p = d.link p := by simp [Dev.link]

@[simp] theorem Dev.linkState_platform (b d : Dev) (p : Nat) : (b.platform d).linkState p = d.linkState p :=
  Dev.rd_platform ..

@[simp] theorem Dev.now_platform (b d : Dev) : (b.platform d).now = d.now := by
  obtain ⟨o, ho⟩ := b.platform_frame d
  rw [ho]

@[simp] theorem Dev.link_wr (d : Dev) (f : Fld) (v i k p : Nat) : (d.wr f v i k).link p = d.link p := rfl
@[simp] theorem Dev.link_wrBit (d : Dev) (f : Fld) (b i k p : Nat) (v : Bool) :
    (d.wrBit f b v i k).link p = d.link p := rfl
@[simp] theorem Dev.link_count (d : Dev) (b i g s n p : Nat) : (d.count b i g s n).link p = d.link p := rfl
@[simp] theorem Dev.link_emit (d : Dev) (o : Out) (p : Nat) : (d.emit o).link p = d.link p := rfl
@[simp] theorem Dev.link_modLink (d : Dev) (p : Nat) (f : Link → Link) : (d.modLink p f).link p = f (d.link p) := by
  simp [Dev.modLink]

@[simp] theorem Dev.rd_setLink (d : Dev) (p : Nat) (x : Link) (f : Fld) (i k : Nat) :
    (d.setLink p x).rd f i k = d.rd f i k := rfl
@[simp] theorem Dev.rd_modLink (d : Dev) (p : Nat) (g : Link → Link) (f : Fld) (i k : Nat) :
    (d.modLink p g).rd f i k = d.rd f i k := rfl

/-- What no update of a fold changes, the fold leaves as it was. -/
theorem Dev.each_keeps {α β : Type} (g : Dev → β) (d : Dev) (l : List α) {f : Dev → α → Dev}
    (hf : ∀ e a, g (f e a) = g e) : g (d.each l f) = g d := by
  unfold Dev.each
  induction l generalizing d with
  | nil => rfl
  | cons a l ih => exact (ih _).trans (hf d a)

/-! ### Bunting (R526 to R528) -/

/-- `e` is `d` but for what bunting captures: the fabric side, fabric time and every field but TEL.ERR.BUNT_DROP are as
they were. -/
structure Dev.Bunted (d e : Dev) : Prop where
  net : e.net = d.net
  time : e.time = d.time
  now : e.now = d.now
  rd : ∀ g : Fld, R.TEL_ERR_BUNT_DROP.id ≠ g.id → ∀ i k, e.rd g i k = d.rd g i k

theorem Dev.Bunted.refl (d : Dev) : d.Bunted d := ⟨rfl, rfl, rfl, fun _ _ _ _ => rfl⟩

theorem Dev.Bunted.link {d e : Dev} (h : d.Bunted e) (p : Nat) : e.link p = d.link p := by
  rw [Dev.link, h.net, Dev.link]

theorem Dev.rateOk_tel (d : Dev) (kind i limit : Nat) : ∃ t, (d.rateOk kind i limit).1 = { d with tel := t } := by
  have hite (c : Prop) [Decidable c] (x : Tel) :
      ∃ t, (if c then ({ d with tel := x }, true) else (d, false)).1 = { d with tel := t } := by
    split
    · exact ⟨x, rfl⟩
    · exact ⟨d.tel, rfl⟩
  exact hite ..

theorem Dev.bunted_buntEntry (d : Dev) (p : Nat) (r : BuntRing) (kind dir vc seq flits : Nat) (stomp : Bool)
    (hdr : List Nat) : d.Bunted (d.buntEntry p r kind dir vc seq flits stomp hdr) := by
  have hrate : ∃ t, (if (d.rateOk 1 p 16000000).2 then (d.rateOk 1 p 16000000).1.rateOk 2 (p / 128) 64000000
      else ((d.rateOk 1 p 16000000).1, false)).1 = { d with tel := t } := by
    obtain ⟨t, ht⟩ := d.rateOk_tel 1 p 16000000
    split
    · obtain ⟨t', ht'⟩ := (d.rateOk 1 p 16000000).1.rateOk_tel 2 (p / 128) 64000000
      exact ⟨t', by rw [ht', ht]⟩
    · exact ⟨t, ht⟩
  unfold Dev.buntEntry
  dsimp only
  generalize (if (d.rateOk 1 p 16000000).2 = true then (d.rateOk 1 p 16000000).1.rateOk 2 (p / 128) 64000000
    else ((d.rateOk 1 p 16000000).1, false)) = x at hrate ⊢
  obtain ⟨t, ht⟩ := hrate
  rw [ht]
  split
  · exact .refl d
  · split
    · exact ⟨rfl, rfl, rfl, fun _ _ _ _ => rfl⟩
    · exact ⟨rfl, rfl, rfl, fun g hg i k => Dev.rd_set_other _ hg ..⟩

theorem Dev.bunted_buntPacket (d : Dev) (p dir vc seq : Nat) (k : Packet) (stomp : Bool) :
    d.Bunted (d.buntPacket p dir vc seq k stomp) := by
  unfold Dev.buntPacket
  split
  · exact .refl d
  · split
    · exact d.bunted_buntEntry ..
    · exact .refl d

theorem Dev.bunted_buntHaly (d : Dev) (p dir : Nat) (w : Haly) : d.Bunted (d.buntHaly p dir w) := by
  unfold Dev.buntHaly
  split
  · exact .refl d
  · split
    · exact d.bunted_buntEntry ..
    · exact .refl d

theorem Dev.bunted_buntLink (d : Dev) (p : Nat) : d.Bunted (d.buntLink p) := by
  unfold Dev.buntLink
  split
  · exact .refl d
  · split
    · exact d.bunted_buntEntry ..
    · exact .refl d

/-! ### What leaves every link in its state -/

theorem Dev.linkState_wr_other (d : Dev) {f : Fld} (h : f.id ≠ R.LNK_STAT_STATE.id) (v i k p : Nat) :
    (d.wr f v i k).linkState p = d.linkState p := d.rd_wr_other h ..

@[simp] theorem Dev.linkState_count (d : Dev) (b i g s n p : Nat) :
    (d.count b i g s n).linkState p = d.linkState p := rfl
@[simp] theorem Dev.linkState_modLink (d : Dev) (p q : Nat) (f : Link → Link) :
    (d.modLink p f).linkState q = d.linkState q := rfl
@[simp] theorem Dev.linkState_setPortRoute (d : Dev) (p q : Nat) (x : PortRoute) :
    (d.setPortRoute p x).linkState q = d.linkState q := rfl
@[simp] theorem Dev.linkState_withTime (d : Dev) (t : TimeSt) (q : Nat) :
    ({ d with time := t } : Dev).linkState q = d.linkState q := rfl

theorem Dev.Sends.linkState {d e : Dev} (h : d.Sends e) (p : Nat) : e.linkState p = d.linkState p :=
  h.rd _ (by decide) p 0

@[simp] theorem Dev.linkState_syncLdown (d : Dev) (p q : Nat) (v : Bool) :
    (d.syncLdown p v).linkState q = d.linkState q :=
  d.each_keeps (fun e => e.linkState q) _ fun e _ => e.linkState_wr_other (by decide) ..

@[simp] theorem Dev.linkState_originate (d : Dev) (r : Bool) (ids : List Nat) (q : Nat) :
    (d.originate r ids).linkState q = d.linkState q := by
  unfold Dev.originate
  split
  · rfl
  · exact Dev.each_keeps (fun e => e.linkState q) _ _ fun e _ => ((Dev.Sends.refl e).sendOut.count).linkState q

/-- A local exclusion and its notice (R173, R180). -/
@[simp] theorem Dev.linkState_syncExcl (d : Dev) (p q : Nat) : (d.syncExcl p).linkState q = d.linkState q := by
  unfold Dev.syncExcl
  simp [apply_ite fun e : Dev => e.linkState q]

@[simp] theorem Dev.linkState_setServo (d : Dev) (st q : Nat) : (d.setServo st).linkState q = d.linkState q := by
  have hset : (d.set R.HUB_FTSTAT_UNLOCK_SEEN).linkState q = d.linkState q := d.linkState_wr_other (by decide) ..
  unfold Dev.setServo
  simp (disch := decide) [Dev.linkState_wr_other, apply_ite fun e : Dev => e.linkState q, hset]

/-- The servo of fabric time (R447). -/
@[simp] theorem Dev.linkState_syncServo (d : Dev) (q : Nat) : d.syncServo.linkState q = d.linkState q := by
  unfold Dev.syncServo
  dsimp only
  split
  · simp [apply_ite fun e : Dev => e.linkState q]
  · simp (disch := decide) [Dev.linkState_wr_other, apply_ite fun e : Dev => e.linkState q]

/-! ### A packet lost with its link (R103, R133, R156, R163) -/

theorem Dev.Sends.dropDesc {d e : Dev} {pid : Nat} {x : Holder} (h : d.Sends e) : d.Sends (e.dropDesc pid x) :=
  .ite h h.setQueue.prefetch.syncQueue

@[simp] theorem Dev.linkState_stompAll (d : Dev) (pid q : Nat) : (d.stompAll pid).linkState q = d.linkState q := by
  unfold Dev.stompAll
  split
  · rfl
  · refine Dev.each_keeps (fun e => e.linkState q) _ _ fun e x => ?_
    dsimp only
    split
    · rfl
    · split
      · rfl
      · exact (Dev.Sends.refl _).dropDesc.release.linkState q

@[simp] theorem Dev.linkState_stompPkt (d : Dev) (pid r b i q : Nat) :
    (d.stompPkt pid r b i).linkState q = d.linkState q := by
  unfold Dev.stompPkt
  split
  · rfl
  · split
    · rfl
    · exact (Dev.linkState_stompAll ..).trans ((Dev.Sends.refl d).record.linkState q)

theorem Dev.Sends.lostReplay {d e : Dev} {p : Nat} (h : d.Sends e) : d.Sends (e.lostReplay p) := by
  have hrel (ps : List (Packet × Nat × Nat)) : d.Sends ((e.each ps fun d x =>
      d.record (p / 128) (d.pktRec x.1 x.2.1 x.2.2 0x11 0x03 p)).each (e.link p).txReady fun d x =>
      d.release x.pid x.hold) := (h.each Dev.Sends.record).each Dev.Sends.release
  unfold Dev.lostReplay
  dsimp only
  split
  · exact (hrel _).release
  · exact hrel _

@[simp] theorem Dev.linkState_dropOpens (d : Dev) (p q : Nat) : (d.dropOpens p).linkState q = d.linkState q := by
  refine d.each_keeps (fun e => e.linkState q) _ fun e o => ?_
  split
  · rfl
  · split
    · exact e.linkState_stompPkt ..
    · exact (Dev.Sends.refl e).record.linkState q

theorem Dev.Sends.takeMarked {d e : Dev} {x v : Nat} (h : d.Sends e) : d.Sends (e.takeMarked x v) := by
  unfold Dev.takeMarked
  dsimp only
  refine .syncQueue (.foldlFst h fun {y c} hy => ?_)
  split
  · exact hy
  · exact .iteFst hy.setQueue.failHolder.count hy

theorem Dev.Sends.flushQueue {d e : Dev} {x v r : Nat} (h : d.Sends e) : d.Sends (e.flushQueue x v r) :=
  .ite h h.count.setQueue.takeMarked.setQueue

theorem Dev.Sends.flushAll {d e : Dev} {x r : Nat} (h : d.Sends e) : d.Sends (e.flushAll x r) :=
  h.each Dev.Sends.flushQueue

@[simp] theorem Dev.linkState_syncPdata (d : Dev) (q : Nat) : d.syncPdata.linkState q = d.linkState q :=
  d.linkState_wr_other (f := R.SEC_PDATA_DATA) (by decide) ..

@[simp] theorem Dev.linkState_linkLost (d : Dev) (p r q : Nat) : (d.linkLost p r).linkState q = d.linkState q := by
  have hadm (e : Dev) : (e.clr R.LNK_STAT_ADMITTED p).linkState q = e.linkState q :=
    e.linkState_wr_other (by decide) ..
  have hcred (e : Dev) : (e.each (List.range 8) fun d v =>
      (d.wr R.LNK_CRED_AVAIL 0 p v).wr R.LNK_CRED_GRANTED 0 p v).linkState q = e.linkState q :=
    e.each_keeps (fun e => e.linkState q) _ fun e v =>
      (Dev.linkState_wr_other _ (by decide) ..).trans (e.linkState_wr_other (by decide) ..)
  unfold Dev.linkLost
  dsimp only
  rw [Dev.linkState_syncPdata, Dev.linkState_count, hadm, hcred, Dev.linkState_modLink,
    (Dev.Sends.refl _).flushAll.linkState, Dev.linkState_dropOpens, (Dev.Sends.refl d).lostReplay.linkState]

/-! ### A link brought to another state (R130) -/

theorem Dev.linkState_setLinkState (d : Dev) (p : Nat) {st : Nat} (h : st < 8) :
    (d.setLinkState p st).linkState p = st := by
  unfold Dev.setLinkState
  rw [Dev.linkState_syncServo, Dev.linkState_syncExcl]
  exact ((Dev.bunted_buntLink _ p).rd _ (by decide) p 0).trans ((d.rd_wr_self ..).trans (Nat.mod_eq_of_lt h))

theorem Dev.toNegotiate_state (d : Dev) (p : Nat) :
    (d.toNegotiate p).linkState p = lsNegotiate ∧ (d.toNegotiate p).rd R.LNK_PEER_AGREED p = 0 := by
  unfold Dev.toNegotiate
  refine ⟨?_, Dev.rd_wr_self ..⟩
  simp (disch := decide) only [Dev.linkState_modLink, Dev.linkState_wr_other, Dev.linkState_setLinkState]

theorem Dev.toNegotiateLost_state (d : Dev) (p : Nat) :
    (d.toNegotiateLost p).linkState p = lsNegotiate ∧ (d.toNegotiateLost p).rd R.LNK_STAT_VER p = 0 ∧
      ((d.toNegotiateLost p).link p).enteredAt = (d.toNegotiateLost p).now := by
  unfold Dev.toNegotiateLost
  refine ⟨?_, ?_, by simp⟩
  · simp (disch := decide) only [Dev.linkState_modLink, Dev.linkState_wr_other, Dev.linkState_linkLost,
      Dev.linkState_setLinkState]
  · rw [Dev.rd_modLink, Dev.rd_wr_other _ (by decide), Dev.rd_wr_self]
    rfl

end Sys2Proof.Machine
end

section
/-! PROOF. Timers of the link layer and a block slot that sends a pennant (spec/04, R104, R105, R107 to R109, R113,
R123, R127, R130). -/

namespace Sys2Proof.Machine

/-! ### Bits of a mask that others are cleared from -/

theorem testBit_sub_two_pow {v i j : Nat} (hi : v.testBit i = true) (hij : i ≠ j) :
    (v - 2 ^ i).testBit j = v.testBit j := by
  induction i generalizing v j with
  | zero =>
    obtain ⟨j, rfl⟩ := Nat.exists_eq_succ_of_ne_zero hij.symm
    rw [Nat.testBit_zero, decide_eq_true_eq] at hi
    rw [Nat.testBit_succ, Nat.testBit_succ]
    congr 1
    omega
  | succ i ih =>
    rw [Nat.testBit_succ] at hi
    have hle := Nat.ge_two_pow_of_testBit hi
    cases j with
    | zero =>
      rw [Nat.testBit_zero, Nat.testBit_zero]
      congr 2
      omega
    | succ j =>
      have hhalf : (v - 2 ^ (i + 1)) / 2 = v / 2 - 2 ^ i := by omega
      rw [Nat.testBit_succ, Nat.testBit_succ, hhalf, ih hi (by omega)]

theorem bitOf_setBit_false_other (v : Nat) {i j : Nat} (h : i ≠ j) : bitOf (setBit v i false) j = bitOf v j := by
  unfold setBit
  split
  · rename_i hv
    rw [bitOf_eq_testBit] at hv
    simpa [bitOf_eq_testBit] using testBit_sub_two_pow hv h
  · rfl

/-- Clearing a bit of a mask field leaves the others as they read. -/
theorem Dev.rdBit_clearBit_other (d : Dev) {f : Fld} {m n : Nat} (hn : n < f.w) (h : m ≠ n) (i k : Nat) :
    (d.wrBit f m false i k).rdBit f n i k = d.rdBit f n i k := by
  have hother := bitOf_setBit_false_other (d.rd f i k) h
  rw [bitOf_eq_testBit, bitOf_eq_testBit] at hother
  simp [Dev.rdBit, Dev.wrBit, bitOf_eq_testBit, Nat.testBit_mod_two_pow, hother, hn]

/-- A bit among those that are cleared one after another reads 0. -/
theorem Dev.rdBit_clearBits (d : Dev) {l : List Nat} {f : Fld} {n : Nat} (hn : n < f.w) (i k : Nat)
    (h : n ∈ l ∨ d.rdBit f n i k = false) :
    (d.each l fun d m => d.wrBit f m false i k).rdBit f n i k = false := by
  unfold Dev.each
  induction l generalizing d with
  | nil => simpa using h
  | cons m l ih =>
    refine ih _ ?_
    by_cases hm : m = n
    · subst hm
      exact .inr (d.rdBit_wrBit hn false i k)
    · rw [d.rdBit_clearBit_other hn hm]
      exact h.imp_left fun hl => (List.mem_cons.1 hl).resolve_left (Ne.symm hm)

/-! ### Pauses (R123) -/

/-- Queues that wake are traffic (R196). -/
theorem Dev.Sends.wakingAll (d : Dev) (x : Nat) (f : Dev → Dev) : (f d).Sends (d.wakingAll x f) := by
  unfold Dev.wakingAll
  dsimp only
  exact (Dev.Sends.refl _).each fun h => .ite h.setQueue.syncQueue h

theorem Dev.link_wakingAll (d : Dev) (x p : Nat) (f : Dev → Dev) : (d.wakingAll x f).link p = (f d).link p := by
  refine Dev.each_keeps (fun e => e.link p) _ _ fun e v => ?_
  split <;> rfl

/-- The VCs of a port whose pause has run out. -/
def Dev.pausesOut (d : Dev) (p : Nat) : List Nat :=
  (List.range 8).filter fun v => match (d.link p).pauseUntil.getD v none with
    | some t => decide (t ≤ d.now)
    | none => false

theorem pauseExpiry_eq (p : Nat) (d : Dev) : pauseExpiry p d = d.wakingAll p fun d' =>
    (d'.each (d.pausesOut p) fun d v => d.wrBit R.LNK_HSTAT_PAUSED_BY_PEER v false p).modLink p fun l =>
      { l with pauseUntil := (List.range 8).map fun v =>
          if (d.pausesOut p).contains v then none else l.pauseUntil.getD v none } := rfl

theorem Dev.mem_pausesOut {d : Dev} {p v t : Nat} (hv : v < 8) (hp : (d.link p).pauseUntil.getD v none = some t)
    (ht : t ≤ d.now) : v ∈ d.pausesOut p := by
  rw [Dev.pausesOut, List.mem_filter, hp]
  simp [hv, ht]

theorem pauseExpiry_out {d : Dev} {p v : Nat} (hv : v < 8) (h : v ∈ d.pausesOut p) :
    ((pauseExpiry p d).link p).pauseUntil.getD v none = none ∧
      (pauseExpiry p d).rdBit R.LNK_HSTAT_PAUSED_BY_PEER v p = false := by
  rw [pauseExpiry_eq]
  constructor
  · rw [Dev.link_wakingAll, Dev.link_modLink]
    simp [hv, h]
  · have hcleared := d.rdBit_clearBits (f := R.LNK_HSTAT_PAUSED_BY_PEER) hv p 0 (.inl h)
    unfold Dev.rdBit at hcleared ⊢
    rwa [(Dev.Sends.wakingAll ..).rd _ (by decide), Dev.rd_modLink]

/-! ### The transmitter (R104, R105, R108, R113) -/

/-- A flit that leaves takes an acknowledgement and a credit count with it, and touches nothing else of its link. -/
theorem Dev.link_emitData (d : Dev) (p : Nat) (t : TxFlit) : ∃ b r u, (d.emitData p t).link p =
    { d.link p with ackDue := none, txBatch := b, reported := r, unrepAt := u } := by
  unfold Dev.emitData
  dsimp only
  rw [Dev.link_emit, Dev.link_setLink]
  split <;> exact ⟨_, _, _, rfl⟩

/-- A new flit takes the next sequence number, and is the last that the replay buffer holds. -/
theorem Dev.link_sendNew (d : Dev) (p : Nat) (k : Packet) (ing vc : Nat) (sop eop stomp : Bool) :
    ∃ b r u t, (d.sendNew p k ing vc sop eop stomp).link p =
      { d.link p with
        txSeq := ((d.link p).txSeq + 1) % d.seqMod p, replay := (d.link p).replay ++ [t]
        ackDue := none, txBatch := b, reported := r, unrepAt := u } := by
  unfold Dev.sendNew
  dsimp only
  rw [Dev.link_count, Dev.link_count]
  set e := d.setLink p _ with he
  have hbunt (q : Packet) (n : Nat) : (if sop = true then e.buntPacket p 1 vc n q stomp else e).link p = e.link p := by
    split
    · exact (e.bunted_buntPacket ..).link p
    · rfl
  obtain ⟨b, r, u, h⟩ := Dev.link_emitData (if sop = true then e.buntPacket p 1 vc (d.link p).txSeq k stomp else e) p
    ⟨(d.link p).txSeq, vc, sop, eop, stomp, k, ing, d.now⟩
  rw [hbunt, he, Dev.link_setLink] at h
  exact ⟨b, r, u, _, h⟩

@[simp] theorem Dev.link_modTrace (d : Dev) (pid p : Nat) (f : Trace → Trace) :
    (d.modTrace pid f).link p = d.link p := by
  unfold Dev.modTrace
  split
  · split <;> rfl
  · rfl

@[simp] theorem Dev.link_markDone (d : Dev) (pid p : Nat) (x : Holder) : (d.markDone pid x).link p = d.link p := by
  unfold Dev.markDone
  split
  · rfl
  · split <;> rfl

/-- A pennant that leaves is no longer waiting, and is kept for replay under its sequence number. -/
theorem Dev.link_sendPennant (d : Dev) (p : Nat) (t : TxPen) :
    ((d.sendPennant p t).link p).txReady = (d.link p).txReady.drop 1 ∧
      ((d.sendPennant p t).link p).replay.length = (d.link p).replay.length + 1 ∧
      ((d.sendPennant p t).link p).txSeq = ((d.link p).txSeq + 1) % d.seqMod p := by
  obtain ⟨b, r, u, x, h⟩ := (d.modLink p fun l => { l with txReady := l.txReady.drop 1 }).link_sendNew p t.pkt t.ing
    t.vc true true false
  unfold Dev.sendPennant Dev.traceSent
  rw [Dev.link_markDone, Dev.link_modTrace, h, Dev.link_modLink]
  exact ⟨rfl, by simp, rfl⟩

/-- A link UP sends the first pennant that waits, while the replay buffer has room. -/
theorem Dev.sendData_pennant {d : Dev} {p : Nat} {t : TxPen} {rest : List TxPen} (hup : d.linkState p = lsUp)
    (hrf : (d.link p).replayFrom = none) (hroom : (d.link p).replay.length < d.maxOutForce p)
    (htx : (d.link p).txReady = t :: rest) : d.sendData p = some (d.sendPennant p t) := by
  simp [Dev.sendData, hup, hrf, hroom.not_ge, htx]

/-- A slot of a link UP in which no word, LCF or LINK_AUTH goes before DATA. -/
theorem transmitBlockSlot_data {d e : Dev} {p : Nat} (hup : d.linkState p = lsUp) (hh : (d.link p).halyOut = [])
    (henc : (d.link p).enc = false) (hlcf : (d.link p).lcfDue = false) (hdata : d.sendData p = some e) :
    transmitBlockSlot p d = e.slotUsed p false := by
  have hneg : d.negotiating p = false := by
    unfold Dev.negotiating
    rw [hup]
    rfl
  simp [transmitBlockSlot, hup, hh, henc, hlcf, hneg, hdata, show lsUp ≠ lsDown by decide]

/-! ### The statement on the link layer's timers -/

/-- Settles O7: each timer comes down to the fields of its link that it writes; a link that goes back to NEGOTIATE keeps
that state through all that is lost with it; a pause that ends clears one bit after another; and a slot that nothing
else claims sends the pennant at the front. -/
theorem linkTimersAndTransmitter : Obligations.LinkTimersAndTransmitter := by
  unfold Obligations.LinkTimersAndTransmitter
  refine ⟨?ackHold, ?lcf, ?credit, ?nak, ?replay, ?neg, ?confirm, ?resync, ?time, ?pause, ?slot⟩
  case ackHold =>
    intro s p t hup hdue ht
    refine Does.of_act rfl ?_
    simp [ackHoldExpiry, hup, hdue, ht]
  case lcf =>
    intro s p hup hlast
    refine Does.of_act rfl ?_
    simp [lcfPeriodic, hup, hlast]
  case credit =>
    intro s p v t hup hun ht
    refine Does.of_act rfl ?_
    rw [creditReportDue, hun]
    simp [hup, ht]
  case nak =>
    intro s p hnak hat
    refine Does.of_act rfl ?_
    simp [nakHoldoffExpiry, hnak, hat]
  case replay =>
    intro s p f rest hup hreplay hfrom hsent htmo
    have hfew : ¬max 1 (s.dev.rd R.LNK_CFG_MAX_TMO p) ≤ (s.dev.link p).timeouts + 1 := by omega
    refine Does.of_act rfl ?_
    simp only [replayTimeout, hreplay, hup, hfrom, hsent, hfew, and_self, if_true, if_false]
    simp
  case neg =>
    intro s p hneg hnext
    refine Does.of_act rfl ?_
    simp [negFlitTimer, hneg, hnext]
  case confirm =>
    intro s p hst hat
    refine Does.of_act rfl ?_
    rw [confirmTimeout, if_pos ⟨hst, hat⟩, Dev.linkState_platform, Dev.rd_platform]
    exact s.dev.toNegotiate_state p
  case resync =>
    intro s p hst hat
    refine Does.of_act rfl ?_
    rw [resyncTimeout, if_pos ⟨hst, hat⟩, Dev.linkState_platform, Dev.rd_platform, Dev.link_platform, Dev.now_platform]
    exact s.dev.toNegotiateLost_state p
  case time =>
    intro s p hst hnext
    refine Does.of_act rfl ?_
    simp [timeWordTimer, hst, hnext, Dev.sendHaly]
  case pause =>
    intro s p v t hv hp ht
    refine Does.of_act rfl ?_
    rw [Dev.link_platform, Dev.rdBit_platform]
    exact pauseExpiry_out hv (Dev.mem_pausesOut hv hp ht)
  case slot =>
    intro s p t rest hup hh henc hlcf hrf hroom htx
    refine Does.of_act rfl ?_
    obtain ⟨hready, hreplay, hseq⟩ := s.dev.link_sendPennant p t
    rw [Dev.link_platform, transmitBlockSlot_data hup hh henc hlcf (Dev.sendData_pennant hup hrf hroom htx),
      Dev.slotUsed, Dev.link_modLink]
    exact ⟨by rw [hready, htx, List.drop_one, List.tail_cons], hreplay, hseq⟩

end Sys2Proof.Machine
end

section
/-! PROOF. Local joins of a hoist, LOCKSTEP_START, the time slots of DET_TIME and TIME words (spec/16, R455, R462, R463;
spec/04, R121, R127). -/

namespace Sys2Proof.Machine

@[simp] theorem Dev.platform_time (b d : Dev) : (b.platform d).time = d.time := by
  obtain ⟨o, ho⟩ := b.platform_frame d
  rw [ho]

@[simp] theorem Dev.platform_tiles (b d : Dev) : (b.platform d).tiles = d.tiles := by
  obtain ⟨o, ho⟩ := b.platform_frame d
  rw [ho]

theorem Dev.inst_platform (b d : Dev) (i : Nat) : (b.platform d).inst i = d.inst i := by simp [Dev.inst]

theorem Dev.tile_platform (b d : Dev) (t : Nat) : (b.platform d).tile t = d.tile t := by simp [Dev.tile]

/-! ### Local joins (R455, R463) -/

@[simp] theorem Dev.inst_setInst (d : Dev) (i : Nat) (x : HoistInst) : (d.setInst i x).inst i = x := by
  simp [Dev.setInst, Dev.inst]

@[simp] theorem Dev.hoist_setInst (d : Dev) (i n : Nat) (x : HoistInst) : (d.setInst i x).hoist n = d.hoist n := rfl

@[simp] theorem Dev.hoist_count (d : Dev) (b i g s n m : Nat) : (d.count b i g s n).hoist m = d.hoist m := rfl

/-- A hoist that lacks arrivals does not settle. -/
theorem Dev.settle_short {d : Dev} {i : Nat}
    (h : (d.inst i).ranks.length + (d.inst i).joins.length < (d.hoist i).nChild + (d.hoist i).nLocal) (n : Nat) :
    Dev.settle n d i = d := by
  cases n with
  | zero => rfl
  | succ n => simp [Dev.settle, h]

/-- An arrival that is not the last leaves the hoist's joins, and the commands in hand, as they were. -/
theorem Dev.arrived_short {d : Dev} {i : Nat}
    (h : (d.inst i).ranks.length + (d.inst i).joins.length < (d.hoist i).nChild + (d.hoist i).nLocal) :
    ((d.arrived i).inst i).joins = (d.inst i).joins ∧ (d.arrived i).mgmt = d.mgmt := by
  unfold Dev.arrived
  dsimp only
  split
  · rw [Dev.settle_short (by exact h)]
    exact ⟨rfl, rfl⟩
  · rw [Dev.settle_short (by simpa using h)]
    exact ⟨by simp, rfl⟩

/-- A hoist under way, with one more local join. -/
def HoistInst.join (x : HoistInst) (j : Join) : HoistInst := { x with joins := x.joins ++ [j] }

/-- A join of the current SEQ that is not the hoist's last arrival is taken and added. -/
theorem Dev.hoistJoin_short {d : Dev} {id : Nat} (hv : (d.hoist (id % 1024)).v = true)
    (hseq : id / 1024 = (d.hoist (id % 1024)).seq)
    (hloc : (d.inst (id % 1024)).joins.length < (d.hoist (id % 1024)).nLocal)
    (hshort : (d.inst (id % 1024)).ranks.length + (d.inst (id % 1024)).joins.length + 1 <
      (d.hoist (id % 1024)).nChild + (d.hoist (id % 1024)).nLocal) (j : Join) :
    ∃ e, d.hoistJoin id j = (e, true) ∧ (e.inst (id % 1024)).joins = (d.inst (id % 1024)).joins ++ [j] ∧
      e.mgmt = d.mgmt := by
  have htaken : d.hoistJoin id j =
      ((d.setInst (id % 1024) ((d.inst (id % 1024)).join j)).arrived (id % 1024), true) := by
    simp [Dev.hoistJoin, HoistInst.join, hv, hseq, hloc.not_ge]
  obtain ⟨hjoins, hmgmt⟩ := Dev.arrived_short (d := d.setInst (id % 1024) ((d.inst (id % 1024)).join j))
    (i := id % 1024) (by simpa [HoistInst.join, Nat.add_assoc] using hshort)
  exact ⟨_, htaken, by rw [hjoins, Dev.inst_setInst, HoistInst.join], hmgmt⟩

/-- A command that has begun runs after its entry is marked, whatever leaves the journal as it is. -/
theorem Dev.running_of_mgmt {d e : Dev} {a : Nat} {j : JEntry} (hj : d.job? a = some j)
    (h : e.mgmt = (d.modJob a fun j => { j with phase := .running }).mgmt) : Running e j := by
  have hrun : (d.modJob a fun j => { j with phase := .running }).job? a = some { j with phase := .running } :=
    Dev.job?_modJob hj fun _ => rfl
  unfold Running
  rw [Dev.job?_aseq hj, Dev.job?_congr h, hrun]
  rfl

@[simp] theorem Dev.hoist_modJob (d : Dev) (a i : Nat) (f : JEntry → JEntry) : (d.modJob a f).hoist i = d.hoist i :=
  rfl
@[simp] theorem Dev.inst_modJob (d : Dev) (a i : Nat) (f : JEntry → JEntry) : (d.modJob a f).inst i = d.inst i := rfl
@[simp] theorem Dev.chRole_modJob (d : Dev) (a ch : Nat) (f : JEntry → JEntry) :
    (d.modJob a f).chRole ch = d.chRole ch := rfl
@[simp] theorem Dev.locked_modJob (d : Dev) (a : Nat) (f : JEntry → JEntry) : (d.modJob a f).locked = d.locked := rfl

/-- HOIST_JOIN runs on once its join is taken. -/
theorem hoistJoin_taken {d e : Dev} {a : Nat} {j : JEntry} (hb : Begun d a 0x0901 j)
    (hv : (d.hoist (j.w 4 % 1024)).v = true) (hrole : d.chRole j.chan ≠ 0 ∨ (d.hoist (j.w 4 % 1024)).burgee = j.burgee)
    (hjoin : (d.modJob a fun j => { j with phase := .running }).hoistJoin (j.w 4) (.cmd a) = (e, true)) :
    hoistJoin a d = e := by
  obtain ⟨hj, hph, hop, -, -⟩ := hb
  have hmay : ¬(d.chRole j.chan = 0 ∧ (d.hoist (j.w 4 % 1024)).burgee ≠ j.burgee) := by tauto
  unfold hoistJoin
  rw [Dev.cmd_begun _ hj hph hop]
  simp only [Dev.hoist_modJob, Dev.chRole_modJob, hv, hmay, hjoin, Bool.true_eq_false, if_false]

/-- LOCKSTEP_START runs on once its join is taken. -/
theorem lockstepStart_taken {d e : Dev} {a : Nat} {j : JEntry} (hb : Begun d a 0x0902 j)
    (hv : (d.hoist (j.w 4 % 1024)).v = true) (hslot : (d.hoist (j.w 4 % 1024)).slot = true)
    (hbur : (d.hoist (j.w 4 % 1024)).burgee = j.burgee) (hlock : d.locked = true) (hdet : d.time.det = 2)
    (hjoin : (d.modJob a fun j => { j with phase := .running }).hoistJoin (j.w 4)
      (.lock a (j.w 5 * 2 ^ 32 + j.w 6)) = (e, true)) :
    lockstepStart a d = e := by
  obtain ⟨hj, hph, hop, -, -⟩ := hb
  unfold lockstepStart
  rw [Dev.cmd_begun _ hj hph hop]
  simp only [Dev.hoist_modJob, Dev.locked_modJob, Dev.modJob_time, hv, hslot, hbur, hlock, hdet, hjoin,
    Bool.true_eq_false, or_self, ne_eq, not_true_eq_false, if_false]

/-! ### Time slots (R462) -/

/-- What a tile that runs would launch has not been left over. -/
theorem Dev.slotLeft_launch_running {d : Dev} {t : Nat} (h : d.tileState t = tsRunning) :
    d.slotLeft (.launch t) = false := by
  simp [Dev.slotLeft, h, tsRunning, tsIdle]

/-- An idle tile starts its first launch that waits. -/
theorem Dev.doSlot_launch {d : Dev} {t : Nat} {l : Launch} {rest : List Launch} (hlq : (d.tile t).lq = l :: rest)
    (hidle : d.tileState t = tsIdle) :
    ((d.doSlot (.launch t)).tile t).lq = rest ∧ (d.doSlot (.launch t)).tileState t = tsRunning ∧
      ((d.doSlot (.launch t)).tile t).prog = some l ∧ (d.doSlot (.launch t)).time = d.time := by
  have hdo : d.doSlot (.launch t) = (d.setTile t { d.tile t with lq := rest }).startProgram t l := by
    simp [Dev.doSlot, hlq, hidle]
  rw [hdo]
  unfold Dev.startProgram
  refine ⟨by simp [Dev.tile], ?_, by simp [Dev.tile], by simp⟩
  rw [Dev.tileState, Dev.rd_count, Dev.setTileState, Dev.rd_wr_self]
  rfl

/-- The device with an item taken out of those that wait for a slot. -/
def Dev.dropSlot (d : Dev) (i : SlotItem) : Dev :=
  { d with time := { d.time with slotReady := d.time.slotReady.erase i } }

/-- A launch that waits is made when its slot starts, and nothing of it is left over. -/
theorem slotStart_launch {d : Dev} {src slot t : Nat} {l : Launch} {rest : List Launch}
    (hopen : d.time.det ≠ 2 ∨ d.now % slotNs < guardAt) (hdue : d.slotDue = [⟨src, slot, .launch t⟩])
    (hlq : (d.tile t).lq = l :: rest) (hidle : d.tileState t = tsIdle) :
    slotStart d = (d.dropSlot ⟨src, slot, .launch t⟩).doSlot (.launch t) := by
  have hnow : ¬(d.time.det = 2 ∧ guardAt ≤ d.now % slotNs) := by omega
  obtain ⟨-, hrun, -, -⟩ := Dev.doSlot_launch (d := d.dropSlot ⟨src, slot, .launch t⟩) hlq hidle
  have hleft := Dev.slotLeft_launch_running hrun
  unfold Dev.dropSlot at hleft ⊢
  unfold slotStart
  rw [if_neg hnow, hdue]
  simp only [Dev.each, List.foldl_cons, List.foldl_nil, hleft, Bool.false_eq_true, false_and, if_false]

/-- An injection that is late when the guard band begins is reported. -/
theorem slotGuardBand_late {d : Dev} (hdet : d.time.det = 2) (hat : guardAt ≤ d.now % slotNs)
    (hlate : (d.time.slotReady.filter fun i => decide (i.slot < d.now / slotNs) && d.slotLeft i.act) ≠ []) :
    (slotGuardBand d).rd R.HUB_FTSTAT_SLOT_OVERRUN = 1 := by
  simp only [slotGuardBand, hdet, ne_eq, not_true_eq_false, false_or, hat.not_gt, if_false, hlate]
  exact Dev.rd_set_self d rfl 0 0

/-! ### TIME words (R121, R127) -/

/-- A TIME word is accepted in every state of its link that takes words (R128). -/
theorem Dev.halyAccepts_time (d : Dev) (p : Nat) : d.halyAccepts p 3 = true := by
  simp [Dev.halyAccepts]

/-- A TIME word of a link that is not followed is kept for the answer alone. -/
theorem Dev.takeTime_unfollowed {d : Dev} (h : d.time.followed = none) (p : Nat) (w : Haly) :
    d.takeTime p w = d.modLink p fun l => { l with timePeer := some (w.hseq, d.now) } := by
  unfold Dev.takeTime
  dsimp only
  split
  · rename_i hf
    rw [Dev.modLink_time, h] at hf
    cases hf
  · rfl

/-- A new TIME word of a link that is not followed: its HSEQ is noted for its type, and kept with its arrival. -/
theorem Dev.takeHaly_time {d : Dev} {p : Nat} {w : Haly} (hw : w.htype = 3) (hst : d.linkState p ≠ lsDown)
    (hnew : (d.link p).halyLast.look 3 ≠ some w.hseq) (hf : d.time.followed = none) (tagOk : Bool) :
    ((d.takeHaly p w tagOk).link p).timePeer = some (w.hseq, d.now) ∧
      ((d.takeHaly p w tagOk).link p).halyLast.look 3 = some w.hseq := by
  have hb := (d.count 0x03 p 1 3).bunted_buntHaly p 0 w
  unfold Dev.takeHaly
  rw [if_neg hst, hw]
  dsimp only
  generalize (d.count 0x03 p 1 3).buntHaly p 0 w = e at hb ⊢
  have hnew' : (e.link p).halyLast.look 3 ≠ some w.hseq := by
    rw [hb.link]
    exact hnew
  have hf' : (e.modLink p fun l => { l with halyLast := l.halyLast.put 3 w.hseq }).time.followed = none := by
    rw [Dev.modLink_time, hb.time]
    exact hf
  simp [hnew', Dev.halyAccepts_time, Dev.actHaly, hw, Dev.takeTime_unfollowed hf', hb.now]

/-! ### The statement on hoist commands, slots and TIME words -/

/-- Settles O23: a join short of the last arrival settles nothing and leaves the journal alone; a slot start makes the
one launch that is due, whose tile then runs; and a TIME word is accepted in every state of its link, and kept for the
answer alone where no link is followed. -/
theorem hoistCommandsSlotsAndHalyard : Obligations.HoistCommandsSlotsAndHalyard := by
  unfold Obligations.HoistCommandsSlotsAndHalyard
  refine ⟨?join, ?lockstep, ?slot, ?guardBand, ?timeWord⟩
  case join =>
    intro s aseq j hb hv hrole hseq hloc hshort
    obtain ⟨e, htaken, hjoins, hmgmt⟩ :=
      Dev.hoistJoin_short (d := s.dev.modJob aseq fun j => { j with phase := .running }) hv hseq hloc hshort (.cmd aseq)
    refine Does.of_act rfl ?_
    rw [hoistJoin_taken hb hv hrole htaken, Dev.inst_platform]
    exact ⟨hjoins, Dev.running_of_mgmt hb.1 ((Dev.platform_mgmt ..).trans hmgmt)⟩
  case lockstep =>
    intro s aseq j hb hv hslot hbur hlock hdet hseq hloc hshort
    obtain ⟨e, htaken, hjoins, hmgmt⟩ :=
      Dev.hoistJoin_short (d := s.dev.modJob aseq fun j => { j with phase := .running }) hv hseq hloc hshort
        (.lock aseq (j.w 5 * 2 ^ 32 + j.w 6))
    refine Does.of_act rfl ?_
    rw [lockstepStart_taken hb hv hslot hbur hlock hdet htaken, Dev.inst_platform]
    exact ⟨hjoins, Dev.running_of_mgmt hb.1 ((Dev.platform_mgmt ..).trans hmgmt)⟩
  case slot =>
    intro s src slot t l rest hopen hdue hlq hidle
    refine Does.of_act rfl ?_
    rw [slotStart_launch hopen hdue hlq hidle, Dev.tile_platform, Dev.tileState, Dev.rd_platform, Dev.platform_time]
    obtain ⟨hrest, hrun, hprog, htime⟩ := Dev.doSlot_launch (d := s.dev.dropSlot ⟨src, slot, .launch t⟩) hlq hidle
    exact ⟨hrest, hrun, hprog, by rw [htime]; rfl⟩
  case guardBand =>
    intro s hdet hat hlate
    refine Does.of_act rfl ?_
    rw [Dev.rd_platform]
    exact slotGuardBand_late hdet hat hlate
  case timeWord =>
    intro s p w tagOk hw hst hnew hf
    refine Does.of_act rfl ?_
    rw [Dev.link_platform]
    exact Dev.takeHaly_time hw hst hnew hf tagOk

end Sys2Proof.Machine
end

section
/-! PROOF. Packets at ingress (spec/05, R139, R144, R147): the statement does not hold of an arrival at a number that
names no port. -/

namespace Sys2Proof.Machine

/-- The record generator's attach point of quadrant 0, which has no ring on VC7 (R144). -/
def noVc7Ring : Nat := attach 0 4

/-- A STATUS pennant of one flit for Thidan. -/
def attachPen : Packet := { pclass := 1, dst := 0xFFFFE, typ := 3, opcode := 0x10 }

/-- Its arrival on VC7 at that attach point. -/
def attachArrival : Arrival := { port := noVc7Ring, vc := 7, pkt := attachPen, seq := 0, stamp := 0 }

/-- The hub on, and that arrival waiting. -/
def attachArrived : State :=
  { dev := ({ net := { arrivals := [attachArrival] } } : Dev).setPd pdHub true, pending := [] }

/-- The ring has no room for the flit (R147), and nothing is stored. -/
theorem packetArrival_attachArrived : (packetArrival noVc7Ring attachArrived.dev).net.nextPid = 0 := by
  decide +kernel

/-- Refutes O8: the clause of PACKET_ARRIVAL speaks of every number `p`, an attach point's too, and a packet that
passes the tests and is for Thidan is discarded where its ring lacks room. -/
theorem not_switchCoreEvents : ¬Obligations.SwitchCoreEvents := by
  unfold Obligations.SwitchCoreEvents
  rintro ⟨-, -, -, -, -, -, -, -, -, -, -, harrival⟩
  have hdoes := harrival attachArrived noVc7Ring attachArrival (by decide) rfl (by decide) rfl (by decide) (by decide)
    (by decide)
  obtain ⟨-, hstored⟩ := Does.platform (c := .packetArrival noVc7Ring) rfl hdoes
  rw [Dev.platform_net, packetArrival_attachArrived] at hstored
  exact absurd hstored (by decide)

end Sys2Proof.Machine
end

section
/-! PROOF. The hub under traffic: looking up, storing, releasing and queueing a packet (spec/05) leaves the
channels, the journal and what else the hub keeps alone, and a packet that has to wait is all that sending one adds
(R147). -/

namespace Sys2Proof.Machine

/-! ### Lookups, records and storage (R113, R144 to R154, R165, R192) -/

/-- A fold that carries a value beside the device, and updates nothing of the hub. -/
theorem Dev.foldlFst_mgmt {α β : Type} {l : List α} {f : Dev × β → α → Dev × β}
    (hf : ∀ x a, (f x a).1.mgmt = x.1.mgmt) (x : Dev × β) : (l.foldl f x).1.mgmt = x.1.mgmt := by
  induction l generalizing x with
  | nil => rfl
  | cons a l ih => exact (ih _).trans (hf x a)

@[simp] theorem Dev.countRefusal_mgmt (d : Dev) (q x : Nat) : (d.countRefusal q x).mgmt = d.mgmt := by
  simp [Dev.countRefusal, apply_ite Dev.mgmt]

@[simp] theorem Dev.countRoute_mgmt (d : Dev) (q : Nat) (r : RouteRes × Bool) : (d.countRoute q r).mgmt = d.mgmt := by
  unfold Dev.countRoute
  dsimp only
  split <;> simp [apply_ite Dev.mgmt]

@[simp] theorem Dev.countLook_mgmt (d : Dev) (q : Nat) (r : RouteRes × Bool)
    (hs : Except Nat (List Holder × List Nat)) : (d.countLook q r hs).mgmt = d.mgmt := by
  unfold Dev.countLook
  dsimp only
  split
  · exact Dev.countRoute_mgmt ..
  · simp [apply_ite Dev.mgmt]
  · exact (Dev.each_keeps Dev.mgmt _ _ fun e x => e.countRefusal_mgmt ..).trans (Dev.countRoute_mgmt ..)

@[simp] theorem Dev.record_mgmt (d : Dev) (q : Nat) (r : FailRec) : (d.record q r).mgmt = d.mgmt := by
  simp [Dev.record, apply_ite Dev.mgmt]

@[simp] theorem Dev.sendHaly_mgmt (d : Dev) (p t b1 b0 w1 w2 w3 : Nat) :
    (d.sendHaly p t b1 b0 w1 w2 w3).mgmt = d.mgmt := rfl

@[simp] theorem Dev.syncPool_mgmt (d : Dev) (q k : Nat) : (d.syncPool q k).mgmt = d.mgmt := rfl

@[simp] theorem Dev.alloc_mgmt (d : Dev) (q f src b vc : Nat) : (d.alloc q f src b vc).1.mgmt = d.mgmt := by
  unfold Dev.alloc
  split
  · rfl
  · simp [apply_ite Prod.fst, apply_ite Dev.mgmt]

@[simp] theorem Dev.setRing_mgmt (d : Dev) (e v : Nat) (l : List RingEnt) : (d.setRing e v l).mgmt = d.mgmt := by
  simp [Dev.setRing, apply_ite Dev.mgmt]

@[simp] theorem Dev.returnCredit_mgmt (d : Dev) (p v n : Nat) : (d.returnCredit p v n).mgmt = d.mgmt := by
  simp [Dev.returnCredit, apply_ite Dev.mgmt]

@[simp] theorem Dev.mirrorCopies_mgmt (d : Dev) (k : Packet) (ing vc : Nat) (hs : List Holder) (stamp : Nat) :
    (d.mirrorCopies k ing vc hs stamp).1.mgmt = d.mgmt := by
  unfold Dev.mirrorCopies
  rw [Dev.foldlFst_mgmt]
  intro x n
  dsimp only
  split
  · rfl
  · split
    · simp
    · simp [apply_ite Prod.fst, apply_ite Dev.mgmt]

@[simp] theorem Dev.storePkt_mgmt (d : Dev) (k : Packet) (ing vc got : Nat) (hs : List Holder) (tag : Option Trace)
    (ctx stamp : Option Nat) : (d.storePkt k ing vc got hs tag ctx stamp).1.mgmt = d.mgmt := by
  have ha : (if (!(isPort ing) && (ing - 512) % 8 = 4) = true then (d, none)
      else d.alloc (quadOf ing) (flitsOf k) ing k.burgee vc).1.mgmt = d.mgmt := by
    simp [apply_ite Prod.fst, apply_ite Dev.mgmt]
  unfold Dev.storePkt
  dsimp only
  rw [← ha]
  generalize (if (!(isPort ing) && (ing - 512) % 8 = 4) = true then (d, none)
    else d.alloc (quadOf ing) (flitsOf k) ing k.burgee vc) = x
  split <;> simp [apply_ite Prod.fst, apply_ite Dev.mgmt]

@[simp] theorem Dev.freeStorage_mgmt (d : Dev) (pid : Nat) (s : Stored) (bad : Option Nat) :
    (d.freeStorage pid s bad).mgmt = d.mgmt := by
  unfold Dev.freeStorage
  split
  · simp [apply_ite Dev.mgmt]
  · cases bad <;> simp [apply_ite Dev.mgmt]

@[simp] theorem Dev.traceWrite_mgmt (d : Dev) (q : Nat) (ws : List Nat) : (d.traceWrite q ws).mgmt = d.mgmt := by
  have hr : (d.rateOk 0 q 1000000).1.mgmt = d.mgmt := by
    obtain ⟨t, ht⟩ := d.rateOk_tel 0 q 1000000
    rw [ht]
  unfold Dev.traceWrite
  split
  all_goals
    rw [‹d.rateOk 0 q 1000000 = _›] at hr
    exact hr

@[simp] theorem Dev.traceEnd_mgmt (d : Dev) (s : Stored) : (d.traceEnd s).mgmt = d.mgmt := by
  unfold Dev.traceEnd
  split
  · rfl
  · exact Dev.traceWrite_mgmt ..

@[simp] theorem Dev.release_mgmt (d : Dev) (pid : Nat) (h : Holder) : (d.release pid h).mgmt = d.mgmt := by
  unfold Dev.release
  split
  · rfl
  · simp [apply_ite Dev.mgmt]

/-! ### Egress queues (R140, R163, R195 to R207) -/

@[simp] theorem Dev.syncQueue_mgmt (d : Dev) (e v : Nat) : (d.syncQueue e v).mgmt = d.mgmt := rfl

@[simp] theorem Dev.quenchSource_mgmt (d : Dev) (q ing src b dst m t : Nat) :
    (d.quenchSource q ing src b dst m t).mgmt = d.mgmt := by
  have hq : (d.filterQuench q src b dst t).1.mgmt = d.mgmt := by
    simp [Dev.filterQuench, apply_ite Prod.fst, apply_ite Dev.mgmt]
  simp [Dev.quenchSource, Dev.applyQuench, apply_ite Dev.mgmt, hq]

@[simp] theorem Dev.failHolder_mgmt (d : Dev) (pid : Nat) (h : Holder) (r b i : Nat) :
    (d.failHolder pid h r b i).mgmt = d.mgmt := by
  unfold Dev.failHolder
  split <;> simp

@[simp] theorem Dev.congestTest_mgmt (d : Dev) (e v pid : Nat) : (d.congestTest e v pid).mgmt = d.mgmt := by
  unfold Dev.congestTest
  split
  · rfl
  · simp [apply_ite Dev.mgmt]

@[simp] theorem Dev.prefetch_mgmt (d : Dev) (e v : Nat) : (d.prefetch e v).mgmt = d.mgmt := by
  unfold Dev.prefetch
  dsimp only
  split
  · rfl
  · split <;> rfl

@[simp] theorem Dev.enqueue_mgmt (d : Dev) (pid : Nat) (h : Holder) (n : Nat) : (d.enqueue pid h n).mgmt = d.mgmt := by
  simp [Dev.enqueue]

@[simp] theorem Dev.enterDesc_mgmt (d : Dev) (pid : Nat) (h : Holder) : (d.enterDesc pid h).mgmt = d.mgmt := by
  unfold Dev.enterDesc
  split
  · rfl
  · simp [apply_ite Dev.mgmt]

/-! ### Packets of internal blocks (R139, R147) -/

@[simp] theorem Dev.lookSend_mgmt (d : Dev) (k : Packet) (ing vc : Nat) : (d.lookSend k ing vc).1.mgmt = d.mgmt := by
  unfold Dev.lookSend
  dsimp only
  split
  · simp
  · simp [Dev.each_keeps Dev.mgmt]
  · split
    · rfl
    · rename_i hstore
      have hs := congrArg (fun x : Dev × Option Nat => x.1.mgmt) hstore
      simp only [Dev.storePkt_mgmt, Dev.countLook_mgmt] at hs
      simp [Dev.each_keeps Dev.mgmt, ← hs]

@[simp] theorem Dev.inject_mgmt (d : Dev) (k : Packet) (ing vc : Nat) : (d.inject k ing vc).1.mgmt = d.mgmt := by
  have hl := d.lookSend_mgmt k ing vc
  unfold Dev.inject
  split
  all_goals
    rw [‹d.lookSend k ing vc = _›] at hl
    exact hl

@[simp] theorem Dev.injectTo_mgmt (d : Dev) (k : Packet) (ing vc : Nat) (hs : List Holder) :
    (d.injectTo k ing vc hs).1.mgmt = d.mgmt := by
  have hst := d.storePkt_mgmt k ing vc (flitsOf k) hs none none none
  unfold Dev.injectTo
  split
  all_goals rw [‹d.storePkt k ing vc (flitsOf k) hs none = _›] at hst
  · exact hst
  · exact (Dev.each_keeps Dev.mgmt _ _ fun e x => e.enterDesc_mgmt ..).trans hst

@[simp] theorem Dev.tryOut_mgmt (d : Dev) (w : Waiting) : (d.tryOut w).1.mgmt = d.mgmt := by
  unfold Dev.tryOut
  split <;> simp

/-- A packet that an internal block sends leaves the journal as it is. -/
@[simp] theorem Dev.sendOut_journal (d : Dev) (k : Packet) (ing vc : Nat) (hs : Option (List Holder)) :
    (d.sendOut k ing vc hs).mgmt.journal = d.mgmt.journal := by
  have ht := d.tryOut_mgmt ⟨k, ing, vc, hs⟩
  unfold Dev.sendOut
  dsimp only
  split
  · rfl
  · split
    · rw [‹d.tryOut _ = _›] at ht
      exact congrArg Mgmt.journal ht
    · rfl

@[simp] theorem Dev.retryOut_journal (d : Dev) : d.retryOut.mgmt.journal = d.mgmt.journal :=
  Dev.each_keeps (fun e => e.mgmt.journal) _ _ fun e _ => e.sendOut_journal ..

@[simp] theorem Dev.hubSend_journal (d : Dev) (k : Packet) (vc : Nat) (p : Option Nat) :
    (d.hubSend k vc p).mgmt.journal = d.mgmt.journal := by
  unfold Dev.hubSend
  split <;> exact Dev.sendOut_journal ..

/-! ### Completions (R410, R414, R429) -/

@[simp] theorem Dev.histPush_journal (d : Dev) (x : HEntry) : (d.histPush x).mgmt.journal = d.mgmt.journal := by
  unfold Dev.histPush
  dsimp only
  split
  · rfl
  · by_cases hlen : d.mgmt.hist.length < 64 <;> simp only [hlen, if_true, if_false] <;> rfl

@[simp] theorem Dev.cmdLost_journal (d : Dev) (ch tag src : Nat) (fab : Bool) :
    (d.cmdLost ch tag src fab).mgmt.journal = d.mgmt.journal := by
  unfold Dev.cmdLost Dev.histRecord
  dsimp only
  split <;> simp

@[simp] theorem Dev.setChan_journal (d : Dev) (ch : Nat) (c : Chan) :
    (d.setChan ch c).mgmt.journal = d.mgmt.journal := rfl

@[simp] theorem Dev.deliver_journal (d : Dev) (ch : Nat) (o : Origin) (tag : Nat) (ws : List Nat) :
    (d.deliver ch o tag ws).mgmt.journal = d.mgmt.journal := by
  unfold Dev.deliver
  split
  · obtain ⟨o, ho⟩ := d.postCpl_eq ch ws
    rw [ho]
    rfl
  · rfl
  · dsimp only
    split
    · simp
    · split <;> simp

/-- A command that is answered leaves the entries of the others in the journal. -/
theorem Dev.job?_complete_other (d : Dev) {a b : Nat} (h : a ≠ b) (st : Nat) (res : List Nat) (detail : Nat) :
    (d.complete a st res detail).job? b = d.job? b := by
  have hfilter : (d.mgmt.journal.filter fun x => x.aseq ≠ a).find? (fun x => x.aseq = b) = d.job? b := by
    rw [List.find?_filter]
    refine congrArg (fun p => d.mgmt.journal.find? p) (funext fun x => ?_)
    by_cases hx : x.aseq = b <;> simp [hx, h.symm]
  unfold Dev.complete
  split
  · rfl
  · rw [← hfilter]
    refine congrArg (List.find? fun x : JEntry => decide (x.aseq = b)) ?_
    dsimp only
    split
    · rw [Dev.syncChan_mgmt, Dev.cmdLost_journal]
      rfl
    · rw [Dev.syncChan_mgmt, Dev.deliver_journal]
      rfl

end Sys2Proof.Machine
end

section
/-! PROOF. CFG_COMMIT (spec/18, R507 to R511; spec/05, R159): how a commit ends, and what one of TUNE sections without
settings does. -/

namespace Sys2Proof.Machine

/-! ### Pauses, RTE.STAT and packets that waited -/

/-- RTE.STAT brought up to date changes the register file alone. -/
theorem Dev.syncRteStat_regs (d : Dev) : ∃ r, d.syncRteStat = { d with regs := r } := by
  refine Dev.each_regs _ _ (fun e q => ?_) d
  dsimp only
  split
  · iterate 9 refine Dev.wr_of_regs ?_ _ _ _ _
    exact ⟨e.regs, rfl⟩
  · iterate 7 refine Dev.wr_of_regs ?_ _ _ _ _
    exact ⟨e.regs, rfl⟩

@[simp] theorem Dev.syncRteStat_net (d : Dev) : d.syncRteStat.net = d.net := by
  obtain ⟨r, hr⟩ := d.syncRteStat_regs
  rw [hr]

@[simp] theorem Dev.syncRteStat_mgmt (d : Dev) : d.syncRteStat.mgmt = d.mgmt := by
  obtain ⟨r, hr⟩ := d.syncRteStat_regs
  rw [hr]

/-- Pauses sent on some ports (R123). -/
theorem Dev.pauses_still (d : Dev) (ps : List Nat) (mask ptime : Nat) :
    (d.each ps fun d p => d.sendPause p mask ptime).still = d.still :=
  Dev.each_keeps Dev.still _ _ fun _ _ => rfl

theorem Dev.pauses_mgmt (d : Dev) (ps : List Nat) (mask ptime : Nat) :
    (d.each ps fun d p => d.sendPause p mask ptime).mgmt = d.mgmt :=
  Dev.each_keeps Dev.mgmt _ _ fun _ _ => rfl

theorem Dev.cancelEdgePauses_still (d : Dev) : d.cancelEdgePauses.still = d.still := d.pauses_still ..

theorem Dev.cancelEdgePauses_mgmt (d : Dev) : d.cancelEdgePauses.mgmt = d.mgmt := d.pauses_mgmt ..

theorem Dev.armed_of_still {d e : Dev} (h : e.still = d.still) : e.net.armed = d.net.armed :=
  have hs : e.still.net.armed = d.still.net.armed := congrArg (fun x : Dev => x.net.armed) h
  hs

theorem Dev.drainUnpause_of_still {d e : Dev} (h : e.still = d.still) : e.net.drainUnpause = d.net.drainUnpause :=
  have hs : e.still.net.drainUnpause = d.still.net.drainUnpause := congrArg (fun x : Dev => x.net.drainUnpause) h
  hs

theorem Dev.Sends.retryOut {d e : Dev} (h : d.Sends e) : d.Sends e.retryOut :=
  Dev.Sends.each (h.same rfl rfl) Dev.Sends.sendOut

/-! ### The end of a commit (R509) -/

/-- A commit's end writes registers and counts before its command completes. -/
theorem Dev.commitEnd_eq (d : Dev) (a st sect detail : Nat) : ∃ r c,
    d.commitEnd a st sect detail = ({ d with regs := r, counters := c } : Dev).complete a st [] detail := by
  unfold Dev.commitEnd
  dsimp only
  split <;> exact ⟨_, _, rfl⟩

theorem Dev.commitEnd_still (d : Dev) (a st sect detail : Nat) : (d.commitEnd a st sect detail).still = d.still := by
  obtain ⟨r, c, h⟩ := d.commitEnd_eq a st sect detail
  rw [h]
  exact (Dev.Sends.refl _).complete.still

theorem Dev.commitEnd_answered {d : Dev} {a : Nat} {j : JEntry} (h : d.job? a = some j) (ho : j.pkt.origin = .pcie)
    (hl : j.lost = false) (st : Nat) : Answered (d.commitEnd a st) j st := by
  obtain ⟨r, c, hend⟩ := d.commitEnd_eq a st 0 0
  rw [hend]
  exact Dev.complete_pcie (d := { d with regs := r, counters := c }) h ho hl st [] 0

theorem Dev.job?_commitEnd_other (d : Dev) {a b : Nat} (h : a ≠ b) (st : Nat) :
    (d.commitEnd a st).job? b = d.job? b := by
  obtain ⟨r, c, hend⟩ := d.commitEnd_eq a st 0 0
  rw [hend]
  exact Dev.job?_complete_other _ h ..

/-- A commit that ends OK sets CFG_DONE and shows its status. -/
theorem Dev.rd_commitEnd_ok (d : Dev) (a : Nat) : (d.commitEnd a St.ok).rd R.HUB_BOOT_CFG_DONE = 1 ∧
    (d.commitEnd a St.ok).rd R.HUB_CFGSTAT_LAST_STATUS = St.ok := by
  have hc (e : Dev) : e.Sends (e.complete a St.ok) := (Dev.Sends.refl e).complete
  unfold Dev.commitEnd
  simp only [if_true]
  rw [(hc _).rd _ (by decide), (hc _).rd _ (by decide)]
  simp (disch := decide) only [Dev.rd_count, Dev.bump, Dev.set, Dev.rd_wr_other, Dev.rd_wr_self]
  exact ⟨rfl, rfl⟩

theorem Dev.rdBit_commitEnd_locked (d : Dev) (a n : Nat) :
    (d.commitEnd a St.ok).rdBit R.HUB_LOCK_LOCKED n = d.rdBit R.HUB_LOCK_LOCKED n := by
  unfold Dev.commitEnd Dev.rdBit
  simp only [if_true]
  rw [(Dev.Sends.refl _).complete.rd _ (by decide)]
  simp (disch := decide) only [Dev.rd_count, Dev.bump, Dev.set, Dev.rd_wr_other]

/-! ### Commits of TUNE sections that set nothing -/

/-- A fold whose every step leaves this device as it is. -/
theorem Dev.each_self {α : Type} {d : Dev} {l : List α} {f : Dev → α → Dev} (h : ∀ a ∈ l, f d a = d) :
    d.each l f = d := by
  unfold Dev.each
  induction l with
  | nil => rfl
  | cons a l ih =>
    obtain ⟨ha, hl⟩ := List.forall_mem_cons.1 h
    rw [List.foldl_cons, ha]
    exact ih hl

/-- Sections of TYPE TUNE without settings. -/
def TuneOnly (ss : List CfgSect) : Prop := ∀ s ∈ ss, s.ty = tyTune ∧ s.body.sets = []

theorem tuneOnly_iff {ss : List CfgSect} :
    (ss.all fun s => s.ty = tyTune && s.body.sets = []) = true ↔ TuneOnly ss := by
  simp [TuneOnly]

section
variable {ss : List CfgSect} (h : TuneOnly ss)
include h

theorem TuneOnly.ofType {ty : Nat} (hty : ty ≠ tyTune) : ofType ss ty = [] := by
  refine List.filter_eq_nil_iff.2 fun x hx => ?_
  obtain ⟨ht, -⟩ := h x.1 (List.fst_mem_of_mem_zipIdx hx)
  simpa [ht] using hty.symm

/-- Their settings written change nothing. -/
theorem TuneOnly.applySets (d : Dev) {s : CfgSect} (hs : s ∈ ss) (qs : List Nat) (glob : Bool) :
    d.applySets s qs glob = d := by
  obtain ⟨-, hset⟩ := h s hs
  simp [Dev.applySets, hset, Dev.each]

/-- Nor do their tables (R509 step 5). -/
theorem TuneOnly.writeSect (d : Dev) {s : CfgSect} (hs : s ∈ ss) (qs : List Nat) (glob : Bool) :
    d.writeSect s qs glob = d := by
  obtain ⟨ht, -⟩ := h s hs
  simp [Dev.writeSect, h.applySets d hs, Dev.writeTables, ht, tyTune, tyTenant, tyRedtree, tyHoist, tyDispatch,
    tySchedule]

/-- The device as they leave it is the device as it is. -/
theorem TuneOnly.preview (d : Dev) : d.preview ss = d := by
  refine Dev.each_self fun s hs => ?_
  obtain ⟨ht, -⟩ := h s hs
  simp [h.applySets d hs, ht, tyTune, tyBufprof]

/-- They lock no block (R510). -/
theorem TuneOnly.locks : ss.flatMap CfgSect.locks = [] := by
  refine List.flatMap_eq_nil_iff.2 fun s hs => ?_
  obtain ⟨ht, hset⟩ := h s hs
  simp [CfgSect.locks, ht, hset, tyTune, tyPortmap, tyLinkcfg, tyBufprof, tyRoute, tyTenant, tyRedtree, tyTime, tyHoist,
    tyDispatch, tySchedule]

end

/-! ### Steps 5 to 8 of a commit (R509), one after the other -/

/-- Step 5: the sections other than PORTMAP and BUFPROF written, with the commit no longer waiting. -/
def Dev.writeRest (d : Dev) (ss : List CfgSect) : Dev :=
  (({ d with mgmt := { d.mgmt with cfgJob := none } } : Dev).each
    (ss.filter fun s => s.ty ≠ tyPortmap && s.ty ≠ tyBufprof) fun d s => d.writeSect s [0, 1, 2, 3] true).syncMap

/-- Step 6: the determinism mode and the class, where the commit sets them. -/
def Dev.setModes (d : Dev) (c : CfgJob) : Dev :=
  let d := if c.det = 3 then d else ({ d with time := { d.time with det := c.det } } : Dev).wr R.PWR_OPSTAT_DET c.det
  if c.cls = 3 then d
  else ({ d with time := { d.time with redClass := c.cls } } : Dev).wr R.PWR_OPSTAT_RED_CLASS c.cls

/-- Step 8: the blocks that the sections write, and SEC, locked (R510), and the sections kept (R511). -/
def Dev.lockAndKeep (d : Dev) (c : CfgJob) : Dev :=
  let d := d.each (c.sects.flatMap CfgSect.locks ++ [1]) fun d b => d.wrBit R.HUB_LOCK_LOCKED b true
  { d with mgmt := { d.mgmt with
    cfgFabric := if c.isLocal then d.mgmt.cfgFabric else c.sects
    cfgLocal := if c.isLocal then c.sects else [] } }

/-- The lanes of reformed ports leave service. -/
def Dev.lanesOff (d : Dev) (ls : List Nat) : Dev :=
  d.each (ls.filter fun x => d.pdOn (pdOe (x / 32))) fun d x =>
    ((d.setLaneState x laOff).modLane x fun _ => {}).emit (.laneTx x 0)

theorem Dev.finishCommit_eq (d : Dev) (c : CfgJob) : d.finishCommit c =
    let e := d.writeRest c.sects
    let e := if ofType c.sects tyTime = [] then e else e.syncServo
    let e := ((e.setModes c).lockAndKeep c).lanesOff c.reform
    match ofType c.sects tyRoute with
    | [] => e.commitEnd c.aseq St.ok
    | s :: _ =>
      let a : Armed := { mode := c.mode, t := c.t, hoist := s.1.body.route.hoist, aseq := c.aseq }
      let e := ({ e with net := { e.net with armed := some a } } : Dev).syncRteStat
      if c.mode = 0 then e.makeSwitch else e := rfl

@[simp] theorem Dev.syncMap_mgmt (d : Dev) : d.syncMap.mgmt = d.mgmt := Dev.each_keeps Dev.mgmt _ _ fun _ _ => rfl

@[simp] theorem Dev.setModes_mgmt (d : Dev) (c : CfgJob) : (d.setModes c).mgmt = d.mgmt := by
  simp [Dev.setModes, apply_ite Dev.mgmt]

section
variable {c : CfgJob} (h : TuneOnly c.sects)
include h

/-- A commit of TUNE sections without settings and without ports to re-form. -/
theorem Dev.finishCommit_tuneOnly (d : Dev) (hre : c.reform = []) : d.finishCommit c =
    (((d.writeRest c.sects).setModes c).lockAndKeep c).commitEnd c.aseq St.ok := by
  rw [Dev.finishCommit_eq, h.ofType (ty := tyRoute) (by decide), h.ofType (ty := tyTime) (by decide), hre]
  rfl

theorem Dev.writeRest_tuneOnly_mgmt (d : Dev) :
    (d.writeRest c.sects).mgmt = { d.mgmt with cfgJob := none } := by
  rw [Dev.writeRest, Dev.syncMap_mgmt, Dev.each_self fun s hs => h.writeSect _ (List.mem_of_mem_filter hs) ..]

/-- Such sections leave nothing but SEC to be locked. -/
theorem Dev.lockAndKeep_tuneOnly (d : Dev) : d.lockAndKeep c =
    { d.wrBit R.HUB_LOCK_LOCKED 1 true with mgmt := { d.mgmt with
        cfgFabric := if c.isLocal then d.mgmt.cfgFabric else c.sects
        cfgLocal := if c.isLocal then c.sects else [] } } := by
  rw [Dev.lockAndKeep, h.locks]
  rfl

/-- What stands when such a commit has ended. -/
theorem Dev.finishCommit_tuneOnly_ends (d : Dev) (hre : c.reform = []) :
    (d.finishCommit c).rd R.HUB_BOOT_CFG_DONE = 1 ∧ (d.finishCommit c).rd R.HUB_CFGSTAT_LAST_STATUS = St.ok ∧
      (d.finishCommit c).rdBit R.HUB_LOCK_LOCKED 1 = true ∧ (d.finishCommit c).mgmt.cfgJob = none ∧
      (d.finishCommit c).mgmt.cfgLocal = if c.isLocal then c.sects else [] := by
  rw [Dev.finishCommit_tuneOnly h d hre]
  set e := ((d.writeRest c.sects).setModes c).lockAndKeep c with he
  obtain ⟨hdone, hstatus⟩ := e.rd_commitEnd_ok c.aseq
  rw [Dev.lockAndKeep_tuneOnly h] at he
  have hlocked : e.rdBit R.HUB_LOCK_LOCKED 1 = true := by
    rw [he]
    exact Dev.rdBit_wrBit_self _ (by decide) 0 0
  have hjob : e.mgmt.cfgJob = none := by
    rw [he]
    simp [Dev.writeRest_tuneOnly_mgmt h]
  have hlocal : e.mgmt.cfgLocal = if c.isLocal then c.sects else [] := by rw [he]
  have hstill := e.commitEnd_still c.aseq St.ok 0 0
  exact ⟨hdone, hstatus, (e.rdBit_commitEnd_locked ..).trans hlocked,
    (congrArg (fun x : Dev => x.mgmt.cfgJob) hstill).trans hjob,
    (congrArg (fun x : Dev => x.mgmt.cfgLocal) hstill).trans hlocal⟩

/-- The command of such a commit is answered. -/
theorem Dev.finishCommit_tuneOnly_answered {d : Dev} {j : JEntry} (hre : c.reform = []) (hj : d.job? c.aseq = some j)
    (ho : j.pkt.origin = .pcie) (hl : j.lost = false) : Answered (d.finishCommit c) j St.ok := by
  rw [Dev.finishCommit_tuneOnly h d hre]
  refine Dev.commitEnd_answered ?_ ho hl _
  have hjournal : (((d.writeRest c.sects).setModes c).lockAndKeep c).mgmt.journal = d.mgmt.journal := by
    simp [Dev.lockAndKeep_tuneOnly h, Dev.writeRest_tuneOnly_mgmt h]
  rw [Dev.job?, hjournal]
  exact hj

/-- No port, layout or grant changes for such a commit, which is re-laid with no quadrant held for it. -/
theorem Dev.relayAll_tuneOnly (d : Dev) (hq : c.quads = []) : d.relayAll c = Dev.retryOut
    { d with
      net := { d.net with held := d.net.held.filter fun q => !(c.quads.contains q) }
      mgmt := { d.mgmt with cfgJob := some { c with relaid := true, reform := [] } } } := by
  have hsets : (c.sects.filter fun s => s.ty = tyPortmap || s.ty = tyLinkcfg) = [] := by
    refine List.filter_eq_nil_iff.2 fun s hs => ?_
    obtain ⟨ht, -⟩ := h s hs
    simp [ht, tyTune, tyPortmap, tyLinkcfg]
  have hps : d.reformed (d.preview c.sects) = [] := by simp [h.preview, Dev.reformed]
  unfold Dev.relayAll
  simp only [hsets, hps, h.ofType (ty := tyBufprof) (by decide), hq, List.flatMap_nil, List.filter_nil,
    List.eraseDups_nil]
  rfl

/-- No check of step 2 refuses TUNE sections (R509). -/
theorem Dev.commitChecks_tuneOnly (d e : Dev) (hdet : c.det ≠ 2) : d.commitChecks e c = none := by
  have hmaps : (c.sects.zipIdx.filter fun s => s.1.ty = tyHbmmap || s.1.ty = tyRedtree) = [] := by
    refine List.filter_eq_nil_iff.2 fun s hs => ?_
    obtain ⟨ht, -⟩ := h s.1 (List.fst_mem_of_mem_zipIdx hs)
    simp [ht, tyTune, tyHbmmap, tyRedtree]
  have hty (ty : Nat) (hne : ty ≠ tyTune) := h.ofType hne
  unfold Dev.commitChecks
  simp only [hmaps, hty tyRedtree (by decide), hty tyDispatch (by decide), hty tyHoist (by decide),
    hty tyRoute (by decide), hdet]
  simp

/-- Such a commit is carried out at once: no quadrant has to drain (R159). -/
theorem Dev.runCommit_tuneOnly (d : Dev) (digest : Nat) (hdet : c.det ≠ 2) (hq : c.quads = []) :
    d.runCommit c digest = (d.relayAll c).finishCommit c := by
  have hc : ({ c with quads := [] } : CfgJob) = c := by rw [← hq]
  have hsame : ([0, 1, 2, 3].filter fun q =>
      d.layoutChanges d q || (d.reformed d).any fun p => p / 128 = q) = [] := by
    simp [Dev.layoutChanges, Dev.reformed]
  have hnone : firstCheck [] = none := by decide
  unfold Dev.runCommit
  simp only [h.preview, h.ofType (ty := tyBufprof) (by decide), h.ofType (ty := tyRoute) (by decide),
    Dev.routeResults, List.flatMap_nil, List.find?_nil, Dev.each, List.foldl_nil, hnone,
    Dev.commitChecks_tuneOnly h _ _ hdet, hsame, ne_eq, not_true_eq_false, false_and, if_false, if_true, hc]

end

/-! ### CFG_COMMIT (R507 to R509) -/

/-- The commit of an image that CFG_COMMIT has read from its buffer. -/
def commitOf (aseq : Nat) (bodies : List CfgBody) (j : JEntry) (bs : List Nat) (now : Nat) : CfgJob :=
  { aseq := aseq, sects := sectsOf bs bodies, mode := bits (j.w 8) 1 0, t := j.w 9 * 2 ^ 32 + j.w 10
    det := bits (j.w 8) 3 2, cls := bits (j.w 8) 5 4, isLocal := imgLocal bs, quads := [], start := now }

/-- An owner-local image that keeps R507 and R508, given by a channel of the owner and signed, is carried out. -/
theorem cfgCommit_local {d : Dev} {aseq : Nat} {bodies : List CfgBody} {j : JEntry} {bs : List Nat}
    (hb : Begun d aseq 0x0201 j) (hmode : bits (j.w 8) 1 0 ≠ 3) (hidle : d.mgmt.cfgJob = none)
    (hbuf : d.bufIn j (j.bref 4) = .ok (some bs)) (hcls : bits (j.w 8) 5 4 ≠ 2) (hhead : headerOk bs = true)
    (hbad : badSection bs = none) (hlocal : imgLocal bs = true) (hrole : d.chRole j.chan = 1) :
    cfgCommit aseq bodies true d = (d.modJob aseq fun j => { j with phase := .running }).runCommit
      (commitOf aseq bodies j bs d.now) (imgDigest bs) := by
  obtain ⟨hj, hph, hop, -, -⟩ := hb
  have hrole' : (d.modJob aseq fun j => { j with phase := .running }).chRole j.chan = 1 := hrole
  unfold cfgCommit
  simp only [hj, hmode, hidle, hbuf, Option.isSome_none, Bool.false_eq_true, or_self, if_false]
  rw [Dev.cmd_begun _ hj hph hop]
  simp only [hcls, hhead, hbad, hlocal, hrole', Bool.true_eq_false, Bool.not_true, Bool.false_eq_true, ne_eq,
    not_true_eq_false, and_false, false_and, or_self, if_false]
  rw [commitOf, hlocal]
  rfl

theorem eq_ok_some_of_match {x : Except Nat (Option (List Nat))} {bs : List Nat}
    (h : (match x with
      | .ok y => y
      | .error _ => none) = some bs) : x = .ok (some bs) := by
  cases x with
  | ok y => exact congrArg Except.ok h
  | error e => cases h

end Sys2Proof.Machine
end

section
/-! PROOF. The switch of route banks, its drain and its cancellation (spec/06, R186 to R190; spec/18, R509), and the
statement on configuration. -/

namespace Sys2Proof.Machine

/-! ### Switches of banks (R186 to R188, R190) -/

/-- The part of the device that a switch of banks changes. -/
def Dev.switching (d : Dev) : Tab Nat (Bank × Bank) × Tab (Nat × Nat) (List Nat) × Option Armed :=
  (d.net.banks, d.net.masks, d.net.armed)

theorem Dev.switching_of_still {d e : Dev} (h : e.still = d.still) : e.switching = d.switching :=
  have hs : e.still.switching = d.still.switching := congrArg Dev.switching h
  hs

@[simp] theorem Dev.switching_setPortRoute (d : Dev) (p : Nat) (x : PortRoute) :
    (d.setPortRoute p x).switching = d.switching := rfl

@[simp] theorem Dev.switching_count (d : Dev) (b i g s n : Nat) : (d.count b i g s n).switching = d.switching := rfl

@[simp] theorem Dev.switching_syncLdown (d : Dev) (p : Nat) (v : Bool) : (d.syncLdown p v).switching = d.switching :=
  Dev.each_keeps Dev.switching _ _ fun _ _ => rfl

/-- A notice sent (R180). -/
@[simp] theorem Dev.switching_originate (d : Dev) (r : Bool) (ids : List Nat) :
    (d.originate r ids).switching = d.switching := by
  unfold Dev.originate
  split
  · rfl
  · exact Dev.each_keeps Dev.switching _ _ fun e _ =>
      Dev.switching_of_still ((Dev.Sends.refl e).sendOut.count).still

@[simp] theorem Dev.switching_syncExcl (d : Dev) (p : Nat) : (d.syncExcl p).switching = d.switching := by
  unfold Dev.syncExcl
  simp [apply_ite Dev.switching]

@[simp] theorem Dev.switching_recheckPeers (d : Dev) : d.recheckPeers.switching = d.switching := by
  refine Dev.each_keeps Dev.switching _ _ fun e p => ?_
  dsimp only
  split <;> simp

@[simp] theorem Dev.switching_syncRteStat (d : Dev) : d.syncRteStat.switching = d.switching := by
  simp [Dev.switching]

/-- The banks of a quadrant changed over: the old one is invalid. -/
def Dev.bankOver (d : Dev) (q : Nat) : Dev :=
  let b := d.net.banks.get q ({}, {})
  ({ d with net := { d.net with
    banks := d.net.banks.put q (b.2, { b.1 with valid := false }) } } : Dev).count 0x06 q 0 3

/-- The banks of the four quadrants changed over, the masks cleared and the switch no longer armed. -/
def Dev.banksOver (d : Dev) : Dev :=
  let d := d.each [0, 1, 2, 3] Dev.bankOver
  { d with net := { d.net with masks := [], armed := none } }

theorem Dev.switchBanks_eq (d : Dev) : d.switchBanks =
    let e := d.banksOver.recheckPeers.syncRteStat
    let ps := (List.range 512).filter fun p => e.localExcl p && (e.attr (p / 128) p).noticeV
    let ids := chunks8 64 (ps.map fun p => (e.attr (p / 128) p).noticeId)
    (e.each ids fun d ids => d.originate false ids).each ps fun d p =>
      d.setPortRoute p { d.portRoute p with noticeAt := some (d.now + 100000000) } := rfl

/-- What follows the change in a switch gives notices and leaves the banks alone (R187, R190). -/
theorem Dev.switching_switchBanks (d : Dev) : d.switchBanks.switching = d.banksOver.switching := by
  have hsent (e : Dev) (l : List (List Nat)) :
      (e.each l fun d ids => d.originate false ids).switching = e.switching :=
    Dev.each_keeps Dev.switching _ _ fun e ids => e.switching_originate ..
  rw [Dev.switchBanks_eq]
  dsimp only
  rw [Dev.each_keeps Dev.switching _ _ fun _ _ => Dev.switching_setPortRoute .., hsent, Dev.switching_syncRteStat,
    Dev.switching_recheckPeers]

/-- A quadrant changed over once has its shadow bank as the active one. -/
theorem Dev.bank_each_bankOver (d : Dev) {l : List Nat} (hl : l.Nodup) (q : Nat) :
    (d.each l Dev.bankOver).bank q = if q ∈ l then (d.net.banks.get q ({}, {})).2 else d.bank q := by
  have hone (e : Dev) (a : Nat) : (e.bankOver a).net.banks.get q ({}, {}) =
      if a = q then ((e.net.banks.get a ({}, {})).2, { (e.net.banks.get a ({}, {})).1 with valid := false })
      else e.net.banks.get q ({}, {}) := Tab.get_put ..
  unfold Dev.each
  induction l generalizing d with
  | nil => rfl
  | cons a l ih =>
    obtain ⟨ha, hl⟩ := List.nodup_cons.1 hl
    rw [List.foldl_cons, ih _ hl, Dev.bank, hone]
    by_cases hq : a = q
    · subst hq
      simp [ha]
    · simp [hq, Ne.symm hq, Dev.bank]

@[simp] theorem Dev.bank_platform (b d : Dev) (q : Nat) : (b.platform d).bank q = d.bank q := by simp [Dev.bank]

theorem Dev.bank_banksOver (d : Dev) {q : Nat} (hq : q < 4) :
    d.banksOver.bank q = (d.net.banks.get q ({}, {})).2 := by
  have hmem : q ∈ [0, 1, 2, 3] := by interval_cases q <;> decide
  exact (d.bank_each_bankOver (by decide) q).trans (if_pos hmem)

/-- A switch at its time, or at once, makes the shadow banks the active ones (R187). -/
theorem Dev.makeSwitch_banks {d : Dev} {a : Armed} (ha : d.net.armed = some a) (hmode : a.mode ≠ 2) :
    d.makeSwitch.switching = d.banksOver.switching := by
  unfold Dev.makeSwitch
  simp only [ha, hmode, if_false]
  exact (Dev.switching_of_still (Dev.commitEnd_still ..)).trans d.switching_switchBanks

/-! ### Drains (R159, R188) -/

/-- An arrival that is not the last leaves the fabric side as it is. -/
theorem Dev.arrived_short_net {d : Dev} {i : Nat}
    (h : (d.inst i).ranks.length + (d.inst i).joins.length < (d.hoist i).nChild + (d.hoist i).nLocal) :
    (d.arrived i).net = d.net := by
  unfold Dev.arrived
  dsimp only
  split
  · rw [Dev.settle_short (by exact h)]
    rfl
  · rw [Dev.settle_short (by simpa using h)]
    rfl

/-- A join with a deadline of its own (R461) that is not the hoist's last arrival is taken and added. -/
theorem Dev.hoistJoin_deadline_short {d : Dev} {id : Nat} (hv : (d.hoist (id % 1024)).v = true)
    (hseq : id / 1024 = (d.hoist (id % 1024)).seq)
    (hloc : (d.inst (id % 1024)).joins.length < (d.hoist (id % 1024)).nLocal)
    (hshort : (d.inst (id % 1024)).ranks.length + (d.inst (id % 1024)).joins.length + 1 <
      (d.hoist (id % 1024)).nChild + (d.hoist (id % 1024)).nLocal) (j : Join) (t : Nat) :
    ∃ e, d.hoistJoin id j (some t) = (e, true) ∧ (e.inst (id % 1024)).joins = (d.inst (id % 1024)).joins ++ [j] ∧
      e.net = d.net := by
  set x : HoistInst := { (d.inst (id % 1024)).join j with deadlineAt := t } with hx
  have htaken : d.hoistJoin id j (some t) = ((d.setInst (id % 1024) x).arrived (id % 1024), true) := by
    simp [Dev.hoistJoin, HoistInst.join, hx, hv, hseq, hloc.not_ge]
  have hleft : ((d.setInst (id % 1024) x).inst (id % 1024)).ranks.length +
      ((d.setInst (id % 1024) x).inst (id % 1024)).joins.length <
      ((d.setInst (id % 1024) x).hoist (id % 1024)).nChild + ((d.setInst (id % 1024) x).hoist (id % 1024)).nLocal := by
    simpa [HoistInst.join, hx, Nat.add_assoc] using hshort
  obtain ⟨hjoins, -⟩ := Dev.arrived_short hleft
  exact ⟨_, htaken, by rw [hjoins, Dev.inst_setInst, hx, HoistInst.join], Dev.arrived_short_net hleft⟩

/-- A drain that is done joins its hoist (R188). -/
theorem drainComplete_joins {d : Dev} {a : Armed} (ha : d.net.armed = some a) (hdr : a.draining = true)
    (hjoin : a.joined = false) (hempty : d.dataEmpty = true) (hv : (d.hoist (a.hoist % 1024)).v = true)
    (hseq : a.hoist / 1024 = (d.hoist (a.hoist % 1024)).seq)
    (hloc : (d.inst (a.hoist % 1024)).joins.length < (d.hoist (a.hoist % 1024)).nLocal)
    (hshort : (d.inst (a.hoist % 1024)).ranks.length + (d.inst (a.hoist % 1024)).joins.length + 1 <
      (d.hoist (a.hoist % 1024)).nChild + (d.hoist (a.hoist % 1024)).nLocal) :
    (drainComplete d).net.armed = some { a with joined := true } ∧
      ((drainComplete d).inst (a.hoist % 1024)).joins = (d.inst (a.hoist % 1024)).joins ++ [.drain] := by
  obtain ⟨e, htaken, hjoins, hnet⟩ := Dev.hoistJoin_deadline_short
    (d := { d with net := { d.net with armed := some { a with joined := true } } }) hv hseq hloc hshort .drain
    (d.drainLimit a)
  have hdone : drainComplete d = e := by
    unfold drainComplete
    rw [ha]
    dsimp only
    rw [if_pos ⟨hdr, hjoin, hempty⟩]
    exact congrArg (fun x : Dev × Bool => match x with
      | (d, true) => d
      | (d, false) => d.abandonSwitch) htaken
  rw [hdone, hnet]
  exact ⟨rfl, hjoins⟩

/-- The commit that waits, and the quadrants held for it. -/
def Dev.waiting (d : Dev) : Option CfgJob × List Nat := (d.mgmt.cfgJob, d.net.held)

theorem Dev.waiting_of_still {d e : Dev} (h : e.still = d.still) : e.waiting = d.waiting :=
  have hs : e.still.waiting = d.still.waiting := congrArg Dev.waiting h
  hs

theorem Dev.waiting_shadowInvalid (d : Dev) : d.shadowInvalid.waiting = d.waiting := by
  unfold Dev.shadowInvalid
  have hbanks : (d.each [0, 1, 2, 3] fun d q =>
      let b := d.net.banks.get q ({}, {})
      { d with net := { d.net with banks := d.net.banks.put q (b.1, { b.2 with valid := false }) } }).waiting =
      d.waiting := Dev.each_keeps Dev.waiting _ _ fun _ _ => rfl
  simpa [Dev.waiting] using hbanks

/-- A commit given up waits no longer, and its quadrants are held no longer (R159). -/
theorem bufProfileDrainTimeout_late {d : Dev} {c : CfgJob} (hc : d.mgmt.cfgJob = some c) (hre : c.relaid = false)
    (hlate : c.start + 10000000 ≤ d.now) (hfull : c.quads.all d.quadEmpty = false) :
    (bufProfileDrainTimeout d).waiting = (none, d.net.held.filter fun q => !(c.quads.contains q)) := by
  unfold bufProfileDrainTimeout
  simp only [hc, hre, hlate.not_gt, hfull, Bool.false_eq_true, or_self, if_false]
  rw [Dev.waiting_of_still (Dev.Sends.refl _).retryOut.still, Dev.refuseCommit,
    Dev.waiting_of_still (Dev.commitEnd_still ..), apply_ite Dev.waiting, Dev.waiting_shadowInvalid, ite_self,
    Dev.waiting_of_still (Dev.pauses_still ..)]
  rfl

/-- CANCEL disarms the switch, ends the commit that armed it, and is answered (R186). -/
theorem cfgCommitCancel_disarms {d : Dev} {aseq : Nat} {j : JEntry} {a : Armed} (hb : Begun d aseq 0x0201 j)
    (hmode : bits (j.w 8) 1 0 = 3) (ha : d.net.armed = some a) (hjoin : a.joined = false) (hne : a.aseq ≠ aseq) :
    Answered (cfgCommitCancel aseq d) j St.ok ∧ (cfgCommitCancel aseq d).net.armed = none := by
  obtain ⟨hj, hph, hop, ho, hl⟩ := hb
  have ha' : (d.modJob aseq fun j => { j with phase := .running }).net.armed = some a := ha
  have hrun : (d.modJob aseq fun j => { j with phase := .running }).job? aseq = some { j with phase := .running } :=
    Dev.job?_modJob hj fun _ => rfl
  unfold cfgCommitCancel
  simp only [hj, hmode, ne_eq, not_true_eq_false, if_false]
  rw [Dev.cmd_begun _ hj hph hop]
  simp only [ha', hjoin, Bool.false_eq_true, if_false]
  generalize d.modJob aseq (fun j => { j with phase := .running }) = e at hrun ⊢
  set y : Dev := (if a.draining = true then ({ e with net := { e.net with armed := none } } : Dev).cancelEdgePauses
    else { e with net := { e.net with armed := none } }).syncRteStat with hy
  have hmgmt : y.mgmt = e.mgmt := by
    rw [hy, Dev.syncRteStat_mgmt]
    split
    · exact Dev.cancelEdgePauses_mgmt _
    · rfl
  have harmed : y.net.armed = none := by
    rw [hy, Dev.syncRteStat_net]
    split
    · rw [Dev.armed_of_still (Dev.cancelEdgePauses_still _)]
    · rfl
  constructor
  · refine Dev.complete_pcie (j := { j with phase := .running }) ?_ ho hl _ _ _
    exact (Dev.job?_commitEnd_other y hne _).trans ((Dev.job?_congr hmgmt aseq).trans hrun)
  · rw [Dev.armed_of_still (Dev.Sends.refl _).complete.still, Dev.wr_net, Dev.armed_of_still (y.commitEnd_still ..),
      harmed]

/-! ### The statement on configuration and switches -/

/-- Settles O27: TUNE sections without settings change nothing of the device, so that their commit comes down to the
locks, CFG_DONE and its end; CANCEL, a drain and a switch come down to the fields that they write, which the pauses,
notices and completions that follow leave alone. -/
theorem configurationAndSwitches : Obligations.ConfigurationAndSwitches := by
  unfold Obligations.ConfigurationAndSwitches
  refine ⟨?commit, ?cancel, ?drained, ?drainEnd, ?timeout, ?atTime, ?drainStart, ?drainJoin, ?unpause⟩
  case commit =>
    intro s aseq bodies j bs hb hmode hidle hbuf hcls hdet hhead hbad hlocal hrole htune
    have htune : TuneOnly (commitOf aseq bodies j bs s.dev.now).sects := tuneOnly_iff.1 htune
    obtain ⟨hj, -, -, ho, hl⟩ := id hb
    refine Does.of_act rfl ?_
    rw [cfgCommit_local hb hmode hidle (eq_ok_some_of_match hbuf) hcls hhead hbad hlocal hrole,
      Dev.runCommit_tuneOnly htune _ _ hdet rfl, Dev.rd_platform, Dev.rdBit_platform, Dev.platform_mgmt]
    set e := (s.dev.modJob aseq fun j => { j with phase := .running }).relayAll (commitOf aseq bodies j bs s.dev.now)
      with he
    have hrun : e.job? aseq = some { j with phase := .running } := by
      rw [he, Dev.relayAll_tuneOnly htune _ rfl, Dev.job?, Dev.retryOut_journal]
      exact Dev.job?_modJob hj fun _ => rfl
    obtain ⟨hdone, -, hlocked, -, hkept⟩ := Dev.finishCommit_tuneOnly_ends htune e rfl
    have hans := Dev.finishCommit_tuneOnly_answered htune rfl hrun ho hl
    exact ⟨Dev.answered_platform _ hans, hdone, hlocked, by rw [hkept, commitOf, if_pos hlocal]⟩
  case cancel =>
    intro s aseq j a hb hmode ha hjoin hne
    obtain ⟨hans, harmed⟩ := cfgCommitCancel_disarms hb hmode ha hjoin hne
    refine Does.of_act rfl ?_
    rw [Dev.platform_net]
    exact ⟨Dev.answered_platform _ hans, harmed⟩
  case drained =>
    intro s q c hc hre hq hnew hempty hmore
    refine Does.of_act rfl ?_
    simp only [quadrantRelayDrained, hc, hre, hq, hnew, hempty, hmore, Dev.platform_mgmt]
    simp
  case drainEnd =>
    intro s c hc hre htune hform
    obtain ⟨hdone, hstatus, -, hjob, -⟩ := Dev.finishCommit_tuneOnly_ends (tuneOnly_iff.1 htune) s.dev hform
    refine Does.of_act rfl ?_
    rw [Dev.platform_mgmt, Dev.rd_platform, Dev.rd_platform, cfgCommitDrainComplete, hc]
    simp only [hre, if_true]
    exact ⟨hjob, hdone, hstatus⟩
  case timeout =>
    intro s c hc hre hlate hfull
    refine Does.of_act rfl ?_
    rw [Dev.platform_mgmt, Dev.platform_net]
    exact Prod.ext_iff.1 (bufProfileDrainTimeout_late hc hre hlate hfull)
  case atTime =>
    intro s a ha hmode ht
    have hne : a.mode ≠ 2 := by omega
    obtain ⟨hbanks, hrest⟩ := Prod.ext_iff.1 (Dev.makeSwitch_banks ha hne)
    obtain ⟨hmasks, harmed⟩ := Prod.ext_iff.1 hrest
    have hbank (q : Nat) (hq : q < 4) : s.dev.makeSwitch.bank q = (s.dev.net.banks.get q ({}, {})).2 :=
      (congrArg (fun t : Tab Nat (Bank × Bank) => (t.get q ({}, {})).1) hbanks).trans (Dev.bank_banksOver _ hq)
    refine Does.of_act rfl ?_
    rw [Dev.platform_net]
    simp only [Dev.bank_platform, atTimeSwitch, ha, hmode, ht, and_self, if_true]
    refine ⟨harmed, List.all_eq_true.2 fun q hq => ?_, hmasks⟩
    exact decide_eq_true (hbank q (List.mem_range.1 hq))
  case drainStart =>
    intro s a ha hmode hdr ht
    refine Does.of_act rfl ?_
    rw [Dev.platform_net]
    simp only [drainStart, ha, hmode, hdr, ht, and_self, if_true]
    rw [Dev.armed_of_still (Dev.pauses_still ..), Dev.syncRteStat_net]
  case drainJoin =>
    intro s a ha hdr hjoin hempty hv hseq hloc hshort
    refine Does.of_act rfl ?_
    rw [Dev.platform_net, Dev.inst_platform]
    exact drainComplete_joins ha hdr hjoin hempty hv hseq hloc hshort
  case unpause =>
    intro s t hu ht
    refine Does.of_act rfl ?_
    rw [Dev.platform_net]
    simp only [drainPauseCancel, hu, ht, if_true]
    rw [Dev.drainUnpause_of_still (Dev.cancelEdgePauses_still _)]

end Sys2Proof.Machine
end

section
/-! PROOF. Route notices sent, received and held (spec/06, R180, R181), quenches that run out (spec/07, R207) and queue
samples (spec/07, R209; spec/19, R533). -/

namespace Sys2Proof.Machine

/-- What a step makes true of its own element, and what no step undoes, holds of every element after a fold. -/
theorem Dev.each_establishes {α : Type} {f : Dev → α → Dev} {P : α → Dev → Prop} (hself : ∀ d a, P a (f d a))
    (hkeep : ∀ d a b, P a d → P a (f d b)) (d : Dev) {l : List α} {a : α} (ha : a ∈ l) : P a (d.each l f) := by
  have hkept (l : List α) (e : Dev) (he : P a e) : P a (e.each l f) := by
    unfold Dev.each
    induction l generalizing e with
    | nil => exact he
    | cons b l ih => exact ih _ (hkeep e a b he)
  induction l generalizing d with
  | nil => cases ha
  | cons b l ih =>
    rcases List.mem_cons.1 ha with rfl | ha
    · exact hkept l _ (hself d a)
    · exact ih (f d b) ha

/-! ### Notices sent (R180) -/

/-- The pennants of a notice are traffic. -/
theorem Dev.sendNotice_still (d : Dev) (r : Bool) (origin nseq epoch : Nat) (ids : List Nat) (skip : Option Nat)
    (sub : Nat) : (d.sendNotice r origin nseq epoch ids skip sub).still = d.still :=
  Dev.each_keeps Dev.still _ _ fun e _ => ((Dev.Sends.refl e).sendOut.count).still

theorem Dev.masks_of_still {d e : Dev} (h : e.still = d.still) : e.net.masks = d.net.masks :=
  have hs : e.still.net.masks = d.still.net.masks := congrArg (fun x : Dev => x.net.masks) h
  hs

theorem Dev.portRoute_of_still {d e : Dev} (h : e.still = d.still) (p : Nat) : e.portRoute p = d.portRoute p :=
  have hs : e.still.portRoute p = d.still.portRoute p := congrArg (fun x : Dev => x.portRoute p) h
  hs

@[simp] theorem Dev.portRoute_originate (d : Dev) (r : Bool) (ids : List Nat) (p : Nat) :
    (d.originate r ids).portRoute p = d.portRoute p := by
  unfold Dev.originate
  split
  · rfl
  · exact Dev.portRoute_of_still (Dev.sendNotice_still ..) p

@[simp] theorem Dev.portRoute_setPortRoute (d : Dev) (p : Nat) (x : PortRoute) :
    (d.setPortRoute p x).portRoute p = x := by
  simp [Dev.setPortRoute, Dev.portRoute]

@[simp] theorem Dev.portRoute_platform (b d : Dev) (p : Nat) : (b.platform d).portRoute p = d.portRoute p := by
  simp [Dev.portRoute]

theorem routeNoticeRepeat_due {d : Dev} {p t : Nat} (hat : (d.portRoute p).noticeAt = some t) (ht : t ≤ d.now)
    (hex : d.localExcl p = true) :
    (routeNoticeRepeat p d).portRoute p = { d.portRoute p with noticeAt := some (d.now + 100000000) } := by
  simp [routeNoticeRepeat, hat, ht, hex]

theorem restoreHoldExpiry_due {d : Dev} {p t : Nat} (hgood : (d.portRoute p).goodSince = some t)
    (ht : t + d.restoreHold p ≤ d.now) (hup : d.upAdm p = true) (hmm : (d.portRoute p).mismatch = false) :
    (restoreHoldExpiry p d).portRoute p = { d.portRoute p with
      goodSince := none, restoresLeft := if (d.attr (p / 128) p).noticeV then 2 else 0
      restoreAt := if (d.attr (p / 128) p).noticeV then some (d.now + 100000000) else none } := by
  simp only [restoreHoldExpiry, hgood, ht, hup, hmm, and_self, if_true]
  split <;> simp

theorem routeRestoreRepeat_due {d : Dev} {p t : Nat} (hat : (d.portRoute p).restoreAt = some t) (ht : t ≤ d.now)
    (hleft : 0 < (d.portRoute p).restoresLeft) :
    (routeRestoreRepeat p d).portRoute p = { d.portRoute p with
      restoresLeft := (d.portRoute p).restoresLeft - 1
      restoreAt := if (d.portRoute p).restoresLeft = 1 then none else some (d.now + 100000000) } := by
  simp [routeRestoreRepeat, hat, ht, hleft]

/-! ### Masks (R181 step 3) -/

/-- Whether the mask of quadrant `q` for a reach group holds a port. -/
def Dev.masked (d : Dev) (q rgrp port : Nat) : Bool := (d.net.masks.get (q, rgrp) []).contains port

theorem Dev.masked_congr {d e : Dev} (h : d.net.masks = e.net.masks) (q rgrp port : Nat) :
    d.masked q rgrp port = e.masked q rgrp port := by rw [Dev.masked, h, Dev.masked]

theorem contains_filter_append (l : List Nat) (a : Nat) (v : Bool) :
    (if v then l.filter (fun x => x ≠ a) ++ [a] else l.filter fun x => x ≠ a).contains a = v := by
  cases v <;> simp

/-- A mask bit is written in all four quadrants. -/
theorem Dev.masked_setMask (d : Dev) (g port : Nat) (v : Bool) {q : Nat} (hq : q < 4) (g' : Nat) :
    (d.setMask g port v).masked q g' port = if g = g' then v else d.masked q g' port := by
  by_cases hg : g = g'
  · subst hg
    have hmem : q ∈ [0, 1, 2, 3] := by interval_cases q <;> decide
    rw [if_pos rfl]
    refine Dev.each_establishes (P := fun q e => e.masked q g port = v) (fun e q => ?_) (fun e a b he => ?_) d hmem
    · rw [Dev.masked, Tab.get_put_self]
      exact contains_filter_append ..
    · by_cases hab : b = a
      · subst hab
        rw [Dev.masked, Tab.get_put_self]
        exact contains_filter_append ..
      · rw [Dev.masked, Tab.get_put_other _ (by simp [hab])]
        exact he
  · rw [if_neg hg]
    refine Dev.each_keeps (fun e => e.masked q g' port) _ _ fun e a => ?_
    rw [Dev.masked, Tab.get_put_other _ (by simp [hg]), Dev.masked]

/-! ### Notices received and held (R181) -/

/-- One NOTICE_ID of a notice applied: the mask bit of its reach group, where bank `b` knows the ID. -/
def Dev.applyId (b : Bank) (n : HeldNotice) (d : Dev) (i : Nat) : Dev :=
  let e := b.notices.get i {}
  if e.v then d.setMask e.rgrp n.port (!n.restore)
  else (d.count 0x06 (n.port / 128) 2 4).set R.RTE_ERR_NOTICE_UNKNOWN (n.port / 128)

/-- The bit stands as the notice says in each quadrant, if bank `b` knows the ID. -/
def NoticeDone (b : Bank) (n : HeldNotice) (i : Nat) (d : Dev) : Prop :=
  (b.notices.get i {}).v = true → ∀ q < 4, d.masked q (b.notices.get i {}).rgrp n.port = !n.restore

/-- The relay of a notice leaves the masks as its IDs have set them. -/
theorem Dev.applyNotice_masks (d : Dev) (n : HeldNotice) :
    (d.applyNotice n).net.masks = (d.each n.ids (Dev.applyId (d.bank (n.port / 128)) n)).net.masks := by
  unfold Dev.applyNotice
  dsimp only
  split
  · rw [Dev.masks_of_still (Dev.sendNotice_still ..)]
    rfl
  · rfl

theorem Dev.noticeDone_applyId_self (b : Bank) (n : HeldNotice) (d : Dev) (i : Nat) :
    NoticeDone b n i (d.applyId b n i) := by
  intro hv q hq
  rw [Dev.applyId, if_pos hv, Dev.masked_setMask _ _ _ _ hq, if_pos rfl]

/-- All IDs of one notice set bits to one value, so that a later ID undoes no earlier one. -/
theorem Dev.noticeDone_applyId {b : Bank} {n : HeldNotice} {d : Dev} {i : Nat} (h : NoticeDone b n i d) (k : Nat) :
    NoticeDone b n i (d.applyId b n k) := by
  intro hv q hq
  unfold Dev.applyId
  dsimp only
  split
  · rw [Dev.masked_setMask _ _ _ _ hq, h hv q hq, ite_self]
  · exact h hv q hq

theorem Dev.noticeDone_applyNotice (d : Dev) (n : HeldNotice) {i : Nat} (hi : i ∈ n.ids) :
    NoticeDone (d.bank (n.port / 128)) n i (d.applyNotice n) := by
  have hdone := Dev.each_establishes (P := NoticeDone (d.bank (n.port / 128)) n) (Dev.noticeDone_applyId_self _ n)
    (fun _ _ k h => Dev.noticeDone_applyId h k) d hi
  intro hv q hq
  rw [Dev.masked_congr (d.applyNotice_masks n)]
  exact hdone hv q hq

theorem serialDiff_self {m : Nat} (hm : 0 < m) (a : Nat) : serialDiff m a a = 0 := by
  simp [serialDiff, hm]

theorem Dev.judgeNotice_inForce {d : Dev} {n : HeldNotice} (h : n.epoch = (d.bank (n.port / 128)).epoch) :
    d.judgeNotice n = d.applyNotice n := by
  simp [Dev.judgeNotice, h, serialDiff_self]

theorem Dev.judgeNotice_late {d : Dev} {n : HeldNotice}
    (hnew : 0 < serialDiff 256 n.epoch (d.bank (n.port / 128)).epoch) (ht : n.until_ ≤ d.now) :
    d.judgeNotice n = d.dropNotice n.port := by
  simp [Dev.judgeNotice, hnew, hnew.not_gt, ht]

/-- The notice that a pennant carries, to be held for 1 ms if its epoch is yet to come. -/
def noticeOf (st : Stored) (now : Nat) : HeldNotice :=
  { port := st.ing, restore := decide (st.pkt.opcode = 0x41), origin := st.pkt.arg5
    nseq := st.pkt.arg6 / 65536, epoch := st.pkt.arg6 % 256
    ids := (wordsBE st.pkt.payload (min 8 (st.pkt.arg6 / 256 % 256))).map fun w => w / 2 ^ 18
    until_ := now + 1000000 }

theorem routeNoticeReceived_taken {d d1 : Dev} {pid : Nat} {st : Stored}
    (h : d.takeHub pid isNotice = some (st, d1)) :
    routeNoticeReceived pid d = (d1.count 0x06 (st.ing / 128) 2 1).judgeNotice (noticeOf st d1.now) := by
  unfold routeNoticeReceived
  rw [h]
  rfl

/-- A notice of the epoch in force has every bit that it names. -/
theorem routeNoticeReceived_inForce {d d1 : Dev} {pid : Nat} {st : Stored}
    (h : d.takeHub pid isNotice = some (st, d1)) (he : st.pkt.arg6 % 256 = (d1.bank (st.ing / 128)).epoch) {w : Nat}
    (hw : w ∈ wordsBE st.pkt.payload (min 8 (st.pkt.arg6 / 256 % 256))) :
    NoticeDone (d1.bank (st.ing / 128)) (noticeOf st d1.now) (w / 2 ^ 18) (routeNoticeReceived pid d) := by
  rw [routeNoticeReceived_taken h, Dev.judgeNotice_inForce he]
  exact Dev.noticeDone_applyNotice (d1.count 0x06 (st.ing / 128) 2 1) (noticeOf st d1.now) (List.mem_map_of_mem hw)

theorem noticeHoldExpiry_one {d : Dev} {n : HeldNotice} (hn : d.net.heldNotices = [n])
    (hnew : 0 < serialDiff 256 n.epoch (d.bank (n.port / 128)).epoch) (ht : n.until_ ≤ d.now) :
    noticeHoldExpiry d = ({ d with net := { d.net with heldNotices := [] } } : Dev).dropNotice n.port := by
  unfold noticeHoldExpiry
  rw [hn]
  exact Dev.judgeNotice_late hnew ht

/-! ### Queue samples (R209, R533) -/

@[simp] theorem Dev.queue_setQueue (d : Dev) (e v : Nat) (x : Queue) : (d.setQueue e v x).queue e v = x := by
  simp [Dev.setQueue, Dev.queue]

theorem Dev.queue_setQueue_other (d : Dev) {e v e' v' : Nat} (h : (e, v) ≠ (e', v')) (x : Queue) :
    (d.setQueue e v x).queue e' v' = d.queue e' v' := Tab.get_put_other _ h ..

@[simp] theorem Dev.queue_platform (b d : Dev) (e v : Nat) : (b.platform d).queue e v = d.queue e v := by
  simp [Dev.queue]

@[simp] theorem Dev.platform_tel (b d : Dev) : (b.platform d).tel = d.tel := by
  obtain ⟨o, ho⟩ := b.platform_frame d
  rw [ho]

@[simp] theorem Dev.queue_sampleWrite (d : Dev) (q a b c e v : Nat) :
    (d.sampleWrite q a b c).queue e v = d.queue e v := rfl

@[simp] theorem Dev.sampleAt_sampleWrite (d : Dev) (q a b c : Nat) :
    (d.sampleWrite q a b c).tel.sampleAt = d.tel.sampleAt := rfl

/-- A queue's sample written to the ring, where the queue is kept. -/
def Dev.keepSample (q : Nat) (d : Dev) (ev : Nat × Nat) : Dev :=
  let x := d.queue ev.1 ev.2
  if d.keptQueue ev.1 then
    d.sampleWrite q (2 ^ 28 + ev.1 % 2 ^ 12 * 2 ^ 16 + ev.2 * 2 ^ 13)
      (min (queueDepth x) 0xFFFF + min x.maxDepth 0xFFFF * 2 ^ 16) (min x.maxDelay 0xFFFFFFFF)
  else d

@[simp] theorem Dev.queue_keepSample (d : Dev) (q e v : Nat) (ev : Nat × Nat) :
    (d.keepSample q ev).queue e v = d.queue e v := by
  unfold Dev.keepSample
  dsimp only
  split <;> rfl

@[simp] theorem Dev.sampleAt_keepSample (d : Dev) (q : Nat) (ev : Nat × Nat) :
    (d.keepSample q ev).tel.sampleAt = d.tel.sampleAt := by
  unfold Dev.keepSample
  simp [apply_ite fun e : Dev => e.tel.sampleAt]

/-- A queue's sample taken: it starts anew. -/
def Dev.sampleQueue (q : Nat) (d : Dev) (ev : Nat × Nat) : Dev :=
  let x := d.queue ev.1 ev.2
  if x.maxDepth = 0 ∧ x.maxDelay = 0 then d.keepSample q ev
  else (d.keepSample q ev).setQueue ev.1 ev.2 { x with maxDepth := queueDepth x, maxDelay := 0 }

theorem Dev.sampleAt_sampleQueue (d : Dev) (q : Nat) (ev : Nat × Nat) :
    (d.sampleQueue q ev).tel.sampleAt = d.tel.sampleAt := by
  unfold Dev.sampleQueue
  simp [apply_ite fun e : Dev => e.tel.sampleAt, Dev.setQueue]

theorem Dev.maxDelay_sampleQueue_self (d : Dev) (q : Nat) (ev : Nat × Nat) :
    ((d.sampleQueue q ev).queue ev.1 ev.2).maxDelay = 0 := by
  unfold Dev.sampleQueue
  dsimp only
  split
  · rename_i hzero
    obtain ⟨-, hdelay⟩ := hzero
    rw [Dev.queue_keepSample, hdelay]
  · rw [Dev.queue_setQueue]

theorem Dev.queue_sampleQueue_other (d : Dev) (q : Nat) {ev x : Nat × Nat} (h : x ≠ ev) :
    (d.sampleQueue q x).queue ev.1 ev.2 = d.queue ev.1 ev.2 := by
  unfold Dev.sampleQueue
  dsimp only
  split
  · rw [Dev.queue_keepSample]
  · rw [Dev.queue_setQueue_other _ h, Dev.queue_keepSample]

/-- At the period's time every queue of the quadrant is sampled, after the time word of the ring. -/
theorem queueSampleTimer_due {d : Dev} {q : Nat} (hq : q < 4) (ht : d.tel.sampleAt.get q 0 ≤ d.now) :
    ∃ e : Dev, queueSampleTimer q d = e.each (quadQueues q) (Dev.sampleQueue q) ∧
      e.tel.sampleAt = d.tel.sampleAt.put q (d.now + d.samplePeriod q) := by
  unfold queueSampleTimer
  rw [if_pos ⟨hq, ht⟩]
  refine ⟨_, rfl, ?_⟩
  simp [apply_ite fun e : Dev => e.tel.sampleAt]

theorem maxDelay_queueSampleTimer {d : Dev} {q : Nat} (hq : q < 4) (ht : d.tel.sampleAt.get q 0 ≤ d.now)
    {ev : Nat × Nat} (hev : ev ∈ quadQueues q) : ((queueSampleTimer q d).queue ev.1 ev.2).maxDelay = 0 := by
  have hkeep (d : Dev) (a b : Nat × Nat) (h : (d.queue a.1 a.2).maxDelay = 0) :
      ((d.sampleQueue q b).queue a.1 a.2).maxDelay = 0 := by
    by_cases hab : b = a
    · exact hab ▸ d.maxDelay_sampleQueue_self q b
    · rw [d.queue_sampleQueue_other q hab, h]
  obtain ⟨e, he, -⟩ := queueSampleTimer_due hq ht
  have hdone := Dev.each_establishes (P := fun a d => (d.queue a.1 a.2).maxDelay = 0)
    (fun d a => d.maxDelay_sampleQueue_self q a) hkeep e hev
  rw [he]
  exact hdone

theorem sampleAt_queueSampleTimer {d : Dev} {q : Nat} (hq : q < 4) (ht : d.tel.sampleAt.get q 0 ≤ d.now) :
    (queueSampleTimer q d).tel.sampleAt.get q 0 = d.now + d.samplePeriod q := by
  obtain ⟨e, he, hat⟩ := queueSampleTimer_due hq ht
  have hkeep := Dev.each_keeps (fun d => d.tel.sampleAt) e (quadQueues q) fun d a => d.sampleAt_sampleQueue q a
  rw [he, hkeep, hat, Tab.get_put_self]

/-! ### The statement on notices, quenches and samples -/

/-- Settles O9: the repeats and the end of RESTORE_HOLD write the port's record, which the notices that go out leave
alone; the IDs of a notice set their mask bits to one value, so that each stands at the end; a sampled queue's delay
stays 0 while the other queues are sampled. -/
theorem routeNoticeAndQuenchEvents : Obligations.RouteNoticeAndQuenchEvents := by
  unfold Obligations.RouteNoticeAndQuenchEvents
  refine ⟨?noticeRepeat, ?restoreHold, ?restoreRepeat, ?received, ?held, ?quench, ?sample⟩
  case noticeRepeat =>
    intro s p t hat ht hex
    refine Does.of_act rfl ?_
    rw [Dev.portRoute_platform, routeNoticeRepeat_due hat ht hex]
  case restoreHold =>
    intro s p t hgood ht hup hmm
    refine Does.of_act rfl ?_
    rw [Dev.portRoute_platform, restoreHoldExpiry_due hgood ht hup hmm]
    exact ⟨rfl, rfl⟩
  case restoreRepeat =>
    intro s p t hat ht hleft
    refine Does.of_act rfl ?_
    rw [Dev.portRoute_platform, routeRestoreRepeat_due hat ht hleft]
    exact ⟨rfl, rfl⟩
  case received =>
    intro s pid st d1 htake he
    refine Does.of_act rfl ?_
    rw [Dev.platform_net]
    refine List.all_eq_true.2 fun q hq => List.all_eq_true.2 fun w hw => ?_
    have hdone := routeNoticeReceived_inForce htake he hw
    cases hv : ((d1.bank (st.ing / 128)).notices.get (w / 2 ^ 18) {}).v with
    | false => rfl
    | true =>
      have hbit := hdone hv q (List.mem_range.1 hq)
      rw [Dev.masked] at hbit
      simpa [noticeOf] using hbit
  case held =>
    intro s n hn ht hnew
    refine Does.of_act rfl ?_
    rw [Dev.platform_net, Dev.rd_platform, noticeHoldExpiry_one hn hnew ht]
    exact ⟨rfl, Dev.rd_set_self _ rfl _ 0⟩
  case quench =>
    intro s
    refine Does.of_act rfl ?_
    rw [Dev.platform_net, quenchExpiry]
  case sample =>
    intro s q hq ht
    refine Does.of_act rfl ?_
    simp only [Dev.platform_tel, Dev.queue_platform]
    exact ⟨sampleAt_queueSampleTimer hq ht, fun ev hev => maxDelay_queueSampleTimer hq ht hev⟩

end Sys2Proof.Machine
end

section
/-! PROOF. Number formats (spec/08): an FP32 word and the value that it stands for (R212, R218, R220), and the scale bytes
and elements of MX groups (R213, R217). -/

namespace Sys2Proof.Machine

/-! ### The value of an FP32 word (R212) -/

/-- Sign, exponent field and fraction of a word. -/
theorem fp32_fields {w : Nat} (hw : w < 2 ^ 32) :
    b2n (bitOf w 31) * 2 ^ 31 + (w / 2 ^ 23 % 2 ^ 8 * 2 ^ 23 + w % 2 ^ 23) = w := by
  have hs : b2n (bitOf w 31) = w / 2 ^ 31 % 2 := by
    simp only [b2n, bitOf, Nat.shiftRight_eq_div_pow, decide_eq_true_eq]
    split <;> omega
  rw [hs]
  omega

/-- An all-ones exponent field: an infinity, or a NaN. -/
theorem of32_special {w : Nat} (he : w / 2 ^ 23 % 2 ^ 8 = 255) :
    of32 w = if w % 2 ^ 23 = 0 then .inf (bitOf w 31) else .nan := if_pos ⟨rfl, he⟩

theorem of32_subnormal {w : Nat} (he : w / 2 ^ 23 % 2 ^ 8 = 0) :
    of32 w = .fin (bitOf w 31) (w % 2 ^ 23) (-149) :=
  have hs : ¬ (fp32.spc = .ieee ∧ w / 2 ^ 23 % 2 ^ 8 = fp32.emax) := fun h => absurd (he.symm.trans h.2) (by decide)
  (if_neg hs).trans ((if_neg fun h => nomatch h.1).trans (if_pos he))

theorem of32_normal {w : Nat} (h0 : w / 2 ^ 23 % 2 ^ 8 ≠ 0) (h1 : w / 2 ^ 23 % 2 ^ 8 ≠ 255) :
    of32 w = .fin (bitOf w 31) (w % 2 ^ 23 + 2 ^ 23) (((w / 2 ^ 23 % 2 ^ 8 : Nat) : Int) - 127 - 23) :=
  (if_neg fun h => h1 h.2).trans ((if_neg fun h => nomatch h.1).trans (if_neg h0))

/-! ### Rounding what a format holds (R218, R220) -/

/-- A nonzero value whose exponent is that of the format's unit in its binade is not rounded: its encoding is the exponent
field and the significand, added as R220's subnormal and normal encodings follow each other. -/
theorem Fp.round_of_unit {f : Fp} {m k : Nat} {e : Int} (hm : m ≠ 0)
    (hu : max (ilog m e) (1 - f.bias) - f.mb = e) (hk : (e + f.mb - (1 - f.bias)) * 2 ^ f.mb + m = k)
    (hmax : k ≤ f.maxBits) (n inf : Bool) : (f.round (.fin n m e) inf).1 = b2n n * 2 ^ (f.eb + f.mb) + k := by
  have hr : rne m 0 = m := by simp [rne]
  simp only [Fp.round, if_neg hm, hu, Int.sub_self, hr, hk, Int.toNat_natCast, if_neg (Nat.not_lt.2 hmax)]

theorem Fp.round_zero (f : Fp) (e : Int) (n inf : Bool) :
    (f.round (.fin n 0 e) inf).1 = b2n n * 2 ^ (f.eb + f.mb) := rfl

theorem fp32_maxBits : fp32.maxBits = 255 * 2 ^ 23 - 1 := by decide

theorem round32_inf (n inf : Bool) : round32 (.inf n) inf = b2n n * 2 ^ 31 + 255 * 2 ^ 23 := rfl

/-- `Fp.round_of_unit` for FP32. -/
theorem round32_of_unit {m k : Nat} {e : Int} (hm : m ≠ 0) (hu : max (ilog m e) (-126) - 23 = e)
    (hk : (e + 149) * 2 ^ 23 + m = k) (hmax : k < 255 * 2 ^ 23) (n inf : Bool) :
    round32 (.fin n m e) inf = b2n n * 2 ^ 31 + k := by
  have hk' : (e + fp32.mb - (1 - fp32.bias)) * 2 ^ fp32.mb + m = (k : Int) := by
    rw [← hk]
    congr 2
    simp only [fp32]
    omega
  have hmax' : k ≤ fp32.maxBits := by
    rw [fp32_maxBits]
    omega
  exact Fp.round_of_unit hm hu hk' hmax' n inf

theorem round32_subnormal {m : Nat} (hm : m < 2 ^ 23) (n inf : Bool) :
    round32 (.fin n m (-149)) inf = b2n n * 2 ^ 31 + m := by
  by_cases h0 : m = 0
  · subst h0
    rw [Nat.add_zero]
    exact Fp.round_zero fp32 (-149) n inf
  · have hlog : Nat.log2 m < 23 := (Nat.log2_lt h0).2 hm
    refine round32_of_unit h0 ?_ (by omega) (by omega) n inf
    rw [ilog]
    omega

theorem round32_normal {e m : Nat} (h0 : e ≠ 0) (h1 : e < 255) (hm : m < 2 ^ 23) (n inf : Bool) :
    round32 (.fin n (m + 2 ^ 23) ((e : Int) - 127 - 23)) inf = b2n n * 2 ^ 31 + (e * 2 ^ 23 + m) := by
  have hlog : Nat.log2 (m + 2 ^ 23) = 23 := (Nat.log2_eq_iff (by omega)).2 (by omega)
  refine round32_of_unit (by omega) ?_ (by omega) (by omega) n inf
  rw [ilog, hlog]
  omega

/-- Settles O57, by the word's exponent field: all ones, zero, or between. -/
theorem fp32RoundsToItself : Obligations.Fp32RoundsToItself := by
  intro w inf hw hnan _
  have hm : w % 2 ^ 23 < 2 ^ 23 := Nat.mod_lt _ (by decide)
  have hfields := fp32_fields hw
  by_cases h1 : w / 2 ^ 23 % 2 ^ 8 = 255
  · by_cases hz : w % 2 ^ 23 = 0
    · rw [of32_special h1, if_pos hz, round32_inf]
      rwa [h1, hz] at hfields
    · rw [of32_special h1, if_neg hz] at hnan
      cases hnan
  · by_cases h0 : w / 2 ^ 23 % 2 ^ 8 = 0
    · rw [of32_subnormal h0, round32_subnormal hm]
      rwa [h0, Nat.zero_mul, Nat.zero_add] at hfields
    · have hlt : w / 2 ^ 23 % 2 ^ 8 < 255 := by omega
      rw [of32_normal h0 h1, round32_normal h0 hlt hm]
      exact hfields

/-! ### Scale bytes and MX groups (R213, R217) -/

theorem mxVal_nan (c e : Nat) : mxVal c 0xFF e = .nan := rfl

theorem mxVal_scale (c : Nat) {x : Nat} (hx : x ≠ 0xFF) (e : Nat) :
    mxVal c x e = ((fmtFp c).decode e).scale ((x : Int) - 127) := if_neg hx

/-- A NaN or an infinity times a power of two is itself. -/
theorem Val.scale_special {v : Val} (h : v.special = true) (k : Int) : v.scale k = v := by
  cases v with
  | nan => rfl
  | inf n => rfl
  | fin n m e => cases h

/-- Settles O58. -/
theorem scaleBytesArePowersOfTwo : Obligations.ScaleBytesArePowersOfTwo := by
  refine ⟨?finite, ?special, mxVal_nan⟩
  case finite =>
    intro c e x n m k hx hdec
    rw [mxVal_scale c (by omega), hdec]
    rfl
  case special =>
    intro c e x hx hspec
    rw [mxVal_scale c (by omega), Val.scale_special hspec]

/-- Settles O59: the 128 values are listed element by element, each by the scale byte of its block. -/
theorem mxElementsOfBlocks : Obligations.MxElementsOfBlocks := by
  intro c bs k hk
  rw [groupVals, List.getElem?_map, List.getElem?_range hk]
  rfl

end Sys2Proof.Machine
end

section
/-! PROOF. How a tile's instruction retires (spec/11, R303; spec/19, R522, R523): what is fetched, traced and counted leaves
every tile and memory as it was, so that the retired instruction's own change is all of it. -/

namespace Sys2Proof.Machine

/-! ### Tiles and memories as they were -/

/-- `e` has the tiles, the tile SRAM and the HBM of `d`. -/
structure Dev.SameTiles (d e : Dev) : Prop where
  tiles : e.tiles = d.tiles
  sram : e.sram = d.sram
  hbm : e.hbm = d.hbm

section
variable {d e e' : Dev}

theorem Dev.SameTiles.refl (d : Dev) : d.SameTiles d := ⟨rfl, rfl, rfl⟩

theorem Dev.SameTiles.trans (h : d.SameTiles e) (g : e.SameTiles e') : d.SameTiles e' :=
  ⟨g.tiles.trans h.tiles, g.sram.trans h.sram, g.hbm.trans h.hbm⟩

theorem Dev.SameTiles.tile (h : d.SameTiles e) (u : Nat) : e.tile u = d.tile u := by rw [Dev.tile, h.tiles, Dev.tile]

theorem Dev.SameTiles.sramOf (h : d.SameTiles e) (u : Nat) : e.sramOf u = d.sramOf u := by
  rw [Dev.sramOf, h.sram, Dev.sramOf]

theorem Dev.SameTiles.usedFree (h : d.SameTiles e) : d.SameTiles e.usedFree := h.trans ⟨rfl, rfl, rfl⟩

theorem Dev.MetClean.sameTiles (h : d.MetClean e) : d.SameTiles e := by
  obtain ⟨⟨x, r, c, rfl⟩, _⟩ := h
  exact ⟨rfl, rfl, rfl⟩

theorem Dev.MetClean.free (h : d.MetClean e) : e.free = d.free := by
  obtain ⟨⟨x, r, c, rfl⟩, _⟩ := h
  rfl

theorem Dev.Sends.sameTiles (h : d.Sends e) : d.SameTiles e :=
  have ht : e.still.tiles = d.still.tiles := congrArg Dev.tiles h.still
  have hs : e.still.sram = d.still.sram := congrArg Dev.sram h.still
  have hh : e.still.hbm = d.still.hbm := congrArg Dev.hbm h.still
  ⟨ht, hs, hh⟩

theorem Dev.platform_sameTiles (b d : Dev) : d.SameTiles (b.platform d) := by
  obtain ⟨o, ho⟩ := b.platform_frame d
  rw [ho]
  exact ⟨rfl, rfl, rfl⟩

theorem Dev.SameTiles.moves {t pc' : Nat} {f : Tile → Tile} (h : e.SameTiles e') (hm : Moves d e t pc' f) :
    Moves d e' t pc' f := by
  obtain ⟨htile, hother, hsram, hhbm⟩ := hm
  exact ⟨(h.tile t).trans htile, fun u hu => (h.tile u).trans (hother u hu),
    fun u => (h.sramOf u).trans (hsram u), h.hbm.trans hhbm⟩

end

/-! ### Issue and retirement (R303, R522) -/

/-- An instruction that issues is counted in its tile, and else leaves tiles and memories as they were. -/
theorem Dev.issued_sameTiles (d : Dev) (t cls opc pc ea cause : Nat) :
    (d.setTile t { d.tile t with nIns := (d.tile t).nIns + 1 }).SameTiles (d.issued t cls opc pc ea cause) := by
  have hcount : (d.tagIns t).1.Sends (if cause = 0 then (d.tagIns t).1.count 0x0A t 0 cls else (d.tagIns t).1) :=
    .ite (Dev.Sends.refl _).count (.refl _)
  exact (Dev.Sends.ite (c := (d.tagIns t).2 = true) hcount.count.traceWrite hcount).sameTiles

/-- An instruction that retires changes its tile as it says and moves PC on by 8; nothing else of any tile, SRAM or HBM
changes. -/
theorem Dev.SameTiles.retire {d e : Dev} (h : d.SameTiles e) (t cls opc : Nat) (f : Tile → Tile) (ea : Nat) :
    Retires d (e.retire t cls opc f ea) t f := by
  have hi := e.issued_sameTiles t cls opc (e.tile t).pc ea 0
  refine ⟨?tile, fun u hu => ?other, fun u => ?sram, ?hbm⟩
  case tile =>
    rw [Dev.retire, Dev.tile_modTile, hi.tile, Dev.tile_setTile, h.tile]
    rfl
  case other => rw [Dev.retire, Dev.tile_modTile_other _ hu.symm, hi.tile, Dev.tile_setTile_other _ hu.symm, h.tile]
  case sram => exact (hi.sramOf u).trans (h.sramOf u)
  case hbm => exact hi.hbm.trans h.hbm

/-- An instruction that its tile fetches, with its reserved parts zero, retires when its body does. -/
theorem Does.retires {c : Instr} {s : State} {t opc w : Nat} {bad : EccHits} {resv : Nat → Bool}
    {body : Nat → Tile → Dev → Dev} {f : Tile → Tile} (hc : exec c s = act (fun d => d.step1 t opc bad resv body) s)
    (hf : Fetches s.dev t opc w bad) (hr : resv w = false)
    (hb : ∀ d, s.dev.MetClean d → Retires s.dev (body w (s.dev.tile t) d) t f) :
    Does c s fun d => Retires s.dev d t f := by
  have ⟨_, _, _, _, hclean, _⟩ := hf
  refine Does.of_act hc ((Dev.platform_sameTiles ..).moves ?_)
  rw [Dev.step1_fetches resv body hf hr]
  exact hb _ (s.dev.sramMeet_clean t _ 8 bad 0 hclean)

theorem Does.imp {c : Instr} {s : State} {P Q : Dev → Prop} (h : Does c s P) (hPQ : ∀ d, P d → Q d) : Does c s Q := by
  obtain ⟨s', he, hq, hP⟩ := h
  exact ⟨s', he, hq, hPQ _ hP⟩

end Sys2Proof.Machine
end

section
/-! PROOF. The lane-wise vector instructions (spec/11, R303, R304, R312; spec/08, R218 to R220). -/

namespace Sys2Proof.Machine

/-! ### Lanes and mask bits -/

/-- A function of every element, written by the elements' numbers. -/
theorem map_eq_map_range {n : Nat} {l : List Nat} (hl : l.length = n) {α : Type} (g : Nat → α) :
    l.map g = (List.range n).map fun k => g (nth l k) := by
  subst hl
  refine List.ext_getElem (by simp) fun k hk _ => ?_
  rw [List.length_map] at hk
  simp [nth, hk]

/-- A function of the pairs of elements of two lists, written by their numbers. -/
theorem map_zip_eq_map_range {n : Nat} {l r : List Nat} (hl : l.length = n) (hr : r.length = n) {α : Type}
    (g : Nat × Nat → α) : (l.zip r).map g = (List.range n).map fun k => g (nth l k, nth r k) := by
  refine List.ext_getElem (by simp [hl, hr]) fun k _ hk => ?_
  rw [List.length_map, List.length_range] at hk
  simp [nth, hl, hr, hk]

theorem setAt_eq_set {α : Type} (l : List α) (i : Nat) (v : α) : setAt l i v = l.set i v := by
  induction l generalizing i with
  | nil => rfl
  | cons a l ih =>
    cases i with
    | zero => rfl
    | succ i => exact congrArg (a :: ·) (ih i)

/-- The word whose first `n` bits are those that `p` says. -/
def bitsWhere (p : Nat → Bool) (n : Nat) : Nat := (List.range n).foldl (fun m k => m + b2n (p k) * 2 ^ k) 0

theorem bitsWhere_succ (p : Nat → Bool) (n : Nat) : bitsWhere p (n + 1) = bitsWhere p n + b2n (p n) * 2 ^ n := by
  simp [bitsWhere, List.range_succ]

theorem bitsWhere_lt (p : Nat → Bool) (n : Nat) : bitsWhere p n < 2 ^ n := by
  induction n with
  | zero => exact Nat.one_pos
  | succ n ih =>
    rw [bitsWhere_succ, Nat.pow_succ]
    cases p n <;> simp only [b2n, Bool.false_eq_true, if_false, if_true] <;> omega

theorem bitOf_bitsWhere (p : Nat → Bool) {n k : Nat} (hk : k < n) : bitOf (bitsWhere p n) k = p k := by
  rw [bitOf_eq_testBit]
  induction n with
  | zero => omega
  | succ n ih =>
    rw [bitsWhere_succ, Nat.add_comm, Nat.mul_comm, Nat.testBit_two_pow_mul_add _ (bitsWhere_lt p n)]
    split
    · exact ih ‹k < n›
    · obtain rfl : k = n := by omega
      cases hp : p k <;> simp [b2n]

/-! ### Arithmetic of one and of two operands (R218 to R220, R304) -/

section
variable {c : Instr} {s : State} {t opc w : Nat} {bad : EccHits}

theorem Does.vec1 {f : Val → Val} (hc : exec c s = act (fun d => d.vec1 t opc bad f) s) (hf : Fetches s.dev t opc w bad)
    (hr : resvV [iRd w, iRs1 w] (· = 0) w = false) (h1 : ((s.dev.tile t).vreg (iRs1 w)).length = 64) :
    Does c s fun d => Retires s.dev d t fun y => y.setVreg w (iRd w) ((List.range 64).map fun k =>
      round32 (f (of32 (nth ((s.dev.tile t).vreg (iRs1 w)) k))) (iOvf w)) := by
  refine Does.retires hc hf hr fun d hd => ?_
  rw [map_eq_map_range h1]
  exact hd.sameTiles.retire ..

theorem Does.vec2 {f : Val → Val → Val} (hc : exec c s = act (fun d => d.vec2 t opc bad f) s)
    (hf : Fetches s.dev t opc w bad) (hr : resvV [iRd w, iRs1 w, iRs2 w] (· = 0) w = false)
    (h1 : ((s.dev.tile t).vreg (iRs1 w)).length = 64) (h2 : ((s.dev.tile t).vreg (iRs2 w)).length = 64) :
    Does c s fun d => Retires s.dev d t fun y => y.setVreg w (iRd w) ((List.range 64).map fun k =>
      round32 (f (of32 (nth ((s.dev.tile t).vreg (iRs1 w)) k)) (of32 (nth ((s.dev.tile t).vreg (iRs2 w)) k)))
        (iOvf w)) := by
  refine Does.retires hc hf hr fun d hd => ?_
  rw [map_zip_eq_map_range h1 h2]
  exact hd.sameTiles.retire ..

/-- VMAX and VMIN: the free value that signs two unlike zeros is the device's own. -/
theorem Does.vecMax {mn : Bool} (hc : exec c s = act (fun d => d.vecMax t opc bad mn) s)
    (hf : Fetches s.dev t opc w bad) (hr : resvV [iRd w, iRs1 w, iRs2 w] (· = 0) w = false) :
    Does c s fun d => Retires s.dev d t fun y => y.setVreg w (iRd w) ((List.range 64).map fun k =>
      laneMax mn (bitOf s.dev.free k) (nth ((s.dev.tile t).vreg (iRs1 w)) k)
        (nth ((s.dev.tile t).vreg (iRs2 w)) k)) := by
  refine Does.retires hc hf hr fun d hd => ?_
  rw [← hd.free]
  exact hd.sameTiles.usedFree.retire ..

end

/-! ### Comparisons (R304) -/

/-- The mask bit that VCMP leaves for lane `k` of the tile `x`: a lane that is masked off keeps its bit. -/
def Tile.cmpBit (x : Tile) (w k : Nat) : Bool :=
  if iMaskEn w && !(bitOf (x.mreg (iMask w)) k) then bitOf (x.mreg (iRd w)) k
  else laneCmp (iSub w) (nth (x.vreg (iRs1 w)) k) (nth (x.vreg (iRs2 w)) k)

theorem mreg_setAt_self {x y : Tile} {i v : Nat} (hy : y.m = setAt x.m i v) (hi : i < x.m.length) : y.mreg i = v := by
  simp [Tile.mreg, nth, hy, setAt_eq_set, hi]

theorem mreg_setAt_other {x y : Tile} {i j v : Nat} (hy : y.m = setAt x.m i v) (hij : i ≠ j) : y.mreg j = x.mreg j := by
  simp [Tile.mreg, nth, hy, setAt_eq_set, hij]

/-- VCMP writes the mask register that it names with the bits of `Tile.cmpBit`, and no other. -/
theorem Does.vcmp {s : State} {t w : Nat} {bad : EccHits} (hf : Fetches s.dev t 0x4A w bad)
    (hr : (resvV [iRs1 w, iRs2 w] (fun s => decide (s < 4)) w || decide (3 < iRd w)) = false) :
    Does (.vcmp t bad) s fun d => Retires s.dev d t fun y =>
      { y with m := setAt y.m (iRd w) (bitsWhere ((s.dev.tile t).cmpBit w) 64) } :=
  Does.retires rfl hf hr fun _ hd => hd.sameTiles.retire ..

/-! ### The statement -/

/-- Settles O40, instruction by instruction: each retires with the lanes that its body lists. -/
theorem vectorArithmetic : Obligations.VectorArithmetic := by
  refine ⟨?vadd, ?vsub, ?vmul, ?vdiv, ?vsqrt, ?vfma, ?vmax, ?vmin, ?vcmp, ?vsel⟩
  case vadd => exact fun s t w bad hf hr h1 h2 => Does.vec2 (f := fun a b => exactSum [a, b]) rfl hf hr h1 h2
  case vsub => exact fun s t w bad hf hr h1 h2 => Does.vec2 (f := fun a b => exactSum [a, b.negate]) rfl hf hr h1 h2
  case vmul => exact fun s t w bad hf hr h1 h2 => Does.vec2 (f := Val.mul) rfl hf hr h1 h2
  case vdiv => exact fun s t w bad hf hr h1 h2 => Does.vec2 (f := Val.div) rfl hf hr h1 h2
  case vsqrt => exact fun s t w bad hf hr h1 => Does.vec1 (f := Val.sqrt) rfl hf hr h1
  case vfma => exact fun s t w bad hf hr => Does.retires rfl hf hr fun _ hd => hd.sameTiles.retire ..
  case vmax => exact fun s t w bad hf hr => Does.vecMax (mn := false) rfl hf hr
  case vmin => exact fun s t w bad hf hr => Does.vecMax (mn := true) rfl hf hr
  case vcmp =>
    intro s t w bad hf hr hlen
    have hrd : iRd w < 4 := by
      rw [Bool.or_eq_false_iff, decide_eq_false_iff_not] at hr
      omega
    refine Does.imp (Does.vcmp hf hr) fun d hd => ?_
    have ⟨htile, _⟩ := hd
    have hm : (d.tile t).m = setAt (s.dev.tile t).m (iRd w) (bitsWhere ((s.dev.tile t).cmpBit w) 64) :=
      congrArg Tile.m htile
    refine ⟨?length, fun k hk => ?bits, fun i hi => ?others, ?retires⟩
    case length => rw [hm, setAt_eq_set, List.length_set]
    case bits =>
      rw [mreg_setAt_self hm (by omega)]
      exact bitOf_bitsWhere _ hk
    case others => exact mreg_setAt_other hm hi.symm
    case retires =>
      rw [hm]
      exact hd
  case vsel => exact fun s t w bad hf hr => Does.retires rfl hf hr fun _ hd => hd.sameTiles.retire ..

end Sys2Proof.Machine
end

section
/-! PROOF. The reduction and collective state under traffic, and the frame of a context: what keeps every context, the
journal and the error bits of RED as they are, and what an abort of a context comes down to (spec/09, R244, R262,
R263). -/

namespace Sys2Proof

/-- Of two writes of one key the later stays. -/
theorem Tab.put_put {κ α : Type} [DecidableEq κ] (t : Tab κ α) (k : κ) (v w : α) : (t.put k v).put k w = t.put k w := by
  induction t with
  | nil => simp [Tab.put]
  | cons e t ih =>
    obtain ⟨x, y⟩ := e
    by_cases hx : x = k
    · simp [Tab.put, hx]
    · simp [Tab.put, hx, ih]

end Sys2Proof

namespace Sys2Proof.Machine

/-! ### The reduction and collective state under traffic -/

@[simp] theorem Dev.platform_red (b d : Dev) : (b.platform d).red = d.red := by
  obtain ⟨o, ho⟩ := b.platform_frame d
  rw [ho]

theorem Dev.ctx_of_red {d e : Dev} (h : e.red = d.red) (i : Nat) : e.ctx i = d.ctx i := by rw [Dev.ctx, h, Dev.ctx]

@[simp] theorem Dev.ctx_platform (b d : Dev) (i : Nat) : (b.platform d).ctx i = d.ctx i :=
  Dev.ctx_of_red (b.platform_red d) i

@[simp] theorem Dev.setCtx_setCtx (d : Dev) (i : Nat) (a b : Ctx) : (d.setCtx i a).setCtx i b = d.setCtx i b := by
  simp [Dev.setCtx, Tab.put_put]

theorem Dev.Sends.red {d e : Dev} (h : d.Sends e) : e.red = d.red :=
  have hr : e.still.red = d.still.red := congrArg Dev.red h.still
  hr

@[simp] theorem Dev.complete_red (d : Dev) (a st detail : Nat) (res : List Nat) :
    (d.complete a st res detail).red = d.red := (Dev.Sends.refl d).complete.red

@[simp] theorem Dev.release_red (d : Dev) (pid : Nat) (h : Holder) : (d.release pid h).red = d.red :=
  (Dev.Sends.refl d).release.red

@[simp] theorem Dev.retryOut_red (d : Dev) : d.retryOut.red = d.red := (Dev.Sends.refl d).retryOut.red

@[simp] theorem Dev.redCount_red (d : Dev) (i g s n : Nat) : (d.redCount i g s n).red = d.red := rfl

theorem Dev.Sends.redCount {d e : Dev} {i g s n : Nat} (h : d.Sends e) : d.Sends (e.redCount i g s n) := h.count

/-! ### RED.ESTAT (R504, R593) -/

@[simp] theorem Dev.syncEngine_red (d : Dev) (i : Nat) : (d.syncEngine i).red = d.red := rfl

/-! ### Journal entries that no completion takes out -/

@[simp] theorem Dev.postCpl_journal (d : Dev) (ch : Nat) (ws : List Nat) :
    (d.postCpl ch ws).mgmt.journal = d.mgmt.journal := by
  obtain ⟨o, ho⟩ := d.postCpl_eq ch ws
  rw [ho]
  rfl

@[simp] theorem Dev.sendEvent_journal (d : Dev) (code : Nat) (ws : List Nat) :
    (d.sendEvent code ws).mgmt.journal = d.mgmt.journal := by
  refine (Dev.each_keeps (fun e => e.mgmt.journal) _ _ fun e ch => ?_).trans rfl
  dsimp only
  split_ifs
  · split <;> simp
  all_goals simp

/-! ### What keeps the contexts -/

/-- The register fields that traffic, a fault event or a context that changes state writes, RED.ERR aside. -/
def ctxFlds : List Fld :=
  sentFlds ++ [R.FLT_CNT0_EVENTS, R.FLT_STAT_STATE, R.FLT_STAT_FAULT_SEEN, R.FLT_STAT_QUIET_LEFT, R.HUB_ISTAT_PWR,
    R.HUB_ISTAT_FLT, R.RED_ESTAT_UNITS_FREE, R.RED_ESTAT_CTX_USED]

/-- `e` has the contexts and the journal of `d`, and every register field but those that `ctxFlds` lists. -/
structure Dev.SameCtxs (d e : Dev) : Prop where
  ctxs : e.red.ctxs = d.red.ctxs
  journal : e.mgmt.journal = d.mgmt.journal
  rd : ∀ g : Fld, (∀ f ∈ ctxFlds, f.id ≠ g.id) → ∀ i k, e.rd g i k = d.rd g i k

section
variable {d e : Dev}

theorem Dev.SameCtxs.refl (d : Dev) : d.SameCtxs d := ⟨rfl, rfl, fun _ _ _ _ => rfl⟩

theorem Dev.SameCtxs.ctx (h : d.SameCtxs e) (i : Nat) : e.ctx i = d.ctx i := by rw [Dev.ctx, h.ctxs, Dev.ctx]

/-- Traffic keeps the contexts. -/
theorem Dev.SameCtxs.sends {e' : Dev} (h : d.SameCtxs e) (hs : e.Sends e') (hj : e'.mgmt.journal = e.mgmt.journal) :
    d.SameCtxs e' :=
  ⟨(congrArg Red.ctxs hs.red).trans h.ctxs, hj.trans h.journal, fun g hg i k =>
    (hs.rd g (fun f hf => hg f (List.mem_append_left _ hf)) i k).trans (h.rd g hg i k)⟩

/-- An update that writes no register, no context and no journal entry. -/
theorem Dev.SameCtxs.same {e' : Dev} (h : d.SameCtxs e) (hc : e'.red.ctxs = e.red.ctxs)
    (hj : e'.mgmt.journal = e.mgmt.journal) (hr : e'.regs = e.regs) : d.SameCtxs e' :=
  ⟨hc.trans h.ctxs, hj.trans h.journal, fun g hg i k => (Dev.rd_congr hr g i k).trans (h.rd g hg i k)⟩

theorem Dev.SameCtxs.wr {f : Fld} {v i k : Nat} (h : d.SameCtxs e) (hf : f ∈ ctxFlds) : d.SameCtxs (e.wr f v i k) :=
  ⟨h.ctxs, h.journal, fun g hg j l => (e.rd_wr_other (hg f hf) ..).trans (h.rd g hg j l)⟩

theorem Dev.SameCtxs.ite {c : Prop} [Decidable c] {a b : Dev} (ha : d.SameCtxs a) (hb : d.SameCtxs b) :
    d.SameCtxs (if c then a else b) := by
  split
  · exact ha
  · exact hb

theorem Dev.SameCtxs.each {α : Type} {l : List α} {f : Dev → α → Dev} (h : d.SameCtxs e)
    (hf : ∀ {e : Dev} {a : α}, d.SameCtxs e → d.SameCtxs (f e a)) : d.SameCtxs (e.each l f) := by
  unfold Dev.each
  induction l generalizing e with
  | nil => exact h
  | cons a l ih => exact ih (hf h)

theorem Dev.SameCtxs.count {b i g s n : Nat} (h : d.SameCtxs e) : d.SameCtxs (e.count b i g s n) := h.same rfl rfl rfl

theorem Dev.SameCtxs.record {q : Nat} {r : FailRec} (h : d.SameCtxs e) : d.SameCtxs (e.record q r) :=
  h.sends (Dev.Sends.refl e).record (by simp)

theorem Dev.SameCtxs.failHolder {pid r b i : Nat} {x : Holder} (h : d.SameCtxs e) :
    d.SameCtxs (e.failHolder pid x r b i) := h.sends (Dev.Sends.refl e).failHolder (by simp)

theorem Dev.SameCtxs.syncEngine {i : Nat} (h : d.SameCtxs e) : d.SameCtxs (e.syncEngine i) :=
  (h.wr (by decide)).wr (by decide)

/-! ### Fault events (R468, R470, R472) -/

theorem Dev.SameCtxs.irq {b : Nat} {c : Bool} (h : d.SameCtxs e) : d.SameCtxs (e.irq b c) :=
  have hw : d.SameCtxs ((e.wr R.HUB_ISTAT_PWR e.istatPwr).wr R.HUB_ISTAT_FLT e.istatFlt) :=
    (h.wr (by decide)).wr (by decide)
  .ite (hw.same rfl rfl rfl) hw

theorem Dev.SameCtxs.restartQuiet (h : d.SameCtxs e) : d.SameCtxs e.restartQuiet :=
  Dev.SameCtxs.wr (h.same rfl rfl rfl) (by decide)

theorem Dev.SameCtxs.enterFault {ev b c : Nat} (h : d.SameCtxs e) : d.SameCtxs (e.enterFault ev b c) := by
  have hsince : d.SameCtxs { e with mgmt := { e.mgmt with faultSince := e.now } } := h.same rfl rfl rfl
  have hseen : d.SameCtxs (({ e with mgmt := { e.mgmt with faultSince := e.now } }.wr R.FLT_STAT_STATE 1).set
      R.FLT_STAT_FAULT_SEEN) := (hsince.wr (by decide)).wr (by decide)
  exact hseen.irq.restartQuiet.sends (Dev.Sends.refl _).sendEvent (Dev.sendEvent_journal ..)

theorem Dev.SameCtxs.buntTrigger {p : Nat} {c : Bool} (h : d.SameCtxs e) : d.SameCtxs (e.buntTrigger p c) := by
  unfold Dev.buntTrigger
  split
  · exact h
  · exact .ite (h.same rfl rfl rfl) h

theorem Dev.SameCtxs.faultEvent {b c i d0 d1 st : Nat} (h : d.SameCtxs e) :
    d.SameCtxs (e.faultEvent b c i d0 d1 st) := by
  have hcount (x : HEntry) : d.SameCtxs (((e.histPush x).bump R.FLT_CNT0_EVENTS).count 0x0F 0 0 b) :=
    Dev.SameCtxs.count ((h.sends (Dev.Sends.refl e).histPush (Dev.histPush_journal ..)).wr (by decide))
  unfold Dev.faultEvent
  dsimp only
  refine .ite (.enterFault ?_) (.ite (.restartQuiet ?_) ?_)
  all_goals exact .ite (hcount _).buntTrigger (.ite (hcount _).buntTrigger (hcount _))

end

/-! ### Aborts (R262, R263, R294, R491) -/

/-- The context that an abort leaves. -/
def Ctx.aborted (c : Ctx) (cause : Nat) : Ctx :=
  { c with state := csAborted, cause := cause, deferred := [], slots := [], fwd := [], units := 0 }

/-- The fault event of an abort's cause. -/
def Dev.abortFault (d : Dev) (i cause : Nat) : Dev :=
  if cause = acArriveTimeout then d.faultEvent 0x08 0x01 (ctxEngine i)
  else if cause = acParentLost then d.faultEvent 0x08 0x02 (ctxEngine i)
  else if cause = acAccEcc then d.faultEvent 0x08 0x03 (ctxEngine i) else d

/-- The inputs that an aborted context `c` held or deferred fail. -/
def Dev.failInputs (d : Dev) (i : Nat) (c : Ctx) : Dev :=
  d.each ((c.slots.flatMap fun s => s.held.map Prod.snd) ++ c.deferred) fun d pid =>
    match d.pkt? pid with
    | none => d
    | some s => match redHolder (ctxQuad i) s with
      | some h => d.failHolder pid h rCtxAborted 0x08 (ctxEngine i)
      | none => d

/-- The records of the inputs that an aborted context `c` had combined already. -/
def Dev.combinedRecs (d : Dev) (i : Nat) (c : Ctx) : Dev :=
  d.each (c.slots.filter fun s => !s.complete) fun d s =>
    d.each (s.ins.filter fun a => !(s.held.any fun x => x.1 = a.rank)) fun d a => d.record (ctxQuad i) (d.arrRec i c s.n a)

/-- The token of an aborted combine context, which gives its record (R294). -/
def Dev.endToken (d : Dev) (q : Nat) (token : Option Nat) : Dev :=
  match token with
  | none => d
  | some t => match d.red.tokens.look (q, t) with
    | none => d
    | some k =>
      let d := d.record q { d.pktRec k.pkt 2 k.ing rCtxAborted 0x09 q with item := 8 }
      { d with red := { d.red with tokens := d.red.tokens.del (q, t) } }

/-- The steps of an abort, in the order of R262. -/
theorem Dev.abortCtx_eq {d : Dev} {i : Nat} (hst : (d.ctx i).state = csOpen ∨ (d.ctx i).state = csStub) (cause : Nat)
    (via : Option Nat) :
    d.abortCtx i cause via =
      let seen := (d.setCtx i ((d.ctx i).aborted cause)).set R.RED_ERR_ABORT_SEEN (ctxQuad i)
      let e := ((((seen.redCount i 2 cause).abortFault i cause).failInputs i (d.ctx i)).combinedRecs i
        (d.ctx i)).neighbourRecs i (d.ctx i) via
      ((if (d.ctx i).scope then e.originateAbort (ctxColl i (d.ctx i)) (d.ctx i).burgee rCtxAborted else e).endToken
        (ctxQuad i) (d.ctx i).token).syncEngine i := by
  have hno : ¬((d.ctx i).state ≠ csOpen ∧ (d.ctx i).state ≠ csStub) := by tauto
  unfold Dev.abortCtx
  simp only [if_neg hno]
  rfl

section
variable {d e : Dev}

theorem Dev.SameCtxs.abortFault {i c : Nat} (h : d.SameCtxs e) : d.SameCtxs (e.abortFault i c) :=
  .ite h.faultEvent (.ite h.faultEvent (.ite h.faultEvent h))

theorem Dev.SameCtxs.failInputs {i : Nat} {c : Ctx} (h : d.SameCtxs e) : d.SameCtxs (e.failInputs i c) := by
  refine h.each fun {x pid} hx => ?_
  split
  · exact hx
  · split
    · exact hx.failHolder
    · exact hx

theorem Dev.SameCtxs.combinedRecs {i : Nat} {c : Ctx} (h : d.SameCtxs e) : d.SameCtxs (e.combinedRecs i c) :=
  h.each fun hx => hx.each Dev.SameCtxs.record

theorem Dev.SameCtxs.neighbourRecs {i : Nat} {c : Ctx} {via : Option Nat} (h : d.SameCtxs e) :
    d.SameCtxs (e.neighbourRecs i c via) := h.each Dev.SameCtxs.record

theorem Dev.SameCtxs.originateAbort {id b r : Nat} (h : d.SameCtxs e) : d.SameCtxs (e.originateAbort id b r) := by
  have hfiltered : d.SameCtxs (e.filterAbort (e.devFeid, id, b)) := by
    unfold Dev.filterAbort
    exact h.same rfl rfl rfl
  unfold Dev.originateAbort
  exact hfiltered.count.each fun hx => hx.sends (Dev.Sends.refl _).sendHaly rfl

theorem Dev.SameCtxs.endToken {q : Nat} {t : Option Nat} (h : d.SameCtxs e) : d.SameCtxs (e.endToken q t) := by
  unfold Dev.endToken
  split
  · exact h
  · split
    · exact h
    · exact h.record.same rfl rfl rfl

end

/-- An abort sets its context ABORTED, and RED.ERR.ABORT_SEEN; what it does besides keeps every context. -/
theorem Dev.abortCtx_sameCtxs {d : Dev} {i : Nat} (hst : (d.ctx i).state = csOpen ∨ (d.ctx i).state = csStub)
    (cause : Nat) (via : Option Nat) :
    ((d.setCtx i ((d.ctx i).aborted cause)).set R.RED_ERR_ABORT_SEEN (ctxQuad i)).SameCtxs
      (d.abortCtx i cause via) := by
  rw [Dev.abortCtx_eq hst]
  refine .syncEngine (.endToken (.ite (.originateAbort ?_) ?_))
  all_goals exact (Dev.SameCtxs.refl _).count.abortFault.failInputs.combinedRecs.neighbourRecs

theorem Dev.ctx_abortCtx {d : Dev} {i : Nat} (hst : (d.ctx i).state = csOpen ∨ (d.ctx i).state = csStub) (cause : Nat)
    (via : Option Nat) : (d.abortCtx i cause via).ctx i = (d.ctx i).aborted cause :=
  ((Dev.abortCtx_sameCtxs hst cause via).ctx i).trans (d.ctx_setCtx i _)

theorem Dev.abortCtx_journal {d : Dev} {i : Nat} (hst : (d.ctx i).state = csOpen ∨ (d.ctx i).state = csStub)
    (cause : Nat) (via : Option Nat) : (d.abortCtx i cause via).mgmt.journal = d.mgmt.journal :=
  (Dev.abortCtx_sameCtxs hst cause via).journal

theorem Dev.abortCtx_seen {d : Dev} {i : Nat} (hst : (d.ctx i).state = csOpen ∨ (d.ctx i).state = csStub) (cause : Nat)
    (via : Option Nat) : (d.abortCtx i cause via).rd R.RED_ERR_ABORT_SEEN (ctxQuad i) = 1 :=
  ((Dev.abortCtx_sameCtxs hst cause via).rd _ (by decide) _ _).trans (Dev.rd_set_self _ rfl ..)

/-- An aborted OPEN context reads as ABORTED, with its cause. -/
theorem Dev.abortCtx_state {d : Dev} {i : Nat} (hst : (d.ctx i).state = csOpen) (cause : Nat) (via : Option Nat) :
    ((d.abortCtx i cause via).ctx i).state = csAborted ∧ ((d.abortCtx i cause via).ctx i).cause = cause := by
  rw [Dev.ctx_abortCtx (.inl hst)]
  exact ⟨rfl, rfl⟩

end Sys2Proof.Machine
end

section
/-! PROOF. The CTX commands (spec/09, R242 to R244, R262, R265, R267; spec/10, R274): what each does to its context
before it is answered. -/

namespace Sys2Proof.Machine

/-! ### Commands that are answered -/

/-- The device on which a command that has begun runs: its entry is marked (R410). -/
abbrev Dev.began (d : Dev) (aseq : Nat) : Dev := d.modJob aseq fun j => { j with phase := .running }

@[simp] theorem Dev.ctx_began (d : Dev) (a i : Nat) : (d.began a).ctx i = d.ctx i := rfl

theorem Dev.job?_of_journal {d e : Dev} (h : e.mgmt.journal = d.mgmt.journal) (a : Nat) : e.job? a = d.job? a := by
  rw [Dev.job?, h, Dev.job?]

/-- A command whose effect leaves the journal alone before it completes is answered, and what it did to the reduction
and collective state stays. -/
theorem Does.answered {c : Instr} {f : Dev → Dev} {s : State} {P : Dev → Prop} {aseq op st : Nat} {j : JEntry} {e : Dev}
    {res : List Nat} (hc : exec c s = act f s) (hb : Begun s.dev aseq op j) (hf : f s.dev = e.complete aseq st res)
    (hjournal : e.mgmt.journal = (s.dev.began aseq).mgmt.journal) (hP : ∀ d, d.red = e.red → P d) :
    Does c s fun d => Answered d j st res ∧ P d := by
  obtain ⟨hj, -, -, ho, hl⟩ := hb
  have hrun : e.job? aseq = some { j with phase := .running } :=
    (Dev.job?_of_journal hjournal aseq).trans (Dev.job?_modJob hj fun _ => rfl)
  refine Does.of_act hc ?_
  rw [hf]
  exact ⟨Dev.answered_platform _ (Dev.complete_pcie (j := { j with phase := .running }) hrun ho hl st res 0),
    hP _ (by simp)⟩

/-- A CTX command whose sender may act on the context runs (R422). -/
theorem Dev.ctxCmd_begun {d : Dev} {aseq op : Nat} {j : JEntry} (f : JEntry → Nat → Dev → Dev)
    (hb : Begun d aseq op j) (hr : d.chRole j.chan ≠ 0 ∨ d.ctxReach (bits (j.w 4) 15 0) j.burgee = true) :
    d.ctxCmd aseq op f = f j (bits (j.w 4) 15 0) (d.began aseq) := by
  obtain ⟨hj, hph, hop, -, -⟩ := hb
  have hmay : ¬((d.began aseq).chRole j.chan = 0 ∧ (d.began aseq).ctxReach (bits (j.w 4) 15 0) j.burgee = false) := by
    rintro ⟨hrole, hreach⟩
    exact hr.elim (absurd hrole) fun h => Bool.noConfusion (h.symm.trans hreach)
  unfold Dev.ctxCmd
  rw [Dev.cmd_begun _ hj hph hop]
  exact if_neg hmay

/-! ### Opening and closing (R243, R244) -/

theorem Dev.ctx_openCtx (d : Dev) (i : Nat) (w : List Nat) : ((d.openCtx i w).ctx i).state = csOpen ∧
    ((d.openCtx i w).ctx i).w = w ∧ ((d.openCtx i w).ctx i).units = Ctx.need { w := w } := by
  rw [Dev.openCtx, Dev.ctx_of_red (Dev.syncEngine_red ..), Dev.ctx_setCtx]
  exact ⟨rfl, rfl, rfl⟩

theorem ctxOpen_opens {d : Dev} {aseq : Nat} {j : JEntry} {w : List Nat} (hb : Begun d aseq 0x0301 j)
    (hw : d.classed (((j.pkt.words ++ List.replicate 32 0).drop 5).take 9) (bitOf (j.w 14) 0) = w)
    (hst : d.openStatus (bits (j.w 4) 15 0) { w := w } (if d.chRole j.chan = 0 then some j.burgee else none) = St.ok)
    (hmay : d.mayLaunch (Ctx.burgee { w := w }) = true) :
    ctxOpen aseq d = ((d.began aseq).openCtx (bits (j.w 4) 15 0) w).complete aseq St.ok := by
  obtain ⟨hj, hph, hop, -, -⟩ := hb
  have hst' : (d.began aseq).openStatus (bits (j.w 4) 15 0) { w := w }
      (if (d.began aseq).chRole j.chan = 0 then some j.burgee else none) = St.ok := hst
  have hmay' : (d.began aseq).mayLaunch (Ctx.burgee { w := w }) = true := hmay
  have hw' : (d.began aseq).classed (((j.pkt.words ++ List.replicate 32 0).drop 5).take 9) (bitOf (j.w 14) 0) = w := hw
  unfold ctxOpen
  rw [Dev.cmd_begun _ hj hph hop]
  simp only [hw', hst', hmay', Bool.true_eq_false, ne_eq, not_true_eq_false, if_false]
  rfl

/-- A context that has ended closes to FREE, its absorb binding with it. -/
theorem Dev.closeBound_ended {d : Dev} {i : Nat} (h : (d.ctx i).state = csDone ∨ (d.ctx i).state = csAborted)
    (force : Bool) : d.closeBound i force = ((d.freeCtx i).unbindCtx i, St.ok) := by
  have hclose : d.closeCtx i force = (d.freeCtx i, St.ok) := by
    rcases h with h | h <;> simp [Dev.closeCtx, h, csFree, csRetired, csOpen, csStub, csDone, csAborted]
  simp [Dev.closeBound, hclose]

theorem Dev.ctx_freeCtx (d : Dev) (i : Nat) : (d.freeCtx i).ctx i = {} := by
  rw [Dev.freeCtx, Dev.ctx_of_red (Dev.syncEngine_red ..), Dev.ctx_setCtx]

/-! ### Migration (R265) -/

/-- A context that defers nothing has nothing to take again (R248). -/
theorem Dev.retakeDeferred_setCtx {c : Ctx} (h : c.deferred = []) (d : Dev) (i : Nat) :
    (d.setCtx i c).retakeDeferred i = d.setCtx i c := by
  have hc : ({ c with deferred := [] } : Ctx) = c := by rw [← h]
  simp only [Dev.retakeDeferred, Dev.ctx_setCtx, Dev.setCtx_setCtx, hc, h]
  rfl

/-- The stub that CTX_MIGRATE makes of a context. -/
def Ctx.migrated (c : Ctx) (now b e port : Nat) : Ctx :=
  { c with state := csStub, stubAt := now, timer := now, w := migWords c.w b e port true c.oldOk }

theorem ctxMigrate_migrates {d : Dev} {aseq : Nat} {j : JEntry} {c : Ctx} (hb : Begun d aseq 0x0304 j)
    (hr : d.chRole j.chan ≠ 0 ∨ d.ctxReach (bits (j.w 4) 15 0) j.burgee = true) (hc : d.ctx (bits (j.w 4) 15 0) = c)
    (hopen : c.state = csOpen) (hroot : c.root = true) (hepoch : bits (j.w 6) 7 0 = (c.epoch + 1) % 256)
    (hhigh : (c.slots.any fun x => decide (j.w 5 ≤ x.n) && x.ins != []) = false) (hdef : c.deferred = []) :
    ctxMigrate aseq d = ((d.began aseq).setCtx (bits (j.w 4) 15 0)
      (c.migrated d.now (j.w 5) (bits (j.w 6) 7 0) (bits (j.w 6) 16 8))).complete aseq St.ok := by
  have hnil := Dev.retakeDeferred_setCtx (c := c.migrated d.now (j.w 5) (bits (j.w 6) 7 0) (bits (j.w 6) 16 8)) hdef
  rw [ctxMigrate, Dev.ctxCmd_begun _ hb hr, ← hnil]
  simp only [Dev.ctx_began, hc, hopen, hroot, hepoch, hhigh, ne_eq, not_true_eq_false, Bool.true_eq_false,
    Bool.false_eq_true, or_self, if_false]
  rfl

/-! ### Aborting, reparenting and binding (R262, R267, R274) -/

theorem ctxClose_frees {d : Dev} {aseq : Nat} {j : JEntry} (hb : Begun d aseq 0x0302 j)
    (hr : d.chRole j.chan ≠ 0 ∨ d.ctxReach (bits (j.w 4) 15 0) j.burgee = true)
    (hended : (d.ctx (bits (j.w 4) 15 0)).state = csDone ∨ (d.ctx (bits (j.w 4) 15 0)).state = csAborted) :
    ctxClose aseq d =
      (((d.began aseq).freeCtx (bits (j.w 4) 15 0)).unbindCtx (bits (j.w 4) 15 0)).complete aseq St.ok := by
  rw [ctxClose, Dev.ctxCmd_begun _ hb hr, Dev.closeBound_ended (by rwa [Dev.ctx_began])]

theorem ctxAbort_aborts {d : Dev} {aseq : Nat} {j : JEntry} (hb : Begun d aseq 0x0303 j)
    (hr : d.chRole j.chan ≠ 0 ∨ d.ctxReach (bits (j.w 4) 15 0) j.burgee = true)
    (hopen : (d.ctx (bits (j.w 4) 15 0)).state = csOpen) :
    ctxAbort aseq d = ((d.began aseq).abortCtx (bits (j.w 4) 15 0) acCommand).complete aseq St.ok := by
  rw [ctxAbort, Dev.ctxCmd_begun _ hb hr]
  simp only [Dev.ctx_began, hopen, true_or, if_true]

theorem ctxReparent_writes {d : Dev} {aseq : Nat} {j : JEntry} {c : Ctx} (hb : Begun d aseq 0x0305 j)
    (hr : d.chRole j.chan ≠ 0 ∨ d.ctxReach (bits (j.w 4) 15 0) j.burgee = true) (hc : d.ctx (bits (j.w 4) 15 0) = c)
    (hopen : c.state = csOpen) :
    ctxReparent aseq d = ((d.began aseq).setCtx (bits (j.w 4) 15 0) { c with
      w := migWords c.w (j.w 5) (bits (j.w 6) 7 0) (bits (j.w 6) 16 8) (bitOf (j.w 6) 17) (bitOf (j.w 6) 18) }).complete
        aseq St.ok := by
  rw [ctxReparent, Dev.ctxCmd_begun _ hb hr]
  simp only [Dev.ctx_began, hc, hopen, ne_eq, not_true_eq_false, if_false]

@[simp] theorem Dev.bindReach_began (d : Dev) (a : Nat) (j : JEntry) : (d.began a).bindReach j = d.bindReach j := rfl

theorem ctxBind_binds {d : Dev} {aseq : Nat} {j : JEntry} (hb : Begun d aseq 0x0306 j)
    (hr : d.chRole j.chan ≠ 0 ∨ d.ctxReach (bits (j.w 4) 15 0) j.burgee = true) (hreach : d.bindReach j = true) :
    ctxBind aseq d =
      ((d.began aseq).bindCtx (bits (j.w 4) 15 0) (j.w 5) (j.w 6 * 2 ^ 32 + j.w 7) (j.w 8)).complete aseq St.ok := by
  rw [ctxBind, Dev.ctxCmd_begun _ hb hr]
  simp only [Dev.bindReach_began, hreach, Bool.true_eq_false, if_false]

theorem Dev.ctxStatus_began (d : Dev) (a i : Nat) : (d.began a).ctxStatus i = d.ctxStatus i := rfl

theorem ctxStat_answers {d : Dev} {aseq : Nat} {j : JEntry} (hb : Begun d aseq 0x0307 j)
    (hr : d.chRole j.chan ≠ 0 ∨ d.ctxReach (bits (j.w 4) 15 0) j.burgee = true) :
    ctxStat aseq d = (d.began aseq).complete aseq St.ok
      ([nth (d.ctx (bits (j.w 4) 15 0)).w 0, nth (d.ctx (bits (j.w 4) 15 0)).w 1] ++ d.ctxStatus (bits (j.w 4) 15 0)) := by
  rw [ctxStat, Dev.ctxCmd_begun _ hb hr]
  simp only [Dev.ctx_began, Dev.ctxStatus_began]

/-! ### The statement -/

/-- Settles O10: each command runs its one update of the context table or of the bindings, which RED.ESTAT, the records
of an abort and the completion leave alone. -/
theorem contextCommands : Obligations.ContextCommands := by
  unfold Obligations.ContextCommands
  refine ⟨?ctxOpen, ?ctxClose, ?ctxAbort, ?ctxMigrate, ?ctxReparent, ?ctxBind, ?ctxStat⟩
  case ctxOpen =>
    intro s aseq j w hb hw hst hmay
    refine Does.answered rfl hb (ctxOpen_opens hb hw hst hmay) rfl fun d hd => ?_
    rw [Dev.ctx_of_red hd]
    exact Dev.ctx_openCtx ..
  case ctxClose =>
    intro s aseq j hb hr hended
    refine Does.answered rfl hb (ctxClose_frees hb hr hended) rfl fun d hd => ?_
    have hfree : d.ctx (bits (j.w 4) 15 0) = ((s.dev.began aseq).freeCtx (bits (j.w 4) 15 0)).ctx (bits (j.w 4) 15 0) :=
      Dev.ctx_of_red (hd.trans (Dev.modStore_red ..)) _
    rw [hfree, Dev.ctx_freeCtx]
    rfl
  case ctxAbort =>
    intro s aseq j hb hr hopen _ _ _ _
    have hopen' : ((s.dev.began aseq).ctx (bits (j.w 4) 15 0)).state = csOpen := hopen
    refine Does.answered rfl hb (ctxAbort_aborts hb hr hopen) (Dev.abortCtx_journal (.inl hopen') ..) fun d hd => ?_
    rw [Dev.ctx_of_red hd]
    exact Dev.abortCtx_state hopen' ..
  case ctxMigrate =>
    intro s aseq j hb hr hopen hroot hepoch hhigh hdef
    refine Does.answered rfl hb (ctxMigrate_migrates hb hr rfl hopen hroot hepoch hhigh hdef) rfl fun d hd => ?_
    rw [Dev.ctx_of_red hd, Dev.ctx_setCtx]
    exact ⟨rfl, rfl, rfl⟩
  case ctxReparent =>
    intro s aseq j hb hr hopen
    refine Does.answered rfl hb (ctxReparent_writes hb hr rfl hopen) rfl fun d hd => ?_
    rw [Dev.ctx_of_red hd, Dev.ctx_setCtx]
  case ctxBind =>
    intro s aseq j hb hr hreach
    refine Does.answered rfl hb (ctxBind_binds hb hr hreach) rfl fun d hd => ?_
    rw [hd]
    exact Tab.get_put_self ..
  case ctxStat =>
    intro s aseq j hb hr
    have hans := Does.answered (c := .ctxStat aseq) (s := s) (P := fun _ => True) rfl hb (ctxStat_answers hb hr) rfl
      fun _ _ => trivial
    exact Does.imp hans fun _ h => h.1

end Sys2Proof.Machine
end

section
/-! PROOF. Contributions, chunks and results of a context (spec/09, R247 to R258), and what ends it: timeouts, errors and
the end of a stub (R261, R262, R266). -/

namespace Sys2Proof.Machine

/-! ### Chunk slots (R249) -/

@[simp] theorem Ctx.slot_n (c : Ctx) (n : Nat) : (c.slot n).n = n := by
  unfold Ctx.slot
  cases h : c.slots.find? fun s => s.n = n with
  | none => rfl
  | some s => simpa using List.find?_some h

theorem Ctx.slot_setSlot (c : Ctx) (s : ChunkSlot) : (c.setSlot s).slot s.n = s := by
  have hnone : (c.slots.filter fun x => x.n ≠ s.n).find? (fun x => x.n = s.n) = none := by
    simp [List.find?_eq_none]
  simp only [Ctx.slot, Ctx.setSlot, List.find?_append, hnone]
  simp

/-- A context that accumulates one chunk alone, all of whose ranks are combined, has that chunk's slot alone. -/
theorem Ctx.slots_of_ready {c : Ctx} {n : Nat} (hready : c.ready n = true) (hone : c.slots.length = 1) :
    c.slots = [c.slot n] := by
  obtain ⟨s, hs⟩ := List.length_eq_one_iff.1 hone
  unfold Ctx.ready at hready
  by_cases hn : s.n = n
  · simp [Ctx.slot, hs, hn]
  · simp [hs, hn] at hready

/-! ### Contributions (R247, R249 to R251) -/

/-- An input's entry in the arrival bitmap of its chunk. -/
def Stored.arr (s : Stored) (rank : Nat) : Arr :=
  { rank := rank, chk := payloadCheck s.pkt.payload, src := s.pkt.src, tag := s.pkt.tag, burgee := s.pkt.burgee
    entropy := s.pkt.entropy, dst := s.pkt.dst, ing := s.ing }

/-- A chunk's slot with one more input, held until it may be combined. -/
def ChunkSlot.hold (sl : ChunkSlot) (s : Stored) (rank pid : Nat) : ChunkSlot :=
  { sl with ins := sl.ins ++ [s.arr rank], held := sl.held ++ [(rank, pid)] }

/-- An EXACT context combines no input but the one of the next rank (R231, R251). -/
theorem Ctx.nextHeld_exact {c : Ctx} {s : ChunkSlot} (hex : c.exact = true) (h : ∀ x ∈ s.held, x.1 ≠ s.done)
    (keys : List KeyEnt) : c.nextHeld keys s = none := by
  unfold Ctx.nextHeld
  rw [List.find?_eq_none]
  intro x hx
  simp [hex, h x hx]

theorem Dev.combineHeld_none {d : Dev} {i n : Nat}
    (h : (d.ctx i).nextHeld (d.ctxKeys i (d.ctx i)) ((d.ctx i).slot n) = none) (f : Nat) : Dev.combineHeld f d i n = d := by
  cases f with
  | zero => rfl
  | succ f => simp only [Dev.combineHeld, h]

/-- The device once a new input is in the bitmap of its chunk and held, before any of the chunk's is combined. -/
def Dev.enterInput (d : Dev) (i n rank pid : Nat) (s : Stored) : Dev :=
  (d.setCtx i { (d.ctx i).setSlot (((d.ctx i).slot n).hold s rank pid) with timer := d.now }).redCount i 0 0

theorem Dev.takeBitmap_new {d : Dev} {i n r : Nat} (h : (((d.ctx i).slot n).ins.any fun a => a.rank = r) = false)
    (pid : Nat) (s : Stored) : d.takeBitmap i n r pid s =
      let e := Dev.combineHeld (((d.ctx i).slot n).hold s r pid).held.length (d.enterInput i n r pid s) i n
      if ((e.ctx i).slot n).held.any fun x => x.2 = pid then e.redCount i 0 2 else e := by
  have hfind : (((d.ctx i).slot n).ins.find? fun a => a.rank = r) = none := by
    simpa [List.find?_eq_none, List.any_eq_false] using h
  simp only [Dev.takeBitmap, hfind]
  rfl

theorem Dev.ctx_enterInput (d : Dev) (i n r pid : Nat) (s : Stored) : (d.enterInput i n r pid s).ctx i =
    { (d.ctx i).setSlot (((d.ctx i).slot n).hold s r pid) with timer := d.now } :=
  (Dev.ctx_of_red (Dev.redCount_red ..) i).trans (Dev.ctx_setCtx ..)

theorem Dev.slot_enterInput (d : Dev) (i n r pid : Nat) (s : Stored) :
    ((d.enterInput i n r pid s).ctx i).slot n = ((d.ctx i).slot n).hold s r pid := by
  have hslot := (d.ctx i).slot_setSlot (((d.ctx i).slot n).hold s r pid)
  rw [show (((d.ctx i).slot n).hold s r pid).n = n from Ctx.slot_n ..] at hslot
  rw [Dev.ctx_enterInput]
  exact hslot

/-- An input of an EXACT context whose rank is not the next is entered in the bitmap and held. -/
theorem Dev.slot_takeBitmap_held {d : Dev} {i n r : Nat} (hex : (d.ctx i).exact = true)
    (hheld : ((d.ctx i).slot n).held = []) (hdone : ((d.ctx i).slot n).done ≠ r)
    (hnew : (((d.ctx i).slot n).ins.any fun a => a.rank = r) = false) (pid : Nat) (s : Stored) :
    ((d.takeBitmap i n r pid s).ctx i).slot n = ((d.ctx i).slot n).hold s r pid := by
  have hwait : ((d.enterInput i n r pid s).ctx i).nextHeld ((d.enterInput i n r pid s).ctxKeys i
      ((d.enterInput i n r pid s).ctx i)) (((d.enterInput i n r pid s).ctx i).slot n) = none := by
    refine Ctx.nextHeld_exact ?exact ?later _
    case exact =>
      rw [Dev.ctx_enterInput]
      exact hex
    case later =>
      rw [Dev.slot_enterInput]
      simpa [ChunkSlot.hold, hheld] using hdone.symm
  rw [Dev.takeBitmap_new hnew, Dev.combineHeld_none hwait, ← Dev.slot_enterInput]
  dsimp only
  split <;> rfl

/-- A contribution that passes R247 for a chunk in the window of an OPEN context is taken into the bitmap. -/
theorem Dev.takeInput_window {d : Dev} {q pid r n : Nat} {s : Stored} (hp : d.pkt? pid = some s)
    (ht : d.inputTest q (s.pkt.collId % 65536) s.pkt = .ok (r, n))
    (hopen : (d.ctx (s.pkt.collId % 65536)).state = csOpen) (hlow : (d.ctx (s.pkt.collId % 65536)).low ≤ n)
    (hwin : n < (d.ctx (s.pkt.collId % 65536)).low + (d.ctx (s.pkt.collId % 65536)).window) :
    d.takeInput q pid = d.takeBitmap (s.pkt.collId % 65536) n r pid s := by
  have hstub : ¬(csOpen = csStub ∧ (d.ctx (s.pkt.collId % 65536)).migB ≤ n) := by simp [csOpen, csStub]
  have hlate : ¬(n < (d.ctx (s.pkt.collId % 65536)).low ∨ csOpen = csDone) := by simp [csOpen, csDone, hlow]
  simp only [Dev.takeInput, hp, ht, hopen, hstub, hlate, hwin.not_ge, if_false]

/-- The engine takes the oldest contribution of its queue, stored whole, unless the device parks (R34, R247). -/
theorem contributionTaken_takes {d e : Dev} {pid q : Nat} {s : Stored} {h : Holder} (hq : d.clusterOf pid = some q)
    (hp : d.pkt? pid = some s) (hhead : (d.engineQueue q (s.pkt.collId / 1024 % 16)).head? = some pid)
    (htake : d.takeWhole (rcAttach q) pid (rcTgt q) = some (s, h, e)) (hpark : e.parking = false) :
    contributionTaken pid d = (e.takeInput q pid).retryOut := by
  simp only [contributionTaken, hq, hp, hhead, htake, hpark, ne_eq, not_true_eq_false, Bool.false_eq_true, if_false]

/-- A packet that a block takes whole stays stored until its holder releases it. -/
theorem Dev.takeWhole_pkt {d e : Dev} {a pid tgt : Nat} {s : Stored} {h : Holder}
    (ht : d.takeWhole a pid tgt = some (s, h, e)) :
    e.pkt? pid = some s ∧ h.tgt = tgt ∧ ∃ l, e = { d with net := { d.net with attachIn := l } } := by
  unfold Dev.takeWhole Dev.takeAt at ht
  cases hx : (d.net.attachIn.get a []).find? fun x => x.1 = pid && x.2.tgt = tgt with
  | none => simp [hx] at ht
  | some x =>
    have hxt := List.find?_some hx
    cases hp : d.pkt? pid with
    | none => simp [hx, hp] at ht
    | some y =>
      simp only [hx, hp] at ht
      split at ht
      · cases ht
        exact ⟨hp, by simpa using (Bool.and_eq_true_iff.1 hxt).2, _, rfl⟩
      · cases ht

/-! ### Completion (R253, R258) -/

theorem Ctx.finished_of_low {c : Ctx} (h : c.low ≠ c.nchunk) : c.finished = false := by simp [Ctx.finished, h]

theorem Dev.checkDone_unfinished {d : Dev} {i : Nat} (h : (d.ctx i).finished = false) : d.checkDone i = d := by
  simp [Dev.checkDone, h]

theorem Dev.ctxTrigger_off {c : Ctx} (h : c.trigV = false) (d : Dev) (done : Bool) : d.ctxTrigger c done = d := by
  simp [Dev.ctxTrigger, h]

/-- A context without a token, a trigger and AUTOCLOSE becomes DONE at most. -/
theorem Dev.ctx_checkDone {d : Dev} {i : Nat} (htok : (d.ctx i).token = none) (htrig : (d.ctx i).trigV = false)
    (hauto : (d.ctx i).autoclose = false) : ∃ st, (d.checkDone i).ctx i = { d.ctx i with state := st } := by
  unfold Dev.checkDone
  dsimp only
  split
  · refine ⟨csDone, ?_⟩
    simp only [htok, hauto, Bool.false_eq_true, if_false, Dev.ctxTrigger_off htrig]
    exact Dev.ctx_setCtx ..
  · exact ⟨_, rfl⟩

/-- LOW moves, and slots are freed; the rest of the context stays. -/
theorem lowAfter_eq (f : Nat) (c : Ctx) : ∃ low slots, lowAfter f c = { c with low := low, slots := slots } := by
  induction f generalizing c with
  | zero => exact ⟨_, _, rfl⟩
  | succ f ih =>
    unfold lowAfter
    split
    · obtain ⟨low, slots, h⟩ := ih { c with low := c.low + 1, slots := c.slots.filter fun s => s.n ≠ c.low }
      exact ⟨low, slots, h⟩
    · exact ⟨_, _, rfl⟩

/-- The context with the slot of chunk `n` marked complete, before LOW moves. -/
def Ctx.completed (c : Ctx) (n now : Nat) : Ctx :=
  { c.setSlot { c.slot n with complete := true, acc := none, held := [] } with timer := now }

/-- A chunk of a context that defers nothing completes: LOW moves past what is complete. -/
theorem Dev.finishChunk_eq {d : Dev} {i n : Nat} (h : (d.ctx i).deferred = []) : d.finishChunk i n =
    d.setCtx i (lowAfter ((d.ctx i).completed n d.now).slots.length ((d.ctx i).completed n d.now)) := by
  obtain ⟨low, slots, hl⟩ :=
    lowAfter_eq ((d.ctx i).completed n d.now).slots.length ((d.ctx i).completed n d.now)
  refine Dev.retakeDeferred_setCtx ?_ d i
  exact (congrArg Ctx.deferred hl).trans h

theorem Dev.ctx_finishChunk {d : Dev} {i n : Nat} (h : (d.ctx i).deferred = []) : ∃ low slots,
    (d.finishChunk i n).ctx i = { (d.ctx i).completed n d.now with low := low, slots := slots } := by
  rw [Dev.finishChunk_eq h, Dev.ctx_setCtx]
  exact lowAfter_eq ..

/-- The lowest chunk completes and is the only one with a slot: LOW moves past it alone. -/
theorem lowAfter_completed {c : Ctx} (hslots : c.slots = [c.slot c.low]) (now : Nat) :
    lowAfter (c.completed c.low now).slots.length (c.completed c.low now) =
      { c with low := c.low + 1, slots := [], timer := now } := by
  have hone : (c.completed c.low now).slots = [{ c.slot c.low with complete := true, acc := none, held := [] }] := by
    simp only [Ctx.completed, Ctx.setSlot, hslots]
    simp
  rw [hone, List.length_singleton, lowAfter, hone]
  simp [Ctx.completed, Ctx.setSlot, lowAfter]

/-! ### Partials and results (R254, R255) -/

theorem Dev.Sends.trySend {d e : Dev} {k : Packet} {ing vc : Nat} {hs : Option (List Holder)} (h : d.Sends e) :
    d.Sends (e.trySend k ing vc hs).1 := by
  unfold Dev.trySend
  split
  · exact h.lookSend
  · split
    · exact .ofPair ‹_› h.storePkt
    · exact (Dev.Sends.ofPair ‹_› h.storePkt).each Dev.Sends.enterDesc

theorem Dev.Sends.noPathRecs {d e : Dev} {q n vc ing : Nat} {k : Packet} (h : d.Sends e) :
    d.Sends (e.noPathRecs q n k vc ing) := h.each fun hx => hx.countRefusal.record

/-- The packet of a partial (R254). -/
def Dev.partialPkt (d : Dev) (i n : Nat) (acc : List Nat) : Packet :=
  d.ctxPkt i (d.ctx i) n 1 (d.ctx i).partFmt (d.ownKey i (d.ctx i))
    (encodeVals (d.ctx i).partFmt ((d.ctx i).accVals acc) (d.ctx i).ovf).1

/-- A partial that is stored for the port up the tree completes its chunk. -/
theorem Dev.sendPartial_sent {d e : Dev} {i n pid : Nat} {acc : List Nat} (hacc : ((d.ctx i).slot n).acc = some acc)
    (hex : d.localExcl ((d.ctx i).upPort n) = false)
    (hsent : d.trySend (d.partialPkt i n acc) (rcAttach (ctxQuad i)) 4 (some [⟨(d.ctx i).upPort n, 4, 0x1000, false⟩]) =
      (e, .ok (some pid))) :
    ∃ e', d.Sends e' ∧ d.sendPartial i n = ((e'.finishChunk i n).ctxTrigger (d.ctx i) false).checkDone i := by
  have he : d.Sends e := .ofPair hsent (Dev.Sends.refl d).trySend
  refine ⟨(e.redCount i 3 1 (encodeVals (d.ctx i).partFmt ((d.ctx i).accVals acc) (d.ctx i).ovf).2.sats).redCount i 3 2
    ((d.ctx i).slot n).wrapped.length, he.redCount.redCount, ?_⟩
  unfold Dev.partialPkt at hsent
  simp only [Dev.sendPartial, hacc, hex, hsent, Bool.false_eq_true, if_false]

/-- The lowest chunk of an OPEN node that is no root: its partial goes up, and LOW moves past it (R253, R254). -/
theorem chunkComplete_sends {d e : Dev} {i n pid : Nat} {acc : List Nat} (hopen : (d.ctx i).state = csOpen)
    (hroot : (d.ctx i).root = false) (hready : (d.ctx i).ready n = true) (hlow : n = (d.ctx i).low)
    (hslotted : d.slotted (d.ctx i).burgee = false) (hacc : ((d.ctx i).slot n).acc = some acc)
    (hex : d.localExcl ((d.ctx i).upPort n) = false)
    (hsent : d.trySend (d.partialPkt i n acc) (rcAttach (ctxQuad i)) 4 (some [⟨(d.ctx i).upPort n, 4, 0x1000, false⟩]) =
      (e, .ok (some pid)))
    (hone : (d.ctx i).slots.length = 1) (hdef : (d.ctx i).deferred = []) (htrig : (d.ctx i).trigV = false)
    (hmore : n + 1 ≠ (d.ctx i).nchunk) :
    ∃ now, (chunkComplete i n d).ctx i = { d.ctx i with low := n + 1, slots := [], timer := now } := by
  obtain ⟨e', he', hsend⟩ := Dev.sendPartial_sent hacc hex hsent
  have hctx : e'.ctx i = d.ctx i := Dev.ctx_of_red he'.red i
  have hslots : (d.ctx i).slots = [(d.ctx i).slot (d.ctx i).low] := hlow ▸ Ctx.slots_of_ready hready hone
  have hfinish : e'.finishChunk i n = e'.setCtx i { d.ctx i with low := n + 1, slots := [], timer := e'.now } := by
    rw [Dev.finishChunk_eq (hctx.symm ▸ hdef), hctx, hlow, lowAfter_completed hslots]
  have hgoes : chunkComplete i n d = d.sendPartial i n := by
    have hrun : (d.ctx i).state = csOpen ∧ (d.ctx i).root = false ∧ (d.ctx i).ready n = true ∧ n = (d.ctx i).low :=
      ⟨hopen, hroot, hready, hlow⟩
    simp only [chunkComplete, if_pos hrun, hslotted, Bool.false_eq_true, if_false]
  refine ⟨e'.now, ?_⟩
  rw [hgoes, hsend, hfinish, Dev.ctxTrigger_off htrig, Dev.checkDone_unfinished, Dev.ctx_setCtx]
  rw [Dev.ctx_setCtx]
  exact Ctx.finished_of_low hmore

/-- The packet of a root's result, outside a combine context (R255). -/
def Dev.resultPkt (d : Dev) (i n : Nat) (acc : List Nat) : Packet :=
  d.ctxPkt i (d.ctx i) n 2 (d.ctx i).rfmt 0 (encodeVals (d.ctx i).rfmt ((d.ctx i).accVals acc) (d.ctx i).ovf).1

/-- What follows once the result of chunk `n` is stored as packet `pid`, before its context counts it: its descriptors
enter their queues, and what it lost and saturated is recorded and counted. -/
def Dev.resultOut (d : Dev) (i n pid : Nat) (c : Ctx) (hs : List Holder) (k : Packet) (gone sats : Nat) : Dev :=
  ((((d.each hs fun d h => d.enterDesc pid h).noPathRecs (ctxQuad i) gone k 5 (rcAttach (ctxQuad i))).redCount i 0
    5).redCount i 3 1 sats).redCount i 3 2 (c.slot n).wrapped.length

theorem Dev.resultOut_red (d : Dev) (i n pid : Nat) (c : Ctx) (hs : List Holder) (k : Packet) (gone sats : Nat) :
    (d.resultOut i n pid c hs k gone sats).red = d.red :=
  ((Dev.Sends.refl d).each Dev.Sends.enterDesc).noPathRecs.redCount.redCount.redCount.red

/-- A root's context once a result with these histogram bins is counted (R258). -/
def Ctx.counted (c : Ctx) (bins : List Nat) : Ctx :=
  { c with hist := histAdd c.hist bins, resCount := c.resCount + 1 }

/-- The histogram bins of chunk `n`'s result. -/
def Ctx.resultBins (c : Ctx) (n : Nat) (acc : List Nat) : List Nat :=
  (encodeVals c.rfmt (c.accVals acc) c.ovf).2.bins ++
    if fmtInt c.rfmt then List.replicate (c.slot n).wrapped.length 63 else []

/-- A root's result that is stored for its holders is counted, and completes its chunk. -/
theorem Dev.storeResult_stored {d e : Dev} {i n pid : Nat} {acc : List Nat} (hacc : ((d.ctx i).slot n).acc = some acc)
    (htok : (d.ctx i).token = none) (hhs : d.resultHolders i (d.ctx i) ≠ [])
    (hstored : d.storePkt (d.resultPkt i n acc) (rcAttach (ctxQuad i)) 5 (flitsOf (d.resultPkt i n acc))
      (d.resultHolders i (d.ctx i)) none (some i) = (e, some pid)) :
    ∃ x : Dev, x.red = e.red ∧
      d.storeResult i n = (((x.setCtx i ((x.ctx i).counted ((d.ctx i).resultBins n acc))).finishChunk i n).ctxTrigger
        (x.ctx i) false).checkDone i := by
  refine ⟨_, Dev.resultOut_red e i n pid (d.ctx i) (d.resultHolders i (d.ctx i)) (d.resultPkt i n acc)
    ((d.ctxSlots i (d.ctx i)).length + b2n (d.ctx i).absorb - (d.resultHolders i (d.ctx i)).length)
    (encodeVals (d.ctx i).rfmt ((d.ctx i).accVals acc) (d.ctx i).ovf).2.sats, ?_⟩
  unfold Dev.resultPkt at hstored ⊢
  unfold Dev.resultOut Ctx.counted Ctx.resultBins
  simp only [Dev.storeResult, hacc, htok, hhs, hstored, if_false]

/-- A chunk of an OPEN root: its result is counted once it is stored for its holders (R255, R258). -/
theorem rootChunkComplete_counts {d e : Dev} {i n pid : Nat} {acc : List Nat} (hopen : (d.ctx i).state = csOpen)
    (hroot : (d.ctx i).root = true) (hready : (d.ctx i).ready n = true)
    (hslotted : d.slotted (d.ctx i).burgee = false) (hacc : ((d.ctx i).slot n).acc = some acc)
    (htok : (d.ctx i).token = none) (hhs : d.resultHolders i (d.ctx i) ≠ [])
    (hstored : d.storePkt (d.resultPkt i n acc) (rcAttach (ctxQuad i)) 5 (flitsOf (d.resultPkt i n acc))
      (d.resultHolders i (d.ctx i)) none (some i) = (e, some pid))
    (hdef : (d.ctx i).deferred = []) (htrig : (d.ctx i).trigV = false) (hauto : (d.ctx i).autoclose = false) :
    ((rootChunkComplete i n d).ctx i).resCount = (d.ctx i).resCount + 1 := by
  obtain ⟨x, hx, hstore⟩ := Dev.storeResult_stored hacc htok hhs hstored
  have hctx : x.ctx i = d.ctx i :=
    Dev.ctx_of_red (hx.trans (Dev.Sends.ofPair hstored (Dev.Sends.refl d).storePkt).red) i
  have hgoes : rootChunkComplete i n d = d.storeResult i n := by
    have hrun : ((d.ctx i).state = csOpen ∨ ((d.ctx i).state = csStub ∧ n < (d.ctx i).migB)) ∧
        (d.ctx i).root = true ∧ (d.ctx i).ready n = true := ⟨.inl hopen, hroot, hready⟩
    simp only [rootChunkComplete, if_pos hrun, hslotted, Bool.false_eq_true, if_false]
  rw [hgoes, hstore, hctx, Dev.ctxTrigger_off htrig]
  set c : Ctx := (d.ctx i).counted ((d.ctx i).resultBins n acc) with hc
  have hcount : (x.setCtx i c).ctx i = c := Dev.ctx_setCtx ..
  obtain ⟨low, slots, hfinish⟩ := Dev.ctx_finishChunk (d := x.setCtx i c) (i := i) (n := n) (by rw [hcount]; exact hdef)
  rw [hcount] at hfinish
  obtain ⟨st, hdone⟩ := Dev.ctx_checkDone (d := (x.setCtx i c).finishChunk i n) (i := i) (by rw [hfinish]; exact htok)
    (by rw [hfinish]; exact htrig) (by rw [hfinish]; exact hauto)
  rw [hdone, hfinish]
  rfl

/-! ### Results passed down (R256, R258) -/

/-- A result stored whole for its holders is counted as passed down by its context, which has chunks left. -/
theorem Dev.ctx_countResult {d : Dev} {pid : Nat} {s : Stored} (hp : d.pkt? pid = some s)
    (hs : s.pkt.pclass = 2 ∧ s.pkt.typ = 2 ∧ isPort s.ing = true ∧ s.have_ = s.flits ∧ s.stomped = false ∧
      s.ctx.isSome = true)
    (hlow : (d.ctx (s.pkt.collId % 65536)).low ≠ (d.ctx (s.pkt.collId % 65536)).nchunk) :
    (d.countResult pid).ctx (s.pkt.collId % 65536) = { d.ctx (s.pkt.collId % 65536) with
      resCount := (d.ctx (s.pkt.collId % 65536)).resCount + 1
      down := (d.ctx (s.pkt.collId % 65536)).down ++
        [s.pkt.offset / (d.ctx (s.pkt.collId % 65536)).chunkBytes (d.ctx (s.pkt.collId % 65536)).rfmt]
      timer := d.now } := by
  simp only [Dev.countResult, hp, if_pos hs, Dev.passDown]
  rw [Dev.checkDone_unfinished, Dev.ctx_setCtx]
  · rfl
  · rw [Dev.ctx_setCtx]
    exact Ctx.finished_of_low hlow

theorem resultArrival_counts {d : Dev} {p pid : Nat} (harr : (d.net.arrivals.find? fun a => a.port = p) = none)
    (hpkts : (d.net.pkts.filter fun x => x.2.ing = p && x.2.ctx.isSome).map Prod.fst = [pid]) :
    resultArrival p d = d.countResult pid := by
  simp only [resultArrival, harr, hpkts]
  rfl

/-! ### The end of a stub (R266) -/

theorem ctx_stubRetire {d : Dev} {i : Nat} (hstub : (d.ctx i).state = csStub) (hdrain : d.drain (d.ctx i) = 0)
    (hmin : (d.ctx i).stubAt + d.stubMinNs i ≤ d.now) : (stubRetire i d).ctx i =
      { d.ctx i with state := csRetired, slots := [], deferred := [], fwd := [], units := 0 } := by
  simp only [stubRetire, hstub, hdrain, hmin, and_self, if_true]
  exact (Dev.ctx_of_red (Dev.syncEngine_red ..) i).trans (Dev.ctx_setCtx ..)

/-! ### The statement -/

/-- Settles O11: each event comes down to one write of its context, which RED.ESTAT, the records and the packets that
follow leave alone. -/
theorem reductionEvents : Obligations.ReductionEvents := by
  unfold Obligations.ReductionEvents
  refine ⟨?contribution, ?chunk, ?rootChunk, ?result, ?timeout, ?ecc, ?stub⟩
  case contribution =>
    intro s pid q r n st h d1 hq hp hhead htake hpark htest hopen hlow hwin hex hheld hdone hnew
    have hslot := Dev.slot_takeBitmap_held hex hheld hdone hnew pid st
    have htest : d1.inputTest q (st.pkt.collId % 65536) st.pkt = .ok (r, n) := by
      split at htest
      · rw [‹d1.inputTest _ _ _ = _›, Option.some.inj htest]
      · cases htest
    refine Does.of_act rfl ?_
    rw [contributionTaken_takes hq hp hhead htake hpark, Dev.ctx_platform, Dev.ctx_of_red (Dev.retryOut_red _),
      Dev.takeInput_window (Dev.takeWhole_pkt htake).1 htest hopen hlow hwin, hslot]
    simp [ChunkSlot.hold, Stored.arr, hheld]
  case chunk =>
    intro s i n acc hopen hroot hready hlow hslotted hacc hex hsent hone hdef htrig hmore
    split at hsent
    case h_2 => cases hsent
    case h_1 e pid hstored =>
    obtain ⟨now, hctx⟩ := chunkComplete_sends hopen hroot hready hlow hslotted hacc hex hstored hone hdef htrig hmore
    refine Does.of_act rfl ?_
    rw [Dev.ctx_platform, hctx]
    exact ⟨rfl, rfl⟩
  case rootChunk =>
    intro s i n acc k hopen hroot hready hslotted hacc htok hk hhs hstored hdef htrig hauto
    subst hk
    obtain ⟨pid, hpid⟩ := Option.isSome_iff_exists.1 hstored
    refine Does.of_act rfl ?_
    rw [Dev.ctx_platform]
    exact rootChunkComplete_counts hopen hroot hready hslotted hacc htok hhs (Prod.ext rfl hpid) hdef htrig hauto
  case result =>
    intro s p pid st harr hpkts hp hst hlow
    refine Does.of_act rfl ?_
    rw [Dev.ctx_platform, resultArrival_counts harr hpkts, Dev.ctx_countResult hp hst hlow]
    exact ⟨rfl, rfl⟩
  case timeout =>
    intro s i hopen hlate _ _ _ _
    have habort : arrivalTimeout i s.dev = s.dev.abortCtx i acArriveTimeout := if_pos ⟨.inl hopen, hlate⟩
    obtain ⟨hst, hcause⟩ := Dev.abortCtx_state hopen acArriveTimeout none
    refine Does.of_act rfl ?_
    rw [Dev.ctx_platform, Dev.rd_platform, habort]
    exact ⟨hst, hcause, Dev.abortCtx_seen (.inl hopen) ..⟩
  case ecc =>
    intro s i hopen _ _ _ _
    have habort : accEcc i s.dev = (s.dev.set R.RED_ERR_ACC_ECC_SEEN (ctxQuad i)).abortCtx i acAccEcc :=
      if_pos (.inl hopen)
    have hopen : ((s.dev.set R.RED_ERR_ACC_ECC_SEEN (ctxQuad i)).ctx i).state = csOpen := hopen
    have hkeeps := Dev.abortCtx_sameCtxs (.inl hopen) acAccEcc none
    obtain ⟨hst, hcause⟩ := Dev.abortCtx_state hopen acAccEcc none
    refine Does.of_act rfl ?_
    rw [Dev.ctx_platform, Dev.rd_platform, habort]
    refine ⟨hst, hcause, ?_⟩
    rw [hkeeps.rd _ (by decide), Dev.rd_set_other _ (by decide)]
    exact Dev.rd_set_self _ rfl ..
  case stub =>
    intro s i hstub hdrain hmin
    refine Does.of_act rfl ?_
    rw [Dev.ctx_platform, ctx_stubRetire hstub hdrain hmin]
    exact ⟨rfl, rfl⟩

end Sys2Proof.Machine
end

section
/-! PROOF. Regions and streamers that land (spec/10, R272 to R274), neighbour records (spec/09, R263) and the dispatch
unit (spec/10, R289 to R294). -/

namespace Sys2Proof.Machine

/-! ### Regions (R272) -/

theorem Dev.region_of_red {d e : Dev} (h : e.red = d.red) (x : Nat) : e.region x = d.region x := by
  rw [Dev.region, h, Dev.region]

/-- The device with the region entry of handle `h` written. -/
def Dev.setRegion (d : Dev) (h : Nat) (r : Region) : Dev :=
  { d with red := { d.red with regions := d.red.regions.put (h / 16384 % 4, h % 4096) r } }

@[simp] theorem Dev.region_setRegion (d : Dev) (h : Nat) (r : Region) : (d.setRegion h r).region h = r :=
  Tab.get_put_self ..

@[simp] theorem Dev.region_began (d : Dev) (a h : Nat) : (d.began a).region h = d.region h := rfl
@[simp] theorem Dev.cmdReach_began (d : Dev) (a : Nat) (j : JEntry) (b : Nat) :
    (d.began a).cmdReach j b = d.cmdReach j b := rfl
@[simp] theorem Dev.regionPlace_began (d : Dev) (a : Nat) (r : Region) : (d.began a).regionPlace r = d.regionPlace r :=
  rfl

theorem regionReg_writes {d : Dev} {aseq : Nat} {j : JEntry} {r : Region} (hb : Begun d aseq 0x030D j)
    (hr : regionOf ((j.pkt.words ++ List.replicate 32 0).drop 5) = r) (hreach : d.cmdReach j r.burgee = true)
    (hcur : (d.region (j.w 4)).v = false ∨ d.cmdReach j (d.region (j.w 4)).burgee = true) (hcheck0 : j.w 4 / 65536 ≠ 0)
    (hcheck : r.check = j.w 4 / 65536) (hbits : j.w 4 / 4096 % 4 = 0) (hplace : r.v = false ∨ d.regionPlace r = St.ok) :
    regionReg aseq d = ((d.began aseq).setRegion (j.w 4) r).complete aseq St.ok := by
  obtain ⟨hj, hph, hop, -, -⟩ := hb
  have hmay : ¬(d.cmdReach j r.burgee = false ∨
      (d.region (j.w 4)).v = true ∧ d.cmdReach j (d.region (j.w 4)).burgee = false) := by
    rcases hcur with h | h <;> simp [hreach, h]
  have hok : (if r.v = true then d.regionPlace r else St.ok) = St.ok := by
    rcases hplace with h | h <;> simp [h]
  rw [regionReg, Dev.cmd_begun _ hj hph hop]
  simp only [Dev.region_began, Dev.cmdReach_began, Dev.regionPlace_began, hr, hmay, hcheck0, hcheck, hbits, hok, ne_eq,
    not_true_eq_false, or_self, if_false]
  rfl

theorem regionDereg_clears {d : Dev} {aseq : Nat} {j : JEntry} (hb : Begun d aseq 0x030E j)
    (hv : (d.region (j.w 4)).v = true) (hcheck : (d.region (j.w 4)).check = j.w 4 / 65536) (hcheck0 : j.w 4 / 65536 ≠ 0)
    (hreach : d.cmdReach j (d.region (j.w 4)).burgee = true) (hidle : d.landingIn (regionNo (j.w 4)) = false) :
    regionDereg aseq d =
      ((d.began aseq).setRegion (j.w 4) { d.region (j.w 4) with v := false }).complete aseq St.ok := by
  obtain ⟨hj, hph, hop, -, -⟩ := hb
  have hgood : ¬((d.region (j.w 4)).v = false ∨ (d.region (j.w 4)).check ≠ j.w 4 / 65536 ∨ j.w 4 / 65536 = 0) := by
    simp [hv, hcheck, hcheck0]
  have hidle' : ¬((d.began aseq).setRegion (j.w 4) { d.region (j.w 4) with v := false }).landingIn
      (regionNo (j.w 4)) = true := Bool.eq_false_iff.1 hidle
  rw [regionDereg, Dev.cmd_begun _ hj hph hop]
  simp only [Dev.region_began, Dev.cmdReach_began, hgood, hreach, Bool.true_eq_false, if_false]
  exact if_neg hidle'

theorem regionDeregComplete_red {d : Dev} {no : Nat} (h : d.landingIn no = false) :
    (regionDeregComplete no d).red = { d.red with deregs := d.red.deregs.filter fun x => x.1 ≠ no } := by
  simp only [regionDeregComplete, h, Bool.false_eq_true, if_false]
  exact Dev.each_keeps Dev.red _ _ fun e x => Dev.complete_red ..

/-! ### Landing (R273, R274) -/

theorem streamerLanding_begins {d e : Dev} {pid t r off : Nat} {st : Stored} {h : Holder} {trig : Option Nat} {x : Region}
    (htake : d.takeWhole (attachOf t) pid t = some (st, h, e)) (hland : landsInMemory st.pkt = true)
    (hfmt : st.pkt.typ ≠ 2 ∨ e.redFmt st.pkt.fmt = true) (hplace : e.landingPlace st.pkt = some (r, off, trig))
    (hcheck : e.regionCheck r off st.pkt.payload.length st.pkt.burgee true = .ok x) :
    (streamerLanding pid t d).red.landings = e.red.landings ++
      [{ pid := pid, hold := h, target := x.target, addr := x.base + off, region := regionNo r, trig := trig }] := by
  obtain ⟨-, -, l, rfl⟩ := Dev.takeWhole_pkt htake
  have hgood : ¬(st.pkt.typ = 2 ∧ d.redFmt st.pkt.fmt = false) := by
    rintro ⟨htyp, hbad⟩
    exact hfmt.elim (absurd htyp) fun h => Bool.noConfusion (h.symm.trans hbad)
  simp only [streamerLanding, htake, hland, hgood, hplace, hcheck, Bool.true_eq_false, if_false]

/-- Bytes written to a tile's SRAM without poison. -/
theorem Dev.sramWrite_clean {d : Dev} {t : Nat} (h : (d.eccOf t).poison = []) (a : Nat) (bytes : List Nat) :
    d.sramWrite t a bytes = d.setSram t ((d.sramOf t).writeN a bytes) := by
  have hhit : (wordsOf a bytes.length).filter (d.eccOf t).poison.contains = [] := by simp [h]
  simp only [Dev.sramWrite, hhit, if_true]

/-- The last byte of a landing in a tile becomes visible, and what follows is traffic. -/
theorem landingComplete_lands {d : Dev} {pid t : Nat} {l : Landing} {st : Stored}
    (hl : (d.red.landings.find? fun l => l.pid = pid && l.hold.tgt = t) = some l) (hp : d.pkt? pid = some st)
    (ht : l.target < 64) (hon : d.pdOn (pdOfMem l.target) = true) (hclean : (d.eccOf l.target).poison = [])
    (htrig : l.trig = none) :
    Dev.Sends ({ d with red := { d.red with landings := d.red.landings.erase l } }.setSram l.target
      ((d.sramOf l.target).writeN l.addr st.pkt.payload)) (landingComplete pid t d) := by
  set e : Dev := { d with red := { d.red with landings := d.red.landings.erase l } } with he
  have hwrite : e.memWrite l.target l.addr st.pkt.payload =
      e.setSram l.target ((d.sramOf l.target).writeN l.addr st.pkt.payload) := by
    have hclean' : (e.eccOf l.target).poison = [] := hclean
    rw [Dev.memWrite, if_pos ht]
    exact Dev.sramWrite_clean hclean' ..
  have hlands : landingComplete pid t d =
      ((e.setSram l.target ((d.sramOf l.target).writeN l.addr st.pkt.payload)).release pid l.hold).retryOut := by
    have hp' : e.pkt? pid = some st := hp
    have hon' : e.pdOn (pdOfMem l.target) = true := hon
    rw [← hwrite]
    simp only [landingComplete, hl, ← he, hp', hon', htrig, Bool.true_eq_false, if_false]
  rw [hlands]
  exact (Dev.Sends.refl _).release.retryOut

/-! ### Tokens placed (R290) -/

theorem Dev.sramWrite_red (d : Dev) (t a : Nat) (bytes : List Nat) : (d.sramWrite t a bytes).red = d.red := by
  simp only [Dev.sramWrite, apply_ite Dev.red]
  simp [Dev.syncPoison]

theorem Dev.modTile_red (d : Dev) (t : Nat) (f : Tile → Tile) : (d.modTile t f).red = d.red := rfl

/-- An entry put in a tile's ring leaves the reduction and collective state alone. -/
theorem Dev.rxPut_red {d e : Dev} {t : Nat} {sv : Bool} {bytes : List Nat} (h : d.rxPut t sv bytes = some e) :
    e.red = d.red := by
  unfold Dev.rxPut at h
  dsimp only at h
  generalize (if sv = true then (d.tile t).rx1 else (d.tile t).rx0) = r at h
  split at h
  · cases h
  · cases h
    exact (Dev.modTile_red ..).trans (Dev.sramWrite_red ..)

@[simp] theorem Dev.syncCol_red (d : Dev) (q : Nat) : (d.syncCol q).red = d.red := rfl

/-- The token that the dispatch unit makes of a stored packet. -/
def Dev.tokenOf (d : Dev) (q pid : Nat) (s : Stored) : Token :=
  { pid := pid, group := s.pkt.collId % 256, pkt := s.pkt, ing := s.ing
    due := d.now + 1000 * (d.group q (s.pkt.collId % 256)).gateTo }

/-- The oldest waiting token of a quadrant takes the lowest free slot, once its tile's ring takes it. -/
theorem Dev.placeToken_places {d : Dev} {q pid n x : Nat} {h : Holder} {s : Stored} {rest : List (Nat × Holder × Nat)}
    (hwait : d.red.tokenWait.get q [] = (pid, h, x) :: rest) (hp : d.pkt? pid = some s) (hn : d.freeToken q = some n)
    (hput : (d.rxPut h.tgt false (tokenBytes n (s.pkt.collId % 256) s.pkt)).isSome = true) :
    ∃ e : Dev, (d.placeToken q).red = { d.red with
      tokens := d.red.tokens.put (q, n) (e.tokenOf q pid s), tokenWait := d.red.tokenWait.put q rest } := by
  obtain ⟨e, he⟩ := Option.isSome_iff_exists.1 hput
  refine ⟨e, ?_⟩
  rw [← Dev.rxPut_red he]
  simp only [Dev.placeToken, hwait, hp, hn, he, Dev.retryOut_red, Dev.release_red, Dev.syncCol_red]
  rfl

theorem Dev.placeToken_none {d : Dev} {q : Nat} (h : d.red.tokenWait.get q [] = []) : d.placeToken q = d := by
  simp only [Dev.placeToken, h]

/-- A token that passes the checks, with none before it, takes a slot at once. -/
theorem dispatchTokenReceived_places {d d1 : Dev} {pid t : Nat} {st : Stored} {h : Holder}
    (htake : d.takeWhole (attachOf t) pid t = some (st, h, d1)) (hcls : st.pkt.pclass = 2) (htyp : st.pkt.typ = 3)
    (htest : d1.tokenTest t st.pkt = 0) (hwait : d1.red.tokenWait.get (quadOfTile t) [] = []) :
    dispatchTokenReceived pid t d = ({ d1 with red := { d1.red with
      tokenWait := d1.red.tokenWait.put (quadOfTile t) [(pid, h, d1.now)] } } : Dev).placeToken (quadOfTile t) := by
  simp only [dispatchTokenReceived, htake, hcls, htyp, htest, hwait, List.nil_append, Tab.get_put_self,
    List.length_singleton, ne_eq, not_true_eq_false, or_self, if_false, if_true]

/-! ### Tokens ended (R291, R294) -/

theorem Dev.Sends.dropPlaceholders {d e : Dev} {pid : Nat} (h : d.Sends e) : d.Sends (e.dropPlaceholders pid) := by
  unfold Dev.dropPlaceholders
  split
  · exact h
  · exact h.each Dev.Sends.release

@[simp] theorem Dev.dropPlaceholders_red (d : Dev) (pid : Nat) : (d.dropPlaceholders pid).red = d.red :=
  (Dev.Sends.refl d).dropPlaceholders.red

@[simp] theorem Dev.dropToken_red (d : Dev) (q t : Nat) :
    (d.dropToken q t).red = { d.red with tokens := d.red.tokens.del (q, t) } := rfl

theorem Dev.rd_dropToken {g : Fld} (hg : R.COL_TSTAT_TRIG_FREE.id ≠ g.id ∧ R.COL_TSTAT_SLOT_FREE.id ≠ g.id) (d : Dev)
    (q t i k : Nat) : (d.dropToken q t).rd g i k = d.rd g i k :=
  (Dev.rd_wr_other _ hg.2 ..).trans (Dev.rd_wr_other _ hg.1 ..)

theorem Dev.Sends.tokenRec {d e : Dev} {q r : Nat} {k : Token} (hr : r ≠ rDispatchInvalid) (h : d.Sends e) :
    d.Sends (e.tokenRec q k r) := by
  rw [Dev.tokenRec, if_neg hr]
  exact h.record

@[simp] theorem Dev.zeroResults_red (d : Dev) (q slot : Nat) (g : Group) (k : Token) (o : Slot) :
    (d.zeroResults q slot g k o).red = { d.red with tokens := d.red.tokens.del (q, slot) } := by
  rw [Dev.zeroResults, Dev.dropToken_red, Dev.dropPlaceholders_red,
    Dev.each_keeps Dev.red _ _ fun e n => (Dev.Sends.refl e).sendOut.red]

@[simp] theorem Dev.takeGateRec_red (d : Dev) (q : Nat) (r : GateRec) : (d.takeGateRec q r).red =
    { d.red with gateRecs := d.red.gateRecs.put q ((d.red.gateRecs.get q []).drop 1) } := rfl

/-- A gate record of no expert ends its token (R291). -/
theorem gateRecordTaken_zero {d : Dev} {q : Nat} {r : GateRec} {rest : List GateRec} {k : Token} {o : Slot}
    (hrec : d.red.gateRecs.get q [] = r :: rest) (hk : d.red.tokens.look (q, nth r.words 0 / 65536) = some k)
    (hctx : k.ctx = none) (hgroup : k.group = nth r.words 0 / 256 % 256)
    (htile : (d.group q (nth r.words 0 / 256 % 256)).tile = r.tile) (hnone : nth r.words 0 / 16 % 16 = 0)
    (hslot : d.originSlot q k = .ok o) :
    (gateRecordTaken q d).red = { d.red with
      gateRecs := d.red.gateRecs.put q rest, tokens := d.red.tokens.del (q, nth r.words 0 / 65536) } := by
  have hmine : ¬(k.ctx.isSome = true ∨ k.group ≠ nth r.words 0 / 256 % 256 ∨
      (d.group q (nth r.words 0 / 256 % 256)).tile ≠ r.tile) := by simp [hctx, hgroup, htile]
  have hzero : gateRecordTaken q d = (d.takeGateRec q r).zeroResults q (nth r.words 0 / 65536)
      (d.group q (nth r.words 0 / 256 % 256)) k o := by
    simp only [gateRecordTaken, hrec, hk, hmine, hnone, hslot, Nat.not_lt_zero, if_false]
    rfl
  rw [hzero, Dev.zeroResults_red, Dev.takeGateRec_red, hrec]
  rfl

/-- No gate record in time ends its token (R294). -/
theorem gateTimeout_ends {d : Dev} {q slot : Nat} {k : Token} (hk : d.red.tokens.look (q, slot) = some k)
    (hctx : k.ctx = none) (hdue : k.due ≤ d.now) (hwait : d.red.tokenWait.get q [] = []) :
    ∃ e : Dev, (d.set R.COL_ERR_GATE_TO_SEEN q).Sends e ∧ gateTimeout q slot d = (e.dropToken q slot).retryOut := by
  have hlate : ¬(k.ctx.isSome = true ∨ d.now < k.due) := by simp [hctx, hdue]
  have hsent : (d.set R.COL_ERR_GATE_TO_SEEN q).Sends ((((d.set R.COL_ERR_GATE_TO_SEEN q).count 0x09 q 0 4).tokenRec q k
      rGateTimeout).dropPlaceholders k.pid) :=
    ((Dev.Sends.refl (d.set R.COL_ERR_GATE_TO_SEEN q)).count.tokenRec (by decide)).dropPlaceholders
  refine ⟨_, hsent, ?_⟩
  simp only [gateTimeout, hk, hlate, if_false]
  rw [Dev.placeToken_none]
  rw [Dev.dropToken_red]
  exact (congrArg (fun r : Red => r.tokenWait.get q []) hsent.red).trans hwait

/-! ### Records received (R263, R293) -/

/-- A neighbour record aborts the OPEN context that it names (R263). -/
theorem failPennantReceived_neighbour {d d1 : Dev} {pid : Nat} {st : Stored} (htake : d.takeHub pid isFail = some (st, d1))
    (hdst : st.pkt.dst = 0xFFFFE) (hitem : st.pkt.arg5 / 2 ^ 28 = 7) (hop : st.pkt.opcode = rCtxAborted)
    (hcheck : (d1.ctx (st.pkt.arg6 % 65536)).check = st.pkt.arg6 / 65536)
    (hopen : (d1.ctx (st.pkt.arg6 % 65536)).state = csOpen) :
    failPennantReceived pid d = d1.abortCtx (st.pkt.arg6 % 65536) acNeighbour (some st.ing) := by
  have hnamed : st.pkt.arg5 / 2 ^ 28 = 7 ∧ st.pkt.opcode = rCtxAborted ∧
      (d1.ctx (st.pkt.arg6 % 65536)).state ≠ csFree ∧
      (d1.ctx (st.pkt.arg6 % 65536)).check = st.pkt.arg6 / 65536 := ⟨hitem, hop, by rw [hopen]; decide, hcheck⟩
  simp only [failPennantReceived, htake, hdst, if_pos hnamed, if_true]

/-- An expert's record aborts the combine context that it names (R293). -/
theorem expertFailReceived_aborts {d d1 d2 : Dev} {pid q : Nat} {st : Stored} {h : Holder}
    (hq : ((List.range 4).find? fun q => (d.net.attachIn.get (rcAttach q) []).any fun x => x.1 = pid) = some q)
    (htake : d.takeWhole (rcAttach q) pid (rcTgt q) = some (st, h, d1)) (hfail : isFail st.pkt = true)
    (hd2 : (d1.release pid h).retryOut = d2) (hop : st.pkt.opcode = rCtxAborted)
    (hquad : ctxQuad (st.pkt.arg6 % 65536) = q) (htok : (d2.ctx (st.pkt.arg6 % 65536)).token.isSome = true)
    (hcheck : (d2.ctx (st.pkt.arg6 % 65536)).check = st.pkt.arg6 / 65536) :
    expertFailReceived pid d = d2.abortCtx (st.pkt.arg6 % 65536) acNeighbour := by
  simp only [expertFailReceived, hq, htake, hfail, hd2, hop, hquad, htok, hcheck, Bool.true_eq_false, and_self, if_false,
    if_true]

/-! ### The statement -/

/-- Settles O13: each command and event comes down to one write of its table, or to the abort of the context it names;
the packets, records and completions that follow leave the reduction and collective state alone. -/
theorem regionsLandingsAndDispatch : Obligations.RegionsLandingsAndDispatch := by
  unfold Obligations.RegionsLandingsAndDispatch
  refine ⟨?reg, ?dereg, ?deregEnd, ?landing, ?landed, ?neighbour, ?token, ?slot, ?gateRec, ?gateTimeout, ?expert⟩
  case reg =>
    intro s aseq j r hb hr hreach hcur hcheck0 hcheck hbits hplace
    refine Does.answered rfl hb (regionReg_writes hb hr hreach hcur hcheck0 hcheck hbits hplace) rfl fun d hd => ?_
    rw [Dev.region_of_red hd, Dev.region_setRegion]
  case dereg =>
    intro s aseq j hb hv hcheck hcheck0 hreach hidle
    refine Does.answered rfl hb (regionDereg_clears hb hv hcheck hcheck0 hreach hidle) rfl fun d hd => ?_
    rw [Dev.region_of_red hd, Dev.region_setRegion]
  case deregEnd =>
    intro s no hidle
    refine Does.of_act rfl ?_
    rw [Dev.platform_red, regionDeregComplete_red hidle]
  case landing =>
    intro s pid t r off st h d1 trig e htake hland hfmt hplace hcheck
    have hcheck : d1.regionCheck r off st.pkt.payload.length st.pkt.burgee true = .ok e := by
      split at hcheck
      · rw [‹d1.regionCheck _ _ _ _ _ = _›, Option.some.inj hcheck]
      · cases hcheck
    refine Does.of_act rfl ?_
    rw [Dev.platform_red, streamerLanding_begins htake hland hfmt hplace hcheck]
  case landed =>
    intro s pid t l st hl hp ht hon hclean htrig
    have hsent := landingComplete_lands hl hp ht hon hclean htrig
    refine Does.of_act rfl ?_
    rw [Dev.platform_red, (Dev.platform_sameTiles ..).sramOf, hsent.red, hsent.sameTiles.sramOf, Dev.sramOf_setSram]
    exact ⟨rfl, rfl⟩
  case neighbour =>
    intro s pid st d1 htake hdst hitem hop hcheck hopen _ _ _ _
    refine Does.of_act rfl ?_
    rw [Dev.ctx_platform, failPennantReceived_neighbour htake hdst hitem hop hcheck hopen]
    exact Dev.abortCtx_state hopen ..
  case token =>
    intro s pid t n st h d1 d2 htake hcls htyp htest hwait hd2 hn hput
    obtain ⟨hp, ht, -⟩ := Dev.takeWhole_pkt htake
    have hp2 : d2.pkt? pid = some st := by rwa [hd2]
    have hwait2 : d2.red.tokenWait.get (quadOfTile t) [] = [(pid, h, d1.now)] := by rw [hd2]; exact Tab.get_put_self ..
    obtain ⟨e, hplaced⟩ := Dev.placeToken_places hwait2 hp2 hn (by rwa [ht])
    refine Does.of_act rfl ?_
    rw [Dev.platform_red, dispatchTokenReceived_places htake hcls htyp htest hwait, ← hd2, hplaced, Tab.look_put_self]
    rfl
  case slot =>
    intro s q pid n x st h rest hwait hp hn hput
    obtain ⟨e, hplaced⟩ := Dev.placeToken_places hwait hp hn hput
    refine Does.of_act rfl ?_
    rw [Dev.platform_red, tokenSlotAvailable, hplaced, Tab.look_put_self, Tab.get_put_self]
    exact ⟨rfl, rfl⟩
  case gateRec =>
    intro s q r rest k o hrec hk hctx hgroup htile hnone hslot
    have hslot : s.dev.originSlot q k = .ok o := by
      split at hslot
      · rw [‹s.dev.originSlot _ _ = _›, Option.some.inj hslot]
      · cases hslot
    refine Does.of_act rfl ?_
    rw [Dev.platform_red, gateRecordTaken_zero hrec hk hctx hgroup htile hnone hslot, Tab.get_put_self, Tab.look_del_self]
    exact ⟨rfl, rfl⟩
  case gateTimeout =>
    intro s q slot k hk hctx hdue hwait
    obtain ⟨e, he, hends⟩ := gateTimeout_ends hk hctx hdue hwait
    refine Does.of_act rfl ?_
    rw [Dev.platform_red, Dev.rd_platform, hends]
    refine ⟨?ended, ?seen⟩
    case ended =>
      rw [Dev.retryOut_red, Dev.dropToken_red, Tab.look_del_self]
      rfl
    case seen =>
      rw [(Dev.Sends.refl _).retryOut.rd _ (by decide), Dev.rd_dropToken (by decide), he.rd _ (by decide)]
      exact Dev.rd_set_self _ rfl ..
  case expert =>
    intro s pid q st h d1 d2 hq htake hfail hd2 hop hquad htok hcheck hopen _ _ _
    refine Does.of_act rfl ?_
    rw [Dev.ctx_platform, expertFailReceived_aborts hq htake hfail hd2.symm hop hquad htok hcheck]
    exact Dev.abortCtx_state hopen ..

end Sys2Proof.Machine
end

section
/-! PROOF. The scalar instructions of two registers, and of a register and an immediate (spec/11, R297, R303, R304). -/

namespace Sys2Proof.Machine

/-! ### General registers as 64-bit words -/

theorem Tile.reg_eq_toNat (x : Tile) (i : Nat) : x.reg i = (x.gv i).toNat := by
  unfold Tile.reg Tile.gv
  split <;> rfl

theorem Tile.setReg_eq_putG (x : Tile) (i v : Nat) : x.setReg i v = x.putG i (BitVec.ofNat 64 v) := rfl

/-- The immediate of a format I word: the number that the model computes with is the sign-extended word of R303. -/
theorem iImm64_eq_toNat (w : Nat) : iImm64 w = (imm64 w).toNat := by
  have hlt : iImm w < 2 ^ 32 := Nat.mod_lt _ (by decide)
  have hw : (BitVec.ofNat 32 w).toNat = iImm w := by simp [iImm, bits]
  have hmsb : (BitVec.ofNat 32 w).msb = bitOf (iImm w) 31 := by
    rw [BitVec.msb_eq_getLsbD_last, BitVec.getLsbD, hw, bitOf_eq_testBit]
  unfold imm64 iImm64 sext32
  rw [BitVec.toNat_signExtend, BitVec.toNat_setWidth, hw, hmsb]
  split <;> omega

/-! ### The operations on 64-bit words (R304) -/

theorem s64_toNat (a : Word64) : s64 a.toNat = a.toInt := by
  have := a.isLt
  rw [s64, bitsInt, Nat.mod_eq_of_lt this, BitVec.toInt_eq_toNat_cond]
  split <;> split <;> omega

theorem ofNat_sub64 (a b : Word64) : BitVec.ofNat 64 (sub64 a.toNat b.toNat) = a - b := by
  rw [sub64, Nat.mod_eq_of_lt b.isLt]
  apply BitVec.eq_of_toNat_eq
  rw [BitVec.toNat_ofNat, BitVec.toNat_sub, Nat.add_comm]

theorem ofNat_shl64 (a b : Word64) : BitVec.ofNat 64 (shl64 a.toNat b.toNat) = a <<< (b.toNat % 64) := by
  apply BitVec.eq_of_toNat_eq
  rw [BitVec.toNat_ofNat, BitVec.toNat_shiftLeft, shl64, Nat.shiftLeft_eq]

theorem ofNat_shr64 (a b : Word64) : BitVec.ofNat 64 (shr64 a.toNat b.toNat) = a >>> (b.toNat % 64) := by
  apply BitVec.eq_of_toNat_eq
  rw [BitVec.toNat_ofNat, BitVec.toNat_ushiftRight, shr64, Nat.shiftRight_eq_div_pow]
  exact Nat.mod_eq_of_lt (Nat.lt_of_le_of_lt (Nat.div_le_self ..) a.isLt)

theorem ofNat_sra64 (a b : Word64) :
    BitVec.ofNat 64 (sra64 a.toNat b.toNat) = a.sshiftRight (b.toNat % 64) := by
  rw [sra64, s64_toNat, u64, intBits, BitVec.sshiftRight, Int.shiftRight_eq_div_pow]
  apply BitVec.eq_of_toNat_eq
  rw [BitVec.toNat_ofNat, BitVec.toNat_ofInt]
  push_cast
  omega

theorem ofNat_slt64 (a b : Word64) : BitVec.ofNat 64 (slt64 a.toNat b.toNat) = if a.slt b then 1 else 0 := by
  rw [slt64, s64_toNat, s64_toNat, BitVec.slt]
  cases decide (a.toInt < b.toInt) <;> rfl

theorem ofNat_sltu64 (a b : Word64) : BitVec.ofNat 64 (sltu64 a.toNat b.toNat) = if a.ult b then 1 else 0 := by
  rw [sltu64, BitVec.ult]
  cases decide (a.toNat < b.toNat) <;> rfl

/-- LUI: IMM above the low word of the register. -/
theorem ofNat_lui (a i : Word64) :
    BitVec.ofNat 64 (i.toNat * 2 ^ 32 % 2 ^ 64 + a.toNat % 2 ^ 32) = (i <<< 32) ||| (a &&& 0xFFFFFFFF) := by
  have hlow : (a &&& 0xFFFFFFFF).toNat = a.toNat % 2 ^ 32 := by
    rw [BitVec.toNat_and]
    exact Nat.and_two_pow_sub_one_eq_mod a.toNat 32
  have hhigh : i.toNat * 2 ^ 32 % 2 ^ 64 = 2 ^ 32 * (i.toNat % 2 ^ 32) := by omega
  apply BitVec.eq_of_toNat_eq
  rw [BitVec.toNat_ofNat, BitVec.toNat_or, hlow, BitVec.toNat_shiftLeft, Nat.shiftLeft_eq, hhigh,
    ← Nat.two_pow_add_eq_or_of_lt (Nat.mod_lt _ (by decide))]
  omega

/-! ### Instructions of format R and of format I -/

section
variable {c : Instr} {s : State} {t opc w : Nat} {bad : EccHits} {f : Nat → Nat → Nat} {F : Word64 → Word64 → Word64}

/-- An instruction of format R writes what its operation on 64-bit words gives. -/
theorem Does.aluR (hc : exec c s = act (fun d => d.aluR t opc bad f) s)
    (hF : ∀ a b : Word64, BitVec.ofNat 64 (f a.toNat b.toNat) = F a b) (hf : Fetches s.dev t opc w bad)
    (hr : resvR w = false) : Does c s fun d => Retires s.dev d t fun y =>
      y.putG (iRd w) (F ((s.dev.tile t).gv (iRs1 w)) ((s.dev.tile t).gv (iRs2 w))) := by
  refine Does.retires hc hf hr fun d hd => ?_
  simp only [Tile.setReg_eq_putG, Tile.reg_eq_toNat, hF]
  exact hd.sameTiles.retire ..

/-- An instruction of format I writes what its operation on its register and IMM gives. -/
theorem Does.aluI (hc : exec c s = act (fun d => d.aluI t opc bad f) s)
    (hF : ∀ a b : Word64, BitVec.ofNat 64 (f a.toNat b.toNat) = F a b) (hf : Fetches s.dev t opc w bad)
    (hr : resvI w = false) : Does c s fun d => Retires s.dev d t fun y =>
      y.putG (iRd w) (F ((s.dev.tile t).gv (iRs1 w)) (imm64 w)) := by
  refine Does.retires hc hf hr fun d hd => ?_
  simp only [Tile.setReg_eq_putG, Tile.reg_eq_toNat, iImm64_eq_toNat, hF]
  exact hd.sameTiles.retire ..

end

theorem ofNat_add (a b : Word64) : BitVec.ofNat 64 (a.toNat + b.toNat) = a + b := by simp [BitVec.ofNat_add]
theorem ofNat_mul (a b : Word64) : BitVec.ofNat 64 (a.toNat * b.toNat) = a * b := by simp [BitVec.ofNat_mul]
theorem ofNat_and (a b : Word64) : BitVec.ofNat 64 (a.toNat &&& b.toNat) = a &&& b := by simp [BitVec.ofNat_and]
theorem ofNat_or (a b : Word64) : BitVec.ofNat 64 (a.toNat ||| b.toNat) = a ||| b := by simp [BitVec.ofNat_or]
theorem ofNat_xor (a b : Word64) : BitVec.ofNat 64 (a.toNat ^^^ b.toNat) = a ^^^ b := by simp [BitVec.ofNat_xor]

/-! ### The statements -/

/-- Settles O36: each instruction is its operation on 64-bit words. -/
theorem scalarRegisterArithmetic : Obligations.ScalarRegisterArithmetic := by
  refine ⟨?nop, ?add, ?sub, ?mul, ?and, ?or, ?xor, ?shl, ?shr, ?sra, ?slt, ?sltu⟩
  case nop => exact fun s t w bad hf hr => Does.retires rfl hf hr fun _ hd => hd.sameTiles.retire ..
  case add => exact fun s t w bad hf hr => Does.aluR rfl ofNat_add hf hr
  case sub => exact fun s t w bad hf hr => Does.aluR rfl ofNat_sub64 hf hr
  case mul => exact fun s t w bad hf hr => Does.aluR rfl ofNat_mul hf hr
  case and => exact fun s t w bad hf hr => Does.aluR rfl ofNat_and hf hr
  case or => exact fun s t w bad hf hr => Does.aluR rfl ofNat_or hf hr
  case xor => exact fun s t w bad hf hr => Does.aluR rfl ofNat_xor hf hr
  case shl => exact fun s t w bad hf hr => Does.aluR rfl ofNat_shl64 hf hr
  case shr => exact fun s t w bad hf hr => Does.aluR rfl ofNat_shr64 hf hr
  case sra => exact fun s t w bad hf hr => Does.aluR rfl ofNat_sra64 hf hr
  case slt => exact fun s t w bad hf hr => Does.aluR rfl ofNat_slt64 hf hr
  case sltu => exact fun s t w bad hf hr => Does.aluR rfl ofNat_sltu64 hf hr

/-- Settles O37: each instruction is its operation on a 64-bit word and the sign-extended IMM. -/
theorem scalarImmediateArithmetic : Obligations.ScalarImmediateArithmetic := by
  refine ⟨?addi, ?andi, ?ori, ?xori, ?shli, ?shri, ?srai, ?lui⟩
  case addi => exact fun s t w bad hf hr => Does.aluI rfl ofNat_add hf hr
  case andi => exact fun s t w bad hf hr => Does.aluI rfl ofNat_and hf hr
  case ori => exact fun s t w bad hf hr => Does.aluI rfl ofNat_or hf hr
  case xori => exact fun s t w bad hf hr => Does.aluI rfl ofNat_xor hf hr
  case shli => exact fun s t w bad hf hr => Does.aluI rfl ofNat_shl64 hf hr
  case shri => exact fun s t w bad hf hr => Does.aluI rfl ofNat_shr64 hf hr
  case srai => exact fun s t w bad hf hr => Does.aluI rfl ofNat_sra64 hf hr
  case lui =>
    exact fun s t w bad hf hr => Does.aluI (F := fun a i => i <<< 32 ||| (a &&& 0xFFFFFFFF)) rfl ofNat_lui hf hr

end Sys2Proof.Machine
end

section
/-! PROOF. What a fetch or another access of the tile leaves of the registers, how a handled exception is taken, and where
instructions raise one (spec/11, R330 to R332, R337). -/

namespace Sys2Proof.Machine

/-! ### Accesses of which the ECC finds no word uncorrectable (R367) -/

/-- `e` is `d` after accesses that met corrected bits alone: of the registers, the count of corrections may differ. -/
structure Dev.MetOnly (d e : Dev) : Prop where
  clean : d.MetClean e
  rd : ∀ g : Fld, R.SRAM_STAT_CORR.id ≠ g.id → ∀ i k, e.rd g i k = d.rd g i k

section
variable {d e e' : Dev}

theorem Dev.MetOnly.trans (h : d.MetOnly e) (g : e.MetOnly e') : d.MetOnly e' :=
  ⟨h.clean.trans g.clean, fun f hf i k => (g.rd f hf i k).trans (h.rd f hf i k)⟩

theorem Dev.MetOnly.sameTiles (h : d.MetOnly e) : d.SameTiles e := h.clean.sameTiles

theorem Dev.sramCorr_metOnly (d : Dev) (t w bit : Nat) : d.MetOnly (d.sramCorr t w bit) := by
  refine ⟨d.sramCorr_clean t w bit, fun g hg i k => ?_⟩
  unfold Dev.sramCorr
  dsimp only
  split
  · rfl
  · exact Dev.rd_wr_other _ hg ..

theorem filter_unc_of_clean {bad : EccHits} {a n : Nat} (h : clean bad a n = true) :
    (wordsOf a n).filter bad.unc.contains = [] := by
  rw [List.filter_eq_nil_iff]
  intro w hw
  simpa using List.all_eq_true.1 h w hw

theorem Dev.sramMeet_metOnly (d : Dev) (t a n : Nat) {bad : EccHits} (port : Nat) (h : clean bad a n = true) :
    d.MetOnly (d.sramMeet t a n bad port) := by
  refine ⟨d.sramMeet_clean t a n bad port h, fun g hg i k => ?_⟩
  unfold Dev.sramMeet
  simp only [filter_unc_of_clean h]
  exact Dev.rd_each_other _ _ fun e (c : Nat × Nat) => (e.sramCorr_metOnly t c.1 c.2).rd g hg i k

/-- An access that meets no error at all changes nothing. -/
theorem Dev.sramMeet_none (d : Dev) (t a n port : Nat) : d.sramMeet t a n {} port = d := by
  have hclean : clean {} a n = true := by simp [clean]
  unfold Dev.sramMeet
  simp only [filter_unc_of_clean hclean]
  rfl

theorem Dev.MetOnly.poisonIn (h : d.MetOnly e) (t a n : Nat) : e.poisonIn t a n = d.poisonIn t a n := by
  rw [Dev.poisonIn, h.clean.2, Dev.poisonIn]

theorem Dev.MetOnly.remoteOk (h : d.MetOnly e) (t u : Nat) : e.remoteOk t u = d.remoteOk t u := by
  simp only [Dev.remoteOk, Dev.tileState, h.sameTiles.tile, h.rd R.TILE_STAT_STATE (by decide),
    h.rd R.SCH_TENANT_ISO (by decide)]

theorem Dev.MetOnly.eaFault (h : d.MetOnly e) (t ea n al : Nat) (store : Bool) :
    e.eaFault t ea n al store = d.eaFault t ea n al store := by
  simp only [Dev.eaFault, h.remoteOk]

theorem Dev.MetOnly.loadBytes (h : d.MetOnly e) (t u off n : Nat) : e.loadBytes t u off n = d.loadBytes t u off n := by
  rw [Dev.loadBytes, h.sameTiles.tile, h.sameTiles.sramOf, Dev.loadBytes]

theorem Dev.MetOnly.loadBad (h : d.MetOnly e) (t u off n : Nat) : e.loadBad t u off n = d.loadBad t u off n := by
  simp only [Dev.loadBad, h.clean.2, h.sameTiles.tile]

end

/-! ### Instructions that are fetched -/

/-- An instruction that its tile fetches, with its reserved parts zero, leaves the device as its body does. -/
theorem Does.runs {c : Instr} {s : State} {t opc w : Nat} {bad : EccHits} {resv : Nat → Bool} {P : Dev → Prop}
    {body : Nat → Tile → Dev → Dev} (hc : exec c s = act (fun d => d.step1 t opc bad resv body) s)
    (hf : Fetches s.dev t opc w bad) (hr : resv w = false)
    (hb : ∀ d, s.dev.MetOnly d → P (s.dev.platform (body w (s.dev.tile t) d))) : Does c s P := by
  have ⟨_, _, _, _, hclean, _⟩ := hf
  refine Does.of_act hc ?_
  rw [Dev.step1_fetches resv body hf hr]
  exact hb _ (s.dev.sramMeet_metOnly t _ 8 0 hclean)

/-! ### Exceptions that a handler takes (R330) -/

section
variable {d e : Dev} {t cause : Nat}

/-- An empty store buffer has nothing to drain. -/
theorem Dev.drainStores_empty (h : (d.tile t).buf = []) :
    d.drainStores t = d.modTile t fun x => { x with buf := [] } := by
  rw [Dev.drainStores, h]
  rfl

/-- The older stores drained and the exception counted. -/
def Dev.drained (d : Dev) (t cause : Nat) : Dev := (d.drainStores t).count 0x0A t 4 cause

/-- TILE.EXC and TILE.ERR.UNHANDLED as an exception at `epc` writes them. -/
def Dev.excRecord (d : Dev) (t cause eaddr einfo epc : Nat) : Dev :=
  let d := (d.wr R.TILE_EXC0_CAUSE cause t).wr R.TILE_EXC0_EINFO einfo t
  let d := (d.set R.TILE_EXC0_VALID t).wr R.TILE_EXC1_EPC epc t
  let d := (d.wr R.TILE_EXC2_EADDR eaddr t).wr R.TILE_EXC3_EADDR (eaddr / 2 ^ 32) t
  d.set R.TILE_ERR_UNHANDLED t

/-- An exception, after the older stores (R330, R332). -/
theorem Dev.raiseExc_eq (d : Dev) {t cause : Nat} {x : Tile} (hx : (d.drained t cause).tile t = x)
    (eaddr einfo : Nat) : d.raiseExc t cause eaddr einfo =
      if x.active ∨ x.evec = 0 then
        let e := (d.drained t cause).excRecord t cause eaddr einfo x.pc
        ((if x.active then e.set R.TILE_ERR_NESTED t else e).setTile t { x with ending := some cause }).tryEnd t
      else (d.drained t cause).setTile t { x with
        epc := x.pc, ecause := cause, einfo := einfo, eaddr := eaddr % 2 ^ 64, active := true, pc := x.evec } := by
  subst hx
  rfl

theorem Dev.drained_empty (h : (d.tile t).buf = []) (cause : Nat) : (∀ u, (d.drained t cause).tile u = d.tile u) ∧
    (d.drained t cause).sram = d.sram ∧ (d.drained t cause).hbm = d.hbm := by
  rw [Dev.drained, Dev.drainStores_empty h]
  refine ⟨fun u => ?tile, rfl, rfl⟩
  change (d.modTile t fun x => { x with buf := [] }).tile u = _
  by_cases hu : t = u
  · rw [← hu, Dev.tile_modTile, ← h]
  · exact d.tile_modTile_other hu _

/-- A handled exception saves its record and sends PC to EVEC; nothing else of any tile, SRAM or HBM changes. -/
theorem Dev.raiseExc_handled {x : Tile} (hx : d.tile t = x) (hact : x.active = false) (hvec : x.evec ≠ 0)
    (hbuf : x.buf = []) (cause eaddr einfo : Nat) : ∃ e : Dev, (∀ u, e.tile u = d.tile u) ∧ e.sram = d.sram ∧
      e.hbm = d.hbm ∧ d.raiseExc t cause eaddr einfo = e.setTile t { x with
        epc := x.pc, ecause := cause, einfo := einfo, eaddr := eaddr % 2 ^ 64, active := true, pc := x.evec } := by
  obtain ⟨htile, hsram, hhbm⟩ := d.drained_empty (t := t) (by rw [hx, hbuf]) cause
  exact ⟨d.drained t cause, htile, hsram, hhbm,
    (d.raiseExc_eq ((htile t).trans hx) eaddr einfo).trans (if_neg (by simp [hact, hvec]))⟩

end

/-- What a tile needs for its next exception to be handled, with no store to drain first. -/
abbrev Dev.Handles (d : Dev) (t : Nat) : Prop :=
  (d.tile t).active = false ∧ (d.tile t).evec ≠ 0 ∧ (d.tile t).evec < 2 ^ 64 ∧ (d.tile t).buf = []

/-- The tile and every memory before the exception of an instruction that has been counted as issued. -/
theorem Dev.exc_eq (d : Dev) (t opc cause eaddr einfo : Nat) : ∃ e : Dev, d.SameTiles e ∧
    d.exc t opc cause eaddr einfo = (e.issued t cScalar opc (d.tile t).pc eaddr cause).raiseExc t cause eaddr einfo := by
  refine ⟨if cause = ecFormat then d.count 0x0A t 5 0 else d, ?_, rfl⟩
  split
  · exact ⟨rfl, rfl, rfl⟩
  · exact .refl d

theorem Dev.SameTiles.takes {d e : Dev} {t : Nat} (h : d.SameTiles e) (hx : d.Handles t)
    (opc cause eaddr einfo : Nat) : Takes d (e.exc t opc cause eaddr einfo) t cause eaddr einfo := by
  obtain ⟨hact, hvec, hlt, hbuf⟩ := hx
  obtain ⟨e', he', heq⟩ := e.exc_eq t opc cause eaddr einfo
  have hs := h.trans he'
  have hi := e'.issued_sameTiles t cScalar opc (e.tile t).pc eaddr cause
  have hself : (e'.issued t cScalar opc (e.tile t).pc eaddr cause).tile t =
      { d.tile t with nIns := (d.tile t).nIns + 1 } := by rw [hi.tile, Dev.tile_setTile, hs.tile]
  obtain ⟨k, htile, hsram, hhbm, hk⟩ := Dev.raiseExc_handled hself hact hvec hbuf cause eaddr einfo
  rw [heq, hk]
  refine ⟨?tile, fun u hu => ?other, fun u => ?sram, ?hbm⟩
  case tile => rw [Dev.tile_setTile, Tile.after, Nat.mod_eq_of_lt hlt]
  case other => rw [Dev.tile_setTile_other _ hu.symm, htile, hi.tile, Dev.tile_setTile_other _ hu.symm, hs.tile]
  case sram => exact (congrArg (fun m => m.get u []) (hsram.trans hi.sram)).trans (hs.sramOf u)
  case hbm => exact (hhbm.trans hi.hbm).trans hs.hbm

/-! ### Exceptions of the fetch (R331) -/

section
variable {d : Dev} {t : Nat} {bad : EccHits} (opc : Nat) (resv : Nat → Bool) (body : Nat → Tile → Dev → Dev)

theorem Dev.step1_misaligned (hi : d.canIssue t = true) (hpc : (d.tile t).pc % 8 ≠ 0) :
    d.step1 t opc bad resv body = d.exc t 0 ecMisaligned (d.tile t).pc := by
  simp [Dev.step1, hi, hpc]

variable (hi : d.canIssue t = true) (hal : (d.tile t).pc % 8 = 0) (hin : (d.tile t).pc < sramBytes)
include hi hal hin

theorem Dev.step1_poisoned {p : Nat} (hp : d.poisonIn t (d.tile t).pc 8 = some p) :
    d.step1 t opc {} resv body = d.exc t 0 ecSram (d.tile t).pc := by
  simp [Dev.step1, hi, hal, Nat.not_le.2 hin, Dev.sramMeet_none, hp]

variable (hp : d.poisonIn t (d.tile t).pc 8 = none) (hc : clean bad (d.tile t).pc 8 = true)
include hp hc

theorem Dev.step1_unlisted (hl : opcListed (iOpc (ofLE ((d.sramOf t).readN (d.tile t).pc 8))) = false) :
    d.step1 t opc bad resv body = (d.sramMeet t (d.tile t).pc 8 bad).exc t
      (iOpc (ofLE ((d.sramOf t).readN (d.tile t).pc 8))) ecIllegal (ofLE ((d.sramOf t).readN (d.tile t).pc 8)) := by
  have hmet := (d.sramMeet_metOnly t (d.tile t).pc 8 0 hc).poisonIn t (d.tile t).pc 8
  simp [Dev.step1, hi, hal, Nat.not_le.2 hin, hmet, hp, hl]

end

theorem Dev.step1_reserved {d : Dev} {t opc w : Nat} {bad : EccHits} {resv : Nat → Bool}
    (body : Nat → Tile → Dev → Dev) (h : Fetches d t opc w bad) (hr : resv w = true) :
    d.step1 t opc bad resv body = (d.sramMeet t (d.tile t).pc 8 bad).exc t opc ecReserved w := by
  obtain ⟨hi, hal, hin, hp, hc, hw, hop, hl⟩ := h
  have hmet := (d.sramMeet_metOnly t (d.tile t).pc 8 0 hc).poisonIn t (d.tile t).pc 8
  simp [Dev.step1, hi, hal, Nat.not_le.2 hin, hmet, hp, hw, hop, hl, hr]

theorem Dev.SameTiles.takes_platform {d e : Dev} {t : Nat} (h : d.SameTiles e) (hx : d.Handles t)
    (b : Dev) (opc cause eaddr einfo : Nat) :
    Takes d (b.platform (e.exc t opc cause eaddr einfo)) t cause eaddr einfo :=
  (Dev.platform_sameTiles ..).moves (h.takes hx opc cause eaddr einfo)

theorem Dev.load_misaligned {d : Dev} {t opc ea n al : Nat} {bad : EccHits} {k : List Nat → Dev → Dev}
    (h : ea % al ≠ 0) : d.load t opc ea n al bad k = d.exc t opc ecMisaligned ea := by
  have hfault : d.eaFault t ea n al false = ecMisaligned := if_pos h
  unfold Dev.load
  rw [hfault]
  rfl

/-! ### Exceptions that no handler takes (R332) -/

theorem Dev.performStore_tiles (d : Dev) (t : Nat) (s : StoreEnt) : (d.performStore t s).tiles = d.tiles := by
  unfold Dev.performStore Dev.sramWrite
  dsimp only
  repeat' split
  all_goals rfl

/-- Draining the store buffer leaves the rest of the tile alone. -/
theorem Dev.tile_drainStores (d : Dev) (t : Nat) : (d.drainStores t).tile t = { d.tile t with buf := [] } := by
  have htiles := d.each_keeps Dev.tiles (d.tile t).buf fun e s => e.performStore_tiles t s
  unfold Dev.drainStores
  rw [Dev.tile_modTile, Dev.tile, htiles]
  rfl

theorem Dev.tryEnd_busy {d : Dev} {t : Nat} (h : (d.tile t).quiet = false) : d.tryEnd t = d := by
  have hq : ¬((d.tile t).queues.all (· = []) = true) := by
    rw [Tile.quiet] at h
    simp [h]
  unfold Dev.tryEnd
  dsimp only
  split
  · rfl
  · rw [if_neg fun hc => hq hc.1]

theorem Dev.rd_excRecord (d : Dev) (t cause eaddr einfo epc : Nat) :
    (d.excRecord t cause eaddr einfo epc).rd R.TILE_ERR_UNHANDLED t = 1 ∧
      (d.excRecord t cause eaddr einfo epc).rd R.TILE_EXC0_VALID t = 1 ∧
      (d.excRecord t cause eaddr einfo epc).rd R.TILE_EXC0_CAUSE t = cause % 2 ^ R.TILE_EXC0_CAUSE.w := by
  unfold Dev.excRecord
  refine ⟨Dev.rd_set_self _ rfl .., ?valid, ?cause⟩
  all_goals rw [Dev.rd_set_other _ (by decide), Dev.rd_wr_other _ (by decide), Dev.rd_wr_other _ (by decide),
    Dev.rd_wr_other _ (by decide)]
  case valid => exact Dev.rd_set_self _ rfl ..
  case cause => rw [Dev.rd_set_other _ (by decide), Dev.rd_wr_other _ (by decide), Dev.rd_wr_self]

/-- The registers that copy a tile are not among those of its exceptions. -/
theorem Dev.rd_setTile_other (d : Dev) (t : Nat) (x : Tile) {g : Fld} (h : ∀ f ∈ [R.TILE_STAT_EXC_ACTIVE,
    R.TILE_STAT_LQ_DEPTH, R.TILE_STAT_KEPT_ACC, R.TILE_STAT_BURGEE, R.TILE_PC_PC], f.id ≠ g.id) (i k : Nat) :
    (d.setTile t x).rd g i k = d.rd g i k := by
  simp only [List.forall_mem_cons] at h
  obtain ⟨ha, hl, hk, hb, hp, -⟩ := h
  unfold Dev.setTile
  rw [Dev.rd_wr_other _ hp, Dev.rd_wr_other _ hb, Dev.rd_wr_other _ hk, Dev.rd_wr_other _ hl, Dev.rd_wr_other _ ha]
  rfl

/-- An exception without a handler is recorded in TILE.ERR and TILE.EXC, and ends the program of a tile whose queues
are busy no sooner than they are empty. -/
theorem Dev.raiseExc_unhandled {d : Dev} {t : Nat} {x : Tile} (hx : d.tile t = x) (hact : x.active = false)
    (hvec : x.evec = 0) (hquiet : x.quiet = false) (cause eaddr einfo : Nat) : d.raiseExc t cause eaddr einfo =
      ((d.drained t cause).excRecord t cause eaddr einfo x.pc).setTile t { x with buf := [], ending := some cause } := by
  have htile : (d.drained t cause).tile t = { x with buf := [] } := by
    subst hx
    exact d.tile_drainStores t
  rw [d.raiseExc_eq htile, if_pos (.inr hvec)]
  simp only [hact, Bool.false_eq_true, if_false]
  exact Dev.tryEnd_busy (by rw [Dev.tile_setTile]; exact hquiet)

/-! ### The statement -/

/-- Settles O55: each case comes down to one exception, raised on a device whose tiles and memories are those of the
state. -/
theorem tileExceptionsAreTaken : Obligations.TileExceptionsAreTaken := by
  refine ⟨?pc, ?opcode, ?poison, ?reserved, ?load, ?token, ?csr, ?unhandled⟩
  case pc =>
    intro s t bad hi hpc hact hvec hlt hbuf
    refine Does.of_act rfl ?_
    rw [insNop, Dev.step1_misaligned _ _ _ hi hpc]
    exact (Dev.SameTiles.refl _).takes_platform ⟨hact, hvec, hlt, hbuf⟩ ..
  case opcode =>
    intro s t w bad hi hal hin hp hc hw hl hact hvec hlt hbuf
    subst hw
    refine Does.of_act rfl ?_
    rw [insNop, Dev.step1_unlisted _ _ _ hi hal hin hp hc hl]
    exact (s.dev.sramMeet_metOnly t _ 8 0 hc).sameTiles.takes_platform ⟨hact, hvec, hlt, hbuf⟩ ..
  case poison =>
    intro s t p hi hal hin hp hact hvec hlt hbuf
    refine Does.of_act rfl ?_
    rw [insNop, Dev.step1_poisoned _ _ _ hi hal hin hp]
    exact (Dev.SameTiles.refl _).takes_platform ⟨hact, hvec, hlt, hbuf⟩ ..
  case reserved =>
    intro s t w bad hf hr hact hvec hlt hbuf
    have ⟨_, _, _, _, hc, _⟩ := hf
    refine Does.of_act rfl ?_
    rw [insAdd, Dev.aluR, Dev.step1_reserved _ hf hr]
    exact (s.dev.sramMeet_metOnly t _ 8 0 hc).sameTiles.takes_platform ⟨hact, hvec, hlt, hbuf⟩ ..
  case load =>
    intro s t w bad hf hr hea hact hvec hlt hbuf
    refine Does.runs rfl hf hr fun d hd => ?_
    rw [iImm64_eq_toNat, Dev.load_misaligned hea]
    exact hd.sameTiles.takes_platform ⟨hact, hvec, hlt, hbuf⟩ ..
  case token =>
    intro s t w bad hf hr hq hact hvec hlt hbuf
    refine Does.runs rfl hf hr fun d hd => ?_
    rw [if_pos (.inl hq)]
    exact hd.sameTiles.takes_platform ⟨hact, hvec, hlt, hbuf⟩ ..
  case csr =>
    intro s t w bad hf hr hcsr hact hvec hlt hbuf
    refine Does.runs rfl hf hr fun d hd => ?_
    have hnone : d.csr t (iImm w % 4096) = none := by
      obtain ⟨⟨x, r, n, rfl⟩, -⟩ := hd.clean
      exact hcsr
    simp only [hnone]
    exact hd.sameTiles.takes_platform ⟨hact, hvec, hlt, hbuf⟩ ..
  case unhandled =>
    intro s t w bad hf hr hvec hact hquiet
    have ⟨_, _, _, _, hc, _⟩ := hf
    refine Does.of_act rfl ?_
    rw [insAdd, Dev.aluR, Dev.step1_reserved _ hf hr]
    obtain ⟨e, he, heq⟩ := (s.dev.sramMeet t (s.dev.tile t).pc 8 bad).exc_eq t 0x01 ecReserved w 0
    have hs := (s.dev.sramMeet_metOnly t (s.dev.tile t).pc 8 0 hc).sameTiles.trans he
    have hself : (e.issued t cScalar 0x01 ((s.dev.sramMeet t (s.dev.tile t).pc 8 bad).tile t).pc w ecReserved).tile t =
        { s.dev.tile t with nIns := (s.dev.tile t).nIns + 1 } := by
      rw [(e.issued_sameTiles ..).tile, Dev.tile_setTile, hs.tile]
    rw [heq, Dev.raiseExc_unhandled hself hact hvec hquiet]
    obtain ⟨hunhandled, hvalid, hcause⟩ := Dev.rd_excRecord
      ((e.issued t cScalar 0x01 ((s.dev.sramMeet t (s.dev.tile t).pc 8 bad).tile t).pc w ecReserved).drained t ecReserved)
      t ecReserved w 0 (s.dev.tile t).pc
    simp (disch := decide) only [Dev.rd_platform, Dev.tile_platform, Dev.rd_setTile_other, Dev.tile_setTile]
    exact ⟨hunhandled, hvalid, hcause, trivial⟩

end Sys2Proof.Machine
end

section
/-! PROOF. Writes to tile SRAM and HBM (spec/13, R368, R376; spec/11, R298), and the loads, stores and atomics of a tile
(spec/11, R304, R324 to R327). -/

namespace Sys2Proof.Machine

/-! ### Bytes written to a memory -/

/-- Bytes written read back, and every other byte reads as before. -/
theorem Mem.readByte_writeN {m : Mem} (h : m.wf = true) (a c : Nat) (bs : List Nat) : (m.writeN a bs).readByte c =
    if a ≤ c ∧ c < a + bs.length then BitVec.ofNat 8 (nth bs (c - a)) else m.readByte c := by
  induction bs generalizing m a with
  | nil => rw [if_neg (by simp)]; rfl
  | cons b bs ih =>
    have hw := Mem.writeByte_wf h a (BitVec.ofNat 8 b)
    rw [Mem.writeN]
    rcases Nat.lt_trichotomy c a with hlt | rfl | hgt
    · rw [Mem.readByte_writeN_below hw _ _ _ (by omega), Mem.readByte_writeByte h, if_neg (by omega), if_neg (by omega)]
    · rw [Mem.readByte_writeN_below hw _ _ _ (by omega), Mem.readByte_writeByte h, if_pos rfl, if_pos (by simp)]
      simp [nth]
    · obtain ⟨k, rfl⟩ : ∃ k, c = a + 1 + k := ⟨c - (a + 1), by omega⟩
      rw [ih hw, Mem.readByte_writeByte h, if_neg (by omega : a ≠ a + 1 + k)]
      have hk : a + 1 + k - a = k + 1 := by omega
      have hiff : (a + 1 ≤ a + 1 + k ∧ a + 1 + k < a + 1 + bs.length) ↔
          (a ≤ a + 1 + k ∧ a + 1 + k < a + (b :: bs).length) := by
        rw [List.length_cons]
        omega
      simp only [hiff, hk, Nat.add_sub_cancel_left]
      rfl

/-! ### Memories of the device -/

section
variable {d : Dev}

theorem Dev.sramOf_setSram_ite (d : Dev) (u v : Nat) (m : Mem) :
    (d.setSram u m).sramOf v = if v = u then m else d.sramOf v := by
  split
  · subst_vars
    exact Dev.sramOf_setSram ..
  · exact Dev.sramOf_setSram_other _ (Ne.symm ‹_›) _

theorem Dev.hbmOf_setHbm_ite (d : Dev) (q v : Nat) (m : Mem) :
    (d.setHbm q m).hbmOf v = if v = q then m else d.hbmOf v := by
  split
  · subst_vars
    exact Dev.hbmOf_setHbm ..
  · exact Tab.get_put_other _ (Ne.symm ‹_›) ..

/-- Bytes written where no word is poisoned are those of the memory alone (R368). -/
theorem Dev.sramWrite_unpoisoned {u a : Nat} {bs : List Nat}
    (h : (wordsOf a bs.length).filter (d.eccOf u).poison.contains = []) :
    d.sramWrite u a bs = d.setSram u ((d.sramOf u).writeN a bs) := if_pos h

/-- Bytes written to a stack are those of its memory; else only the record of poison may change (R376). -/
theorem Dev.hbmWrite_eq (d : Dev) (q a : Nat) (bs : List Nat) :
    ∃ hs, d.hbmWrite q a bs = { d.setHbm q ((d.hbmOf q).writeN a bs) with hstacks := hs } := by
  unfold Dev.hbmWrite
  dsimp only
  split
  · exact ⟨_, rfl⟩
  · exact ⟨_, rfl⟩

end

end Sys2Proof.Machine

namespace Sys2Proof
open Machine

section
variable {d e : Dev}

/-- The canonical form is one of the tables of memories alone. -/
theorem Canonical.same (h : Canonical d) (hs : e.sram = d.sram) (hh : e.hbm = d.hbm) : Canonical e := by
  unfold Canonical Dev.sramOf Dev.hbmOf at h ⊢
  rwa [hs, hh]

theorem Canonical.setSram {t : Nat} {m : Mem} (h : Canonical d) (hm : m.wf = true) : Canonical (d.setSram t m) := by
  obtain ⟨hs, hh⟩ := h
  refine ⟨fun u => ?_, hh⟩
  rw [Dev.sramOf_setSram_ite]
  split
  · exact hm
  · exact hs u

theorem Canonical.setHbm {q : Nat} {m : Mem} (h : Canonical d) (hm : m.wf = true) : Canonical (d.setHbm q m) := by
  obtain ⟨hs, hh⟩ := h
  refine ⟨hs, fun u => ?_⟩
  rw [Dev.hbmOf_setHbm_ite]
  split
  · exact hm
  · exact hh u

end

/-- Settles O52: either write is one `Mem.writeN` of the memory that it names. -/
theorem memoryWritesReachTheirBytesAlone : Obligations.MemoryWritesReachTheirBytesAlone := by
  intro d u a bs hc
  have ⟨hs, hh⟩ := hc
  refine ⟨fun hp => ?sram, ?hbm⟩
  case sram =>
    rw [Dev.sramWrite_unpoisoned hp]
    refine ⟨hc.setSram (Mem.writeN_wf (hs u) a bs), rfl, fun v b => ?_⟩
    rw [Dev.sramOf_setSram_ite]
    by_cases hv : v = u
    · simp only [hv, if_true, true_and]
      exact Mem.readByte_writeN (hs u) ..
    · simp [hv]
  case hbm =>
    obtain ⟨st, heq⟩ := d.hbmWrite_eq u a bs
    rw [heq]
    refine ⟨(hc.setHbm (Mem.writeN_wf (hh u) a bs)).same rfl rfl, rfl, fun v b => ?_⟩
    change ((d.setHbm u ((d.hbmOf u).writeN a bs)).hbmOf v).readByte b = _
    rw [Dev.hbmOf_setHbm_ite]
    by_cases hv : v = u
    · simp only [hv, if_true, true_and]
      exact Mem.readByte_writeN (hh u) ..
    · simp [hv]

end Sys2Proof

namespace Sys2Proof.Machine

/-! ### Loads and stores (R298, R324, R325) -/

/-- A load that faults nowhere and meets no poison continues with the bytes of the access. -/
theorem Dev.load_ok {d0 d : Dev} {t opc ea n al : Nat} {bad : EccHits} (hd : d0.MetOnly d)
    (hf : d0.eaFault t ea n al false = 0) (hc : clean bad (eaOff ea) n = true)
    (hp : d0.loadBad t (eaTile t ea) (eaOff ea) n = false) (k : List Nat → Dev → Dev) :
    ∃ e, d0.MetOnly e ∧ d.load t opc ea n al bad k = k (d0.loadBytes t (eaTile t ea) (eaOff ea) n) e := by
  have hmet := hd.trans (d.sramMeet_metOnly (eaTile t ea) (eaOff ea) n (if eaTile t ea = t then 0 else 1) hc)
  refine ⟨_, hmet, ?_⟩
  unfold Dev.load
  simp [hd.eaFault, hf, hmet.loadBad, hp, hmet.loadBytes]

/-- The entry of the store buffer for `bytes` at `ea` (R299, R324). -/
def Tile.storeEnt (x : Tile) (t ea : Nat) (bytes : List Nat) : StoreEnt :=
  { tile := eaTile t ea, remote := bitOf ea 27, addr := eaOff ea, bytes := bytes, ea := ea, grp := x.grp }

/-- A store that faults nowhere and finds room retires with its bytes last in the buffer. -/
theorem Dev.store1_ok {d0 d : Dev} {t cls opc ea al : Nat} {bytes : List Nat} (hd : d0.MetOnly d)
    (hf : d0.eaFault t ea bytes.length al true = 0) (hroom : (d0.tile t).buf.length < 16) :
    d.store1 t cls opc ea al bytes =
      d.retire t cls opc (fun y => { y with buf := y.buf ++ [(d0.tile t).storeEnt t ea bytes] }) ea := by
  unfold Dev.store1
  simp [hd.eaFault, hf, hd.sameTiles.tile, Nat.not_le.2 hroom]
  rfl

theorem bytesLE_length (n v : Nat) : (bytesLE n v).length = n := by simp [bytesLE]

/-- An atomic that faults nowhere, waits for no store and meets no poison reads the old word, writes the new one and
retires (R327). -/
theorem Does.amo {s : State} {t w ea : Nat} {bad : EccHits} (hf : Fetches s.dev t 0x1A w bad)
    (hr : resvRFn (fun f => decide (f < 16) && decide (f % 8 ≤ 4)) w = false)
    (hea : (s.dev.tile t).reg (iRs1 w) = ea)
    (hfault : s.dev.eaFault t ea (amoSize (iFn w % 8)) (amoSize (iFn w % 8)) false = 0)
    (hwait : (s.dev.tile t).amoWaits (eaTile t ea) (eaOff ea) (amoSize (iFn w % 8)) (bitOf (iFn w) 3) = false)
    (hc : clean bad (eaOff ea) (amoSize (iFn w % 8)) = true)
    (hp : s.dev.poisonIn (eaTile t ea) (eaOff ea) (amoSize (iFn w % 8)) = none) {old : Nat}
    (hold : ofLE ((s.dev.sramOf (eaTile t ea)).readN (eaOff ea) (amoSize (iFn w % 8))) = old) :
    Does (.amo t bad) s fun d => ∃ e, s.dev.MetOnly e ∧ ((e.sramWrite (eaTile t ea) (eaOff ea)
      (bytesLE (amoSize (iFn w % 8)) (amoNew (iFn w % 8) old ((s.dev.tile t).reg (iRs2 w))))).retire t cScalar 0x1A
        (fun y => y.setReg (iRd w) old) ea).SameTiles d := by
  refine Does.runs rfl hf hr fun d hd => ?_
  have hmet := hd.trans (d.sramMeet_metOnly (eaTile t ea) (eaOff ea) (amoSize (iFn w % 8))
    (if eaTile t ea = t then 0 else 1) hc)
  refine ⟨_, hmet, ?_⟩
  simp only [hea, hd.eaFault, hfault, hwait, hmet.poisonIn, hp, hmet.sameTiles.sramOf, hold]
  exact Dev.platform_sameTiles ..

/-- No word of a range is poisoned. -/
theorem Dev.poisonIn_none {d : Dev} {t a n : Nat} (h : d.poisonIn t a n = none) :
    (wordsOf a n).filter (d.eccOf t).poison.contains = [] := by
  rw [List.filter_eq_nil_iff]
  exact List.find?_eq_none.1 h

/-! ### Stores performed (R299, R325) -/

theorem Dev.tryEnd_none {d : Dev} {t : Nat} (h : (d.tile t).ending = none) : d.tryEnd t = d := by
  unfold Dev.tryEnd
  simp [h]

/-- A buffered store that its bank may perform leaves the buffer. -/
theorem storePerformed_eq {d : Dev} {t i : Nat} {e : StoreEnt} (hi : (d.tile t).buf[i]? = some e)
    (hold : ((d.tile t).buf.take i).any (fun o => o.overlaps e || decide (o.grp < e.grp)) = false)
    (hend : (d.tile t).ending = none) : storePerformed t i d =
      (d.performStore t e).modTile t fun x => { x with buf := x.buf.eraseIdx i } := by
  have htile : (d.performStore t e).tile t = d.tile t := by rw [Dev.tile, Dev.performStore_tiles, Dev.tile]
  unfold storePerformed
  simp only [hi, hold, Bool.false_eq_true, if_false]
  exact Dev.tryEnd_none (by rw [Dev.tile_modTile, htile]; exact hend)

theorem Dev.performStore_permitted {d : Dev} {t : Nat} {e : StoreEnt} (h : e.remote = false ∨ d.remoteOk t e.tile = true) :
    d.performStore t e = d.sramWrite e.tile e.addr e.bytes :=
  if_neg fun hc => by rcases h with h | h <;> simp [h] at hc

theorem Dev.performStore_dropped {d : Dev} {t : Nat} {e : StoreEnt} (hr : e.remote = true)
    (hok : d.remoteOk t e.tile = false) :
    d.performStore t e = (d.set R.TILE_ERR_REMOTE_DROP t).count 0x0A t 2 3 := if_pos ⟨hr, hok⟩

/-! ### The statement -/

/-- Settles O38: a load and an atomic read the bytes that the state holds, a store waits in the buffer, and performing it
writes its own bytes. -/
theorem loadsStoresAndAtomics : Obligations.LoadsStoresAndAtomics := by
  refine ⟨?ld, ?st, ?amo, ?performed, ?dropped⟩
  case ld =>
    intro s t w bad ea hf hr hea hfault hc hp
    refine Does.runs rfl hf hr fun d hd => (Dev.platform_sameTiles ..).moves ?_
    rw [iImm64_eq_toNat, hea]
    obtain ⟨e, he, heq⟩ := Dev.load_ok (opc := 0x18) hd hfault hc hp _
    rw [heq]
    exact he.sameTiles.retire ..
  case st =>
    intro s t w bad ea hf hr hea hfault hroom
    refine Does.runs rfl hf hr fun d hd => (Dev.platform_sameTiles ..).moves ?_
    rw [iImm64_eq_toNat, hea, Dev.store1_ok hd (by rwa [bytesLE_length]) hroom]
    exact hd.sameTiles.retire ..
  case amo =>
    intro s t w bad ea u hf hr hea hu hfault hwait hc hp
    subst hu
    refine Does.imp (Does.amo hf hr hea hfault hwait hc hp rfl) fun d ⟨e, he, hd⟩ => ?_
    have hclean := Dev.poisonIn_none ((he.poisonIn ..).trans hp)
    rw [Dev.sramWrite_unpoisoned (by rwa [bytesLE_length]), he.sameTiles.sramOf] at hd
    obtain ⟨htile, -, hsram, hhbm⟩ := hd.moves ((Dev.SameTiles.refl _).retire ..)
    refine ⟨htile.trans ?_, fun v => (hsram v).trans ?_, hhbm.trans he.sameTiles.hbm⟩
    · rw [← he.sameTiles.tile]
      rfl
    · rw [Dev.sramOf_setSram_ite, he.sameTiles.sramOf]
  case performed =>
    intro s t i e hi hold hok hclean hend
    refine Does.of_act rfl ?_
    rw [storePerformed_eq hi hold hend, Dev.performStore_permitted hok, Dev.sramWrite_unpoisoned hclean]
    have hs := s.dev.platform_sameTiles ((s.dev.setSram e.tile ((s.dev.sramOf e.tile).writeN e.addr e.bytes)).modTile t
      fun x => { x with buf := x.buf.eraseIdx i })
    refine ⟨?_, (hs.sramOf _).trans (Dev.sramOf_setSram ..),
      fun u hu => (hs.sramOf u).trans (Dev.sramOf_setSram_other _ hu.symm _), hs.hbm⟩
    rw [Dev.tile_platform, Dev.tile_modTile]
    rfl
  case dropped =>
    intro s t i e hi hold hr hok hend
    refine Does.of_act rfl ?_
    rw [storePerformed_eq hi hold hend, Dev.performStore_dropped hr hok]
    have hs := s.dev.platform_sameTiles (((s.dev.set R.TILE_ERR_REMOTE_DROP t).count 0x0A t 2 3).modTile t
      fun x => { x with buf := x.buf.eraseIdx i })
    refine ⟨?buffer, ?drop, fun u => hs.sramOf u, hs.hbm⟩
    case buffer =>
      rw [Dev.tile_platform, Dev.tile_modTile]
      rfl
    case drop =>
      rw [Dev.rd_platform, Dev.modTile, Dev.rd_setTile_other _ _ _ (by decide)]
      exact Dev.rd_set_self _ rfl ..

end Sys2Proof.Machine
end

section
/-! PROOF. Reductions over the lanes of a vector register, and its moves, functions, random numbers, loads and stores
(spec/11, R304, R312 to R315; spec/08, R212; spec/16, R449, R450). -/

namespace Sys2Proof.Machine

/-! ### The order of the values of FP32 words (R212, R315) -/

/-- A magnitude m × 2^e at the unit 2^-149, and a bound that none of an FP32 word reaches. -/
def mag149 (m : Nat) (e : Int) : Nat := m * 2 ^ (e + 149).toNat
def magBound : Nat := 2 ^ 24 * 2 ^ 254

/-- A value's place in the order of the values of FP32 words: an integer at the unit 2^-149, with the infinities beyond
every finite value. -/
def Val.rank : Val → Int
  | .nan => 0
  | .inf n => (if n then -1 else 1) * (magBound : Int)
  | .fin n m e => (if n then -1 else 1) * (mag149 m e : Int)

/-- A value that an FP32 word may stand for, other than NaN. -/
def Val.Single : Val → Prop
  | .nan => False
  | .inf _ => True
  | .fin _ m e => -149 ≤ e ∧ mag149 m e < magBound

theorem magBound_pos : 0 < magBound := Nat.mul_pos (Nat.two_pow_pos _) (Nat.two_pow_pos _)

theorem mag149_lt {m : Nat} {e : Int} (hm : m < 2 ^ 24) (he : e ≤ 105) : mag149 m e < magBound :=
  calc m * 2 ^ (e + 149).toNat ≤ m * 2 ^ 254 := Nat.mul_le_mul_left _ (Nat.pow_le_pow_right (by decide) (by omega))
    _ < 2 ^ 24 * 2 ^ 254 := Nat.mul_lt_mul_of_pos_right hm (Nat.two_pow_pos _)

theorem single_of32 {w : Nat} (h : (of32 w).isNan = false) : (of32 w).Single := by
  have hm : w % 2 ^ 23 < 2 ^ 23 := Nat.mod_lt _ (by decide)
  have he : w / 2 ^ 23 % 2 ^ 8 < 2 ^ 8 := Nat.mod_lt _ (by decide)
  by_cases h255 : w / 2 ^ 23 % 2 ^ 8 = 255
  · rw [of32_special h255] at h ⊢
    split
    · trivial
    · rw [if_neg ‹_›] at h
      cases h
  by_cases h0 : w / 2 ^ 23 % 2 ^ 8 = 0
  · rw [of32_subnormal h0]
    exact ⟨Int.le_refl _, mag149_lt (by omega) (by omega)⟩
  · rw [of32_normal h0 h255]
    exact ⟨by omega, mag149_lt (by omega) (by omega)⟩

/-- The integer at unit 2^-149 is that at a coarser exact unit, scaled. -/
theorem Val.rank_atUnit {n : Bool} {m : Nat} {e k : Int} (hk : -149 ≤ k) (he : k ≤ e) :
    (Val.fin n m e).rank = (Val.fin n m e).atUnit k * (2 ^ (k + 149).toNat : Nat) := by
  have hexp : (e + 149).toNat = (e - k).toNat + (k + 149).toNat := by omega
  have hs : truncShift m (e - k) = m * 2 ^ (e - k).toNat := if_pos (by omega)
  rw [Val.rank, Val.atUnit, hs, mag149, hexp, Nat.pow_add, ← Nat.mul_assoc]
  push_cast
  ring

theorem minExp_pair (n n' : Bool) (m m' : Nat) (e e' : Int) : minExp [.fin n m e, .fin n' m' e'] = min e e' := by
  simp [minExp]

/-- The order of R315 is that of the ranks. -/
theorem Val.lt_iff_rank {u v : Val} (hu : u.Single) (hv : v.Single) : u.lt v = true ↔ u.rank < v.rank := by
  match u, v with
  | .inf a, .inf b =>
    have := magBound_pos
    cases a <;> cases b <;> simp [Val.lt, Val.rank]
    omega
  | .inf a, .fin n m e =>
    obtain ⟨-, hm⟩ := hv
    cases a <;> cases n <;> simp [Val.lt, Val.rank] <;> omega
  | .fin n m e, .inf b =>
    obtain ⟨-, hm⟩ := hu
    cases b <;> cases n <;> simp [Val.lt, Val.rank] <;> omega
  | .fin n m e, .fin n' m' e' =>
    obtain ⟨he, -⟩ := hu
    obtain ⟨he', -⟩ := hv
    have hlt : (Val.fin n m e).lt (.fin n' m' e') =
        decide ((Val.fin n m e).atUnit (min e e') < (Val.fin n' m' e').atUnit (min e e')) := by
      rw [← minExp_pair n n' m m']
      rfl
    have hpos : (0 : Int) < (2 ^ (min e e' + 149).toNat : Nat) := by exact_mod_cast Nat.two_pow_pos _
    rw [hlt, decide_eq_true_eq, Val.rank_atUnit (k := min e e') (by omega) (by omega),
      Val.rank_atUnit (k := min e e') (by omega) (by omega), Int.mul_lt_mul_right hpos]

/-- Only the words of the two zeros stand for zero. -/
theorem of32_isZero {w : Nat} (hw : w < 2 ^ 32) (h : (of32 w).isZero = true) :
    w = b2n (of32 w).neg * 2 ^ 31 := by
  have hf := fp32_fields hw
  by_cases h255 : w / 2 ^ 23 % 2 ^ 8 = 255
  · rw [of32_special h255] at h
    split at h
    · cases h
    · cases h
  by_cases h0 : w / 2 ^ 23 % 2 ^ 8 = 0
  · rw [of32_subnormal h0] at h ⊢
    have hm : w % 2 ^ 23 = 0 := by simpa [Val.isZero] using h
    rw [h0, hm] at hf
    rw [Val.neg]
    omega
  · rw [of32_normal h0 h255] at h
    simp [Val.isZero] at h

theorem Val.rank_isZero {v : Val} (h : v.isZero = true) : v.rank = 0 := by
  cases v with
  | nan => cases h
  | inf n => cases h
  | fin n m e =>
    have hm : m = 0 := by simpa [Val.isZero] using h
    simp [Val.rank, mag149, hm]

theorem Val.isZero_of_rank {v : Val} (hv : v.Single) (h : v.rank = 0) : v.isZero = true := by
  match v with
  | .inf n =>
    have := magBound_pos
    cases n <;> (simp [Val.rank] at h; omega)
  | .fin n m e =>
    have hpos := Nat.two_pow_pos (e + 149).toNat
    have hmag : mag149 m e = 0 := by cases n <;> simp [Val.rank] at h <;> omega
    simpa [Val.isZero, mag149] using hmag

theorem isZero_of32_zero : (of32 0).isZero = true := by decide

/-! ### The larger of two lanes (R315) -/

/-- What the larger of two numbers is: the first unless the second exceeds it, but +0 for two zeros of unlike sign. -/
theorem laneMax_cases {a b : Nat} (hna : (of32 a).isNan = false) (hnb : (of32 b).isNan = false) :
    (laneMax false false a b = a ∧ (of32 b).rank ≤ (of32 a).rank ∧
        ((of32 a).isZero = true → (of32 b).isZero = true → (of32 a).neg = (of32 b).neg)) ∨
      (laneMax false false a b = b ∧ (of32 a).rank < (of32 b).rank) ∨
      (laneMax false false a b = 0 ∧ (of32 a).isZero = true ∧ (of32 b).isZero = true ∧
        (of32 a).neg ≠ (of32 b).neg) := by
  have hlt := Val.lt_iff_rank (single_of32 hna) (single_of32 hnb)
  unfold laneMax
  simp only [hna, hnb, Bool.or_self, Bool.false_eq_true, if_false, Bool.and_eq_true]
  by_cases hz : (of32 a).isZero = true ∧ (of32 b).isZero = true
  · rw [if_pos hz]
    obtain ⟨hza, hzb⟩ := hz
    by_cases hneg : (of32 a).neg = (of32 b).neg
    · have hra := Val.rank_isZero hza
      have hrb := Val.rank_isZero hzb
      exact .inl ⟨if_pos hneg, by omega, fun _ _ => hneg⟩
    · exact .inr (.inr ⟨if_neg hneg, hza, hzb, hneg⟩)
  · rw [if_neg hz]
    by_cases hl : (of32 a).lt (of32 b) = true
    · exact .inr (.inl ⟨if_pos hl, hlt.1 hl⟩)
    · exact .inl ⟨if_neg hl, Int.not_lt.1 fun h => hl (hlt.2 h), fun hza hzb => absurd ⟨hza, hzb⟩ hz⟩

/-- Of two words, the larger lane is one; the other does not exceed it; and +0 is preferred to −0. -/
theorem laneMax_of_words {a b : Nat} (ha : a < 2 ^ 32) (hb : b < 2 ^ 32) (hna : (of32 a).isNan = false)
    (hnb : (of32 b).isNan = false) : (laneMax false false a b = a ∧ (of32 b).rank ≤ (of32 a).rank ∧
        (b = 0 → (of32 a).isZero = true → a = 0)) ∨
      (laneMax false false a b = b ∧ (of32 a).rank ≤ (of32 b).rank ∧ (a = 0 → (of32 b).isZero = true → b = 0)) := by
  rcases laneMax_cases hna hnb with ⟨hc, hle, hneg⟩ | ⟨hc, hlt⟩ | ⟨hc, hza, hzb, hneg⟩
  · refine .inl ⟨hc, hle, fun hb0 hza => ?_⟩
    have hzb : (of32 b).isZero = true := by rw [hb0]; exact isZero_of32_zero
    rw [of32_isZero ha hza, hneg hza hzb, ← of32_isZero hb hzb, hb0]
  · refine .inr ⟨hc, Int.le_of_lt hlt, fun ha0 hzb => ?_⟩
    have hza : (of32 a).isZero = true := by rw [ha0]; exact isZero_of32_zero
    rw [Val.rank_isZero hza, Val.rank_isZero hzb] at hlt
    omega
  · have hra := Val.rank_isZero hza
    have hrb := Val.rank_isZero hzb
    cases hn : (of32 a).neg with
    | false =>
      have ha0 : a = 0 := by rw [of32_isZero ha hza, hn]; rfl
      exact .inl ⟨hc.trans ha0.symm, by omega, fun _ _ => ha0⟩
    | true =>
      have hnb : (of32 b).neg = false := Bool.eq_false_iff.2 fun h => hneg (hn.trans h.symm)
      have hb0 : b = 0 := by rw [of32_isZero hb hzb, hnb]; rfl
      exact .inr ⟨hc.trans hb0.symm, by omega, fun _ _ => hb0⟩

theorem laneMax_nan {a b : Nat} (h : (of32 a).isNan = true ∨ (of32 b).isNan = true) :
    laneMax false false a b = fp32.nanBits := if_pos (by simpa using h)

theorem isNan_nanBits : (of32 fp32.nanBits).isNan = true := by decide

/-! ### VREDMAX (R315) -/

/-- The lanes compared in ascending order, beginning with `a`. -/
def maxFrom (a : Nat) (ls : List Nat) : Nat := ls.foldl (fun a b => laneMax false false a b) a

theorem maxFrom_nan {a : Nat} (ls : List Nat) (h : (of32 a).isNan = true) : (of32 (maxFrom a ls)).isNan = true := by
  induction ls generalizing a with
  | nil => exact h
  | cons b ls ih => exact ih ((congrArg (fun w => (of32 w).isNan) (laneMax_nan (.inl h))).trans isNan_nanBits)

/-- One NaN lane makes the result NaN. -/
theorem maxFrom_any_nan {a : Nat} {ls : List Nat} (h : ((a :: ls).any fun x => (of32 x).isNan) = true) :
    (of32 (maxFrom a ls)).isNan = true := by
  induction ls generalizing a with
  | nil => simpa [maxFrom] using h
  | cons b ls ih =>
    rw [List.any_cons, List.any_cons, ← Bool.or_assoc, Bool.or_eq_true] at h
    rcases h with h | h
    · have hnan := laneMax_nan ((Bool.or_eq_true ..).mp h)
      exact maxFrom_nan ls ((congrArg (fun w => (of32 w).isNan) hnan).trans isNan_nanBits)
    · exact ih (by rw [List.any_cons, h, Bool.or_true])

/-- Without a NaN the result is a lane that no lane exceeds, and +0 if it is a zero and +0 is among the lanes. -/
theorem maxFrom_words {a : Nat} {ls : List Nat} (hlt : ∀ x ∈ a :: ls, x < 2 ^ 32)
    (hnum : ∀ x ∈ a :: ls, (of32 x).isNan = false) : maxFrom a ls ∈ a :: ls ∧
      (∀ x ∈ a :: ls, (of32 x).rank ≤ (of32 (maxFrom a ls)).rank) ∧
      (0 ∈ a :: ls → (of32 (maxFrom a ls)).isZero = true → maxFrom a ls = 0) := by
  induction ls generalizing a with
  | nil =>
    refine ⟨List.mem_cons_self, fun x hx => ?_, fun h0 _ => ?_⟩
    · rw [List.mem_singleton.1 hx]
      exact Int.le_refl _
    · exact (List.mem_singleton.1 h0).symm
  | cons b ls ih =>
    simp only [List.forall_mem_cons] at hlt hnum
    obtain ⟨hla, hlb, hlt⟩ := hlt
    obtain ⟨hna, hnb, hnum⟩ := hnum
    have hstep := laneMax_of_words hla hlb hna hnb
    generalize hc : laneMax false false a b = c at hstep
    have hmax : maxFrom a (b :: ls) = maxFrom c ls := by rw [← hc]; rfl
    have hcab : c = a ∨ c = b := hstep.imp And.left And.left
    have hcl : c < 2 ^ 32 := by rcases hcab with h | h <;> rw [h] <;> assumption
    have hcn : (of32 c).isNan = false := by rcases hcab with h | h <;> rw [h] <;> assumption
    obtain ⟨hmem, hbig, hzero⟩ := ih (List.forall_mem_cons.2 ⟨hcl, hlt⟩) (List.forall_mem_cons.2 ⟨hcn, hnum⟩)
    have hcbig := hbig c List.mem_cons_self
    have hab : (of32 a).rank ≤ (of32 c).rank ∧ (of32 b).rank ≤ (of32 c).rank ∧
        ((a = 0 ∨ b = 0) → (of32 c).isZero = true → c = 0) := by
      rcases hstep with ⟨rfl, hle, h0⟩ | ⟨rfl, hle, h0⟩
      · exact ⟨Int.le_refl _, hle, fun h hz => h.elim id fun hb => h0 hb hz⟩
      · exact ⟨hle, Int.le_refl _, fun h hz => h.elim (fun ha => h0 ha hz) id⟩
    obtain ⟨hac, hbc, hc0⟩ := hab
    rw [hmax]
    refine ⟨?member, ?largest, fun h0 hz => ?zero⟩
    case member =>
      rcases List.mem_cons.1 hmem with h | h
      · rw [h]
        rcases hcab with hc | hc <;> simp [hc]
      · simp [h]
    case largest =>
      simp only [List.forall_mem_cons] at hbig ⊢
      exact ⟨hac.trans hcbig, hbc.trans hcbig, hbig.2⟩
    case zero =>
      by_cases hmem0 : 0 ∈ c :: ls
      · exact hzero hmem0 hz
      have h0ab : a = 0 ∨ b = 0 := by
        simp only [List.mem_cons, not_or] at h0 hmem0
        rcases h0 with h | h | h
        · exact .inl h.symm
        · exact .inr h.symm
        · exact absurd h hmem0.2
      have hrank := Val.rank_isZero hz
      have hr0 := Val.rank_isZero isZero_of32_zero
      have hzc : (of32 c).rank = 0 := by rcases h0ab with rfl | rfl <;> omega
      exact absurd (hc0 h0ab (Val.isZero_of_rank (single_of32 hcn) hzc)) fun h => hmem0 (by simp [h])

/-- A lane that is `r`, or a number below it. -/
def AtMost (r x : Nat) : Prop := (of32 x).isNan = false ∧ (x = r ∨ (of32 x).rank < (of32 r).rank)

theorem laneMax_atMost {r a b : Nat} (ha : AtMost r a) (hb : AtMost r b) :
    AtMost r (laneMax false false a b) ∧ (a = r ∨ b = r → laneMax false false a b = r) := by
  obtain ⟨hna, ha⟩ := ha
  obtain ⟨hnb, hb⟩ := hb
  rcases laneMax_cases hna hnb with ⟨hc, hle, -⟩ | ⟨hc, hlt⟩ | ⟨hc, hza, hzb, hneg⟩
  · rw [hc]
    exact ⟨⟨hna, ha⟩, fun h => h.elim id fun hbr => ha.resolve_right (by rw [← hbr]; omega)⟩
  · rw [hc]
    exact ⟨⟨hnb, hb⟩, fun h => h.elim (fun har => hb.resolve_right (by rw [← har]; omega)) id⟩
  · have hra := Val.rank_isZero hza
    have hrb := Val.rank_isZero hzb
    have har : a ≠ r := by
      rintro rfl
      exact hb.elim (fun h => hneg (by rw [h])) (by omega)
    have hbr : b ≠ r := by
      rintro rfl
      exact ha.elim (fun h => hneg (by rw [h])) (by omega)
    rw [hc]
    refine ⟨⟨by decide, .inr ?_⟩, fun h => (h.elim har hbr).elim⟩
    rw [Val.rank_isZero isZero_of32_zero, ← hra]
    exact ha.resolve_left har

theorem maxFrom_atMost {r a : Nat} {ls : List Nat} (h : ∀ x ∈ a :: ls, AtMost r x) (hr : r ∈ a :: ls) :
    maxFrom a ls = r := by
  induction ls generalizing a with
  | nil => exact (List.mem_singleton.1 hr).symm
  | cons b ls ih =>
    simp only [List.forall_mem_cons] at h
    obtain ⟨ha, hb, hls⟩ := h
    obtain ⟨hc, heq⟩ := laneMax_atMost ha hb
    refine ih (List.forall_mem_cons.2 ⟨hc, hls⟩) ?_
    simp only [List.mem_cons] at hr ⊢
    rcases hr with h | h | h
    · exact .inl (heq (.inl h.symm)).symm
    · exact .inl (heq (.inr h.symm)).symm
    · exact .inr h

/-! ### Reductions (R315) -/

/-- A vector register written without a mask: lane 0 holds the first of the lanes. -/
theorem vreg_setVreg_zero {x : Tile} {w i r : Nat} {ls : List Nat} (hm : iMaskEn w = false) (hi : i < x.v.length) :
    nth ((x.setVreg w i (r :: ls)).vreg i) 0 = r := by
  simp [Tile.setVreg, Tile.vreg, setAt_eq_set, hm, hi, nth]

/-- What VREDMAX leaves in lane 0 (R315). -/
def redMax (ls : List Nat) : Nat :=
  let s := maxFrom (nth ls 0) (ls.drop 1)
  if (of32 s).isNan then fp32.nanBits else s

theorem Does.vredsum {s : State} {t w : Nat} {bad : EccHits} (hf : Fetches s.dev t 0x4D w bad)
    (hr : resvV [iRd w, iRs1 w] (· = 0) w = false) : Does (.vredsum t bad) s fun d => Retires s.dev d t fun y =>
      y.setVreg w (iRd w) ((((s.dev.tile t).vreg (iRs1 w)).drop 1).foldl (fun a b => add32 a b (iOvf w))
        (nth ((s.dev.tile t).vreg (iRs1 w)) 0) :: List.replicate 63 0) :=
  Does.retires rfl hf hr fun _ hd => hd.sameTiles.retire ..

theorem Does.vredmax {s : State} {t w : Nat} {bad : EccHits} (hf : Fetches s.dev t 0x4E w bad)
    (hr : resvV [iRd w, iRs1 w] (· = 0) w = false) : Does (.vredmax t bad) s fun d => Retires s.dev d t fun y =>
      y.setVreg w (iRd w) (redMax ((s.dev.tile t).vreg (iRs1 w)) :: List.replicate 63 0) :=
  Does.retires rfl hf hr fun _ hd => hd.sameTiles.retire ..

/-- Lane 0 of a vector register that a retired instruction has written. -/
theorem lane_zero_of_retires {d e : Dev} {t w i r : Nat} {ls : List Nat}
    (h : Retires d e t fun y => y.setVreg w i (r :: ls)) (hm : iMaskEn w = false) (hi : i < (d.tile t).v.length) :
    nth ((e.tile t).vreg i) 0 = r := by
  obtain ⟨htile, -⟩ := h
  rw [htile]
  exact vreg_setVreg_zero (x := { d.tile t with nIns := (d.tile t).nIns + 1 }) hm hi

theorem redMax_of_any_nan {a : Nat} {ls : List Nat} (h : ((a :: ls).any fun x => (of32 x).isNan) = true) :
    redMax (a :: ls) = fp32.nanBits := if_pos (maxFrom_any_nan h)

theorem redMax_of_words {a : Nat} {ls : List Nat} (hlt : ∀ x ∈ a :: ls, x < 2 ^ 32)
    (h : ∀ x ∈ a :: ls, (of32 x).isNan = false) : redMax (a :: ls) = maxFrom a ls :=
  if_neg (by simp [h _ (maxFrom_words hlt h).1, nth])

theorem resvV_reg_lt {r w : Nat} {l : List Nat} {ok : Nat → Bool} (h : resvV l ok w = false) (hr : r ∈ l) : r < 16 := by
  simp only [resvV, Bool.or_eq_false_iff, List.any_eq_false, decide_eq_true_eq] at h
  have := h.1.2 r hr
  omega

/-- Settles O60: VREDSUM is its fold, and VREDMAX a largest lane in the order of ranks. -/
theorem vectorReductions : Obligations.VectorReductions := by
  intro s t w bad hr hm hv hlen hlt
  have hrd : iRd w < (s.dev.tile t).v.length := by
    rw [hv]
    exact resvV_reg_lt hr List.mem_cons_self
  refine ⟨fun hf => Does.imp (Does.vredsum hf hr) fun d hd => lane_zero_of_retires hd hm hrd,
    fun hf => Does.imp (Does.vredmax hf hr) fun d hd => ?_⟩
  have hlane := lane_zero_of_retires hd hm hrd
  obtain ⟨a, ls, hls⟩ : ∃ a ls, (s.dev.tile t).vreg (iRs1 w) = a :: ls :=
    List.exists_cons_of_length_pos (by omega)
  rw [hls] at hlt hlane
  simp only [hls, hlane]
  split
  · rw [redMax_of_any_nan ‹_›]
    exact isNan_nanBits
  · rename_i hany
    have hnum : ∀ x ∈ a :: ls, (of32 x).isNan = false := by
      simpa only [Bool.not_eq_true, List.any_eq_false] using hany
    obtain ⟨hmem, hbig, hzero⟩ := maxFrom_words hlt hnum
    rw [redMax_of_words hlt hnum]
    refine ⟨fun x hx => ?largest, ?value⟩
    case largest =>
      rw [Bool.eq_false_iff, ne_eq, Val.lt_iff_rank (single_of32 (hnum _ hmem)) (single_of32 (hnum x hx))]
      exact Int.not_lt.2 (hbig x hx)
    case value =>
      split
      · rename_i h
        exact hzero h.1 h.2.2
      · exact hmem

/-! ### Approximate functions, loads and stores (R313, R314) -/

theorem Does.vecApprox {c : Instr} {s : State} {t opc fn w : Nat} {bad : EccHits}
    (hc : exec c s = act (fun d => d.vecApprox t opc fn bad) s) (hf : Fetches s.dev t opc w bad)
    (hr : resvV [iRd w, iRs1 w] (· = 0) w = false) : Does c s fun d => Retires s.dev d t fun y =>
      y.setVreg w (iRd w) (((s.dev.tile t).vreg (iRs1 w)).map fun a =>
        s.dev.approxFix fn a (approxLane (s.dev.rd R.HUB_NPROF_ID) fn (iOvf w) a)) := by
  refine Does.runs hc hf hr fun d hd => (Dev.platform_sameTiles ..).moves ?_
  simp only [Dev.approxFix, hd.clean.free, hd.rd R.HUB_NPROF_ID (by decide)]
  exact hd.sameTiles.usedFree.retire ..

theorem Dev.approxFix_other (d : Dev) {fn : Nat} (h : fn ≠ 3) (a r : Nat) : d.approxFix fn a r = r :=
  if_neg fun hc => h hc.1

/-- Every function but VRSQRT is that of R313 in every lane. -/
theorem Does.vecApprox_other {c : Instr} {s : State} {t opc fn w : Nat} {bad : EccHits} (hfn : fn ≠ 3)
    (hc : exec c s = act (fun d => d.vecApprox t opc fn bad) s) (hf : Fetches s.dev t opc w bad)
    (hr : resvV [iRd w, iRs1 w] (· = 0) w = false) : Does c s fun d => Retires s.dev d t fun y =>
      y.setVreg w (iRd w) (((s.dev.tile t).vreg (iRs1 w)).map fun a =>
        approxLane (s.dev.rd R.HUB_NPROF_ID) fn (iOvf w) a) := by
  simpa only [Dev.approxFix_other _ hfn] using Does.vecApprox hc hf hr

theorem Dev.MetOnly.vecFmt {d e : Dev} (h : d.MetOnly e) (f : Nat) : e.vecFmt f = d.vecFmt f := by
  simp only [Dev.vecFmt, Dev.rdBit, h.rd R.HUB_FMTCAP_VEC_VEC (by decide)]

/-- Counting the values that saturate leaves tiles and memories alone. -/
theorem Dev.sameTiles_countIf {c : Prop} [Decidable c] (d : Dev) (b i g s n : Nat) :
    d.SameTiles (if c then d.count b i g s n else d) := by
  split
  · exact ⟨rfl, rfl, rfl⟩
  · exact .refl d

/-! ### The statement on moves, functions, loads and stores -/

/-- Settles O41, instruction by instruction; VREDMAX of a lane above every other one is that lane. -/
theorem vectorMovesReductionsAndFunctions : Obligations.VectorMovesReductionsAndFunctions := by
  refine ⟨?vredsum, ?vredmax, ?vbcast, ?vextr, ?vexp2, ?vlog2, ?vrcp, ?vrsqrt, ?vtanh, ?vsigm, ?vrng, ?vld, ?vst⟩
  case vredsum => exact fun s t w bad hf hr => Does.vredsum hf hr
  case vredmax =>
    intro s t w bad r hf hr hm hlen hrd hmem hnan hall
    have hmost : ∀ x ∈ (s.dev.tile t).vreg (iRs1 w), AtMost r x := by
      intro x hx
      have h := List.all_eq_true.1 hall x hx
      simp only [Bool.and_eq_true, Bool.not_eq_true', Bool.or_eq_true, beq_iff_eq] at h
      exact ⟨h.1, h.2.imp id (Val.lt_iff_rank (single_of32 h.1) (single_of32 hnan)).1⟩
    have hmax : redMax ((s.dev.tile t).vreg (iRs1 w)) = r := by
      obtain ⟨a, ls, hls⟩ : ∃ a ls, (s.dev.tile t).vreg (iRs1 w) = a :: ls :=
        List.exists_cons_of_length_pos (by omega)
      rw [hls] at hmem hmost ⊢
      have hfold : maxFrom (nth (a :: ls) 0) ((a :: ls).drop 1) = r := maxFrom_atMost hmost hmem
      rw [redMax, hfold]
      exact if_neg (by simp [hnan])
    refine Does.imp (Does.vredmax hf hr) fun d hd => ?_
    rw [hmax] at hd
    exact ⟨lane_zero_of_retires hd hm hrd, hd⟩
  case vbcast => exact fun s t w bad hf hr => Does.retires rfl hf hr fun _ hd => hd.sameTiles.retire ..
  case vextr => exact fun s t w bad hf hr => Does.retires rfl hf hr fun _ hd => hd.sameTiles.retire ..
  case vexp2 => exact fun s t w bad hf hr => Does.vecApprox_other (fn := 0) (by decide) rfl hf hr
  case vlog2 => exact fun s t w bad hf hr => Does.vecApprox_other (fn := 1) (by decide) rfl hf hr
  case vrcp => exact fun s t w bad hf hr => Does.vecApprox_other (fn := 2) (by decide) rfl hf hr
  case vrsqrt =>
    intro s t w bad hf hr
    simpa only [Dev.approxFix, true_and] using Does.vecApprox (c := .vrsqrt t bad) (fn := 3) rfl hf hr
  case vtanh => exact fun s t w bad hf hr => Does.vecApprox_other (fn := 4) (by decide) rfl hf hr
  case vsigm => exact fun s t w bad hf hr => Does.vecApprox_other (fn := 5) (by decide) rfl hf hr
  case vrng => exact fun s t w bad hf hr => Does.retires rfl hf hr fun _ hd => hd.sameTiles.retire ..
  case vld =>
    intro s t w bad ea hf hr hea hal hfmt hfault hc hp
    refine Does.runs rfl hf hr fun d hd => (Dev.platform_sameTiles ..).moves ?_
    rw [iImm64_eq_toNat, hea, if_neg (by simp [hal]), if_neg (by simp [hd.vecFmt, hfmt])]
    obtain ⟨e, he, heq⟩ := Dev.load_ok (opc := 0x40) hd hfault hc hp _
    rw [heq]
    simp only [he.clean.free]
    exact he.sameTiles.usedFree.retire ..
  case vst =>
    intro s t w bad ea hf hr hea hal hfmt hfault hroom
    refine Does.runs rfl hf hr fun d hd => (Dev.platform_sameTiles ..).moves ?_
    rw [iImm64_eq_toNat, hea, if_neg (by simp [hal]), if_neg (by simp [hd.vecFmt, hfmt])]
    refine (Dev.sameTiles_countIf ..).moves ?_
    rw [Dev.store1_ok hd hfault hroom]
    exact hd.sameTiles.retire ..

end Sys2Proof.Machine
end

section
/-! PROOF. The issue of asynchronous instructions (spec/11, R303, R306, R308, R316, R317, R320, R321, R323, R328). -/

namespace Sys2Proof.Machine

/-! ### What the head of a queue does by itself (R323) -/

theorem Dev.modOp_tile (d : Dev) (t token : Nat) (f : AsyncOp → AsyncOp) : (d.modOp t token f).tile t =
    { d.tile t with queues := (d.tile t).queues.map fun l => l.map fun o => if o.token = token then f o else o } :=
  Dev.tile_modTile ..

/-- The instructions of a tile's queues may have changed, but for their tokens; its general registers and PC, and every
other tile, SRAM and HBM, have not. -/
structure Dev.SameTokens (d e : Dev) (t : Nat) : Prop where
  queues : ∃ f : AsyncOp → AsyncOp, (∀ o, (f o).token = o.token) ∧
    (e.tile t).queues = (d.tile t).queues.map (List.map f)
  g : (e.tile t).g = (d.tile t).g
  pc : (e.tile t).pc = (d.tile t).pc
  other : ∀ u, u ≠ t → e.tile u = d.tile u
  sram : e.sram = d.sram
  hbm : e.hbm = d.hbm

theorem Dev.sameTokens_refl (d : Dev) (t : Nat) : d.SameTokens d t :=
  ⟨⟨id, fun _ => rfl, by simp⟩, rfl, rfl, fun _ _ => rfl, rfl, rfl⟩

theorem Dev.sameTokens_modOp (d : Dev) (t token : Nat) {f : AsyncOp → AsyncOp} (hf : ∀ o, (f o).token = o.token) :
    d.SameTokens (d.modOp t token f) t := by
  have htile := d.modOp_tile t token f
  refine ⟨⟨fun o => if o.token = token then f o else o, fun o => ?_, by rw [htile]⟩, by rw [htile], by rw [htile],
    fun u hu => Dev.tile_modTile_other _ hu.symm _, rfl, rfl⟩
  dsimp only
  split
  · exact hf o
  · rfl

theorem Dev.SameTokens.sameTiles {d e e' : Dev} {t : Nat} (h : d.SameTokens e t) (he : e.SameTiles e') :
    d.SameTokens e' t := by
  obtain ⟨f, hf, hqueues⟩ := h.queues
  have ht := he.tile t
  exact ⟨⟨f, hf, by rw [ht, hqueues]⟩, by rw [ht, h.g], by rw [ht, h.pc], fun u hu => (he.tile u).trans (h.other u hu),
    he.sram.trans h.sram, he.hbm.trans h.hbm⟩

theorem Dev.startAsync_sameTokens (d : Dev) (t q : Nat) : d.SameTokens (d.startAsync t q) t := by
  unfold Dev.startAsync
  split
  · exact d.sameTokens_refl t
  · rename_i o _
    split
    · exact d.sameTokens_refl t
    · split
      · exact d.sameTokens_modOp t o.token fun _ => rfl
      · exact (d.sameTokens_modOp t o.token (f := fun o => { o with written := true }) fun _ => rfl).sameTiles
          ⟨rfl, rfl, rfl⟩

/-! ### Issue (R303, R316) -/

/-- Tile `t`, which held `x`, has issued the instruction word `w` into queue `q`: it stands last in the queue with the next
token, which g[rd] takes, and PC has moved on by 8. -/
abbrev Dev.Issues (d e : Dev) (t w q : Nat) (x : Tile) : Prop :=
  ((e.tile t).queues.getD q []).length = (x.queues.getD q []).length + 1 ∧
    (((e.tile t).queues.getD q []).getLast?).map AsyncOp.token = some (q * 2 ^ 62 + (nth x.issued q + 1)) ∧
    (e.tile t).g = (x.setReg (iRd w) (q * 2 ^ 62 + (nth x.issued q + 1))).g ∧ (e.tile t).pc = (x.pc + 8) % 2 ^ 64 ∧
    (∀ u, u ≠ t → e.tile u = d.tile u) ∧ (∀ u, e.sramOf u = d.sramOf u) ∧ e.hbm = d.hbm

/-- The tile once an instruction has been counted and stands in its queue. -/
def Tile.enqueued (x : Tile) (w q : Nat) (o : AsyncOp) : Tile :=
  ({ x with nIns := x.nIns + 1, queues := x.queues.set q ((x.queues.getD q []) ++ [o])
            issued := setAt x.issued q (nth x.issued q + 1), pc := (x.pc + 8) % 2 ^ 64 } : Tile).setReg (iRd w) o.token

theorem Tile.setReg_queues (x : Tile) (i v : Nat) : (x.setReg i v).queues = x.queues := by
  unfold Tile.setReg
  split <;> rfl

theorem Tile.setReg_pc (x : Tile) (i v : Nat) : (x.setReg i v).pc = x.pc := by
  unfold Tile.setReg
  split <;> rfl

/-- What a write of a general register leaves in them depends on them alone. -/
theorem Tile.setReg_g {x y : Tile} (h : y.g = x.g) (i v : Nat) : (y.setReg i v).g = (x.setReg i v).g := by
  unfold Tile.setReg
  split
  · exact h
  · rw [← h]

theorem Tile.enqueued_queue {x : Tile} {q : Nat} (hq : q < x.queues.length) (w : Nat) (o : AsyncOp) :
    (x.enqueued w q o).queues.getD q [] = x.queues.getD q [] ++ [o] := by
  simp [Tile.enqueued, Tile.setReg_queues, hq]

theorem Tile.enqueued_g (x : Tile) (w q : Nat) (o : AsyncOp) : (x.enqueued w q o).g = (x.setReg (iRd w) o.token).g := by
  unfold Tile.enqueued
  rw [Tile.setReg_g (x := x)]
  rfl

theorem Tile.enqueued_pc (x : Tile) (w q : Nat) (o : AsyncOp) : (x.enqueued w q o).pc = (x.pc + 8) % 2 ^ 64 :=
  Tile.setReg_pc ..

/-- An instruction issued is put into its queue on a device whose tiles and memories have not changed but for the tile's
count of instructions. -/
theorem Dev.issueAsync_eq {d : Dev} {t : Nat} {x : Tile} (hx : d.tile t = x) (w : Nat) (k : AKind) (o : AsyncOp) :
    ∃ (e : Dev) (p : AsyncOp), (d.setTile t { x with nIns := x.nIns + 1 }).SameTiles e ∧
      p.token = k.queue * 2 ^ 62 + (nth x.issued k.queue + 1) ∧
      d.issueAsync t w k o = (e.setTile t (x.enqueued w k.queue p)).startAsync t k.queue := by
  subst hx
  let e := if (d.tagIns t).2 then ((d.tagIns t).1.count 0x0A t 0 k.cls).count 0x14 (quadOfTile t) 0 0
    else (d.tagIns t).1.count 0x0A t 0 k.cls
  have he : (d.setTile t { d.tile t with nIns := (d.tile t).nIns + 1 }).SameTiles e :=
    (Dev.Sends.ite (c := (d.tagIns t).2 = true) (Dev.Sends.refl _).count.count (Dev.Sends.refl _).count).sameTiles
  have htile : e.tile t = { d.tile t with nIns := (d.tile t).nIns + 1 } := by rw [he.tile, Dev.tile_setTile]
  refine ⟨e, { o with token := k.queue * 2 ^ 62 + (nth (e.tile t).issued k.queue + 1), issuedAt := e.now
                      tag := if (d.tagIns t).2 then some (e.tile t).pc else none }, he, by rw [htile], ?_⟩
  change (e.setTile t (({ e.tile t with
    queues := (e.tile t).queues.set k.queue (((e.tile t).queues.getD k.queue []) ++ [_])
    issued := setAt (e.tile t).issued k.queue (nth (e.tile t).issued k.queue + 1)
    pc := ((e.tile t).pc + 8) % 2 ^ 64 } : Tile).setReg (iRd w) _)).startAsync t k.queue = _
  rw [htile]
  rfl

/-- Issuing puts the instruction into its queue, on a device with the tiles and memories of `d`. -/
theorem Dev.SameTiles.issueAsync {d d' : Dev} {t : Nat} {x : Tile} (h : d.SameTiles d') (w : Nat) (k : AKind)
    (o : AsyncOp) (hx : d.tile t = x) (hlen : x.queues.length = 3) :
    d.Issues (d'.issueAsync t w k o) t w k.queue x := by
  obtain ⟨e, p, he, hp, heq⟩ := Dev.issueAsync_eq ((h.tile t).trans hx) w k o
  have hs := (e.setTile t (x.enqueued w k.queue p)).startAsync_sameTokens t k.queue
  obtain ⟨f, hf, hqueues⟩ := hs.queues
  have hq : k.queue < x.queues.length := by
    rw [hlen]
    cases k <;> decide
  rw [← heq, Dev.tile_setTile] at hqueues
  have hqueue : ((d'.issueAsync t w k o).tile t).queues.getD k.queue [] = (x.queues.getD k.queue [] ++ [p]).map f := by
    rw [hqueues, ← Tile.enqueued_queue hq w p]
    exact List.getD_map _ [] (List.map f)
  refine ⟨?length, ?token, ?g, ?pc, fun u hu => ?other, fun u => ?sram, ?hbm⟩
  case length => rw [hqueue, List.length_map, List.length_append, List.length_singleton]
  case token =>
    rw [hqueue]
    simp [hf, hp]
  case g => rw [heq, hs.g, Dev.tile_setTile, Tile.enqueued_g, hp]
  case pc => rw [heq, hs.pc, Dev.tile_setTile, Tile.enqueued_pc]
  case other =>
    rw [heq, hs.other u hu, Dev.tile_setTile_other _ hu.symm, he.tile, Dev.tile_setTile_other _ hu.symm, h.tile]
  case sram =>
    rw [heq]
    exact (congrArg (fun m => m.get u []) hs.sram).trans ((he.sramOf u).trans (h.sramOf u))
  case hbm =>
    rw [heq]
    exact hs.hbm.trans (he.hbm.trans h.hbm)

/-- An instruction whose descriptor is read runs its checks on the state's own device, when the step meets no error. -/
theorem Does.issues {c : Instr} {s : State} {t w n : Nat} {k : AKind} {x : Tile} {P : Dev → Prop}
    {body : Nat → Tile → Nat → List Nat → Dev → Dev}
    (hc : exec c s = act (fun d => d.asyncIssue t n {} k body) s) (hf : Fetches s.dev t k.opc w {})
    (hr : resvR w = false) (hx : s.dev.tile t = x) (hbuf : (x.buf.any fun e => e.tile = t) = false)
    (hroom : (x.queues.getD k.queue []).length < 16) (hal : x.reg (iRs1 w) % 64 = 0)
    (hin : x.reg (iRs1 w) + 4 * n ≤ sramBytes) (hp : s.dev.poisonIn t (x.reg (iRs1 w)) (4 * n) = none)
    (hb : P (s.dev.platform (body w x (x.reg (iRs1 w)) (s.dev.sramWords t (x.reg (iRs1 w)) n) s.dev))) :
    Does c s P := by
  refine Does.of_act hc ?_
  rw [Dev.asyncIssue, Dev.step1_fetches _ _ hf hr, hx]
  simp only [Dev.sramMeet_none, hbuf, Nat.not_le.2 hroom, decide_false, Bool.or_self, Bool.false_eq_true, if_false, hal,
    Nat.not_lt.2 hin, hp, Option.isSome_none, ne_eq, not_true]
  exact hb

theorem Dev.SameTiles.issues {d e e' : Dev} {t w q : Nat} {x : Tile} (h : e.SameTiles e') (hi : d.Issues e t w q x) :
    d.Issues e' t w q x := by
  obtain ⟨hlen, htok, hg, hpc, hother, hsram, hhbm⟩ := hi
  have ht := h.tile t
  exact ⟨by rw [ht, hlen], by rw [ht, htok], by rw [ht, hg], by rw [ht, hpc],
    fun u hu => (h.tile u).trans (hother u hu), fun u => (h.sramOf u).trans (hsram u), h.hbm.trans hhbm⟩

/-- Binding a context leaves tiles and memories alone (R274). -/
theorem Dev.sameTiles_bindIf {c : Prop} [Decidable c] (d : Dev) (i r b g : Nat) :
    d.SameTiles (if c then d.bindCtx i r b g else d) := by
  split
  · exact ⟨rfl, rfl, rfl⟩
  · exact .refl d

/-! ### The statement -/

/-- Settles O42: each instruction passes its checks on the state's own device, and `Dev.issueAsync` puts it into its
queue. -/
theorem asynchronousIssue : Obligations.AsynchronousIssue := by
  refine ⟨?mma, ?mmac, ?xfer, ?cinj, ?gpost⟩
  case mma =>
    intro s t w a x hf hr hx ha hlen _ hbuf hroom hal hp hcheck
    obtain ⟨hal, hin⟩ := hal
    subst ha
    refine Does.issues (k := .mma) rfl hf hr hx hbuf hroom hal hin hp ((Dev.platform_sameTiles ..).issues ?_)
    rw [Option.isNone_iff_eq_none.1 hcheck]
    exact (Dev.SameTiles.refl _).issueAsync w .mma _ hx hlen
  case mmac =>
    intro s t w a x hf hr hx ha hlen _ hbuf hroom hal hp hcheck
    obtain ⟨hal, hin⟩ := hal
    subst ha
    refine Does.issues (k := .mmac) rfl hf hr hx hbuf hroom hal hin hp ((Dev.platform_sameTiles ..).issues ?_)
    rw [Option.isNone_iff_eq_none.1 hcheck]
    exact (Dev.sameTiles_bindIf ..).issueAsync w .mmac _ hx hlen
  case xfer =>
    intro s t w a x hf hr hx ha hlen _ hbuf hroom hal hp hk
    obtain ⟨hal, hin⟩ := hal
    obtain ⟨h0, h1, h5, h6, h7, hlen0, hend, hregion⟩ := hk
    subst ha
    refine Does.issues (k := .xfer) rfl hf hr hx hbuf hroom hal hin hp ((Dev.platform_sameTiles ..).issues ?_)
    simp only [h0, h1, h5, h6, h7, hlen0, Nat.not_lt.2 hend, bne_self_eq_false, Bool.or_self, Bool.false_eq_true,
      if_false]
    have hissue := fun o => (Dev.SameTiles.refl s.dev).issueAsync w .xfer o hx hlen
    split
    · rename_i e hcheck
      rw [hcheck] at hregion
      rw [if_neg (by simpa using hregion)]
      exact hissue _
    · exact hissue _
  case cinj =>
    intro s t w a x hf hr hx ha hlen _ hbuf hroom hal hp hk
    obtain ⟨hal, hin⟩ := hal
    obtain ⟨h1, h3, h4, h6, h7, hend⟩ := hk
    subst ha
    refine Does.issues (k := .cinj) rfl hf hr hx hbuf hroom hal hin hp ((Dev.platform_sameTiles ..).issues ?_)
    simp only [h1, h3, h4, h6, h7, Nat.not_lt.2 hend, bne_self_eq_false, Bool.or_self, Bool.false_eq_true, if_false]
    exact (Dev.SameTiles.refl _).issueAsync w .cinj _ hx hlen
  case gpost =>
    intro s t w a x hf hr hx ha hlen _ hbuf hroom hal hp
    obtain ⟨hal, hin⟩ := hal
    subst ha
    refine Does.issues (k := .gpost) rfl hf hr hx hbuf hroom hal hin hp ((Dev.platform_sameTiles ..).issues ?_)
    exact (Dev.SameTiles.refl _).issueAsync w .gpost _ hx hlen

end Sys2Proof.Machine
end

section
/-! PROOF. Reads that latch (spec/22, R588), retraining by register (spec/19, R512; spec/13, R378), the error bits of a tile
(spec/11, R332, R334), and a TILE reset whose command a march test ends (spec/17, R483, R484). -/

namespace Sys2Proof.Machine

/-! ### What goes out (R588) -/

/-- The messages that follow a step are added to what has gone out. -/
theorem Dev.mem_out_platform {b d : Dev} {o : Out} (h : o ∈ d.out) : o ∈ (b.platform d).out := by
  unfold Dev.platform
  split
  · exact h
  · rename_i intf eid _
    suffices hl : ∀ (l : List Nat) (e : Dev), o ∈ e.out →
        o ∈ (e.each l fun d id => if b.eventVal id = d.eventVal id then d
          else d.emit (.mctp intf eid 0 1 [id, b.eventVal id, d.eventVal id])).out from hl _ d h
    intro l
    induction l with
    | nil => exact fun _ he => he
    | cons id l ih =>
      intro e he
      refine ih _ ?_
      dsimp only
      split
      · exact he
      · exact List.mem_append_left _ he

theorem Dev.mem_out_emit (d : Dev) (o : Out) : o ∈ (d.emit o).out := List.mem_append_right _ (List.mem_singleton_self o)

/-! ### Lanes and stacks -/

section
variable (d : Dev) (x : Nat)

theorem Dev.laneState_lwr_other {f : Fld} (h : f.id ≠ R.OE_LSTAT_STATE.id) (v y : Nat) :
    (d.lwr f v y).laneState x = d.laneState x := Dev.rd_wr_other d h ..

theorem Dev.laneState_wr_other {f : Fld} (h : f.id ≠ R.OE_LSTAT_STATE.id) (v i k : Nat) :
    (d.wr f v i k).laneState x = d.laneState x := Dev.rd_wr_other d h ..

theorem Dev.laneState_emit (o : Out) : (d.emit o).laneState x = d.laneState x := rfl

theorem Dev.laneState_modLane (y : Nat) (f : Lane → Lane) : (d.modLane y f).laneState x = d.laneState x := rfl

theorem Dev.laneState_setLaneState (st : Nat) : (d.setLaneState x st).laneState x = st % 2 ^ 4 := Dev.rd_wr_self ..

theorem Dev.lane_emit (o : Out) : (d.emit o).lane x = d.lane x := rfl

theorem Dev.lane_modLane (f : Lane → Lane) : (d.modLane x f).lane x = f (d.lane x) := Tab.get_put_self ..

/-- A lane that begins to retrain is in RETRAIN, and asks no more (R80). -/
theorem Dev.beginRetrain_lane :
    (d.beginRetrain x).laneState x = laRetrain ∧ ((d.beginRetrain x).lane x).wantRetrain = false := by
  unfold Dev.beginRetrain Dev.beginStep
  constructor
  · rw [Dev.laneState_emit, Dev.laneState_emit, Dev.laneState_modLane, Dev.laneState_wr_other _ _ (by decide),
      Dev.laneState_lwr_other _ _ (by decide), Dev.laneState_modLane, Dev.laneState_lwr_other _ _ (by decide),
      Dev.laneState_setLaneState]
    rfl
  · rw [Dev.lane_emit, Dev.lane_emit, Dev.lane_modLane]

end

/-- A request to retrain an ACTIVE lane, while another lane of its port is ACTIVE and no other retrains, is granted
(R80, R512). -/
theorem Dev.lctlRetrain_begins {d : Dev} {x y : Nat} (hx : d.laneState x = laActive) (hne : y ≠ x)
    (hy : (d.portLanes (d.lanePort x)).contains y = true) (hyact : d.laneState y = laActive)
    (hnone : (d.portLanes (d.lanePort x)).all (fun z => z = x || d.laneState z != laRetrain) = true) :
    d.lctlRetrain x = d.beginRetrain x := by
  have hmem : y ∈ (d.portLanes (d.lanePort x)).filter fun z => z ≠ x :=
    List.mem_filter.2 ⟨List.contains_iff_mem.1 hy, decide_eq_true hne⟩
  have hothers : ((d.portLanes (d.lanePort x)).filter fun z => z ≠ x).any (fun z => d.laneState z = laRetrain) = false := by
    rw [List.any_eq_false]
    intro z hz
    obtain ⟨hz, hzx⟩ := List.mem_filter.1 hz
    have := List.all_eq_true.1 hnone z hz
    simp_all
  have hactive : ∀ p : Nat → Bool, p y = false →
      (((d.portLanes (d.lanePort x)).filter fun z => z ≠ x).all p) ≠ true :=
    fun p hp h => Bool.false_ne_true (hp.symm.trans (List.all_eq_true.1 h y hmem))
  unfold Dev.lctlRetrain Dev.askRetrain
  rw [if_neg (not_or.2 ⟨not_not.2 hx, hactive _ (by simp [hyact])⟩), if_neg (not_not.2 hx), if_neg (by simpa using hothers),
    if_neg (hactive _ (by simp [hyact]))]

/-- The first channel of a stack is held for its retraining (R378). -/
theorem Dev.startRetrain_holds {d : Dev} {q : Nat} (h : d.on R.HBM_STAT_TRAINING q = false) :
    (d.startRetrain q).rd R.HBM_STAT_TRAINING q = 1 ∧ (d.startRetrain q).rd R.HBM_STAT_TRAIN_CH q = 0 ∧
      ((d.startRetrain q).stack q).holdTill = some (d.now + 1500) := by
  unfold Dev.startRetrain
  rw [if_neg (by rw [h]; exact Bool.false_ne_true)]
  refine ⟨?_, Dev.rd_wr_self .., ?_⟩
  · exact (Dev.rd_wr_other _ (by decide) ..).trans (Dev.rd_set_self _ rfl ..)
  · exact congrArg HbmSt.holdTill (Tab.get_put_self ..)

/-! ### A tile's error bits (R332, R334) -/

/-- A bit of TILE.ERR that is cleared reads 0, when the record that follows it is another field. -/
theorem Dev.rd_tileErrWrite {d : Dev} {t : Nat} {f : Fld} (hb : d.barOn 0 = true) (hp : d.pdOn (pdTile t) = true)
    (he : R.TILE_EXC0_VALID.id ≠ f.id) (hr : R.TILE_RSTREC0_VALID.id ≠ f.id) : (d.tileErrWrite t f).rd f t = 0 := by
  unfold Dev.tileErrWrite Dev.tileErrCleared
  simp only [hb, hp, Bool.true_eq_false, if_false]
  split <;> split <;> simp only [Dev.rd_clr_other _ he, Dev.rd_clr_other _ hr, Dev.rd_clr_self]

/-- Settles O35: each access is carried out, and the registers that it writes are read back. -/
theorem latchingReadsAndRegisterCommands : Obligations.LatchingReadsAndRegisterCommands := by
  refine ⟨?ftime, ?step, ?counter, ?lane, ?stack, ?unhandled, ?resetSeen⟩
  case ftime =>
    intro s hb
    refine Does.of_act rfl ⟨?_, Dev.mem_out_platform ?_⟩
    all_goals
      unfold hubFtimeLoRead
      simp only [hb, Bool.true_eq_false, if_false]
    · rw [Dev.rd_platform]
      exact Dev.rd_wr_self ..
    · exact Dev.mem_out_emit ..
  case step =>
    intro s n hb hn
    subst hn
    refine Does.of_act rfl ⟨?_, Dev.mem_out_platform ?_⟩
    all_goals
      unfold hubSteploRead
      simp only [hb, Bool.true_eq_false, if_false]
    · rw [Dev.rd_platform]
      exact Dev.rd_wr_self ..
    · exact Dev.mem_out_emit ..
  case counter =>
    intro s r hb hr
    subst hr
    refine Does.of_act rfl ?_
    simp only [Dev.rd_platform]
    have hmem : ∀ e : Dev, ∀ o, o ∈ ((s.dev.platform (e.emit o)).out) := fun e o => Dev.mem_out_platform (e.mem_out_emit o)
    unfold telCvalLoRead
    simp only [hb, Bool.true_eq_false, if_false, Dev.rd_emit]
    refine ⟨?_, ?_, ?_, ?_, ?_, hmem _ _⟩
    · rw [Dev.rd_wr_other _ (by decide), Dev.rd_wr_other _ (by decide), Dev.rd_wr_other _ (by decide),
        Dev.rd_wr_other _ (by decide)]
      exact Dev.rd_wr_self ..
    · rw [Dev.rd_wr_other _ (by decide), Dev.rd_wr_other _ (by decide), Dev.rd_wr_other _ (by decide), Dev.rd_wr_self]
      exact Nat.mod_mod ..
    · rw [Dev.rd_wr_other _ (by decide), Dev.rd_wr_other _ (by decide)]
      exact Dev.rd_wr_self ..
    · rw [Dev.rd_wr_other _ (by decide)]
      exact Dev.rd_wr_self ..
    · exact Dev.rd_wr_self ..
  case lane =>
    intro s x y hb hp hx hne hy hyact hnone
    refine Does.of_act rfl ?_
    have hdoes : oeLctlRetrainWrite x s.dev = s.dev.beginRetrain x := by
      unfold oeLctlRetrainWrite
      simp only [hb, hp, Bool.true_eq_false, if_false]
      exact Dev.lctlRetrain_begins hx hne hy hyact hnone
    rw [hdoes]
    obtain ⟨hstate, hwant⟩ := s.dev.beginRetrain_lane x
    exact ⟨(Dev.rd_platform ..).trans hstate, by rw [Dev.lane, Dev.platform_net]; exact hwant⟩
  case stack =>
    intro s q hb hp htrain hhbm hoff
    refine Does.of_act rfl ?_
    have hdoes : hbmCtlRetrainWrite q s.dev = s.dev.startRetrain q := by
      unfold hbmCtlRetrainWrite Dev.hbmCtlRetrain
      simp only [hb, hp, htrain, hhbm, Bool.true_eq_false, Bool.false_eq_true, or_self, if_false]
    rw [hdoes]
    obtain ⟨htraining, hch, hhold⟩ := Dev.startRetrain_holds hoff
    obtain ⟨o, ho⟩ := s.dev.platform_frame (s.dev.startRetrain q)
    rw [ho]
    exact ⟨htraining, hch, hhold⟩
  case unhandled =>
    intro s t hb hp
    refine Does.of_act rfl ?_
    rw [Dev.rd_platform, Dev.rd_platform]
    refine ⟨Dev.rd_tileErrWrite hb hp (by decide) (by decide), ?_⟩
    unfold tileErrUnhandledClear Dev.tileErrWrite
    simp only [hb, hp, Bool.true_eq_false, if_false]
    exact Dev.rd_clr_self ..
  case resetSeen =>
    intro s t hb hp
    refine Does.of_act rfl ?_
    rw [Dev.rd_platform, Dev.rd_platform]
    refine ⟨Dev.rd_tileErrWrite hb hp (by decide) (by decide), ?_⟩
    unfold tileErrResetSeenClear Dev.tileErrWrite
    simp only [hb, hp, Bool.true_eq_false, if_false]
    exact Dev.rd_clr_self ..

/-! ### A TILE reset whose command a march test ends (R372, R484) -/

/-- A RESET of tile 0 at level TILE, journalled as entry 0, whose execution has begun. -/
def begunReset : JEntry := { aseq := 0, chan := 0, phase := .begun, pkt := { words := [0x0603], origin := .pcie } }

/-- Tile 0 is IDLE and runs a march test for which journal entry 0 waits, the entry of a RESET of the same tile. -/
def marchedByReset : Dev :=
  ({ mgmt := { journal := [begunReset] }, ecc := [(0, { march := some (1, some 0) })] } : Dev).wr R.TILE_STAT_STATE tsIdle 0

/-- Refutes O25: the reset cuts short the march test that tile 0 runs, which is a step of the command that the test was
begun for. Where that is journal entry 0, the entry of the RESET itself, the command is complete and not running. The
statement's premises leave such a state in. -/
theorem not_resetsAndAborts : ¬ Obligations.ResetsAndAborts := by
  unfold Obligations.ResetsAndAborts
  rintro ⟨hreset, -⟩
  obtain ⟨e, he, -, -, hrun, -⟩ := hreset { dev := marchedByReset, pending := [] } 0 0 begunReset
    ⟨by decide, rfl, by decide, rfl, rfl⟩ (by decide) (by decide) (by decide) (by decide) rfl (by decide) (by decide)
  have hdev : marchedByReset.platform (reset 0 marchedByReset) = e.dev := congrArg State.dev (Host.Outcome.next.inj he)
  have hgone : (marchedByReset.platform (reset 0 marchedByReset)).job? 0 = none := by decide
  rw [← hdev, Running, show begunReset.aseq = 0 from rfl, hgone] at hrun
  cases hrun

end Sys2Proof.Machine
end

section
/-! PROOF. The canonical form of the memories (O49): one rule per function of the device, in the order of
the model's files, each saying that it keeps the form; then the commands and the steps. -/

namespace Sys2Proof
open Machine

section
variable {d e : Dev}

theorem Canonical.sends (h : Canonical d) (hs : d.Sends e) : Canonical e := h.same hs.sameTiles.sram hs.sameTiles.hbm

/-- An update of anything but the memories. -/
theorem Canonical.upd {now freeCtr regs counters out net mgmt tel time sec red ecc hstacks tiles models store}
    (h : Canonical d) : Canonical ⟨now, freeCtr, regs, counters, out, net, mgmt, tel, time, sec, red, d.sram, d.hbm,
      ecc,
      hstacks, tiles, models, store⟩ := h

/-- Memories that list nothing are canonical. -/
theorem Canonical.of_nil (hs : d.sram = []) (hh : d.hbm = []) : Canonical d :=
  ⟨fun t => by rw [Dev.sramOf, hs]; rfl, fun q => by rw [Dev.hbmOf, hh]; rfl⟩

theorem Canonical.ite {c : Prop} [Decidable c] {a b : Dev} (ha : Canonical a) (hb : Canonical b) :
    Canonical (if c then a else b) := by
  split
  · exact ha
  · exact hb

theorem Canonical.iteFst {c : Prop} [Decidable c] {α : Type} {a b : Dev × α} (ha : Canonical a.1) (hb : Canonical b.1) :
    Canonical (if c then a else b).1 := by
  split
  · exact ha
  · exact hb

theorem Canonical.ofPair {α : Type} {x : Dev × α} {y : α} (hx : x = (d, y)) (h : Canonical x.1) : Canonical d := by
  subst hx
  exact h

theorem Canonical.foldl {α : Type} {l : List α} {f : Dev → α → Dev} (h : Canonical d)
    (hf : ∀ {e : Dev} {a : α}, Canonical e → Canonical (f e a)) : Canonical (l.foldl f d) := by
  induction l generalizing d with
  | nil => exact h
  | cons a l ih => exact ih (hf h)

theorem Canonical.foldlFst {α β : Type} {l : List α} {f : Dev × β → α → Dev × β} {x : Dev × β} (h : Canonical x.1)
    (hf : ∀ {x : Dev × β} {a : α}, Canonical x.1 → Canonical (f x a).1) : Canonical (l.foldl f x).1 := by
  induction l generalizing x with
  | nil => exact h
  | cons a l ih => exact ih (hf h)

/-! ### Machine/Ops -/

theorem Canonical.wr {f v i k} (h : Canonical d) : Canonical (d.wr f v i k) := h.upd

theorem Canonical.set {f i k} (h : Canonical d) : Canonical (d.set f i k) := h.wr

theorem Canonical.clr {f i k} (h : Canonical d) : Canonical (d.clr f i k) := h.wr

theorem Canonical.bump {f i k n} (h : Canonical d) : Canonical (d.bump f i k n) := h.wr

theorem Canonical.wrSat {f v i k} (h : Canonical d) : Canonical (d.wrSat f v i k) := h.wr

theorem Canonical.wrBit {f b v i k} (h : Canonical d) : Canonical (d.wrBit f b v i k) := h.wr

theorem Canonical.resetFields {ids inst} (h : Canonical d) : Canonical (d.resetFields ids inst) := h.upd

theorem Canonical.count {blk inst grp sub n} (h : Canonical d) : Canonical (d.count blk inst grp sub n) := h.upd

theorem Canonical.emit {o} (h : Canonical d) : Canonical (d.emit o) := h.upd

theorem Canonical.usedFree (h : Canonical d) : Canonical d.usedFree := h.upd

theorem Canonical.each {α : Type} {l : List α} {f : Dev → α → Dev} (h : Canonical d)
    (hf : ∀ {e : Dev} {a : α}, Canonical e → Canonical (f e a)) :
    Canonical (d.each l f) :=
  h.foldl hf

theorem Canonical.setPd {pd v} (h : Canonical d) : Canonical (d.setPd pd v) := h.wrBit

theorem Canonical.modBoot {f} (h : Canonical d) : Canonical (d.modBoot f) := h.upd

theorem Canonical.recordNew (h : Canonical d) : Canonical d.recordNew := .ite h h.upd

theorem Canonical.setLink {p l} (h : Canonical d) : Canonical (d.setLink p l) := h.upd

theorem Canonical.modLink {p f} (h : Canonical d) : Canonical (d.modLink p f) := h.setLink

theorem Canonical.setPort {p x} (h : Canonical d) : Canonical (d.setPort p x) := h.upd

theorem Canonical.setLane {l x} (h : Canonical d) : Canonical (d.setLane l x) := h.upd

theorem Canonical.irq {before cleared} (h : Canonical d) : Canonical (d.irq before cleared) :=
  .ite h.wr.wr.emit h.wr.wr

theorem Canonical.pend {f} (h : Canonical d) : Canonical (d.pend f) := h.set.irq

/-! ### Machine/Route -/

theorem Canonical.countRefusal {q x} (h : Canonical d) : Canonical (d.countRefusal q x) :=
  h.sends (Dev.Sends.refl d).countRefusal

theorem Canonical.countRoute {q r} (h : Canonical d) : Canonical (d.countRoute q r) :=
  h.sends (Dev.Sends.refl d).countRoute

/-! ### Machine/Tel -/

theorem Canonical.rateOk {kind i limit} (h : Canonical d) : Canonical (d.rateOk kind i limit).1 :=
  h.sends (Dev.Sends.refl d).rateOk

theorem Canonical.traceWrite {q ws} (h : Canonical d) : Canonical (d.traceWrite q ws) :=
  h.sends (Dev.Sends.refl d).traceWrite

theorem Canonical.tracePacket {q k ing vc t pool flits first nHold reason freed} (h : Canonical d) :
    Canonical (d.tracePacket q k ing vc t pool flits first nHold reason freed) :=
  h.traceWrite

theorem Canonical.tagPacket {ing} (h : Canonical d) : Canonical (d.tagPacket ing).1 := .iteFst h.upd.count h.upd

theorem Canonical.setBunt {p r} (h : Canonical d) : Canonical (d.setBunt p r) := h.upd

theorem Canonical.buntEntry {p r kind dir vc seq flits stomp hdr} (h : Canonical d) :
    Canonical (d.buntEntry p r kind dir vc seq flits stomp hdr) := by
  unfold Dev.buntEntry
  split
  · exact h
  · split
    · rename_i d1 _ hx
      have h1 : Canonical d1 := .ofPair hx h.rateOk
      split
      · exact .ite (.count (.setBunt (.ofPair ‹_› (.iteFst h1.rateOk h1)))) (.set (.count (.setBunt (.ofPair ‹_›
          (.iteFst h1.rateOk h1)))))

theorem Canonical.buntPacket {p dir vc seq k stomp} (h : Canonical d) :
    Canonical (d.buntPacket p dir vc seq k stomp) := by
  unfold Dev.buntPacket
  split
  · exact h
  · exact .ite h.buntEntry h

theorem Canonical.buntHaly {p dir w} (h : Canonical d) : Canonical (d.buntHaly p dir w) := by
  unfold Dev.buntHaly
  split
  · exact h
  · exact .ite h.buntEntry h

theorem Canonical.buntLink {p} (h : Canonical d) : Canonical (d.buntLink p) := by
  unfold Dev.buntLink
  split
  · exact h
  · exact .ite h.buntEntry h

theorem Canonical.buntTrigger {p cmd} (h : Canonical d) : Canonical (d.buntTrigger p cmd) := by
  unfold Dev.buntTrigger
  split
  · exact h
  · exact .ite h.setBunt h

/-! ### Machine/Buffer -/

theorem Canonical.record {q r} (h : Canonical d) : Canonical (d.record q r) := h.sends (Dev.Sends.refl d).record

theorem Canonical.sendHaly {p htype b1 b0 w1 w2 w3} (h : Canonical d) :
    Canonical (d.sendHaly p htype b1 b0 w1 w2 w3) :=
  h.sends (Dev.Sends.refl d).sendHaly

theorem Canonical.sendPause {p mask ptime} (h : Canonical d) : Canonical (d.sendPause p mask ptime) := h.sendHaly.wr

theorem Canonical.syncPool {q k} (h : Canonical d) : Canonical (d.syncPool q k) := h.sends (Dev.Sends.refl d).syncPool

theorem Canonical.setRing {e v l} (h : Canonical d) : Canonical (d.setRing e v l) :=
  h.sends (Dev.Sends.refl d).setRing

theorem Canonical.returnCredit {p v n} (h : Canonical d) : Canonical (d.returnCredit p v n) :=
  h.sends (Dev.Sends.refl d).returnCredit

theorem Canonical.storePkt {k ing vc got hs tag ctx stamp} (h : Canonical d) :
    Canonical (d.storePkt k ing vc got hs tag ctx stamp).1 :=
  h.sends (Dev.Sends.refl d).storePkt

theorem Canonical.setPkt {pid s} (h : Canonical d) : Canonical (d.setPkt pid s) := h.upd

theorem Canonical.release {pid h'} (h : Canonical d) : Canonical (d.release pid h') :=
  h.sends (Dev.Sends.refl d).release

theorem Canonical.setQueue {e v x} (h : Canonical d) : Canonical (d.setQueue e v x) := h.upd

theorem Canonical.syncQueue {e v} (h : Canonical d) : Canonical (d.syncQueue e v) :=
  h.sends (Dev.Sends.refl d).syncQueue

theorem Canonical.applyQuench {eg src burgee dst mask qtime} (h : Canonical d) :
    Canonical (d.applyQuench eg src burgee dst mask qtime) :=
  h.upd

theorem Canonical.quenchSource {q ing src burgee dst mask qtime} (h : Canonical d) :
    Canonical (d.quenchSource q ing src burgee dst mask qtime) :=
  h.sends (Dev.Sends.refl d).quenchSource

theorem Canonical.failHolder {pid h' reason blk inst} (h : Canonical d) :
    Canonical (d.failHolder pid h' reason blk inst) :=
  h.sends (Dev.Sends.refl d).failHolder

theorem Canonical.prefetch {e v} (h : Canonical d) : Canonical (d.prefetch e v) := h.sends (Dev.Sends.refl d).prefetch

theorem Canonical.enterDesc {pid h'} (h : Canonical d) : Canonical (d.enterDesc pid h') :=
  h.sends (Dev.Sends.refl d).enterDesc

theorem Canonical.addCrossing {pid hs} (h : Canonical d) : Canonical (d.addCrossing pid hs) := h.upd

theorem Canonical.countLook {q r hs} (h : Canonical d) : Canonical (d.countLook q r hs) :=
  h.sends (Dev.Sends.refl d).countLook

theorem Canonical.sendOut {k ing vc hs} (h : Canonical d) : Canonical (d.sendOut k ing vc hs) :=
  h.sends (Dev.Sends.refl d).sendOut

theorem Canonical.retryOut (h : Canonical d) : Canonical d.retryOut := h.sends (Dev.Sends.refl d).retryOut

theorem Canonical.sendPort {k ing vc p} (h : Canonical d) : Canonical (d.sendPort k ing vc p) := h.sendOut

/-! ### Machine/Mailbox -/

theorem Canonical.setChan {ch c} (h : Canonical d) : Canonical (d.setChan ch c) := h.upd

theorem Canonical.syncChan {ch} (h : Canonical d) : Canonical (d.syncChan ch) := h.sends (Dev.Sends.refl d).syncChan

theorem Canonical.hubSend {k vc port} (h : Canonical d) : Canonical (d.hubSend k vc port) :=
  h.sends (Dev.Sends.refl d).hubSend

theorem Canonical.postCpl {ch ws} (h : Canonical d) : Canonical (d.postCpl ch ws) :=
  h.sends (Dev.Sends.refl d).postCpl

theorem Canonical.histPush {e} (h : Canonical d) : Canonical (d.histPush e) := h.sends (Dev.Sends.refl d).histPush

theorem Canonical.histRecord {r} (h : Canonical d) : Canonical (d.histRecord r) := h.histPush

theorem Canonical.cmdLost {ch tag src fabric} (h : Canonical d) : Canonical (d.cmdLost ch tag src fabric) :=
  h.sends (Dev.Sends.refl d).cmdLost

theorem Canonical.deliver {ch o tag ws} (h : Canonical d) : Canonical (d.deliver ch o tag ws) :=
  h.sends (Dev.Sends.refl d).deliver

theorem Canonical.complete {aseq status res detail} (h : Canonical d) :
    Canonical (d.complete aseq status res detail) :=
  h.sends (Dev.Sends.refl d).complete

theorem Canonical.modJob {aseq f} (h : Canonical d) : Canonical (d.modJob aseq f) := h.upd

theorem Canonical.cmd {aseq opcode f} (h : Canonical d) (hf : ∀ {a0 e}, Canonical e → Canonical (f a0 e)) :
    Canonical (d.cmd aseq opcode f) := by
  unfold Dev.cmd
  split
  · exact .ite (hf h.modJob) h
  · exact h

theorem Canonical.chanFlr {ch} (h : Canonical d) : Canonical (d.chanFlr ch) :=
  .syncChan (.resetFields (.upd (h.setChan.each fun h => h.cmdLost.count)))

theorem Canonical.sendEvent {code ws} (h : Canonical d) : Canonical (d.sendEvent code ws) :=
  h.sends (Dev.Sends.refl d).sendEvent

/-! ### Machine/Fault -/

theorem Canonical.restartQuiet (h : Canonical d) : Canonical d.restartQuiet := h.upd.wrSat

theorem Canonical.enterFault {ev blk cause} (h : Canonical d) : Canonical (d.enterFault ev blk cause) :=
  h.upd.wr.set.irq.restartQuiet.sendEvent

theorem Canonical.faultEvent {blk cause inst d0 d1 status} (h : Canonical d) :
    Canonical (d.faultEvent blk cause inst d0 d1 status) := by
  unfold Dev.faultEvent
  extract_lets +onlyGivenNames _ d2
  have h2 : Canonical d2 := h.histPush.bump.count
  extract_lets +onlyGivenNames d3
  have h3 : Canonical d3 := .ite h2.buntTrigger (.ite h2.buntTrigger h2)
  exact .ite h3.enterFault (.ite h3.restartQuiet h3)

theorem Canonical.latchStruck (h : Canonical d) : Canonical d.latchStruck := h.wr.set.wr.irq.histPush.sendEvent

/-! ### Machine/LinkOps -/

theorem Canonical.sendNotice {restore origin nseq epoch ids skip sub} (h : Canonical d) :
    Canonical (d.sendNotice restore origin nseq epoch ids skip sub) :=
  h.each fun h => h.sendPort.count

theorem Canonical.originate {restore ids} (h : Canonical d) : Canonical (d.originate restore ids) :=
  .ite h h.upd.sendNotice

theorem Canonical.setPortRoute {p x} (h : Canonical d) : Canonical (d.setPortRoute p x) := h.upd

theorem Canonical.syncLdown {p v} (h : Canonical d) : Canonical (d.syncLdown p v) := h.each Canonical.wrBit

theorem Canonical.syncExcl {p} (h : Canonical d) : Canonical (d.syncExcl p) :=
  .ite h (.ite (.ite h.setPortRoute.syncLdown.count.originate.setPortRoute h.setPortRoute.syncLdown.count)
    h.setPortRoute.syncLdown)

theorem Canonical.dropDesc {pid h'} (h : Canonical d) : Canonical (d.dropDesc pid h') :=
  h.sends (Dev.Sends.refl d).dropDesc

theorem Canonical.stompAll {pid} (h : Canonical d) : Canonical (d.stompAll pid) := by
  unfold Dev.stompAll
  split
  · exact h
  · exact h.setPkt.each fun h => .ite h (.ite h.modLink h.upd.dropDesc.release)

theorem Canonical.stompPkt {pid reason blk inst} (h : Canonical d) : Canonical (d.stompPkt pid reason blk inst) := by
  unfold Dev.stompPkt
  split
  · exact h
  · exact .ite h h.record.stompAll

theorem Canonical.takeMarked {e v} (h : Canonical d) : Canonical (d.takeMarked e v) :=
  h.sends (Dev.Sends.refl d).takeMarked

theorem Canonical.flushQueue {e v reason} (h : Canonical d) : Canonical (d.flushQueue e v reason) :=
  h.sends (Dev.Sends.refl d).flushQueue

theorem Canonical.flushAll {e reason} (h : Canonical d) : Canonical (d.flushAll e reason) :=
  h.sends (Dev.Sends.refl d).flushAll

theorem Canonical.dropOpens {p} (h : Canonical d) : Canonical (d.dropOpens p) := by
  unfold Dev.dropOpens
  refine .modLink ?_
  refine .upd ?_
  refine h.each fun h => ?_
  split
  · exact h
  · split
    · exact h.stompPkt
    · exact h.record

theorem Canonical.lostReplay {p} (h : Canonical d) : Canonical (d.lostReplay p) :=
  h.sends (Dev.Sends.refl d).lostReplay

theorem Canonical.syncPdata (h : Canonical d) : Canonical d.syncPdata := h.wr

theorem Canonical.linkLost {p reason} (h : Canonical d) : Canonical (d.linkLost p reason) :=
  .syncPdata (.count (.clr (h.lostReplay.dropOpens.flushAll.modLink.each fun h => h.wr.wr)))

theorem Canonical.setServo {st} (h : Canonical d) : Canonical (d.setServo st) := .wr (.upd (.ite h.set h))

theorem Canonical.syncServo (h : Canonical d) : Canonical d.syncServo := by
  unfold Dev.syncServo
  dsimp only
  split
  · exact .ite (.ite h.upd h.upd.setServo) (.ite h.upd.setServo (.ite h.upd.setServo h.upd))
  · exact .ite h.upd.wr.setServo h.upd.wr

theorem Canonical.setLinkState {p st} (h : Canonical d) : Canonical (d.setLinkState p st) :=
  h.wr.modLink.buntLink.syncExcl.syncServo

theorem Canonical.toNegotiateLost {p} (h : Canonical d) : Canonical (d.toNegotiateLost p) := by
  unfold Dev.toNegotiateLost
  exact h.faultEvent.setLinkState.linkLost.wr.wr.modLink

theorem Canonical.linkDown {p} (h : Canonical d) : Canonical (d.linkDown p) :=
  .ite h h.setLinkState.linkLost.modLink.wr.wr.wr.wr.buntTrigger

theorem Canonical.enterResync {p} (h : Canonical d) : Canonical (d.enterResync p) :=
  .ite h.faultEvent.count.setLinkState.modLink h

/-! ### Machine/Switch -/

theorem Canonical.syncMesh (h : Canonical d) : Canonical d.syncMesh :=
  .each (h.each fun h => h.each Canonical.wr) fun h => h.each Canonical.wr

theorem Canonical.subDown {pair sub} (h : Canonical d) : Canonical (d.subDown pair sub) := by
  unfold Dev.subDown
  split
  · exact h.each fun h => h.wrBit.set

theorem Canonical.meshSublinkFail {pair sub} (h : Canonical d) : Canonical (meshSublinkFail pair sub d) :=
  .ite h.faultEvent.subDown.syncMesh h

theorem Canonical.meshLinkFail {pair} (h : Canonical d) : Canonical (meshLinkFail pair d) := by
  unfold Machine.meshLinkFail
  split
  · exact .ite (.syncMesh (h.faultEvent.each Canonical.subDown)) h

theorem Canonical.descriptorEntry {pid h'} (h : Canonical d) : Canonical (descriptorEntry pid h' d) := by
  unfold Machine.descriptorEntry
  split
  · exact h
  · exact .ite h.upd.enterDesc h

theorem Canonical.modTrace {pid f} (h : Canonical d) : Canonical (d.modTrace pid f) := by
  unfold Dev.modTrace
  split
  · split
    · exact h.setPkt
    · exact h
  · exact h

theorem Canonical.popHead {e v c} (h : Canonical d) : Canonical (d.popHead e v c) :=
  .modTrace (.count (.syncQueue (.prefetch (.setQueue (.ite h h.upd)))))

theorem Canonical.takeCredit {p v n} (h : Canonical d) : Canonical (d.takeCredit p v n) := h.setLink.wrSat

theorem Canonical.startHead {e v c} (h : Canonical d) : Canonical (d.startHead e v c) := by
  unfold Dev.startHead
  split
  · exact h
  · exact .ite (.ite h.setPkt.popHead.takeCredit.modLink h.setPkt.popHead.takeCredit.modLink) h.setPkt.popHead.upd

theorem Canonical.markDone {pid h'} (h : Canonical d) : Canonical (d.markDone pid h') := by
  unfold Dev.markDone
  split
  · exact h
  · exact .ite h.setPkt h

theorem Canonical.takeAt {x pid tgt s y} (h : Canonical d) (hx : d.takeAt x pid tgt = some (s, y, e)) :
    Canonical e := by
  unfold Dev.takeAt at hx
  split at hx
  · cases hx
  · split at hx
    · cases hx
    · cases hx
      exact h.upd

theorem Canonical.takeWhole {x pid tgt s y} (h : Canonical d) (hx : d.takeWhole x pid tgt = some (s, y, e)) :
    Canonical e := by
  unfold Dev.takeWhole at hx
  split at hx
  · split at hx
    · cases hx
      exact h.takeAt ‹_›
    · cases hx
  · cases hx

theorem Canonical.schedulerPacketStart {e} (h : Canonical d) : Canonical (schedulerPacketStart e d) := by
  unfold Machine.schedulerPacketStart
  split
  · exact h
  · split
    · exact h
    · split
      · exact h
      · exact h.startHead

theorem Canonical.pennantSlot {p} (h : Canonical d) : Canonical (pennantSlot p d) := by
  unfold Machine.pennantSlot
  split
  · exact h
  · split
    · exact h
    · split
      · exact h
      · split
        · exact h
        · exact h.startHead.modLink

theorem Canonical.shaperRefill {p v} (h : Canonical d) : Canonical (shaperRefill p v d) := .ite h.setQueue.syncQueue h

theorem Canonical.holderGone {pid h' loc} (h : Canonical d) : Canonical (d.holderGone pid h' loc) := by
  unfold Dev.holderGone
  split
  · exact .ite h.release.retryOut h
  · split
    · exact h
    · split
      · exact h.faultEvent.set.upd.syncPool
      · exact h.faultEvent.set

theorem Canonical.bufferEccUncorrectable {pid flit bad} (h : Canonical d) :
    Canonical (bufferEccUncorrectable pid flit bad d) := by
  unfold Machine.bufferEccUncorrectable
  split
  · exact h
  · exact .ite h h.faultEvent.set.setPkt.stompPkt

theorem Canonical.ageingTick {e v} (h : Canonical d) : Canonical (ageingTick e v d) :=
  .ite (.ite h.setQueue.faultEvent.flushQueue h.setQueue) h

theorem Canonical.flushRecordRoom {e v} (h : Canonical d) : Canonical (flushRecordRoom e v d) := h.takeMarked

theorem Canonical.popRecord {q r} (h : Canonical d) : Canonical (d.popRecord q r) := h.upd.histRecord.count

theorem Canonical.sendFail {q r hs} (h : Canonical d) : Canonical (d.sendFail q r hs) := by
  unfold Dev.sendFail
  split
  · exact .ofPair ‹_› h.storePkt
  · exact .each (.ofPair ‹_› h.storePkt) Canonical.enterDesc

theorem Canonical.failureRecordIssue {q} (h : Canonical d) : Canonical (failureRecordIssue q d) := by
  unfold Machine.failureRecordIssue
  split
  · exact h
  · split
    · exact h.popRecord.emit
    · split
      · exact h.popRecord
      · split
        · exact h
        · split
          · exact h.popRecord.sendFail
          · extract_lets +onlyGivenNames _ d1
            have h1 : Canonical d1 := h.popRecord.countRoute
            split
            · exact h1.set
            · exact h1.emit
            · exact h1.sendFail
            · exact h1

/-! ### Machine/Link -/

theorem Canonical.waking {e v f} (h : Canonical d) (hf : ∀ {e}, Canonical e → Canonical (f e)) :
    Canonical (d.waking e v f) :=
  .ite (.syncQueue (.setQueue (hf h))) (hf h)

theorem Canonical.wakingAll {e f} (h : Canonical d) (hf : ∀ {e}, Canonical e → Canonical (f e)) :
    Canonical (d.wakingAll e f) :=
  .each (hf h) fun h => .ite h.setQueue.syncQueue h

theorem Canonical.linkErr {p f} (h : Canonical d) : Canonical (d.linkErr p f) := h.set.count

theorem Canonical.takeAck {p a} (h : Canonical d) : Canonical (d.takeAck p a) := .ite h.setLink h

theorem Canonical.takeCum {p v cum} (h : Canonical d) : Canonical (d.takeCum p v cum) :=
  .ite h (h.waking fun h => h.setLink.wrSat)

theorem Canonical.nakOnce {p} (h : Canonical d) : Canonical (d.nakOnce p) := .ite h h.setLink.count

theorem Canonical.scheduleAck {p} (h : Canonical d) : Canonical (d.scheduleAck p) := h.modLink

theorem Canonical.replayAt {p s} (h : Canonical d) : Canonical (d.replayAt p s) := h.takeAck.modLink

theorem Canonical.failedFlit {p} (h : Canonical d) : Canonical (d.failedFlit p) := h.linkErr.count

theorem Canonical.capCredit {pid got} (h : Canonical d) : Canonical (d.capCredit pid got) := by
  unfold Dev.capCredit
  split
  · exact h
  · split
    · exact h
    · exact h.setRing

theorem Canonical.dropArrival {p v seq} (h : Canonical d) : Canonical (d.dropArrival p v seq) := by
  unfold Dev.dropArrival
  split
  · exact h
  · exact h.upd.returnCredit

theorem Canonical.abandonOpen {p v reason} (h : Canonical d) : Canonical (d.abandonOpen p v reason) := by
  unfold Dev.abandonOpen
  extract_lets +onlyGivenNames _
  split
  · exact h
  · extract_lets +onlyGivenNames _
    split
    · exact h.setLink
    · split
      · exact h.setLink.capCredit.stompPkt
      · exact h.setLink.dropArrival.record

theorem Canonical.framing {p f} (h : Canonical d) : Canonical (d.framing p f) := by
  unfold Dev.framing
  extract_lets +onlyGivenNames _ _ _ d1
  have h1 : Canonical d1 := by
    unfold d1
    split
    · exact h.linkErr.returnCredit.abandonOpen.abandonOpen
    · exact h.linkErr.returnCredit.abandonOpen
  refine .enterResync ?_
  split
  · exact h1
  · exact .ite (.ite h1.record h1.record.modLink) h1.record.modLink

theorem Canonical.ilvTest {p k} (h : Canonical d) : Canonical (d.ilvTest p k) := by
  unfold Dev.ilvTest
  extract_lets +onlyGivenNames _
  split
  · exact h
  · split
    · exact h
    · exact .ite h (.ite h.setLink.linkErr h.setLink)

theorem Canonical.openPacket {p f k} (h : Canonical d) : Canonical (d.openPacket p f k) :=
  .ite h.ilvTest.buntPacket.upd h.ilvTest.buntPacket.upd.modLink

theorem Canonical.closeOpen {p v} (h : Canonical d) : Canonical (d.closeOpen p v) := h.modLink

theorem Canonical.stompEnd {p f o} (h : Canonical d) : Canonical (d.stompEnd p f o) := by
  unfold Dev.stompEnd
  extract_lets +onlyGivenNames d1
  have h1 : Canonical d1 := h.linkErr.closeOpen
  split
  · exact h1.returnCredit
  · split
    · exact h1.dropArrival.returnCredit
    · split
      · exact h1.returnCredit
      · refine .stompAll ?_
        split
        · exact h1.returnCredit
        · exact h1.capCredit

theorem Canonical.storeFlit {p v pid} (h : Canonical d) : Canonical (d.storeFlit p v pid) := by
  unfold Dev.storeFlit
  split
  · exact h.returnCredit
  · refine .each ?_ (fun h => .ite h.setQueue.syncQueue h)
    split
    · exact h.setPkt.returnCredit
    · exact h.setPkt

theorem Canonical.nextFlit {p f o} (h : Canonical d) : Canonical (d.nextFlit p f o) := by
  unfold Dev.nextFlit
  split
  · exact h.stompEnd
  · extract_lets +onlyGivenNames _ d1
    have h1 : Canonical d1 := .ite h.closeOpen h.modLink
    split
    · exact h1.returnCredit
    · split
      · exact h1.storeFlit
      · exact h1.upd

theorem Canonical.deliverFlit {p f} (h : Canonical d) : Canonical (d.deliverFlit p f) := by
  unfold Dev.deliverFlit
  extract_lets +onlyGivenNames _
  split
  · exact h.framing
  · split
    · exact .ite h.buntPacket.linkErr.returnCredit h.openPacket
    · split
      · exact h.nextFlit
      · exact h

theorem Canonical.receiveData {p f} (h : Canonical d) : Canonical (d.receiveData p f) := by
  unfold Dev.receiveData
  extract_lets +onlyGivenNames _ _ d1
  have h1 : Canonical d1 := .ite h.takeAck.takeCum h.takeAck
  exact .ite h1.linkErr.enterResync (.ite h1.linkErr.count.scheduleAck (.ite h1.linkErr.nakOnce (.ite
    h1.linkErr.nakOnce h1.setLink.wrSat.count.scheduleAck.deliverFlit)))

theorem Canonical.dataFlitReceived {p f} (h : Canonical d) : Canonical (dataFlitReceived p f d) :=
  .ite h (.ite h.modLink h.receiveData)

theorem Canonical.failedFlitCommand {p} (h : Canonical d) : Canonical (Machine.failedFlit p d) :=
  .ite h (.ite h.failedFlit h.failedFlit.modLink.nakOnce)

theorem Canonical.reservedFlitKind {p byte0} (h : Canonical d) : Canonical (reservedFlitKind p byte0 d) :=
  .ite h (.ite (.ite h h.failedFlitCommand) (.ite h.linkErr h))

theorem Canonical.lcfReceived {p f} (h : Canonical d) : Canonical (lcfReceived p f d) := by
  unfold Machine.lcfReceived
  split
  · exact h
  · extract_lets +onlyGivenNames _ d1
    have h1 : Canonical d1 := h.takeAck.each Canonical.takeCum
    exact .ite h1 (.ite h1.replayAt h1.enterResync)

theorem Canonical.linkAuthReceived {p firstSeq cnt ok} (h : Canonical d) :
    Canonical (linkAuthReceived p firstSeq cnt ok d) := by
  unfold Machine.linkAuthReceived
  extract_lets +onlyGivenNames _
  split
  · exact h
  · extract_lets +onlyGivenNames _ _ d1
    have h1 : Canonical d1 := h.setLink.syncPdata
    exact .ite (h1.each fun h => .ite h.receiveData h) (.ite h1.set.nakOnce h1.set)

theorem Canonical.admitPort {p} (h : Canonical d) : Canonical (d.admitPort p) :=
  .ite h (.syncPdata (.syncExcl (.each (.recordNew (.upd (.modLink (h.wakingAll Canonical.set))))
    Canonical.returnCredit)))

theorem Canonical.linkUpPhy {p} (h : Canonical d) : Canonical (d.linkUpPhy p) := h.wr.wr.wr.modLink.setLinkState

theorem Canonical.sendSpdm {p req code tag} (h : Canonical d) : Canonical (d.sendSpdm p req code tag) :=
  h.upd.sendPort

theorem Canonical.attBegin {p} (h : Canonical d) : Canonical (d.attBegin p) :=
  .syncPdata (.ite h.modLink.sendSpdm h.modLink)

theorem Canonical.enterUp {p} (h : Canonical d) : Canonical (d.enterUp p) := by
  unfold Dev.enterUp
  extract_lets +onlyGivenNames _ _ _ _ d1
  have h1 : Canonical d1 := by
    unfold d1
    split
    · exact h.wrSat
    · exact h
  exact .ite (.attBegin (.returnCredit (.setLinkState (.each (h1.wrSat.setLink.each fun h => h.wrSat.wrSat)
    Canonical.setQueue)))) (.returnCredit (.setLinkState (.each (h1.wrSat.setLink.each fun h => h.wrSat.wrSat)
    Canonical.setQueue)))

theorem Canonical.toNegotiate {p} (h : Canonical d) : Canonical (d.toNegotiate p) := h.setLinkState.wr.wr.modLink

theorem Canonical.noteNeg {p f} (h : Canonical d) : Canonical (d.noteNeg p f) := h.wr.setLink

theorem Canonical.agree {p v maxOut} (h : Canonical d) : Canonical (d.agree p v maxOut) := h.wr.wr.wr

theorem Canonical.resyncFrom {p f} (h : Canonical d) : Canonical (d.resyncFrom p f) := by
  unfold Dev.resyncFrom
  exact .ite h.modLink.replayAt.modLink.setLinkState h.toNegotiateLost

theorem Canonical.negFlitReceived {p f} (h : Canonical d) : Canonical (negFlitReceived p f d) := by
  have hn := h.noteNeg (p := p) (f := f)
  unfold Machine.negFlitReceived
  refine .ite h (.ite (.ite hn ?_) (.ite (.ite (.ite hn.enterUp hn.toNegotiate) (.ite hn.toNegotiate hn))
    (.ite hn.toNegotiateLost (.ite hn (.ite hn.enterResync hn.resyncFrom)))))
  split
  · exact hn.agree.modLink.setLinkState
  · exact .ite hn.linkErr hn.linkErr.modLink.faultEvent

theorem Canonical.ackHoldExpiry {p} (h : Canonical d) : Canonical (ackHoldExpiry p d) := by
  unfold Machine.ackHoldExpiry
  extract_lets +onlyGivenNames _
  split
  · exact .ite h.setLink h
  · exact h

theorem Canonical.lcfPeriodic {p} (h : Canonical d) : Canonical (lcfPeriodic p d) := .ite h.setLink h

theorem Canonical.creditReportDue {p v} (h : Canonical d) : Canonical (creditReportDue p v d) := .ite h.setLink h

theorem Canonical.nakHoldoffExpiry {p} (h : Canonical d) : Canonical (nakHoldoffExpiry p d) := .ite h.setLink h

theorem Canonical.replayTimeout {p} (h : Canonical d) : Canonical (replayTimeout p d) := by
  unfold Machine.replayTimeout
  extract_lets +onlyGivenNames _
  split
  · exact h
  · exact .ite (.ite h.enterResync h.setLink) h

theorem Canonical.negFlitTimer {p} (h : Canonical d) : Canonical (negFlitTimer p d) := .ite h.setLink h

theorem Canonical.confirmTimeout {p} (h : Canonical d) : Canonical (confirmTimeout p d) := .ite h.toNegotiate h

theorem Canonical.resyncTimeout {p} (h : Canonical d) : Canonical (resyncTimeout p d) := by
  unfold Machine.resyncTimeout
  exact .ite h.toNegotiateLost h

theorem Canonical.timeWordTimer {p} (h : Canonical d) : Canonical (timeWordTimer p d) := .ite h.setLink.sendHaly h

theorem Canonical.pauseExpiry {p} (h : Canonical d) : Canonical (pauseExpiry p d) := by
  unfold Machine.pauseExpiry
  exact h.wakingAll fun h => .modLink (h.each Canonical.wrBit)

theorem Canonical.sendHalyBlock {p} (h : Canonical d) : Canonical (d.sendHalyBlock p) :=
  h.setLink.each fun h => h.emit.buntHaly

theorem Canonical.sendLcf {p} (h : Canonical d) : Canonical (d.sendLcf p) := h.setLink.count.emit

theorem Canonical.emitData {p t} (h : Canonical d) : Canonical (d.emitData p t) := h.setLink.emit

theorem Canonical.sendNew {p k ing vc sop eop stomp} (h : Canonical d) :
    Canonical (d.sendNew p k ing vc sop eop stomp) :=
  .count (.count (.emitData (.ite h.setLink.buntPacket h.setLink)))

theorem Canonical.sendReplay {p s} (h : Canonical d) : Canonical (d.sendReplay p s) := by
  unfold Dev.sendReplay
  extract_lets +onlyGivenNames _ _
  split
  · exact h.setLink
  · exact h.setLink.emitData.count

theorem Canonical.traceSent {pid} (h : Canonical d) : Canonical (d.traceSent pid) := h.modTrace

theorem Canonical.sendStreamer {p o} (h : Canonical d) : Canonical (d.sendStreamer p o) :=
  .ite (.ite h.setLink.wrSat.release.modLink h.sendNew.setLink.wrSat.release.modLink) (.ite
    h.sendNew.modLink.traceSent.markDone h.sendNew.modLink)

theorem Canonical.sendPennant {p t} (h : Canonical d) : Canonical (d.sendPennant p t) :=
  h.modLink.sendNew.traceSent.markDone

theorem Canonical.sendNeg {p} (h : Canonical d) : Canonical (d.sendNeg p) := h.setLink.emit

theorem Canonical.slotUsed {p b} (h : Canonical d) : Canonical (d.slotUsed p b) := h.modLink

theorem Canonical.sendData {p} (h : Canonical d) (hx : d.sendData p = some e) : Canonical e := by
  unfold Dev.sendData at hx
  extract_lets l at hx
  split at hx
  · cases hx
  · split at hx
    · cases hx
      exact h.sendReplay
    · split at hx
      · cases hx
      · split at hx
        · cases hx
          exact h.sendPennant
        · split at hx
          · split at hx
            · cases hx
              exact h.sendStreamer
            · cases hx
          · cases hx

theorem Canonical.transmitBlockSlot {p} (h : Canonical d) : Canonical (transmitBlockSlot p d) := by
  unfold Machine.transmitBlockSlot
  extract_lets +onlyGivenNames _ _
  split
  · exact .ite h.emit h
  · split
    · exact h.setLink.sendHalyBlock.slotUsed
    · split
      · exact h.setLink.emit.slotUsed
      · split
        · exact h.sendLcf.slotUsed
        · split
          · exact h.sendHalyBlock.slotUsed
          · split
            · exact h.sendNeg.slotUsed
            · split
              · exact .slotUsed (h.sendData ‹_›)
              · exact h.emit.slotUsed

/-! ### Machine/Lanes -/

theorem Canonical.lwr {f v x} (h : Canonical d) : Canonical (d.lwr f v x) := h.wr

theorem Canonical.setLaneState {x st} (h : Canonical d) : Canonical (d.setLaneState x st) := h.lwr

theorem Canonical.modLane {x f} (h : Canonical d) : Canonical (d.modLane x f) := h.setLane

theorem Canonical.beginStep {x n} (h : Canonical d) : Canonical (d.beginStep x n) := h.lwr.modLane

theorem Canonical.advance {x st n} (h : Canonical d) : Canonical (d.advance x st n) :=
  .beginStep (.ite h h.setLaneState)

theorem Canonical.laneCount {x grp sub n} (h : Canonical d) : Canonical (d.laneCount x grp sub n) := h.count

theorem Canonical.portDown {p} (h : Canonical d) : Canonical (d.portDown p) :=
  .linkDown (h.setPort.each Canonical.lwr)

theorem Canonical.checkPort {p} (h : Canonical d) : Canonical (d.checkPort p) := .ite h.portDown h

theorem Canonical.startBringup {x} (h : Canonical d) : Canonical (d.startBringup x) :=
  .ite h.modLane.lwr.setLaneState.beginStep h.modLane.lwr.wr.wr.setLaneState.beginStep

theorem Canonical.failLane {x cause} (h : Canonical d) : Canonical (d.failLane x cause) :=
  h.lwr.laneCount.faultEvent.setLaneState.modLane.emit.checkPort

theorem Canonical.failStep {x cause event} (h : Canonical d) : Canonical (d.failStep x cause event) :=
  .ite h.modLane (.ite (.modLane (.ite h.lwr.setLaneState h)) (.emit (.modLane (.ite
    h.lwr.laneCount.setLaneState.faultEvent h.lwr.laneCount.setLaneState))))

theorem Canonical.lossOf {x cause} (h : Canonical d) : Canonical (d.lossOf x cause) :=
  .ite h.failLane (.ite h.failStep h)

theorem Canonical.laserLow {e input} (h : Canonical d) : Canonical (laserLow e input d) :=
  .ite (.ite (h.faultEvent.set.set.each Canonical.lossOf) h.faultEvent.set.set) h

theorem Canonical.laserInputRestored {e input power} (h : Canonical d) :
    Canonical (laserInputRestored e input power d) :=
  .ite h.clr.wrSat h

theorem Canonical.laneBringupStart {x} (h : Canonical d) : Canonical (laneBringupStart x d) := .ite h.startBringup h

theorem Canonical.laneRingLock {x} (h : Canonical d) : Canonical (laneRingLock x d) := .ite h.advance.modLane.emit h

theorem Canonical.laneLightDetected {x} (h : Canonical d) : Canonical (laneLightDetected x d) := .ite h.advance h

theorem Canonical.laneCdrLock {x} (h : Canonical d) : Canonical (laneCdrLock x d) := .ite h.advance h

theorem Canonical.laneFrameLock {x inv} (h : Canonical d) : Canonical (laneFrameLock x inv d) :=
  .ite h.lwr.advance (.ite h.setLaneState.modLane h)

theorem Canonical.laneEqTrained {x} (h : Canonical d) : Canonical (laneEqTrained x d) := .ite h.advance.emit h

theorem Canonical.laneQualified {x errs total} (h : Canonical d) : Canonical (laneQualified x errs total d) :=
  .ite (.ite (.ite h.setLaneState.beginStep h.setLaneState.beginStep.setPort) (.ite h.beginStep.modLane h.failStep)) h

theorem Canonical.portWidthFail {p xs} (h : Canonical d) : Canonical (d.portWidthFail p xs) :=
  .each (.setPort (.ite h h.faultEvent)) Canonical.failStep

theorem Canonical.laneIdentityCheck {p} (h : Canonical d) : Canonical (laneIdentityCheck p d) := by
  unfold Machine.laneIdentityCheck
  extract_lets +onlyGivenNames _
  split
  · exact h
  · exact .ite (.portWidthFail (h.each Canonical.failLane)) (.each (.setPort (h.each Canonical.failLane)) fun h =>
      h.lwr.beginStep)

theorem Canonical.laneAligned {p skew} (h : Canonical d) : Canonical (laneAligned p skew d) :=
  .ite h (.ite h.portWidthFail (h.each Canonical.beginStep))

theorem Canonical.checkPeer {p} (h : Canonical d) : Canonical (d.checkPeer p) :=
  .ite h.setPortRoute.faultEvent.setPortRoute.set.syncExcl h.setPortRoute

theorem Canonical.comeUp {p xs} (h : Canonical d) : Canonical (d.comeUp p xs) :=
  .checkPeer (.linkUpPhy (.wr (.setPort (h.each fun h => h.setLaneState.lwr.lwr.modLane.emit))))

theorem Canonical.portUp {p} (h : Canonical d) : Canonical (portUp p d) := .ite h.comeUp h

theorem Canonical.portUpTimer {p} (h : Canonical d) : Canonical (portUpTimer p d) := by
  unfold Machine.portUpTimer
  extract_lets +onlyGivenNames _
  split
  · exact .ite h.comeUp h
  · exact h

theorem Canonical.laneStepTimeout {x} (h : Canonical d) : Canonical (laneStepTimeout x d) := .ite h.failStep h

theorem Canonical.laneRetryTimer {x} (h : Canonical d) : Canonical (laneRetryTimer x d) := by
  unfold Machine.laneRetryTimer
  split
  · exact .ite (.ite h.beginStep.modLane h.startBringup) h
  · exact h

theorem Canonical.codewordReceived {x errs blocks} (h : Canonical d) :
    Canonical (codewordReceived x errs blocks d) := by
  unfold Machine.codewordReceived
  split
  · exact h
  · extract_lets +onlyGivenNames d1
    have h1 : Canonical d1 := by
      unfold d1
      split
      · exact h.lwr.modLane
      · exact h
    exact .ite h1.modLane.laneCount h1.modLane.laneCount

theorem Canonical.blockReceived {x byte0} (h : Canonical d) : Canonical (blockReceived x byte0 d) :=
  .ite h (.ite h.modLane.failedFlitCommand (.ite h.laneCount h))

theorem Canonical.gainRangeChange {x g} (h : Canonical d) : Canonical (gainRangeChange x g d) :=
  .ite h.modLane h.modLane

theorem Canonical.beginRetrain {x} (h : Canonical d) : Canonical (d.beginRetrain x) :=
  h.bump.laneCount.setLaneState.beginStep.lwr.wr.modLane.emit.emit

theorem Canonical.askRetrain {x} (h : Canonical d) : Canonical (d.askRetrain x) :=
  .ite h (.ite h.modLane (.ite h.lwr h.beginRetrain))

theorem Canonical.nextRetrain {p} (h : Canonical d) : Canonical (d.nextRetrain p) := by
  unfold Dev.nextRetrain
  split
  · exact h.modLane.askRetrain
  · exact h

theorem Canonical.marginMonitorWindow {x} (h : Canonical d) : Canonical (marginMonitorWindow x d) := by
  unfold Machine.marginMonitorWindow
  extract_lets +onlyGivenNames _ _ _ d1
  have h1 : Canonical d1 := h.lwr.usedFree.lwr.setLane
  exact .ite (.ite h1.modLane.askRetrain h1.modLane) h1.modLane.lwr

theorem Canonical.laneRetrainComplete {x ok} (h : Canonical d) : Canonical (laneRetrainComplete x ok d) :=
  .ite h (.ite h.setLaneState.lwr.modLane.nextRetrain (.ite h.modLane h.failLane.modLane.nextRetrain))

theorem Canonical.laneLossOfLight {x} (h : Canonical d) : Canonical (laneLossOfLight x d) :=
  .ite h.setLaneState.lwr.modLane.checkPort (.ite h h.lossOf)

theorem Canonical.laneFrameSyncLoss {x} (h : Canonical d) : Canonical (laneFrameSyncLoss x d) :=
  .ite h (.ite h.modLane h.modLane.failLane)

theorem Canonical.laneUncorrectableBurst {x} (h : Canonical d) : Canonical (laneUncorrectableBurst x d) :=
  .ite h.modLane.failLane h

theorem Canonical.ringLockLost {x} (h : Canonical d) : Canonical (ringLockLost x d) := h.lossOf

theorem Canonical.lightInStandby {x} (h : Canonical d) : Canonical (lightInStandby x d) := .ite h.set h

theorem Canonical.wakeTimeout {x} (h : Canonical d) : Canonical (wakeTimeout x d) := by
  unfold Machine.wakeTimeout
  split
  · exact .ite h.startBringup h
  · exact h

theorem Canonical.markerWordReceived {x m} (h : Canonical d) : Canonical (markerWordReceived x m d) := by
  unfold Machine.markerWordReceived
  extract_lets +onlyGivenNames _ _
  split
  · exact h
  · split
    · exact .ite h.modLane.laneCount.modLane.lossOf h.modLane.laneCount
    · extract_lets +onlyGivenNames _
      split
      · exact h.modLane.laneCount
      · extract_lets +onlyGivenNames d1
        have h1 : Canonical d1 := h.modLane.modLane
        exact .ite h1.lwr.setPort.modLane (.ite h1.lwr.setPort.modLane (.ite h1.lwr.setPort.beginRetrain (.ite
          h1.lwr.setPort.lwr.modLane.setLaneState.emit h1.lwr.setPort)))

theorem Canonical.laneBoundary {x mask} (h : Canonical d) : Canonical (d.laneBoundary x mask) :=
  .ite h.setLaneState.lwr.modLane.emit (.ite h.setLaneState.modLane.emit (.ite h.setLaneState.lwr.modLane.emit (.ite
    (.ite h.setLaneState.beginStep h) (.ite h.setLaneState h))))

theorem Canonical.endPortJob {p} (h : Canonical d) : Canonical (d.endPortJob p) := by
  unfold Dev.endPortJob
  split
  · exact h.setPort.complete
  · exact h

theorem Canonical.superframeBoundary {p} (h : Canonical d) : Canonical (superframeBoundary p d) := by
  unfold Machine.superframeBoundary
  extract_lets +onlyGivenNames _
  split
  · exact h
  · extract_lets +onlyGivenNames _ _ _ d1
    have h1 : Canonical d1 := .each (h.each Canonical.laneBoundary) Canonical.lwr
    exact .ite (.endPortJob (.checkPort (.each (.ite h1.setPort.wr h1.setPort) fun h => .ite h.emit h))) (.checkPort
      (.each (.ite h1.setPort.wr h1.setPort) fun h => .ite h.emit h))

theorem Canonical.quietLane {x dark} (h : Canonical d) : Canonical (d.quietLane x dark) :=
  .ite (.ite h.setLaneState h) (.ite h (.ite h.lwr (.ite h.modLane.emit h.setLaneState.modLane.emit)))

theorem Canonical.wakeLane {x} (h : Canonical d) : Canonical (d.wakeLane x) :=
  .ite h.lwr.modLane.emit (.ite h.setLaneState h)

theorem Canonical.portState {aseq} (h : Canonical d) : Canonical (portState aseq d) := by
  unfold Machine.portState
  split
  · exact h
  · exact .ite h (h.cmd fun h => .ite h.complete (.ite h.complete (.ite h.complete (.ite (.complete (h.setPort.each
      Canonical.wakeLane)) (.ite (.setPort (h.setPort.each Canonical.quietLane)) (.complete (.checkPort
      (h.setPort.each Canonical.quietLane))))))))

/-! ### Machine/Notices -/

theorem Canonical.takeHub {pid p s} (h : Canonical d) (hx : d.takeHub pid p = some (s, e)) : Canonical e := by
  unfold Dev.takeHub at hx
  split at hx
  · split at hx
    · cases hx
      exact (h.takeAt ‹_›).release.retryOut
    · cases hx
  · cases hx

theorem Canonical.routeNoticeRepeat {p} (h : Canonical d) : Canonical (routeNoticeRepeat p d) := by
  unfold Machine.routeNoticeRepeat
  extract_lets +onlyGivenNames _
  split
  · exact .ite h.originate.setPortRoute h
  · exact h

theorem Canonical.restoreHoldExpiry {p} (h : Canonical d) : Canonical (restoreHoldExpiry p d) := by
  unfold Machine.restoreHoldExpiry
  extract_lets +onlyGivenNames _ _
  split
  · exact .ite (.ite h.setPortRoute.originate h.setPortRoute) h
  · exact h

theorem Canonical.routeRestoreRepeat {p} (h : Canonical d) : Canonical (routeRestoreRepeat p d) := by
  unfold Machine.routeRestoreRepeat
  extract_lets +onlyGivenNames _
  split
  · exact .ite h.originate.setPortRoute h
  · exact h

theorem Canonical.setMask {rgrp port v} (h : Canonical d) : Canonical (d.setMask rgrp port v) := h.each Canonical.upd

theorem Canonical.applyNotice {n} (h : Canonical d) : Canonical (d.applyNotice n) :=
  .ite (.sendNotice (.upd (h.each fun h => .ite h.setMask h.count.set))) (h.each fun h => .ite h.setMask h.count.set)

theorem Canonical.dropNotice {port} (h : Canonical d) : Canonical (d.dropNotice port) := h.count.set

theorem Canonical.judgeNotice {n} (h : Canonical d) : Canonical (d.judgeNotice n) :=
  .ite h.dropNotice (.ite (.ite h.dropNotice h.upd) h.applyNotice)

theorem Canonical.routeNoticeReceived {pid} (h : Canonical d) : Canonical (routeNoticeReceived pid d) := by
  unfold Machine.routeNoticeReceived
  split
  · exact h
  · exact .judgeNotice (.count (h.takeHub ‹_›))

theorem Canonical.noticeHoldExpiry (h : Canonical d) : Canonical (noticeHoldExpiry d) :=
  h.upd.each Canonical.judgeNotice

theorem Canonical.syncRteStat (h : Canonical d) : Canonical d.syncRteStat := by
  unfold Dev.syncRteStat
  refine h.each fun h => ?_
  extract_lets +onlyGivenNames _ _ _
  split
  · exact h.wr.wr.wr.wr.wr.wr.wr.wr.wr
  · exact h.wr.wr.wr.wr.wr.wr.wr

theorem Canonical.recheckPeers (h : Canonical d) : Canonical d.recheckPeers :=
  h.each fun h => .ite h.setPortRoute.syncExcl h

theorem Canonical.switchBanks (h : Canonical d) : Canonical d.switchBanks :=
  .each (.each (.syncRteStat (.recheckPeers (.upd (h.each fun h => h.upd.count)))) Canonical.originate)
    Canonical.setPortRoute

theorem Canonical.quenchExpiry (h : Canonical d) : Canonical (quenchExpiry d) := h.upd

theorem Canonical.relayQuench {p w} (h : Canonical d) : Canonical (d.relayQuench p w) := by
  unfold Dev.relayQuench
  extract_lets +onlyGivenNames _ _ _ _ _
  split
  · exact h.count.set
  · extract_lets +onlyGivenNames _ _
    split
    · exact h.count.sendHaly.count
    · exact h.count.applyQuench.count
    · exact h.count.count.set
    · exact h.count.count.set

theorem Canonical.sampleWrite {q a b c} (h : Canonical d) : Canonical (d.sampleWrite q a b c) := h.upd

theorem Canonical.queueSampleTimer {q} (h : Canonical d) : Canonical (queueSampleTimer q d) :=
  .ite (.each (.ite h.upd.sampleWrite h.upd) fun h => .ite (.ite h.sampleWrite h) (.setQueue (.ite h.sampleWrite h)))
    h

/-! ### Machine/Reduce -/

theorem Canonical.setCtx {i c} (h : Canonical d) : Canonical (d.setCtx i c) := h.upd

theorem Canonical.redCount {i grp sub n} (h : Canonical d) : Canonical (d.redCount i grp sub n) :=
  h.sends (Dev.Sends.refl d).redCount

theorem Canonical.syncEngineAt {e} (h : Canonical d) : Canonical (d.syncEngineAt e) := h.wr.wr

theorem Canonical.syncEngine {i} (h : Canonical d) : Canonical (d.syncEngine i) := h.syncEngineAt

theorem Canonical.syncEngines {q} (h : Canonical d) : Canonical (d.syncEngines q) := h.each Canonical.syncEngineAt

theorem Canonical.openCtx {i w} (h : Canonical d) : Canonical (d.openCtx i w) := h.setCtx.syncEngine

theorem Canonical.freeCtx {i} (h : Canonical d) : Canonical (d.freeCtx i) := h.setCtx.syncEngine

theorem Canonical.dropInput {q pid} (h : Canonical d) : Canonical (d.dropInput q pid) := by
  unfold Dev.dropInput
  split
  · exact h
  · split
    · exact h.release
    · exact h

theorem Canonical.refuseInput {i pid reason} (h : Canonical d) : Canonical (d.refuseInput i pid reason) := by
  unfold Dev.refuseInput
  extract_lets +onlyGivenNames _ _ d1
  have h1 : Canonical d1 := .ite h.redCount.set (.ite h.redCount.set (.ite h.redCount.set h.redCount))
  split
  · exact h1
  · split
    · exact h1.failHolder
    · exact h1

theorem Canonical.sendAbort {p hops reason id origin burgee} (h : Canonical d) :
    Canonical (d.sendAbort p hops reason id origin burgee) :=
  h.sendHaly

theorem Canonical.filterAbort {key} (h : Canonical d) : Canonical (d.filterAbort key) := h.upd

theorem Canonical.originateAbort {id burgee reason} (h : Canonical d) :
    Canonical (d.originateAbort id burgee reason) :=
  h.filterAbort.count.each Canonical.sendAbort

theorem Canonical.neighbourRecs {i c via} (h : Canonical d) : Canonical (d.neighbourRecs i c via) :=
  h.each Canonical.record

theorem Canonical.abortCtx {i cause via} (h : Canonical d) : Canonical (d.abortCtx i cause via) := by
  unfold Dev.abortCtx
  extract_lets +onlyGivenNames _ _
  split
  · exact h
  · extract_lets +onlyGivenNames _ d4
    have h4 : Canonical d4 := h.setCtx.set.redCount
    extract_lets +onlyGivenNames _ _ d6
    have h6 : Canonical d6 := by
      unfold d6
      refine .each (.ite h4.faultEvent (.ite h4.faultEvent (.ite h4.faultEvent h4))) fun h => ?_
      split
      · exact h
      · split
        · exact h.failHolder
        · exact h
    extract_lets +onlyGivenNames _ _ d7
    have h7 : Canonical d7 := .ite (.originateAbort (.neighbourRecs (h6.each fun h => h.each Canonical.record)))
      (.neighbourRecs (h6.each fun h => h.each Canonical.record))
    refine .syncEngine ?_
    split
    · exact h7
    · split
      · exact h7
      · exact h7.record.upd

theorem Canonical.closeCtx {i force} (h : Canonical d) : Canonical (d.closeCtx i force).1 :=
  .iteFst h (.iteFst (.iteFst h.abortCtx.freeCtx h) h.freeCtx)

theorem Canonical.combineHeld {n i k} (h : Canonical d) : Canonical (Dev.combineHeld n d i k) := by
  induction n generalizing d with
  | zero => exact h
  | succ n ih =>
    unfold Dev.combineHeld
    extract_lets _ _ _
    split
    · exact h
    · split
      · exact h
      · exact ih h.setCtx.redCount.redCount.dropInput

theorem Canonical.takeBitmap {i n rank pid s} (h : Canonical d) : Canonical (d.takeBitmap i n rank pid s) := by
  unfold Dev.takeBitmap
  extract_lets +onlyGivenNames _ _ _ _
  split
  · exact .ite h.setCtx.redCount.dropInput h.setCtx.set.refuseInput
  · exact .ite h.setCtx.redCount.combineHeld.redCount h.setCtx.redCount.combineHeld

theorem Canonical.forwardInput {i pid s} (h : Canonical d) : Canonical (d.forwardInput i pid s) := by
  unfold Dev.forwardInput
  extract_lets +onlyGivenNames _
  split
  · exact h.refuseInput
  · split
    · exact h
    · exact h.setPkt.setCtx.redCount.enterDesc

theorem Canonical.takeInput {q pid} (h : Canonical d) : Canonical (d.takeInput q pid) := by
  unfold Dev.takeInput
  split
  · exact h
  · extract_lets +onlyGivenNames _
    split
    · exact .refuseInput (.ite h.redCount h)
    · exact .ite h.forwardInput (.ite h.setCtx.redCount.dropInput (.ite h.setCtx.redCount h.takeBitmap))

theorem Canonical.retakeDeferred {i} (h : Canonical d) : Canonical (d.retakeDeferred i) :=
  h.setCtx.each Canonical.takeInput

theorem Canonical.finishChunk {i n} (h : Canonical d) : Canonical (d.finishChunk i n) := h.setCtx.retakeDeferred

/-! ### Machine/Hoist -/

theorem Canonical.cancelEdgePauses (h : Canonical d) : Canonical d.cancelEdgePauses := h.each Canonical.sendPause

theorem Canonical.commitEnd {aseq st sect detail} (h : Canonical d) : Canonical (d.commitEnd aseq st sect detail) :=
  .complete (.ite h.wr.wr.set.bump.count h.wr.wr.count)

theorem Canonical.abandonSwitch (h : Canonical d) : Canonical d.abandonSwitch := by
  unfold Dev.abandonSwitch
  split
  · exact h
  · exact .commitEnd (.syncRteStat (h.upd.cancelEdgePauses.each Canonical.set))

theorem Canonical.makeSwitch (h : Canonical d) : Canonical d.makeSwitch := by
  unfold Dev.makeSwitch
  split
  · exact h
  · exact .commitEnd (.ite h.switchBanks.upd h.switchBanks)

theorem Canonical.opOutcome {trig code} (h : Canonical d) : Canonical (d.opOutcome trig code) := h.upd

theorem Canonical.setHoist {i h'} (h : Canonical d) : Canonical (d.setHoist i h') := h.upd

theorem Canonical.setInst {i x} (h : Canonical d) : Canonical (d.setInst i x) := h.upd

theorem Canonical.sendHoist {k p} (h : Canonical d) : Canonical (d.sendHoist k p) := h.sendPort

theorem Canonical.toChildren {x k skip} (h : Canonical d) : Canonical (d.toChildren x k skip) :=
  h.each Canonical.sendHoist

theorem Canonical.joinDone {burgee trel j} (h : Canonical d) : Canonical (d.joinDone burgee trel j) := by
  unfold Dev.joinDone
  split
  · exact h.complete
  · exact h.upd.complete
  · exact h.opOutcome
  · exact h.makeSwitch

theorem Canonical.joinFail {cause j} (h : Canonical d) : Canonical (d.joinFail cause j) := by
  unfold Dev.joinFail
  split
  · exact h.complete
  · exact h.complete
  · exact h.opOutcome
  · exact h.abandonSwitch

theorem Canonical.releaseNow {r} (h : Canonical d) : Canonical (d.releaseNow r) := by
  unfold Dev.releaseNow
  refine .each ?_ Canonical.joinDone
  split
  · exact .ite h.set.count h
  · exact .upd (.ite h.set.count h)

theorem Canonical.advanceSeq {i} (h : Canonical d) : Canonical (d.advanceSeq i) := h.setHoist.setInst.count

theorem Canonical.decideComplete {i trel} (h : Canonical d) : Canonical (d.decideComplete i trel) :=
  .ite h.count.toChildren.advanceSeq.releaseNow h.count.toChildren.advanceSeq.upd

theorem Canonical.decideFail {i cause skip} (h : Canonical d) : Canonical (d.decideFail i cause skip) :=
  .ite (.abandonSwitch (h.count.toChildren.advanceSeq.each Canonical.joinFail)) (h.count.toChildren.advanceSeq.each
    Canonical.joinFail)

theorem Canonical.settle {n i} (h : Canonical d) : Canonical (Dev.settle n d i) := by
  induction n generalizing d with
  | zero => exact h
  | succ n ih => exact .ite h (.ite (ih h.decideComplete) (.ite h h.setInst.sendHoist))

theorem Canonical.arrived {i} (h : Canonical d) : Canonical (d.arrived i) := by
  unfold Dev.arrived
  refine .settle ?_
  split
  · exact h.count
  · exact h.count.setInst

theorem Canonical.hoistJoin {id j deadline} (h : Canonical d) : Canonical (d.hoistJoin id j deadline).1 :=
  .iteFst h (.iteFst (.iteFst h h.setInst.arrived) (.iteFst (.iteFst h h.setInst) h))

theorem Canonical.takeHoist {pid opcode seqOk f} (h : Canonical d)
    (hf : ∀ {a0 a1 a2 e}, Canonical e → Canonical (f a0 a1 a2 e)) :
    Canonical (d.takeHoist pid opcode seqOk f) := by
  unfold Dev.takeHoist
  split
  · exact h
  · rename_i d1 hx
    have h1 : Canonical d1 := h.takeHub hx
    exact .ite h1.record (.ite h1.record (hf h1))

theorem Canonical.hoistArrive {pid} (h : Canonical d) : Canonical (hoistArrive pid d) :=
  h.takeHoist fun h => .ite (.ite h.upd h.setInst.arrived) (.ite h.upd h.setInst)

theorem Canonical.hoistReleaseReceived {pid} (h : Canonical d) : Canonical (hoistReleaseReceived pid d) :=
  h.takeHoist fun h => h.decideComplete.settle

theorem Canonical.hoistFailReceived {pid} (h : Canonical d) : Canonical (hoistFailReceived pid d) :=
  h.takeHoist fun h => .ite h (.ite h.decideFail.settle (.ite h h.setInst.sendHoist))

theorem Canonical.hoistReleaseTime {i} (h : Canonical d) : Canonical (hoistReleaseTime i d) := by
  unfold Machine.hoistReleaseTime
  split
  · exact h
  · exact h.upd.releaseNow

theorem Canonical.hoistDeadline {i} (h : Canonical d) : Canonical (hoistDeadline i d) :=
  .ite (.ite h.decideFail.settle (.abandonSwitch (.ite h h.setInst.sendHoist))) (.ite (.ite h.decideFail.settle (.ite
    h h.setInst.sendHoist)) h)

theorem Canonical.cutOff {i} (h : Canonical d) : Canonical (cutOff i d) := by
  unfold Machine.cutOff
  extract_lets +onlyGivenNames _ _
  split
  · exact h
  · exact .ite (.settle (h.faultEvent.set.upd.advanceSeq.each Canonical.joinFail)) h

theorem Canonical.hoistJoinCommand {aseq} (h : Canonical d) : Canonical (Machine.hoistJoin aseq d) := by
  unfold Machine.hoistJoin
  refine h.cmd fun h => ?_
  extract_lets +onlyGivenNames _
  split
  · exact h.complete
  · split
    · exact h.complete
    · split
      · exact .ofPair ‹_› h.hoistJoin
      · exact .complete (.ofPair ‹_› h.hoistJoin)

theorem Canonical.lockstepStart {aseq} (h : Canonical d) : Canonical (lockstepStart aseq d) := by
  unfold Machine.lockstepStart
  refine h.cmd fun h => ?_
  extract_lets +onlyGivenNames _
  split
  · exact h.complete
  · split
    · exact h.complete
    · split
      · exact h.complete
      · split
        · exact h.complete
        · split
          · exact .ofPair ‹_› h.hoistJoin
          · exact .complete (.ofPair ‹_› h.hoistJoin)

/-! ### Machine/ModelBase -/

theorem Canonical.setModel {s m} (h : Canonical d) : Canonical (d.setModel s m) := h.upd

theorem Canonical.syncMdlData (h : Canonical d) : Canonical d.syncMdlData := h.wr

theorem Canonical.syncModels (h : Canonical d) : Canonical d.syncModels := h.syncMdlData.wr.wr.wr.wrSat.wrSat

theorem Canonical.setSession {s i x} (h : Canonical d) : Canonical (d.setSession s i x) := h.setModel

theorem Canonical.sendRsp {ing dst burgee tag op session status nextPos made} (h : Canonical d) :
    Canonical (d.sendRsp ing dst burgee tag op session status nextPos made) :=
  h.sendOut

theorem Canonical.answerBy {ing s i tag op status made} (h : Canonical d) :
    Canonical (d.answerBy ing s i tag op status made) :=
  h.setSession.sendRsp.count

theorem Canonical.answer {s i tag op status made} (h : Canonical d) : Canonical (d.answer s i tag op status made) :=
  h.answerBy

theorem Canonical.deliver256 {s i tag flags recs} (h : Canonical d) : Canonical (d.deliver256 s i tag flags recs).1 :=
  h.setSession.sendOut.count

theorem Canonical.endGen {s i status flags} (h : Canonical d) : Canonical (d.endGen s i status flags) := by
  unfold Dev.endGen
  extract_lets +onlyGivenNames _
  split
  · exact h
  · split
    · exact .setSession (.ofPair ‹_› h.deliver256)

theorem Canonical.lateAnswers (h : Canonical d) : Canonical d.lateAnswers :=
  h.each fun h => h.each fun h => .ite (.setModel (.setSession (h.each Canonical.answerBy))) (.setSession (h.each
    Canonical.answerBy))

theorem Canonical.dropRequests {s i} (h : Canonical d) : Canonical (d.dropRequests s i) := by
  unfold Dev.dropRequests
  refine .setSession ?_
  refine .upd ?_
  split
  · exact .answer (h.each Canonical.answer)
  · exact h.each Canonical.answer

theorem Canonical.loseSession {s i} (h : Canonical d) : Canonical (d.loseSession s i) := by
  unfold Dev.loseSession
  extract_lets +onlyGivenNames _
  split
  · exact h
  · refine .setSession ?_
    split
    · exact .answer (.dropRequests (.ite h.set.endGen h.set))
    · exact .dropRequests (.ite h.set.endGen h.set)

theorem Canonical.loseSessions {s} (h : Canonical d) : Canonical (d.loseSessions s) := h.each Canonical.loseSession

theorem Canonical.modelJob {s status res} (h : Canonical d) : Canonical (d.modelJob s status res) := by
  unfold Dev.modelJob
  split
  · exact h
  · exact .complete (.ite h.setModel h.setModel.set)

theorem Canonical.freeReady {s} (h : Canonical d) : Canonical (d.freeReady s) := by
  unfold Dev.freeReady
  extract_lets +onlyGivenNames _
  split
  · exact h
  · exact h.setModel.upd

theorem Canonical.dropIncoming {s i} (h : Canonical d) : Canonical (d.dropIncoming s i) :=
  .ite h h.freeReady.setModel.modelJob

theorem Canonical.failModel {s} (h : Canonical d) : Canonical (d.failModel s) := by
  unfold Dev.failModel
  extract_lets +onlyGivenNames _
  split
  · exact h
  · refine .syncModels ?_
    refine .modelJob ?_
    refine .set ?_
    refine .setModel ?_
    split
    · exact h.loseSessions.freeReady.dropIncoming
    · exact h.loseSessions.freeReady

theorem Canonical.parkSession {s i} (h : Canonical d) : Canonical (d.parkSession s i) := h.setSession

theorem Canonical.unparkSession {s i} (h : Canonical d) : Canonical (d.unparkSession s i).1 := by
  unfold Dev.unparkSession
  extract_lets +onlyGivenNames _ _
  split
  · exact h
  · exact .setSession (h.each fun h => h.setSram (Mem.writeN_wf (h.1 _) ..))

theorem Canonical.modelReady {s} (h : Canonical d) : Canonical (d.modelReady s) :=
  .ite h (.syncModels (.modelJob (.count (.count (h.freeReady.setModel.each Canonical.unparkSession)))))

/-! ### Machine/TileBase -/

theorem Canonical.setEcc {t e} (h : Canonical d) : Canonical (d.setEcc t e) := h.upd

theorem Canonical.syncPoison {t} (h : Canonical d) : Canonical (d.syncPoison t) := h.wrSat

theorem Canonical.sramUnc {t w port scrub} (h : Canonical d) : Canonical (d.sramUnc t w port scrub) :=
  .ite h h.faultEvent.setEcc.syncPoison.count.set.set.wr.wr.wr.set

theorem Canonical.sramCorr {t w bit} (h : Canonical d) : Canonical (d.sramCorr t w bit) := .ite h h.setEcc.bump.count

theorem Canonical.sramMeet {t a n bad port} (h : Canonical d) : Canonical (d.sramMeet t a n bad port) :=
  .each (h.each Canonical.sramCorr) Canonical.sramUnc

theorem Canonical.sramWrite {t a bytes} (h : Canonical d) : Canonical (d.sramWrite t a bytes) := by
  have hpart {l : List (Nat × Nat)} {p : Nat × Nat → Bool} {m : Mem} (hm : m.wf = true) :
      (l.foldl (fun m b => if p b then m else m.writeByte (a + b.2) (BitVec.ofNat 8 b.1)) m).wf = true := by
    induction l generalizing m with
    | nil => exact hm
    | cons b l ih =>
      refine ih ?_
      dsimp only
      split
      · exact hm
      · exact Mem.writeByte_wf hm ..
  exact .ite (h.setSram (Mem.writeN_wf (h.1 t) a bytes)) (.ite (.syncPoison (.setEcc (h.setSram (hpart (h.1 t)))))
    (.set (.syncPoison (.setEcc (h.setSram (hpart (h.1 t)))))))

theorem Canonical.setTile {t x} (h : Canonical d) : Canonical (d.setTile t x) := h.upd.wr.wr.wr.wr.wr

theorem Canonical.modTile {t f} (h : Canonical d) : Canonical (d.modTile t f) := h.setTile

theorem Canonical.setTileState {t st} (h : Canonical d) : Canonical (d.setTileState t st) := h.wr

theorem Canonical.startProgram {t l} (h : Canonical d) : Canonical (d.startProgram t l) :=
  h.setTile.setTileState.count

theorem Canonical.slotWait {src a} (h : Canonical d) : Canonical (d.slotWait src a) := .ite h h.upd

theorem Canonical.startNext {t} (h : Canonical d) : Canonical (d.startNext t) := by
  unfold Dev.startNext
  extract_lets +onlyGivenNames _
  split
  · exact h
  · exact .ite h (.ite h.slotWait h.setTile.startProgram)

theorem Canonical.launch {t l} (h : Canonical d) : Canonical (d.launch t l).1 :=
  .iteFst h.set.count (.iteFst h.set.count (.iteFst h.set.count (.iteFst h.set.count h.setTile.startNext)))

theorem Canonical.launchEnds {l code} (h : Canonical d) : Canonical (d.launchEnds l code) := by
  unfold Dev.launchEnds
  split
  · exact h
  · exact h.opOutcome

theorem Canonical.endProgram {t code} (h : Canonical d) : Canonical (d.endProgram t code) := by
  unfold Dev.endProgram
  extract_lets +onlyGivenNames _
  split
  · exact h
  · refine .startNext ?_
    split
    · exact h.setTile.setTileState.launchEnds.setEcc
    · exact h.setTile.setTileState.launchEnds

theorem Canonical.performStore {t s} (h : Canonical d) : Canonical (d.performStore t s) :=
  .ite h.set.count h.sramWrite

theorem Canonical.drainStores {t} (h : Canonical d) : Canonical (d.drainStores t) := by
  unfold Dev.drainStores
  exact .modTile (h.each Canonical.performStore)

theorem Canonical.tryEnd {t} (h : Canonical d) : Canonical (d.tryEnd t) := by
  unfold Dev.tryEnd
  dsimp only
  split
  · exact h
  · refine .ite ?_ h
    split
    · exact h.endProgram.failModel
    · exact h.endProgram

theorem Canonical.raiseExc {t cause eaddr einfo} (h : Canonical d) : Canonical (d.raiseExc t cause eaddr einfo) := by
  unfold Dev.raiseExc
  extract_lets +onlyGivenNames d1
  have h1 : Canonical d1 := h.drainStores.count
  exact .ite (.tryEnd (.setTile (.ite h1.wr.wr.set.wr.wr.wr.set.set h1.wr.wr.set.wr.wr.wr.set))) h1.setTile

theorem Canonical.rxPut {t serve bytes} (h : Canonical d) (hx : d.rxPut t serve bytes = some e) : Canonical e := by
  unfold Dev.rxPut at hx
  extract_lets _ _ _ _ at hx
  split at hx
  · cases hx
  · cases hx
    exact h.sramWrite.modTile

/-! ### Machine/Region -/

theorem Canonical.setStack {q s} (h : Canonical d) : Canonical (d.setStack q s) := h.upd

theorem Canonical.hbmWrite {q a bytes} (h : Canonical d) : Canonical (d.hbmWrite q a bytes) :=
  have hw := h.setHbm (Mem.writeN_wf (h.2 q) a bytes)
  .ite hw.setStack hw

theorem Canonical.memWrite {tgt a bytes} (h : Canonical d) : Canonical (d.memWrite tgt a bytes) :=
  .ite h.sramWrite h.hbmWrite

/-! ### Machine/Buf -/

theorem Canonical.bufOut {j b bytes status res detail} (h : Canonical d) :
    Canonical (d.bufOut j b bytes status res detail) := by
  unfold Dev.bufOut
  extract_lets +onlyGivenNames _
  split
  · exact h.complete
  · split
    · split
      · exact h.complete
      · exact h.memWrite.complete
    · exact .ite h.emit.modJob h.complete

/-! ### Machine/StoreBase -/

theorem Canonical.modStore {f} (h : Canonical d) : Canonical (d.modStore f) := h.upd

theorem Canonical.setNblock {t b x} (h : Canonical d) : Canonical (d.setNblock t b x) := h.modStore

theorem Canonical.syncStore (h : Canonical d) : Canonical d.syncStore :=
  .ite (.set (.wrSat (.wrSat (.wrSat (.wr (.wrSat (.wrSat (.wrSat (.wr (.ite h.wr.set (.ite h.wr h))))))))))) (.wrSat
    (.wrSat (.wrSat (.wr (.wrSat (.wrSat (.wrSat (.wr (.ite h.wr.set (.ite h.wr h))))))))))

theorem Canonical.setObj {h' o} (h : Canonical d) : Canonical (d.setObj h' o) := h.modStore

theorem Canonical.addJob {j} (h : Canonical d) : Canonical (d.addJob j) := h.modStore

theorem Canonical.setJob {j} (h : Canonical d) : Canonical (d.setJob j) := h.modStore

theorem Canonical.delJob {id} (h : Canonical d) : Canonical (d.delJob id) := h.modStore

theorem Canonical.storeRefused {s} (h : Canonical d) : Canonical (d.storeRefused s) := h.record.set

theorem Canonical.jobOver {j} (h : Canonical d) : Canonical (d.jobOver j) := by
  unfold Dev.jobOver
  split
  · exact h.delJob.modJob
  · exact h.delJob.opOutcome
  · exact h.delJob.release.retryOut
  · exact h.setJob
  · exact h.setJob
  · exact h.setJob
  · exact h.setJob

theorem Canonical.jobFail {j status} (h : Canonical d) : Canonical (d.jobFail j status) := by
  unfold Dev.jobFail
  split
  · exact h.delJob.modJob
  · exact h.delJob.opOutcome
  · split
    · exact h.delJob
    · exact h.delJob.storeRefused.release.retryOut
  · exact h.setJob
  · exact h.setJob
  · exact h.setJob
  · exact h.setJob

theorem Canonical.accept (h : Canonical d) : Canonical d.accept := h.each fun h => h.count.jobOver

theorem Canonical.programOn {units metas} (h : Canonical d) (hx : d.programOn units metas = some e) : Canonical e :=
    by
  unfold Dev.programOn at hx
  extract_lets +onlyGivenNames _ at hx
  split at hx
  · cases hx
  · extract_lets +onlyGivenNames _ at hx
    split at hx
    · cases hx
    · cases hx
      exact .ite h.setNblock.modStore.count.count h.setNblock.modStore.count

theorem Canonical.issue {n pad} (h : Canonical d) : Canonical (Dev.issue n d pad) := by
  induction n generalizing d with
  | zero => exact h
  | succ n ih =>
    unfold Dev.issue
    extract_lets +onlyGivenNames _ _
    split
    · exact h
    · extract_lets +onlyGivenNames _ _
      split
      · exact h
      · exact ih (h.programOn ‹_›).modStore.modStore.accept

theorem Canonical.assemble {us ms} (h : Canonical d) : Canonical (d.assemble us ms) := .ite h h.modStore.issue

theorem Canonical.metaRecord {aseq} (h : Canonical d) : Canonical (d.metaRecord aseq) := h.modJob.assemble

theorem Canonical.objWrite {h' off bytes} (h : Canonical d) : Canonical (d.objWrite h' off bytes) := by
  unfold Dev.objWrite
  split
  · exact h
  · exact h.setObj.assemble

theorem Canonical.eraseEmpty (h : Canonical d) : Canonical d.eraseEmpty := h.modStore

theorem Canonical.dropUnits {h'} (h : Canonical d) : Canonical (d.dropUnits h') := h.modStore.eraseEmpty

theorem Canonical.wakeStore (h : Canonical d) : Canonical d.wakeStore := .ite h.wr.modStore.syncStore h

theorem Canonical.startWrite {src h' off len tgt addr data} (h : Canonical d) :
    Canonical (d.startWrite src h' off len tgt addr data).1 :=
  .iteFst h.wakeStore (.iteFst h.wakeStore (.iteFst h.wakeStore (.iteFst h.wakeStore h.wakeStore.addJob.accept)))

theorem Canonical.startRead {src h' off len tgt addr} (h : Canonical d) :
    Canonical (d.startRead src h' off len tgt addr) :=
  h.addJob

theorem Canonical.stopStore (h : Canonical d) : Canonical d.stopStore := by
  unfold Dev.stopStore
  extract_lets +onlyGivenNames _ _ _ _ d1
  have h1 : Canonical d1 := by
    unfold d1
    split
    · exact .complete (.modStore (.each (.modStore (h.each Canonical.jobFail)) Canonical.complete))
    · exact .each (.modStore (h.each Canonical.jobFail)) Canonical.complete
  split
  · exact h1.modStore.complete
  · exact h1

theorem Canonical.dropPrograms (h : Canonical d) : Canonical d.dropPrograms := h.modStore.each Canonical.complete

/-! ### Machine/Store -/

theorem Canonical.storeDiscovered {ts} (h : Canonical d) : Canonical (d.storeDiscovered ts) :=
  .syncStore (.modStore (.ite (.modStore (.set (.wr (.modStore (h.each fun h => h.wr.wr))))) (.clr (.wr (.modStore
    (h.each fun h => h.wr.wr))))))

theorem Canonical.rebuildComplete (h : Canonical d) : Canonical (rebuildComplete d) :=
  .ite h (.ite h.modStore.wr.syncStore.faultEvent h.modStore.wr.syncStore.modStore)

theorem Canonical.mapCheckpoint (h : Canonical d) : Canonical (mapCheckpoint d) := .ite h.modStore h

theorem Canonical.refreshBlock {t b cause} (h : Canonical d) : Canonical (d.refreshBlock t b cause) :=
  .ite h.setNblock.count h

theorem Canonical.unrecoverable {h' u t b} (h : Canonical d) : Canonical (d.unrecoverable h' u t b) := by
  unfold Dev.unrecoverable
  refine .setNblock ?_
  split
  · exact h.faultEvent.set.setObj
  · exact h.faultEvent.set

theorem Canonical.unitRead {h' u t b step heavy scan} (h : Canonical d) :
    Canonical (d.unitRead h' u t b step heavy scan) := by
  unfold Dev.unitRead
  extract_lets +onlyGivenNames _ _
  split
  · exact h.setNblock.unrecoverable
  · extract_lets +onlyGivenNames d1
    have h1 : Canonical d1 := h.setNblock.count
    exact .ite h1.refreshBlock (.ite h1.refreshBlock h1)

theorem Canonical.deliverUnit {j u} (h : Canonical d) : Canonical (d.deliverUnit j u) := by
  unfold Dev.deliverUnit
  split
  · exact h
  · extract_lets +onlyGivenNames _ _ _ _ _ d1
    have h1 : Canonical d1 := by
      unfold d1
      split
      · exact h.count.memWrite.setJob
      · exact h.count.setJob
    split
    · exact h1
    · split
      · exact h1
      · split
        · exact h1.emit.modJob.jobOver
        · exact h1.jobOver

theorem Canonical.unitReadComplete {h' u step heavy} (h : Canonical d) :
    Canonical (unitReadComplete h' u step heavy d) := by
  unfold Machine.unitReadComplete
  extract_lets +onlyGivenNames _
  split
  · exact h
  · exact h
  · exact .ite (h.unitRead.each Canonical.jobFail) (h.unitRead.each Canonical.deliverUnit)

theorem Canonical.retentionScan {t b i step heavy} (h : Canonical d) :
    Canonical (retentionScan t b i step heavy d) := by
  unfold Machine.retentionScan
  extract_lets +onlyGivenNames _ _
  split
  · exact h
  · exact .ite h.setNblock.unitRead h

theorem Canonical.programComplete {id ok} (h : Canonical d) : Canonical (programComplete id ok d) := by
  unfold Machine.programComplete
  split
  · exact h
  · extract_lets +onlyGivenNames _
    split
    · refine .syncStore ?_
      refine .eraseEmpty ?_
      refine .each ?_ Canonical.modJob
      refine h.modStore.each fun h => ?_
      split
      · exact h.setObj
      · exact h
    · extract_lets +onlyGivenNames d1
      have h1 : Canonical d1 := h.modStore.faultEvent.set
      extract_lets +onlyGivenNames _ _
      split
      · exact .syncStore (h1.setNblock.each Canonical.complete)
      · refine .syncStore ?_
        split
        · exact h1.setNblock.programOn ‹_›
        · exact h1.setNblock.assemble

theorem Canonical.levelWear (h : Canonical d) : Canonical d.levelWear := by
  unfold Dev.levelWear
  extract_lets +onlyGivenNames _ _
  split
  · exact h
  · exact .ite h.setNblock.count h

theorem Canonical.eraseComplete {t b ok} (h : Canonical d) : Canonical (eraseComplete t b ok d) :=
  .ite h (.ite h.setNblock.levelWear.syncStore h.faultEvent.set.setNblock.count.syncStore)

theorem Canonical.blockRefreshComplete {t b} (h : Canonical d) : Canonical (blockRefreshComplete t b d) := by
  unfold Machine.blockRefreshComplete
  dsimp only
  split
  · exact h
  · split
    · exact h
    · exact .ite h.setNblock.modStore.setNblock.syncStore h.setNblock.modStore.setNblock.count.syncStore

theorem Canonical.targetTimeout {t} (h : Canonical d) : Canonical (targetTimeout t d) := by
  unfold Machine.targetTimeout
  split
  · exact h
  · refine .syncStore ?_
    refine .assemble ?_
    refine .each ?_ (fun h => .ite h.jobFail h)
    refine h.faultEvent.set.wrBit.modStore.each fun h => ?_
    split
    · exact h.setObj
    · exact h

theorem Canonical.storeDataArrival {id n} (h : Canonical d) : Canonical (storeDataArrival id n d) := by
  unfold Machine.storeDataArrival
  split
  · exact h
  · exact .ite h (.ite h.jobFail h.setJob.objWrite.accept)

theorem Canonical.fillToExpiry (h : Canonical d) : Canonical (fillToExpiry d) := by
  unfold Machine.fillToExpiry
  split
  · exact h
  · exact .ite h.issue.syncStore h

theorem Canonical.absorbResultReceived {pid} (h : Canonical d) : Canonical (absorbResultReceived pid d) := by
  unfold Machine.absorbResultReceived
  split
  · exact h
  · rename_i d1 hx
    have h1 : Canonical d1 := h.takeWhole hx
    extract_lets +onlyGivenNames _ _
    split
    · exact h1.storeRefused.release.retryOut
    · split
      · exact .ofPair ‹_› h1.startWrite
      · exact .retryOut (.release (.storeRefused (.ofPair ‹_› h1.startWrite)))

theorem Canonical.ageResults (h : Canonical d) : Canonical d.ageResults := by
  unfold Dev.ageResults
  extract_lets +onlyGivenNames _ _
  split
  · exact h
  · refine h.faultEvent.each fun h => ?_
    split
    · exact h.delJob.failHolder.retryOut
    · exact h

theorem Canonical.ageTick {e v} (h : Canonical d) : Canonical (ageTick e v d) :=
  .ite h.ageingTick.ageResults h.ageingTick

theorem Canonical.storeCmd {aseq op f} (h : Canonical d) (hf : ∀ {a0 e}, Canonical e → Canonical (f a0 e)) :
    Canonical (d.storeCmd aseq op f) :=
  .ite h (h.cmd fun h => .ite h.complete (hf h.wakeStore))

theorem Canonical.storeFormat {aseq} (h : Canonical d) : Canonical (storeFormat aseq d) :=
  h.cmd fun h => .ite h.complete (.ite h.complete (.syncStore (.wr (.modStore (h.each Canonical.jobFail)))))

theorem Canonical.storeStat {aseq} (h : Canonical d) : Canonical (storeStat aseq d) :=
  h.cmd fun h => .ite h.complete h.wakeStore.complete

theorem Canonical.storeQuiesce {aseq} (h : Canonical d) : Canonical (storeQuiesce aseq d) :=
  h.storeCmd fun h => h.issue.modStore.each Canonical.jobFail

theorem Canonical.objCreate {aseq} (h : Canonical d) : Canonical (objCreate aseq d) := by
  unfold Machine.objCreate
  refine h.storeCmd fun h => ?_
  dsimp only
  split
  · exact h.complete
  · split
    · exact h.complete
    · split
      · exact h.complete
      · split
        · exact h.complete
        · split
          · exact h.complete
          · exact h.modStore.modJob.metaRecord.syncStore

theorem Canonical.objWriteCommand {aseq} (h : Canonical d) : Canonical (Machine.objWrite aseq d) := by
  unfold Machine.objWrite
  split
  · exact h
  · refine .ite h (h.storeCmd fun h => ?_)
    dsimp only
    split
    · exact h.complete
    · refine .ite h.complete (.ite h.complete ?_)
      split
      · exact h.complete
      · split
        · exact .ofPair ‹_› h.modJob.startWrite
        · exact .complete (.ofPair ‹_› h.modJob.startWrite)

theorem Canonical.objRead {aseq} (h : Canonical d) : Canonical (objRead aseq d) := by
  unfold Machine.objRead
  refine h.storeCmd fun h => ?_
  dsimp only
  split
  · exact h.complete
  · refine .ite h.complete (.ite h.complete (.ite h.complete ?_))
    split
    · exact h.complete
    · exact .ite h.complete (.ite h.complete (.ite h.modJob.startRead h.modJob.startRead))

theorem Canonical.objSeal {aseq} (h : Canonical d) : Canonical (objSeal aseq d) := by
  unfold Machine.objSeal
  refine h.storeCmd fun h => ?_
  extract_lets +onlyGivenNames _
  split
  · exact h.complete
  · exact .ite h.complete (.ite h.complete (.assemble (.modJob (.setObj (h.each Canonical.jobFail)))))

theorem Canonical.objDelete {aseq} (h : Canonical d) : Canonical (objDelete aseq d) := by
  unfold Machine.objDelete
  refine h.storeCmd fun h => ?_
  extract_lets +onlyGivenNames _
  split
  · exact h.complete
  · exact .ite h.complete (.ite h.complete (.ite h.complete h.modStore.setObj.dropUnits.metaRecord.syncStore))

theorem Canonical.objStat {aseq} (h : Canonical d) : Canonical (objStat aseq d) := by
  unfold Machine.objStat
  refine h.storeCmd fun h => ?_
  split
  · exact h.complete
  · exact h.bufOut

theorem Canonical.absorbBind {aseq} (h : Canonical d) : Canonical (absorbBind aseq d) := by
  unfold Machine.absorbBind
  refine h.storeCmd fun h => ?_
  extract_lets +onlyGivenNames _
  split
  · exact h.complete
  · exact .ite h.complete (.ite h.complete (.ite h.complete (.ite h.complete (.ite h.complete h.modStore.complete))))

theorem Canonical.sealStep {j n o} (h : Canonical d) : Canonical (d.sealStep j n o) := by
  have hfinish {e : Dev} {o : Obj} (h : Canonical e) : Canonical ((e.setObj n o).metaRecord j.aseq).syncStore :=
    h.setObj.metaRecord.syncStore
  unfold Dev.sealStep
  refine .ite h (.ite (hfinish h) ?_)
  split
  · exact .ite (hfinish h) h.startRead
  · refine .ite h ?_
    split
    · exact h.delJob.setObj.complete
    · exact hfinish h.delJob

theorem Canonical.storeTransferComplete {aseq} (h : Canonical d) : Canonical (storeTransferComplete aseq d) := by
  unfold Machine.storeTransferComplete
  split
  · exact h
  · split
    · exact h
    · split
      · exact .ite h.modStore.wr.syncStore.complete h
      · split
        · exact .ite h.modStore.wr.complete h
        · split
          · exact .ite h.complete h
          · split
            · exact .ite h.complete h
            · split
              · split
                · exact h.complete
                · split
                  · split
                    · exact h.sealStep
                    · exact h
                  · exact h
              · exact .ite (.ite h.setObj.syncStore.complete h) h

/-! ### Machine/Col -/

theorem Canonical.syncCol {q} (h : Canonical d) : Canonical (d.syncCol q) := h.wr.wr

theorem Canonical.setTrig {t e} (h : Canonical d) : Canonical (d.setTrig t e) := h.upd.syncCol

theorem Canonical.modRun {t f} (h : Canonical d) : Canonical (d.modRun t f) := h.upd

theorem Canonical.trySend {k ing vc hs} (h : Canonical d) : Canonical (d.trySend k ing vc hs).1 :=
  h.sends (Dev.Sends.refl d).trySend

theorem Canonical.sendMore {n t} (h : Canonical d) : Canonical (Dev.sendMore n d t) := by
  induction n generalizing d with
  | zero => exact h
  | succ n ih =>
    unfold Dev.sendMore
    split
    · exact h
    · split
      · exact h
      · split
        · exact h.opOutcome
        · extract_lets +onlyGivenNames _ _
          split
          · exact h.opOutcome
          · split
            · exact h.opOutcome
            · extract_lets +onlyGivenNames _
              split
              · exact .opOutcome (.ofPair ‹_› h.trySend)
              · exact .ofPair ‹_› h.trySend
              · exact ih (.modRun (.count (.ofPair ‹_› h.trySend)))

theorem Canonical.sendGo {t} (h : Canonical d) : Canonical (d.sendGo t) := by
  unfold Dev.sendGo
  split
  · exact h
  · exact .ite h (.ite h.slotWait h.sendMore)

theorem Canonical.opOpen {t o} (h : Canonical d) : Canonical (d.opOpen t o) :=
  .ite h.upd.openCtx.opOutcome h.upd.opOutcome

theorem Canonical.unbindCtx {i} (h : Canonical d) : Canonical (d.unbindCtx i) := h.modStore

theorem Canonical.closeBound {i force} (h : Canonical d) : Canonical (d.closeBound i force).1 := by
  unfold Dev.closeBound
  split
  · exact .iteFst (.unbindCtx (.ofPair ‹_› h.closeCtx)) (.ofPair ‹_› h.closeCtx)

theorem Canonical.startOp {t} (h : Canonical d) : Canonical (d.startOp t) := by
  have hrun {l} : Canonical { d with red := { d.red with running := l } } := h.upd
  unfold Dev.startOp
  refine .ite hrun.opOutcome (.ite hrun.opOutcome (.ite ?send (.ite hrun.opOpen (.ite ?close (.ite
    (Canonical.upd hrun).modRun.sendOut (.ite ?launch (.ite (.ite hrun.postCpl.syncChan.opOutcome hrun.opOutcome)
      (.ite ?store (.ite ?hoist hrun.opOutcome)))))))))
  case send =>
    split
    · exact hrun.opOutcome
    · exact hrun.sendGo
  case close =>
    refine .ite hrun.opOutcome ?_
    split
    exact .opOutcome (.ofPair ‹_› hrun.closeBound)
  case launch =>
    split
    · exact .ofPair ‹_› hrun.launch
    · exact .opOutcome (.ofPair ‹_› hrun.launch)
  case store =>
    split
    · exact hrun.opOutcome
    · refine .ite hrun.opOutcome ?_
      split
      · exact .ofPair ‹_› hrun.startWrite
      · exact .opOutcome (.ofPair ‹_› hrun.startWrite)
  case hoist =>
    refine .ite hrun.opOutcome ?_
    split
    · exact .ofPair ‹_› hrun.hoistJoin
    · exact .opOutcome (.ofPair ‹_› hrun.hoistJoin)

theorem Canonical.tryFire {t} (h : Canonical d) : Canonical (d.tryFire t) := by
  unfold Dev.tryFire
  extract_lets +onlyGivenNames _
  split
  · extract_lets +onlyGivenNames _
    split
    · exact h.setTrig.modelReady
    · exact .ite h.setTrig.count.slotWait h.setTrig.count.startOp
  · exact h

theorem Canonical.trigAdv {t inc burgee} (h : Canonical d) : Canonical (d.trigAdv t inc burgee).1 :=
  .iteFst h.set (.tryFire (.setTrig (.ite h.count.set h.count)))

theorem Canonical.ownAdvance {t inc burgee tag} (h : Canonical d) : Canonical (d.ownAdvance t inc burgee tag) := by
  unfold Dev.ownAdvance
  split
  · exact .ofPair ‹_› h.trigAdv
  · exact .record (.ofPair ‹_› h.trigAdv)

theorem Canonical.pktAdvance {t inc k vc ing} (h : Canonical d) : Canonical (d.pktAdvance t inc k vc ing) := by
  unfold Dev.pktAdvance
  split
  · exact .ofPair ‹_› h.trigAdv
  · exact .record (.ofPair ‹_› h.trigAdv)

theorem Canonical.opFailRec {t code} (h : Canonical d) : Canonical (d.opFailRec t code) := h.set.record

theorem Canonical.opEnded {o code} (h : Canonical d) : Canonical (d.opEnded o code) :=
  have hadv {e : Dev} {c : Prop} [Decidable c] {g n b f} (h : Canonical e) :
      Canonical (if c then e.ownAdvance g n b f else e) := .ite h.ownAdvance h
  .tryFire (hadv (hadv (.each (.setTrig (.ite h.upd (Canonical.upd h).count.opFailRec)) Canonical.complete)))

theorem Canonical.operationEnd {t} (h : Canonical d) : Canonical (operationEnd t d) := by
  unfold Machine.operationEnd
  split
  · exact h
  · split
    · exact h.opEnded
    · exact .ite h.opEnded h

theorem Canonical.sendsGo (h : Canonical d) : Canonical d.sendsGo := h.each Canonical.sendGo

theorem Canonical.remoteRspReceived {pid} (h : Canonical d) : Canonical (remoteRspReceived pid d) := by
  unfold Machine.remoteRspReceived
  split
  · exact h
  · split
    · exact .opOutcome (h.takeHub ‹_›)
    · exact h.takeHub ‹_›

theorem Canonical.remoteRspTimeout {t} (h : Canonical d) : Canonical (remoteRspTimeout t d) := by
  unfold Machine.remoteRspTimeout
  split
  · exact .ite h.opOutcome.usedFree h
  · exact h

theorem Canonical.trigArm {aseq} (h : Canonical d) : Canonical (trigArm aseq d) :=
  h.cmd fun h => .ite h.complete (.ite h.complete (.ite h.complete h.setTrig.tryFire.complete))

theorem Canonical.trigDisarm {aseq} (h : Canonical d) : Canonical (trigDisarm aseq d) :=
  h.cmd fun h => .ite h.complete (.ite h.setTrig h.setTrig.complete)

theorem Canonical.trigAdvance {aseq} (h : Canonical d) : Canonical (trigAdvance aseq d) := by
  unfold Machine.trigAdvance
  refine h.cmd fun h => ?_
  extract_lets +onlyGivenNames _ _
  split
  · exact h.complete
  · split
    · exact h.complete
    · split
      · exact .complete (.ofPair ‹_› h.trigAdv)
      · exact .complete (.ofPair ‹_› h.trigAdv)

theorem Canonical.opWrite {aseq} (h : Canonical d) : Canonical (opWrite aseq d) :=
  h.cmd fun h => .ite h.complete h.upd.complete

/-! ### Machine/RedRows -/

theorem Canonical.ctxTrigger {c done} (h : Canonical d) : Canonical (d.ctxTrigger c done) := .ite h.ownAdvance h

theorem Canonical.dropToken {q t} (h : Canonical d) : Canonical (d.dropToken q t) := h.upd.syncCol

theorem Canonical.checkDone {i} (h : Canonical d) : Canonical (d.checkDone i) := by
  unfold Dev.checkDone
  extract_lets +onlyGivenNames _
  split
  · extract_lets +onlyGivenNames _ d1
    have h1 : Canonical d1 := by
      unfold d1
      split
      · exact h.setCtx.dropToken
      · exact h.setCtx
    exact .ctxTrigger (.ite h1.freeCtx.unbindCtx h1)
  · exact h

theorem Canonical.ctxCmd {aseq op f} (h : Canonical d) (hf : ∀ {a0 a1 e}, Canonical e → Canonical (f a0 a1 e)) :
    Canonical (d.ctxCmd aseq op f) :=
  h.cmd fun h => .ite h.complete (hf h)

theorem Canonical.ctxOpen {aseq} (h : Canonical d) : Canonical (ctxOpen aseq d) :=
  h.cmd fun h => .ite h.complete (.ite h.complete (.ite h.complete h.openCtx.complete))

theorem Canonical.ctxClose {aseq} (h : Canonical d) : Canonical (ctxClose aseq d) := by
  unfold Machine.ctxClose
  refine h.ctxCmd fun h => ?_
  split
  · exact .complete (.ofPair ‹_› h.closeBound)

theorem Canonical.ctxAbort {aseq} (h : Canonical d) : Canonical (ctxAbort aseq d) :=
  h.ctxCmd fun h => .ite h.abortCtx.complete h.complete

theorem Canonical.ctxMigrate {aseq} (h : Canonical d) : Canonical (ctxMigrate aseq d) :=
  h.ctxCmd fun h => .ite h.complete h.setCtx.retakeDeferred.complete

theorem Canonical.ctxReparent {aseq} (h : Canonical d) : Canonical (ctxReparent aseq d) :=
  h.ctxCmd fun h => .ite h.complete h.setCtx.complete

theorem Canonical.bindCtx {i region base trigWord} (h : Canonical d) : Canonical (d.bindCtx i region base trigWord) :=
  h.upd

theorem Canonical.ctxBind {aseq} (h : Canonical d) : Canonical (ctxBind aseq d) :=
  h.ctxCmd fun h => .ite h.complete h.bindCtx.complete

theorem Canonical.ctxStat {aseq} (h : Canonical d) : Canonical (ctxStat aseq d) := h.ctxCmd Canonical.complete

theorem Canonical.contributionTaken {pid} (h : Canonical d) : Canonical (contributionTaken pid d) := by
  unfold Machine.contributionTaken
  split
  · split
    · exact h
    · split
      · exact h
      · exact .ite (.retryOut (.release (.redCount (.record (h.takeWhole ‹_›))))) (.retryOut (.takeInput (h.takeWhole
          ‹_›)))
  · exact h

theorem Canonical.sendPartial {i n} (h : Canonical d) : Canonical (d.sendPartial i n) := by
  unfold Dev.sendPartial
  extract_lets +onlyGivenNames _ _
  split
  · exact h
  · split
    · exact h.abortCtx
    · extract_lets +onlyGivenNames _ _
      split
      · exact .checkDone (.ctxTrigger (.finishChunk (.redCount (.redCount (.ofPair ‹_› h.trySend)))))
      · exact .ofPair ‹_› h.trySend

theorem Canonical.chunkComplete {i n} (h : Canonical d) : Canonical (chunkComplete i n d) :=
  .ite (.ite h.slotWait h.sendPartial) h

theorem Canonical.noPathRecs {q n k vc ing} (h : Canonical d) : Canonical (d.noPathRecs q n k vc ing) :=
  h.sends (Dev.Sends.refl d).noPathRecs

theorem Canonical.storeResult {i n} (h : Canonical d) : Canonical (d.storeResult i n) := by
  unfold Dev.storeResult
  dsimp only
  split
  · exact h
  · split
    · exact h
    · exact .checkDone (.ctxTrigger (.finishChunk (.setCtx (.redCount (.redCount (.redCount (.noPathRecs (.each
        (.ofPair ‹_› (.iteFst h h.storePkt)) Canonical.enterDesc))))))))

theorem Canonical.rootChunkComplete {i n} (h : Canonical d) : Canonical (rootChunkComplete i n d) :=
  .ite (.ite h.slotWait h.storeResult) h

theorem Canonical.passDown {i n} (h : Canonical d) : Canonical (d.passDown i n) := h.setCtx.checkDone

theorem Canonical.arrivalTimeout {i} (h : Canonical d) : Canonical (arrivalTimeout i d) := .ite h.abortCtx h

theorem Canonical.accEcc {i} (h : Canonical d) : Canonical (accEcc i d) := .ite h.set.abortCtx h

theorem Canonical.stubRetire {i} (h : Canonical d) : Canonical (stubRetire i d) := .ite h.setCtx.syncEngine h

/-! ### Machine/Land -/

theorem Canonical.regionReg {aseq} (h : Canonical d) : Canonical (regionReg aseq d) :=
  h.cmd fun h => .ite h.complete (.ite h.complete (.ite h.complete h.upd.complete))

theorem Canonical.regionDereg {aseq} (h : Canonical d) : Canonical (regionDereg aseq d) :=
  h.cmd fun h => .ite h.complete (.ite h.complete (.ite h.upd.upd h.upd.complete))

theorem Canonical.regionDeregComplete {no} (h : Canonical d) : Canonical (regionDeregComplete no d) :=
  .ite h (h.upd.each Canonical.complete)

theorem Canonical.refuseLanding {pid t h' reason} (h : Canonical d) : Canonical (d.refuseLanding pid t h' reason) :=
  .retryOut (.failHolder (.ite h.set h))

theorem Canonical.streamerLanding {pid t} (h : Canonical d) : Canonical (streamerLanding pid t d) := by
  unfold Machine.streamerLanding
  split
  · exact h
  · rename_i d1 hx
    have h1 : Canonical d1 := h.takeWhole hx
    split
    · exact h
    · split
      · exact h1.refuseLanding
      · split
        · exact h1.refuseLanding
        · split
          · exact h1.refuseLanding
          · exact h1.upd

theorem Canonical.landingComplete {pid t} (h : Canonical d) : Canonical (landingComplete pid t d) := by
  unfold Machine.landingComplete
  split
  · exact h
  · dsimp only
    split
    · exact h.upd
    · refine .ite (.refuseLanding h.upd) ?_
      split
      · exact .pktAdvance (.retryOut (.release (.memWrite h.upd)))
      · exact .retryOut (.release (.memWrite h.upd))

theorem Canonical.countResult {pid} (h : Canonical d) : Canonical (d.countResult pid) := by
  unfold Dev.countResult
  split
  · exact h
  · exact .ite h.setPkt.passDown h

theorem Canonical.trigRsp {k status} (h : Canonical d) : Canonical (d.trigRsp k status) := h.sendOut

theorem Canonical.trigPennantReceived {pid} (h : Canonical d) : Canonical (trigPennantReceived pid d) := by
  unfold Machine.trigPennantReceived
  split
  · exact h
  · rename_i d1 hx
    have h1 : Canonical d1 := h.takeHub hx
    extract_lets +onlyGivenNames _ _ _
    split
    · exact h1.trigRsp
    · exact .trigRsp (.upd (.iteFst h1 h1.trigAdv))

theorem Canonical.collLaunch {aseq} (h : Canonical d) : Canonical (collLaunch aseq d) := by
  unfold Machine.collLaunch
  refine h.cmd fun h => ?_
  split
  · exact h.complete
  · exact .ite h.complete (.ite h.complete (.complete (.ownAdvance (.each (.upd (.each (h.each Canonical.upd)
      Canonical.bindCtx)) Canonical.setTrig))))

theorem Canonical.toldSend {tag reason pid} (h : Canonical d) : Canonical (d.toldSend tag reason pid) := by
  unfold Dev.toldSend
  split
  · exact h.opOutcome
  · exact h

theorem Canonical.toldTile {pid coll c reason} (h : Canonical d) : Canonical (d.toldTile pid coll c reason) := h.upd

theorem Canonical.failPennantReceived {pid} (h : Canonical d) : Canonical (failPennantReceived pid d) := by
  unfold Machine.failPennantReceived
  split
  · exact h
  · rename_i d1 hx
    have h1 : Canonical d1 := h.takeHub hx
    exact .ite (.ite h1.abortCtx h1) (.emit (.toldSend (.ite h1.toldTile h1)))

theorem Canonical.recordIssue {q} (h : Canonical d) : Canonical (recordIssue q d) := by
  unfold Machine.recordIssue
  extract_lets +onlyGivenNames d1
  have h1 : Canonical d1 := h.failureRecordIssue
  split
  · exact h1
  · exact .ite (.ite h1.toldSend.toldTile (.ite h1.toldTile h1)) h1

/-! ### Machine/Gate -/

theorem Canonical.dropPlaceholders {pid} (h : Canonical d) : Canonical (d.dropPlaceholders pid) :=
  h.sends (Dev.Sends.refl d).dropPlaceholders

theorem Canonical.placeToken {q} (h : Canonical d) : Canonical (d.placeToken q) := by
  unfold Dev.placeToken
  split
  · exact h
  · extract_lets +onlyGivenNames _
    split
    · extract_lets +onlyGivenNames _
      split
      · exact h
      · exact .retryOut (.release (.syncCol (.upd (.upd (h.rxPut ‹_›)))))
    · exact h.upd
    · exact h

theorem Canonical.dispatchTokenReceived {pid t} (h : Canonical d) : Canonical (dispatchTokenReceived pid t d) := by
  unfold Machine.dispatchTokenReceived
  split
  · exact h
  · rename_i d1 hx
    have h1 : Canonical d1 := h.takeWhole hx
    exact .ite h (.ite (.retryOut (.dropPlaceholders (.failHolder (.ite h1.set h1)))) (.ite h1.upd.placeToken h1.upd))

theorem Canonical.tokenSlotAvailable {q} (h : Canonical d) : Canonical (tokenSlotAvailable q d) := h.placeToken

theorem Canonical.tokenRec {q k reason} (h : Canonical d) : Canonical (d.tokenRec q k reason) :=
  .record (.ite h.set h)

theorem Canonical.sendExpert {q t k x ret coll r} (h : Canonical d) : Canonical (d.sendExpert q t k x ret coll r) :=
    by
  unfold Dev.sendExpert
  split
  · exact h
  · extract_lets +onlyGivenNames _ _ _ _ _
    split
    · exact h.countRoute.setPkt.enterDesc
    · split
      · exact h.countRoute.setPkt.enterDesc
      · exact h.countRoute.countRefusal.tokenRec.release
    · exact h.countRoute.tokenRec.release
    · exact h.countRoute.countRefusal.tokenRec.release

theorem Canonical.zeroResults {q slot g k o} (h : Canonical d) : Canonical (d.zeroResults q slot g k o) :=
  .dropToken (.dropPlaceholders (h.each Canonical.sendOut))

theorem Canonical.openCombine {q slot i g k w o} (h : Canonical d) : Canonical (d.openCombine q slot i g k w o) :=
  .ite h.upd.tokenRec.dropPlaceholders.dropToken (.ite h.upd.tokenRec.dropPlaceholders.dropToken (.dropPlaceholders
    (h.upd.openCtx.setCtx.count.upd.each Canonical.sendExpert)))

theorem Canonical.takeGateRec {q r} (h : Canonical d) : Canonical (d.takeGateRec q r) := h.upd.modTile.count

theorem Canonical.gateRecordTaken {q} (h : Canonical d) : Canonical (gateRecordTaken q d) := by
  unfold Machine.gateRecordTaken
  split
  · exact h
  · extract_lets +onlyGivenNames _ _ _ _ _
    split
    · exact h.takeGateRec
    · split
      · exact h.takeGateRec
      · extract_lets +onlyGivenNames _
        split
        · exact h.takeGateRec.tokenRec.dropPlaceholders.dropToken
        · extract_lets +onlyGivenNames _
          split
          · exact h.takeGateRec.tokenRec.dropPlaceholders.dropToken
          · split
            · exact .zeroResults (h.takeGateRec.each Canonical.tokenRec)
            · split
              · exact h
              · exact .openCombine (h.takeGateRec.each fun h => h.tokenRec.release)

theorem Canonical.gateTimeout {q slot} (h : Canonical d) : Canonical (gateTimeout q slot d) := by
  unfold Machine.gateTimeout
  split
  · exact h
  · exact .ite h h.set.count.tokenRec.dropPlaceholders.dropToken.placeToken.retryOut

theorem Canonical.expertFailReceived {pid} (h : Canonical d) : Canonical (expertFailReceived pid d) := by
  unfold Machine.expertFailReceived
  split
  · exact h
  · split
    · exact h
    · exact .ite h (.ite (.abortCtx (.retryOut (.release (h.takeWhole ‹_›)))) (.toldSend (.retryOut (.release
        (h.takeWhole ‹_›)))))

theorem Canonical.ageTokens {e} (h : Canonical d) : Canonical (d.ageTokens e) :=
  .ite h (h.upd.faultEvent.each fun h => h.failHolder.dropPlaceholders.retryOut)

theorem Canonical.queueTick {e v} (h : Canonical d) : Canonical (queueTick e v d) :=
  .ite h.ageTick.ageTokens h.ageTick

/-! ### Machine/Reset -/

theorem Canonical.killHolder {pid h' reason} (h : Canonical d) : Canonical (d.killHolder pid h' reason) :=
  h.upd.dropDesc.failHolder

theorem Canonical.flushAttach {e reason} (h : Canonical d) : Canonical (d.flushAttach e reason) :=
  h.upd.each Canonical.killHolder

theorem Canonical.killOp {t code state} (h : Canonical d) : Canonical (d.killOp t code state) := by
  have hfail : Canonical (match d.red.running.find? fun o => o.trig = t with
      | none => d
      | some o => ((({ d with red := { d.red with running := d.red.running.filter fun x => x.trig ≠ t } } : Dev).count
        0x09 (trigQuad t) 2 o.action).opFailRec t code)) := by
    split
    · exact h
    · exact .opFailRec (.count h.upd)
  exact .each (.ite hfail.setTrig hfail.setTrig) Canonical.complete

theorem Canonical.killTokens {reason p} (h : Canonical d) : Canonical (d.killTokens reason p) :=
  h.each fun h => h.tokenRec.dropPlaceholders.dropToken

theorem Canonical.killHoist {i} (h : Canonical d) : Canonical (d.killHoist i) :=
  .ite h (.decideFail (.ite h h.sendHoist))

theorem Canonical.killHoists {p} (h : Canonical d) : Canonical (d.killHoists p) := h.each Canonical.killHoist

theorem Canonical.jobStep {aseq} (h : Canonical d) : Canonical (d.jobStep aseq) := by
  unfold Dev.jobStep
  extract_lets +onlyGivenNames _
  split
  · exact .ite h.modJob.complete h.modJob
  · exact h.modJob

theorem Canonical.remapLines {t} (h : Canonical d) : Canonical (d.remapLines t) :=
  h.setEcc.each fun h => .ite h.set h.setEcc.bump.recordNew

theorem Canonical.endMarch {t} (h : Canonical d) : Canonical (d.endMarch t) := by
  unfold Dev.endMarch
  split
  · exact h
  · extract_lets +onlyGivenNames _
    split
    · exact h.setEcc.wr
    · exact h.setEcc.wr.jobStep

theorem Canonical.resetTile {t rcause} (h : Canonical d) : Canonical (d.resetTile t rcause) := by
  unfold Dev.resetTile
  split
  · exact h
  · dsimp only
    split
    · exact .failModel (.remapLines (.setEcc (h.endMarch.wrSat.wr.set.set.wr.setTile.setTileState.upd.each
        Canonical.launchEnds)))
    · exact .remapLines (.setEcc (h.endMarch.wrSat.wr.set.set.wr.setTile.setTileState.upd.each Canonical.launchEnds))

theorem Canonical.freeTile {t} (h : Canonical d) : Canonical (d.freeTile t) :=
  .ite h (.ite h.setTileState h.setTileState)

theorem Canonical.killCtxs {p} (h : Canonical d) : Canonical (d.killCtxs p) :=
  h.each fun h => h.abortCtx.freeCtx.unbindCtx

theorem Canonical.killTrigs {p} (h : Canonical d) : Canonical (d.killTrigs p) := h.each Canonical.killOp

theorem Canonical.clearBindings {p} (h : Canonical d) : Canonical (d.clearBindings p) := h.upd

theorem Canonical.clearOps {p} (h : Canonical d) : Canonical (d.clearOps p) := h.upd

theorem Canonical.failModels {p} (h : Canonical d) : Canonical (d.failModels p) := h.each Canonical.failModel

theorem Canonical.clearScope {level target} (h : Canonical d) : Canonical (d.clearScope level target) :=
  .ite h.flushAttach (.ite h.killCtxs.killTrigs.clearBindings.clearOps.killTokens.killHoists.failModels (.ite
    h.killCtxs.flushAttach (.ite (.ite h.stopStore.dropPrograms.modStore.syncStore
    h.stopStore.dropPrograms.modStore.wr.set.syncStore) (.ite (.upd (.failModels
    (h.killCtxs.killTrigs.clearBindings.clearOps.killTokens.killHoists.each fun h => .each (.upd (h.each
    Canonical.flushAttach)) Canonical.dropPlaceholders))) h))))

theorem Canonical.flushDevice (h : Canonical d) : Canonical d.flushDevice := by
  have hlost {e : Dev} {c : Nat} {k : CmdPkt} (h : Canonical e) : Canonical (match k.origin with
      | .fabric _ src _ => e.cmdLost c (nth k.words 1) src true
      | _ => e.cmdLost c (nth k.words 1) 0) := by
    split
    · exact h.cmdLost
    · exact h.cmdLost
  unfold Dev.flushDevice
  exact .upd (.each (.each (h.clearScope.stopStore.each Canonical.killHolder) hlost)
    fun h => .ite h (h.setChan.each hlost))

theorem Canonical.edgeAbort (h : Canonical d) : Canonical d.edgeAbort := h.each Canonical.sendAbort

theorem Canonical.markReset {level} (h : Canonical d) : Canonical (d.markReset level) := h.set.wr.count

theorem Canonical.resetJob {aseq esc} (h : Canonical d) : Canonical (d.resetJob aseq esc) := by
  unfold Dev.resetJob
  extract_lets +onlyGivenNames _
  split
  · exact .ite h.modJob.complete h.modJob
  · exact h.modJob

theorem Canonical.startReset {level target cause rcause jobs escJobs esc forced first more} (h : Canonical d) :
    Canonical (d.startReset level target cause rcause jobs escJobs esc forced first more) := by
  unfold Dev.startReset
  extract_lets +onlyGivenNames _ _
  split
  · exact .ite (.each (.upd (h.each fun h => .ite h h.resetTile)) Canonical.resetJob) (.upd (h.each fun h => .ite h
      h.resetTile))
  · exact .ite (.flushDevice (.each (.edgeAbort (.each (.count (.wr (.wr (.wr (.wr (h.upd.markReset.each
      Canonical.resetTile)))))) Canonical.sendPause)) Canonical.resetJob)) (.clearScope (h.upd.markReset.each
      Canonical.resetTile))

theorem Canonical.releaseReset {r} (h : Canonical d) : Canonical (d.releaseReset r) := by
  have hjobs {e : Dev} {c : Prop} [Decidable c] {l b} (h : Canonical e) :
      Canonical (if c then e else e.each l fun d a => d.resetJob a b) := .ite h (h.each Canonical.resetJob)
  unfold Dev.releaseReset
  exact .retryOut (hjobs (hjobs (.sendEvent (.histPush (.wrSat (.wr (.wr (.wr
    (.each h.upd fun h => .ite h h.freeTile)))))))))

theorem Canonical.failQueued {t b code} (h : Canonical d) : Canonical (d.failQueued t b code) :=
  .ite h (h.setTile.each Canonical.launchEnds)

theorem Canonical.abortBurgee {b reason} (h : Canonical d) : Canonical (d.abortBurgee b reason) := by
  unfold Dev.abortBurgee
  refine .killTokens ?_
  refine .killHoists ?_
  refine .each (.each (h.each Canonical.abortCtx) Canonical.killOp) fun h => ?_
  extract_lets +onlyGivenNames _
  split
  · exact .ite h.failQueued.startReset h.failQueued
  · exact h.failQueued

theorem Canonical.abortEdge {p} (h : Canonical d) : Canonical (d.abortEdge p) :=
  .killHoists (h.each Canonical.abortCtx)

theorem Canonical.abortLocal {id burgee reason port} (h : Canonical d) :
    Canonical (d.abortLocal id burgee reason port) := by
  unfold Dev.abortLocal
  split
  · exact .ite h.setCtx.abortCtx.setCtx h
  · split
    · exact h.abortBurgee
    · split
      · exact h.abortEdge
      · exact h

/-! ### Machine/ResetRows -/

theorem Canonical.fltHistRead {aseq} (h : Canonical d) : Canonical (fltHistRead aseq d) := h.cmd Canonical.bufOut

theorem Canonical.stateEntry {code d0} (h : Canonical d) : Canonical (d.stateEntry code d0) := h.histPush

theorem Canonical.quietTimerExpiry (h : Canonical d) : Canonical (quietTimerExpiry d) :=
  .ite h (.ite h.upd.bump.wrSat.stateEntry.wr.latchStruck h.upd.bump.wrSat.stateEntry.wr.wr.sendEvent)

theorem Canonical.struckWindowExpiry (h : Canonical d) : Canonical (struckWindowExpiry d) := .ite h.latchStruck h

theorem Canonical.fltClear {aseq} (h : Canonical d) : Canonical (fltClear aseq d) :=
  h.cmd fun h => .complete (.ite h.upd.wr.upd.wr.set.irq.restartQuiet.stateEntry h.upd.wr)

theorem Canonical.watchdogEvent {blk cause inst} (h : Canonical d) : Canonical (d.watchdogEvent blk cause inst) :=
  h.count.faultEvent

theorem Canonical.watchdog {t} (h : Canonical d) : Canonical (watchdog t d) := .ite h h.watchdogEvent.startReset

theorem Canonical.engineHang {e} (h : Canonical d) : Canonical (engineHang e d) := .ite h.watchdogEvent.startReset h

theorem Canonical.seqHang {q} (h : Canonical d) : Canonical (seqHang q d) := .ite h.watchdogEvent.startReset h

theorem Canonical.dispatchHang {q} (h : Canonical d) : Canonical (dispatchHang q d) :=
  .ite h.watchdogEvent.startReset h

theorem Canonical.ctrlHang (h : Canonical d) : Canonical (ctrlHang d) := .ite h.watchdogEvent.startReset h

theorem Canonical.thidanHeartbeat (h : Canonical d) : Canonical (thidanHeartbeat d) := .ite h h.upd

theorem Canonical.heartbeatLost (h : Canonical d) : Canonical (heartbeatLost d) :=
  .ite h h.watchdogEvent.count.wr.bump.upd

theorem Canonical.thidanRestartComplete (h : Canonical d) : Canonical (thidanRestartComplete d) :=
  .ite h (h.upd.wr.each fun h => .ite h.modJob h.complete)

theorem Canonical.forceReset {cause} (h : Canonical d) : Canonical (d.forceReset cause) :=
  .ite h.startReset (.ite h.modBoot.wr.wr.emit h.modBoot.startReset)

theorem Canonical.restartFail (h : Canonical d) : Canonical (restartFail d) := by
  unfold Machine.restartFail
  split
  · exact h
  · exact .ite h h.faultEvent.upd.forceReset

theorem Canonical.sentinelKick (h : Canonical d) : Canonical (sentinelKick d) := h.upd

theorem Canonical.hwWatchdog (h : Canonical d) : Canonical (hwWatchdog d) := .ite h h.count.forceReset.upd

theorem Canonical.reset {aseq} (h : Canonical d) : Canonical (reset aseq d) :=
  h.cmd fun h => .ite h.complete h.modJob.startReset

theorem Canonical.tileReset {aseq} (h : Canonical d) : Canonical (tileReset aseq d) :=
  h.cmd fun h => .ite h.complete (h.modJob.each Canonical.startReset)

theorem Canonical.resetRelease {level target} (h : Canonical d) : Canonical (resetRelease level target d) := by
  unfold Machine.resetRelease
  split
  · exact .ite h h.releaseReset
  · exact h

theorem Canonical.resetHung {level target} (h : Canonical d) : Canonical (resetHung level target d) := by
  unfold Machine.resetHung
  split
  · exact h
  · exact .ite h (.ite h.wr.wr.emit h.faultEvent.bump.upd.startReset)

theorem Canonical.forcedFlushLimit (h : Canonical d) : Canonical (forcedFlushLimit d) := by
  unfold Machine.forcedFlushLimit
  split
  · exact h
  · exact .ite h h.upd.bump.stateEntry

theorem Canonical.jobAbort {aseq} (h : Canonical d) : Canonical (jobAbort aseq d) :=
  h.cmd fun h => .ite h.complete h.originateAbort.abortLocal.complete

/-! ### Machine/Arrive -/

theorem Canonical.resolve {p vc k} (h : Canonical d) : Canonical (d.resolve p vc k).1 := by
  unfold Dev.resolve
  refine .iteFst (.iteFst h (.iteFst h (.iteFst h h.countRefusal))) ?_
  dsimp only
  split
  · exact h.countLook
  · exact h.countLook

theorem Canonical.police {p vc k} (h : Canonical d) : Canonical (d.police p vc k) :=
  .ite h (.ite h.upd.count (.ite h.upd.count.set.quenchSource h.upd.count.set))

theorem Canonical.discardArrival {a} (h : Canonical d) : Canonical (d.discardArrival a) := by
  unfold Dev.discardArrival
  refine .returnCredit ?_
  split
  · exact h.modLink
  · exact h

theorem Canonical.refuseArrival {a tag reason blk inst} (h : Canonical d) :
    Canonical (d.refuseArrival a tag reason blk inst) := by
  unfold Dev.refuseArrival
  refine .discardArrival ?_
  split
  · exact h.record.tracePacket
  · exact h.record

theorem Canonical.storeArrival {a tag hs ctx} (h : Canonical d) : Canonical (d.storeArrival a tag hs ctx) := by
  unfold Dev.storeArrival
  split
  · exact h.discardArrival
  · split
    · exact h.refuseArrival
    · extract_lets +onlyGivenNames _
      split
      · exact .discardArrival (.ofPair ‹_› h.storePkt)
      · refine .addCrossing ?_
        split
        · exact .modLink (.ofPair ‹_› h.storePkt)
        · exact .ofPair ‹_› h.storePkt

theorem Canonical.dropOff {a hs} (h : Canonical d) : Canonical (d.dropOff a hs).1 := h.each Canonical.record

theorem Canonical.arriveResult {a tag i} (h : Canonical d) : Canonical (d.arriveResult a tag i) := by
  unfold Dev.arriveResult
  extract_lets +onlyGivenNames _
  split
  · exact h.refuseArrival
  · split
    · exact h.redCount.refuseArrival
    · exact .ite h.noPathRecs.discardArrival.passDown h.noPathRecs.storeArrival

theorem Canonical.arrive {a} (h : Canonical d) : Canonical (d.arrive a) := by
  unfold Dev.arrive
  refine .ite (.refuseArrival (.ite (.set (.tagPacket h.upd)) (.tagPacket h.upd))) ?_
  dsimp only
  split
  · exact .refuseArrival (.ofPair ‹_› (.resolve (.police (.tagPacket h.upd))))
  · exact .arriveResult (.ofPair ‹_› (.resolve (.police (.tagPacket h.upd))))
  · exact .storeArrival (.dropOff (.each (.ofPair ‹_› (.resolve (.police (.tagPacket h.upd)))) Canonical.record))

theorem Canonical.packetArrival {p} (h : Canonical d) : Canonical (packetArrival p d) := by
  unfold Machine.packetArrival
  split
  · exact h
  · exact h.arrive

theorem Canonical.resultArrival {p} (h : Canonical d) : Canonical (resultArrival p d) := by
  unfold Machine.resultArrival
  refine .each ?_ Canonical.countResult
  split
  · exact .ite h.arrive h
  · exact h

theorem Canonical.releaseHolder {pid h' loc} (h : Canonical d) : Canonical (releaseHolder pid h' loc d) :=
  h.countResult.holderGone.lateAnswers.sendsGo

/-! ### Machine/Haly -/

theorem Canonical.takePause {p w} (h : Canonical d) : Canonical (d.takePause p w) := by
  unfold Dev.takePause
  exact h.wakingAll fun h => h.each fun h => h.wrBit.wrBit.modLink

theorem Canonical.slew {th2} (h : Canonical d) : Canonical (d.slew th2) := .ite h h.usedFree.upd

theorem Canonical.servoExchange {th2} (h : Canonical d) : Canonical (d.servoExchange th2) :=
  .ite (.ite h.wr.count.upd (.ite h.wr.slew.setServo h.wr.slew.upd)) (.ite (.ite h.wr.slew.setServo h.wr.slew.upd)
    h.wr)

theorem Canonical.syncRate (h : Canonical d) : Canonical d.syncRate := h.wr

theorem Canonical.takeTime {p w} (h : Canonical d) : Canonical (d.takeTime p w) := by
  unfold Dev.takeTime
  extract_lets +onlyGivenNames _ _ _
  split
  · exact .ite h.modLink.servoExchange.syncRate h.modLink
  · exact h.modLink

theorem Canonical.takeAbort {p w} (h : Canonical d) : Canonical (d.takeAbort p w) :=
  .ite h.set.count (.ite h.count (.ite h.filterAbort.abortLocal (.count (h.filterAbort.abortLocal.each
    Canonical.sendAbort))))

theorem Canonical.takeReset {p w tagOk} (h : Canonical d) : Canonical (d.takeReset p w tagOk) :=
  .ite h.linkErr.faultEvent (.ite h.setLink.set.faultEvent.startReset h.setLink)

theorem Canonical.actHaly {p w tagOk} (h : Canonical d) : Canonical (d.actHaly p w tagOk) := by
  unfold Dev.actHaly
  exact .ite h.takePause (.ite h.relayQuench (.ite h.takeTime (.ite h.takeAbort h.takeReset)))

theorem Canonical.takeHaly {p w tagOk} (h : Canonical d) : Canonical (d.takeHaly p w tagOk) :=
  .ite h (.ite h.count.buntHaly (.ite h.count.buntHaly (.ite h.count.buntHaly.modLink.actHaly
    h.count.buntHaly.modLink.linkErr)))

theorem Canonical.halyardBlockReceived {p words ok tagOk} (h : Canonical d) :
    Canonical (halyardBlockReceived p words ok tagOk d) :=
  .ite h (h.each Canonical.takeHaly)

/-! ### Machine/TileCore -/

theorem Canonical.traceIns {t opc pc issued beats ea cause} (h : Canonical d) :
    Canonical (d.traceIns t opc pc issued beats ea cause) :=
  h.traceWrite

theorem Canonical.tagIns {t} (h : Canonical d) : Canonical (d.tagIns t).1 := h.setTile

theorem Canonical.issued {t cls opc pc ea cause} (h : Canonical d) : Canonical (d.issued t cls opc pc ea cause) :=
  .ite (.traceIns (.count (.ite h.tagIns.count h.tagIns))) (.ite h.tagIns.count h.tagIns)

theorem Canonical.exc {t opc cause eaddr einfo} (h : Canonical d) : Canonical (d.exc t opc cause eaddr einfo) :=
  .raiseExc (.issued (.ite h.count h))

theorem Canonical.retire {t cls opc f ea} (h : Canonical d) : Canonical (d.retire t cls opc f ea) := by
  unfold Dev.retire
  exact h.issued.modTile

theorem Canonical.step1 {t opc bad resv body} (h : Canonical d)
    (hbody : ∀ {a0 a1 e}, Canonical e → Canonical (body a0 a1 e)) :
    Canonical (d.step1 t opc bad resv body) :=
  .ite h (.ite h.exc (.ite h.exc (.ite h.sramMeet.exc (.ite h.sramMeet.exc (.ite h (.ite h.sramMeet.exc (hbody
    h.sramMeet)))))))

theorem Canonical.load {t opc ea n al bad k} (h : Canonical d) (hk : ∀ {a0 e}, Canonical e → Canonical (k a0 e)) :
    Canonical (d.load t opc ea n al bad k) :=
  .ite h.exc (.ite h.sramMeet.exc (hk h.sramMeet))

theorem Canonical.store1 {t cls opc ea al bytes f} (h : Canonical d) :
    Canonical (d.store1 t cls opc ea al bytes f) := by
  unfold Dev.store1
  exact .ite h.exc (.ite h h.retire)

theorem Canonical.storePerformed {t i} (h : Canonical d) : Canonical (storePerformed t i d) := by
  unfold Machine.storePerformed
  extract_lets +onlyGivenNames _
  split
  · exact h
  · exact .ite h h.performStore.modTile.tryEnd

/-! ### Machine/TileScalar -/

theorem Canonical.aluR {t opc bad f} (h : Canonical d) : Canonical (d.aluR t opc bad f) := by
  unfold Dev.aluR
  exact h.step1 Canonical.retire

theorem Canonical.aluI {t opc bad f} (h : Canonical d) : Canonical (d.aluI t opc bad f) := by
  unfold Dev.aluI
  exact h.step1 Canonical.retire

theorem Canonical.insNop {t bad} (h : Canonical d) : Canonical (insNop t bad d) := by
  unfold Machine.insNop
  exact h.step1 Canonical.retire

theorem Canonical.insAdd {t bad} (h : Canonical d) : Canonical (insAdd t bad d) := h.aluR

theorem Canonical.insSub {t bad} (h : Canonical d) : Canonical (insSub t bad d) := h.aluR

theorem Canonical.insMul {t bad} (h : Canonical d) : Canonical (insMul t bad d) := h.aluR

theorem Canonical.insAnd {t bad} (h : Canonical d) : Canonical (insAnd t bad d) := h.aluR

theorem Canonical.insOr {t bad} (h : Canonical d) : Canonical (insOr t bad d) := h.aluR

theorem Canonical.insXor {t bad} (h : Canonical d) : Canonical (insXor t bad d) := h.aluR

theorem Canonical.insShl {t bad} (h : Canonical d) : Canonical (insShl t bad d) := h.aluR

theorem Canonical.insShr {t bad} (h : Canonical d) : Canonical (insShr t bad d) := h.aluR

theorem Canonical.insSra {t bad} (h : Canonical d) : Canonical (insSra t bad d) := h.aluR

theorem Canonical.insSlt {t bad} (h : Canonical d) : Canonical (insSlt t bad d) := h.aluR

theorem Canonical.insSltu {t bad} (h : Canonical d) : Canonical (insSltu t bad d) := h.aluR

theorem Canonical.insAddi {t bad} (h : Canonical d) : Canonical (insAddi t bad d) := h.aluI

theorem Canonical.insAndi {t bad} (h : Canonical d) : Canonical (insAndi t bad d) := h.aluI

theorem Canonical.insOri {t bad} (h : Canonical d) : Canonical (insOri t bad d) := h.aluI

theorem Canonical.insXori {t bad} (h : Canonical d) : Canonical (insXori t bad d) := h.aluI

theorem Canonical.insShli {t bad} (h : Canonical d) : Canonical (insShli t bad d) := h.aluI

theorem Canonical.insShri {t bad} (h : Canonical d) : Canonical (insShri t bad d) := h.aluI

theorem Canonical.insSrai {t bad} (h : Canonical d) : Canonical (insSrai t bad d) := h.aluI

theorem Canonical.insLui {t bad} (h : Canonical d) : Canonical (insLui t bad d) := h.aluI

theorem Canonical.insLd {t bad} (h : Canonical d) : Canonical (insLd t bad d) := by
  unfold Machine.insLd
  exact h.step1 fun h => h.load Canonical.retire

theorem Canonical.insSt {t bad} (h : Canonical d) : Canonical (insSt t bad d) := h.step1 Canonical.store1

theorem Canonical.insAmo {t bad} (h : Canonical d) : Canonical (insAmo t bad d) := by
  unfold Machine.insAmo
  exact h.step1 fun h => .ite h.exc (.ite h (.ite h.sramMeet.exc h.sramMeet.sramWrite.retire))

theorem Canonical.retireTo {t opc pc' f} (h : Canonical d) : Canonical (d.retireTo t opc pc' f) := by
  unfold Dev.retireTo
  exact h.issued.modTile

theorem Canonical.insBr {t bad} (h : Canonical d) : Canonical (insBr t bad d) := by
  unfold Machine.insBr
  exact h.step1 Canonical.retireTo

theorem Canonical.insJal {t bad} (h : Canonical d) : Canonical (insJal t bad d) := by
  unfold Machine.insJal
  exact h.step1 Canonical.retireTo

theorem Canonical.insJalr {t bad} (h : Canonical d) : Canonical (insJalr t bad d) := by
  unfold Machine.insJalr
  exact h.step1 fun h => .ite h.exc h.retireTo

theorem Canonical.insTrap {t bad} (h : Canonical d) : Canonical (insTrap t bad d) := h.step1 Canonical.exc

theorem Canonical.insRete {t bad} (h : Canonical d) : Canonical (insRete t bad d) := by
  unfold Machine.insRete
  exact h.step1 fun h => .ite h.exc h.retireTo

theorem Canonical.fence {t k bad body} (h : Canonical d) (hbody : ∀ {a0 e}, Canonical e → Canonical (body a0 e)) :
    Canonical (d.fence t k bad body) :=
  h.step1 fun he => .ite (hbody he) h

theorem Canonical.collect {t opc x k} (h : Canonical d) (hk : ∀ {e}, Canonical e → Canonical (k e)) :
    Canonical (d.collect t opc x k) := by
  unfold Dev.collect
  split
  · exact hk h
  · exact h.modTile.exc

theorem Canonical.fenceLd {t bad} (h : Canonical d) : Canonical (fenceLd t bad d) := by
  unfold Machine.fenceLd
  exact h.fence Canonical.retire

theorem Canonical.fenceSt {t bad} (h : Canonical d) : Canonical (fenceSt t bad d) := by
  unfold Machine.fenceSt
  exact h.fence Canonical.retire

theorem Canonical.fenceSc {t bad} (h : Canonical d) : Canonical (fenceSc t bad d) := by
  unfold Machine.fenceSc
  exact h.fence fun h => .ite h.retire h

theorem Canonical.fenceTn {t bad} (h : Canonical d) : Canonical (fenceTn t bad d) := by
  unfold Machine.fenceTn
  exact h.fence fun h => .ite h (h.collect Canonical.retire)

theorem Canonical.insWait {t bad} (h : Canonical d) : Canonical (insWait t bad d) := by
  unfold Machine.insWait
  refine h.step1 fun h => ?_
  dsimp only
  split
  · exact h.exc
  · split
    · exact h
    · split
      · exact h.modTile.exc
      · exact h.retire

theorem Canonical.insHalt {t bad} (h : Canonical d) : Canonical (insHalt t bad d) :=
  h.step1 fun h => .ite h (h.collect fun h => .ite h h.issued.endProgram)

theorem Canonical.csrTakes {n v} (h : Canonical d) : Canonical (d.csrTakes n v).1 := .iteFst h.usedFree h

theorem Canonical.insCsrr {t bad} (h : Canonical d) : Canonical (insCsrr t bad d) := by
  unfold Machine.insCsrr
  refine h.step1 fun h => ?_
  dsimp only
  split
  · exact h.exc
  · exact h.retire

theorem Canonical.insCsrw {t bad} (h : Canonical d) : Canonical (insCsrw t bad d) := by
  unfold Machine.insCsrw
  exact h.step1 fun h => .ite h.exc (.ite h.csrTakes.retire.placeToken h.csrTakes.retire)

theorem Canonical.insCbind {t bad} (h : Canonical d) : Canonical (insCbind t bad d) := by
  unfold Machine.insCbind
  exact h.step1 fun h => .ite h.exc (.ite h.sramMeet.exc (.ite h.sramMeet.exc h.sramMeet.bindCtx.retire))

theorem Canonical.insTadv {t bad} (h : Canonical d) : Canonical (insTadv t bad d) := by
  unfold Machine.insTadv
  refine h.step1 fun h => ?_
  dsimp only
  split
  · exact h.exc
  · split
    · exact .retire (.ofPair ‹_› h.trigAdv)
    · exact .exc (.ofPair ‹_› h.trigAdv)

theorem Canonical.insTwait {t bad} (h : Canonical d) : Canonical (insTwait t bad d) := by
  unfold Machine.insTwait
  exact h.step1 fun h => .ite h.exc (.ite h.retire h)

theorem Canonical.insRxwait {t bad} (h : Canonical d) : Canonical (insRxwait t bad d) := by
  unfold Machine.insRxwait
  exact h.step1 fun h => .ite h.exc (.ite h h.retire)

theorem Canonical.insRxdone {t bad} (h : Canonical d) : Canonical (insRxdone t bad d) := by
  unfold Machine.insRxdone
  exact h.step1 fun h => .ite h.exc (.ite h.retire.placeToken h.retire)

/-! ### Machine/TileVec -/

theorem Canonical.vec1 {t opc bad f} (h : Canonical d) : Canonical (d.vec1 t opc bad f) := by
  unfold Dev.vec1
  exact h.step1 Canonical.retire

theorem Canonical.vec2 {t opc bad f} (h : Canonical d) : Canonical (d.vec2 t opc bad f) := by
  unfold Dev.vec2
  exact h.step1 Canonical.retire

theorem Canonical.insVadd {t bad} (h : Canonical d) : Canonical (insVadd t bad d) := h.vec2

theorem Canonical.insVsub {t bad} (h : Canonical d) : Canonical (insVsub t bad d) := h.vec2

theorem Canonical.insVmul {t bad} (h : Canonical d) : Canonical (insVmul t bad d) := h.vec2

theorem Canonical.insVdiv {t bad} (h : Canonical d) : Canonical (insVdiv t bad d) := h.vec2

theorem Canonical.insVsqrt {t bad} (h : Canonical d) : Canonical (insVsqrt t bad d) := h.vec1

theorem Canonical.insVfma {t bad} (h : Canonical d) : Canonical (insVfma t bad d) := by
  unfold Machine.insVfma
  exact h.step1 Canonical.retire

theorem Canonical.vecMax {t opc bad mn} (h : Canonical d) : Canonical (d.vecMax t opc bad mn) := by
  unfold Dev.vecMax
  exact h.step1 fun h => h.usedFree.retire

theorem Canonical.insVmax {t bad} (h : Canonical d) : Canonical (insVmax t bad d) := h.vecMax

theorem Canonical.insVmin {t bad} (h : Canonical d) : Canonical (insVmin t bad d) := h.vecMax

theorem Canonical.insVcmp {t bad} (h : Canonical d) : Canonical (insVcmp t bad d) := by
  unfold Machine.insVcmp
  exact h.step1 Canonical.retire

theorem Canonical.insVsel {t bad} (h : Canonical d) : Canonical (insVsel t bad d) := by
  unfold Machine.insVsel
  exact h.step1 Canonical.retire

theorem Canonical.insVredsum {t bad} (h : Canonical d) : Canonical (insVredsum t bad d) := by
  unfold Machine.insVredsum
  exact h.step1 Canonical.retire

theorem Canonical.insVredmax {t bad} (h : Canonical d) : Canonical (insVredmax t bad d) := by
  unfold Machine.insVredmax
  exact h.step1 Canonical.retire

theorem Canonical.insVbcast {t bad} (h : Canonical d) : Canonical (insVbcast t bad d) := by
  unfold Machine.insVbcast
  exact h.step1 Canonical.retire

theorem Canonical.insVextr {t bad} (h : Canonical d) : Canonical (insVextr t bad d) := by
  unfold Machine.insVextr
  exact h.step1 Canonical.retire

theorem Canonical.vecApprox {t opc fn bad} (h : Canonical d) : Canonical (d.vecApprox t opc fn bad) := by
  unfold Dev.vecApprox
  exact h.step1 fun h => h.usedFree.retire

theorem Canonical.insVexp2 {t bad} (h : Canonical d) : Canonical (insVexp2 t bad d) := h.vecApprox

theorem Canonical.insVlog2 {t bad} (h : Canonical d) : Canonical (insVlog2 t bad d) := h.vecApprox

theorem Canonical.insVrcp {t bad} (h : Canonical d) : Canonical (insVrcp t bad d) := h.vecApprox

theorem Canonical.insVrsqrt {t bad} (h : Canonical d) : Canonical (insVrsqrt t bad d) := h.vecApprox

theorem Canonical.insVtanh {t bad} (h : Canonical d) : Canonical (insVtanh t bad d) := h.vecApprox

theorem Canonical.insVsigm {t bad} (h : Canonical d) : Canonical (insVsigm t bad d) := h.vecApprox

theorem Canonical.insVrng {t bad} (h : Canonical d) : Canonical (insVrng t bad d) := by
  unfold Machine.insVrng
  exact h.step1 Canonical.retire

theorem Canonical.insVld {t bad} (h : Canonical d) : Canonical (insVld t bad d) := by
  unfold Machine.insVld
  exact h.step1 fun h => .ite h.exc (.ite h.exc (h.load fun h => h.usedFree.retire))

theorem Canonical.insVst {t bad} (h : Canonical d) : Canonical (insVst t bad d) :=
  h.step1 fun h => .ite h.exc (.ite h.exc (.ite h.store1.count h.store1))

/-! ### Machine/TileAsync -/

theorem Canonical.modOp {t token f} (h : Canonical d) : Canonical (d.modOp t token f) := h.modTile

theorem Canonical.startAsync {t q} (h : Canonical d) : Canonical (d.startAsync t q) := by
  unfold Dev.startAsync
  split
  · exact h
  · exact .ite h (.ite h.modOp h.modOp.upd)

theorem Canonical.issueAsync {t w k o} (h : Canonical d) : Canonical (d.issueAsync t w k o) :=
  .startAsync (.setTile (.ite h.tagIns.count.count h.tagIns.count))

theorem Canonical.asyncIssue {t n bad k body} (h : Canonical d)
    (hbody : ∀ {a0 a1 a2 a3 e}, Canonical e → Canonical (body a0 a1 a2 a3 e)) :
    Canonical (d.asyncIssue t n bad k body) :=
  h.step1 fun he => .ite h (.ite he.exc (.ite he.exc (.ite he.sramMeet.issueAsync (hbody he.sramMeet))))

theorem Canonical.insMma {t bad} (h : Canonical d) : Canonical (insMma t bad d) := by
  unfold Machine.insMma
  refine h.asyncIssue fun h => ?_
  split
  · exact h.exc
  · exact h.issueAsync

theorem Canonical.insMmac {t bad} (h : Canonical d) : Canonical (insMmac t bad d) := by
  unfold Machine.insMmac
  refine h.asyncIssue fun h => ?_
  split
  · exact h.exc
  · exact .issueAsync (.ite h.bindCtx h)

theorem Canonical.rowsMeet {t rs bad} (h : Canonical d) : Canonical (d.rowsMeet t rs bad) :=
  h.each fun h => h.each Canonical.sramMeet

theorem Canonical.histWrite {t k bins} (h : Canonical d) : Canonical (d.histWrite t k bins) := .ite h h.sramWrite

theorem Canonical.mmaRun {t k bad} (h : Canonical d) : Canonical (d.mmaRun t k bad).1 := by
  unfold Dev.mmaRun
  extract_lets rd d1 acc beats exact d2 d3
  have h1 : Canonical d1 := h.rowsMeet
  split
  · dsimp only
    exact h1.modTile
  · have h3 : Canonical d3 := h1.count.modTile
    split
    · dsimp only
      exact h3.modTile
    · dsimp only
      exact (Canonical.each h3 .sramWrite).count.count.histWrite

theorem Canonical.insXfer {t bad} (h : Canonical d) : Canonical (insXfer t bad d) :=
  h.asyncIssue fun h => .ite h.exc (.ite h.exc (.ite h.exc (.ite h.exc h.issueAsync)))

theorem Canonical.xferRun {t k bad} (h : Canonical d) : Canonical (d.xferRun t k bad).1 :=
  .iteFst h (.iteFst (.iteFst h.sramMeet h.sramMeet.memWrite) (.iteFst h h.sramWrite))

theorem Canonical.xferTrig {t k} (h : Canonical d) : Canonical (d.xferTrig t k) := .ite h.ownAdvance h

theorem Canonical.insCinj {t bad} (h : Canonical d) : Canonical (insCinj t bad d) :=
  h.asyncIssue fun h => .ite h.exc (.ite h.exc h.issueAsync)

theorem Canonical.insGpost {t bad} (h : Canonical d) : Canonical (insGpost t bad d) :=
  h.asyncIssue Canonical.issueAsync

theorem Canonical.makeBlocks {t o bad} (h : Canonical d) : Canonical (d.makeBlocks t o bad) := by
  unfold Dev.makeBlocks
  exact .ite h (.modOp (.iteFst h.mmaRun h))

theorem Canonical.injectBlock {t q bad} (h : Canonical d) : Canonical (d.injectBlock t q bad) := by
  unfold Dev.injectBlock
  split
  · exact h
  · split
    · exact h
    · split
      · exact h
      · extract_lets +onlyGivenNames _ _ _
        split
        · exact h.sramMeet.modOp
        · extract_lets +onlyGivenNames _
          split
          · exact .modOp (.ofPair ‹_› h.sramMeet.trySend)
          · exact .ofPair ‹_› h.sramMeet.trySend
          · exact .modOp (.ofPair ‹_› h.sramMeet.trySend)

theorem Canonical.blockInjection {t q bad} (h : Canonical d) : Canonical (blockInjection t q bad d) := by
  unfold Machine.blockInjection
  split
  · exact h
  · split
    · exact h
    · extract_lets +onlyGivenNames _
      split
      · split
        · exact .ite h.makeBlocks h.makeBlocks.slotWait
        · exact h.makeBlocks
      · exact h.makeBlocks.injectBlock

theorem Canonical.injectReady {t} (h : Canonical d) : Canonical (d.injectReady t) := by
  unfold Dev.injectReady
  refine h.each fun h => ?_
  split
  · exact h
  · exact h.each Canonical.injectBlock

theorem Canonical.asyncDone {t q o err} (h : Canonical d) : Canonical (d.asyncDone t q o err) := by
  unfold Dev.asyncDone
  refine .tryEnd ?_
  refine .startAsync ?_
  refine .modTile ?_
  split
  · exact h.traceIns
  · exact h

theorem Canonical.asyncInstructionComplete {t q bad} (h : Canonical d) :
    Canonical (asyncInstructionComplete t q bad d) := by
  unfold Machine.asyncInstructionComplete
  split
  · exact h
  · split
    · exact .ite h.asyncDone h.mmaRun.asyncDone
    · exact .ite h.asyncDone (.asyncDone (.ite h.xferRun h.xferRun.xferTrig))
    · exact .ite h.asyncDone h
    · exact .ite h.asyncDone h

theorem Canonical.tileLaunch {aseq} (h : Canonical d) : Canonical (tileLaunch aseq d) := by
  unfold Machine.tileLaunch
  refine h.cmd fun h => ?_
  split
  · exact h.complete
  · split
    · exact .complete (.ofPair ‹_› h.launch)

/-! ### Machine/Slot -/

theorem Canonical.doSlot {a} (h : Canonical d) : Canonical (d.doSlot a) := by
  unfold Dev.doSlot
  split
  · exact h.injectReady
  · exact .ite h.sendPartial h
  · exact .ite h.storeResult h
  · split
    · exact h
    · exact h.sendMore
  · exact .ite h.startOp h
  · split
    · exact h
    · exact .ite h.setTile.startProgram h

theorem Canonical.slotStart (h : Canonical d) : Canonical (slotStart d) :=
  .ite h (h.each fun h => .ite h.upd.doSlot.upd h.upd.doSlot)

theorem Canonical.slotGuardBand (h : Canonical d) : Canonical (slotGuardBand d) := .ite h (.ite h h.set.count)

/-! ### Machine/CfgCheck -/

theorem Canonical.applySets {s qs glob} (h : Canonical d) : Canonical (d.applySets s qs glob) := by
  unfold Dev.applySets
  refine h.each fun h => ?_
  split
  · exact h
  · exact .ite h.wr h

theorem Canonical.layout {q b} (h : Canonical d) : Canonical (d.layout q b) :=
  .each (h.wr.wr.each Canonical.wr) fun h => h.each fun h => h.wr.wr

theorem Canonical.profResult {q r} (h : Canonical d) : Canonical (d.profResult q r) := h.wr.wr.wr.wrSat

theorem Canonical.loadResult {q r} (h : Canonical d) : Canonical (d.loadResult q r) := h.wr.wr.wr

/-! ### Machine/Cfg -/

theorem Canonical.syncMap (h : Canonical d) : Canonical d.syncMap := h.each Canonical.wr

theorem Canonical.writeTables {s qs glob} (h : Canonical d) : Canonical (d.writeTables s qs glob) :=
  .ite (.each (h.each fun h => h.each Canonical.upd) Canonical.upd) (.ite (h.each fun h => .each (h.each
    Canonical.upd) Canonical.upd) (.ite (.ite (h.each Canonical.setHoist) h) (.ite (h.each fun h => .each (h.each
    Canonical.upd) Canonical.upd) (.ite (.ite (h.each Canonical.upd) h) h))))

theorem Canonical.writeSect {s qs glob} (h : Canonical d) : Canonical (d.writeSect s qs glob) :=
  h.applySets.writeTables

theorem Canonical.relay {q b} (h : Canonical d) : Canonical (d.relay q b) := h.layout.upd.each Canonical.syncPool

theorem Canonical.bootProfile {q} (h : Canonical d) : Canonical (d.bootProfile q) := h.layout

theorem Canonical.reloadQuadrant {q} (h : Canonical d) : Canonical (d.reloadQuadrant q) := by
  unfold Dev.reloadQuadrant
  extract_lets +onlyGivenNames _ _ _ d1
  have h1 : Canonical d1 := by
    unfold d1
    split
    · exact .relay (h.each Canonical.writeSect)
    · exact .bootProfile (h.each Canonical.writeSect)
  refine .syncRteStat ?_
  split
  · exact h1.upd
  · exact h1

theorem Canonical.loadShadow {ss digest} (h : Canonical d) : Canonical (d.loadShadow ss digest) :=
  .syncRteStat (h.each fun h => h.each Canonical.upd)

theorem Canonical.shadowInvalid (h : Canonical d) : Canonical d.shadowInvalid := .syncRteStat (h.each Canonical.upd)

theorem Canonical.finishCommit {c} (h : Canonical d) : Canonical (d.finishCommit c) := by
  unfold Dev.finishCommit
  extract_lets x1 d1 rest d2 d3 x3 d4 x4 d5 bs d6 x6 d7 d8
  have h2 : Canonical d2 := .syncMap (.each h.upd Canonical.writeSect)
  have h3 : Canonical d3 := .ite h2 h2.syncServo
  have h4 : Canonical d4 := .ite h3 (.wr h3.upd)
  have h5 : Canonical d5 := .ite h4 (.wr h4.upd)
  have h6 : Canonical d6 := h5.each Canonical.wrBit
  have h8 : Canonical d8 := .each h6.upd fun h => h.setLaneState.modLane.emit
  split
  · exact h8.commitEnd
  · exact .ite (.makeSwitch (.syncRteStat h8.upd)) (.syncRteStat h8.upd)

theorem Canonical.relayAll {c} (h : Canonical d) : Canonical (d.relayAll c) :=
  .retryOut (.upd (.each (.each (.each (h.each Canonical.portDown) Canonical.applySets) fun h => h.each
    Canonical.relay) fun h => .sendPause (h.each Canonical.returnCredit)))

theorem Canonical.refuseCommit {aseq st sect detail} (h : Canonical d) :
    Canonical (d.refuseCommit aseq st sect detail) :=
  h.commitEnd

theorem Canonical.runCommit {c digest} (h : Canonical d) : Canonical (d.runCommit c digest) := by
  unfold Dev.runCommit
  extract_lets +onlyGivenNames _ _ d2
  have h2 : Canonical d2 := h.each Canonical.profResult
  extract_lets +onlyGivenNames _ _
  split
  · exact h2.refuseCommit
  · split
    · exact h2.refuseCommit
    · split
      · exact h2.refuseCommit
      · extract_lets +onlyGivenNames _ d3
        have h3 : Canonical d3 := h2.each Canonical.loadResult
        split
        · exact h3.shadowInvalid.refuseCommit
        · extract_lets +onlyGivenNames _
          split
          · exact .refuseCommit (.ite h3 h3.shadowInvalid)
          · extract_lets +onlyGivenNames _
            split
            · exact .refuseCommit (.ite h3 h3.shadowInvalid)
            · exact .ite (.finishCommit (.relayAll (.ite h3 h3.loadShadow))) (.each (.upd (.ite h3 h3.loadShadow))
                Canonical.sendPause)

theorem Canonical.cfgCommit {aseq bodies sig} (h : Canonical d) : Canonical (cfgCommit aseq bodies sig d) := by
  unfold Machine.cfgCommit
  split
  · exact h
  · extract_lets +onlyGivenNames _
    split
    · exact h
    · split
      · exact h
      · exact h.cmd Canonical.commitEnd
      · refine h.cmd fun h => ?_
        extract_lets +onlyGivenNames _
        split
        · exact h.commitEnd
        · split
          · exact h.refuseCommit
          · split
            · exact h.refuseCommit
            · exact .ite h.refuseCommit (.ite h.refuseCommit h.runCommit)

theorem Canonical.quadrantRelayDrained {q} (h : Canonical d) : Canonical (quadrantRelayDrained q d) := by
  unfold Machine.quadrantRelayDrained
  split
  · exact h
  · exact .ite h (.ite h.upd.relayAll h.upd)

theorem Canonical.cfgCommitDrainComplete (h : Canonical d) : Canonical (cfgCommitDrainComplete d) := by
  unfold Machine.cfgCommitDrainComplete
  split
  · exact h
  · split
    · exact h.finishCommit
    · split
      · extract_lets +onlyGivenNames _
        split
        · exact h.relayAll.finishCommit
        · exact h.relayAll
      · exact h

theorem Canonical.bufProfileDrainTimeout (h : Canonical d) : Canonical (bufProfileDrainTimeout d) := by
  unfold Machine.bufProfileDrainTimeout
  split
  · exact h
  · exact .ite h (.retryOut (.refuseCommit (.ite (h.upd.each Canonical.sendPause) (.shadowInvalid (h.upd.each
      Canonical.sendPause)))))

theorem Canonical.cfgCommitCancel {aseq} (h : Canonical d) : Canonical (cfgCommitCancel aseq d) := by
  unfold Machine.cfgCommitCancel
  split
  · exact h
  · split
    · exact h
    · refine h.cmd fun h => ?_
      split
      · exact h.commitEnd
      · exact .ite h.commitEnd (.complete (.wr (.commitEnd (.syncRteStat (.ite h.upd.cancelEdgePauses h.upd)))))

theorem Canonical.atTimeSwitch (h : Canonical d) : Canonical (atTimeSwitch d) := by
  unfold Machine.atTimeSwitch
  split
  · exact .ite h.makeSwitch h
  · exact h

theorem Canonical.drainStart (h : Canonical d) : Canonical (drainStart d) := by
  unfold Machine.drainStart
  split
  · exact .ite (h.upd.syncRteStat.each Canonical.sendPause) h
  · exact h

theorem Canonical.drainComplete (h : Canonical d) : Canonical (drainComplete d) := by
  unfold Machine.drainComplete
  split
  · split
    · dsimp only
      split
      · exact .ofPair ‹_› h.upd.hoistJoin
      · exact .abandonSwitch (.ofPair ‹_› h.upd.hoistJoin)
    · exact h
  · exact h

theorem Canonical.drainPauseCancel (h : Canonical d) : Canonical (drainPauseCancel d) := by
  unfold Machine.drainPauseCancel
  split
  · exact .ite h.upd.cancelEdgePauses h
  · exact h

/-! ### Machine/Power -/

theorem Canonical.modPwr {f} (h : Canonical d) : Canonical (d.modPwr f) := h.upd

theorem Canonical.parkTiles (h : Canonical d) : Canonical d.parkTiles := h.each fun h => .ite h.setTileState h

theorem Canonical.resumeTiles (h : Canonical d) : Canonical d.resumeTiles :=
  h.each fun h => .ite h (.ite h.setTileState h.setTileState.startNext)

theorem Canonical.pauseAll {ptime} (h : Canonical d) : Canonical (d.pauseAll ptime) := h.each Canonical.sendPause

theorem Canonical.opDone {st} (h : Canonical d) : Canonical (d.opDone st) := by
  unfold Dev.opDone
  dsimp only
  split
  · exact .complete (h.wr.wr.modPwr.each Canonical.count)
  · exact h.wr.wr.modPwr.each Canonical.count

theorem Canonical.leaveStandby (h : Canonical d) : Canonical d.leaveStandby :=
  .wr (h.each fun h => .ite (h.each Canonical.wakeLane) h)

theorem Canonical.opSet {aseq} (h : Canonical d) : Canonical (opSet aseq d) :=
  h.cmd fun h => .ite h.complete (.ite h.complete (.ite h.modPwr.opDone (.ite h.modPwr.wr.pauseAll.parkTiles.modPwr
    (.ite (.modPwr (.ite h.modPwr.wr.wr.leaveStandby h.modPwr.wr.wr)) h.modPwr.wr.wr.modPwr))))

theorem Canonical.railRampSettled {v} (h : Canonical d) : Canonical (railRampSettled v d) := by
  unfold Machine.railRampSettled
  extract_lets +onlyGivenNames _
  split
  · exact h
  · extract_lets +onlyGivenNames d1
    have h1 : Canonical d1 := h.each Canonical.wr
    exact .ite h1.wr.wr (.opDone (.ite (.ite (.wr (.each (h1.wr.wr.wr.each fun h => .ite h.set h) fun h => .ite
      (h.each Canonical.quietLane) h)) (h1.wr.wr.wr.each fun h => .ite h.set h)) h1.wr.wr.wr))

theorem Canonical.op3DrainComplete (h : Canonical d) : Canonical (op3DrainComplete d) := .ite h h.wr.modPwr

theorem Canonical.op3Abandon {st} (h : Canonical d) : Canonical (d.op3Abandon st) := by
  unfold Dev.op3Abandon
  exact h.pauseAll.wr.resumeTiles.opDone

theorem Canonical.op3DrainTimeout (h : Canonical d) : Canonical (op3DrainTimeout d) := by
  unfold Machine.op3DrainTimeout
  exact .ite h.op3Abandon h

theorem Canonical.op3ExitComplete (h : Canonical d) : Canonical (op3ExitComplete d) :=
  .ite h (.opDone (.resumeTiles (.wr (h.pauseAll.each Canonical.wr))))

theorem Canonical.regulation {pv} (h : Canonical d) : Canonical (regulation pv d) := by
  unfold Machine.regulation
  extract_lets +onlyGivenNames _ _ d1
  have h1 : Canonical d1 := .ite h.set.set.pend h.set.set
  exact .ite (.ite h1.faultEvent.wr.op3Abandon h1.faultEvent.wr.opDone) h1.faultEvent

theorem Canonical.belowPennant {q} (h : Canonical d) : Canonical (d.belowPennant q) := h.modPwr.sendEvent

theorem Canonical.settleVout {q} (h : Canonical d) : Canonical (d.settleVout q) := .ite h (.wr (.ite h.wr h))

theorem Canonical.qmarginWindow {q m} (h : Canonical d) : Canonical (qmarginWindow q m d) := by
  unfold Machine.qmarginWindow
  split
  · exact h
  · extract_lets +onlyGivenNames _ d1
    have h1 : Canonical d1 := h.wr.wr.usedFree.settleVout.wr
    exact .ite h1.wr.wr (.ite (.ite h1.wr.count.set.set.pend.belowPennant h1.wr.count.set.set.pend) h1.wr.count)

theorem Canonical.belowLinePennantRepeat {q} (h : Canonical d) : Canonical (belowLinePennantRepeat q d) :=
  .ite h.belowPennant h

theorem Canonical.qmarginBelowSeenClear {q} (h : Canonical d) : Canonical (qmarginBelowSeenClear q d) := h.wr.wr

theorem Canonical.syncLmod {e} (h : Canonical d) : Canonical (d.syncLmod e) :=
  h.each fun h => .ite (.ite h.modPwr h.modPwr.wrBit.emit) (.ite h.modPwr h)

theorem Canonical.lmodLow {m} (h : Canonical d) : Canonical (d.lmodLow m) := .ite h.modPwr.wrBit.emit h.modPwr

theorem Canonical.lmodEnOffDelay {m} (h : Canonical d) : Canonical (lmodEnOffDelay m d) := by
  unfold Machine.lmodEnOffDelay
  split
  · exact .ite h.lmodLow h
  · exact h

theorem Canonical.lmodFltChange {m low} (h : Canonical d) : Canonical (lmodFltChange m low d) :=
  .ite h.wrBit.modPwr h.wrBit

theorem Canonical.oeOff {e} (h : Canonical d) : Canonical (d.oeOff e) := by
  unfold Dev.oeOff
  refine .each ?_ (fun h => h.setLaneState.modLane.emit)
  refine h.each fun h => ?_
  split
  · refine .setPort ?_
    split
    · exact h.portDown.complete
    · exact h.portDown
  · exact h

theorem Canonical.tileOff {t} (h : Canonical d) : Canonical (d.tileOff t) :=
  have ho : Canonical ((((d.resetTile t 1).each _ _).setTileState t tsOff).setSram t []) :=
    .setSram (.setTileState (h.resetTile.each fun h => .ite h h.killHolder)) rfl
  ho.upd

theorem Canonical.clusterOff {q} (h : Canonical d) : Canonical (d.clusterOff q) :=
  h.killCtxs.flushAttach.setPd.syncEngines

theorem Canonical.hbmOff {q} (h : Canonical d) : Canonical (d.hbmOff q) := by
  unfold Dev.hbmOff
  extract_lets d1 d2 d3 x3 d4
  have h3 : Canonical d3 :=
    .each (.each (h.each fun h => .ite h h.killHolder) Canonical.setModel) fun h => h.each Canonical.setSession
  have h4 : Canonical d4 := .upd (h3.setHbm (q := q) (m := []) rfl)
  exact h4.syncModels

theorem Canonical.quadOff {q} (h : Canonical d) : Canonical (d.quadOff q) :=
  .syncMesh (.each (.upd (.each (.killTokens (h.each Canonical.killOp)) Canonical.killHolder)) fun h => h.wr.wr)

theorem Canonical.domainOff {pd} (h : Canonical d) : Canonical (d.domainOff pd) :=
  .ite h (.ite (.syncLmod (.setPd (.ite h.oeOff (.ite h.tileOff (.ite h.quadOff (.ite h.clusterOff (.ite h.hbmOff
    (.ite h.stopStore.dropPrograms.modStore.wr.syncStore (.ite (h.each Canonical.chanFlr) h))))))))) (.setPd (.ite
    h.oeOff (.ite h.tileOff (.ite h.quadOff (.ite h.clusterOff (.ite h.hbmOff (.ite
    h.stopStore.dropPrograms.modStore.wr.syncStore (.ite (h.each Canonical.chanFlr) h)))))))))

theorem Canonical.freshDomain {pd} (h : Canonical d) : Canonical (d.freshDomain pd) :=
  .upd (h.each Canonical.resetFields)

theorem Canonical.tileOn {t} (h : Canonical d) : Canonical (d.tileOn t) := h.wr.setEcc.setTileState

theorem Canonical.quadOn {q} (h : Canonical d) : Canonical (d.quadOn q) :=
  .each (.syncEngines (.syncCol (.reloadQuadrant (.syncMesh (h.each fun h => h.wr.wr))))) fun h => .ite h.syncExcl h

theorem Canonical.hbmOn {q} (h : Canonical d) : Canonical (d.hbmOn q) := h.wr.wr.wr.usedFree.setStack.syncMap

theorem Canonical.tripBoot (h : Canonical d) : Canonical d.tripBoot := .ite h.modBoot h

theorem Canonical.domainOn {pd} (h : Canonical d) : Canonical (d.domainOn pd) := by
  unfold Dev.domainOn
  split
  · exact h
  · extract_lets +onlyGivenNames d1
    have h1 : Canonical d1 := h.freshDomain.setPd
    exact .ite h1.syncLmod (.ite h1.tileOn (.ite h1.quadOn (.ite h1.syncEngines (.ite h1.hbmOn (.ite h1.modBoot
      h1)))))

theorem Canonical.pdNext (h : Canonical d) : Canonical d.pdNext := by
  unfold Dev.pdNext
  extract_lets +onlyGivenNames _ _
  split
  · exact .ite (.complete (.modPwr (.ite h.modPwr.modPwr.emit h.modPwr))) h.modPwr
  · exact h.modPwr

theorem Canonical.pdSet {aseq} (h : Canonical d) : Canonical (pdSet aseq d) :=
  .ite h (h.cmd fun h => .ite h.complete h.modPwr.pdNext)

theorem Canonical.startDomains (h : Canonical d) : Canonical d.startDomains := h.modPwr.pdNext

theorem Canonical.domainOnComplete {pd} (h : Canonical d) : Canonical (domainOnComplete pd d) :=
  .ite h.domainOn.pdNext h

theorem Canonical.domainOffComplete {pd} (h : Canonical d) : Canonical (domainOffComplete pd d) :=
  .ite h.domainOff.pdNext h

theorem Canonical.syncGate (h : Canonical d) : Canonical d.syncGate := .ite h.wr.wr.set.pend h.wr.wr

theorem Canonical.thermalTrip {sensor} (h : Canonical d) : Canonical (d.thermalTrip sensor) := by
  unfold Dev.thermalTrip
  refine .tripBoot ?_
  refine .each ?_ Canonical.lmodLow
  refine .each ?_ Canonical.domainOff
  split
  · exact .complete (.modPwr (h.faultEvent.modPwr.emit.edgeAbort.each Canonical.abortEdge))
  · exact .modPwr (h.faultEvent.modPwr.emit.edgeAbort.each Canonical.abortEdge)

theorem Canonical.cooled (h : Canonical d) : Canonical d.cooled := h.modBoot.modPwr.emit.wr.startDomains

theorem Canonical.junctionTemperatureChange {tj sensor} (h : Canonical d) :
    Canonical (junctionTemperatureChange tj sensor d) := by
  unfold Machine.junctionTemperatureChange
  extract_lets +onlyGivenNames _ _ _ _ _ _ d1
  have h1 : Canonical d1 := .syncGate (.modPwr (.ite h.wr.wr.wr.set.pend h.wr.wr.wr))
  exact .ite h1.thermalTrip (.ite h1.cooled h1)

theorem Canonical.powerLimitWindow {watts} (h : Canonical d) : Canonical (powerLimitWindow watts d) :=
  .ite h.modPwr.modPwr.usedFree.syncGate h.modPwr.modPwr.syncGate

theorem Canonical.oeClass {aseq} (h : Canonical d) : Canonical (oeClass aseq d) :=
  h.cmd fun h => .ite h.complete (.ite h.complete (.complete (h.each Canonical.wr)))

/-! ### Machine/BootBase -/

theorem Canonical.startMarch {t mode job} (h : Canonical d) : Canonical (d.startMarch t mode job) :=
  .ite h.wr.wr.wr.setEcc.count h.wr.wr.wr.setEcc.count.setTileState

theorem Canonical.toPhase {ph} (h : Canonical d) : Canonical (d.toPhase ph) := h.upd.modBoot.wr

theorem Canonical.checkTested (h : Canonical d) : Canonical d.checkTested := .ite h.toPhase h

theorem Canonical.syncYield (h : Canonical d) : Canonical d.syncYield := h.wr

theorem Canonical.setSite {t site} (h : Canonical d) : Canonical (d.setSite t site) := h.wr.syncYield

theorem Canonical.siteFails {t} (h : Canonical d) : Canonical (d.siteFails t) := by
  unfold Dev.siteFails
  split
  · exact h.setSite.count.recordNew.setEcc.modBoot.wr.startMarch
  · exact h.setSite.set.recordNew.domainOff.modBoot

theorem Canonical.marchBoot {t bad} (h : Canonical d) : Canonical (d.marchBoot t bad) :=
  .checkTested (.ite (.toPhase (.ite h.count.siteFails h.modBoot)) (.ite h.count.siteFails h.modBoot))

theorem Canonical.failStack {q} (h : Canonical d) : Canonical (d.failStack q) :=
  h.wrBit.set.recordNew.domainOff.wr.modBoot.syncModels

theorem Canonical.bootStops (h : Canonical d) : Canonical d.bootStops := h.toPhase.wr.modBoot.emit

/-! ### Machine/Memory -/

theorem Canonical.sramEccResetTimer {t} (h : Canonical d) : Canonical (sramEccResetTimer t d) := by
  unfold Machine.sramEccResetTimer
  split
  · exact .ite h.startReset.usedFree h
  · exact h

theorem Canonical.sramScrubPeriod {t hits} (h : Canonical d) : Canonical (sramScrubPeriod t hits d) :=
  .ite h (.each (h.setEcc.count.each Canonical.sramCorr) Canonical.sramUnc)

theorem Canonical.sramTest {aseq} (h : Canonical d) : Canonical (sramTest aseq d) :=
  h.cmd fun h => .ite h.complete (.ite h.complete (.ite h.complete (.ite h.complete (.ite h.complete (h.modJob.each
    Canonical.startMarch)))))

theorem Canonical.spareLines {t lines} (h : Canonical d) : Canonical (d.spareLines t lines).1 :=
  h.foldlFst fun h => .iteFst h (.iteFst h h.setEcc.bump)

theorem Canonical.marchTestComplete {t lines spareBad unc} (h : Canonical d) :
    Canonical (marchTestComplete t lines spareBad unc d) := by
  unfold Machine.marchTestComplete
  split
  · exact h
  · extract_lets e0
    split
    rename_i d1 n short hx
    extract_lets d2 bad d3 e3 d4 d5 d6 d7
    have h3 : Canonical d3 := .wr (.recordNew (.wrSat (.ofPair hx h.setEcc.spareLines)))
    have h5 : Canonical d5 := .syncPoison (h3.setEcc.setSram rfl)
    have h6 : Canonical d6 := .ite (h3.each Canonical.sramUnc) (.ite h5.setTileState.startNext h5)
    have h7 : Canonical d7 := .ite h6.marchBoot (.ite h6.domainOff h6)
    split
    · exact h7.jobStep
    · exact h7

theorem Canonical.spareRow {q row} (h : Canonical d) : Canonical (d.spareRow q row) :=
  .ite h (.ite h.set h.setStack.wr.count.recordNew)

theorem Canonical.hbmUnc {q a} (h : Canonical d) : Canonical (d.hbmUnc q a).1 :=
  .iteFst h h.setStack.faultEvent.set.count.wr.wr.wr.set.spareRow

theorem Canonical.hbmCorr {q a} (h : Canonical d) : Canonical (d.hbmCorr q a) :=
  .ite h.bump.count.setStack.spareRow h.bump.count.setStack

theorem Canonical.hbmAnswer {q u} (h : Canonical d) : Canonical (d.hbmAnswer q u) := by
  unfold Dev.hbmAnswer
  split
  · exact h
  · exact .ite h.abortCtx h
  · exact .ite h.failModel h
  · exact .ite h.setSession h
  · split
    · exact h
    · exact .ite h.setBunt.set.count h

theorem Canonical.hbmUncorrectable {q addr user} (h : Canonical d) : Canonical (hbmUncorrectable q addr user d) :=
  .ite h h.hbmUnc.hbmAnswer

theorem Canonical.hbmPatrolScrub {q unc corr ondie} (h : Canonical d) :
    Canonical (hbmPatrolScrub q unc corr ondie d) :=
  .ite h (.each (h.setStack.count.bump.count.each Canonical.hbmCorr) Canonical.hbmUnc)

theorem Canonical.hbmRefreshDue {q} (h : Canonical d) : Canonical (hbmRefreshDue q d) := .ite h.setStack h

theorem Canonical.holdChannel {q ch single} (h : Canonical d) : Canonical (d.holdChannel q ch single) :=
  h.setStack.set.wr

theorem Canonical.startRetrain {q} (h : Canonical d) : Canonical (d.startRetrain q) := .ite h h.holdChannel.count

theorem Canonical.hbmTempCheck {q temp} (h : Canonical d) : Canonical (hbmTempCheck q temp d) :=
  .ite h (.ite h.setStack.wr.startRetrain h.setStack.wr)

theorem Canonical.hbmChannelRetrainDone {q ok} (h : Canonical d) : Canonical (hbmChannelRetrainDone q ok d) := by
  unfold Machine.hbmChannelRetrainDone
  extract_lets s ch d1 d2 x2 d3
  split
  · exact h
  · have h3 : Canonical d3 := .ite h.setStack h.setStack.set.faultEvent.setStack
    exact .ite h (.ite h3.clr (.ite h3.wr.clr h3.setStack))

theorem Canonical.hbmChannelRetrainNext {q} (h : Canonical d) : Canonical (hbmChannelRetrainNext q d) := by
  unfold Machine.hbmChannelRetrainNext
  split
  · exact .ite h.holdChannel h
  · exact h

theorem Canonical.hbmRetrainRetry {q} (h : Canonical d) : Canonical (hbmRetrainRetry q d) := by
  unfold Machine.hbmRetrainRetry
  split
  · exact .ite h.setStack.holdChannel h
  · exact h

/-! ### Machine/Models -/

theorem Canonical.modelRefused {aseq status check} (h : Canonical d) : Canonical (d.modelRefused aseq status check) :=
  h.set.complete

theorem Canonical.modelFetch {aseq} (h : Canonical d) : Canonical (modelFetch aseq d) := by
  unfold Machine.modelFetch
  refine h.storeCmd fun h => ?_
  split
  · exact h.modelRefused
  · extract_lets +onlyGivenNames _
    split
    · exact h.modelRefused
    · split
      · exact h.modelRefused
      · exact .ite h.modelRefused h.setModel.startRead.syncModels

theorem Canonical.modelFetchComplete {s sig} (h : Canonical d) : Canonical (modelFetchComplete s sig d) := by
  unfold Machine.modelFetchComplete
  split
  · extract_lets +onlyGivenNames _
    split
    · exact .modelRefused (.syncModels (.ite h.delJob.setModel.set h.delJob.setModel))
    · exact .ite h.delJob.setModel.syncModels.modelRefused h.delJob.setModel.syncModels.complete
  · exact h

theorem Canonical.takeReady {s t mask aseq} (h : Canonical d) : Canonical (d.takeReady s t mask aseq) :=
  h.setTrig.setModel

theorem Canonical.beginLoad {s} (h : Canonical d) : Canonical (d.beginLoad s) := h.setModel.syncModels

theorem Canonical.modelLoad {aseq sig} (h : Canonical d) : Canonical (modelLoad aseq sig d) := by
  unfold Machine.modelLoad
  refine h.cmd fun h => ?_
  extract_lets +onlyGivenNames _ _ _
  split
  · exact h.modelRefused
  · split
    · exact h.modelRefused
    · extract_lets +onlyGivenNames _
      split
      · exact h.modelRefused
      · split
        · exact h.modelRefused
        · extract_lets +onlyGivenNames _
          split
          · exact h.modelRefused
          · split
            · exact h.modelRefused
            · exact h.takeReady.beginLoad

theorem Canonical.loadTile {s t k} (h : Canonical d) : Canonical (d.loadTile s t k) := by
  unfold Dev.loadTile
  extract_lets +onlyGivenNames _
  split
  · exact h
  · exact h.sramWrite.sramWrite.usedFree.usedFree.usedFree.modTile.usedFree.launch

theorem Canonical.modelLoadSectionsWritten {s} (h : Canonical d) : Canonical (modelLoadSectionsWritten s d) :=
  .ite h (.syncModels (h.setModel.each Canonical.loadTile))

theorem Canonical.stopServe {s} (h : Canonical d) : Canonical (d.stopServe s) :=
  h.each fun h => .ite h.upd.setTile.setTileState h

theorem Canonical.modelSwap {aseq sig} (h : Canonical d) : Canonical (modelSwap aseq sig d) := by
  unfold Machine.modelSwap
  refine h.cmd fun h => ?_
  extract_lets +onlyGivenNames _ _ _ _
  split
  · exact h.modelRefused
  · split
    · exact h.modelRefused
    · extract_lets +onlyGivenNames _
      split
      · exact h.modelRefused
      · extract_lets +onlyGivenNames _ _
        split
        · exact h.modelRefused
        · split
          · exact h.modelRefused
          · exact h.takeReady.setModel.count.syncModels

theorem Canonical.modelMove {aseq} (h : Canonical d) : Canonical (modelMove aseq d) := by
  unfold Machine.modelMove
  refine h.cmd fun h => ?_
  extract_lets +onlyGivenNames _ _ _
  split
  · exact h.modelRefused
  · split
    · exact h.modelRefused
    · extract_lets +onlyGivenNames _
      split
      · exact h.modelRefused
      · split
        · exact h.modelRefused
        · exact h.takeReady.setModel.syncModels

theorem Canonical.modelMoveStubExpiry {s} (h : Canonical d) : Canonical (modelMoveStubExpiry s d) := by
  unfold Machine.modelMoveStubExpiry
  extract_lets +onlyGivenNames _
  split
  · exact .ite h.setModel h
  · exact h

theorem Canonical.modelEvict {aseq} (h : Canonical d) : Canonical (modelEvict aseq d) :=
  h.cmd fun h => .ite h.complete (.ite h.complete (.ite h.complete (.complete (.syncModels (.setModel
    (h.loseSessions.stopServe.each Canonical.dropRequests))))))

-- BAD unknown fvar t; head HMod.hMod: d✝.free % 2 ^ 32
theorem Canonical.genRow {s i ls kv} (h : Canonical d) : Canonical (d.genRow s i ls kv).1 := by
  unfold Dev.genRow
  dsimp only
  split
  · exact h
  · split
    · exact .count (.setSession h)
    · exact .count (.setSession h.usedFree)

theorem Canonical.genRows {s i o n r} (h : Canonical d) : Canonical (d.genRows s i o n r).1 := by
  induction n generalizing d r with
  | zero => exact h
  | succ n ih =>
    unfold Dev.genRows
    split
    have hg := Canonical.ofPair ‹_› (h.genRow (s := s) (i := i) (ls := o.logits.getD r []) (kv := o.kv.getD r []))
    exact .iteFst hg (ih hg)

theorem Canonical.genStep {s i fl st} (h : Canonical d) : Canonical (d.genStep s i fl st) := by
  unfold Dev.genStep
  extract_lets +onlyGivenNames _
  split
  · exact h
  · split
    · exact h.set.endGen.dropRequests.setSession.answer
    · exact .ite h.endGen (.ite h.endGen (.ite h.setSession h.deliver256.setSession))

theorem Canonical.endWaiting {s is} (h : Canonical d) : Canonical (d.endWaiting s is) := by
  unfold Dev.endWaiting
  refine h.each fun h => ?_
  split
  · exact .ite h.genStep h
  · exact h

theorem Canonical.appendRow {s i kv} (h : Canonical d) : Canonical (d.appendRow s i kv) := by
  unfold Dev.appendRow
  extract_lets +onlyGivenNames _ _
  split
  · exact h
  · exact .ite h.setSession.count.answer h.setSession.count

theorem Canonical.modelStep {s dur out} (h : Canonical d) : Canonical (modelStep s dur out d) := by
  unfold Machine.modelStep
  extract_lets +onlyGivenNames _ _ _ _
  split
  · exact h
  · refine .syncModels ?_
    refine .endWaiting ?_
    refine .each (h.count.count.setModel.each Canonical.appendRow) fun h => ?_
    beta_reduce
    split
    · exact .genStep (.ofPair ‹_› h.genRows)

theorem Canonical.modelSwapStepDrained {s} (h : Canonical d) : Canonical (modelSwapStepDrained s d) := by
  unfold Machine.modelSwapStepDrained
  extract_lets +onlyGivenNames _
  split
  · exact .beginLoad (.setModel (.stopServe (.each (.ite (h.endWaiting.each Canonical.parkSession)
      h.endWaiting.loseSessions) Canonical.loseSession)))
  · exact h

/-! ### Machine/Serve -/

theorem Canonical.refuseReq {r slot status} (h : Canonical d) : Canonical (d.refuseReq r slot status) := by
  unfold Dev.refuseReq
  extract_lets +onlyGivenNames _ _
  split
  · exact h.sendRsp.count
  · exact h.sendRsp

theorem Canonical.testSession {r s f} (h : Canonical d) (hf : ∀ {a0 a1 e}, Canonical e → Canonical (f a0 a1 e)) :
    Canonical (d.testSession r s f) := by
  unfold Dev.testSession
  extract_lets +onlyGivenNames _ _ _ _ _ _
  split
  · exact h.refuseReq
  · split
    · split
      · exact h.refuseReq
      · exact hf h
    · split
      · exact h.refuseReq
      · split
        · exact h
        · split
          · exact h.sendRsp.count
          · exact .ite h.refuseReq (hf h)

theorem Canonical.testReq {r f} (h : Canonical d) (hf : ∀ {a0 a1 a2 e}, Canonical e → Canonical (f a0 a1 a2 e)) :
    Canonical (d.testReq r f) := by
  unfold Dev.testReq
  split
  · exact h.refuseReq
  · exact .ite h.count.refuseReq (.ite h.count.set.record (h.count.testSession fun h => hf h))

theorem Canonical.takeReq {pid p k x} (h : Canonical d) (hx : d.takeReq pid p = some (k, x, e)) : Canonical e := by
  unfold Dev.takeReq at hx
  split at hx
  · cases hx
  · split at hx
    · cases hx
    · split at hx
      · cases hx
      · split at hx
        · cases hx
        · cases hx
          exact (h.takeWhole ‹_›).release.retryOut

theorem Canonical.serve {pid op f} (h : Canonical d)
    (hf : ∀ {a0 a1 a2 a3 e}, Canonical e → Canonical (f a0 a1 a2 a3 e)) :
    Canonical (d.serve pid op f) := by
  unfold Dev.serve
  split
  · exact h
  · exact .testReq (h.takeReq ‹_›) fun h => hf h

theorem Canonical.serveOpen {pid} (h : Canonical d) : Canonical (serveOpen pid d) :=
  h.serve fun h => h.setSession.answer.syncModels

theorem Canonical.append {r s i x} (h : Canonical d) : Canonical (d.append r s i x) :=
  .ite h.refuseReq (.ite h.refuseReq (.ite h.answer h.setModel.setSession))

theorem Canonical.serveAppend {pid} (h : Canonical d) : Canonical (serveAppend pid d) := h.serve Canonical.append

theorem Canonical.serveGenerate {pid} (h : Canonical d) : Canonical (serveGenerate pid d) :=
  h.serve fun h => .ite h.refuseReq (.ite h.refuseReq h.setSession)

theorem Canonical.serveCancel {pid} (h : Canonical d) : Canonical (serveCancel pid d) := by
  unfold Machine.serveCancel
  refine h.serve fun h => ?_
  refine .answer ?_
  split
  · exact h.setSession
  · exact h

theorem Canonical.servePark {pid} (h : Canonical d) : Canonical (servePark pid d) :=
  h.serve fun h => .answer (.ite h.parkSession h)

theorem Canonical.serveResume {pid} (h : Canonical d) : Canonical (serveResume pid d) := by
  unfold Machine.serveResume
  refine h.serve fun h => ?_
  split
  · exact h.answer
  · split
    · exact h.setSession.loseSession.answer.syncModels
    · split
      · exact .answer (.ofPair ‹_› h.unparkSession)
      · exact .refuseReq (.ofPair ‹_› h.unparkSession)

theorem Canonical.serveClose {pid} (h : Canonical d) : Canonical (serveClose pid d) := by
  unfold Machine.serveClose
  refine h.serve fun h => ?_
  split
  · exact .ite h.dropRequests.setSession h.setSession.loseSession.syncModels
  · exact h.dropRequests.setSession.answer.syncModels

theorem Canonical.serveDataAppend {pid} (h : Canonical d) : Canonical (serveDataAppend pid d) := by
  unfold Machine.serveDataAppend
  split
  · exact h
  · exact .ite (.record (h.takeReq ‹_›)) (.testReq (h.takeReq ‹_›) Canonical.append)

theorem Canonical.serveSnapshot {pid} (h : Canonical d) : Canonical (serveSnapshot pid d) := by
  unfold Machine.serveSnapshot
  refine h.serve fun h => ?_
  extract_lets +onlyGivenNames _ _
  split
  · exact h.answer
  · split
    · exact h.answer
    · split
      · exact .ite (.answer (.ofPair ‹_› h.startWrite)) (.setSession (.ofPair ‹_› h.startWrite))

theorem Canonical.serveRestore {pid} (h : Canonical d) : Canonical (serveRestore pid d) := by
  unfold Machine.serveRestore
  refine h.serve fun h => ?_
  extract_lets +onlyGivenNames _
  split
  · exact h.refuseReq
  · exact .ite h.refuseReq (.ite h.refuseReq (.ite h.refuseReq h.wakeStore.setSession.startRead.syncModels))

theorem Canonical.restored {s i im} (h : Canonical d) : Canonical (d.restored s i im) :=
  .setSession (h.each Canonical.sramWrite)

theorem Canonical.sealSnap {h'} (h : Canonical d) : Canonical (d.sealSnap h').1 := by
  unfold Dev.sealSnap
  split
  · exact h
  · exact .iteFst h (.iteFst h.setObj.syncStore h.setObj.assemble)

theorem Canonical.serveStoreOpComplete {s i} (h : Canonical d) : Canonical (serveStoreOpComplete s i d) := by
  unfold Machine.serveStoreOpComplete
  extract_lets +onlyGivenNames _
  split
  · split
    · exact h.delJob.answer.setSession.syncModels
    · split
      · exact h.delJob.restored.answer.syncModels
      · split
        · exact .ofPair ‹_› h.sealSnap
        · exact .answer (.setSession (.delJob (.ofPair ‹_› h.sealSnap)))
  · exact h

/-! ### Machine/Thidan -/

theorem Canonical.emptyMsg {ch} (h : Canonical d) : Canonical (d.emptyMsg ch) := .ite h.clr.emit h

theorem Canonical.acceptCmd {ch ws o} (h : Canonical d) : Canonical (d.acceptCmd ch ws o) := h.setChan.count.syncChan

theorem Canonical.mbxSendDmwr {fn ch off ws} (h : Canonical d) : Canonical (mbxSendDmwr fn ch off ws d) :=
  .ite (.ite h.emit h) (.ite h.set.count.emit (.ite h.set.count.emit (.ite h.set.count.emit h.acceptCmd.emit)))

theorem Canonical.mbxDoorbellWrite {fn ch wrong} (h : Canonical d) : Canonical (mbxDoorbellWrite fn ch wrong d) :=
  .ite (.ite h.emit h) (.ite (.emit (.bump (.set (.count (.ite h.set h))))) h.acceptCmd)

theorem Canonical.windowWrite {fn ch f} (h : Canonical d) (hf : ∀ {e}, Canonical e → Canonical (f e)) :
    Canonical (d.windowWrite fn ch f) :=
  .ite h (.ite h.set.count (hf h))

theorem Canonical.mbxCplHeadWrite {fn ch n} (h : Canonical d) : Canonical (mbxCplHeadWrite fn ch n d) :=
  h.windowWrite fun h => .ite (.emit (.syncChan (.setChan (.ite h.set h)))) (.syncChan (.setChan (.ite h.set h)))

theorem Canonical.mbxEmptyArmWrite {fn ch} (h : Canonical d) : Canonical (mbxEmptyArmWrite fn ch d) :=
  h.windowWrite fun h => h.set.emptyMsg

theorem Canonical.lockTable (h : Canonical d) : Canonical d.lockTable := h.set.wrBit

theorem Canonical.mbxCtlLockWrite (h : Canonical d) : Canonical (mbxCtlLockWrite d) := .ite h.lockTable h

theorem Canonical.mctpCommandMessage {intf eid mtag ws} (h : Canonical d) :
    Canonical (mctpCommandMessage intf eid mtag ws d) := by
  unfold Machine.mctpCommandMessage
  split
  · exact h.emit
  · extract_lets +onlyGivenNames _
    split
    · exact h.emit
    · exact .ite h (.ite h.count.emit h.acceptCmd)

theorem Canonical.answerCmd {port src ptag ws} (h : Canonical d) : Canonical (d.answerCmd port src ptag ws) :=
  .ite h.hubSend h.hubSend

theorem Canonical.cmdPennantReceived {pid} (h : Canonical d) : Canonical (cmdPennantReceived pid d) := by
  unfold Machine.cmdPennantReceived
  split
  · exact h
  · rename_i d1 hx
    have h1 : Canonical d1 := h.takeHub hx
    extract_lets +onlyGivenNames _ _ _
    split
    · exact h1.answerCmd
    · extract_lets +onlyGivenNames _
      split
      · exact h1.count.answerCmd
      · split
        · exact h1.answerCmd
        · exact .ite h1 (.ite h1.count.answerCmd (.ite h1.count.answerCmd h1.setChan.acceptCmd))

theorem Canonical.commandTaken (h : Canonical d) : Canonical (commandTaken d) := by
  unfold Machine.commandTaken
  refine .ite h ?_
  split
  · exact h
  · dsimp only
    split
    · exact h
    · split
      · exact .emptyMsg (.syncChan (.count (.count (.setChan h.upd))))
      · exact .complete (.emptyMsg (.syncChan (.count (.count (.setChan h.upd)))))

theorem Canonical.commandBegin {aseq} (h : Canonical d) : Canonical (commandBegin aseq d) := by
  unfold Machine.commandBegin
  split
  · exact h
  · exact .ite h h.modJob.syncChan

theorem Canonical.hostTransferComplete {aseq ok bytes} (h : Canonical d) :
    Canonical (hostTransferComplete aseq ok bytes d) := by
  unfold Machine.hostTransferComplete
  split
  · exact h
  · split
    · exact .ite h.complete h.complete
    · split
      · exact h
      · exact .ite h (.ite h.modJob h.complete)

theorem Canonical.functionLevelReset {fn} (h : Canonical d) : Canonical (functionLevelReset fn d) :=
  h.upd.each Canonical.chanFlr

theorem Canonical.perst (h : Canonical d) : Canonical (perst d) := h.upd.each Canonical.chanFlr

theorem Canonical.d3hotEntry {fn} (h : Canonical d) : Canonical (d3hotEntry fn d) :=
  .ite h (h.upd.each Canonical.chanFlr)

theorem Canonical.nop {aseq} (h : Canonical d) : Canonical (nop aseq d) := h.cmd Canonical.complete

theorem Canonical.devInfo {aseq} (h : Canonical d) : Canonical (devInfo aseq d) := h.cmd Canonical.complete

theorem Canonical.cmdCaps {aseq} (h : Canonical d) : Canonical (cmdCaps aseq d) := h.cmd Canonical.complete

theorem Canonical.bindChan {ch a b} (h : Canonical d) : Canonical (d.bindChan ch a b) := h.wr.wr.setChan.syncChan

theorem Canonical.chanBind {aseq} (h : Canonical d) : Canonical (chanBind aseq d) :=
  h.cmd fun h => .ite h.complete (.ite h.complete h.bindChan.complete)

theorem Canonical.channelRebindEffective {ch} (h : Canonical d) : Canonical (channelRebindEffective ch d) :=
  .ite h h.setChan.syncChan

theorem Canonical.chanLock {aseq} (h : Canonical d) : Canonical (chanLock aseq d) :=
  h.cmd fun h => h.lockTable.complete

theorem Canonical.cmdCancel {aseq} (h : Canonical d) : Canonical (cmdCancel aseq d) := by
  unfold Machine.cmdCancel
  refine h.cmd fun h => ?_
  extract_lets +onlyGivenNames _
  split
  · exact h.complete.complete
  · extract_lets +onlyGivenNames _
    split
    · exact h.complete
    · exact h.setChan.deliver.count.syncChan.emptyMsg.complete

/-! ### Machine/Telemetry -/

theorem Canonical.readCounters {ids tenant s} (h : Canonical d) : Canonical (d.readCounters ids tenant s).1 :=
  .ite h.set h

theorem Canonical.telCmd {aseq ok roles f} (h : Canonical d) (hf : ∀ {a0 e}, Canonical e → Canonical (f a0 e)) :
    Canonical (d.telCmd aseq ok roles f) := by
  unfold Dev.telCmd
  split
  · exact h
  · exact .ite h (.ite (h.cmd Canonical.complete) (hf h))

theorem Canonical.withIds {j n cnt f} (h : Canonical d) (hf : ∀ {a0 e}, Canonical e → Canonical (f a0 e)) :
    Canonical (d.withIds j n cnt f) := by
  unfold Dev.withIds
  split
  · exact h.cmd Canonical.complete
  · exact h
  · exact h.cmd fun h => .ite h.complete (hf h)

theorem Canonical.telRead {aseq} (h : Canonical d) : Canonical (telRead aseq d) :=
  h.telCmd fun h => .ite (h.cmd Canonical.complete) (h.withIds fun h => h.readCounters.bufOut)

theorem Canonical.setSnap {i s} (h : Canonical d) : Canonical (d.setSnap i s) := h.upd

theorem Canonical.snapArm {aseq} (h : Canonical d) : Canonical (snapArm aseq d) :=
  h.telCmd fun h => .ite (h.cmd Canonical.complete) (h.withIds fun h => .ite h.complete (.ite h.complete
    h.setSnap.complete))

theorem Canonical.snapshotTime {i} (h : Canonical d) : Canonical (snapshotTime i d) := .ite h h.readCounters.setSnap

theorem Canonical.snapRead {aseq} (h : Canonical d) : Canonical (snapRead aseq d) :=
  h.telCmd fun h => h.cmd fun h => .ite (.bufOut (.ite h.setSnap h)) (.complete (.ite h.setSnap h))

theorem Canonical.tagSet {aseq} (h : Canonical d) : Canonical (tagSet aseq d) :=
  h.telCmd fun h => h.cmd fun h => h.wr.wr.wr.upd.complete

theorem Canonical.telHist {aseq} (h : Canonical d) : Canonical (telHist aseq d) :=
  h.telCmd fun h => h.cmd fun h => .ite h.complete (.ite h.complete h.bufOut)

theorem Canonical.sampleSet {aseq} (h : Canonical d) : Canonical (sampleSet aseq d) :=
  h.telCmd fun h => h.cmd fun h => .ite h.complete (.ite h.complete h.upd.complete)

theorem Canonical.ringRead {j ring seqAt size} (h : Canonical d) : Canonical (d.ringRead j ring seqAt size) :=
  h.bufOut

theorem Canonical.sampleRead {aseq} (h : Canonical d) : Canonical (sampleRead aseq d) :=
  h.telCmd fun h => h.cmd Canonical.ringRead

theorem Canonical.traceRead {aseq} (h : Canonical d) : Canonical (traceRead aseq d) :=
  h.telCmd fun h => h.cmd Canonical.ringRead

theorem Canonical.buntCmd {aseq ok f} (h : Canonical d) (hf : ∀ {a0 a1 e}, Canonical e → Canonical (f a0 a1 e)) :
    Canonical (d.buntCmd aseq ok f) := by
  unfold Dev.buntCmd
  split
  · exact h
  · exact .ite (h.cmd fun h => hf h) h

theorem Canonical.buntingSet {aseq} (h : Canonical d) : Canonical (buntingSet aseq d) :=
  h.buntCmd fun h => .ite h.complete (.ite h.complete (.ite h.complete h.setBunt.complete))

theorem Canonical.onRing {aseq p f} (h : Canonical d) (hf : ∀ {a0 e}, Canonical e → Canonical (f a0 e)) :
    Canonical (d.onRing aseq p f) := by
  unfold Dev.onRing
  split
  · exact h.complete
  · exact hf h

theorem Canonical.buntingArm {aseq} (h : Canonical d) : Canonical (buntingArm aseq d) :=
  h.buntCmd fun h => h.onRing fun h => h.setBunt.complete

theorem Canonical.buntingFreeze {aseq} (h : Canonical d) : Canonical (buntingFreeze aseq d) :=
  h.buntCmd fun h => h.onRing fun h => h.buntTrigger.complete

theorem Canonical.buntingRead {aseq} (h : Canonical d) : Canonical (buntingRead aseq d) :=
  h.buntCmd fun h => h.onRing Canonical.bufOut

theorem Canonical.buntingFree {aseq} (h : Canonical d) : Canonical (buntingFree aseq d) :=
  h.buntCmd fun h => h.upd.complete

theorem Canonical.mirrorSet {aseq} (h : Canonical d) : Canonical (mirrorSet aseq d) :=
  h.cmd fun h => .ite h.complete (.ite h.complete (.ite h.complete h.upd.complete))

/-! ### Machine/Security -/

theorem Canonical.modSec {f} (h : Canonical d) : Canonical (d.modSec f) := h.upd

theorem Canonical.syncSec (h : Canonical d) : Canonical d.syncSec := h.wr.wr.wr.wr.wr.wr.wr

theorem Canonical.showOverrides (h : Canonical d) : Canonical d.showOverrides := h.each fun h => .ite h h.wr

theorem Canonical.takeSettings (h : Canonical d) : Canonical d.takeSettings :=
  .wr (.ite (.each (.ite h h.wr) Canonical.wr) (.showOverrides (.each (.ite h h.wr) Canonical.wr)))

theorem Canonical.fuseWrite {aseq} (h : Canonical d) : Canonical (fuseWrite aseq d) := by
  unfold Machine.fuseWrite
  split
  · exact h
  · split
    · exact h.cmd Canonical.complete
    · exact h
    · exact h.cmd fun h => .ite h.complete (.ite h.complete h.modSec.syncSec)

theorem Canonical.fuseBurnComplete (h : Canonical d) : Canonical (fuseBurnComplete d) := by
  unfold Machine.fuseBurnComplete
  split
  · exact h
  · exact .complete (.syncSec (.ite h.modSec.showOverrides (.ite h.modSec h.modSec.wrBit)))

theorem Canonical.arbAdvance {aseq} (h : Canonical d) : Canonical (arbAdvance aseq d) :=
  h.cmd fun h => .ite h.complete (.ite h.complete (.ite h.complete h.modSec.syncSec.complete))

theorem Canonical.ownerAuthChallenge {aseq} (h : Canonical d) : Canonical (ownerAuthChallenge aseq d) := by
  unfold Machine.ownerAuthChallenge
  split
  · exact h
  · exact .ite h (h.cmd fun h => h.upd.setChan.complete)

theorem Canonical.ownerAuthResponse {aseq sig} (h : Canonical d) : Canonical (ownerAuthResponse aseq sig d) := by
  unfold Machine.ownerAuthResponse
  split
  · exact h
  · split
    · exact h
    · split
      · exact h.cmd Canonical.complete
      · split
        · exact h.cmd Canonical.complete
        · exact h
        · exact h.cmd fun h => .ite h.setChan.complete h.set.complete

theorem Canonical.ownerAuthAuditRead {aseq} (h : Canonical d) : Canonical (ownerAuthAuditRead aseq d) := by
  unfold Machine.ownerAuthAuditRead
  split
  · exact h
  · exact .ite h (h.cmd Canonical.bufOut)

theorem Canonical.keyInstall {aseq sig} (h : Canonical d) : Canonical (keyInstall aseq sig d) := by
  unfold Machine.keyInstall
  split
  · exact h
  · split
    · exact h.cmd Canonical.complete
    · exact h
    · exact h.cmd fun h => .ite h.complete (.ite h.complete (.ite h.complete (.ite h.complete (.ite h.modSec.complete
        h.modSec.complete))))

theorem Canonical.stage {pldm off bs last} (h : Canonical d) : Canonical (d.stage pldm off bs last).1 :=
  h.modSec.syncSec

theorem Canonical.fwStage {aseq c} (h : Canonical d) : Canonical (fwStage aseq c d) := by
  unfold Machine.fwStage
  split
  · exact h
  · split
    · exact h.cmd Canonical.complete
    · exact h
    · exact h.cmd fun h => .ite h.complete (.ite h.complete h.stage.complete)

theorem Canonical.activate (h : Canonical d) (hx : d.activate = some e) : Canonical e := by
  unfold Dev.activate at hx
  split at hx
  · cases hx
    exact h.modSec.syncSec
  · cases hx

theorem Canonical.fwActivate {aseq} (h : Canonical d) : Canonical (fwActivate aseq d) := by
  unfold Machine.fwActivate
  refine h.cmd fun h => ?_
  split
  · exact h.complete
  · exact .ite (.startReset (.complete (h.activate ‹_›))) (.complete (h.activate ‹_›))

theorem Canonical.stagingSessionTimeout (h : Canonical d) : Canonical (stagingSessionTimeout d) := by
  unfold Machine.stagingSessionTimeout
  split
  · exact .ite h.modSec.syncSec h
  · exact h

theorem Canonical.tryAdmit {p} (h : Canonical d) : Canonical (d.tryAdmit p) := .ite h (.ite h.admitPort h.sendEvent)

theorem Canonical.linkAdmit {aseq} (h : Canonical d) : Canonical (linkAdmit aseq d) := by
  unfold Machine.linkAdmit
  exact h.cmd fun h => .ite h.complete (.ite (.ite h.complete h.admitPort.complete) (.complete (.syncPdata (.modLink
    (.ite h.modSec.recordNew.toNegotiateLost h.modSec.recordNew)))))

theorem Canonical.attEnd {p r} (h : Canonical d) : Canonical (d.attEnd p r) :=
  .ite h (.ite h.modLink h.modLink.syncPdata.tryAdmit)

theorem Canonical.spdmMctp {intf eid mtag m} (h : Canonical d) : Canonical (d.spdmMctp intf eid mtag m) :=
  .ite h (.ite h.emit h.modSec.usedFree.emit)

theorem Canonical.spdmMessageReceived {via m} (h : Canonical d) : Canonical (spdmMessageReceived via m d) := by
  unfold Machine.spdmMessageReceived
  split
  · exact h.spdmMctp
  · split
    · exact h
    · rename_i d1 hx
      have h1 : Canonical d1 := h.takeHub hx
      extract_lets +onlyGivenNames _
      split
      · exact h1
      · extract_lets +onlyGivenNames d2
        have h2 : Canonical d2 := by
          unfold d2
          split
          · exact h1.sendSpdm
          · split
            · split
              · exact h1.sendSpdm
              · exact .ite h1.sendSpdm h1
            · exact h1
        split
        · exact h2.attEnd
        · exact h2

theorem Canonical.attestationTimeout {p} (h : Canonical d) : Canonical (attestationTimeout p d) :=
  .ite h h.setLink.set.syncPdata.sendEvent

theorem Canonical.attestationRetry {p} (h : Canonical d) : Canonical (attestationRetry p d) := .ite h.attBegin h

theorem Canonical.pldmMessage {intf eid mtag m} (h : Canonical d) : Canonical (pldmMessage intf eid mtag m d) := by
  unfold Machine.pldmMessage
  extract_lets +onlyGivenNames _
  split
  · exact h
  · split
    · exact .ite h.usedFree.emit (.ite h.usedFree.emit (.ite h.emit h.emit))
    · exact h.usedFree.emit
    · exact h.modSec.emit
    · split
      · exact h.emit
      · exact h.emit
    · exact .ite h.emit h.modSec.syncSec.emit
    · split
      · exact h.emit
      · extract_lets +onlyGivenNames _
        split
        · exact h.stage.emit
        · exact h.stage.emit
    · split
      · exact h.emit
      · split
        · exact .emit (h.activate ‹_›)
        · exact h.emit
    · exact .ite h.modSec.syncSec.emit h.emit

theorem Canonical.mctpControlMessage {intf eid mtag m} (h : Canonical d) :
    Canonical (mctpControlMessage intf eid mtag m d) := by
  unfold Machine.mctpControlMessage
  extract_lets +onlyGivenNames _
  split
  · exact h
  · split
    · exact .ite h.emit h.modSec.emit
    · exact h.emit
    · exact h.emit
    · exact h.emit

theorem Canonical.jtagInstruction {m} (h : Canonical d) : Canonical (jtagInstruction m d) := by
  unfold Machine.jtagInstruction
  extract_lets +onlyGivenNames _
  split
  · exact h.modSec.emit
  · exact h.modSec.usedFree.emit
  · exact .ite h.modSec.syncSec h.modSec
  · exact .ite h.modSec h.modSec
  · exact h.modSec
  · exact h.modSec
  · exact h.modSec
  · exact h.modSec
  · exact h.modSec
  · exact h.modSec
  · exact h.modSec

/-! ### Machine/Boot -/

theorem Canonical.loadFuses (h : Canonical d) : Canonical d.loadFuses := h.wr.takeSettings.syncSec

theorem Canonical.hubOn (h : Canonical d) : Canonical d.hubOn := h.freshDomain.setPd.wr

theorem Canonical.bringupStart (h : Canonical d) : Canonical (bringupStart d) := .ite h h.modBoot.setPd.upd

theorem Canonical.fuseLoadComplete (h : Canonical d) : Canonical (fuseLoadComplete d) :=
  .ite h h.hubOn.loadFuses.toPhase

theorem Canonical.deviceClear : Canonical d.deviceClear := by
  unfold Dev.deviceClear
  extract_lets d1 d2 on d3 d4
  have h4 : Canonical d4 := .of_nil rfl rfl
  exact .loadFuses (.hubOn (.syncServo (.wr (.wr (.wr (.wr (.wr (.wr ((h4.each Canonical.setPd).each
    Canonical.syncLmod)))))))))

theorem Canonical.startFirmware {i} (h : Canonical d) : Canonical (d.startFirmware i) :=
  .startDomains (.toPhase (.wr (.ite h.modSec.syncSec.wr.wr.upd.upd.faultEvent h.modSec.syncSec.wr.wr.upd)))

theorem Canonical.secureBootComplete {goodA goodB} (h : Canonical d) :
    Canonical (secureBootComplete goodA goodB d) := by
  have hclear : Canonical (if d.devReset then d.deviceClear else d) := .ite .deviceClear h
  exact .ite h (.ite hclear.startFirmware (.ite hclear.startFirmware hclear.bootStops))

theorem Canonical.writeRecords (h : Canonical d) : Canonical d.writeRecords := .ite h.modBoot h.modBoot.modStore

theorem Canonical.applyRec {r quick} (h : Canonical d) : Canonical (d.applyRec r quick) :=
  .ite (h.modBoot.each fun h => h.setStack.wr) (.wr (.wr (.wr (.each (.each (h.modBoot.each fun h => h.setStack.wr)
    fun h => h.setEcc.wr) Canonical.wr))))

theorem Canonical.beginTests (h : Canonical d) : Canonical d.beginTests := by
  unfold Dev.beginTests
  refine .each ?_ Canonical.startMarch
  refine .toPhase ?_
  refine .wr ?_
  refine .modBoot ?_
  refine .each ?_ Canonical.syncEngines
  refine .each ?_ Canonical.domainOff
  refine .syncYield ?_
  split
  · exact h.wr
  · extract_lets +onlyGivenNames _ _
    split
    · exact h.wr.clr.modSec.applyRec
    · exact h.wr.clr.modSec

theorem Canonical.nvsDiscoveryComplete {ts} (h : Canonical d) : Canonical (nvsDiscoveryComplete ts d) :=
  .ite h (.ite h.storeDiscovered.modBoot.beginTests h.storeDiscovered.modBoot)

theorem Canonical.hbmTrainingComplete {q} (h : Canonical d) : Canonical (hbmTrainingComplete q d) :=
  .ite h (.checkTested (.ite h.usedFree.modBoot.toPhase h.usedFree.modBoot))

theorem Canonical.hbmMemtestComplete {q march retention disturb repaired} (h : Canonical d) :
    Canonical (hbmMemtestComplete q march retention disturb repaired d) := by
  unfold Machine.hbmMemtestComplete
  split
  · exact h
  · extract_lets d1 s rows d2 d3 hard rows' d4 d5 d6
    have h2 : Canonical d2 := h.count.count.count.setHbm rfl
    have h5 : Canonical d5 := .ite h2.modBoot.failStack (.recordNew (.wr (.setStack (.ite h2.modBoot.wrSat
      h2.modBoot))))
    exact .checkTested (.ite h5.wr.toPhase h5)

theorem Canonical.katFails {blk i} (h : Canonical d) : Canonical (d.katFails blk i) :=
  .ite h.count.siteFails (.ite (.modBoot (.syncEngineAt (.recordNew (.set (.ite h.count.wrBit h.count.wrBit))))) (.ite
    h.count.failStack (.ite h.count.modBoot.wr.syncStore.modBoot h.count.bootStops)))

theorem Canonical.katComplete {blk i ok} (h : Canonical d) : Canonical (katComplete blk i ok d) :=
  .ite h (.checkTested (.ite h.modBoot h.katFails))

theorem Canonical.testRecordWritten (h : Canonical d) : Canonical (testRecordWritten d) :=
  .ite h h.modBoot.wr.wr.upd.writeRecords

theorem Canonical.deviceReady (h : Canonical d) : Canonical (deviceReady d) := by
  unfold Machine.deviceReady
  extract_lets +onlyGivenNames _
  split
  · exact h
  · extract_lets +onlyGivenNames d1
    have h1 : Canonical d1 := h.toPhase.modBoot
    refine .each ?_ Canonical.tryAdmit
    split
    · exact .releaseReset (.ite h1.modStore.faultEvent h1)
    · exact .ite h1.modStore.faultEvent h1

theorem Canonical.testRecordSync (h : Canonical d) : Canonical (testRecordSync d) := .ite h h.upd.writeRecords

theorem Canonical.coldReset : Canonical d.coldReset := .of_nil rfl rfl

theorem Canonical.coldResetAsserted (h : Canonical d) : Canonical (coldResetAsserted d) := by
  unfold Machine.coldResetAsserted
  split
  · exact .ite h.modBoot .coldReset
  · exact .coldReset

/-! ### Machine/Pins -/

theorem Canonical.syncRails (h : Canonical d) : Canonical d.syncRails := h.wr.wr.wr.wr.wr.wr.wr.wr.wr

theorem Canonical.railInRange {r} (h : Canonical d) : Canonical (railInRange r d) := .ite h h.modBoot.syncRails

theorem Canonical.powerFail (h : Canonical d) : Canonical d.powerFail :=
  .ite h (.ite h.count.clr.modStore.stopStore h.count.clr.modStore.stopStore.wr)

theorem Canonical.pwrfailAsserted (h : Canonical d) : Canonical (pwrfailAsserted d) :=
  .ite h (.ite h.set h.set.set.powerFail)

theorem Canonical.pwrfailDeasserted (h : Canonical d) : Canonical (pwrfailDeasserted d) := h.clr

theorem Canonical.railUndervoltage {r} (h : Canonical d) : Canonical (railUndervoltage r d) :=
  .ite h (.ite h.modBoot.syncRails h.modBoot.syncRails.set.pend.powerFail)

theorem Canonical.holdupDone (h : Canonical d) : Canonical (holdupDone d) := by
  unfold Machine.holdupDone
  split
  · exact h
  · exact .ite h (.ite .coldReset h.dropPrograms.modStore.set)

theorem Canonical.lanePhyLost {x} (h : Canonical d) : Canonical (d.lanePhyLost x) :=
  .ite (.ite h.usedFree.failLane.modLane.emit h.usedFree.failLane) (.ite (.ite h.usedFree.failStep.modLane.emit
    h.usedFree.failStep) (.ite (.ite h.modLane.modLane.emit h.modLane) (.ite h.modLane.emit h)))

theorem Canonical.ftSource (h : Canonical d) : Canonical d.ftSource := .ite h.wr (.ite h.wr.setServo h.wr)

theorem Canonical.refclkLoss {which} (h : Canonical d) : Canonical (refclkLoss which d) :=
  .ite (.ite h (.ite (.ftSource (h.clr.set.pend.each Canonical.lanePhyLost)) (h.clr.set.pend.each
    Canonical.lanePhyLost))) (.ite (.ite h h.clr.set.pend.ftSource) (.ite (.ite h h.clr.set.pend) h))

theorem Canonical.refclkFtReturn (h : Canonical d) : Canonical (refclkFtReturn d) := h.set.wr

theorem Canonical.refclkReturn {which} (h : Canonical d) : Canonical (refclkReturn which d) :=
  .ite (.ite h.set.wr h.set) (.ite h.set h)

/-! ### Machine/RegWrite -/

theorem Canonical.lockDiscard {r inst} (h : Canonical d) : Canonical (d.lockDiscard r inst) := by
  unfold Dev.lockDiscard
  extract_lets +onlyGivenNames _ d1
  have h1 : Canonical d1 := by
    unfold d1
    split
    · exact .ite h.set h
    · exact h.set
    · exact h.set
    · exact h.set
    · exact h.set
    · exact h.set
    · exact h.set
    · exact h.set
    · exact h.set
    · exact h.set
    · exact h.set
    · exact h.set
    · exact h.set
    · exact h.set
    · exact h
  split
  · exact h1.wrBit
  · exact h1

theorem Canonical.barErr {f o} (h : Canonical d) : Canonical (d.barErr f o) := .set (.ite h h.wr.set)

theorem Canonical.writeFld {f v inst k locked} (h : Canonical d) : Canonical (d.writeFld f v inst k locked) := by
  unfold Dev.writeFld
  split
  · exact h.wr
  · exact .ite h h.wr
  · exact h.wr
  · exact h.wr
  · exact h
  · exact h
  · exact h

theorem Canonical.writeFlds {r inst k w} (h : Canonical d) : Canonical (d.writeFlds r inst k w) :=
  .ite h (.ite (.lockDiscard (h.each Canonical.writeFld)) (h.each Canonical.writeFld))

theorem Canonical.reform {d'} (h : Canonical d) : Canonical (d.reform d') :=
  .each (.each (h.each Canonical.portDown) fun h => h.each fun h => .ite h h.wr) fun h => h.setLaneState.modLane.emit

theorem Canonical.tileErrCleared {t w} (h : Canonical d) : Canonical (d.tileErrCleared t w) :=
  .ite (.clr (.ite h.clr h)) (.ite h.clr h)

theorem Canonical.afterWrite {w r inst k v} (h : Canonical d) (hw : Canonical w) :
    Canonical (d.afterWrite w r inst k v) :=
  .ite h.syncServo (.ite hw.reform (.ite h.wrSat (.ite (h.each Canonical.syncPool) (.ite h.syncRteStat (.ite h.syncMap
    (.ite (.syncModels (.syncMap (.ite h.wr h))) (.ite h.syncMdlData (.ite h.syncPdata (.ite (.ite h.wr h) (.ite
    h.tileErrCleared (.ite (.ite h h.clr) (.ite h.irq (.ite h.irq (.ite h.irq h))))))))))))))

theorem Canonical.lctlRetrain {x} (h : Canonical d) : Canonical (d.lctlRetrain x) := .ite h.modLane h.askRetrain

theorem Canonical.hbmCtlRetrain {q} (h : Canonical d) : Canonical (d.hbmCtlRetrain q) := .ite h h.startRetrain

theorem Canonical.oeLctlRetrainWrite {x} (h : Canonical d) : Canonical (oeLctlRetrainWrite x d) :=
  .ite h (.ite h.barErr h.lctlRetrain)

theorem Canonical.hbmCtlRetrainWrite {q} (h : Canonical d) : Canonical (hbmCtlRetrainWrite q d) :=
  .ite h (.ite h.barErr h.hbmCtlRetrain)

theorem Canonical.tileErrWrite {t f} (h : Canonical d) : Canonical (d.tileErrWrite t f) :=
  .ite h (.ite h.barErr h.clr.tileErrCleared)

theorem Canonical.tileErrUnhandledClear {t} (h : Canonical d) : Canonical (tileErrUnhandledClear t d) :=
  h.tileErrWrite

theorem Canonical.tileErrResetSeenClear {t} (h : Canonical d) : Canonical (tileErrResetSeenClear t d) :=
  h.tileErrWrite

theorem Canonical.writeWindow {fn r ch k w} (h : Canonical d) : Canonical (d.writeWindow fn r ch k w) :=
  .ite h.mbxDoorbellWrite (.ite h.mbxDoorbellWrite (.ite h.mbxCplHeadWrite (h.windowWrite fun h => .ite
    h.writeFlds.emptyMsg h.writeFlds)))

theorem Canonical.writeReg {fn o w} (h : Canonical d) : Canonical (d.writeReg fn o w) := by
  have hbind {c : Prop} [Decidable c] {r i k a b} : Canonical (if c then d.lockDiscard r i else d.bindChan k a b) :=
    .ite h.lockDiscard h.bindChan
  unfold Dev.writeReg
  refine .ite h (.ite h.upd ?_)
  split
  · exact h.barErr
  · exact .ite h.barErr (.ite h.writeWindow (.ite (.ite h.writeFlds.lockTable h.writeFlds) (.ite hbind (.ite hbind
      (.ite (.ite h.lctlRetrain h) (.ite (.ite h.hbmCtlRetrain h) (h.writeFlds.afterWrite h)))))))

theorem Canonical.registerWrite {fn off len whole w0 w1} (h : Canonical d) :
    Canonical (registerWrite fn off len whole w0 w1 d) :=
  .ite h (.ite h.writeReg.writeReg (.ite (.ite h.writeReg h.barErr) h.barErr))

theorem Canonical.hubFtimeLoRead (h : Canonical d) : Canonical (hubFtimeLoRead d) := .ite h h.wr.wr.emit

theorem Canonical.hubSteploRead (h : Canonical d) : Canonical (hubSteploRead d) := .ite h h.wr.wr.emit

theorem Canonical.telCvalLoRead (h : Canonical d) : Canonical (telCvalLoRead d) := .ite h h.wr.wr.wr.wr.wr.wr.emit

end

/-! ### Steps -/

section
variable {s s' : State}

/-- A command's meaning keeps the memories canonical where its effect on the device does. -/
theorem Canonical.ofAct {f : Dev → Dev} (hx : act f s = .next s') (h : Canonical (f s.dev)) : Canonical s'.dev := by
  obtain rfl : _ = s' := Host.Outcome.next.inj hx
  exact h.same (Dev.platform_sameTiles ..).sram (Dev.platform_sameTiles ..).hbm

theorem Canonical.idle (h : Canonical s.dev) : Canonical (Machine.idle s).dev := h.upd

/-- No command breaks the canonical form: one case per command, by the lemma of its effect. -/
theorem Canonical.exec {c : Instr} (h : Canonical s.dev) (hx : exec c s = .next s') : Canonical s'.dev := by
  cases c with
  | packetArrival => exact .ofAct hx h.packetArrival
  | descriptorEntry => exact .ofAct hx h.descriptorEntry
  | schedulerPacketStart => exact .ofAct hx h.schedulerPacketStart
  | pennantSlot => exact .ofAct hx h.pennantSlot
  | holderRelease => exact .ofAct hx h.releaseHolder
  | bufferEccUncorrectable => exact .ofAct hx h.bufferEccUncorrectable
  | ageingTick => exact .ofAct hx h.queueTick
  | flushRecordRoom => exact .ofAct hx h.flushRecordRoom
  | failureRecordIssue => exact .ofAct hx h.recordIssue
  | meshSublinkFail => exact .ofAct hx h.meshSublinkFail
  | meshLinkFail => exact .ofAct hx h.meshLinkFail
  | quadrantRelayDrained => exact .ofAct hx h.quadrantRelayDrained
  | bufProfileDrainTimeout => exact .ofAct hx h.bufProfileDrainTimeout
  | opSet => exact .ofAct hx h.opSet
  | railRampSettled => exact .ofAct hx h.railRampSettled
  | op3DrainComplete => exact .ofAct hx h.op3DrainComplete
  | op3DrainTimeout => exact .ofAct hx h.op3DrainTimeout
  | op3ExitComplete => exact .ofAct hx h.op3ExitComplete
  | regulation => exact .ofAct hx h.regulation
  | qmarginWindow => exact .ofAct hx h.qmarginWindow
  | belowLinePennantRepeat => exact .ofAct hx h.belowLinePennantRepeat
  | qmarginBelowSeenClear => exact .ofAct hx h.qmarginBelowSeenClear
  | junctionTemperatureChange => exact .ofAct hx h.junctionTemperatureChange
  | powerLimitWindow => exact .ofAct hx h.powerLimitWindow
  | pdSet => exact .ofAct hx h.pdSet
  | domainOnComplete => exact .ofAct hx h.domainOnComplete
  | domainOffComplete => exact .ofAct hx h.domainOffComplete
  | oeClass => exact .ofAct hx h.oeClass
  | laserLow => exact .ofAct hx h.laserLow
  | laserInputRestored => exact .ofAct hx h.laserInputRestored
  | codewordReceived => exact .ofAct hx h.codewordReceived
  | blockReceived => exact .ofAct hx h.blockReceived
  | markerWordReceived => exact .ofAct hx h.markerWordReceived
  | superframeBoundary => exact .ofAct hx h.superframeBoundary
  | laneBringupStart => exact .ofAct hx h.laneBringupStart
  | laneRingLock => exact .ofAct hx h.laneRingLock
  | laneLightDetected => exact .ofAct hx h.laneLightDetected
  | laneCdrLock => exact .ofAct hx h.laneCdrLock
  | laneFrameLock => exact .ofAct hx h.laneFrameLock
  | laneEqTrained => exact .ofAct hx h.laneEqTrained
  | laneQualified => exact .ofAct hx h.laneQualified
  | laneIdentityCheck => exact .ofAct hx h.laneIdentityCheck
  | laneAligned => exact .ofAct hx h.laneAligned
  | portUp => exact .ofAct hx h.portUp
  | portUpTimer => exact .ofAct hx h.portUpTimer
  | laneStepTimeout => exact .ofAct hx h.laneStepTimeout
  | laneRetryTimer => exact .ofAct hx h.laneRetryTimer
  | gainRangeChange => exact .ofAct hx h.gainRangeChange
  | marginMonitorWindow => exact .ofAct hx h.marginMonitorWindow
  | laneRetrainComplete => exact .ofAct hx h.laneRetrainComplete
  | laneLossOfLight => exact .ofAct hx h.laneLossOfLight
  | laneFrameSyncLoss => exact .ofAct hx h.laneFrameSyncLoss
  | laneUncorrectableBurst => exact .ofAct hx h.laneUncorrectableBurst
  | ringLockLost => exact .ofAct hx h.ringLockLost
  | lightInStandby => exact .ofAct hx h.lightInStandby
  | wakeTimeout => exact .ofAct hx h.wakeTimeout
  | portState => exact .ofAct hx h.portState
  | dataFlitReceived => exact .ofAct hx h.dataFlitReceived
  | failedFlit => exact .ofAct hx h.failedFlitCommand
  | reservedFlitKind => exact .ofAct hx h.reservedFlitKind
  | lcfReceived => exact .ofAct hx h.lcfReceived
  | negFlitReceived => exact .ofAct hx h.negFlitReceived
  | halyardBlockReceived => exact .ofAct hx h.halyardBlockReceived
  | linkAuthReceived => exact .ofAct hx h.linkAuthReceived
  | ackHoldExpiry => exact .ofAct hx h.ackHoldExpiry
  | lcfPeriodic => exact .ofAct hx h.lcfPeriodic
  | creditReportDue => exact .ofAct hx h.creditReportDue
  | nakHoldoffExpiry => exact .ofAct hx h.nakHoldoffExpiry
  | replayTimeout => exact .ofAct hx h.replayTimeout
  | negFlitTimer => exact .ofAct hx h.negFlitTimer
  | confirmTimeout => exact .ofAct hx h.confirmTimeout
  | resyncTimeout => exact .ofAct hx h.resyncTimeout
  | timeWordTimer => exact .ofAct hx h.timeWordTimer
  | pauseExpiry => exact .ofAct hx h.pauseExpiry
  | linkAdmit => exact .ofAct hx h.linkAdmit
  | routeNoticeRepeat => exact .ofAct hx h.routeNoticeRepeat
  | restoreHoldExpiry => exact .ofAct hx h.restoreHoldExpiry
  | routeRestoreRepeat => exact .ofAct hx h.routeRestoreRepeat
  | routeNoticeReceived => exact .ofAct hx h.routeNoticeReceived
  | noticeHoldExpiry => exact .ofAct hx h.noticeHoldExpiry
  | atTimeSwitch => exact .ofAct hx h.atTimeSwitch
  | drainStart => exact .ofAct hx h.drainStart
  | drainComplete => exact .ofAct hx h.drainComplete
  | drainPauseCancel => exact .ofAct hx h.drainPauseCancel
  | quenchExpiry => exact .ofAct hx h.quenchExpiry
  | queueSampleTimer => exact .ofAct hx h.queueSampleTimer
  | ctxOpen => exact .ofAct hx h.ctxOpen
  | ctxClose => exact .ofAct hx h.ctxClose
  | ctxAbort => exact .ofAct hx h.ctxAbort
  | ctxMigrate => exact .ofAct hx h.ctxMigrate
  | ctxReparent => exact .ofAct hx h.ctxReparent
  | ctxBind => exact .ofAct hx h.ctxBind
  | ctxStat => exact .ofAct hx h.ctxStat
  | contributionTaken => exact .ofAct hx h.contributionTaken
  | chunkComplete => exact .ofAct hx h.chunkComplete
  | rootChunkComplete => exact .ofAct hx h.rootChunkComplete
  | resultArrival => exact .ofAct hx h.resultArrival
  | arrivalTimeout => exact .ofAct hx h.arrivalTimeout
  | accEcc => exact .ofAct hx h.accEcc
  | failPennantReceived => exact .ofAct hx h.failPennantReceived
  | stubRetire => exact .ofAct hx h.stubRetire
  | trigArm => exact .ofAct hx h.trigArm
  | trigDisarm => exact .ofAct hx h.trigDisarm
  | trigAdvance => exact .ofAct hx h.trigAdvance
  | operationEnd => exact .ofAct hx h.operationEnd
  | remoteRspReceived => exact .ofAct hx h.remoteRspReceived
  | remoteRspTimeout => exact .ofAct hx h.remoteRspTimeout
  | opWrite => exact .ofAct hx h.opWrite
  | collLaunch => exact .ofAct hx h.collLaunch
  | regionReg => exact .ofAct hx h.regionReg
  | regionDereg => exact .ofAct hx h.regionDereg
  | regionDeregComplete => exact .ofAct hx h.regionDeregComplete
  | streamerLanding => exact .ofAct hx h.streamerLanding
  | landingComplete => exact .ofAct hx h.landingComplete
  | trigPennantReceived => exact .ofAct hx h.trigPennantReceived
  | dispatchTokenReceived => exact .ofAct hx h.dispatchTokenReceived
  | tokenSlotAvailable => exact .ofAct hx h.tokenSlotAvailable
  | gateRecordTaken => exact .ofAct hx h.gateRecordTaken
  | gateTimeout => exact .ofAct hx h.gateTimeout
  | expertFailReceived => exact .ofAct hx h.expertFailReceived
  | tileLaunch => exact .ofAct hx h.tileLaunch
  | tileNop => exact .ofAct hx h.insNop
  | add => exact .ofAct hx h.insAdd
  | sub => exact .ofAct hx h.insSub
  | mul => exact .ofAct hx h.insMul
  | and => exact .ofAct hx h.insAnd
  | or => exact .ofAct hx h.insOr
  | xor => exact .ofAct hx h.insXor
  | shl => exact .ofAct hx h.insShl
  | shr => exact .ofAct hx h.insShr
  | sra => exact .ofAct hx h.insSra
  | slt => exact .ofAct hx h.insSlt
  | sltu => exact .ofAct hx h.insSltu
  | addi => exact .ofAct hx h.insAddi
  | andi => exact .ofAct hx h.insAndi
  | ori => exact .ofAct hx h.insOri
  | xori => exact .ofAct hx h.insXori
  | shli => exact .ofAct hx h.insShli
  | shri => exact .ofAct hx h.insShri
  | srai => exact .ofAct hx h.insSrai
  | lui => exact .ofAct hx h.insLui
  | ld => exact .ofAct hx h.insLd
  | st => exact .ofAct hx h.insSt
  | amo => exact .ofAct hx h.insAmo
  | br => exact .ofAct hx h.insBr
  | jal => exact .ofAct hx h.insJal
  | jalr => exact .ofAct hx h.insJalr
  | fenceLd => exact .ofAct hx h.fenceLd
  | fenceSt => exact .ofAct hx h.fenceSt
  | fenceSc => exact .ofAct hx h.fenceSc
  | fenceTn => exact .ofAct hx h.fenceTn
  | wait => exact .ofAct hx h.insWait
  | halt => exact .ofAct hx h.insHalt
  | trap => exact .ofAct hx h.insTrap
  | rete => exact .ofAct hx h.insRete
  | csrr => exact .ofAct hx h.insCsrr
  | csrw => exact .ofAct hx h.insCsrw
  | vld => exact .ofAct hx h.insVld
  | vst => exact .ofAct hx h.insVst
  | vadd => exact .ofAct hx h.insVadd
  | vsub => exact .ofAct hx h.insVsub
  | vmul => exact .ofAct hx h.insVmul
  | vfma => exact .ofAct hx h.insVfma
  | vmax => exact .ofAct hx h.insVmax
  | vmin => exact .ofAct hx h.insVmin
  | vdiv => exact .ofAct hx h.insVdiv
  | vsqrt => exact .ofAct hx h.insVsqrt
  | vcmp => exact .ofAct hx h.insVcmp
  | vsel => exact .ofAct hx h.insVsel
  | vbcast => exact .ofAct hx h.insVbcast
  | vredsum => exact .ofAct hx h.insVredsum
  | vredmax => exact .ofAct hx h.insVredmax
  | vextr => exact .ofAct hx h.insVextr
  | vexp2 => exact .ofAct hx h.insVexp2
  | vlog2 => exact .ofAct hx h.insVlog2
  | vrcp => exact .ofAct hx h.insVrcp
  | vrsqrt => exact .ofAct hx h.insVrsqrt
  | vtanh => exact .ofAct hx h.insVtanh
  | vsigm => exact .ofAct hx h.insVsigm
  | vrng => exact .ofAct hx h.insVrng
  | mma => exact .ofAct hx h.insMma
  | mmaC => exact .ofAct hx h.insMmac
  | xfer => exact .ofAct hx h.insXfer
  | cinj => exact .ofAct hx h.insCinj
  | cbind => exact .ofAct hx h.insCbind
  | tadv => exact .ofAct hx h.insTadv
  | twait => exact .ofAct hx h.insTwait
  | gpost => exact .ofAct hx h.insGpost
  | rxwait => exact .ofAct hx h.insRxwait
  | rxdone => exact .ofAct hx h.insRxdone
  | asyncInstructionComplete => exact .ofAct hx h.asyncInstructionComplete
  | blockInjection => exact .ofAct hx h.blockInjection
  | storePerformed => exact .ofAct hx h.storePerformed
  | modelFetch => exact .ofAct hx h.modelFetch
  | modelFetchComplete => exact .ofAct hx h.modelFetchComplete
  | modelLoad => exact .ofAct hx h.modelLoad
  | modelLoadSectionsWritten => exact .ofAct hx h.modelLoadSectionsWritten
  | modelSwap => exact .ofAct hx h.modelSwap
  | modelSwapStepDrained => exact .ofAct hx h.modelSwapStepDrained
  | modelMove => exact .ofAct hx h.modelMove
  | modelMoveStubExpiry => exact .ofAct hx h.modelMoveStubExpiry
  | modelEvict => exact .ofAct hx h.modelEvict
  | serveOpen => exact .ofAct hx h.serveOpen
  | serveAppend => exact .ofAct hx h.serveAppend
  | serveGenerate => exact .ofAct hx h.serveGenerate
  | serveCancel => exact .ofAct hx h.serveCancel
  | servePark => exact .ofAct hx h.servePark
  | serveResume => exact .ofAct hx h.serveResume
  | serveSnapshot => exact .ofAct hx h.serveSnapshot
  | serveRestore => exact .ofAct hx h.serveRestore
  | serveClose => exact .ofAct hx h.serveClose
  | serveDataAppend => exact .ofAct hx h.serveDataAppend
  | serveStoreOpComplete => exact .ofAct hx h.serveStoreOpComplete
  | modelStep => exact .ofAct hx h.modelStep
  | sramEccResetTimer => exact .ofAct hx h.sramEccResetTimer
  | sramScrubPeriod => exact .ofAct hx h.sramScrubPeriod
  | sramTest => exact .ofAct hx h.sramTest
  | marchTestComplete => exact .ofAct hx h.marchTestComplete
  | hbmUncorrectable => exact .ofAct hx h.hbmUncorrectable
  | hbmPatrolScrub => exact .ofAct hx h.hbmPatrolScrub
  | hbmRefreshDue => exact .ofAct hx h.hbmRefreshDue
  | hbmTempCheck => exact .ofAct hx h.hbmTempCheck
  | hbmChannelRetrainDone => exact .ofAct hx h.hbmChannelRetrainDone
  | hbmChannelRetrainNext => exact .ofAct hx h.hbmChannelRetrainNext
  | hbmRetrainRetry => exact .ofAct hx h.hbmRetrainRetry
  | nvsDiscoveryComplete => exact .ofAct hx h.nvsDiscoveryComplete
  | unitReadComplete => exact .ofAct hx h.unitReadComplete
  | programComplete => exact .ofAct hx h.programComplete
  | eraseComplete => exact .ofAct hx h.eraseComplete
  | targetTimeout => exact .ofAct hx h.targetTimeout
  | storeDataArrival => exact .ofAct hx h.storeDataArrival
  | fillToExpiry => exact .ofAct hx h.fillToExpiry
  | absorbResultReceived => exact .ofAct hx h.absorbResultReceived
  | retentionScan => exact .ofAct hx h.retentionScan
  | blockRefreshComplete => exact .ofAct hx h.blockRefreshComplete
  | mapCheckpoint => exact .ofAct hx h.mapCheckpoint
  | rebuildComplete => exact .ofAct hx h.rebuildComplete
  | storeFormat => exact .ofAct hx h.storeFormat
  | storeStat => exact .ofAct hx h.storeStat
  | storeQuiesce => exact .ofAct hx h.storeQuiesce
  | objCreate => exact .ofAct hx h.objCreate
  | objWrite => exact .ofAct hx h.objWriteCommand
  | objRead => exact .ofAct hx h.objRead
  | objSeal => exact .ofAct hx h.objSeal
  | objDelete => exact .ofAct hx h.objDelete
  | objStat => exact .ofAct hx h.objStat
  | absorbBind => exact .ofAct hx h.absorbBind
  | storeTransferComplete => exact .ofAct hx h.storeTransferComplete
  | pwrfailAsserted => exact .ofAct hx h.pwrfailAsserted
  | holdupDone => exact .ofAct hx h.holdupDone
  | pwrfailDeasserted => exact .ofAct hx h.pwrfailDeasserted
  | railUndervoltage => exact .ofAct hx h.railUndervoltage
  | commandTaken => exact .ofAct hx h.commandTaken
  | commandBegin => exact .ofAct hx h.commandBegin
  | mbxSendDmwr => exact .ofAct hx h.mbxSendDmwr
  | mbxDoorbellWrite => exact .ofAct hx h.mbxDoorbellWrite
  | mbxCplHeadWrite => exact .ofAct hx h.mbxCplHeadWrite
  | mbxEmptyArmWrite => exact .ofAct hx h.mbxEmptyArmWrite
  | mbxCtlLockWrite => exact .ofAct hx h.mbxCtlLockWrite
  | channelRebindEffective => exact .ofAct hx h.channelRebindEffective
  | mctpCommandMessage => exact .ofAct hx h.mctpCommandMessage
  | cmdPennantReceived => exact .ofAct hx h.cmdPennantReceived
  | functionLevelReset => exact .ofAct hx h.functionLevelReset
  | perst => exact .ofAct hx h.perst
  | nop => exact .ofAct hx h.nop
  | devInfo => exact .ofAct hx h.devInfo
  | cmdCaps => exact .ofAct hx h.cmdCaps
  | chanBind => exact .ofAct hx h.chanBind
  | chanLock => exact .ofAct hx h.chanLock
  | cmdCancel => exact .ofAct hx h.cmdCancel
  | cfgCommit => exact .ofAct hx h.cfgCommit
  | cfgCommitCancel => exact .ofAct hx h.cfgCommitCancel
  | cfgCommitDrainComplete => exact .ofAct hx h.cfgCommitDrainComplete
  | fltHistRead => exact .ofAct hx h.fltHistRead
  | fltClear => exact .ofAct hx h.fltClear
  | reset => exact .ofAct hx h.reset
  | tileReset => exact .ofAct hx h.tileReset
  | jobAbort => exact .ofAct hx h.jobAbort
  | hoistJoin => exact .ofAct hx h.hoistJoinCommand
  | lockstepStart => exact .ofAct hx h.lockstepStart
  | hoistArrive => exact .ofAct hx h.hoistArrive
  | hoistReleaseReceived => exact .ofAct hx h.hoistReleaseReceived
  | hoistFailReceived => exact .ofAct hx h.hoistFailReceived
  | hoistReleaseTime => exact .ofAct hx h.hoistReleaseTime
  | hoistDeadline => exact .ofAct hx h.hoistDeadline
  | cutOff => exact .ofAct hx h.cutOff
  | slotStart => exact .ofAct hx h.slotStart
  | slotGuardBand => exact .ofAct hx h.slotGuardBand
  | quietTimerExpiry => exact .ofAct hx h.quietTimerExpiry
  | struckWindowExpiry => exact .ofAct hx h.struckWindowExpiry
  | watchdog => exact .ofAct hx h.watchdog
  | engineHang => exact .ofAct hx h.engineHang
  | seqHang => exact .ofAct hx h.seqHang
  | dispatchHang => exact .ofAct hx h.dispatchHang
  | ctrlHang => exact .ofAct hx h.ctrlHang
  | thidanHeartbeat => exact .ofAct hx h.thidanHeartbeat
  | heartbeatLost => exact .ofAct hx h.heartbeatLost
  | thidanRestartComplete => exact .ofAct hx h.thidanRestartComplete
  | restartFail => exact .ofAct hx h.restartFail
  | sentinelKick => exact .ofAct hx h.sentinelKick
  | hwWatchdog => exact .ofAct hx h.hwWatchdog
  | resetRelease => exact .ofAct hx h.resetRelease
  | resetHung => exact .ofAct hx h.resetHung
  | forcedFlushLimit => exact .ofAct hx h.forcedFlushLimit
  | bringupStart => exact .ofAct hx h.bringupStart
  | coldResetAsserted => exact .ofAct hx h.coldResetAsserted
  | fuseLoadComplete => exact .ofAct hx h.fuseLoadComplete
  | secureBootComplete => exact .ofAct hx h.secureBootComplete
  | hbmTrainingComplete => exact .ofAct hx h.hbmTrainingComplete
  | hbmMemtestComplete => exact .ofAct hx h.hbmMemtestComplete
  | katComplete => exact .ofAct hx h.katComplete
  | testRecordWritten => exact .ofAct hx h.testRecordWritten
  | deviceReady => exact .ofAct hx h.deviceReady
  | testRecordSync => exact .ofAct hx h.testRecordSync
  | oeLctlRetrainWrite => exact .ofAct hx h.oeLctlRetrainWrite
  | hbmCtlRetrainWrite => exact .ofAct hx h.hbmCtlRetrainWrite
  | telRead => exact .ofAct hx h.telRead
  | snapArm => exact .ofAct hx h.snapArm
  | snapRead => exact .ofAct hx h.snapRead
  | tagSet => exact .ofAct hx h.tagSet
  | hist => exact .ofAct hx h.telHist
  | sampleSet => exact .ofAct hx h.sampleSet
  | sampleRead => exact .ofAct hx h.sampleRead
  | traceRead => exact .ofAct hx h.traceRead
  | snapshotTime => exact .ofAct hx h.snapshotTime
  | buntingSet => exact .ofAct hx h.buntingSet
  | buntingArm => exact .ofAct hx h.buntingArm
  | buntingFreeze => exact .ofAct hx h.buntingFreeze
  | buntingRead => exact .ofAct hx h.buntingRead
  | buntingFree => exact .ofAct hx h.buntingFree
  | mirrorSet => exact .ofAct hx h.mirrorSet
  | telCvalLoRead => exact .ofAct hx h.telCvalLoRead
  | hubFtimeLoRead => exact .ofAct hx h.hubFtimeLoRead
  | hubSteploRead => exact .ofAct hx h.hubSteploRead
  | ownerAuthChallenge => exact .ofAct hx h.ownerAuthChallenge
  | ownerAuthResponse => exact .ofAct hx h.ownerAuthResponse
  | ownerAuthAuditRead => exact .ofAct hx h.ownerAuthAuditRead
  | fuseWrite => exact .ofAct hx h.fuseWrite
  | fuseBurnComplete => exact .ofAct hx h.fuseBurnComplete
  | arbAdvance => exact .ofAct hx h.arbAdvance
  | keyInstall => exact .ofAct hx h.keyInstall
  | fwStage => exact .ofAct hx h.fwStage
  | fwActivate => exact .ofAct hx h.fwActivate
  | stagingSessionTimeout => exact .ofAct hx h.stagingSessionTimeout
  | spdmMessageReceived => exact .ofAct hx h.spdmMessageReceived
  | attestationTimeout => exact .ofAct hx h.attestationTimeout
  | attestationRetry => exact .ofAct hx h.attestationRetry
  | pldmMessage => exact .ofAct hx h.pldmMessage
  | mctpControlMessage => exact .ofAct hx h.mctpControlMessage
  | jtagInstruction => exact .ofAct hx h.jtagInstruction
  | refclkLoss => exact .ofAct hx h.refclkLoss
  | refclkFtReturn => exact .ofAct hx h.refclkFtReturn
  | lmodFltChange => exact .ofAct hx h.lmodFltChange
  | lmodEnOffDelay => exact .ofAct hx h.lmodEnOffDelay
  | tileErrUnhandledClear => exact .ofAct hx h.tileErrUnhandledClear
  | tileErrResetSeenClear => exact .ofAct hx h.tileErrResetSeenClear
  | registerWrite => exact .ofAct hx h.registerWrite
  | transmitBlockSlot => exact .ofAct hx h.transmitBlockSlot
  | shaperRefill => exact .ofAct hx h.shaperRefill
  | hostTransferComplete => exact .ofAct hx h.hostTransferComplete
  | railInRange => exact .ofAct hx h.railInRange
  | refclkReturn => exact .ofAct hx h.refclkReturn
  | d3hotEntry => exact .ofAct hx h.d3hotEntry

theorem Canonical.step (h : Canonical s.dev) (hx : step s = .next s') : Canonical s'.dev := by
  obtain ⟨dev, pending⟩ := s
  cases pending with
  | nil =>
    obtain rfl : _ = s' := Host.Outcome.next.inj hx
    exact h.idle
  | cons c rest => exact Canonical.exec (s := ⟨dev, rest⟩) h hx

end

/-- Settles O49: every device function keeps the canonical form, so every command does, and so does an idle step. -/
theorem memoriesStayCanonical : Obligations.MemoriesStayCanonical := by
  unfold Obligations.MemoriesStayCanonical
  intro s s' h hstep
  exact h.step hstep

end Sys2Proof
end

section
/-! PROOF. The model table (spec/12, R340, R346): what leaves it alone, what a session's update and an answer do to it,
and how a slot takes its ready trigger and begins its load (R343). -/

namespace Sys2Proof.Machine

/-! ### The model table and the store under traffic -/

theorem Dev.Sends.models {d e : Dev} (h : d.Sends e) : e.models = d.models :=
  have hm : e.still.models = d.still.models := congrArg Dev.models h.still
  hm

theorem Dev.Sends.store {d e : Dev} (h : d.Sends e) : e.store = d.store :=
  have hs : e.still.store = d.still.store := congrArg Dev.store h.still
  hs

theorem Dev.Sends.sendRsp {d e : Dev} {ing dst burgee tag op i status np made : Nat} (h : d.Sends e) :
    d.Sends (e.sendRsp ing dst burgee tag op i status np made) := h.sendOut

@[simp] theorem Dev.platform_models (b d : Dev) : (b.platform d).models = d.models := by
  obtain ⟨o, ho⟩ := b.platform_frame d
  rw [ho]

@[simp] theorem Dev.platform_store (b d : Dev) : (b.platform d).store = d.store := by
  obtain ⟨o, ho⟩ := b.platform_frame d
  rw [ho]

@[simp] theorem Dev.complete_models (d : Dev) (a st detail : Nat) (res : List Nat) :
    (d.complete a st res detail).models = d.models := (Dev.Sends.refl d).complete.models

theorem Dev.model_of_models {d e : Dev} (h : e.models = d.models) (s : Nat) : e.model s = d.model s := by
  rw [Dev.model, h, Dev.model]

theorem Dev.session_of_models {d e : Dev} (h : e.models = d.models) (s i : Nat) : e.session s i = d.session s i := by
  rw [Dev.session, Dev.model_of_models h, Dev.session]

@[simp] theorem Dev.model_platform (b d : Dev) (s : Nat) : (b.platform d).model s = d.model s :=
  Dev.model_of_models (b.platform_models d) s

@[simp] theorem Dev.session_platform (b d : Dev) (s i : Nat) : (b.platform d).session s i = d.session s i :=
  Dev.session_of_models (b.platform_models d) s i

@[simp] theorem Dev.trig_platform (b d : Dev) (t : Nat) : (b.platform d).trig t = d.trig t := by simp [Dev.trig]

/-! ### Slots and sessions -/

@[simp] theorem Dev.model_count (d : Dev) (b i g s n m : Nat) : (d.count b i g s n).model m = d.model m := rfl
@[simp] theorem Dev.session_count (d : Dev) (b i g s n m x : Nat) : (d.count b i g s n).session m x = d.session m x :=
  rfl
@[simp] theorem Dev.model_began (d : Dev) (a s : Nat) : (d.began a).model s = d.model s := rfl

theorem Dev.model_setModel_other (d : Dev) {s u : Nat} (h : s ≠ u) (m : Model) :
    (d.setModel s m).model u = d.model u := Tab.get_put_other _ h ..

@[simp] theorem Dev.model_setSession (d : Dev) (s i : Nat) (x : Session) :
    (d.setSession s i x).model s = { d.model s with sess := (d.model s).sess.put i x } := by simp [Dev.setSession]

@[simp] theorem Dev.setSession_store (d : Dev) (s i : Nat) (x : Session) : (d.setSession s i x).store = d.store := (rfl)

@[simp] theorem Dev.session_setSession (d : Dev) (s i : Nat) (x : Session) : (d.setSession s i x).session s i = x := by
  simp [Dev.session, Model.session]

/-- An answer keeps what it says for a repeat of its TAG, and what it sends is traffic (R352). -/
theorem Dev.models_answer (d : Dev) (s i tag op st made : Nat) : (d.answer s i tag op st made).models =
    (d.setSession s i { d.session s i with last := some (tag, op, st, made) }).models :=
  (Dev.Sends.refl _).sendRsp.count.models

@[simp] theorem Dev.session_answer (d : Dev) (s i tag op st made : Nat) : (d.answer s i tag op st made).session s i =
    { d.session s i with last := some (tag, op, st, made) } :=
  (Dev.session_of_models (d.models_answer ..) s i).trans (d.session_setSession ..)

@[simp] theorem Dev.steps_answer (d : Dev) (s i tag op st made : Nat) :
    ((d.answer s i tag op st made).model s).steps = (d.model s).steps := by
  rw [Dev.model_of_models (d.models_answer ..), Dev.model_setSession]

/-! THD.MDLSTAT, THD.MCFREE and THD.MDLDATA are registers.  `(rfl)` keeps these equations, and those of `takeReady` and
`beginLoad`, from being unfolded again where they are used, which would compute what the registers hold. -/

@[simp] theorem Dev.syncModels_models (d : Dev) : d.syncModels.models = d.models := (rfl)
@[simp] theorem Dev.syncModels_mgmt (d : Dev) : d.syncModels.mgmt = d.mgmt := (rfl)
@[simp] theorem Dev.syncModels_store (d : Dev) : d.syncModels.store = d.store := (rfl)
@[simp] theorem Dev.model_syncModels (d : Dev) (s : Nat) : d.syncModels.model s = d.model s := (rfl)
@[simp] theorem Dev.session_syncModels (d : Dev) (s i : Nat) : d.syncModels.session s i = d.session s i := (rfl)

/-! ### The ready trigger and the load (R343) -/

@[simp] theorem Dev.model_takeReady (d : Dev) (s t mask a : Nat) : (d.takeReady s t mask a).model s =
    { d.model s with ready := some t, nextMask := mask, job := some a } := Dev.model_setModel ..

theorem Dev.model_takeReady_other (d : Dev) {s u : Nat} (h : s ≠ u) (t mask a : Nat) :
    (d.takeReady s t mask a).model u = d.model u := Dev.model_setModel_other _ h _

@[simp] theorem Dev.takeReady_mgmt (d : Dev) (s t mask a : Nat) : (d.takeReady s t mask a).mgmt = d.mgmt := (rfl)

theorem Dev.trig_takeReady (d : Dev) (s t mask a : Nat) : (d.takeReady s t mask a).trig t =
    { state := tgArmed, burgee := (d.model s).burgee, thresh := (d.model s).tiles } := Tab.get_put_self ..

@[simp] theorem Dev.model_beginLoad (d : Dev) (s : Nat) : (d.beginLoad s).model s =
    { d.model s with state := msLoading, mask := (d.model s).nextMask, nextMask := 0, incoming := none, loading := true
                     loadAt := d.now } := Dev.model_setModel ..

theorem Dev.model_beginLoad_other (d : Dev) {s u : Nat} (h : s ≠ u) : (d.beginLoad s).model u = d.model u :=
  Dev.model_setModel_other _ h _

@[simp] theorem Dev.beginLoad_mgmt (d : Dev) (s : Nat) : (d.beginLoad s).mgmt = d.mgmt := (rfl)
@[simp] theorem Dev.trig_beginLoad (d : Dev) (s t : Nat) : (d.beginLoad s).trig t = d.trig t := (rfl)

/-! ### A slot without sessions -/

theorem Model.sessIn_of_nil {m : Model} (h : m.sess = []) (st : Nat) : m.sessIn st = [] := by
  simp [Model.sessIn, h, sortBy]

theorem Dev.loseSessions_of_nil {d : Dev} {s : Nat} (h : (d.model s).sess = []) : d.loseSessions s = d := by
  simp [Dev.loseSessions, h, Dev.each]

/-- Stopping the serve programs changes tiles and slots in time. -/
@[simp] theorem Dev.stopServe_models (d : Dev) (s : Nat) : (d.stopServe s).models = d.models :=
  Dev.each_keeps Dev.models _ _ fun e t => by
    dsimp only
    split <;> rfl

@[simp] theorem Dev.stopServe_mgmt (d : Dev) (s : Nat) : (d.stopServe s).mgmt = d.mgmt :=
  Dev.each_keeps Dev.mgmt _ _ fun e t => by
    dsimp only
    split <;> rfl

/-! ### Sections written (R343) -/

@[simp] theorem Dev.sramWrite_models (d : Dev) (t a : Nat) (bytes : List Nat) :
    (d.sramWrite t a bytes).models = d.models := by
  simp only [Dev.sramWrite, apply_ite Dev.models]
  simp [Dev.syncPoison]

@[simp] theorem Dev.startProgram_models (d : Dev) (t : Nat) (l : Launch) : (d.startProgram t l).models = d.models := by
  simp [Dev.startProgram]

@[simp] theorem Dev.slotWait_models (d : Dev) (src : Nat) (a : SlotAct) : (d.slotWait src a).models = d.models := by
  simp only [Dev.slotWait, apply_ite Dev.models, ite_self]

/-- A tile whose next launch starts, or waits for its slot, is no change of a model. -/
@[simp] theorem Dev.startNext_models (d : Dev) (t : Nat) : (d.startNext t).models = d.models := by
  unfold Dev.startNext
  dsimp only
  split
  · rfl
  · simp [apply_ite Dev.models]

@[simp] theorem Dev.launch_models (d : Dev) (t : Nat) (l : Launch) : (d.launch t l).1.models = d.models := by
  simp only [Dev.launch, apply_ite Prod.fst, apply_ite Dev.models]
  simp

@[simp] theorem Dev.loadTile_models (d : Dev) (s t k : Nat) : (d.loadTile s t k).models = d.models := by
  unfold Dev.loadTile
  dsimp only
  split
  · rfl
  · simp [Dev.modTile]

end Sys2Proof.Machine
end

section
/-! PROOF. Models fetched, loaded, swapped, moved and evicted, and a step of one waiting token (spec/12, R339 to R348,
R356; spec/14, R397). -/

namespace Sys2Proof.Machine

/-! ### The store in state READY -/

theorem Dev.storeGate_ready {d : Dev} (h : d.nvs = nsReady) : d.storeGate = St.ok := by
  simp [Dev.storeGate, h, nsReady, nsAbsent, nsPowerFail, nsUnformatted]

theorem Dev.wakeStore_ready {d : Dev} (h : d.nvs = nsReady) : d.wakeStore = d := by
  simp [Dev.wakeStore, h, nsReady, nsQuiesced]

/-- A store command that has begun runs (R383). -/
theorem Dev.storeCmd_ready {d : Dev} {aseq op : Nat} {j : JEntry} (f : JEntry → Dev → Dev) (hb : Begun d aseq op j)
    (h : d.nvs = nsReady) : d.storeCmd aseq op f = f j (d.began aseq) := by
  obtain ⟨hj, hph, hop, -, -⟩ := hb
  have hbuild : ¬d.nvs = nsRebuilding := by simp [h, nsReady, nsRebuilding]
  have hbegan : (d.began aseq).nvs = nsReady := h
  rw [Dev.storeCmd, if_neg hbuild, Dev.cmd_begun _ hj hph hop]
  simp only [Dev.storeGate_ready hbegan, Dev.wakeStore_ready hbegan, ne_eq, not_true_eq_false, if_false]

@[simp] theorem Dev.startRead_mgmt (d : Dev) (src : StoreSrc) (h off len : Nat) (tgt : Option Nat) (addr : Nat) :
    (d.startRead src h off len tgt addr).mgmt = d.mgmt := rfl
@[simp] theorem Dev.model_startRead (d : Dev) (src : StoreSrc) (h off len : Nat) (tgt : Option Nat) (addr s : Nat) :
    (d.startRead src h off len tgt addr).model s = d.model s := rfl
@[simp] theorem Dev.session_startRead (d : Dev) (src : StoreSrc) (h off len : Nat) (tgt : Option Nat) (addr s i : Nat) :
    (d.startRead src h off len tgt addr).session s i = d.session s i := rfl

/-- The newest transfer is the one that has just begun. -/
theorem Dev.src_startRead (d : Dev) (src : StoreSrc) (h off len : Nat) (tgt : Option Nat) (addr : Nat) :
    (d.startRead src h off len tgt addr).store.jobs.getLast?.map StoreJob.src = some src := by
  simp [Dev.startRead, Dev.addJob, Dev.modStore]

@[simp] theorem Dev.delJob_mgmt (d : Dev) (id : Nat) : (d.delJob id).mgmt = d.mgmt := rfl

theorem Dev.each_nil {α : Type} (d : Dev) (f : Dev → α → Dev) : d.each [] f = d := rfl

/-! ### Commands that run on, and commands that are answered -/

/-- A command whose effect leaves the journal as it was when it began is running. -/
theorem Dev.running_platform {d e : Dev} {aseq op : Nat} {j : JEntry} (b : Dev) (hb : Begun d aseq op j)
    (hm : e.mgmt = (d.began aseq).mgmt) : Running (b.platform e) j := by
  obtain ⟨hj, -, -, -, -⟩ := hb
  exact Dev.running_of_mgmt hj ((Dev.platform_mgmt ..).trans hm)

/-- A PCIe command answered once its slot has been written. -/
theorem Dev.setModel_completes {d : Dev} {aseq : Nat} {j : JEntry} (hj : d.job? aseq = some j)
    (ho : j.pkt.origin = .pcie) (hl : j.lost = false) (b : Dev) (m : Nat) (x : Model) (st : Nat) (res : List Nat) :
    Answered (b.platform ((d.setModel m x).syncModels.complete aseq st res)) j st res ∧
      (b.platform ((d.setModel m x).syncModels.complete aseq st res)).model m = x := by
  have hmgmt : (d.setModel m x).syncModels.mgmt = d.mgmt := by simp
  refine ⟨Dev.answered_platform b (Dev.complete_pcie ((Dev.job?_congr hmgmt aseq).trans hj) ho hl ..), ?_⟩
  rw [Dev.model_platform, Dev.model_of_models (Dev.complete_models ..), Dev.model_syncModels, Dev.model_setModel]

/-! ### MODEL_FETCH (R397, R339) -/

theorem modelFetch_starts {d : Dev} {aseq m : Nat} {j : JEntry} {o : Obj} (hb : Begun d aseq 0x0404 j)
    (hnvs : d.nvs = nsReady) (ho : d.obj? (j.w 4) = some o) (hreach : objReach o j.burgee (d.isOwner j) = true)
    (hkind : o.kind = 1) (hstate : o.state = 2) (hm : d.emptySlot = some m)
    (hfit : ceilDiv (mdlWord o.data 8) 4096 * 4096 ≤ d.cacheFree) :
    modelFetch aseq d = (((d.began aseq).setModel m { fetch := some aseq, bodyB := mdlWord o.data 8 }).startRead
      (.fetch m) (j.w 4) 0 o.size none 0).syncModels := by
  have hobj : (d.began aseq).cmdObj j (j.w 4) = .ok o := by
    have ho' : (d.began aseq).obj? (j.w 4) = some o := ho
    have hreach' : objReach o j.burgee ((d.began aseq).isOwner j) = true := hreach
    simp only [Dev.cmdObj, ho', hreach', if_true]
  have hm' : (d.began aseq).emptySlot = some m := hm
  have hfit' : ¬(d.began aseq).cacheFree < ceilDiv (mdlWord o.data 8) 4096 * 4096 := hfit.not_gt
  rw [modelFetch, Dev.storeCmd_ready _ hb hnvs]
  simp only [hobj, hm', hfit', hkind, hstate, ne_eq, not_true_eq_false, or_self, if_false]

theorem modelFetchComplete_caches {d : Dev} {m aseq : Nat} {sig : Bool} {j : JEntry} {x : StoreJob}
    (hfetch : (d.model m).fetch = some aseq)
    (hx : (d.store.jobs.find? fun j => j.src = StoreSrc.fetch m && j.ended) = some x) (hgood : x.failed = none)
    (hj : d.job? aseq = some j)
    (hst : imageStatus (imageModel x.data) (sig && d.modelKey (imageModel x.data).burgee) j.burgee = 0) :
    modelFetchComplete m sig d =
      ((d.delJob x.id).setModel m { imageModel x.data with state := msCached }).syncModels.complete aseq St.ok [m] := by
  have hj' : (d.delJob x.id).job? aseq = some j := hj
  have hst' : ¬checkStatus (imageCheck (imageModel x.data)
      (sig && (d.delJob x.id).modelKey (imageModel x.data).burgee) j.burgee) ≠ 0 := not_not.2 hst
  simp only [modelFetchComplete, hfetch, hx, hgood, hj', hst', if_false]

/-! ### MODEL_LOAD, MODEL_SWAP and MODEL_MOVE (R343 to R345) -/

@[simp] theorem Dev.modelReach_began (d : Dev) (a : Nat) (j : JEntry) (m : Model) :
    (d.began a).modelReach j m = d.modelReach j m := rfl
@[simp] theorem Dev.modelKey_began (d : Dev) (a b : Nat) : (d.began a).modelKey b = d.modelKey b := rfl
@[simp] theorem Dev.placeStatus_began (d : Dev) (a s mask own : Nat) :
    (d.began a).placeStatus s mask own = d.placeStatus s mask own := rfl
@[simp] theorem Dev.freeTrig_began (d : Dev) (a mask : Nat) : (d.began a).freeTrig mask = d.freeTrig mask := rfl

theorem modelLoad_begins {d : Dev} {aseq s mask t : Nat} {sig : Bool} {j : JEntry} (hb : Begun d aseq 0x0405 j)
    (hs : bits (j.w 4) 7 0 = s) (hmask : j.tileMask 5 = mask) (hreach : d.modelReach j (d.model s) = true)
    (hcached : (d.model s).state = msCached) (hjob : (d.model s).job = none)
    (himage : imageStatus (d.model s) (sig && d.modelKey (d.model s).burgee) j.burgee = 0)
    (htiles : (maskTiles mask).length = (d.model s).tiles) (hplace : d.placeStatus s mask s = 0)
    (ht : d.freeTrig mask = some t) :
    modelLoad aseq sig d = ((d.began aseq).takeReady s t mask aseq).beginLoad s := by
  obtain ⟨hj, hph, hop, -, -⟩ := hb
  rw [imageStatus] at himage
  rw [modelLoad, Dev.cmd_begun _ hj hph hop]
  simp only [Dev.model_began, Dev.modelReach_began, Dev.modelKey_began, Dev.placeStatus_began, Dev.freeTrig_began, hs,
    hmask, hreach, hcached, hjob, himage, htiles, hplace, ht, Bool.true_eq_false, ne_eq, not_true_eq_false,
    Option.isSome_none, Bool.false_eq_true, or_self, if_false]

theorem modelSwap_drains {d : Dev} {aseq o i mask t : Nat} {sig : Bool} {j : JEntry} (hb : Begun d aseq 0x0406 j)
    (ho : bits (j.w 4) 7 0 = o) (hi : bits (j.w 5) 7 0 = i)
    (hmask : maskOf ((maskTiles (d.model o).mask).take (d.model i).tiles) = mask)
    (hout : (d.model o).state = msResident) (hin : (d.model i).state = msCached) (hjob : (d.model i).job = none)
    (htiles : (d.model i).tiles ≤ (d.model o).tiles) (hreachO : d.modelReach j (d.model o) = true)
    (hreachI : d.modelReach j (d.model i) = true)
    (himage : imageStatus (d.model i) (sig && d.modelKey (d.model i).burgee) j.burgee = 0)
    (hplace : d.placeStatus i mask o = 0) (ht : d.freeTrig mask = some t) :
    modelSwap aseq sig d = ((((d.began aseq).takeReady i t mask aseq).setModel o
      { ((d.began aseq).takeReady i t mask aseq).model o with
        state := msDraining, park := bitOf (j.w 6) 0, incoming := some i }).count 0x0E o 2 5).syncModels := by
  obtain ⟨hj, hph, hop, -, -⟩ := hb
  rw [imageStatus] at himage
  rw [modelSwap, Dev.cmd_begun _ hj hph hop]
  simp only [Dev.model_began, Dev.modelReach_began, Dev.modelKey_began, Dev.placeStatus_began, Dev.freeTrig_began, ho,
    hi, hmask, hout, hin, hjob, htiles.not_gt, hreachO, hreachI, himage, hplace, ht, Bool.and_self, Bool.true_eq_false,
    ne_eq, not_true_eq_false, Option.isSome_none, Bool.false_eq_true, or_self, if_false]

theorem modelMove_drains {d : Dev} {aseq s mask t : Nat} {j : JEntry} (hb : Begun d aseq 0x0407 j)
    (hs : bits (j.w 4) 7 0 = s) (hmask : j.tileMask 5 = mask) (hres : (d.model s).state = msResident)
    (htiles : (maskTiles mask).length = (d.model s).tiles) (hplace : d.placeStatus s mask s = 0)
    (ht : d.freeTrig mask = some t) :
    modelMove aseq d = (((d.began aseq).takeReady s t mask aseq).setModel s
      { ((d.began aseq).takeReady s t mask aseq).model s with
        state := msDraining, park := true, incoming := some s, moving := true }).syncModels := by
  obtain ⟨hj, hph, hop, -, -⟩ := hb
  rw [modelMove, Dev.cmd_begun _ hj hph hop]
  simp only [Dev.model_began, Dev.placeStatus_began, Dev.freeTrig_began, hs, hmask, hres, htiles, hplace, ht, ne_eq,
    not_true_eq_false, if_false]

/-- The sections written leave the model table as the slot's update does. -/
theorem models_modelLoadSectionsWritten {d : Dev} {m : Nat} (hst : (d.model m).state = msLoading)
    (hl : (d.model m).loading = true) : (modelLoadSectionsWritten m d).models = (d.setModel m { d.model m with
      loading := false, epoch := nextEpoch (d.model m).epoch, prevTill := none }).models := by
  have hon : ¬((d.model m).state ≠ msLoading ∨ (d.model m).loading = false) := by simp [hst, hl]
  rw [modelLoadSectionsWritten, if_neg hon]
  exact (Dev.syncModels_models _).trans (Dev.each_keeps Dev.models _ _ fun e x => e.loadTile_models m x.1 x.2)

/-- A slot without sessions leaves its tiles to the model that comes in. -/
theorem modelSwapStepDrained_empty {d : Dev} {m i : Nat} (hst : (d.model m).state = msDraining)
    (hi : (d.model m).incoming = some i) (hne : i ≠ m) (hsess : (d.model m).sess = []) :
    modelSwapStepDrained m d = ((d.stopServe m).setModel m { (d.stopServe m).model m with
      state := msCached, mask := 0, incoming := none, park := false }).beginLoad i := by
  have hnone (st : Nat) : (d.model m).sessIn st = [] := Model.sessIn_of_nil hsess st
  have hend : d.endWaiting m [] = d := rfl
  unfold modelSwapStepDrained
  simp only [hst, if_true, hi]
  rw [hnone, hnone, hend, Dev.each_nil, Dev.each_nil, Dev.loseSessions_of_nil hsess, ite_self, if_neg hne]

/-! ### MODEL_EVICT (R340, R360) -/

theorem modelEvict_empties {d : Dev} {aseq s : Nat} {j : JEntry} (hb : Begun d aseq 0x0408 j)
    (hs : bits (j.w 4) 7 0 = s)
    (hst : (d.model s).state = msCached ∨ (d.model s).state = msResident ∨ (d.model s).state = msFailed)
    (hjob : (d.model s).job = none) (hfetch : (d.model s).fetch = none) (hreach : d.modelReach j (d.model s) = true)
    (hsess : (d.model s).sess = []) :
    modelEvict aseq d = (((d.began aseq).stopServe s).setModel s {}).syncModels.complete aseq St.ok := by
  obtain ⟨hj, hph, hop, -, -⟩ := hb
  have hidle : ¬((d.model s).state = msLoading ∨ (d.model s).state = msDraining ∨ (d.model s).job.isSome = true ∨
      (d.model s).fetch.isSome = true) := by
    rcases hst with h | h | h <;> simp [h, hjob, hfetch, msCached, msResident, msFailed, msLoading, msDraining]
  have hused : ¬(d.model s).state = msEmpty := by
    rcases hst with h | h | h <;> simp [h, msCached, msResident, msFailed, msEmpty]
  have hstop : (((d.began aseq).stopServe s).model s).sess = [] := by
    rw [Dev.model_of_models (Dev.stopServe_models ..)]
    exact hsess
  rw [modelEvict, Dev.cmd_begun _ hj hph hop]
  simp only [hs, Dev.model_began, Dev.modelReach_began, hreach, hidle, hused, Bool.true_eq_false, if_false,
    Dev.loseSessions_of_nil (d := d.began aseq) hsess, Model.sessIn_of_nil hstop, Dev.each_nil, hstop]
  rfl

/-! ### MODEL_STEP (R348, R356) -/

theorem Model.nextPos_putKv (m : Model) (x : Session) (pos : Nat) (kv : List Nat) :
    (m.putKv x pos kv).nextPos = x.nextPos := by
  unfold Model.putKv
  split <;> rfl

theorem Model.apps_putKv (m : Model) (x : Session) (pos : Nat) (kv : List Nat) : (m.putKv x pos kv).apps = x.apps := by
  unfold Model.putKv
  split <;> rfl

/-- The last token of a session's one APPEND processed. -/
theorem Dev.session_appendRow {d : Dev} {s i : Nat} {a : AppendReq} (happs : (d.session s i).apps = [a])
    (hleft : a.left.length = 1) (kv : List Nat) :
    ((d.appendRow s i kv).session s i).nextPos = (d.session s i).nextPos + 1 ∧
      ((d.appendRow s i kv).session s i).apps = [] ∧ ((d.appendRow s i kv).model s).steps = (d.model s).steps := by
  have hdone : a.left.drop 1 = [] := List.drop_eq_nil_of_le hleft.le
  have hx : (d.model s).session i = d.session s i := rfl
  simp [Dev.appendRow, hx, happs, hdone, Model.nextPos_putKv, Model.apps_putKv]

/-- A step of a model of which one session has one token waiting and none generates. -/
theorem modelStep_one {d : Dev} {m dur i : Nat} {out : List SessOut} (hres : (d.model m).state = msResident)
    (hop : d.rd R.PWR_OPSTAT_OP_CUR ≠ 3) (hopen : (d.model m).sessIn 1 = [i]) (hgen : (d.session m i).gen = none)
    (hwait : (d.model m).waiting = [i]) : ∃ kv, modelStep m dur out d =
      ((((d.count 0x0E m 2 0).count 0x0E m 2 1 1).setModel m { d.model m with
        stepLast := dur % 2 ^ 32, stepMax := max (d.model m).stepMax (dur % 2 ^ 32)
        steps := min (2 ^ 32 - 1) ((d.model m).steps + 1) }).appendRow m i kv).syncModels := by
  have hgen' : ((d.model m).session i).gen = none := hgen
  refine ⟨((out.find? fun o => o.sess = i).getD { sess := i }).kv.getD 0 [], ?_⟩
  have hgens : ([i].filter fun i => ((d.model m).session i).gen.isSome) = [] := by simp [hgen']
  have hrows : [i].take 128 = [i] := rfl
  unfold modelStep
  simp only [hopen, hgens, List.filter_nil, hwait, List.length_nil, Nat.mul_zero, Nat.sub_zero, hrows]
  rw [if_neg (by simp [hres, hop])]
  rfl

/-- That step counts, and processes the token. -/
theorem modelStep_token {d : Dev} {m dur i : Nat} {out : List SessOut} {a : AppendReq}
    (hres : (d.model m).state = msResident) (hop : d.rd R.PWR_OPSTAT_OP_CUR ≠ 3) (hopen : (d.model m).sessIn 1 = [i])
    (hgen : (d.session m i).gen = none) (hwait : (d.model m).waiting = [i]) (happs : (d.session m i).apps = [a])
    (hleft : a.left.length = 1) :
    ((modelStep m dur out d).model m).steps = min (2 ^ 32 - 1) ((d.model m).steps + 1) ∧
      ((modelStep m dur out d).session m i).nextPos = (d.session m i).nextPos + 1 ∧
      ((modelStep m dur out d).session m i).apps = [] := by
  obtain ⟨kv, hstep⟩ := modelStep_one (dur := dur) (out := out) hres hop hopen hgen hwait
  rw [hstep, Dev.model_syncModels, Dev.session_syncModels]
  set e := ((d.count 0x0E m 2 0).count 0x0E m 2 1 1).setModel m { d.model m with
    stepLast := dur % 2 ^ 32, stepMax := max (d.model m).stepMax (dur % 2 ^ 32)
    steps := min (2 ^ 32 - 1) ((d.model m).steps + 1) } with he
  have hsess : e.session m i = d.session m i := by simp [he, Dev.session, Model.session]
  obtain ⟨hpos, happs', hsteps⟩ := Dev.session_appendRow (hsess ▸ happs) hleft kv
  rw [hpos, happs', hsteps, hsess, he, Dev.model_setModel]
  exact ⟨rfl, rfl, rfl⟩

/-- Settles O14: each command or event comes down to its slot's update, which traffic, the model registers and the tiles
leave alone; a step of one token comes down to that token's row. -/
theorem modelCommands : Obligations.ModelCommands := by
  unfold Obligations.ModelCommands
  refine ⟨?fetch, ?fetched, ?load, ?written, ?swap, ?drained, ?move, ?stub, ?evict, ?step⟩
  case fetch =>
    intro s aseq m j o hb hnvs ho hreach hkind hstate hm hfit
    refine Does.of_act rfl ?_
    rw [modelFetch_starts hb hnvs ho hreach hkind hstate hm hfit]
    refine ⟨?fetch, ?body, ?src, Dev.running_platform _ hb (by simp)⟩
    case fetch => simp
    case body => simp
    case src =>
      rw [Dev.platform_store]
      exact Dev.src_startRead ..
  case fetched =>
    intro s m aseq sig j x hfetch hx hgood hj ho hl hst
    have hcaches := modelFetchComplete_caches hfetch hx hgood hj hst
    have hj' : (s.dev.delJob x.id).job? aseq = some j := (Dev.job?_congr (Dev.delJob_mgmt ..) aseq).trans hj
    refine Does.of_act rfl ?_
    rw [hcaches]
    exact (Dev.setModel_completes hj' ho hl ..).symm
  case load =>
    intro s aseq t sig j hb hreach hcached hjob himage htiles hplace ht
    refine Does.of_act rfl ?_
    rw [modelLoad_begins hb rfl rfl hreach hcached hjob himage htiles hplace ht]
    refine ⟨?state, ?mask, ?ready, ?armed, ?thresh, Dev.running_platform _ hb (by simp)⟩
    case state => simp
    case mask => simp
    case ready => simp
    case armed => simp [Dev.trig_takeReady]
    case thresh => simp [Dev.trig_takeReady]
  case written =>
    intro s m hst hl
    refine Does.of_act rfl ?_
    rw [Dev.model_platform, Dev.model_of_models (models_modelLoadSectionsWritten hst hl), Dev.model_setModel]
    exact ⟨rfl, rfl, rfl⟩
  case swap =>
    intro s aseq t sig j hb hout hin hjob htiles hreachO hreachI himage hplace ht
    have hne : bits (j.w 4) 7 0 ≠ bits (j.w 5) 7 0 := by
      intro h
      rw [h, hin] at hout
      exact absurd hout (by decide)
    refine Does.of_act rfl ?_
    rw [modelSwap_drains hb rfl rfl rfl hout hin hjob htiles hreachO hreachI himage hplace ht]
    refine ⟨?state, ?incoming, ?ready, Dev.running_platform _ hb (by simp)⟩
    case state => simp
    case incoming => simp
    case ready => simp [Dev.model_setModel_other _ hne]
  case drained =>
    intro s m i hst hi hne hsess
    refine Does.of_act rfl ?_
    rw [modelSwapStepDrained_empty hst hi hne hsess, Dev.model_platform, Dev.model_platform, Dev.model_beginLoad,
      Dev.model_beginLoad_other _ hne, Dev.model_setModel, Dev.model_setModel_other _ hne.symm,
      Dev.model_of_models (Dev.stopServe_models ..)]
    exact ⟨rfl, rfl, rfl, congrArg Model.nextMask (Dev.model_of_models (Dev.stopServe_models ..) i)⟩
  case move =>
    intro s aseq t j hb hres htiles hplace ht
    refine Does.of_act rfl ?_
    rw [modelMove_drains hb rfl rfl hres htiles hplace ht]
    refine ⟨?state, ?incoming, ?mask, Dev.running_platform _ hb (by simp)⟩
    case state => simp
    case incoming => simp
    case mask => simp
  case stub =>
    intro s m t ht hlate
    have hend : modelMoveStubExpiry m s.dev = s.dev.setModel m { s.dev.model m with prevTill := none } := by
      simp only [modelMoveStubExpiry, ht, hlate, if_true]
    refine Does.of_act rfl ?_
    rw [hend, Dev.model_platform, Dev.model_setModel]
  case evict =>
    intro s aseq j hb hst hjob hfetch hreach hsess
    have hevict := modelEvict_empties hb rfl hst hjob hfetch hreach hsess
    obtain ⟨hj, -, -, ho, hl⟩ := hb
    have hrun : (s.dev.began aseq).job? aseq = some { j with phase := .running } := Dev.job?_modJob hj fun _ => rfl
    have hj' := (Dev.job?_congr (Dev.stopServe_mgmt (s.dev.began aseq) (bits (j.w 4) 7 0)) aseq).trans hrun
    refine Does.of_act rfl ?_
    rw [hevict]
    exact Dev.setModel_completes (j := { j with phase := .running }) hj' ho hl ..
  case step =>
    intro s m dur i out a hres hop hopen hgen hwait happs hleft
    refine Does.of_act rfl ?_
    rw [Dev.model_platform, Dev.session_platform]
    exact modelStep_token hres hop hopen hgen hwait happs hleft

end Sys2Proof.Machine
end

section
/-! PROOF. Requests to resident models (spec/12, R349 to R353; spec/14, R398): a request that passes the tests of R352
comes down to its effect on its session. -/

namespace Sys2Proof.Machine

/-! ### The tests of R352 -/

theorem Dev.takeReq_satisfies {d e : Dev} {pid ing : Nat} {p : Packet → Bool} {k : Packet}
    (h : d.takeReq pid p = some (k, ing, e)) : p k = true := by
  unfold Dev.takeReq at h
  cases hs : d.pkt? pid with
  | none => simp [hs] at h
  | some s =>
    simp only [hs] at h
    split at h
    · cases h
    · rename_i hp
      split at h
      · cases h
      · split at h
        · cases h
        · rename_i htake
          cases h
          obtain ⟨hpkt, -, l, rfl⟩ := Dev.takeWhole_pkt htake
          obtain rfl : s = _ := Option.some.inj (hs.symm.trans hpkt)
          exact Bool.eq_true_of_not_eq_false fun hf => hp (.inl hf)

/-- A request that names a RESIDENT model, at the model's epoch or at none, comes to the tests of its session. -/
theorem Dev.testReq_resident {d : Dev} {r : SReq} {m : Nat} (f : Nat → Nat → Session → Dev → Dev)
    (hm : d.modelById r.model = some m) (hres : (d.model m).state = msResident)
    (hepoch : r.epoch = 0 ∨ r.epoch = (d.model m).epoch) :
    d.testReq r f = (d.count 0x0E m 0 r.op).testSession r m (f m) := by
  have hfresh : ¬(r.epoch ≠ 0 ∧ r.epoch ≠ (d.model m).epoch ∧ ¬(r.epoch = prevEpoch (d.model m).epoch ∧
      ((d.model m).prevTill.any fun t => decide ((d.count 0x0E m 0 r.op).now < t)) = true)) := by
    rintro ⟨h0, he, -⟩
    exact hepoch.elim h0 he
  simp only [Dev.testReq, hm, hres, ne_eq, not_true_eq_false, if_false]
  exact if_neg hfresh

/-- OPEN and RESTORE take the lowest free session (tests 3 and 4). -/
theorem Dev.testSession_opens {d : Dev} {r : SReq} {m n : Nat} (f : Nat → Session → Dev → Dev)
    (hop : r.op = 1 ∨ r.op = 8) (hbur : r.burgee = (d.model m).burgee) (hnew : (d.model m).openedBy r = none)
    (hfree : (d.model m).freeSession = some n) : d.testSession r m f = f n {} d := by
  simp only [Dev.testSession, hop, hbur, hnew, hfree, ne_eq, not_true_eq_false, if_true, if_false, false_and, or_self,
    Option.isNone_none, and_self]

/-- An open session is open to every request. -/
theorem sessOpen_of_open {x : Session} (h : x.state = 1) (op : Nat) : sessOpen x op = true := by simp [sessOpen, h]

/-- A request to a session of its source, with a new TAG, that its session has room for (tests 3 to 6). -/
theorem Dev.testSession_owned {d : Dev} {r : SReq} {m : Nat} {x : Session} (f : Nat → Session → Dev → Dev)
    (hop : ¬(r.op = 1 ∨ r.op = 8)) (hbur : r.burgee = (d.model m).burgee) (hx : d.session m r.sess = x)
    (howner : x.owner = r.src) (hmine : x.burgee = r.burgee) (hplace : r.sess < (d.model m).users)
    (hopen : sessOpen x r.op = true) (htag : x.openTags.contains r.tag = false)
    (hlast : (x.last.filter fun l => l.1 = r.tag) = none)
    (hfree : x.gen = none ∨ r.op = 4 ∨ (r.op = 6 ∧ x.state = 2))
    (hroom : r.op ≠ 3 ∨ ((d.model m).sess.filter fun y => y.2.gen.isSome).length < 128 / (d.model m).rows)
    (hquiet : r.op ≠ 5 ∧ r.op ≠ 7 ∨ x.apps = [] ∧ x.storing = none) : d.testSession r m f = f r.sess x d := by
  have hx' : (d.model m).session r.sess = x := hx
  have hidle : ¬((x.gen.isSome = true ∧ r.op ≠ 4 ∧ r.op ≠ 9 ∧ ¬(r.op = 6 ∧ x.state = 2)) ∨
      (r.op = 3 ∧ 128 / (d.model m).rows ≤ ((d.model m).sess.filter fun y => y.2.gen.isSome).length) ∨
      ((r.op = 5 ∨ r.op = 7) ∧ (x.apps ≠ [] ∨ x.storing.isSome = true))) := by
    rintro (⟨hgen, h4, -, h6⟩ | ⟨h3, hfull⟩ | ⟨h57, hbusy⟩)
    · rcases hfree with h | h | h
      · simp [h] at hgen
      · exact h4 h
      · exact h6 h
    · exact hroom.elim (absurd h3) fun h => h.not_ge hfull
    · rcases hquiet with ⟨h5, h7⟩ | ⟨happs, hstoring⟩
      · exact h57.elim h5 h7
      · simp [happs, hstoring] at hbusy
  simp only [Dev.testSession, hop, if_false, Option.getD_none, hx', hbur ▸ hmine, howner, hbur, hplace.not_ge, hopen,
    htag, hlast, hidle, ne_eq, not_true_eq_false, not_false_eq_true, and_self, and_false, false_and, or_self,
    Bool.true_eq_false, Bool.false_eq_true]

section
variable {d d1 : Dev} {pid op ing m : Nat} {k : Packet}

/-- A SERVE pennant that passes the tests before its session comes to the tests of its session. -/
theorem Dev.serve_asks (f : SReq → Nat → Nat → Session → Dev → Dev) (h : Asks d pid op k ing d1 m) :
    k.opcode = op ∧
      d.serve pid op f = (d1.count 0x0E m 0 op).testSession (reqOf k ing) m (f (reqOf k ing) m) := by
  obtain ⟨htake, hm, hres, hepoch, -⟩ := h
  have hop : k.opcode = op := by
    have hp := Dev.takeReq_satisfies htake
    simp only [Bool.and_eq_true, decide_eq_true_eq] at hp
    exact hp.2
  refine ⟨hop, ?_⟩
  simp only [Dev.serve, htake]
  rw [Dev.testReq_resident (r := reqOf k ing) _ hm hres hepoch]
  simp only [reqOf, hop]

/-- An OPEN or a RESTORE carried out on the lowest free session. -/
theorem Dev.serve_opens (f : SReq → Nat → Nat → Session → Dev → Dev) {n : Nat} (h : Asks d pid op k ing d1 m)
    (hop : op = 1 ∨ op = 8) (hnew : (d1.model m).openedBy (reqOf k ing) = none)
    (hfree : (d1.model m).freeSession = some n) :
    d.serve pid op f = f (reqOf k ing) m n {} (d1.count 0x0E m 0 op) := by
  obtain ⟨rfl, hserve⟩ := Dev.serve_asks f h
  obtain ⟨-, -, -, -, hbur⟩ := h
  rw [hserve]
  exact Dev.testSession_opens _ hop hbur hnew hfree

/-- A request carried out on the session of its source that it names. -/
theorem Dev.serve_owned (f : SReq → Nat → Nat → Session → Dev → Dev) {st : Nat} {x : Session}
    (h : Asks d pid op k ing d1 m) (ho : Owns d1 k m st x) (hop : ¬(op = 1 ∨ op = 8))
    (hopen : st = 1 ∨ op = 6 ∧ st = 2) (hfree : x.gen = none ∨ op = 4 ∨ (op = 6 ∧ st = 2))
    (hroom : op ≠ 3 ∨ ((d1.model m).sess.filter fun y => y.2.gen.isSome).length < 128 / (d1.model m).rows)
    (hquiet : op ≠ 5 ∧ op ≠ 7 ∨ x.apps = [] ∧ x.storing = none) :
    d.serve pid op f = f (reqOf k ing) m (k.arg5 % 65536) x (d1.count 0x0E m 0 op) := by
  obtain ⟨rfl, hserve⟩ := Dev.serve_asks f h
  obtain ⟨-, -, -, -, hbur⟩ := h
  obtain ⟨hx, rfl, howner, hmine, hplace, htag, hlast⟩ := ho
  have hopen : sessOpen x k.opcode = true := by
    rcases hopen with h | ⟨hop, h⟩
    · exact sessOpen_of_open h _
    · simp [sessOpen, hop, h]
  rw [hserve]
  exact Dev.testSession_owned _ hop hbur hx howner hmine hplace hopen htag hlast hfree hroom hquiet

end

/-! ### Effects on the session -/

theorem Dev.append_queues {d : Dev} {r : SReq} {s i : Nat} {x : Session} (hpos : r.pos = x.nextPos + x.queued)
    (hsome : r.tokens ≠ []) (hfit : x.nextPos + x.queued + r.tokens.length ≤ maxPos) :
    ((d.append r s i x).session s i).apps.map AppendReq.left = x.apps.map AppendReq.left ++ [r.tokens] := by
  simp [Dev.append, hpos, hsome, hfit.not_gt]

theorem Dev.session_parkSession (d : Dev) (s i : Nat) : ((d.parkSession s i).session s i).state = 2 ∧
    ((d.parkSession s i).session s i).parked.length = (maskTiles (d.model s).mask).length := by
  simp [Dev.parkSession]

theorem Dev.unparkSession_free {d : Dev} {s n : Nat} (h : (d.model s).freeSlot = some n) (i : Nat) :
    ∃ e : Dev, d.unparkSession s i =
      (e.setSession s i { d.session s i with state := 1, parked := [], slotNo := n }, true) := by
  simp only [Dev.unparkSession, h]
  exact ⟨_, rfl⟩

/-! ### Snapshots (R398) -/

theorem Dev.snapObj_ok {d : Dev} {r : SReq} {o : Obj} {st : Nat} (hnvs : d.nvs = nsReady) (ho : d.obj? r.arg = some o)
    (hkind : o.kind = 3) (hst : o.state = st) (hbur : o.burgee = r.burgee) : d.snapObj r st = .ok o := by
  simp [Dev.snapObj, Dev.storeGate_ready hnvs, ho, hkind, hst, hbur]

/-- No writer whose bytes have not all been moved has its data accepted (R392). -/
theorem Dev.accept_of_moving {d : Dev} (h : ∀ j ∈ d.store.jobs, j.moved ≠ j.len) : d.accept = d := by
  unfold Dev.accept
  rw [List.filter_eq_nil_iff.2 fun j hj => by simp [h j hj], Dev.each_nil]

/-- A write claimed in a store in state READY, whose bytes are still to be moved. -/
theorem Dev.startWrite_claims {d : Dev} {h off len : Nat} (src : StoreSrc) (tgt : Option Nat) (addr : Nat) (data : Mem)
    (hnvs : d.nvs = nsReady) (hq : d.store.quiesceJob = none) (hst : d.writeStatus h off len = St.ok)
    (hlen : 0 < len) (hmoving : ∀ j ∈ d.store.jobs, j.moved ≠ j.len) :
    d.startWrite src h off len tgt addr data =
      (d.addJob { id := 0, src := src, obj := h, off := off, len := len, write := true
                  target := tgt, addr := addr, data := data }, St.ok) := by
  have hro : ¬nsReady = nsReadOnly := by decide
  simp only [Dev.startWrite, Dev.wakeStore_ready hnvs, Dev.storeGate_ready hnvs, hnvs, hq, hst, hro, ne_eq,
    not_true_eq_false, Option.isSome_none, Bool.false_eq_true, if_false]
  rw [Dev.accept_of_moving]
  intro j hj
  rcases List.mem_append.1 hj with hj | hj
  · exact hmoving j hj
  · obtain rfl := List.mem_singleton.1 hj
    exact hlen.ne

theorem Dev.src_addJob (d : Dev) (j : StoreJob) :
    (d.addJob j).store.jobs.map StoreJob.src = d.store.jobs.map StoreJob.src ++ [j.src] := by
  simp [Dev.addJob, Dev.modStore]

theorem Dev.session_restored (d : Dev) (s i : Nat) (im : Mem) : ((d.restored s i im).session s i).state = 1 ∧
    ((d.restored s i im).session s i).nextPos = mdlWord im 1 ∧ ((d.restored s i im).session s i).storing = none := by
  simp [Dev.restored]

/-- Settles O15: a request that passes the tests comes down to its effect on its session, which an answer leaves with
the answer kept; a transfer that it starts is the newest of the store. -/
theorem serveRequests : Obligations.ServeRequests := by
  unfold Obligations.ServeRequests
  refine ⟨?serveOpen, ?serveAppend, ?serveGenerate, ?serveCancel, ?servePark, ?serveResume, ?serveClose, ?dataAppend,
    ?serveSnapshot, ?serveRestore, ?storeOver⟩
  case serveOpen =>
    intro s pid ing m k d1 n hask hnew hfree
    refine Does.of_act rfl ?_
    rw [Dev.session_platform, serveOpen, Dev.serve_opens _ hask (.inl rfl) hnew hfree]
    simp [reqOf]
  case serveAppend =>
    intro s pid ing m k d1 x hask hown hgen hpos hsome hfit
    refine Does.of_act rfl ?_
    rw [Dev.session_platform, serveAppend, Dev.serve_owned _ hask hown (by decide) (.inl rfl) (.inl hgen)
      (.inl (by decide)) (.inl (by decide))]
    exact Dev.append_queues hpos hsome hfit
  case serveGenerate =>
    intro s pid ing m k d1 x hask hown hgen hroom hpos hend hslots
    have hgood : ¬((reqOf k ing).pos ≠ (x.nextPos + x.queued) % 2 ^ 24 ∨ maxPos ≤ x.nextPos + x.queued) := by
      simp [reqOf, hpos, hend.not_ge]
    have hslots' : ¬x.nslot * x.deliver * (d1.model m).rows < (reqOf k ing).arg / 256 := hslots.not_gt
    refine Does.of_act rfl ?_
    rw [Dev.session_platform, serveGenerate, Dev.serve_owned _ hask hown (by decide) (.inl rfl) (.inl hgen)
      (.inr hroom) (.inl (by decide))]
    simp only [Dev.model_count, hgood, hslots', if_false, Dev.session_setSession]
    rfl
  case serveCancel =>
    intro s pid ing m k d1 x g hask hown hgen
    refine Does.of_act rfl ?_
    rw [Dev.session_platform, serveCancel, Dev.serve_owned _ hask hown (by decide) (.inl rfl)
      (.inr (.inl rfl)) (.inl (by decide)) (.inl (by decide))]
    simp [hgen, reqOf]
  case servePark =>
    intro s pid ing m k d1 x hask hown hgen happs hstoring
    have ⟨_, hst, _⟩ := hown
    refine Does.of_act rfl ?_
    rw [Dev.session_platform, servePark, Dev.serve_owned _ hask hown (by decide) (.inl rfl) (.inl hgen)
      (.inl (by decide)) (.inr ⟨happs, hstoring⟩)]
    simp [hst, reqOf, Dev.session_parkSession]
  case serveResume =>
    intro s pid ing m k d1 x n hask hown hdead hfree
    have ⟨_, hst, _⟩ := hown
    obtain ⟨e, he⟩ := Dev.unparkSession_free (d := d1.count 0x0E m 0 6) hfree (k.arg5 % 65536)
    refine Does.of_act rfl ?_
    rw [Dev.session_platform, serveResume, Dev.serve_owned _ hask hown (by decide) (.inr ⟨rfl, rfl⟩)
      (.inr (.inr ⟨rfl, rfl⟩)) (.inl (by decide)) (.inl (by decide))]
    simp [hst, hdead, he, reqOf]
  case serveClose =>
    intro s pid ing m k d1 x hask hown hgen happs hstoring
    refine Does.of_act rfl ?_
    rw [Dev.session_platform, serveClose, Dev.serve_owned _ hask hown (by decide) (.inl rfl) (.inl hgen)
      (.inl (by decide)) (.inl (by decide))]
    simp [hgen, reqOf]
  case dataAppend =>
    intro s pid ing m k d1 x htake hm hres hbur hnamed hx hst howner hmine hplace htag hlast hgen hpos hsome hfit
    have happend : serveDataAppend pid s.dev =
        (d1.count 0x0E m 0 2).append (reqOfStream k ing) m (k.collId % 65536) x := by
      have hnamed' : ¬(d1.models.any fun x => x.2.state != msEmpty && x.2.id = (reqOfStream k ing).model) = false :=
        Bool.not_eq_false _ ▸ hnamed
      simp only [serveDataAppend, htake]
      rw [if_neg hnamed', Dev.testReq_resident (r := reqOfStream k ing) _ hm hres (.inl rfl)]
      exact Dev.testSession_owned (r := reqOfStream k ing) _ (by simp [reqOfStream]) hbur hx howner hmine hplace
        (sessOpen_of_open hst _) htag (by simp [hlast]) (.inl hgen) (.inl (by simp [reqOfStream]))
        (.inl (by simp [reqOfStream]))
    refine Does.of_act rfl ?_
    rw [Dev.session_platform, happend]
    exact Dev.append_queues hpos hsome hfit
  case serveSnapshot =>
    intro s pid ing m k d1 x o hask hown hgen happs hstoring hnvs ho hkind hst' hbur hsize hwrite hq hjobs
    have hobj : (d1.count 0x0E m 0 7).snapObj (reqOf k ing) 1 = .ok o := Dev.snapObj_ok hnvs ho hkind hst' hbur
    have hpos : 0 < (d1.model m).snapBytes ((d1.model m).live x.nextPos) := by
      unfold Model.snapBytes
      omega
    have hclaim := Dev.startWrite_claims (d := d1.count 0x0E m 0 7) (.snap m (k.arg5 % 65536)) none 0
      ((d1.count 0x0E m 0 7).snapMem m x) hnvs hq hwrite hpos (by simp [hjobs])
    have harg : (reqOf k ing).arg = k.arg7 := rfl
    refine Does.of_act rfl ?_
    rw [Dev.session_platform, Dev.platform_store, serveSnapshot, Dev.serve_owned _ hask hown (by decide)
      (.inl rfl) (.inl hgen) (.inl (by decide)) (.inr ⟨happs, hstoring⟩)]
    simp only [hobj, harg, Dev.model_count, hsize.not_gt, hclaim, if_false, ne_eq, not_true_eq_false]
    rw [Dev.session_setSession, Dev.setSession_store, Dev.src_addJob, Dev.count_store, hjobs]
    exact ⟨rfl, rfl⟩
  case serveRestore =>
    intro s pid ing m k d1 n o hask hnew hfree hnvs ho hkind hst hbur hid hsize hfit
    have hobj : (d1.count 0x0E m 0 8).snapObj (reqOf k ing) 2 = .ok o := Dev.snapObj_ok hnvs ho hkind hst hbur
    refine Does.of_act rfl ?_
    rw [Dev.session_platform, Dev.platform_store, serveRestore, Dev.serve_opens _ hask (.inr rfl) hnew hfree]
    simp only [hobj, Dev.model_count, hid, hsize.not_gt, hfit.not_gt, if_false, ne_eq, not_true_eq_false,
      Dev.wakeStore_ready (d := d1.count 0x0E m 0 8) hnvs]
    rw [Dev.session_syncModels, Dev.session_startRead, Dev.session_setSession, Dev.syncModels_store, Dev.src_startRead]
    exact ⟨rfl, rfl, rfl⟩
  case storeOver =>
    intro s m i tag h j hstoring hj hgood
    have hover : serveStoreOpComplete m i s.dev =
        (((s.dev.delJob j.id).restored m i j.data).answer m i tag 8 St.ok 0).syncModels := by
      simp only [serveStoreOpComplete, hstoring, hj, hgood, if_true]
    obtain ⟨hst, hnext, hdone⟩ := (s.dev.delJob j.id).session_restored m i j.data
    refine Does.of_act rfl ?_
    rw [Dev.session_platform, hover, Dev.session_syncModels, Dev.session_answer]
    exact ⟨hst, hnext, hdone, rfl⟩

end Sys2Proof.Machine
end

section
/-! PROOF. The protection of tile SRAM and of the HBM stacks (spec/13, R367 to R378): containment resets, scrubs, the
march test, poison, refresh and retraining. -/

namespace Sys2Proof.Machine

/-! ### What leaves the protection of the memories alone -/

@[simp] theorem Dev.eccOf_platform (b d : Dev) (t : Nat) : (b.platform d).eccOf t = d.eccOf t := by
  obtain ⟨o, ho⟩ := b.platform_frame d
  rw [ho]
  rfl

@[simp] theorem Dev.stack_platform (b d : Dev) (q : Nat) : (b.platform d).stack q = d.stack q := by
  obtain ⟨o, ho⟩ := b.platform_frame d
  rw [ho]
  rfl

@[simp] theorem Dev.sramOf_platform (b d : Dev) (t : Nat) : (b.platform d).sramOf t = d.sramOf t :=
  (Dev.platform_sameTiles b d).sramOf t

@[simp] theorem Dev.tileState_platform (b d : Dev) (t : Nat) : (b.platform d).tileState t = d.tileState t :=
  b.rd_platform d ..

theorem Dev.Sends.hstacks {d e : Dev} (h : d.Sends e) : e.hstacks = d.hstacks :=
  have hs : e.still.hstacks = d.still.hstacks := congrArg Dev.hstacks h.still
  hs

theorem Dev.hstacks_buntTrigger (d : Dev) (p : Nat) (c : Bool) : (d.buntTrigger p c).hstacks = d.hstacks := by
  unfold Dev.buntTrigger
  split
  · rfl
  · split <;> rfl

theorem Dev.hstacks_irq (d : Dev) (n : Nat) (c : Bool) : (d.irq n c).hstacks = d.hstacks := by
  unfold Dev.irq
  dsimp only
  split <;> rfl

theorem Dev.hstacks_enterFault (d : Dev) (ev blk cause : Nat) :
    (d.enterFault ev blk cause).hstacks = d.hstacks :=
  (Dev.Sends.refl _).sendEvent.hstacks.trans (Dev.hstacks_irq ..)

/-- A fault event (R468) leaves its containment to its caller. -/
theorem Dev.hstacks_faultEvent (d : Dev) (blk cause inst d0 d1 status : Nat) :
    (d.faultEvent blk cause inst d0 d1 status).hstacks = d.hstacks := by
  have hpush (x : HEntry) : (d.histPush x).hstacks = d.hstacks := (Dev.Sends.refl d).histPush.hstacks
  unfold Dev.faultEvent
  dsimp only
  generalize he : (if blk = 2 ∧ cause ≠ 1 ∧ cause ≠ 4 then _ else _ : Dev) = e
  have hbunt : e.hstacks = d.hstacks := by
    rw [← he]
    split_ifs
    · exact (Dev.hstacks_buntTrigger ..).trans (hpush _)
    · exact (Dev.hstacks_buntTrigger ..).trans (hpush _)
    · exact hpush _
  split_ifs
  · exact (Dev.hstacks_enterFault ..).trans hbunt
  · exact hbunt
  · exact hbunt

theorem Dev.stack_faultEvent (d : Dev) (blk cause inst d0 d1 status q : Nat) :
    (d.faultEvent blk cause inst d0 d1 status).stack q = d.stack q :=
  congrArg (fun x : Tab Nat HbmSt => x.get q {}) (d.hstacks_faultEvent ..)

/-- A change of what the device record shows notes its time alone. -/
theorem Dev.recordNew_frame (d : Dev) : ∃ x, d.recordNew = { d with mgmt := { d.mgmt with recNew := x } } := by
  unfold Dev.recordNew
  split
  · exact ⟨d.mgmt.recNew, rfl⟩
  · exact ⟨_, rfl⟩

@[simp] theorem Dev.eccOf_recordNew (d : Dev) (t : Nat) : d.recordNew.eccOf t = d.eccOf t := by
  obtain ⟨x, hx⟩ := d.recordNew_frame
  rw [hx]
  rfl

@[simp] theorem Dev.stack_recordNew (d : Dev) (q : Nat) : d.recordNew.stack q = d.stack q := by
  obtain ⟨x, hx⟩ := d.recordNew_frame
  rw [hx]
  rfl

@[simp] theorem Dev.rd_recordNew (d : Dev) (f : Fld) (i k : Nat) : d.recordNew.rd f i k = d.rd f i k := by
  obtain ⟨x, hx⟩ := d.recordNew_frame
  rw [hx]
  rfl

@[simp] theorem Dev.recordNew_models (d : Dev) : d.recordNew.models = d.models := by
  obtain ⟨x, hx⟩ := d.recordNew_frame
  rw [hx]

@[simp] theorem Dev.recordNew_boot (d : Dev) : d.recordNew.mgmt.boot = d.mgmt.boot := by
  obtain ⟨x, hx⟩ := d.recordNew_frame
  rw [hx]

@[simp] theorem Dev.rd_setEcc (d : Dev) (t : Nat) (x : SramEcc) (f : Fld) (i k : Nat) :
    (d.setEcc t x).rd f i k = d.rd f i k := rfl
@[simp] theorem Dev.rd_setStack (d : Dev) (q : Nat) (x : HbmSt) (f : Fld) (i k : Nat) :
    (d.setStack q x).rd f i k = d.rd f i k := rfl
@[simp] theorem Dev.eccOf_wr (d : Dev) (f : Fld) (v i k t : Nat) : (d.wr f v i k).eccOf t = d.eccOf t := rfl
@[simp] theorem Dev.stack_wr (d : Dev) (f : Fld) (v i k q : Nat) : (d.wr f v i k).stack q = d.stack q := rfl
@[simp] theorem Dev.eccOf_count (d : Dev) (b i g s n t : Nat) : (d.count b i g s n).eccOf t = d.eccOf t := rfl
@[simp] theorem Dev.stack_count (d : Dev) (b i g s n q : Nat) : (d.count b i g s n).stack q = d.stack q := rfl

/-! ### The containment reset of a tile (R334, R369) -/

theorem Dev.jobStep_models (d : Dev) (a : Nat) : (d.jobStep a).models = d.models := by
  unfold Dev.jobStep
  dsimp only
  split
  · split
    · exact (Dev.Sends.refl _).complete.models
    · rfl
  · rfl

theorem Dev.endMarch_models (d : Dev) (t : Nat) : (d.endMarch t).models = d.models := by
  unfold Dev.endMarch
  split
  · rfl
  · dsimp only
    split
    · rfl
    · exact Dev.jobStep_models ..

theorem Dev.launchEnds_frame (d : Dev) (l : Launch) (code : Nat) :
    ∃ r, d.launchEnds l code = { d with red := r } := by
  unfold Dev.launchEnds
  split
  · exact ⟨d.red, rfl⟩
  · exact ⟨_, rfl⟩

theorem Dev.each_launchEnds_models (d : Dev) (ls : List Launch) (code : Nat) :
    (d.each ls fun d l => d.launchEnds l code).models = d.models :=
  Dev.each_keeps Dev.models d ls fun e l => by
    obtain ⟨r, hr⟩ := e.launchEnds_frame l code
    rw [hr]

theorem Dev.rd_each_launchEnds (d : Dev) (ls : List Launch) (code : Nat) (f : Fld) (i k : Nat) :
    (d.each ls fun d l => d.launchEnds l code).rd f i k = d.rd f i k :=
  Dev.rd_each_other d ls fun e l => by
    obtain ⟨r, hr⟩ := e.launchEnds_frame l code
    rw [hr]
    rfl

theorem Dev.modelOf_of_models {d e : Dev} (h : e.models = d.models) (t : Nat) : e.modelOf t = d.modelOf t := by
  rw [Dev.modelOf, h, Dev.modelOf]

/-- What the statement reads after a tile's reset, and the models, which decide how the reset ends. -/
def Dev.resetMark (d : Dev) (t : Nat) : Tab Nat Model × Nat × Option Nat :=
  (d.models, d.tileState t, (d.eccOf t).resetAt)

theorem Dev.resetMark_remapLines (d : Dev) (t : Nat) : (d.remapLines t).resetMark t = d.resetMark t := by
  unfold Dev.remapLines
  refine (Dev.each_keeps (fun e => e.resetMark t) _ _ fun e l => ?_).trans ?_
  · dsimp only
    split
    · exact congrArg (fun n => (e.models, n, (e.eccOf t).resetAt)) (e.rd_set_other (by decide) ..)
    · simp (disch := decide) only [Dev.resetMark, Dev.tileState, Dev.bump, Dev.recordNew_models, Dev.rd_recordNew,
        Dev.eccOf_recordNew, Dev.rd_wr_other, Dev.rd_setEcc, Dev.eccOf_wr, Dev.eccOf_setEcc]
      rfl
  · simp only [Dev.resetMark, Dev.tileState, Dev.rd_setEcc, Dev.eccOf_setEcc]
    rfl

/-- A tile that held `x` set RESETTING, with the record of its reset (R334). -/
def Dev.tileResets (d : Dev) (t rcause : Nat) (x : Tile) : Dev :=
  let d := (d.wrSat R.TILE_RSTREC0_DISCARDED x.buf.length t).wr R.TILE_RSTREC0_RCAUSE rcause t
  let d := (d.set R.TILE_RSTREC0_VALID t).set R.TILE_ERR_RESET_SEEN t
  let d := d.wr R.TILE_RSTREC1_FIRST_EA (match x.buf with
    | s :: _ => s.ea
    | [] => 0) t
  let d := (d.setTile t {}).setTileState t tsResetting
  { d with
    time := { d.time with
      slotReady := d.time.slotReady.filter fun i => i.act ≠ SlotAct.block t && i.act ≠ SlotAct.launch t }
    red := { d.red with
      gateRecs := d.red.gateRecs.map fun (g : Nat × List GateRec) => (g.1, g.2.filter fun r => r.tile ≠ t) } }

theorem Dev.tileResets_models (d : Dev) (t c : Nat) (x : Tile) : (d.tileResets t c x).models = d.models := by
  unfold Dev.tileResets
  simp only [Dev.setTileState, Dev.set, Dev.wrSat, Dev.wr_models, Dev.setTile_models]

theorem Dev.rd_tileResets (d : Dev) (t c : Nat) (x : Tile) :
    (d.tileResets t c x).rd R.TILE_STAT_STATE t = tsResetting := by
  have hwr (e : Dev) : (e.setTileState t tsResetting).rd R.TILE_STAT_STATE t = tsResetting := Dev.rd_wr_self ..
  unfold Dev.tileResets
  exact (Dev.rd_congr rfl ..).trans (hwr _)

/-- A tile reset, but for the model that the tile holds. -/
def Dev.tileCleared (d : Dev) (t rcause : Nat) : Dev :=
  let x := d.tile t
  let ls := (match x.prog with
    | some l => [l]
    | none => []) ++ x.lq
  let d := ((d.endMarch t).tileResets t rcause x).each ls fun d l => d.launchEnds l St.tileOff
  (d.setEcc t { d.eccOf t with resetAt := none }).remapLines t

theorem Dev.resetTile_noModel {d : Dev} {t c : Nat} (hst : ¬(d.tileState t = tsOff ∨ d.tileState t = tsResetting))
    (hm : (d.tileCleared t c).modelOf t = none) : d.resetTile t c = d.tileCleared t c := by
  unfold Dev.resetTile
  rw [if_neg hst]
  change (match (d.tileCleared t c).modelOf t with
    | some s => (d.tileCleared t c).failModel s
    | none => d.tileCleared t c) = _
  rw [hm]

theorem Dev.resetMark_tileCleared (d : Dev) (t c : Nat) :
    (d.tileCleared t c).resetMark t = (d.models, tsResetting, none) := by
  unfold Dev.tileCleared
  rw [Dev.resetMark_remapLines]
  simp only [Dev.resetMark, Dev.tileState, Dev.setEcc_models, Dev.rd_setEcc, Dev.eccOf_setEcc,
    Dev.each_launchEnds_models, Dev.rd_each_launchEnds, Dev.tileResets_models, Dev.rd_tileResets, Dev.endMarch_models]

/-- The reset of an idle tile that no model holds. -/
theorem Dev.resetTile_idle {d : Dev} {t : Nat} (hst : d.tileState t = tsIdle) (hm : d.modelOf t = none) (c : Nat) :
    (d.resetTile t c).tileState t = tsResetting ∧ ((d.resetTile t c).eccOf t).resetAt = none := by
  have hon : ¬(d.tileState t = tsOff ∨ d.tileState t = tsResetting) := by
    rw [hst]
    decide
  obtain ⟨hmodels, hrest⟩ := Prod.mk.inj (d.resetMark_tileCleared t c)
  have hnone : (d.tileCleared t c).modelOf t = none := (Dev.modelOf_of_models hmodels t).trans hm
  rw [Dev.resetTile_noModel hon hnone]
  exact Prod.mk.inj hrest

theorem Dev.clearScope_tile (d : Dev) (t : Nat) : d.clearScope rlTile t = d := by
  simp only [Dev.clearScope, rlTile, rlDie, rlPartition, rlCluster, rlStore, rlCompute, reduceCtorEq,
    OfNat.zero_ne_ofNat, if_false]

/-- A TILE reset where none is running: the tile is reset, and nothing else is in its scope (R483, R484). -/
theorem Dev.startReset_tile {d : Dev} (h : d.mgmt.resets = []) (t cause c : Nat) :
    ∃ r, d.startReset rlTile t cause c [] =
      ({ d with mgmt := { d.mgmt with resets := [r] } }.markReset rlTile).resetTile t c := by
  unfold Dev.startReset
  simp only [h, List.filter_nil, List.find?_nil]
  rw [if_neg (by decide), Dev.clearScope_tile]
  exact ⟨_, rfl⟩

theorem sramEccResetTimer_due {d : Dev} {t x : Nat} (hx : (d.eccOf t).resetAt = some x) (hdue : x ≤ d.now) :
    sramEccResetTimer t d = (d.startReset rlTile t 2 (d.free % 8) []).usedFree := by
  simp only [sramEccResetTimer, hx, if_pos hdue]

/-- A due containment reset of an idle tile leaves it RESETTING, with no reset due. -/
theorem sramEccResetTimer_idle {d : Dev} {t x : Nat} (hx : (d.eccOf t).resetAt = some x) (hdue : x ≤ d.now)
    (hnone : d.mgmt.resets = []) (hst : d.tileState t = tsIdle) (hm : d.modelOf t = none) :
    (sramEccResetTimer t d).tileState t = tsResetting ∧ ((sramEccResetTimer t d).eccOf t).resetAt = none := by
  obtain ⟨r, hr⟩ := Dev.startReset_tile hnone t 2 (d.free % 8)
  have hmark (e : Dev) : (e.markReset rlTile).tileState t = e.tileState t :=
    (Dev.rd_wr_other _ (by decide) ..).trans (Dev.rd_set_other _ (by decide) ..)
  have hreset := Dev.resetTile_idle ((hmark { d with mgmt := { d.mgmt with resets := [r] } }).trans hst)
    ((Dev.modelOf_of_models rfl t).trans hm) (d.free % 8)
  rw [sramEccResetTimer_due hx hdue, hr]
  exact hreset

/-! ### Scrubs of a tile (R367, R368, R370) -/

theorem Dev.scrubAt_sramCorr (d : Dev) (t w bit : Nat) :
    ((d.sramCorr t w bit).eccOf t).scrubAt = (d.eccOf t).scrubAt := by
  unfold Dev.sramCorr
  dsimp only
  split
  · rfl
  · rw [Dev.eccOf_count, Dev.bump, Dev.eccOf_wr, Dev.eccOf_setEcc]

theorem Dev.scrubAt_sramUnc (d : Dev) (t w port : Nat) (scrub : Bool) :
    ((d.sramUnc t w port scrub).eccOf t).scrubAt = (d.eccOf t).scrubAt := by
  unfold Dev.sramUnc
  dsimp only
  split
  · rfl
  · simp only [Dev.set, Dev.syncPoison, Dev.wrSat, Dev.eccOf_wr, Dev.eccOf_count, Dev.eccOf_setEcc]

/-- A scrub pass that is due takes its time, whatever it finds. -/
theorem scrubAt_sramScrubPeriod {d : Dev} {t : Nat} (hp : d.rd R.SRAM_SCRUB_PERIOD_S t ≠ 0)
    (hon : d.pdOn (pdTile t) = true) (hdue : (d.eccOf t).scrubAt + 1000000000 * d.rd R.SRAM_SCRUB_PERIOD_S t ≤ d.now)
    (hits : EccHits) : ((sramScrubPeriod t hits d).eccOf t).scrubAt = d.now := by
  have hgo : ¬(d.rd R.SRAM_SCRUB_PERIOD_S t = 0 ∨ d.pdOn (pdTile t) = false ∨
      d.now < (d.eccOf t).scrubAt + 1000000000 * d.rd R.SRAM_SCRUB_PERIOD_S t) := by
    simp [hp, hon, hdue]
  unfold sramScrubPeriod
  dsimp only
  rw [if_neg hgo, Dev.each_keeps (fun e => (e.eccOf t).scrubAt) _ _ fun e _ => e.scrubAt_sramUnc ..,
    Dev.each_keeps (fun e => (e.eccOf t).scrubAt) _ _ fun e _ => e.scrubAt_sramCorr .., Dev.eccOf_count,
    Dev.eccOf_setEcc]

/-! ### The march test (R371, R372) -/

theorem Dev.eccOf_startMarch (d : Dev) (t mode : Nat) (job : Option Nat) :
    (d.startMarch t mode job).eccOf t = { d.eccOf t with march := some (mode, job) } := by
  unfold Dev.startMarch
  dsimp only
  split <;> simp only [Dev.setTileState, Dev.eccOf_wr, Dev.eccOf_count, Dev.eccOf_setEcc]

theorem Dev.rd_startMarch_result (d : Dev) (t mode : Nat) (job : Option Nat) :
    (d.startMarch t mode job).rd R.SRAM_MTEST_RESULT t = 1 := by
  have hresult (e : Dev) : (e.wr R.SRAM_MTEST_RESULT 1 t).rd R.SRAM_MTEST_RESULT t = 1 := Dev.rd_wr_self ..
  unfold Dev.startMarch
  dsimp only
  split <;> simp (disch := decide) only [Dev.setTileState, Dev.rd_wr_other, Dev.rd_count, Dev.rd_setEcc, hresult]

theorem Dev.startMarch_mgmt (d : Dev) (t mode : Nat) (job : Option Nat) : (d.startMarch t mode job).mgmt = d.mgmt := by
  unfold Dev.startMarch
  dsimp only
  split <;> rfl

/-- A tile in the state that a march needs is neither OFF nor RESETTING. -/
theorem Dev.marchState_on {d : Dev} {t mode : Nat} (h : d.marchState t mode = true) :
    d.tileState t ≠ tsOff ∧ d.tileState t ≠ tsResetting := by
  unfold Dev.marchState at h
  split at h
  · simp only [Bool.and_eq_true, bne_iff_ne] at h
    exact h.1
  · simp only [Bool.and_eq_true, decide_eq_true_eq] at h
    rw [h.1]
    decide

/-- SRAM_TEST of one tile that is in the state its mode needs. -/
theorem sramTest_starts {d : Dev} {aseq t : Nat} {j : JEntry} (hb : Begun d aseq 0x0403 j)
    (hmask : maskBits (j.w 4 + j.w 5 * 2 ^ 32) 64 = [t]) (hmode : j.w 6 % 4 ≠ 0)
    (hst : d.marchState t (j.w 6 % 4) = true) (hfree : j.w 6 % 4 = 3 ∨ d.modelOf t = none) :
    sramTest aseq d =
      ((d.began aseq).modJob aseq fun j => { j with waits := 1 }).startMarch t (j.w 6 % 4) (some aseq) := by
  obtain ⟨hj, hphase, hop, -, -⟩ := hb
  obtain ⟨hoff, hresetting⟩ := Dev.marchState_on hst
  have hmodel : ¬(j.w 6 % 4 ≠ 3 ∧ ((d.began aseq).modelOf t).isSome = true) := by
    rintro ⟨hdestroys, hheld⟩
    have hnone : (d.began aseq).modelOf t = none := hfree.resolve_left hdestroys
    rw [hnone] at hheld
    exact absurd hheld (by decide)
  have htile : (d.began aseq).tileState t ≠ tsOff ∧ (d.began aseq).tileState t ≠ tsResetting :=
    ⟨hoff, hresetting⟩
  have hready : (d.began aseq).marchState t (j.w 6 % 4) = true := hst
  rw [sramTest, Dev.cmd_begun _ hj hphase hop]
  simp only [hmask, hmode, hmodel, htile, hready, List.any_cons, List.any_nil, Bool.or_false, decide_false, if_false,
    Bool.false_eq_true, and_false, Bool.not_true, reduceCtorEq]
  rfl

/-- A march that has started leaves its command running until the tile is done. -/
theorem Dev.running_startMarch {d : Dev} {aseq : Nat} {j : JEntry} (hj : d.job? aseq = some j) (b : Dev)
    (n t mode : Nat) (job : Option Nat) :
    Running (b.platform (((d.began aseq).modJob aseq fun j => { j with waits := n }).startMarch t mode job)) j := by
  have hbegan : (d.began aseq).job? aseq = some { j with phase := .running } := Dev.job?_modJob hj fun _ => rfl
  have hrun : ((d.began aseq).modJob aseq fun j => { j with waits := n }).job? aseq =
      some { j with phase := .running, waits := n } := Dev.job?_modJob hbegan fun _ => rfl
  unfold Running
  rw [Dev.job?_aseq hj, Dev.job?_congr ((Dev.platform_mgmt ..).trans (Dev.startMarch_mgmt ..)), hrun]
  rfl

/-- A tile whose destructive march has passed: cleared, without poison. -/
def Dev.marchPassed (d : Dev) (t : Nat) : Dev :=
  let d := d.setEcc t { d.eccOf t with march := none }
  let d := ((d.wrSat R.SRAM_MTEST_SPARED 0 t).recordNew).wr R.SRAM_MTEST_RESULT 2 t
  let d := d.setEcc t { d.eccOf t with poison := [], corrOnce := [], badLines := [] }
  (d.setSram t []).syncPoison t

theorem Dev.rd_marchPassed_other (d : Dev) {g : Fld} (hs : R.SRAM_MTEST_SPARED.id ≠ g.id)
    (hr : R.SRAM_MTEST_RESULT.id ≠ g.id) (hp : R.SRAM_STAT_POISONED.id ≠ g.id) (t i k : Nat) :
    (d.marchPassed t).rd g i k = d.rd g i k := by
  have hsram (e : Dev) : (e.setSram t []).rd g i k = e.rd g i k := rfl
  unfold Dev.marchPassed
  dsimp only
  rw [Dev.syncPoison, Dev.wrSat, Dev.rd_wr_other _ hp, hsram, Dev.rd_setEcc, Dev.rd_wr_other _ hr, Dev.rd_recordNew,
    Dev.wrSat, Dev.rd_wr_other _ hs, Dev.rd_setEcc]

/-- A destructive march without a failing line, outside bring-up, of a tile that is not RUNNING and so takes no next
launch. -/
theorem marchTestComplete_passes {d : Dev} {t mode : Nat} (hmarch : (d.eccOf t).march = some (mode, none))
    (hmode : mode ≠ 3) (hboot : d.mgmt.boot.sram = []) (hst : d.tileState t ≠ tsRunning) :
    marchTestComplete t [] false [] d = d.marchPassed t := by
  have hboot' : (d.marchPassed t).mgmt.boot.sram = [] :=
    (congrArg Boot.sram (Dev.recordNew_boot _)).trans hboot
  have hst' : (d.marchPassed t).tileState t ≠ tsRunning := by
    rwa [Dev.tileState, Dev.rd_marchPassed_other _ (by decide) (by decide) (by decide)]
  have hrest : marchTestComplete t [] false [] d =
      (let e := d.marchPassed t
        let e := if e.tileState t = tsRunning then (e.setTileState t tsIdle).startNext t else e
        if e.mgmt.boot.sram.contains t then e.marchBoot t false else e) := by
    simp only [marchTestComplete, hmarch, if_neg hmode]
    rfl
  rw [hrest]
  simp only [if_neg hst', hboot', List.contains_nil, Bool.false_eq_true, if_false]

theorem Dev.eccOf_marchPassed (d : Dev) (t : Nat) :
    ((d.marchPassed t).eccOf t).march = none ∧ ((d.marchPassed t).eccOf t).poison = [] := by
  have hwr (e : Dev) : (e.syncPoison t).eccOf t = e.eccOf t := rfl
  have hsram (e : Dev) : (e.setSram t []).eccOf t = e.eccOf t := rfl
  unfold Dev.marchPassed
  simp only [hwr, hsram, Dev.wrSat, Dev.eccOf_setEcc, Dev.eccOf_wr, Dev.eccOf_recordNew, and_self]

theorem Dev.rd_marchPassed_result (d : Dev) (t : Nat) : (d.marchPassed t).rd R.SRAM_MTEST_RESULT t = 2 := by
  have hresult (e : Dev) : (e.wr R.SRAM_MTEST_RESULT 2 t).rd R.SRAM_MTEST_RESULT t = 2 := Dev.rd_wr_self ..
  have hsram (e : Dev) : (e.setSram t []).rd R.SRAM_MTEST_RESULT t = e.rd R.SRAM_MTEST_RESULT t := rfl
  unfold Dev.marchPassed
  simp (disch := decide) only [Dev.syncPoison, Dev.wrSat, Dev.rd_wr_other, hsram, Dev.rd_setEcc, hresult]

theorem Dev.sramOf_marchPassed (d : Dev) (t : Nat) : (d.marchPassed t).sramOf t = [] := Dev.sramOf_setSram ..

/-! ### Uncorrectable blocks and scrubs of a stack (R375, R376) -/

/-- A soft-spared row changes the stack's rows alone. -/
theorem Dev.stack_spareRow (d : Dev) (q row : Nat) :
    ∃ m c, (d.spareRow q row).stack q = { d.stack q with remap := m, corr := c } := by
  unfold Dev.spareRow
  dsimp only
  split
  · exact ⟨_, _, rfl⟩
  · split
    · exact ⟨_, _, rfl⟩
    · refine ⟨(d.stack q).remap ++ [row], (d.stack q).corr.del row, ?_⟩
      rw [Dev.stack_recordNew, Dev.stack_count, Dev.stack_wr, Dev.stack_setStack]

theorem Dev.rd_spareRow_other (d : Dev) {g : Fld} (hf : R.HBM_ERR_SPARE_FULL.id ≠ g.id)
    (hu : R.HBM_SPARE_SOFT_USED.id ≠ g.id) (q row i k : Nat) : (d.spareRow q row).rd g i k = d.rd g i k := by
  unfold Dev.spareRow
  dsimp only
  split
  · rfl
  · split
    · exact d.rd_set_other hf ..
    · rw [Dev.rd_recordNew, Dev.rd_count, Dev.rd_wr_other _ hu, Dev.rd_setStack]

theorem Dev.scrubAt_hbmCorr (d : Dev) (q a : Nat) : ((d.hbmCorr q a).stack q).scrubAt = (d.stack q).scrubAt := by
  have hrow (e : Dev) (row : Nat) : ((e.spareRow q row).stack q).scrubAt = (e.stack q).scrubAt := by
    obtain ⟨m, c, h⟩ := e.stack_spareRow q row
    rw [h]
  unfold Dev.hbmCorr
  dsimp only
  split
  · rw [hrow, Dev.stack_setStack]
    rfl
  · rw [Dev.stack_setStack]
    rfl

/-- The first detection of an uncorrectable block poisons it and shows it in HBM.ERR and HBM.ERRADDR, before its row is
spared. -/
def Dev.poisonBlock (d : Dev) (q b : Nat) : Dev :=
  let d := d.setStack q { d.stack q with poison := (d.stack q).poison ++ [b] }
  let d := ((d.faultEvent 0x0C 0x01 q).set R.HBM_ERR_UNC_SEEN q).count 0x0C q 0 2
  let d := (d.wr R.HBM_ERRADDR_LO_ADDR_LO (b % 2 ^ 32) q).wr R.HBM_ERRADDR_HI_ADDR_HI (b / 2 ^ 32) q
  (d.wr R.HBM_ERRADDR_HI_CHANNEL (hbmChannel b) q).set R.HBM_ERRADDR_HI_VALID q

theorem Dev.hbmUnc_fst (d : Dev) (q a : Nat) : (d.hbmUnc q a).1 =
    if (d.stack q).poison.contains (a / 64 * 64) then d
    else (d.poisonBlock q (a / 64 * 64)).spareRow q (hbmRow (a / 64 * 64)) := by
  unfold Dev.hbmUnc
  dsimp only
  split <;> rfl

theorem Dev.stack_poisonBlock (d : Dev) (q b : Nat) :
    (d.poisonBlock q b).stack q = { d.stack q with poison := (d.stack q).poison ++ [b] } := by
  simp only [Dev.poisonBlock, Dev.set, Dev.stack_wr, Dev.stack_count, Dev.stack_faultEvent, Dev.stack_setStack]

theorem Dev.rd_poisonBlock (d : Dev) (q b : Nat) : (d.poisonBlock q b).rd R.HBM_ERR_UNC_SEEN q = 1 := by
  have hseen (e : Dev) : (e.set R.HBM_ERR_UNC_SEEN q).rd R.HBM_ERR_UNC_SEEN q = 1 := Dev.rd_set_self _ rfl ..
  unfold Dev.poisonBlock
  dsimp only
  rw [Dev.rd_set_other _ (by decide), Dev.rd_wr_other _ (by decide), Dev.rd_wr_other _ (by decide),
    Dev.rd_wr_other _ (by decide), Dev.rd_count, hseen]

theorem Dev.scrubAt_hbmUnc (d : Dev) (q a : Nat) : ((d.hbmUnc q a).1.stack q).scrubAt = (d.stack q).scrubAt := by
  rw [Dev.hbmUnc_fst]
  split
  · rfl
  · obtain ⟨m, c, hrow⟩ := (d.poisonBlock q (a / 64 * 64)).stack_spareRow q (hbmRow (a / 64 * 64))
    rw [hrow, Dev.stack_poisonBlock]

/-- An uncorrectable block that was not poisoned is, and UNC_SEEN shows it. -/
theorem hbmUncorrectable_first {d : Dev} {q a : Nat} (hon : d.pdOn (pdHbm q) = true)
    (hnew : (d.stack q).poison.contains (a / 64 * 64) = false) :
    ((hbmUncorrectable q a .none d).stack q).poison = (d.stack q).poison ++ [a / 64 * 64] ∧
      (hbmUncorrectable q a .none d).rd R.HBM_ERR_UNC_SEEN q = 1 := by
  obtain ⟨m, c, hrow⟩ := (d.poisonBlock q (a / 64 * 64)).stack_spareRow q (hbmRow (a / 64 * 64))
  have hunc : hbmUncorrectable q a .none d = (d.poisonBlock q (a / 64 * 64)).spareRow q (hbmRow (a / 64 * 64)) := by
    simp only [hbmUncorrectable, hon, Dev.hbmAnswer, Dev.hbmUnc_fst, hnew, Bool.true_eq_false, Bool.false_eq_true,
      if_false]
  rw [hunc, hrow, Dev.stack_poisonBlock, Dev.rd_spareRow_other _ (by decide) (by decide), Dev.rd_poisonBlock]
  exact ⟨rfl, rfl⟩

/-- A patrol scrub that is due takes its time, whatever it finds. -/
theorem scrubAt_hbmPatrolScrub {d : Dev} {q : Nat} (hon : d.pdOn (pdHbm q) = true)
    (hdue : (d.stack q).scrubAt + 86400000000000 ≤ d.now) (unc corr : List Nat) (ondie : Nat) :
    ((hbmPatrolScrub q unc corr ondie d).stack q).scrubAt = d.now := by
  have hgo : ¬(d.pdOn (pdHbm q) = false ∨ d.now < (d.stack q).scrubAt + 86400000000000) := by
    simp [hon, hdue]
  unfold hbmPatrolScrub
  dsimp only
  rw [if_neg hgo, Dev.each_keeps (fun e => (e.stack q).scrubAt) _ _ fun e a => e.scrubAt_hbmUnc q a,
    Dev.each_keeps (fun e => (e.stack q).scrubAt) _ _ fun e a => e.scrubAt_hbmCorr q a, Dev.stack_count, Dev.bump,
    Dev.stack_wr, Dev.stack_count, Dev.stack_setStack]

/-! ### Temperature and retraining (R377, R378) -/

section
variable (d : Dev) (q ch : Nat) (single : Bool)

theorem Dev.stack_holdChannel : (d.holdChannel q ch single).stack q =
    { d.stack q with holdTill := some (d.now + 1500), nextAt := none, single := single } := by
  simp only [Dev.holdChannel, Dev.set, Dev.stack_wr, Dev.stack_setStack]

theorem Dev.rd_holdChannel_ch : (d.holdChannel q ch single).rd R.HBM_STAT_TRAIN_CH q = ch % 32 := Dev.rd_wr_self ..

theorem Dev.rd_holdChannel_training : (d.holdChannel q ch single).rd R.HBM_STAT_TRAINING q = 1 :=
  (Dev.rd_wr_other _ (by decide) ..).trans (Dev.rd_set_self _ rfl ..)

theorem Dev.rd_holdChannel_temp : (d.holdChannel q ch single).rd R.HBM_STAT_TEMP q = d.rd R.HBM_STAT_TEMP q :=
  (Dev.rd_wr_other _ (by decide) ..).trans (Dev.rd_set_other _ (by decide) ..)

end

/-- The sequence of R378 begins without a change of the temperature or of its time. -/
theorem Dev.startRetrain_keeps (d : Dev) (q : Nat) : ((d.startRetrain q).stack q).tempAt = (d.stack q).tempAt ∧
    (d.startRetrain q).rd R.HBM_STAT_TEMP q = d.rd R.HBM_STAT_TEMP q := by
  unfold Dev.startRetrain
  split
  · exact ⟨rfl, rfl⟩
  · rw [Dev.stack_count, Dev.stack_holdChannel, Dev.rd_count, Dev.rd_holdChannel_temp]
    exact ⟨rfl, rfl⟩

theorem hbmTempCheck_due {d : Dev} {q : Nat} (hon : d.pdOn (pdHbm q) = true)
    (hdue : (d.stack q).tempAt + 1000000 ≤ d.now) (temp : Nat) : ((hbmTempCheck q temp d).stack q).tempAt = d.now ∧
      (hbmTempCheck q temp d).rd R.HBM_STAT_TEMP q = temp % 2 ^ 8 := by
  have hgo : ¬(d.pdOn (pdHbm q) = false ∨ d.now < (d.stack q).tempAt + 1000000) := by
    simp [hon, hdue]
  have hread (e : Dev) : (e.wr R.HBM_STAT_TEMP temp q).rd R.HBM_STAT_TEMP q = temp % 2 ^ 8 := Dev.rd_wr_self ..
  unfold hbmTempCheck
  dsimp only
  rw [if_neg hgo]
  split
  · obtain ⟨htime, htemp⟩ :=
      ((d.setStack q { d.stack q with tempAt := d.now }).wr R.HBM_STAT_TEMP temp q).startRetrain_keeps q
    rw [htime, htemp, hread, Dev.stack_wr, Dev.stack_setStack]
    exact ⟨rfl, rfl⟩
  · rw [hread, Dev.stack_wr, Dev.stack_setStack]
    exact ⟨rfl, rfl⟩

/-- A channel of the sequence, not its last, that has retrained. -/
theorem hbmChannelRetrainDone_ok {d : Dev} {q t : Nat} (hheld : (d.stack q).holdTill = some t) (hdue : t ≤ d.now)
    (hsingle : (d.stack q).single = false) (hch : d.rd R.HBM_STAT_TRAIN_CH q ≠ 31) :
    (hbmChannelRetrainDone q true d).stack q =
      { d.stack q with holdTill := none, nextAt := some (d.now + 10000) } := by
  simp only [hbmChannelRetrainDone, hheld, hdue.not_gt, hsingle, hch, if_true, if_false, Bool.false_eq_true,
    Dev.stack_setStack]
  rfl

theorem hbmChannelRetrainNext_due {d : Dev} {q t : Nat} (hnext : (d.stack q).nextAt = some t) (hdue : t ≤ d.now) :
    hbmChannelRetrainNext q d = d.holdChannel q (d.rd R.HBM_STAT_TRAIN_CH q + 1) false := by
  simp only [hbmChannelRetrainNext, hnext, if_pos hdue]

theorem hbmRetrainRetry_due {d : Dev} {q ch t : Nat} {rest : List (Nat × Nat)}
    (hretry : (d.stack q).retry = (ch, t) :: rest) (hdue : t ≤ d.now) (hidle : d.on R.HBM_STAT_TRAINING q = false) :
    hbmRetrainRetry q d = (d.setStack q { d.stack q with retry := rest }).holdChannel q ch true := by
  simp only [hbmRetrainRetry, hretry, if_pos (And.intro hdue hidle)]

/-! ### The statement -/

/-- Settles O16: each event comes down to what it writes in the record of its tile or stack and in the fields that show
it, and what it does besides (a fault event, spared rows and lines, the ends of launches) leaves both alone. -/
theorem memoryProtectionEvents : Obligations.MemoryProtectionEvents := by
  unfold Obligations.MemoryProtectionEvents
  refine ⟨?containment, ?sramScrub, ?marchStarts, ?marchPasses, ?uncorrectable, ?patrol, ?refresh, ?temperature,
    ?retrained, ?nextChannel, ?retry⟩
  case containment =>
    intro s t x hx hdue hnone hst hm
    refine Does.of_act rfl ?_
    rw [Dev.tileState_platform, Dev.eccOf_platform]
    exact sramEccResetTimer_idle hx hdue hnone hst hm
  case sramScrub =>
    intro s t hits hp hon hdue
    refine Does.of_act rfl ?_
    rw [Dev.eccOf_platform]
    exact scrubAt_sramScrubPeriod hp hon hdue hits
  case marchStarts =>
    intro s aseq t j hb hmask hmode hst hfree
    have ⟨hj, _⟩ := hb
    refine Does.of_act rfl ?_
    rw [sramTest_starts hb hmask hmode hst hfree, Dev.eccOf_platform, Dev.rd_platform, Dev.eccOf_startMarch,
      Dev.rd_startMarch_result]
    exact ⟨rfl, rfl, Dev.running_startMarch hj ..⟩
  case marchPasses =>
    intro s t mode hmarch hmode hboot hst
    obtain ⟨hover, hclean⟩ := s.dev.eccOf_marchPassed t
    refine Does.of_act rfl ?_
    rw [marchTestComplete_passes hmarch hmode hboot hst, Dev.eccOf_platform, Dev.rd_platform, Dev.sramOf_platform]
    exact ⟨hover, Dev.rd_marchPassed_result .., Dev.sramOf_marchPassed .., hclean⟩
  case uncorrectable =>
    intro s q a hon hnew
    refine Does.of_act rfl ?_
    rw [Dev.stack_platform, Dev.rd_platform]
    exact hbmUncorrectable_first hon hnew
  case patrol =>
    intro s q ondie unc corr hon hdue
    refine Does.of_act rfl ?_
    rw [Dev.stack_platform]
    exact scrubAt_hbmPatrolScrub hon hdue unc corr ondie
  case refresh =>
    intro s q hon
    refine Does.of_act rfl ?_
    rw [Dev.stack_platform, hbmRefreshDue, if_pos hon, Dev.stack_setStack]
  case temperature =>
    intro s q temp hon hdue
    refine Does.of_act rfl ?_
    rw [Dev.stack_platform, Dev.rd_platform]
    exact hbmTempCheck_due hon hdue temp
  case retrained =>
    intro s q t hheld hdue hsingle hch
    refine Does.of_act rfl ?_
    rw [Dev.stack_platform, hbmChannelRetrainDone_ok hheld hdue hsingle hch]
    exact ⟨rfl, rfl⟩
  case nextChannel =>
    intro s q t hnext hdue
    refine Does.of_act rfl ?_
    rw [Dev.stack_platform, Dev.rd_platform, Dev.rd_platform, hbmChannelRetrainNext_due hnext hdue,
      Dev.stack_holdChannel, Dev.rd_holdChannel_ch, Dev.rd_holdChannel_training]
    exact ⟨rfl, rfl, rfl⟩
  case retry =>
    intro s q ch t rest hretry hdue hidle
    refine Does.of_act rfl ?_
    rw [Dev.stack_platform, Dev.rd_platform, hbmRetrainRetry_due hretry hdue hidle, Dev.stack_holdChannel,
      Dev.rd_holdChannel_ch, Dev.stack_setStack]
    exact ⟨rfl, rfl, rfl⟩

end Sys2Proof.Machine
end

section
/-! PROOF. Two frames used below: properties that do not speak of what goes out, and updates that write register fields
alone. -/

namespace Sys2Proof.Machine

/-- A property that does not speak of what goes out holds after the messages that follow a step. -/
theorem Does.of_act_mute {c : Instr} {f : Dev → Dev} {s : State} {P : Dev → Prop} (hc : exec c s = act f s)
    (hmute : ∀ d o, P d → P { d with out := o }) (hP : P (f s.dev)) : Does c s P := by
  obtain ⟨o, ho⟩ := s.dev.platform_frame (f s.dev)
  exact Does.of_act hc (ho ▸ hmute _ o hP)

/-- `e` is `d` with some of the listed fields written. -/
structure Dev.WritesOnly (fs : List Fld) (d e : Dev) : Prop where
  regs : ∃ r, e = { d with regs := r }
  rd : ∀ g, (∀ f ∈ fs, f.id ≠ g.id) → ∀ i k, e.rd g i k = d.rd g i k

section
variable {fs : List Fld} {d e : Dev}

theorem Dev.WritesOnly.refl (d : Dev) : d.WritesOnly fs d := ⟨⟨d.regs, rfl⟩, fun _ _ _ _ => rfl⟩

theorem Dev.WritesOnly.trans {e' : Dev} (h : d.WritesOnly fs e) (h' : e.WritesOnly fs e') : d.WritesOnly fs e' := by
  obtain ⟨r, rfl⟩ := h.regs
  obtain ⟨r', rfl⟩ := h'.regs
  exact ⟨⟨r', rfl⟩, fun g hg i k => (h'.rd g hg i k).trans (h.rd g hg i k)⟩

theorem Dev.WritesOnly.wr {f : Fld} {v i k : Nat} (h : d.WritesOnly fs e) (hf : f ∈ fs) :
    d.WritesOnly fs (e.wr f v i k) :=
  h.trans ⟨⟨_, rfl⟩, fun _ hg _ _ => e.rd_wr_other (hg f hf) ..⟩

theorem Dev.WritesOnly.ite {c : Prop} [Decidable c] {a b : Dev} (ha : d.WritesOnly fs a) (hb : d.WritesOnly fs b) :
    d.WritesOnly fs (if c then a else b) := by
  split
  · exact ha
  · exact hb

theorem Dev.WritesOnly.each {α : Type} {l : List α} {f : Dev → α → Dev} (h : d.WritesOnly fs e)
    (hf : ∀ {e : Dev} {a : α}, d.WritesOnly fs e → d.WritesOnly fs (f e a)) : d.WritesOnly fs (e.each l f) := by
  unfold Dev.each
  induction l generalizing e with
  | nil => exact h
  | cons a l ih => exact ih (hf h)

theorem Dev.WritesOnly.now (h : d.WritesOnly fs e) : e.now = d.now := by
  obtain ⟨r, rfl⟩ := h.regs
  rfl

theorem Dev.WritesOnly.mgmt (h : d.WritesOnly fs e) : e.mgmt = d.mgmt := by
  obtain ⟨r, rfl⟩ := h.regs
  rfl

theorem Dev.WritesOnly.store (h : d.WritesOnly fs e) : e.store = d.store := by
  obtain ⟨r, rfl⟩ := h.regs
  rfl

end
end Sys2Proof.Machine
end

section
/-! PROOF. The supply rails, the power-fail sequence and the reference clocks (spec/21, R566 to R570, R580; spec/14,
R402). -/

namespace Sys2Proof.Machine

/-! ### The messages that follow a step (R556) -/

/-- Nothing is sent after a step that leaves the junction temperature and the three state sensors as they were. -/
theorem Dev.platform_of_sensors {b d : Dev} (hT : d.rd R.PWR_THERM_TJ_HOT = b.rd R.PWR_THERM_TJ_HOT)
    (hF : d.rd R.FLT_STAT_STATE = b.rd R.FLT_STAT_STATE) (hB : d.rd R.HUB_BOOT_PHASE = b.rd R.HUB_BOOT_PHASE)
    (hN : d.rd R.NVS_STAT_STATE = b.rd R.NVS_STAT_STATE) : b.platform d = d := by
  unfold Dev.platform
  split
  · rfl
  · simp [Dev.each, Dev.eventVal, Dev.sensorVal, Dev.tjLevel, hT, hF, hB, hN]

/-! ### Rails (R566) -/

/-- The fields that show which rails are in range. -/
def railFlds : List Fld :=
  [R.PWR_RAILMON_VIN_OK, R.PWR_RAILMON_VOE_D_OK, R.PWR_RAILMON_VOE_A_OK, R.PWR_RAILMON_HBM_OK, R.PWR_RAILMON_VHUB_OK,
    R.PWR_RAILMON_VAON_OK, R.PWR_RAILMON_VNAND_Q_OK, R.PWR_RAILMON_VPCIE_OK, R.PWR_RAILMON_VIO18_OK]

theorem Dev.syncRails_writes (d : Dev) : d.WritesOnly railFlds d.syncRails := by
  unfold Dev.syncRails
  iterate 9 refine .wr ?_ (by decide)
  exact .refl d

theorem Dev.rd_syncRails_vhub (d : Dev) :
    d.syncRails.rd R.PWR_RAILMON_VHUB_OK = b2n (d.mgmt.boot.rails.contains 24) := by
  unfold Dev.syncRails
  iterate 4 rw [Dev.rd_wr_other _ (by decide)]
  rw [Dev.rd_wr_self]
  exact Nat.mod_eq_of_lt (by unfold b2n; split <;> decide)

/-- A rail noted as absent, before what follows from its loss. -/
def Dev.railLost (d : Dev) (r : Nat) : Dev :=
  (d.modBoot fun x => { x with rails := x.rails.filter fun y => y ≠ r }).syncRails

theorem Dev.rails_railLost (d : Dev) (r : Nat) : (d.railLost r).mgmt.boot.rails.contains r = false := by
  rw [Dev.railLost, (Dev.syncRails_writes _).mgmt]
  simp [Dev.modBoot]

theorem railUndervoltage_starts {d : Dev} {r : Nat} (hr : d.mgmt.boot.rails.contains r = true)
    (hheld : d.mgmt.boot.held = false) (hpin : d.on R.PWR_RAILMON_PFAIL_PIN = false) :
    railUndervoltage r d = (((d.railLost r).set R.PWR_RAILMON_UV_SEEN).pend R.PWR_IPEND_UV).powerFail := by
  have hpin' : (d.railLost r).on R.PWR_RAILMON_PFAIL_PIN = false := by
    rw [← hpin]
    exact congrArg (fun v : Nat => decide (v = 1)) ((Dev.syncRails_writes _).rd _ (by decide) 0 0)
  have hheld' : (d.railLost r).mgmt.boot.held = false := hheld
  have hgo : ¬((d.railLost r).mgmt.boot.held = true ∨ (d.railLost r).on R.PWR_RAILMON_PFAIL_PIN = true ∧
      (d.railLost r).store.holdup ≠ some (d.railLost r).now) := by simp [hheld', hpin']
  unfold railUndervoltage
  rw [hr, if_neg (by decide)]
  exact if_neg hgo

/-! ### The store stopped (R402) -/

/-- `e` is `d` after some of what the store held has been given up: bring-up, the hold-up time and every field that
neither traffic nor a refusal of the store writes are as they were. -/
structure Dev.GivesUp (d e : Dev) : Prop where
  boot : e.mgmt.boot = d.mgmt.boot
  holdup : e.store.holdup = d.store.holdup
  rd : ∀ g, Unsent g → R.NVS_ERR_REFUSED_SEEN.id ≠ g.id → ∀ i k, e.rd g i k = d.rd g i k

theorem Dev.Sends.boot {d e : Dev} (h : d.Sends e) : e.mgmt.boot = d.mgmt.boot :=
  have hb : e.still.mgmt.boot = d.still.mgmt.boot := congrArg (fun x : Dev => x.mgmt.boot) h.still
  hb

section
variable {d e : Dev}

theorem Dev.GivesUp.refl (d : Dev) : d.GivesUp d := ⟨rfl, rfl, fun _ _ _ _ _ => rfl⟩

theorem Dev.GivesUp.same {e' : Dev} (h : d.GivesUp e) (hb : e'.mgmt.boot = e.mgmt.boot)
    (hh : e'.store.holdup = e.store.holdup) (hr : e'.regs = e.regs) : d.GivesUp e' :=
  ⟨hb.trans h.boot, hh.trans h.holdup, fun g hs hg i k => (Dev.rd_congr hr g i k).trans (h.rd g hs hg i k)⟩

theorem Dev.GivesUp.modStore {f : Store → Store} (h : d.GivesUp e) (hf : ∀ s, (f s).holdup = s.holdup) :
    d.GivesUp (e.modStore f) := h.same rfl (hf _) rfl

theorem Dev.GivesUp.sends {e' : Dev} (h : d.GivesUp e) (hs : e.Sends e') : d.GivesUp e' :=
  ⟨hs.boot.trans h.boot, (congrArg Store.holdup hs.store).trans h.holdup,
    fun g hu hg i k => (hs.rd g hu i k).trans (h.rd g hu hg i k)⟩

theorem Dev.GivesUp.each {α : Type} {l : List α} {f : Dev → α → Dev} (h : d.GivesUp e)
    (hf : ∀ {e : Dev} {a : α}, d.GivesUp e → d.GivesUp (f e a)) : d.GivesUp (e.each l f) := by
  unfold Dev.each
  induction l generalizing e with
  | nil => exact h
  | cons a l ih => exact ih (hf h)

theorem Dev.GivesUp.complete {a st : Nat} (h : d.GivesUp e) : d.GivesUp (e.complete a st) :=
  h.sends (Dev.Sends.refl e).complete

theorem Dev.GivesUp.storeRefused {s : Stored} (h : d.GivesUp e) : d.GivesUp (e.storeRefused s) := by
  have hr := h.sends ((Dev.Sends.refl e).record (q := 0)
    (r := { e.pktRec s.pkt s.vc s.ing rStoreRefused 0x0D 0 with histOnly := true, toBlock := none, item := 2 }))
  exact ⟨hr.boot, hr.holdup, fun g hu hg i k => (Dev.rd_set_other _ hg ..).trans (hr.rd g hu hg i k)⟩

theorem Dev.GivesUp.jobFail {j : StoreJob} {st : Nat} (h : d.GivesUp e) : d.GivesUp (e.jobFail j st) := by
  have hdel : d.GivesUp (e.delJob j.id) := h.same rfl rfl rfl
  unfold Dev.jobFail
  split
  case h_3 =>
    split
    · exact hdel
    · exact hdel.storeRefused.sends (Dev.Sends.refl _).release.retryOut
  all_goals exact h.same rfl rfl rfl

theorem Dev.GivesUp.stopStore (h : d.GivesUp e) : d.GivesUp e.stopStore := by
  unfold Dev.stopStore
  dsimp only
  have hjobs : d.GivesUp (e.each e.store.jobs fun d j => d.jobFail j St.storeNoTargets) := h.each fun hx => hx.jobFail
  generalize (e.each e.store.jobs fun d j => d.jobFail j St.storeNoTargets) = x at hjobs ⊢
  have hmetas : d.GivesUp ((x.modStore fun s => { s with assembly := [], metas := [], fillAt := none }).each
      x.store.metas fun d a => d.complete a St.storeNoTargets) :=
    .each (.modStore hjobs fun _ => rfl) fun hy => hy.complete
  generalize ((x.modStore fun s => { s with assembly := [], metas := [], fillAt := none }).each
    x.store.metas fun d a => d.complete a St.storeNoTargets) = y at hmetas ⊢
  have hquiesce : d.GivesUp (match y.store.quiesceJob with
      | some a => (y.modStore fun s => { s with quiesceJob := none }).complete a St.storeNoTargets
      | none => y) := by
    split
    · exact .complete (.modStore hmetas fun _ => rfl)
    · exact hmetas
  split
  · exact .complete (.modStore hquiesce fun _ => rfl)
  · exact hquiesce

end

/-! ### The power-fail sequence (R402, R568, R580) -/

/-- The power-fail sequence counted and its time noted, before the store stops. -/
def Dev.failNoted (d : Dev) : Dev :=
  ((d.count 0x0D 0 0 4).clr R.NVS_STAT_HOLDUP_DONE).modStore fun s => { s with holdup := some d.now }

theorem Dev.powerFail_begins {d : Dev} (h : d.store.holdup = none) : d.powerFail =
    if d.failNoted.stopStore.nvs = nsAbsent then d.failNoted.stopStore
    else d.failNoted.stopStore.wr R.NVS_STAT_STATE nsPowerFail := by
  unfold Dev.powerFail
  rw [if_neg (by simp [h])]
  rfl

theorem Dev.givesUp_failNoted (d : Dev) : d.failNoted.GivesUp d.failNoted.stopStore := (Dev.GivesUp.refl _).stopStore

/-- The time of a power failure is that of its start: a second one does not start while it runs. -/
theorem Dev.holdup_powerFail (d : Dev) : d.powerFail.store.holdup = some (d.store.holdup.getD d.now) := by
  cases h : d.store.holdup with
  | some t => simp [Dev.powerFail, h]
  | none =>
    rw [Dev.powerFail_begins h]
    split <;> exact d.givesUp_failNoted.holdup

theorem Dev.boot_powerFail (d : Dev) : d.powerFail.mgmt.boot = d.mgmt.boot := by
  cases h : d.store.holdup with
  | some t => simp [Dev.powerFail, h]
  | none =>
    rw [Dev.powerFail_begins h]
    split <;> exact d.givesUp_failNoted.boot

/-- A power failure writes, of the fields that traffic leaves alone, those of the store. -/
theorem Dev.rd_powerFail_other (d : Dev) {g : Fld} (hu : Unsent g) (hr : R.NVS_ERR_REFUSED_SEEN.id ≠ g.id)
    (hh : R.NVS_STAT_HOLDUP_DONE.id ≠ g.id) (hs : R.NVS_STAT_STATE.id ≠ g.id) (i k : Nat) :
    d.powerFail.rd g i k = d.rd g i k := by
  cases h : d.store.holdup with
  | some t => simp [Dev.powerFail, h]
  | none =>
    have hstop : d.failNoted.stopStore.rd g i k = d.rd g i k :=
      (d.givesUp_failNoted.rd g hu hr i k).trans ((d.count 0x0D 0 0 4).rd_clr_other hh ..)
    rw [Dev.powerFail_begins h]
    split
    · exact hstop
    · exact (Dev.rd_wr_other _ hs ..).trans hstop

theorem Dev.nvs_powerFail {d : Dev} (h : d.store.holdup = none) (hnvs : d.nvs ≠ nsAbsent) :
    d.powerFail.rd R.NVS_STAT_STATE = nsPowerFail := by
  have hstop : d.failNoted.stopStore.nvs = d.nvs :=
    (d.givesUp_failNoted.rd _ (by decide) (by decide) 0 0).trans ((d.count 0x0D 0 0 4).rd_clr_other (by decide) ..)
  rw [Dev.powerFail_begins h, if_neg (hstop ▸ hnvs), Dev.rd_wr_self]
  rfl

theorem pwrfailAsserted_starts {d : Dev} (hpin : d.on R.PWR_RAILMON_PFAIL_PIN = false)
    (hheld : d.mgmt.boot.held = false) :
    pwrfailAsserted d = ((d.set R.PWR_RAILMON_PFAIL_PIN).set R.PWR_RAILMON_PFAIL_SEEN).powerFail := by
  have hheld' : (d.set R.PWR_RAILMON_PFAIL_PIN).mgmt.boot.held = false := hheld
  unfold pwrfailAsserted
  rw [hpin, if_neg (by decide)]
  exact if_neg (by rw [hheld']; decide)

/-- The commands whose metadata records were in the programs lost are answered, which is traffic. -/
theorem Dev.dropPrograms_sends (d : Dev) : (d.modStore fun s => { s with prog := [] }).Sends d.dropPrograms :=
  (Dev.Sends.refl _).each fun h => h.complete

theorem holdupDone_ends {d : Dev} {t : Nat} (ht : d.store.holdup = some t)
    (hover : d.store.prog = [] ∨ t + 2500000 ≤ d.now) (hcold : d.mgmt.boot.cold = false) :
    holdupDone d = (d.dropPrograms.modStore fun s => { s with holdup := none }).set R.NVS_STAT_HOLDUP_DONE := by
  have hcold' : d.dropPrograms.mgmt.boot.cold = false := by
    rw [d.dropPrograms_sends.boot]
    exact hcold
  have hgo : ¬(d.store.prog ≠ [] ∧ d.now < t + 2500000) := fun ⟨hp, hn⟩ => hover.elim hp fun hle => by omega
  simp only [holdupDone, ht, if_neg hgo]
  exact if_neg (by simp [hcold'])

/-! ### Reference clocks (R569, R570) -/

/-- The fields that the choice of the counter's source may write. -/
def sourceFlds : List Fld := [R.PWR_CLKSTAT_FT_SRC, R.HUB_FTSTAT_UNLOCK_SEEN, R.HUB_FTSTAT_STATE]

theorem Dev.rd_setServo_other (d : Dev) {g : Fld} (hu : R.HUB_FTSTAT_UNLOCK_SEEN.id ≠ g.id)
    (hs : R.HUB_FTSTAT_STATE.id ≠ g.id) (st i k : Nat) : (d.setServo st).rd g i k = d.rd g i k := by
  unfold Dev.setServo
  rw [Dev.rd_wr_other _ hs]
  dsimp only
  split
  · exact d.rd_set_other hu ..
  · rfl

theorem Dev.rd_ftSource_other (d : Dev) {g : Fld} (h : ∀ f ∈ sourceFlds, f.id ≠ g.id) (i k : Nat) :
    d.ftSource.rd g i k = d.rd g i k := by
  have hsrc (v : Nat) : (d.wr R.PWR_CLKSTAT_FT_SRC v).rd g i k = d.rd g i k := d.rd_wr_other (h _ (by decide)) ..
  unfold Dev.ftSource
  dsimp only
  split
  · exact hsrc 1
  · split
    · exact (Dev.rd_setServo_other _ (h _ (by decide)) (h _ (by decide)) ..).trans (hsrc 2)
    · exact hsrc 2

theorem Dev.rd_pend_self (d : Dev) {f : Fld} (hw : f.w = 1) (h : ∀ x ∈ istatFlds, x.id ≠ f.id) :
    (d.pend f).rd f = 1 := (Dev.rd_irq_other _ h ..).trans (d.rd_set_self hw ..)

theorem refclkLoss_ft {d : Dev} (hok : d.on R.PWR_CLKSTAT_FT_OK = true) : refclkLoss 1 d =
    (((d.clr R.PWR_CLKSTAT_FT_OK).set R.PWR_CLKSTAT_FT_LOST_SEEN).pend R.PWR_IPEND_CLK_LOST).ftSource := by
  simp [refclkLoss, hok]

theorem rd_refclkReturn_phy (d : Dev) : (refclkReturn 0 d).rd R.PWR_CLKSTAT_PHY_OK = 1 ∧
    (refclkReturn 0 d).rd R.PWR_CLKSTAT_FT_SRC ≠ 2 := by
  have hok : (d.set R.PWR_CLKSTAT_PHY_OK).rd R.PWR_CLKSTAT_PHY_OK = 1 := d.rd_set_self rfl ..
  unfold refclkReturn
  rw [if_pos rfl]
  dsimp only
  split
  · rw [Dev.rd_wr_other _ (by decide), Dev.rd_wr_self]
    exact ⟨hok, by decide⟩
  · exact ⟨hok, ‹_›⟩

/-! ### The statement -/

/-- Settles O30: giving up what the store holds leaves the rails, the hold-up time and the supply's fields alone, and the
choice of the counter's source the OK and LOST_SEEN bits. -/
theorem supplyAndClockEvents : Obligations.SupplyAndClockEvents := by
  unfold Obligations.SupplyAndClockEvents
  refine ⟨?inRange, ?undervoltage, ?asserted, ?done, ?deasserted, ?lost, ?ftReturns, ?phyReturns⟩
  case inRange =>
    intro s r hr hnew
    refine Does.of_act_mute rfl (fun _ _ h => h) ?_
    rw [railInRange, if_neg (not_or.2 ⟨not_le.2 hr, by rw [hnew]; decide⟩)]
    exact ⟨rfl, Dev.rd_syncRails_vhub _⟩
  case undervoltage =>
    intro s r hr hheld hpin
    refine Does.of_act_mute rfl (fun _ _ h => h) ?_
    rw [railUndervoltage_starts hr hheld hpin, Dev.boot_powerFail, Dev.holdup_powerFail,
      Dev.rd_powerFail_other _ (by decide) (by decide) (by decide) (by decide),
      Dev.rd_powerFail_other _ (by decide) (by decide) (by decide) (by decide), Dev.pend_mgmt,
      Dev.rd_pend_other _ (by decide) (by decide)]
    exact ⟨s.dev.rails_railLost r, rfl, Dev.rd_set_self _ rfl .., Dev.rd_pend_self _ rfl (by decide)⟩
  case asserted =>
    intro s hpin hheld hidle hnvs
    refine Does.of_act_mute rfl (fun _ _ h => h) ?_
    have hnvs' : ((s.dev.set R.PWR_RAILMON_PFAIL_PIN).set R.PWR_RAILMON_PFAIL_SEEN).nvs = s.dev.nvs :=
      (Dev.rd_set_other _ (by decide) ..).trans (s.dev.rd_set_other (by decide) ..)
    rw [pwrfailAsserted_starts hpin hheld, Dev.holdup_powerFail]
    exact ⟨congrArg (fun t : Option Nat => some (t.getD s.dev.now)) hidle, Dev.nvs_powerFail hidle (hnvs' ▸ hnvs)⟩
  case done =>
    intro s t ht hover hcold
    refine Does.of_act_mute rfl (fun _ _ h => h) ?_
    rw [holdupDone_ends ht hover hcold]
    exact ⟨rfl, congrArg Store.prog s.dev.dropPrograms_sends.store, Dev.rd_set_self _ rfl ..⟩
  case deasserted =>
    intro s
    refine Does.of_act rfl ?_
    exact Dev.platform_of_sensors (s.dev.rd_clr_other (by decide) ..) (s.dev.rd_clr_other (by decide) ..)
      (s.dev.rd_clr_other (by decide) ..) (s.dev.rd_clr_other (by decide) ..)
  case lost =>
    intro s hok
    refine Does.of_act_mute rfl (fun _ _ h => h) ?_
    rw [refclkLoss_ft hok]
    iterate 3 rw [Dev.rd_ftSource_other _ (by decide)]
    iterate 2 rw [Dev.rd_pend_other _ (by decide) (by decide)]
    rw [Dev.rd_set_other _ (by decide)]
    exact ⟨Dev.rd_clr_self .., Dev.rd_set_self _ rfl .., Dev.rd_pend_self _ rfl (by decide)⟩
  case ftReturns =>
    intro s
    refine Does.of_act_mute rfl (fun _ _ h => h) ?_
    rw [refclkFtReturn, Dev.rd_wr_other _ (by decide)]
    exact ⟨s.dev.rd_set_self rfl .., Dev.rd_wr_self ..⟩
  case phyReturns =>
    intro s
    exact Does.of_act_mute rfl (fun _ _ h => h) (rd_refclkReturn_phy s.dev)

end Sys2Proof.Machine
end

section
/-! PROOF. The retention store at work (spec/14): what shows its state, units read, programs, erases, refreshes, targets
and data arriving (R385 to R401, R406). -/

namespace Sys2Proof.Machine

/-! ### What shows the store (R387, R399, R401) -/

/-- The fields that show the store's capacity and its wear. -/
def storeFlds : List Fld :=
  [R.NVS_STAT_TARGETS, R.NVS_STAT_TORN, R.NVS_CAP_USER_GB, R.NVS_CAP_FREE_GB, R.NVS_WEAR_RESERVE_PCT, R.NVS_WEAR_AVG_PCT,
    R.NVS_WEAR_MAX_PCT, R.NVS_WEAR_WA_X16, R.NVS_ERR_WEAR_WARN]

/-- The first step of bringing NVS.STAT up to date: the store enters READ_ONLY or leaves it. -/
def Dev.spareChecked (d : Dev) : Dev :=
  let ro := decide ((d.freeBlocks - d.openNeed) * 100 < d.goodBlocks)
  if d.nvs = nsReady ∧ ro then (d.wr R.NVS_STAT_STATE nsReadOnly).set R.NVS_ERR_RO_ENTERED
  else if d.nvs = nsReadOnly ∧ !ro then d.wr R.NVS_STAT_STATE nsReady else d

theorem Dev.spareChecked_writes (d : Dev) :
    d.WritesOnly [R.NVS_STAT_STATE, R.NVS_ERR_RO_ENTERED] d.spareChecked :=
  .ite (.wr (.wr (.refl d) (by decide)) (by decide)) (.ite (.wr (.refl d) (by decide)) (.refl d))

theorem Dev.syncStore_spareChecked (d : Dev) : d.spareChecked.WritesOnly storeFlds d.syncStore := by
  unfold Dev.syncStore
  extract_lets good spare ro d1 d2 d3 d4 d5 d6 rated erases tot avg mx d7 wa d8
  have h8 : d1.WritesOnly storeFlds d8 := by
    iterate 8 refine .wr ?_ (by decide)
    exact .refl d1
  exact .ite (h8.wr (by decide)) h8

theorem Dev.syncStore_regs (d : Dev) : ∃ r, d.syncStore = { d with regs := r } := by
  obtain ⟨r, hr⟩ := d.spareChecked_writes.regs
  obtain ⟨r', hr'⟩ := d.syncStore_spareChecked.regs
  exact ⟨r', hr'.trans (by rw [hr])⟩

@[simp] theorem Dev.syncStore_store (d : Dev) : d.syncStore.store = d.store := by
  obtain ⟨r, hr⟩ := d.syncStore_regs
  rw [hr]

theorem Dev.rd_syncStore_other (d : Dev) {g : Fld} (hs : ∀ f ∈ [R.NVS_STAT_STATE, R.NVS_ERR_RO_ENTERED], f.id ≠ g.id)
    (h : ∀ f ∈ storeFlds, f.id ≠ g.id) (i k : Nat) : d.syncStore.rd g i k = d.rd g i k :=
  (d.syncStore_spareChecked.rd g h i k).trans (d.spareChecked_writes.rd g hs i k)

/-- Only a store that takes programs changes its state by its spare blocks, between READY and READ_ONLY. -/
theorem Dev.nvs_syncStore (d : Dev) :
    d.syncStore.nvs = d.nvs ∨ d.syncStore.nvs = nsReady ∨ d.syncStore.nvs = nsReadOnly := by
  have hshow : d.syncStore.nvs = d.spareChecked.nvs := d.syncStore_spareChecked.rd _ (by decide) 0 0
  rw [hshow]
  unfold Dev.spareChecked
  dsimp only
  split
  · exact .inr (.inr ((Dev.rd_set_other _ (by decide) ..).trans (d.rd_wr_self ..)))
  · split
    · exact .inr (.inl (d.rd_wr_self ..))
    · exact .inl rfl

/-! ### Parts of the store -/

@[simp] theorem Dev.modStore_store (d : Dev) (f : Store → Store) : (d.modStore f).store = f d.store := rfl
@[simp] theorem Dev.nvs_modStore (d : Dev) (f : Store → Store) : (d.modStore f).nvs = d.nvs := rfl

theorem Dev.nblock_congr {d e : Dev} (h : e.store.blocks = d.store.blocks) (t b : Nat) : e.nblock t b = d.nblock t b := by
  rw [Dev.nblock, h, Dev.nblock]

@[simp] theorem Dev.nblock_setNblock (d : Dev) (t b : Nat) (x : NBlock) : (d.setNblock t b x).nblock t b = x :=
  Tab.get_put_self ..

theorem Dev.nblock_setNblock_other (d : Dev) {t b t' b' : Nat} (h : (t, b) ≠ (t', b')) (x : NBlock) :
    (d.setNblock t b x).nblock t' b' = d.nblock t' b' := Tab.get_put_other _ h ..

theorem Dev.obj?_congr {d e : Dev} (h : e.store.objs = d.store.objs) (k : Nat) : e.obj? k = d.obj? k := by
  rw [Dev.obj?, h, Dev.obj?]

/-- The object in a slot is found under the handle of its generation. -/
theorem Dev.obj?_eq_some {d : Dev} {h : Nat} {o : Obj} : d.obj? h = some o ↔
    d.store.objs.get (h % 65536) {} = o ∧ o.state ≠ 0 ∧ o.gen = h / 65536 ∧ o.gen ≠ 0 := by
  unfold Dev.obj?
  dsimp only
  split
  · refine ⟨nofun, ?_⟩
    rintro ⟨rfl, hst, hgen, hz⟩
    tauto
  · rw [Option.some_inj]
    refine ⟨?_, fun h => h.1⟩
    rintro rfl
    tauto

theorem Dev.objs_setObj (d : Dev) (h k : Nat) (o : Obj) : (d.setObj h o).store.objs.get (k % 65536) {} =
    if h % 65536 = k % 65536 then o else d.store.objs.get (k % 65536) {} := Tab.get_put ..

theorem Dev.sjob?_setJob {d : Dev} {id : Nat} {j j' : StoreJob} (h : d.sjob? id = some j) (hid : j'.id = id) :
    (d.setJob j').sjob? id = some j' := by
  subst hid
  have hp : ((fun x : StoreJob => decide (x.id = j'.id)) ∘ fun x => if x.id = j'.id then j' else x) =
      fun x => decide (x.id = j'.id) := by
    funext x
    by_cases hx : x.id = j'.id <;> simp [hx]
  have hj : j.id = j'.id := by simpa using List.find?_some h
  unfold Dev.sjob? at h ⊢
  simp only [Dev.setJob, Dev.modStore, List.find?_map, hp, h, Option.map_some, if_pos hj]

theorem Dev.sjob?_delJob (d : Dev) (id : Nat) : (d.delJob id).sjob? id = none := by
  simp [Dev.sjob?, Dev.delJob, Dev.modStore]

theorem Dev.sjob?_of_mem {d : Dev} {j : StoreJob} (h : j ∈ d.store.jobs) : ∃ x, d.sjob? j.id = some x :=
  Option.isSome_iff_exists.1 (List.find?_isSome.2 ⟨j, h, by simp⟩)

/-! ### Units read (R385, R386, R400) -/

theorem Dev.refreshBlock_frame (d : Dev) (t b cause : Nat) :
    ∃ cs bs, d.refreshBlock t b cause = { d with counters := cs, store := { d.store with blocks := bs } } := by
  unfold Dev.refreshBlock
  dsimp only
  split
  · exact ⟨_, _, rfl⟩
  · exact ⟨d.counters, d.store.blocks, rfl⟩

/-- A block marked for refresh keeps all but its state. -/
theorem Dev.nblock_refreshBlock (d : Dev) (t b cause : Nat) :
    ∃ st, (d.refreshBlock t b cause).nblock t b = { d.nblock t b with state := st } := by
  unfold Dev.refreshBlock
  dsimp only
  split
  · exact ⟨bRefresh, d.nblock_setNblock ..⟩
  · exact ⟨(d.nblock t b).state, rfl⟩

/-- A unit that has decoded, before its block may be marked for refresh. -/
def Dev.unitCounted (d : Dev) (t b step : Nat) : Dev :=
  (d.setNblock t b { d.nblock t b with reads := (d.nblock t b).reads + 1 }).count 0x0D 0 1 step

theorem Dev.unitRead_cases {step : Nat} (hstep : step ≠ 0) (d : Dev) (h u t b : Nat) (heavy scan : Bool) :
    d.unitRead h u t b step heavy scan = d.unitCounted t b step ∨
      ∃ cause, d.unitRead h u t b step heavy scan = (d.unitCounted t b step).refreshBlock t b cause := by
  unfold Dev.unitRead
  dsimp only
  rw [if_neg hstep]
  split
  · exact .inr ⟨_, rfl⟩
  · split
    · exact .inr ⟨_, rfl⟩
    · exact .inl rfl

theorem Dev.unitRead_frame {step : Nat} (hstep : step ≠ 0) (d : Dev) (h u t b : Nat) (heavy scan : Bool) :
    ∃ cs bs, d.unitRead h u t b step heavy scan = { d with counters := cs, store := { d.store with blocks := bs } } := by
  rcases Dev.unitRead_cases hstep d h u t b heavy scan with hr | ⟨cause, hr⟩
  · exact ⟨_, _, hr⟩
  · obtain ⟨cs, bs, hf⟩ := (d.unitCounted t b step).refreshBlock_frame t b cause
    exact ⟨cs, bs, hr.trans hf⟩

/-- A unit that decodes counts one read of its block. -/
theorem Dev.nblock_unitRead {step : Nat} (hstep : step ≠ 0) (d : Dev) (h u t b : Nat) (heavy scan : Bool) :
    ∃ st, (d.unitRead h u t b step heavy scan).nblock t b =
      { d.nblock t b with reads := (d.nblock t b).reads + 1, state := st } := by
  have hcount : (d.unitCounted t b step).nblock t b = { d.nblock t b with reads := (d.nblock t b).reads + 1 } :=
    d.nblock_setNblock ..
  rcases Dev.unitRead_cases hstep d h u t b heavy scan with hr | ⟨cause, hr⟩
  · exact ⟨(d.nblock t b).state, by rw [hr, hcount]⟩
  · obtain ⟨st, hf⟩ := (d.unitCounted t b step).nblock_refreshBlock t b cause
    exact ⟨st, by rw [hr, hf, hcount]⟩

@[simp] theorem Dev.sramWrite_store (d : Dev) (t a : Nat) (bytes : List Nat) :
    (d.sramWrite t a bytes).store = d.store := by
  unfold Dev.sramWrite
  dsimp only
  split
  · rfl
  · split <;> rfl

@[simp] theorem Dev.hbmWrite_store (d : Dev) (q a : Nat) (bytes : List Nat) : (d.hbmWrite q a bytes).store = d.store := by
  unfold Dev.hbmWrite
  dsimp only
  split <;> rfl

@[simp] theorem Dev.memWrite_store (d : Dev) (t a : Nat) (bytes : List Nat) : (d.memWrite t a bytes).store = d.store := by
  unfold Dev.memWrite
  split
  · exact d.sramWrite_store ..
  · exact d.hbmWrite_store ..

/-- The last unit of a command's read into memory ends it. -/
theorem Dev.deliverUnit_last {d : Dev} {j : StoreJob} {u a tg : Nat} {o : Obj} (hj : j ∈ d.store.jobs)
    (ho : d.obj? j.obj = some o) (hsrc : j.src = .cmd a) (hleft : j.left = [u]) (ht : j.target = some tg) :
    (d.deliverUnit j u).sjob? j.id = none ∧ (d.deliverUnit j u).store.blocks = d.store.blocks := by
  have hnone : (j.left.filter fun x => x ≠ u) = [] := by simp [hleft]
  unfold Dev.deliverUnit
  simp only [ho, ht, hnone]
  generalize hw : (d.count _ _ _ _ _).memWrite _ _ _ = w
  have hws : w.store = d.store := by
    rw [← hw]
    exact Dev.memWrite_store ..
  have hblocks : w.store.blocks = d.store.blocks := congrArg Store.blocks hws
  obtain ⟨x, hx⟩ := Dev.sjob?_of_mem (d := w) (hws ▸ hj)
  have hset (j' : StoreJob) (h : j'.id = j.id) : (w.setJob j').sjob? j.id = some j' := Dev.sjob?_setJob hx h
  rw [hset]
  · simp only [hsrc, ne_eq, not_true_eq_false, if_false, Dev.jobOver]
    exact ⟨Dev.sjob?_delJob .., hblocks⟩
  · rfl

theorem unitReadComplete_last {d : Dev} {h u step t b a : Nat} {heavy : Bool} {j : StoreJob}
    (hjobs : (d.store.jobs.filter fun x => !x.write && x.obj = h && x.left.contains u) = [j])
    (hb : d.blockOf h u = some (t, b)) (hstep : step ≠ 0) (hsrc : j.src = .cmd a) (hleft : j.left = [u])
    (ho : (d.obj? h).isSome = true) (hobj : j.obj = h) (ht : j.target.isSome = true) :
    (unitReadComplete h u step heavy d).sjob? j.id = none ∧
      ((unitReadComplete h u step heavy d).nblock t b).reads = (d.nblock t b).reads + 1 := by
  obtain ⟨o, ho⟩ := Option.isSome_iff_exists.1 ho
  obtain ⟨tg, ht⟩ := Option.isSome_iff_exists.1 ht
  have hmem : j ∈ d.store.jobs := List.mem_of_mem_filter (hjobs ▸ List.mem_singleton_self j)
  have heq : unitReadComplete h u step heavy d = (d.unitRead h u t b step heavy false).deliverUnit j u := by
    unfold unitReadComplete
    simp only [hjobs, hb, if_neg hstep]
    rfl
  obtain ⟨st, hst⟩ := Dev.nblock_unitRead hstep d h u t b heavy false
  obtain ⟨cs, bs, hf⟩ := Dev.unitRead_frame hstep d h u t b heavy false
  obtain ⟨hover, hblocks⟩ := Dev.deliverUnit_last (d := d.unitRead h u t b step heavy false) (o := o)
    (by rw [hf]; exact hmem) (by rw [hf, hobj]; exact ho) hsrc hleft ht
  rw [heq, Dev.nblock_congr hblocks, hst]
  exact ⟨hover, rfl⟩

theorem retentionScan_due {d : Dev} {t b i step : Nat} {heavy : Bool} {hu : Nat × Nat}
    (hunit : (d.nblock t b).units[i]? = some hu) (hst : (d.nblock t b).state = bData)
    (hdue : (d.nblock t b).sampled + max 1 (d.rd R.NVS_CFG_RET_DAYS) * 86400000000000 ≤ d.now) (hstep : step ≠ 0) :
    ((retentionScan t b i step heavy d).nblock t b).sampled = d.now ∧
      ((retentionScan t b i step heavy d).nblock t b).reads = (d.nblock t b).reads + 1 := by
  obtain ⟨st, hr⟩ := Dev.nblock_unitRead hstep (d.setNblock t b { d.nblock t b with sampled := d.now }) hu.1 hu.2 t b
    heavy true
  unfold retentionScan
  simp only [hunit]
  rw [if_pos ⟨hst, hdue⟩, hr, Dev.nblock_setNblock]
  exact ⟨rfl, rfl⟩

/-! ### Programs that complete (R390, R392) -/

/-- A unit of a program noted in its object. -/
def Dev.noteUnit (d : Dev) (r : UnitRef) : Dev :=
  match d.obj? r.obj with
  | some o => d.setObj r.obj { o with programmed := (o.programmed ++ [r.unit]).eraseDups }
  | none => d

/-- An object that has the unit, where there is one, lists it as programmed. -/
def Dev.UnitNoted (r : UnitRef) (d : Dev) : Prop := ∀ o, d.obj? r.obj = some o → r.unit ∈ o.programmed

theorem Dev.noteUnit_prog (d : Dev) (r : UnitRef) : (d.noteUnit r).store.prog = d.store.prog := by
  unfold Dev.noteUnit
  split <;> rfl

theorem Dev.unitNoted_noteUnit_self (d : Dev) (r : UnitRef) : (d.noteUnit r).UnitNoted r := by
  intro o ho
  unfold Dev.noteUnit at ho
  split at ho
  · rw [Dev.obj?_eq_some, Dev.objs_setObj, if_pos rfl] at ho
    obtain ⟨rfl, -⟩ := ho
    simp
  · rename_i hnone
    rw [hnone] at ho
    cases ho

/-- A unit noted stays noted: an object's list of programmed units only grows. -/
theorem Dev.UnitNoted.noteUnit {d : Dev} {r : UnitRef} (h : d.UnitNoted r) (x : UnitRef) : (d.noteUnit x).UnitNoted r := by
  intro o ho
  unfold Dev.noteUnit at ho
  split at ho
  · rename_i y hy
    obtain ⟨hget, hst, hgen, hz⟩ := Dev.obj?_eq_some.1 ho
    rw [Dev.objs_setObj] at hget
    split at hget
    · rename_i hslot
      subst hget
      have hsame : d.obj? r.obj = some y :=
        Dev.obj?_eq_some.2 ⟨hslot ▸ (Dev.obj?_eq_some.1 hy).1, hst, hgen, hz⟩
      simp [h y hsame]
    · exact h o (Dev.obj?_eq_some.2 ⟨hget, hst, hgen, hz⟩)
  · exact h o ho

/-- A program unit taken off the list, its units noted and its commands told. -/
def Dev.programEnds (d : Dev) (p : ProgUnit) (id : Nat) : Dev :=
  ((d.modStore fun s => { s with prog := s.prog.filter fun x => x.id ≠ id }).each p.units Dev.noteUnit).each p.metas
    fun d a => d.modJob a fun x => { x with waits := 0 }

theorem Dev.store_each_modJob (d : Dev) (l : List Nat) (f : JEntry → JEntry) :
    (d.each l fun d a => d.modJob a f).store = d.store := d.each_keeps Dev.store l fun _ _ => rfl

theorem programComplete_ok {d : Dev} {id : Nat} {p : ProgUnit}
    (hp : (d.store.prog.find? fun x => x.id = id) = some p) :
    programComplete id true d = (d.programEnds p id).eraseEmpty.syncStore := by
  unfold programComplete
  rw [hp]
  rfl

theorem Dev.prog_programEnds (d : Dev) (p : ProgUnit) (id : Nat) :
    (d.programEnds p id).store.prog = d.store.prog.filter fun x => x.id ≠ id :=
  (congrArg Store.prog (Dev.store_each_modJob ..)).trans (Dev.each_keeps (fun e => e.store.prog) _ _ Dev.noteUnit_prog)

theorem Dev.unitNoted_programEnds (d : Dev) {p : ProgUnit} (id : Nat) {r : UnitRef} (hr : r ∈ p.units) :
    (d.programEnds p id).UnitNoted r := by
  have hnoted : Dev.UnitNoted r ((d.modStore fun s => { s with prog := s.prog.filter fun x => x.id ≠ id }).each p.units
      Dev.noteUnit) :=
    Dev.each_establishes (P := Dev.UnitNoted) Dev.unitNoted_noteUnit_self (fun _ _ x h => h.noteUnit x) _ hr
  intro o ho
  rw [Dev.programEnds, Dev.obj?_congr (congrArg Store.objs (Dev.store_each_modJob ..))] at ho
  exact hnoted o ho

/-! ### Erases and wear levelling (R399, R401) -/

/-- The value that a table without repeated keys lists under a key that has been written. -/
theorem Tab.eq_of_mem_put {κ α : Type} [DecidableEq κ] {t : Tab κ α} (h : (t.map Prod.fst).Nodup) {k : κ} {v w : α}
    (hm : (k, w) ∈ t.put k v) : w = v := by
  induction t with
  | nil => simpa [Tab.put] using hm
  | cons e t ih =>
    obtain ⟨x, y⟩ := e
    obtain ⟨hx, ht⟩ := List.nodup_cons.1 h
    unfold Tab.put at hm
    split at hm
    · subst_vars
      rcases List.mem_cons.1 hm with heq | hmem
      · exact (Prod.mk.injEq .. ▸ heq).2
      · exact absurd (List.mem_map_of_mem hmem) hx
    · rcases List.mem_cons.1 hm with heq | hmem
      · cases heq
        contradiction
      · exact ih ht hmem

/-- Levelling wear moves a block that holds data. -/
theorem Dev.nblock_levelWear {d : Dev} {t b : Nat} (h : ∀ x, ((t, b), x) ∈ d.store.blocks → x.state ≠ bData) :
    d.levelWear.nblock t b = d.nblock t b := by
  unfold Dev.levelWear
  dsimp only
  split
  · rfl
  · rename_i x hx
    have hmem := List.mem_filter.1 (List.mem_of_find?_eq_some hx)
    have hne : (x.1.1, x.1.2) ≠ (t, b) := by
      rintro heq
      obtain ⟨⟨t', b'⟩, y⟩ := x
      cases heq
      have hdata : y.state = bData := by simpa using (Bool.and_eq_true_iff.1 hmem.2).1
      exact h y hmem.1 hdata
    split
    · exact d.nblock_setNblock_other hne _
    · rfl

theorem nblock_eraseComplete {d : Dev} {t b : Nat} (hst : (d.nblock t b).state = bErasing)
    (hkeys : (d.store.blocks.map Prod.fst).Nodup) : (eraseComplete t b true d).nblock t b =
      { erases := (d.nblock t b).erases + 1, sampled := d.now } := by
  unfold eraseComplete
  dsimp only
  rw [if_neg (not_not.2 hst), if_pos rfl, Dev.nblock_congr (congrArg Store.blocks (Dev.syncStore_store _)),
    Dev.nblock_levelWear, Dev.nblock_setNblock]
  intro x hx
  rw [Tab.eq_of_mem_put hkeys hx]
  show bFree ≠ bData
  decide

/-! ### Refreshes (R399, R400) -/

/-- The block that the units of a block to be refreshed go to. -/
def Dev.refreshTo (d : Dev) (t b : Nat) : Option (Nat × Nat) :=
  (t :: d.targetsUsed).findSome? fun u => match d.nextBlock u (d.nblock t b).units.length with
    | some c => if u = t ∧ c = b then none else some (u, c)
    | none => none

theorem Dev.refreshTo_ne {d : Dev} {t b : Nat} {uc : Nat × Nat} (h : d.refreshTo t b = some uc) : (t, b) ≠ uc := by
  obtain ⟨u, -, hu⟩ := List.exists_of_findSome?_eq_some h
  split at hu
  · split at hu
    · cases hu
    · rename_i hne
      rintro rfl
      cases hu
      exact hne ⟨rfl, rfl⟩
  · cases hu

/-- The units of a block moved to another one, before the block itself is given back. -/
def Dev.unitsMoved (d : Dev) (t b : Nat) (uc : Nat × Nat) : Dev :=
  (d.setNblock uc.1 uc.2 { d.nblock uc.1 uc.2 with
    state := bData, units := (d.nblock uc.1 uc.2).units ++ (d.nblock t b).units, sampled := d.now }).modStore
      fun s => { s with unitsIssued := s.unitsIssued + 1, dirty := true }

theorem blockRefreshComplete_moves {d : Dev} {t b : Nat} {uc : Nat × Nat} (hst : (d.nblock t b).state = bRefresh)
    (hto : d.refreshTo t b = some uc) : blockRefreshComplete t b d =
      ((d.unitsMoved t b uc).setNblock t b { d.nblock t b with state := bErasing, units := [] }).syncStore := by
  unfold blockRefreshComplete
  simp only [hst, ne_eq, not_true_eq_false, false_and, if_false, if_true]
  generalize hx : List.findSome? _ _ = x
  obtain rfl : x = some uc := hx.symm.trans hto
  rfl

theorem nblock_blockRefreshComplete {d : Dev} {t b : Nat} {uc : Nat × Nat} (hst : (d.nblock t b).state = bRefresh)
    (hto : d.refreshTo t b = some uc) :
    (blockRefreshComplete t b d).nblock t b = { d.nblock t b with state := bErasing, units := [] } ∧
      ((blockRefreshComplete t b d).nblock uc.1 uc.2).units =
        (d.nblock uc.1 uc.2).units ++ (d.nblock t b).units := by
  rw [blockRefreshComplete_moves hst hto]
  iterate 2 rw [Dev.nblock_congr (congrArg Store.blocks (Dev.syncStore_store _))]
  refine ⟨Dev.nblock_setNblock .., ?_⟩
  rw [Dev.nblock_setNblock_other _ (Dev.refreshTo_ne hto)]
  exact congrArg NBlock.units (d.nblock_setNblock ..)

/-! ### Targets that do not respond (R401, R408) -/

/-- A fault event (R468) leaves the store to its caller. -/
@[simp] theorem Dev.faultEvent_store (d : Dev) (blk cause inst d0 d1 status : Nat) :
    (d.faultEvent blk cause inst d0 d1 status).store = d.store := by
  have hpush (x : HEntry) : (d.histPush x).store = d.store := (Dev.Sends.refl d).histPush.store
  have hbunt (e : Dev) (p : Nat) : (e.buntTrigger p).store = e.store := by
    unfold Dev.buntTrigger
    split
    · rfl
    · split <;> rfl
  have henter (e : Dev) (n : Nat) : (e.enterFault n blk cause).store = e.store := by
    refine (Dev.Sends.refl _).sendEvent.store.trans ?_
    unfold Dev.irq
    dsimp only
    split <;> rfl
  have hquiet (e : Dev) : e.restartQuiet.store = e.store := rfl
  have hbump (e : Dev) : ((e.bump R.FLT_CNT0_EVENTS).count 0x0F 0 0 blk).store = e.store := rfl
  simp only [Dev.faultEvent, apply_ite Dev.store, henter, hquiet, hbunt, hbump, hpush, ite_self]

/-- A unit lost with its target: the object is DAMAGED. -/
def Dev.loseUnit (d : Dev) (hu : Nat × Nat) : Dev :=
  match d.obj? hu.1 with
  | some o => d.setObj hu.1 { o with damaged := true, bad := (o.bad ++ [hu.2]).eraseDups }
  | none => d

theorem Dev.loseUnit_frame (d : Dev) (hu : Nat × Nat) :
    ∃ os, d.loseUnit hu = { d with store := { d.store with objs := os } } := by
  unfold Dev.loseUnit
  split
  · exact ⟨_, rfl⟩
  · exact ⟨d.store.objs, rfl⟩

/-- A target excluded, with the fault event and the fields that show it. -/
def Dev.targetOut (d : Dev) (t : Nat) : Dev :=
  (((d.faultEvent 0x0D 0x04 t).set R.NVS_ERR_TGT_FAIL).wrBit R.NVS_TGT_FAILED (t % 8) true 0 (t / 8)).modStore fun s =>
    { s with
      targets := s.targets.put t { s.targets.get t {} with used := false }
      prog := s.prog.filter fun p => p.target ≠ t
      blocks := s.blocks.filter fun x => x.1.1 ≠ t }

theorem targetTimeout_idle {d : Dev} {t : Nat} (hused : (d.target t).used = true) (hjobs : d.store.jobs = [])
    (hprog : d.store.prog = []) : ∃ lost : List (Nat × Nat),
      targetTimeout t d = ((d.targetOut t).each lost Dev.loseUnit).syncStore := by
  refine ⟨((d.store.blocks.filter fun x => x.1.1 = t).flatMap fun x => x.2.units), ?_⟩
  have hstore : (((d.faultEvent 0x0D 0x04 t).set R.NVS_ERR_TGT_FAIL).wrBit R.NVS_TGT_FAILED (t % 8) true 0 (t / 8)).store
      = d.store := Dev.faultEvent_store ..
  have hnone (l : List (Nat × Nat)) : ((d.targetOut t).each l Dev.loseUnit).store.jobs = [] := by
    refine (Dev.each_keeps (fun e => e.store.jobs) _ _ fun e hu => ?_).trans
      ((congrArg Store.jobs hstore).trans hjobs)
    obtain ⟨os, hos⟩ := e.loseUnit_frame hu
    rw [hos]
  unfold targetTimeout
  rw [if_neg (by rw [hused]; decide)]
  dsimp only
  rw [hstore, hprog]
  show Dev.syncStore (Dev.assemble (Dev.each ((d.targetOut t).each _ Dev.loseUnit)
    ((d.targetOut t).each _ Dev.loseUnit).store.jobs _) [] []) = _
  rw [hnone]
  rfl

theorem Dev.target_targetOut (d : Dev) (t : Nat) : ((d.targetOut t).target t).used = false := by
  have hput : (d.targetOut t).target t = _ := Tab.get_put_self ..
  rw [hput]

theorem Dev.rdBit_targetOut (d : Dev) (t : Nat) :
    (d.targetOut t).rdBit R.NVS_TGT_FAILED (t % 8) 0 (t / 8) = true :=
  Dev.rdBit_wrBit _ (Nat.mod_lt _ (by decide)) true 0 (t / 8)

theorem targetTimeout_excludes {d : Dev} {t : Nat} (hused : (d.target t).used = true) (hjobs : d.store.jobs = [])
    (hprog : d.store.prog = []) : ((targetTimeout t d).target t).used = false ∧
      (targetTimeout t d).rdBit R.NVS_TGT_FAILED (t % 8) 0 (t / 8) = true := by
  obtain ⟨lost, hl⟩ := targetTimeout_idle hused hjobs hprog
  have htargets : ((d.targetOut t).each lost Dev.loseUnit).store.targets = (d.targetOut t).store.targets :=
    Dev.each_keeps (fun e => e.store.targets) _ _ fun e hu => by
      obtain ⟨os, hos⟩ := e.loseUnit_frame hu
      rw [hos]
  have hregs : ((d.targetOut t).each lost Dev.loseUnit).regs = (d.targetOut t).regs :=
    Dev.each_keeps Dev.regs _ _ fun e hu => by
      obtain ⟨os, hos⟩ := e.loseUnit_frame hu
      rw [hos]
  rw [hl]
  constructor
  · rw [Dev.target, Dev.syncStore_store, htargets]
    exact d.target_targetOut t
  · rw [Dev.rdBit, Dev.rd_syncStore_other _ (by decide) (by decide), Dev.rd_congr hregs]
    exact d.rdBit_targetOut t

/-! ### Program units issued (R392) -/

/-- A program unit that is issued is counted; transfers and what is assembled stay. -/
theorem Dev.programOn_some {d e : Dev} {us : List UnitRef} {ms : List Nat} (h : d.programOn us ms = some e) :
    e.store.jobs = d.store.jobs ∧ e.store.assembly = d.store.assembly ∧ e.store.metas = d.store.metas ∧
      e.store.unitsIssued = d.store.unitsIssued + 1 := by
  unfold Dev.programOn at h
  dsimp only at h
  split at h
  · cases h
  · split at h
    · cases h
    · cases h
      split <;> exact ⟨rfl, rfl, rfl, rfl⟩

/-- No transfer has moved all of its bytes. -/
def Dev.Moving (d : Dev) : Prop := ∀ j ∈ d.store.jobs, j.moved ≠ j.len

theorem Dev.Moving.of_jobs {d e : Dev} (h : d.Moving) (hj : e.store.jobs = d.store.jobs) : e.Moving := by
  rw [Dev.Moving, hj]
  exact h

/-- `m` metadata records and `u` units taken out of what is assembled. -/
def Dev.takeOut (d : Dev) (m u : Nat) : Dev :=
  let d := d.modStore fun s => { s with
    metas := s.metas.drop m, assembly := s.assembly.drop u, hostUnits := s.hostUnits + 1 }
  let left := d.store.assembly ≠ [] ∨ d.store.metas ≠ []
  d.modStore fun s => { s with fillAt := if left then s.fillAt else none }

/-- A program unit issued is the first of those still to come. -/
theorem Dev.issue_of_program {d e : Dev} {pad : Bool} (f : Nat)
    (hgo : ¬(d.mayProgram = false ∨ d.store.assembly.length + d.store.metas.length = 0 ∨
      (d.store.assembly.length + d.store.metas.length < 48 ∧ pad = false)))
    (hon : d.programOn (d.store.assembly.take (48 - (d.store.metas.take 48).length)) (d.store.metas.take 48) = some e) :
    d.issue (f + 1) pad = (e.takeOut (d.store.metas.take 48).length
      (d.store.assembly.take (48 - (d.store.metas.take 48).length)).length).accept.issue f pad := by
  rw [Dev.issue]
  dsimp only
  rw [if_neg hgo, hon]
  rfl

theorem Dev.issue_cases (d : Dev) (f : Nat) (pad : Bool) : d.issue (f + 1) pad = d ∨
    ∃ us ms e m u, d.programOn us ms = some e ∧ d.issue (f + 1) pad = (e.takeOut m u).accept.issue f pad := by
  by_cases hgo : d.mayProgram = false ∨ d.store.assembly.length + d.store.metas.length = 0 ∨
      (d.store.assembly.length + d.store.metas.length < 48 ∧ pad = false)
  · exact .inl (if_pos hgo)
  · cases hon : d.programOn (d.store.assembly.take (48 - (d.store.metas.take 48).length)) (d.store.metas.take 48) with
    | some e => exact .inr ⟨_, _, e, _, _, hon, Dev.issue_of_program f hgo hon⟩
    | none =>
      refine .inl ?_
      rw [Dev.issue]
      dsimp only
      rw [if_neg hgo, hon]

/-- While no transfer has moved every byte, issuing program units ends none. -/
theorem Dev.jobs_issue (f : Nat) {d : Dev} (hm : d.Moving) (pad : Bool) :
    (d.issue f pad).store.jobs = d.store.jobs := by
  induction f generalizing d with
  | zero => rfl
  | succ f ih =>
    rcases d.issue_cases f pad with hd | ⟨us, ms, e, m, u, hon, hd⟩
    · rw [hd]
    · obtain ⟨hj, -⟩ := Dev.programOn_some hon
      have hj' : (e.takeOut m u).store.jobs = d.store.jobs := hj
      rw [hd, Dev.accept_of_moving (hm.of_jobs hj')]
      exact (ih (hm.of_jobs hj')).trans hj'

theorem Dev.issue_nothing {d : Dev} (ha : d.store.assembly = []) (hm : d.store.metas = []) (f : Nat) (pad : Bool) :
    d.issue f pad = d := by
  cases f with
  | zero => rfl
  | succ f => simp [Dev.issue, ha, hm]

/-- What is assembled goes into one padded program unit where it fits in one and a block is free. -/
theorem Dev.issue_all {d : Dev} (hjobs : d.store.jobs = []) (hmay : d.mayProgram = true)
    (hfit : d.store.assembly.length + d.store.metas.length ≤ 48)
    (hsome : 0 < d.store.assembly.length + d.store.metas.length)
    (hon : (d.programOn d.store.assembly d.store.metas).isSome = true) :
    ∃ e, d.issue (d.store.assembly.length + d.store.metas.length) true = e ∧ e.store.assembly = [] ∧ e.store.metas = [] ∧
      e.store.fillAt = none ∧ e.store.unitsIssued = d.store.unitsIssued + 1 := by
  obtain ⟨f, hf⟩ := Nat.exists_eq_succ_of_ne_zero hsome.ne'
  obtain ⟨e, he⟩ := Option.isSome_iff_exists.1 hon
  obtain ⟨hej, hea, hem, heu⟩ := Dev.programOn_some he
  have hms : d.store.metas.take 48 = d.store.metas := List.take_of_length_le (by omega)
  have hus : d.store.assembly.take (48 - d.store.metas.length) = d.store.assembly := List.take_of_length_le (by omega)
  have hgo : ¬(d.mayProgram = false ∨ d.store.assembly.length + d.store.metas.length = 0 ∨
      (d.store.assembly.length + d.store.metas.length < 48 ∧ true = false)) := by
    rintro (h | h | ⟨-, h⟩)
    · exact absurd (hmay.symm.trans h) (by decide)
    · omega
    · cases h
  have hissue := Dev.issue_of_program f hgo (by rwa [hms, hus])
  rw [hms, hus] at hissue
  generalize hx : e.takeOut d.store.metas.length d.store.assembly.length = x at hissue
  have hxj : x.store.jobs = [] := by rw [← hx]; exact hej.trans hjobs
  have hxa : x.store.assembly = [] := by rw [← hx]; simp [Dev.takeOut, hea]
  have hxm : x.store.metas = [] := by rw [← hx]; simp [Dev.takeOut, hem]
  have hxf : x.store.fillAt = none := by rw [← hx]; simp [Dev.takeOut, hea, hem]
  have hxu : x.store.unitsIssued = d.store.unitsIssued + 1 := by rw [← hx]; exact heu
  refine ⟨x, ?_, hxa, hxm, hxf, hxu⟩
  rw [hf, hissue, Dev.accept_of_moving (by simp [hxj]), Dev.issue_nothing hxa hxm]

theorem fillToExpiry_issues {d : Dev} {t : Nat} (hat : d.store.fillAt = some t) (hdue : t ≤ d.now)
    (hjobs : d.store.jobs = []) (hmay : d.mayProgram = true)
    (hfit : d.store.assembly.length + d.store.metas.length ≤ 48)
    (hsome : 0 < d.store.assembly.length + d.store.metas.length)
    (hon : (d.programOn d.store.assembly d.store.metas).isSome = true) :
    (fillToExpiry d).store.assembly = [] ∧ (fillToExpiry d).store.metas = [] ∧ (fillToExpiry d).store.fillAt = none ∧
      (fillToExpiry d).store.unitsIssued = d.store.unitsIssued + 1 := by
  obtain ⟨e, he, hall⟩ := Dev.issue_all hjobs hmay hfit hsome hon
  have hfill : fillToExpiry d = e.syncStore := by simp only [fillToExpiry, hat, if_pos hdue, he]
  rw [hfill, Dev.syncStore_store]
  exact hall

/-! ### Data arriving (R389, R392) -/

theorem Dev.jobs_assemble {d : Dev} (hm : d.Moving) (us : List UnitRef) (ms : List Nat) :
    (d.assemble us ms).store.jobs = d.store.jobs := by
  unfold Dev.assemble
  split
  · rfl
  · refine (Dev.jobs_issue _ (hm.of_jobs ?_) _).trans ?_ <;> rfl

theorem Dev.jobs_objWrite {d : Dev} (hm : d.Moving) (h off : Nat) (bytes : List Nat) :
    (d.objWrite h off bytes).store.jobs = d.store.jobs := by
  unfold Dev.objWrite
  split
  · rfl
  · refine (Dev.jobs_assemble (hm.of_jobs ?_) ..).trans ?_ <;> rfl

/-- Bytes that leave others of their transfer to come move it on. -/
theorem storeDataArrival_moves {d : Dev} {id n : Nat} {j : StoreJob} (hj : d.sjob? id = some j)
    (hjobs : d.store.jobs = [j]) (hwrite : j.write = true) (hended : j.ended = false) (hn : n ≠ 0)
    (hlen : j.moved + n < j.len) (hmay : d.mayProgram = true) (ht : j.target = none) :
    (storeDataArrival id n d).sjob? id = some { j with moved := j.moved + n } := by
  have hid : j.id = id := by simpa using List.find?_some hj
  have hmin : min n (j.len - j.moved) = n := by omega
  have hset : (d.setJob { j with moved := j.moved + n }).store.jobs = [{ j with moved := j.moved + n }] := by
    simp [Dev.setJob, Dev.modStore, hjobs]
  have hmoving : (d.setJob { j with moved := j.moved + n }).Moving := by
    intro x hx
    rw [hset] at hx
    obtain rfl := List.mem_singleton.1 hx
    exact hlen.ne
  have heq : storeDataArrival id n d = ((d.setJob { j with moved := j.moved + n }).objWrite j.obj (j.off + j.moved)
      (j.data.readN j.moved n)).accept := by
    unfold storeDataArrival
    simp only [hj, hmin, hwrite, hended, hn, hmay, ht, Bool.true_eq_false, Bool.false_eq_true, or_self, if_false]
  have hwritten := Dev.jobs_objWrite hmoving j.obj (j.off + j.moved) (j.data.readN j.moved n)
  rw [heq, Dev.accept_of_moving (hmoving.of_jobs hwritten), Dev.sjob?, hwritten]
  exact Dev.sjob?_setJob hj hid

/-! ### Results absorbed (R394, R395) -/

theorem Dev.wakeStore_transfers (d : Dev) :
    d.wakeStore.store.jobs = d.store.jobs ∧ d.wakeStore.store.nextJob = d.store.nextJob := by
  unfold Dev.wakeStore
  split
  · rw [Dev.syncStore_store]
    exact ⟨rfl, rfl⟩
  · exact ⟨rfl, rfl⟩

/-- A write of some bytes that is accepted while no transfer runs is the one transfer. -/
theorem Dev.startWrite_accepted {d : Dev} {src : StoreSrc} {h off len addr : Nat} {tgt : Option Nat} {data : Mem}
    (hok : (d.startWrite src h off len tgt addr data).2 = St.ok) (hlen : len ≠ 0) (hjobs : d.store.jobs = []) :
    (d.startWrite src h off len tgt addr data).1.store.nextJob = d.store.nextJob + 1 ∧
      (d.startWrite src h off len tgt addr data).1.store.jobs.map StoreJob.len = [len] := by
  obtain ⟨hwj, hwn⟩ := d.wakeStore_transfers
  unfold Dev.startWrite at hok ⊢
  dsimp only at hok ⊢
  split at hok
  · contradiction
  split at hok
  · exact absurd (show St.storeBusy = St.ok from hok) (by decide)
  split at hok
  · exact absurd (show St.storeReadOnly = St.ok from hok) (by decide)
  split at hok
  · contradiction
  rw [if_neg ‹_›, if_neg ‹_›, if_neg ‹_›, if_neg ‹_›, Dev.accept_of_moving]
  · simp [Dev.addJob, hwj, hwn, hjobs]
  · simpa [Dev.addJob, hwj, hjobs] using hlen.symm

theorem absorbResultReceived_writes {d d1 : Dev} {pid : Nat} {st : Stored} {h : Holder} {b : AbsorbEnt}
    (htake : d.takeWhole hubAttach pid tgtStore = some (st, h, d1))
    (hbind : (d1.store.binds.find? fun b => b.ctx = st.ctx.getD (st.pkt.collId % 65536)) = some b)
    (hok : (d1.startWrite (.result pid h) b.obj (b.base + st.pkt.offset) st.pkt.payload.length none 0
      (Mem.writeN [] 0 st.pkt.payload)).2 = 0) :
    absorbResultReceived pid d = (d1.startWrite (.result pid h) b.obj (b.base + st.pkt.offset) st.pkt.payload.length none 0
      (Mem.writeN [] 0 st.pkt.payload)).1 := by
  unfold absorbResultReceived
  simp only [htake, hbind]
  generalize d1.startWrite _ _ _ _ _ _ _ = x at hok ⊢
  obtain ⟨e, c⟩ := x
  obtain rfl : c = 0 := hok
  rfl

/-! ### Checkpoints and rebuilds (R404, R406) -/

/-- The objects and blocks that a rebuild finds. -/
def Dev.rebuilt (d : Dev) : Dev :=
  d.modStore fun s => { s with
    objs := s.objs.map fun x => (x.1, tornObj x.2), rebuildBy := none, clean := false
    blocks := s.blocks.map fun x =>
      (x.1, if x.2.state = bErasing then x.2 else if x.2.state = bRefresh ∨ x.2.state = bRelocate then
        { x.2 with state := bData } else x.2) }

theorem rebuildComplete_inBringUp {d : Dev} (hnvs : d.nvs = nsRebuilding) (hph : d.rd R.HUB_BOOT_PHASE ≠ 6) :
    rebuildComplete d =
      (d.rebuilt.wr R.NVS_STAT_STATE nsReady).syncStore.modStore fun s => { s with uncleanEvt := true } := by
  have hph' : (d.rebuilt.wr R.NVS_STAT_STATE nsReady).syncStore.rd R.HUB_BOOT_PHASE = d.rd R.HUB_BOOT_PHASE :=
    (Dev.rd_syncStore_other _ (by decide) (by decide) ..).trans (d.rebuilt.rd_wr_other (by decide) ..)
  unfold rebuildComplete
  rw [if_neg (not_not.2 hnvs)]
  exact if_neg (hph'.symm ▸ hph)

theorem Dev.nvs_syncStore_ready {d : Dev} (h : d.nvs = nsReady) :
    d.syncStore.nvs = nsReady ∨ d.syncStore.nvs = nsReadOnly := by
  rcases d.nvs_syncStore with hs | hs | hs
  · exact .inl (hs.trans h)
  · exact .inl hs
  · exact .inr hs

/-! ### The statement -/

/-- Settles O17: each event comes down to what it writes in a block, in an object, in the list of transfers or in that of
program units, which bringing the store's registers up to date leaves as it is. -/
theorem storeTransferEvents : Obligations.StoreTransferEvents := by
  unfold Obligations.StoreTransferEvents
  refine ⟨?unitRead, ?scan, ?program, ?erase, ?refresh, ?timeout, ?arrival, ?fill, ?absorb, ?checkpoint, ?rebuild⟩
  case unitRead =>
    intro s h u step t b a heavy j hjobs hb hstep hsrc hleft ho hobj ht
    exact Does.of_act_mute rfl (fun _ _ h => h) (unitReadComplete_last hjobs hb hstep hsrc hleft ho hobj ht)
  case scan =>
    intro s t b i step heavy hu hunit hst hdue hstep
    exact Does.of_act_mute rfl (fun _ _ h => h) (retentionScan_due hunit hst hdue hstep)
  case program =>
    intro s id p hp
    refine Does.of_act_mute rfl (fun _ _ h => h) ?_
    rw [programComplete_ok hp, Dev.syncStore_store]
    refine ⟨s.dev.prog_programEnds p id, List.all_eq_true.2 fun r hr => ?_⟩
    rw [Option.all_eq_true]
    intro o ho
    rw [Dev.obj?_congr (congrArg Store.objs (Dev.syncStore_store _))] at ho
    exact List.contains_iff_mem.2 (s.dev.unitNoted_programEnds id hr o ho)
  case erase =>
    intro s t b hst hkeys
    refine Does.of_act_mute rfl (fun _ _ h => h) ?_
    rw [nblock_eraseComplete hst hkeys]
    exact ⟨rfl, rfl, rfl⟩
  case refresh =>
    intro s t b uc hst hto
    obtain ⟨hold, hnew⟩ := nblock_blockRefreshComplete hst hto
    refine Does.of_act_mute rfl (fun _ _ h => h) ?_
    rw [hold]
    exact ⟨rfl, rfl, hnew⟩
  case timeout =>
    intro s t hused hjobs hprog
    exact Does.of_act_mute rfl (fun _ _ h => h) (targetTimeout_excludes hused hjobs hprog)
  case arrival =>
    intro s id n j hj hjobs hwrite hended hn hlen hmay ht
    refine Does.of_act_mute rfl (fun _ _ h => h) ?_
    rw [storeDataArrival_moves hj hjobs hwrite hended hn hlen hmay ht]
    rfl
  case fill =>
    intro s t hat hdue hjobs hmay hfit hsome hon
    exact Does.of_act_mute rfl (fun _ _ h => h) (fillToExpiry_issues hat hdue hjobs hmay hfit hsome hon)
  case absorb =>
    intro s pid st h d1 b htake hbind hok hpay hjobs
    refine Does.of_act_mute rfl (fun _ _ h => h) ?_
    rw [absorbResultReceived_writes htake hbind hok]
    exact Dev.startWrite_accepted hok (mt List.length_eq_zero_iff.1 hpay) hjobs
  case checkpoint =>
    intro s hmay hdirty hdue
    refine Does.of_act_mute rfl (fun _ _ h => h) ?_
    rw [mapCheckpoint, if_pos ⟨hmay, hdirty, hdue⟩]
    exact ⟨rfl, rfl⟩
  case rebuild =>
    intro s hnvs hph
    refine Does.of_act_mute rfl (fun _ _ h => h) ?_
    rw [rebuildComplete_inBringUp hnvs hph, Dev.nvs_modStore, Dev.modStore_store, Dev.syncStore_store]
    exact ⟨rfl, rfl, Dev.nvs_syncStore_ready (Dev.rd_wr_self ..)⟩

end Sys2Proof.Machine
end

section
/-! PROOF. Bring-up (spec/18, R496 to R506; spec/21, R571, R572; spec/14, R382): from COLD_RST_N to READY, and the test
record in service. -/

namespace Sys2Proof.Machine

/-! ### Phases (R501) -/

theorem Dev.bootPhase_toPhase (d : Dev) {ph : Nat} (h : ph < 16) : (d.toPhase ph).bootPhase = ph :=
  (Dev.rd_wr_self ..).trans (Nat.mod_eq_of_lt h)

theorem Dev.bootPhase_modBoot (d : Dev) (f : Boot → Boot) : (d.modBoot f).bootPhase = d.bootPhase := rfl

theorem Dev.nvs_modBoot (d : Dev) (f : Boot → Boot) : (d.modBoot f).nvs = d.nvs := rfl

theorem Dev.rd_toPhase_other (d : Dev) {g : Fld} (h : R.HUB_BOOT_PHASE.id ≠ g.id) (ph i k : Nat) :
    (d.toPhase ph).rd g i k = d.rd g i k := Dev.rd_wr_other _ h ..

theorem Dev.phaseAt_toPhase (d : Dev) (ph : Nat) : (d.toPhase ph).mgmt.boot.phaseAt = d.now := rfl

/-- `e` is `d` in some phase of bring-up. -/
def Dev.InPhase (d e : Dev) : Prop := ∃ c r t, e = { d with
  counters := c, regs := r, mgmt := { d.mgmt with boot := { d.mgmt.boot with phaseAt := t } } }

theorem Dev.InPhase.refl (d : Dev) : d.InPhase d := ⟨d.counters, d.regs, d.mgmt.boot.phaseAt, rfl⟩

theorem Dev.InPhase.wr {d e : Dev} {f : Fld} {v i k : Nat} (h : d.InPhase e) : d.InPhase (e.wr f v i k) := by
  obtain ⟨c, r, t, rfl⟩ := h
  exact ⟨c, _, t, rfl⟩

theorem Dev.InPhase.toPhase {d e : Dev} {ph : Nat} (h : d.InPhase e) : d.InPhase (e.toPhase ph) := by
  obtain ⟨c, r, t, rfl⟩ := h
  exact ⟨_, _, _, rfl⟩

theorem Dev.InPhase.ite {c : Prop} [Decidable c] {d a b : Dev} (ha : d.InPhase a) (hb : d.InPhase b) :
    d.InPhase (if c then a else b) := by
  split
  · exact ha
  · exact hb

theorem Dev.InPhase.checkTested {d e : Dev} (h : d.InPhase e) : d.InPhase e.checkTested := .ite h.toPhase h

/-! ### COLD_RST_N (R571, R572) -/

theorem bringupStart_held {d : Dev} (hheld : d.mgmt.boot.held = true)
    (hrails : (List.range numRails).all (fun r => d.mgmt.boot.rails.contains r) = true) :
    (bringupStart d).mgmt.boot = { d.mgmt.boot with held := false, phaseAt := d.now } ∧
      (bringupStart d).pdOn pdAon = true := by
  have hgo : ¬(d.mgmt.boot.held = false ∨
      ((List.range numRails).any fun r => !(d.mgmt.boot.rails.contains r)) = true) := by
    rintro (h | h)
    · exact absurd (hheld.symm.trans h) (by decide)
    · obtain ⟨r, hr, hx⟩ := List.any_eq_true.1 h
      rw [show d.mgmt.boot.rails.contains r = true from List.all_eq_true.1 hrails r hr] at hx
      cases hx
  unfold bringupStart
  rw [if_neg hgo]
  exact ⟨rfl, Dev.pdOn_setPd (d.modBoot _) pdAon true⟩

theorem Dev.rails_coldReset (d : Dev) : d.coldReset.mgmt.boot.rails = d.mgmt.boot.rails := by
  have hemit (e : Dev) {α : Type} (l : List α) (o : α → Out) : (e.each l fun d a => d.emit (o a)).mgmt = e.mgmt :=
    e.each_keeps Dev.mgmt l fun _ _ => rfl
  have hpins := hemit d (maskBits (d.rd R.PWR_LMOD_EN) 16) fun m => .pin (16 + m) 0
  have hmgmt := (hemit _ (d.net.lanes.filter fun l : Nat × Lane => l.2.txOn) fun l => .laneTx l.1 0).trans hpins
  have hrails := congrArg (fun m : Mgmt => m.boot.rails) hmgmt
  exact hrails

/-! ### FUSES (R496, R501) -/

/-- The fields that show security's state (R537, R540, R545). -/
def secFlds : List Fld :=
  [R.SEC_STAT_OWNER_SET, R.SEC_STAT_DEBUG_OPEN, R.SEC_STAT_SLOT, R.SEC_STAT_STAGING, R.SEC_STAT_FW_ARB,
    R.SEC_STAT_KEYS_ARB, R.SEC_FUSE_USED]

/-- The fields that fuses load. -/
def fuseFlds : List Fld :=
  [R.HUB_SHORTID_ID, R.HUB_NPROF_ID, R.SCH_TENANT_ISO, R.OE_LMAP_OVR, R.SEC_FUSE_PENDING] ++ secFlds

theorem Dev.WritesOnly.syncSec {d e : Dev} (h : d.WritesOnly fuseFlds e) : d.WritesOnly fuseFlds e.syncSec := by
  unfold Dev.syncSec
  iterate 7 refine .wr ?_ (by decide)
  exact h

theorem Dev.WritesOnly.takeSettings {d e : Dev} (h : d.WritesOnly fuseFlds e) :
    d.WritesOnly fuseFlds e.takeSettings := by
  unfold Dev.takeSettings
  refine .wr (.ite (.each (.ite ?_ (.wr ?_ (by decide))) fun hx => hx.wr (by decide)) (.each (.each (.ite ?_
    (.wr ?_ (by decide))) fun hx => hx.wr (by decide)) fun hx => .ite hx (hx.wr (by decide)))) (by decide)
  all_goals exact h

theorem Dev.loadFuses_writes (d : Dev) : d.WritesOnly fuseFlds d.loadFuses :=
  (Dev.WritesOnly.takeSettings (.wr (.refl d) (by decide))).syncSec

theorem fuseLoadComplete_inFuses {d : Dev} (hph : d.bootPhase = bpFuses) (hheld : d.mgmt.boot.held = false) :
    fuseLoadComplete d = d.hubOn.loadFuses.toPhase bpSecure := by
  have hgo : ¬(d.bootPhase ≠ bpFuses ∨ d.mgmt.boot.held = true) := by simp [hph, hheld]
  exact if_neg hgo

theorem Dev.pdOn_hubOn (d : Dev) : d.hubOn.pdOn pdHub = true :=
  (Dev.pdOn_congr (fun _ _ => Dev.rd_wr_other _ (by decide) ..) pdHub).trans
    (Dev.pdOn_setPd (d.freshDomain pdHub) pdHub true)

theorem Dev.pdOn_fuseLoad (d : Dev) : (d.hubOn.loadFuses.toPhase bpSecure).pdOn pdHub = true := by
  have hph : (d.hubOn.loadFuses.toPhase bpSecure).pdOn pdHub = d.hubOn.loadFuses.pdOn pdHub :=
    Dev.pdOn_congr (fun _ _ => Dev.rd_toPhase_other _ (by decide) ..) pdHub
  have hfuse : d.hubOn.loadFuses.pdOn pdHub = d.hubOn.pdOn pdHub :=
    Dev.pdOn_congr (d.hubOn.loadFuses_writes.rd _ (by decide)) pdHub
  exact hph.trans (hfuse.trans d.pdOn_hubOn)

/-! ### SECURE_BOOT (R537) -/

theorem Dev.startDomains_regs (d : Dev) : d.startDomains.regs = d.regs := rfl

theorem Dev.rd_startDomains (d : Dev) (f : Fld) (i k : Nat) : d.startDomains.rd f i k = d.rd f i k :=
  Dev.rd_congr d.startDomains_regs f i k

theorem Dev.startFirmware_runs {d : Dev} (i : Nat) (h : d.mgmt.hwLatch = false) :
    (d.startFirmware i).bootPhase = bpDomains ∧ (d.startFirmware i).rd R.THD_STAT_STATE = 2 ∧
      (d.startFirmware i).rd R.HUB_FWVER_VERSION = (d.fwSlot i).ver % 2 ^ 32 := by
  unfold Dev.startFirmware
  extract_lets f d1 d2 m d3 m' d4
  have hmgmt : d1.mgmt = d.mgmt :=
    (Dev.WritesOnly.syncSec (.refl (d.modSec fun s => { s with active := i, next := none }))).mgmt
  have hlatch : d3.mgmt.hwLatch = false := (congrArg Mgmt.hwLatch hmgmt).trans h
  have h4 : d4 = d3 := if_neg (by rw [hlatch]; decide)
  have hver : d3.rd R.HUB_FWVER_VERSION = f.ver % 2 ^ 32 :=
    Dev.rd_wr_self (d1.wr R.SEC_STAT_SVN f.svn) R.HUB_FWVER_VERSION ..
  rw [h4, Dev.bootPhase, Dev.rd_startDomains, Dev.rd_startDomains, Dev.rd_startDomains]
  clear_value d3
  refine ⟨Dev.bootPhase_toPhase _ (by decide), ?_, ?_⟩
  · rw [Dev.rd_toPhase_other _ (by decide)]
    exact d3.rd_wr_self ..
  · rw [Dev.rd_toPhase_other _ (by decide), d3.rd_wr_other (by decide)]
    exact hver

/-- SECURE_BOOT starts slot A where it is the one to boot and it verifies. -/
theorem secureBootComplete_slotA {d : Dev} {goodB : Bool} (hph : d.bootPhase = bpSecure)
    (hheld : d.mgmt.boot.held = false) (hres : d.mgmt.resets = []) (hnext : d.sec.next = none) (hact : d.sec.active = 0)
    (hok : (d.fwSlot 0).ok = true) (hsvn : d.sec.fwArb ≤ (d.fwSlot 0).svn) :
    secureBootComplete true goodB d = d.startFirmware 0 := by
  have hgo : ¬(d.bootPhase ≠ bpSecure ∨ d.mgmt.boot.held = true ∨ d.flushed = false) := by
    simp [hph, hheld, Dev.flushed, hres]
  have hdev : d.devReset = false := by simp [Dev.devReset, hres]
  unfold secureBootComplete
  rw [if_neg hgo, hdev]
  simp [hnext, hact, hok, hsvn]

/-! ### Discovery (R382, R406) -/

/-- The state in which discovery finds the store. -/
def Dev.foundState (d : Dev) (use : List TargetInfo) : Nat :=
  if use = [] ∨ d.mgmt.boot.nvsBad then nsAbsent else if d.store.formatted = false then nsUnformatted
  else if d.store.clean then nsReady else nsRebuilding

theorem Dev.foundState_lt (d : Dev) (use : List TargetInfo) : d.foundState use < 8 := by
  unfold Dev.foundState
  split_ifs <;> decide

/-- The state that discovery finds noted, with the time by which a rebuild ends. -/
def Dev.noteFound (d : Dev) (st : Nat) : Dev :=
  let d := d.wr R.NVS_STAT_STATE st
  if st = nsRebuilding then
    (d.set R.NVS_STAT_UNCLEAN).modStore fun s => { s with rebuildBy := some (d.now + 2000000000) }
  else d.clr R.NVS_STAT_UNCLEAN

theorem Dev.nvs_noteFound (d : Dev) {st : Nat} (h : st < 8) : (d.noteFound st).nvs = st := by
  have hst : (d.wr R.NVS_STAT_STATE st).nvs = st := (d.rd_wr_self ..).trans (Nat.mod_eq_of_lt h)
  unfold Dev.noteFound
  dsimp only
  split
  · exact (Dev.rd_set_other _ (by decide) ..).trans hst
  · exact (Dev.rd_clr_other _ (by decide) ..).trans hst

theorem Dev.bootPhase_noteFound (d : Dev) (st : Nat) : (d.noteFound st).bootPhase = d.bootPhase := by
  have hst : (d.wr R.NVS_STAT_STATE st).bootPhase = d.bootPhase := d.rd_wr_other (by decide) ..
  unfold Dev.noteFound
  dsimp only
  split
  · exact (Dev.rd_set_other _ (by decide) ..).trans hst
  · exact (Dev.rd_clr_other _ (by decide) ..).trans hst

/-- The targets that answered shown. -/
def Dev.showTargets (d : Dev) (ts : List TargetInfo) : Dev :=
  d.each (List.range 8) fun d c =>
    let here := ts.filter fun x => x.t / 8 = c
    let d := d.wr R.NVS_TGT_PRESENT (maskOf (here.map fun x => x.t % 8)) 0 c
    d.wr R.NVS_TGT_UNSUPPORTED
      (maskOf ((here.filter fun x => !((acceptTargets ts).contains x)).map fun x => x.t % 8)) 0 c

theorem Dev.showTargets_writes (d : Dev) (ts : List TargetInfo) :
    d.WritesOnly [R.NVS_TGT_PRESENT, R.NVS_TGT_UNSUPPORTED] (d.showTargets ts) :=
  .each (.refl d) fun h => .wr (.wr h (by decide)) (by decide)

/-- The store as discovery finds it, with the targets that it uses. -/
def Dev.found (d : Dev) (use : List TargetInfo) : Dev :=
  let d := d.modStore fun s => { s with
    targets := use.map fun x => (x.t, { used := true, raw := x.raw, blocks := x.blocks, rated := x.rated }) }
  let st := d.foundState use
  (d.noteFound st).modStore fun s => { s with clean := if st = nsReady then false else s.clean }

theorem Dev.nvs_found (d : Dev) (use : List TargetInfo) : (d.found use).nvs = d.foundState use :=
  Dev.nvs_noteFound _ (d.foundState_lt use)

theorem Dev.bootPhase_found (d : Dev) (use : List TargetInfo) : (d.found use).bootPhase = d.bootPhase :=
  Dev.bootPhase_noteFound ..

theorem Dev.rebuildBy_found {d : Dev} {use : List TargetInfo} (h : d.foundState use = nsRebuilding) :
    (d.found use).store.rebuildBy = some (d.now + 2000000000) := by
  have hnote (e : Dev) : (e.noteFound nsRebuilding).store.rebuildBy = some (e.now + 2000000000) := rfl
  rw [← h] at hnote
  exact hnote _

theorem Dev.storeDiscovered_found (d : Dev) (ts : List TargetInfo) :
    ∃ use, d.storeDiscovered ts = ((d.showTargets ts).found use).syncStore := ⟨_, rfl⟩

theorem Dev.bootPhase_storeDiscovered (d : Dev) (ts : List TargetInfo) :
    (d.storeDiscovered ts).bootPhase = d.bootPhase := by
  obtain ⟨use, hd⟩ := d.storeDiscovered_found ts
  rw [hd, Dev.bootPhase, Dev.rd_syncStore_other _ (by decide) (by decide)]
  exact (Dev.bootPhase_found ..).trans ((d.showTargets_writes ts).rd _ (by decide) 0 0)

/-- A store that is found to be rebuilding has 2 s. -/
theorem Dev.rebuildBy_storeDiscovered {d : Dev} {ts : List TargetInfo}
    (h : (d.storeDiscovered ts).nvs = nsRebuilding) :
    (d.storeDiscovered ts).store.rebuildBy = some (d.now + 2000000000) := by
  obtain ⟨use, hd⟩ := d.storeDiscovered_found ts
  rw [hd] at h ⊢
  have hfound : (d.showTargets ts).foundState use = nsRebuilding := by
    rcases ((d.showTargets ts).found use).nvs_syncStore with hs | hs | hs
    · rw [h, Dev.nvs_found] at hs
      exact hs.symm
    · exact absurd (h.symm.trans hs) (by decide)
    · exact absurd (h.symm.trans hs) (by decide)
  rw [Dev.syncStore_store, Dev.rebuildBy_found hfound, (d.showTargets_writes ts).now]

theorem nvsDiscoveryComplete_later {d : Dev} (ts : List TargetInfo) (hdisc : d.mgmt.boot.discover = true)
    (hon : d.pdOn pdNand = true) (hph : d.bootPhase ≠ bpDomains) :
    nvsDiscoveryComplete ts d = (d.storeDiscovered ts).modBoot fun x => { x with discover := false } := by
  have hgo : ¬(d.mgmt.boot.discover = false ∨ d.pdOn pdNand = false) := by simp [hdisc, hon]
  unfold nvsDiscoveryComplete
  rw [if_neg hgo]
  extract_lets d'
  have hphase : d'.bootPhase = d.bootPhase := (Dev.bootPhase_modBoot ..).trans (d.bootPhase_storeDiscovered ts)
  exact if_neg fun h => hph (hphase.symm.trans h.1)

/-! ### HBM and known-answer runs (R501, R503, R504) -/

/-- A stack's training noted. -/
def Dev.trained (d : Dev) (q : Nat) : Dev :=
  d.usedFree.modBoot fun x => { x with
    train := x.train.filter fun y => y ≠ q, training := setAt x.training q (d.free % 2 ^ 32)
    hbm := if d.fullStart then x.hbm ++ [q] else x.hbm }

theorem hbmTrainingComplete_inPhase {d : Dev} {q : Nat} (h : d.mgmt.boot.train.contains q = true) :
    (d.trained q).InPhase (hbmTrainingComplete q d) := by
  unfold hbmTrainingComplete
  rw [if_neg (by rw [h]; decide)]
  exact .checkTested (.ite (.toPhase (.refl _)) (.refl _))

/-- A stack's rows noted after its tests at a start that repairs none. -/
def Dev.rowsNoted (d : Dev) (q : Nat) (march ret dist : List Nat) : Dev :=
  let d := ((d.count 0x11 0x800 1 0 march.length).count 0x11 0x800 1 1 ret.length).count 0x11 0x800 1 2 dist.length
  let rows := ((d.stack q).remap ++ march ++ ret ++ dist).eraseDups
  let e := ({ d with hbm := d.hbm.put q [] }).modBoot fun x => { x with hbm := x.hbm.filter fun y => y ≠ q }
  ((e.setStack q { d.stack q with remap := rows }).wr R.HBM_SPARE_SOFT_USED rows.length q).recordNew

theorem hbmMemtestComplete_quick {d : Dev} {q : Nat} {march ret dist : List Nat} (rep : List Nat)
    (h : d.mgmt.boot.hbm.contains q = true) (hmode : d.rd R.HUB_BOOT_MODE = 2)
    (hrows : ((d.stack q).remap ++ march ++ ret ++ dist).eraseDups.length ≤ 1024) :
    (d.rowsNoted q march ret dist).InPhase (hbmMemtestComplete q march ret dist rep d) := by
  unfold hbmMemtestComplete
  rw [if_neg (by rw [h]; decide)]
  extract_lets d1 s rows d2 d3 hard rows' d4 d5 d6
  have hcold : d3.rd R.HUB_BOOT_MODE ≠ 1 := by
    rw [show d3.rd R.HUB_BOOT_MODE = 2 from hmode]
    decide
  have h5 : d5 = d.rowsNoted q march ret dist := by
    have hrows' : rows' = rows := if_neg hcold
    have h4 : d4 = d3 := if_neg hcold
    refine (if_neg (not_lt.2 hrows)).trans ?_
    rw [hrows', h4]
    rfl
  rw [← h5]
  exact .checkTested (.ite (.toPhase (.wr (.refl _))) (.refl _))

theorem Dev.rowsNoted_leaves (d : Dev) (q : Nat) (march ret dist : List Nat) :
    (d.rowsNoted q march ret dist).mgmt.boot.hbm = d.mgmt.boot.hbm.filter (fun y => y ≠ q) ∧
      (d.rowsNoted q march ret dist).stack q =
        { d.stack q with remap := ((d.stack q).remap ++ march ++ ret ++ dist).eraseDups } ∧
      (d.rowsNoted q march ret dist).hbm.get q [] = [] := by
  unfold Dev.rowsNoted
  dsimp only
  refine ⟨?_, ?_, ?_⟩
  · rw [Dev.recordNew_boot]
    rfl
  · rw [Dev.stack_recordNew, Dev.stack_wr, Dev.stack_setStack]
    rfl
  · generalize hx : Dev.wr _ _ _ _ _ = x
    obtain ⟨t, ht⟩ := x.recordNew_frame
    rw [ht, ← hx]
    exact Tab.get_put_self ..

theorem katComplete_inPhase {d : Dev} {blk i : Nat} (h : d.mgmt.boot.katReady blk i = true) :
    (d.modBoot fun x => { x with kat := x.kat.filter fun y => y ≠ (blk, i) }).InPhase (katComplete blk i true d) := by
  unfold katComplete
  rw [if_neg (by rw [h]; decide)]
  exact .checkTested (.refl _)

/-! ### The test record (R500, R502) -/

/-- The number of the next record taken. -/
def Dev.nextSeq (d : Dev) : Dev := d.modBoot fun x => { x with seq := (x.seq + 1) % 2 ^ 32 }

theorem Dev.writeRecords_frame (d : Dev) : ∃ s, d.writeRecords = { d.nextSeq with store := s } := by
  unfold Dev.writeRecords
  dsimp only
  split
  · exact ⟨d.store, rfl⟩
  · exact ⟨_, rfl⟩

/-- The record and the admission record written to one of their two copies. -/
def Dev.putRecord (d : Dev) (toA : Bool) : Dev :=
  let r := d.buildRec
  let k := some (r.seq, d.sec.known)
  d.modStore fun s => if toA then { s with recA := some r, admA := k } else { s with recB := some r, admB := k }

theorem Dev.writeRecords_puts {d : Dev} (h : d.nvs = nsReady) : ∃ toA, d.writeRecords = d.nextSeq.putRecord toA := by
  have hready : ¬d.nextSeq.nvs ≠ nsReady := not_not.2 h
  exact ⟨_, if_neg hready⟩

/-- A store in state READY takes the record that the always-on copies make. -/
theorem Dev.writeRecords_ready {d : Dev} (h : d.nvs = nsReady) :
    d.writeRecords.store.recA = some d.writeRecords.buildRec ∨ d.writeRecords.store.recB = some d.writeRecords.buildRec := by
  obtain ⟨toA, hput⟩ := Dev.writeRecords_puts h
  rw [hput]
  cases toA with
  | true => exact .inl rfl
  | false => exact .inr rfl

/-- What a cold start notes before it writes its record: 8 quick starts may follow. -/
def Dev.coldNoted (d : Dev) : Dev :=
  let d := d.modBoot fun x => { x with recDone := true, left := 8, slice := 0 }
  let d := (d.wr R.HUB_BOOTCFG_QS_LEFT 8).wr R.HUB_BOOTCFG_QS_SLICE 0
  { d with mgmt := { d.mgmt with recNew := none } }

theorem testRecordWritten_cold {d : Dev} (hph : d.bootPhase = bpRecord) (hrec : d.mgmt.boot.recDone = false)
    (hmode : d.rd R.HUB_BOOT_MODE = 1) : testRecordWritten d = d.coldNoted.writeRecords := by
  have hgo : ¬(d.bootPhase ≠ bpRecord ∨ d.mgmt.boot.recDone = true) := by simp [hph, hrec]
  unfold testRecordWritten
  rw [if_neg hgo]
  simp only [hmode, if_true]
  rfl

theorem Dev.rd_coldNoted (d : Dev) :
    d.coldNoted.rd R.HUB_BOOTCFG_QS_LEFT = 8 ∧ d.coldNoted.rd R.HUB_BOOTCFG_QS_SLICE = 0 :=
  ⟨(Dev.rd_wr_other (Dev.wr _ R.HUB_BOOTCFG_QS_LEFT 8) (by decide) ..).trans (Dev.rd_wr_self ..), Dev.rd_wr_self ..⟩

theorem testRecordSync_ready {d : Dev} (hnew : d.mgmt.recNew.isSome = true) (hnvs : d.nvs = nsReady) :
    testRecordSync d = ({ d with mgmt := { d.mgmt with recNew := none } } : Dev).writeRecords := by
  have hgo : ¬(d.mgmt.recNew.isNone = true ∨ d.nvs ≠ nsReady) := by
    rw [← Option.not_isSome, hnew]
    simp [hnvs]
  exact if_neg hgo

/-! ### READY (R506, R550) -/

/-- Where bring-up stands. -/
def Dev.bootMark (d : Dev) : Nat × Boot := (d.bootPhase, d.mgmt.boot)

theorem Dev.Sends.bootMark {d e : Dev} (h : d.Sends e) : e.bootMark = d.bootMark :=
  Prod.ext (h.rd _ (by decide) 0 0) h.boot

theorem Dev.bootMark_wr_other (d : Dev) {f : Fld} (h : f.id ≠ R.HUB_BOOT_PHASE.id) (v i k : Nat) :
    (d.wr f v i k).bootMark = d.bootMark := Prod.ext (d.rd_wr_other h ..) rfl

@[simp] theorem Dev.bootMark_count (d : Dev) (b i g s n : Nat) : (d.count b i g s n).bootMark = d.bootMark := rfl
@[simp] theorem Dev.bootMark_modLink (d : Dev) (p : Nat) (f : Link → Link) : (d.modLink p f).bootMark = d.bootMark := rfl
@[simp] theorem Dev.bootMark_setPortRoute (d : Dev) (p : Nat) (x : PortRoute) :
    (d.setPortRoute p x).bootMark = d.bootMark := rfl

@[simp] theorem Dev.bootMark_syncLdown (d : Dev) (p : Nat) (v : Bool) : (d.syncLdown p v).bootMark = d.bootMark :=
  d.each_keeps Dev.bootMark _ fun e _ => e.bootMark_wr_other (by decide) ..

@[simp] theorem Dev.bootMark_originate (d : Dev) (r : Bool) (ids : List Nat) :
    (d.originate r ids).bootMark = d.bootMark := by
  unfold Dev.originate
  split
  · rfl
  · exact Dev.each_keeps Dev.bootMark _ _ fun e _ => (Dev.Sends.refl e).sendOut.count.bootMark

@[simp] theorem Dev.bootMark_syncExcl (d : Dev) (p : Nat) : (d.syncExcl p).bootMark = d.bootMark := by
  unfold Dev.syncExcl
  simp [apply_ite Dev.bootMark]

@[simp] theorem Dev.bootMark_recordNew (d : Dev) : d.recordNew.bootMark = d.bootMark :=
  Prod.ext (d.rd_recordNew ..) d.recordNew_boot

/-- Admitting a link is a matter of that link and its routes (R550). -/
theorem Dev.bootMark_admitPort (d : Dev) (p : Nat) : (d.admitPort p).bootMark = d.bootMark := by
  have hset : (d.wakingAll p fun d => d.set R.LNK_STAT_ADMITTED p).bootMark = d.bootMark :=
    (Dev.Sends.wakingAll d p _).bootMark.trans (d.bootMark_wr_other (by decide) ..)
  unfold Dev.admitPort
  dsimp only
  split
  · rfl
  · refine (Dev.bootMark_wr_other _ (by decide) ..).trans ?_
    rw [Dev.bootMark_syncExcl]
    exact ((Dev.Sends.refl _).each fun h => h.returnCredit).bootMark.trans ((Dev.bootMark_recordNew _).trans hset)

theorem Dev.bootMark_tryAdmit (d : Dev) (p : Nat) : (d.tryAdmit p).bootMark = d.bootMark := by
  unfold Dev.tryAdmit
  dsimp only
  split
  · rfl
  · split
    · exact d.bootMark_admitPort p
    · exact (Dev.Sends.refl d).sendEvent.bootMark

theorem bootMark_deviceReady {d : Dev} (hph : d.bootPhase = bpRecord) (hrec : d.mgmt.boot.recDone = true)
    (hunclean : d.store.uncleanEvt = false) (hres : d.mgmt.resets = []) :
    (deviceReady d).bootMark = ((d.toPhase bpReady).modBoot fun x => { x with fails := 0 }).bootMark := by
  have hu : ((d.toPhase bpReady).modBoot fun x => { x with fails := 0 }).store.uncleanEvt = false := hunclean
  have hr : ((d.toPhase bpReady).modBoot fun x => { x with fails := 0 }).mgmt.resets = [] := hres
  unfold deviceReady
  simp only [hph, hrec, decide_true, Bool.and_self, Bool.true_or, Bool.true_eq_false, Bool.false_eq_true, if_false, hu, hr,
    List.find?_nil]
  exact Dev.each_keeps Dev.bootMark _ _ Dev.bootMark_tryAdmit

/-! ### The statement -/

/-- Settles O26: each event comes down to what it notes of bring-up, which the phase that follows, the fuses' fields, the
domains to be switched on and the links admitted leave as it is. -/
theorem bringUpEvents : Obligations.BringUpEvents := by
  unfold Obligations.BringUpEvents
  refine ⟨?start, ?cold, ?fuses, ?secure, ?discovery, ?training, ?memtest, ?kat, ?written, ?ready, ?sync⟩
  case start =>
    intro s hheld hrails
    obtain ⟨hboot, hon⟩ := bringupStart_held hheld hrails
    refine Does.of_act_mute rfl (fun _ _ h => h) ?_
    rw [hboot]
    exact ⟨rfl, rfl, hon⟩
  case cold =>
    intro s hidle
    refine Does.of_act_mute rfl (fun _ _ h => h) ?_
    simp only [coldResetAsserted, hidle]
    exact ⟨rfl, rfl, rfl, rfl, rfl, rfl, rfl, rfl, rfl, s.dev.rails_coldReset⟩
  case fuses =>
    intro s hph hheld
    refine Does.of_act_mute rfl (fun _ _ h => h) ?_
    rw [fuseLoadComplete_inFuses hph hheld]
    refine ⟨Dev.bootPhase_toPhase _ (by decide), ?_, s.dev.pdOn_fuseLoad⟩
    rw [Dev.phaseAt_toPhase, (Dev.loadFuses_writes _).now]
    rfl
  case secure =>
    intro s goodB hph hheld hres hnext hact hok hsvn hlatch
    refine Does.of_act_mute rfl (fun _ _ h => h) ?_
    rw [secureBootComplete_slotA hph hheld hres hnext hact hok hsvn]
    exact Dev.startFirmware_runs 0 hlatch
  case discovery =>
    intro s ts hdisc hon hph
    refine Does.of_act_mute rfl (fun _ _ h => h) ?_
    rw [nvsDiscoveryComplete_later ts hdisc hon hph]
    refine ⟨rfl, fun h => ?_⟩
    rw [Dev.nvs_modBoot] at h
    rw [Dev.modBoot_store, Dev.rebuildBy_storeDiscovered h]
  case training =>
    intro s q h
    obtain ⟨c, r, t, heq⟩ := hbmTrainingComplete_inPhase h
    refine Does.of_act_mute rfl (fun _ _ h => h) ?_
    rw [heq]
    exact ⟨rfl, rfl⟩
  case memtest =>
    intro s q march ret dist rep h hmode hrows
    obtain ⟨hhbm, hstack, hmem⟩ := s.dev.rowsNoted_leaves q march ret dist
    obtain ⟨c, r, t, heq⟩ := hbmMemtestComplete_quick rep h hmode hrows
    refine Does.of_act_mute rfl (fun _ _ h => h) ?_
    rw [heq]
    exact ⟨hhbm, congrArg HbmSt.remap hstack, hmem⟩
  case kat =>
    intro s blk i h
    obtain ⟨c, r, t, heq⟩ := katComplete_inPhase h
    refine Does.of_act_mute rfl (fun _ _ h => h) ?_
    rw [heq]
    rfl
  case written =>
    intro s hph hrec hmode
    obtain ⟨x, heq⟩ := s.dev.coldNoted.writeRecords_frame
    obtain ⟨hleft, hslice⟩ := s.dev.rd_coldNoted
    refine Does.of_act_mute rfl (fun _ _ h => h) ?_
    rw [testRecordWritten_cold hph hrec hmode, heq]
    exact ⟨rfl, hleft, hslice, rfl⟩
  case ready =>
    intro s hph hrec hunclean hres
    have hmark := bootMark_deviceReady hph hrec hunclean hres
    refine Does.of_act_mute rfl (fun _ _ h => h) ⟨?_, ?_⟩
    · exact (congrArg Prod.fst hmark).trans (Dev.bootPhase_toPhase _ (by decide))
    · exact congrArg (fun m : Nat × Boot => m.2.fails) hmark
  case sync =>
    intro s hnew hnvs
    obtain ⟨x, heq⟩ := ({ s.dev with mgmt := { s.dev.mgmt with recNew := none } } : Dev).writeRecords_frame
    refine Does.of_act_mute rfl (fun _ _ h => h) ?_
    rw [testRecordSync_ready hnew hnvs]
    refine ⟨?_, ?_, Dev.writeRecords_ready hnvs⟩
    · rw [heq]
      rfl
    · rw [heq]
      rfl

end Sys2Proof.Machine
end

section
/-! PROOF. What every step keeps of the queue, and the state after reset (spec/15, R410; spec/17, R501; spec/21,
R581). -/

namespace Sys2Proof.Machine

/-- Every command's meaning is an effect on the device: no arm of the dispatch is anything but an `act`. -/
theorem exec_eq_act (c : Instr) (s : State) : ∃ f, exec c s = act f s := by
  cases c <;> exact ⟨_, rfl⟩

theorem exec_next (c : Instr) (s : State) : ∃ t, exec c s = .next t ∧ t.pending = s.pending := by
  obtain ⟨f, hf⟩ := exec_eq_act c s
  exact ⟨_, hf, rfl⟩

theorem step_nil (d : Dev) : step ⟨d, []⟩ = .next (idle ⟨d, []⟩) := rfl

theorem step_cons (c : Instr) (d : Dev) (rest : List Instr) : step ⟨d, c :: rest⟩ = exec c ⟨d, rest⟩ := rfl

theorem step_pending {s s' : State} (h : step s = .next s') : s'.pending = s.pending.tail := by
  obtain ⟨d, pending⟩ := s
  cases pending with
  | nil =>
    rw [step_nil] at h
    exact Host.Outcome.next.inj h ▸ rfl
  | cons c rest =>
    obtain ⟨t, ht, hq⟩ := exec_next c ⟨d, rest⟩
    rw [step_cons, ht] at h
    exact Host.Outcome.next.inj h ▸ hq

theorem all_wfInstr_of_tail {s s' : State} (h : s.pending.all wfInstr = true) (hq : s'.pending = s.pending.tail) :
    s'.pending.all wfInstr = true := by
  rw [hq, List.all_eq_true]
  exact fun c hc => List.all_eq_true.1 h c (List.mem_of_mem_tail hc)

/-- Settles O48: a step takes the front command and no meaning touches the queue, so what waits is the tail of what
waited. -/
theorem waitingCommandsStayWellFormed : Obligations.WaitingCommandsStayWellFormed := by
  unfold Obligations.WaitingCommandsStayWellFormed
  intro s s' hwait hstep
  have hq := step_pending hstep
  exact ⟨all_wfInstr_of_tail hwait hq, hq⟩

/-- Settles O47: every command is an effect on the device. -/
theorem everyCommandCompletes : Obligations.EveryCommandCompletes := exec_next

/-- Settles O45: a step is `exec` of the front command. -/
theorem stepRunsTheFrontCommand : Obligations.StepRunsTheFrontCommand := step_cons

/-- Settles O46: the model's choice for an empty queue. -/
theorem idleStepPassesTime : Obligations.IdleStepPassesTime := step_nil

/-- Settles O50: the device after reset lists nothing. -/
theorem resetStateIsCanonical : Obligations.ResetStateIsCanonical := by
  unfold Obligations.ResetStateIsCanonical
  exact ⟨Canonical.of_nil rfl rfl, rfl, rfl, rfl, rfl, rfl⟩

end Sys2Proof.Machine
end

section
/-! PROOF. What answering commands leave unchanged (spec/15, R410, R414; spec/19, R518 to R529; spec/20, R541). -/

namespace Sys2Proof.Machine

/-- The parts of a device that `SameBlocks` speaks of, the rest cleared. -/
def Dev.blocks (d : Dev) : Dev :=
  { now := d.now, sram := d.sram, hbm := d.hbm, ecc := d.ecc, hstacks := d.hstacks, tiles := d.tiles, models := d.models
    red := d.red, store := d.store, time := d.time }

theorem sameBlocks_of_blocks {d e : Dev} (h : e.blocks = d.blocks) : SameBlocks d e :=
  ⟨(congrArg Dev.now h :), (congrArg Dev.sram h :), (congrArg Dev.hbm h :), (congrArg Dev.ecc h :),
    (congrArg Dev.hstacks h :), (congrArg Dev.tiles h :), (congrArg Dev.models h :), (congrArg Dev.red h :),
    (congrArg Dev.store h :), (congrArg Dev.time h :)⟩

theorem Does.sameBlocks {c : Instr} {f : Dev → Dev} {s : State} (hc : exec c s = act f s)
    (h : (f s.dev).blocks = s.dev.blocks) : Does c s fun d => SameBlocks s.dev d :=
  Does.of_act_mute hc (fun _ _ h => h) (sameBlocks_of_blocks h)

theorem Dev.Sends.blocks {d e : Dev} (h : d.Sends e) : e.blocks = d.blocks :=
  (congrArg Dev.blocks h.still :)

@[simp] theorem Dev.blocks_wr (d : Dev) (f : Fld) (v i k : Nat) : (d.wr f v i k).blocks = d.blocks := rfl
@[simp] theorem Dev.blocks_setChan (d : Dev) (ch : Nat) (c : Chan) : (d.setChan ch c).blocks = d.blocks := rfl
@[simp] theorem Dev.blocks_modJob (d : Dev) (a : Nat) (f : JEntry → JEntry) : (d.modJob a f).blocks = d.blocks := rfl
@[simp] theorem Dev.blocks_modSec (d : Dev) (f : Sec → Sec) : (d.modSec f).blocks = d.blocks := rfl
@[simp] theorem Dev.blocks_lockTable (d : Dev) : d.lockTable.blocks = d.blocks := rfl
@[simp] theorem Dev.blocks_syncSec (d : Dev) : d.syncSec.blocks = d.blocks := rfl
@[simp] theorem Dev.blocks_tel (d : Dev) (t : Tel) : ({ d with tel := t } : Dev).blocks = d.blocks := rfl
@[simp] theorem Dev.blocks_setBunt (d : Dev) (p : Nat) (r : BuntRing) : (d.setBunt p r).blocks = d.blocks := rfl

@[simp] theorem Dev.blocks_complete (d : Dev) (a st detail : Nat) (res : List Nat) :
    (d.complete a st res detail).blocks = d.blocks := (Dev.Sends.refl d).complete.blocks

@[simp] theorem Dev.blocks_syncChan (d : Dev) (ch : Nat) : (d.syncChan ch).blocks = d.blocks :=
  (Dev.Sends.refl d).syncChan.blocks

@[simp] theorem Dev.blocks_buntTrigger (d : Dev) (p : Nat) (b : Bool) : (d.buntTrigger p b).blocks = d.blocks := by
  unfold Dev.buntTrigger
  split
  · rfl
  · split <;> rfl

@[simp] theorem Dev.blocks_bindChan (d : Dev) (ch a b : Nat) : (d.bindChan ch a b).blocks = d.blocks :=
  Dev.blocks_syncChan ..

/-! ### The frames that commands run in -/

theorem Dev.blocks_cmd {d : Dev} {a op : Nat} {f : JEntry → Dev → Dev} (hf : ∀ j e, (f j e).blocks = e.blocks) :
    (d.cmd a op f).blocks = d.blocks := by
  unfold Dev.cmd
  split
  · split
    · exact hf ..
    · rfl
  · rfl

theorem Dev.blocks_telCmd {d : Dev} {a roles : Nat} {ok : Nat → Bool} {f : JEntry → Dev → Dev}
    (hf : ∀ j, (f j d).blocks = d.blocks) : (d.telCmd a ok roles f).blocks = d.blocks := by
  unfold Dev.telCmd
  split
  · rfl
  · split
    · rfl
    · split
      · exact Dev.blocks_cmd fun _ _ => Dev.blocks_complete ..
      · exact hf _

theorem Dev.blocks_buntCmd {d : Dev} {a : Nat} {ok : Nat → Bool} {f : JEntry → Nat → Dev → Dev}
    (hf : ∀ j p e, (f j p e).blocks = e.blocks) : (d.buntCmd a ok f).blocks = d.blocks := by
  unfold Dev.buntCmd
  split
  · rfl
  · split
    · exact Dev.blocks_cmd fun _ _ => hf ..
    · rfl

theorem Dev.blocks_onRing {d : Dev} {a p : Nat} {f : BuntRing → Dev → Dev} (hf : ∀ r, (f r d).blocks = d.blocks) :
    (d.onRing a p f).blocks = d.blocks := by
  unfold Dev.onRing
  split
  · exact Dev.blocks_complete ..
  · exact hf _

/-! ### The commands -/

theorem blocks_nop (a : Nat) (d : Dev) : (nop a d).blocks = d.blocks := Dev.blocks_cmd fun _ _ => Dev.blocks_complete ..

theorem blocks_devInfo (a : Nat) (d : Dev) : (devInfo a d).blocks = d.blocks :=
  Dev.blocks_cmd fun _ _ => Dev.blocks_complete ..

theorem blocks_cmdCaps (a : Nat) (d : Dev) : (cmdCaps a d).blocks = d.blocks :=
  Dev.blocks_cmd fun _ _ => Dev.blocks_complete ..

theorem blocks_chanLock (a : Nat) (d : Dev) : (chanLock a d).blocks = d.blocks :=
  Dev.blocks_cmd fun _ _ => Dev.blocks_complete ..

theorem blocks_chanBind (a : Nat) (d : Dev) : (chanBind a d).blocks = d.blocks :=
  Dev.blocks_cmd fun _ _ => by simp [apply_ite Dev.blocks]

theorem blocks_arbAdvance (a : Nat) (d : Dev) : (arbAdvance a d).blocks = d.blocks :=
  Dev.blocks_cmd fun _ _ => by simp [apply_ite Dev.blocks]

theorem blocks_ownerAuthChallenge (a : Nat) (d : Dev) : (ownerAuthChallenge a d).blocks = d.blocks := by
  unfold ownerAuthChallenge
  split
  · rfl
  · split
    · rfl
    · exact Dev.blocks_cmd fun _ _ => Dev.blocks_complete ..

theorem blocks_tagSet (a : Nat) (d : Dev) : (tagSet a d).blocks = d.blocks :=
  Dev.blocks_telCmd fun _ => Dev.blocks_cmd fun _ _ => Dev.blocks_complete ..

theorem blocks_sampleSet (a : Nat) (d : Dev) : (sampleSet a d).blocks = d.blocks :=
  Dev.blocks_telCmd fun _ => Dev.blocks_cmd fun _ _ => by simp [apply_ite Dev.blocks]

theorem blocks_buntingSet (a : Nat) (d : Dev) : (buntingSet a d).blocks = d.blocks :=
  Dev.blocks_buntCmd fun _ _ _ => by simp [apply_ite Dev.blocks]

theorem blocks_buntingArm (a : Nat) (d : Dev) : (buntingArm a d).blocks = d.blocks :=
  Dev.blocks_buntCmd fun _ _ _ => Dev.blocks_onRing fun _ => Dev.blocks_complete ..

theorem blocks_buntingFreeze (a : Nat) (d : Dev) : (buntingFreeze a d).blocks = d.blocks :=
  Dev.blocks_buntCmd fun _ _ _ => Dev.blocks_onRing fun _ => by simp

theorem blocks_buntingFree (a : Nat) (d : Dev) : (buntingFree a d).blocks = d.blocks :=
  Dev.blocks_buntCmd fun _ _ _ => Dev.blocks_complete ..

theorem blocks_mirrorSet (a : Nat) (d : Dev) : (mirrorSet a d).blocks = d.blocks :=
  Dev.blocks_cmd fun _ _ => by simp [apply_ite Dev.blocks]

theorem blocks_fuseWrite (a : Nat) (d : Dev) : (fuseWrite a d).blocks = d.blocks := by
  unfold fuseWrite
  split
  · rfl
  · split
    · exact Dev.blocks_cmd fun _ _ => Dev.blocks_complete ..
    · rfl
    · exact Dev.blocks_cmd fun _ _ => by simp [apply_ite Dev.blocks]

/-- Settles O54: each command is a chain of updates to the mailboxes, the telemetry, the registers and the secure state,
and a completion only sends. -/
theorem commandFrames : Obligations.CommandFrames := by
  unfold Obligations.CommandFrames
  exact ⟨fun _ _ => Does.sameBlocks rfl (blocks_nop ..),
    fun _ _ => Does.sameBlocks rfl (blocks_devInfo ..),
    fun _ _ => Does.sameBlocks rfl (blocks_cmdCaps ..),
    fun _ _ => Does.sameBlocks rfl (blocks_chanLock ..),
    fun _ _ => Does.sameBlocks rfl (blocks_chanBind ..),
    fun _ _ => Does.sameBlocks rfl (blocks_arbAdvance ..),
    fun _ _ => Does.sameBlocks rfl (blocks_ownerAuthChallenge ..),
    fun _ _ => Does.sameBlocks rfl (blocks_tagSet ..),
    fun _ _ => Does.sameBlocks rfl (blocks_sampleSet ..),
    fun _ _ => Does.sameBlocks rfl (blocks_buntingSet ..),
    fun _ _ => Does.sameBlocks rfl (blocks_buntingArm ..),
    fun _ _ => Does.sameBlocks rfl (blocks_buntingFreeze ..),
    fun _ _ => Does.sameBlocks rfl (blocks_buntingFree ..),
    fun _ _ => Does.sameBlocks rfl (blocks_mirrorSet ..),
    fun _ _ => Does.sameBlocks rfl (blocks_fuseWrite ..)⟩

end Sys2Proof.Machine
end

section
/-! PROOF. Thidan's own commands (spec/15, R420, R435 to R441): NOP, DEV_INFO, CMD_CAPS, CHAN_BIND, CHAN_LOCK and
CMD_CANCEL. -/

namespace Sys2Proof.Machine

/-! ### Commands that are answered, with what their completion leaves -/

theorem Dev.Sends.platform {d e : Dev} (h : d.Sends e) (b : Dev) : d.Sends (b.platform e) := by
  obtain ⟨o, ho⟩ := b.platform_frame e
  exact ho ▸ h.same rfl rfl

theorem Dev.Sends.rdBit {d e : Dev} (h : d.Sends e) {f : Fld} (hf : Unsent f) (n i k : Nat) :
    e.rdBit f n i k = d.rdBit f n i k := congrArg (bitOf · n) (h.rd f hf i k)

theorem Dev.cmd_of_begun {d : Dev} {aseq op : Nat} {j : JEntry} (hb : Begun d aseq op j) (f : JEntry → Dev → Dev) :
    d.cmd aseq op f = f j (d.began aseq) := by
  obtain ⟨hj, hph, hop, -, -⟩ := hb
  exact Dev.cmd_begun f hj hph hop

theorem Dev.job?_began {d : Dev} {aseq op : Nat} {j : JEntry} (hb : Begun d aseq op j) :
    (d.began aseq).job? aseq = some { j with phase := .running } := Dev.job?_modJob hb.1 fun _ => rfl

section
variable {c : Instr} {f : Dev → Dev} {s : State} {P : Dev → Prop} {aseq op st detail : Nat} {j : JEntry} {e : Dev}
  {res : List Nat}

/-- A command that has begun and comes down to a completion is answered, on the device that its completion leaves. -/
theorem Does.completed (hc : exec c s = act f s) (hb : Begun s.dev aseq op j)
    (hf : f s.dev = e.complete aseq st res detail) (hjob : e.job? aseq = (s.dev.began aseq).job? aseq)
    (hP : P (s.dev.platform (e.complete aseq st res detail))) : Does c s fun d => Answered d j st res detail ∧ P d := by
  have hrun := hjob.trans (Dev.job?_began hb)
  obtain ⟨-, -, -, ho, hl⟩ := hb
  refine Does.of_act hc ?_
  rw [hf]
  exact ⟨Dev.answered_platform _ (Dev.complete_pcie (j := { j with phase := .running }) hrun ho hl st res detail), hP⟩

/-- A completion only sends. -/
theorem Does.completes (hc : exec c s = act f s) (hb : Begun s.dev aseq op j)
    (hf : f s.dev = e.complete aseq st res detail) (hjob : e.job? aseq = (s.dev.began aseq).job? aseq)
    (hP : ∀ d, e.Sends d → P d) : Does c s fun d => Answered d j st res detail ∧ P d :=
  Does.completed hc hb hf hjob (hP _ ((Dev.Sends.refl e).complete.platform _))

theorem Does.answers (hc : exec c s = act f s) (hb : Begun s.dev aseq op j)
    (hf : f s.dev = e.complete aseq st res detail) (hjob : e.job? aseq = (s.dev.began aseq).job? aseq) :
    Does c s fun d => Answered d j st res detail :=
  Does.imp (Does.completes (P := fun _ => True) hc hb hf hjob fun _ _ => trivial) fun _ h => h.1

end

/-! ### The channel table (R420) -/

theorem Dev.rd_bindChan (d : Dev) (ch a b : Nat) :
    (d.bindChan ch a b).rd R.MBX_CTAB_A_ENTRY_A 0 ch = a % 2 ^ 32 ∧
      (d.bindChan ch a b).rd R.MBX_CTAB_B_ENTRY_B 0 ch = b % 2 ^ 32 :=
  have hsync {e : Dev} := (Dev.Sends.refl e).syncChan (ch := ch)
  ⟨(hsync.rd _ (by decide) 0 ch).trans ((Dev.rd_wr_other _ (by decide) ..).trans (Dev.rd_wr_self ..)),
    (hsync.rd _ (by decide) 0 ch).trans (Dev.rd_wr_self ..)⟩

theorem Dev.job?_bindChan (d : Dev) (ch a b x : Nat) : (d.bindChan ch a b).job? x = d.job? x :=
  Dev.job?_of_journal (congrArg Mgmt.journal (Dev.syncChan_mgmt ..)) x

theorem chanBind_binds {d : Dev} {aseq : Nat} {j : JEntry} (hb : Begun d aseq 0x0004 j)
    (hlock : d.on R.MBX_CTL_LOCK = false) (hok : entryOk (j.w 5) (j.w 6) = true) :
    chanBind aseq d = ((d.began aseq).bindChan (j.w 4 % 128) (j.w 5) (j.w 6)).complete aseq St.ok := by
  have hlock' : (d.began aseq).on R.MBX_CTL_LOCK = false := hlock
  unfold chanBind
  rw [Dev.cmd_of_begun hb]
  simp only [hlock', hok, Bool.false_eq_true, Bool.true_eq_false, if_false]

theorem channelRebindEffective_rebinds {d : Dev} {ch : Nat} (hre : (d.chan ch).rebind.isSome = true)
    (hnone : (d.mgmt.journal.any fun j => j.chan = ch) = false) :
    channelRebindEffective ch d = (d.setChan ch { d.chan ch with rebind := none }).syncChan ch := by
  have hnot : ¬((d.chan ch).rebind.isNone = true ∨ (d.mgmt.journal.any fun j => j.chan = ch) = true) := by
    rw [← Option.not_isSome, hre, hnone]
    simp
  unfold channelRebindEffective
  exact if_neg hnot

theorem Dev.bindA_of_none {d : Dev} {ch : Nat} (h : (d.chan ch).rebind = none) :
    d.bindA ch = d.rd R.MBX_CTAB_A_ENTRY_A 0 ch := by
  unfold Dev.bindA
  rw [h]

theorem Dev.chan_syncChan (d : Dev) (a ch : Nat) : (d.syncChan a).chan ch = d.chan ch := by
  unfold Dev.chan
  rw [Dev.syncChan_mgmt]

theorem Dev.lockTable_locks (d : Dev) :
    d.lockTable.rd R.MBX_CTL_LOCK = 1 ∧ d.lockTable.rdBit R.HUB_LOCK_LOCKED 5 = true :=
  ⟨(Dev.rd_wr_other _ (by decide) ..).trans (Dev.rd_set_self _ rfl ..), Dev.rdBit_wrBit_self _ (by decide) ..⟩

/-! ### CMD_CANCEL (R438) -/

/-- A command that is answered has left the journal, whatever its origin. -/
theorem Dev.job?_complete (d : Dev) (a st detail : Nat) (res : List Nat) :
    (d.complete a st res detail).job? a = none := by
  unfold Dev.complete
  split
  case h_1 h => exact h
  case h_2 =>
    refine Eq.trans ?_ (find?_filter_ne d.mgmt.journal a)
    refine congrArg (List.find? fun x : JEntry => decide (x.aseq = a)) ?_
    dsimp only
    split
    · rw [Dev.syncChan_mgmt, Dev.cmdLost_journal]
      rfl
    · rw [Dev.syncChan_mgmt, Dev.deliver_journal]
      rfl

/-- An entry that is looked for by its phase is found all the same after another entry was marked as running. -/
theorem find?_began {d : Dev} {p : JEntry → Bool} {x : JEntry} {a : Nat} (h : d.mgmt.journal.find? p = some x)
    (ha : x.aseq ≠ a) (hrun : ∀ y : JEntry, p { y with phase := .running } = false) :
    (d.began a).mgmt.journal.find? p = some x := by
  refine (List.find?_map ..).trans ?_
  obtain ⟨hp, l, r, hl, hbefore⟩ := List.find?_eq_some_iff_append.1 h
  rw [List.find?_eq_some_iff_append.2 ⟨?_, l, r, hl, fun y hy => ?_⟩]
  · simp [ha]
  · simpa [ha] using hp
  · by_cases hya : y.aseq = a
    · simpa [hya] using hrun y
    · simpa [hya] using hbefore y hy

theorem cmdCancel_taken {d : Dev} {aseq : Nat} {j x : JEntry} (hb : Begun d aseq 0x0006 j)
    (hfind : (d.mgmt.journal.find? fun y => y.chan = j.chan && y.phase = .taken && y.w 1 = j.w 4) = some x)
    (hne : x.aseq ≠ aseq) :
    cmdCancel aseq d = ((d.began aseq).complete x.aseq St.cmdCancelled).complete aseq St.ok [1] := by
  have hfind' := find?_began hfind hne fun y => by simp
  unfold cmdCancel
  rw [Dev.cmd_of_begun hb]
  simp only [hfind']

/-! ### The statement -/

/-- Settles O21: each command comes down to a completion on the device that its effect leaves, and a completion leaves the
channel table, the lock and the other entries of the journal alone. -/
theorem thidanOwnCommands : Obligations.ThidanOwnCommands := by
  unfold Obligations.ThidanOwnCommands
  refine ⟨?nop, ?info, ?caps, ?bind, ?rebind, ?lock, ?cancel⟩
  case nop =>
    intro s aseq j hb
    exact Does.answers rfl hb (Dev.cmd_of_begun hb _) rfl
  case info =>
    intro s aseq j hb
    exact Does.answers rfl hb (Dev.cmd_of_begun hb _) rfl
  case caps =>
    intro s aseq j hb
    exact Does.answers rfl hb (Dev.cmd_of_begun hb _) rfl
  case bind =>
    intro s aseq j hb hlock hok
    obtain ⟨ha, hb'⟩ := (s.dev.began aseq).rd_bindChan (j.w 4 % 128) (j.w 5) (j.w 6)
    refine Does.completes rfl hb (chanBind_binds hb hlock hok) (Dev.job?_bindChan ..) fun d hd => ⟨?_, ?_⟩
    · exact (hd.rd _ (by decide) ..).trans ha
    · exact (hd.rd _ (by decide) ..).trans hb'
  case rebind =>
    intro s ch hre hnone
    have hnow : ((channelRebindEffective ch s.dev).chan ch).rebind = none := by
      rw [channelRebindEffective_rebinds hre hnone, Dev.chan_syncChan, Dev.chan_setChan]
    refine Does.of_act_mute rfl (fun _ _ h => h) ⟨hnow, ?_⟩
    rw [Dev.bindA_of_none hnow, channelRebindEffective_rebinds hre hnone]
    exact (Dev.Sends.refl _).syncChan.rd _ (by decide) ..
  case lock =>
    intro s aseq j hb
    obtain ⟨hctl, hhub⟩ := (s.dev.began aseq).lockTable_locks
    refine Does.completes rfl hb (Dev.cmd_of_begun hb _) rfl fun d hd => ⟨?_, ?_⟩
    · exact (hd.rd _ (by decide) ..).trans hctl
    · exact (hd.rdBit (by decide) ..).trans hhub
  case cancel =>
    intro s aseq j x hb hfind hne _
    have hgone : (((s.dev.began aseq).complete x.aseq St.cmdCancelled).complete aseq St.ok [1]).job? x.aseq = none :=
      (Dev.job?_complete_other _ hne.symm ..).trans (Dev.job?_complete ..)
    exact Does.completed rfl hb (cmdCancel_taken hb hfind hne) (Dev.job?_complete_other _ hne ..)
      ((Dev.job?_congr (Dev.platform_mgmt ..) _).trans hgone)

end Sys2Proof.Machine
end

section
/-! PROOF. Accesses to the mailboxes (spec/15, R413 to R432; spec/22, R590): how a packet is accepted, and what the
writes to a window leave. -/

namespace Sys2Proof.Machine

/-! ### Acceptance -/

theorem Dev.inq_acceptCmd (d : Dev) (ch : Nat) (ws : List Nat) (o : Origin) :
    ((d.acceptCmd ch ws o).chan ch).inq = (d.chan ch).inq ++ [{ words := ws, origin := o }] := by
  unfold Dev.acceptCmd
  rw [Dev.chan_syncChan]
  exact congrArg Chan.inq (Dev.chan_setChan ..)

theorem Dev.ite_emit (c : Prop) [Decidable c] (d : Dev) (o : Out) :
    ∃ x, (if c then d.emit o else d) = { d with out := x } := by
  split
  · exact ⟨_, rfl⟩
  · exact ⟨_, rfl⟩

theorem Dev.chan_out (d : Dev) (o : List Out) (ch : Nat) : ({ d with out := o } : Dev).chan ch = d.chan ch := rfl

theorem Dev.rd_out (d : Dev) (o : List Out) (f : Fld) (i k : Nat) : ({ d with out := o } : Dev).rd f i k = d.rd f i k :=
  rfl

theorem Dev.chan_emit (d : Dev) (o : Out) (ch : Nat) : (d.emit o).chan ch = d.chan ch := rfl

section
variable {d : Dev} {fn ch : Nat} (hwin : d.hasWindow ch fn = true) (hbound : d.boundTo ch fn = true)
include hwin hbound

theorem mbxSendDmwr_accepts {ws : List Nat} (h4 : 4 ≤ ws.length) (h32 : ws.length ≤ 32)
    (hlen : 4 + bits (nth ws 0) 20 16 ≤ ws.length) (hacc : d.accepts = true) (hroom : d.chFull ch = false) :
    mbxSendDmwr fn ch 0 ws d = (d.acceptCmd ch (pktWords ws) .pcie).emit (.dmwr ch 0) := by
  have hform : ¬(0 ≠ 0 ∨ ws.length < 4 ∨ 32 < ws.length ∨ ws.length < 4 + bits (nth ws 0) 20 16) := by omega
  unfold mbxSendDmwr
  rw [if_neg (by simp [hwin])]
  simp only [if_neg hform, hbound, hacc, hroom, Bool.true_eq_false, Bool.false_eq_true, or_false, if_false]

theorem mbxDoorbellWrite_accepts (hlen : bits (d.rd R.MBX_STAGE_DATA ch 0) 20 16 ≤ 28) (hacc : d.accepts = true)
    (hroom : d.chFull ch = false) : mbxDoorbellWrite fn ch false d =
      d.acceptCmd ch (pktWords ((List.range 32).map fun k => d.rd R.MBX_STAGE_DATA ch k)) .pcie := by
  have hhead : nth ((List.range 32).map fun k => d.rd R.MBX_STAGE_DATA ch k) 0 = d.rd R.MBX_STAGE_DATA ch 0 := rfl
  have hform : decide (28 < bits (d.rd R.MBX_STAGE_DATA ch 0) 20 16) = false := decide_eq_false (by omega)
  unfold mbxDoorbellWrite
  rw [if_neg (by simp [hwin])]
  simp only [hhead, hform, hbound, hacc, hroom, Bool.or_self, Bool.not_true, decide_false, Bool.true_eq_false,
    Bool.false_eq_true, if_false]

theorem Dev.windowWrite_bound (f : Dev → Dev) : d.windowWrite fn ch f = f d := by
  unfold Dev.windowWrite
  rw [if_neg (by simp [hwin]), if_neg (by simp [hbound])]

/-! ### Writes to a window (R427, R428) -/

/-- The device on which completions retire: more of them than the FIFO holds are an underrun. -/
theorem mbxCplHeadWrite_retires (n : Nat) : ∃ o, mbxCplHeadWrite fn ch n d =
    { ((if (d.chan ch).cplq.length < n then d.set R.MBX_ERR_CPL_UNDERRUN ch else d).setChan ch
        { d.chan ch with cplq := (d.chan ch).cplq.drop n }).syncChan ch with out := o } := by
  unfold mbxCplHeadWrite
  rw [Dev.windowWrite_bound hwin hbound]
  exact Dev.ite_emit ..

theorem mbxEmptyArmWrite_busy (hbusy : (d.chan ch).inq ≠ []) :
    mbxEmptyArmWrite fn ch d = d.set R.MBX_IEN_EMPTY_ARM ch := by
  unfold mbxEmptyArmWrite
  rw [Dev.windowWrite_bound hwin hbound]
  exact if_neg fun h => hbusy h.2

end

theorem mbxCtlLockWrite_locks {d : Dev} (hhub : d.pdOn pdHub = true) (hd3 : d.mgmt.d3hot.contains 0 = false) :
    mbxCtlLockWrite d = d.lockTable := if_pos ⟨hhub, by rw [hd3]; rfl⟩

/-! ### MCTP and the fabric (R430 to R432) -/

theorem mctpCommandMessage_accepts {d : Dev} {intf eid mtag ch : Nat} {ws : List Nat}
    (hch : d.matchChan intf eid = some ch)
    (hnew : ((d.chan ch).recent.find? fun x => x.1 = nth ws 1 && decide (d.now < x.2.2)) = none)
    (hidle : d.inProgress ch (fun k => nth k.words 1 = nth ws 1) = false) (hacc : d.accepts = true)
    (hroom : d.chFull ch = false) (hout : d.outst ch < 8) :
    mctpCommandMessage intf eid mtag ws d = d.acceptCmd ch (pktWords ws) (.mctp intf eid mtag) := by
  have hgo : ¬8 ≤ d.outst ch := by omega
  unfold mctpCommandMessage
  simp only [hch, hnew, hidle, hacc, hroom, hgo, Bool.true_eq_false, Bool.false_eq_true, or_false, if_false]

/-- Whether a command is the one of source `src` and TAG `tag` that came by the fabric. -/
def CmdPkt.sameFabric (src tag : Nat) (c : CmdPkt) : Bool :=
  match c.origin with
  | .fabric _ src' tag' => src' = src && tag' = tag
  | _ => false

theorem cmdPennantReceived_accepts {d d1 : Dev} {pid ch : Nat} {st : Stored}
    (htake : d.takeHub pid (fun k => k.pclass = 1 && k.typ = 2 && k.opcode = 1) = some (st, d1))
    (hch : d1.matchChan 3 st.pkt.src = some ch) (hadm : isPort st.ing = false ∨ d1.admitted st.ing = true)
    (hnew : ((d1.chan ch).recent.find? fun x =>
      x.1 = st.pkt.tag + 2 ^ 32 * st.pkt.src && decide (d1.now < x.2.2)) = none)
    (hidle : d1.inProgress ch (CmdPkt.sameFabric st.pkt.src st.pkt.tag) = false) (hacc : d1.accepts = true)
    (hroom : d1.chFull ch = false) (htag : nth (wordsBE st.pkt.payload (st.pkt.len / 4)) 1 = st.pkt.tag) :
    cmdPennantReceived pid d = (d1.setChan ch { d1.chan ch with lastPort := some st.ing }).acceptCmd ch
      (pktWords (wordsBE st.pkt.payload (st.pkt.len / 4))) (.fabric st.ing st.pkt.src st.pkt.tag) := by
  have hgo : ¬(isPort st.ing = true ∧ d1.admitted st.ing = false) := by
    rintro ⟨hp, ha⟩
    rcases hadm with h | h <;> simp_all
  have hidle' : ¬d1.inProgress ch (CmdPkt.sameFabric st.pkt.src st.pkt.tag) = true := by simp [hidle]
  unfold cmdPennantReceived
  simp only [htake, hch, if_neg hgo, hnew]
  refine (if_neg hidle').trans ?_
  simp only [hacc, hroom, htag, Bool.true_eq_false, Bool.false_eq_true, or_false, if_false, ne_eq, not_true_eq_false]

/-! ### The statement -/

/-- Settles O19: past its checks each access comes down to one packet accepted, or to the fields and the FIFO that it
writes. -/
theorem mailboxAccesses : Obligations.MailboxAccesses := by
  unfold Obligations.MailboxAccesses
  refine ⟨?send, ?doorbell, ?head, ?arm, ?lock, ?mctp, ?pennant⟩
  case send =>
    intro s fn ch ws hwin h4 h32 hlen hbound hacc hroom
    refine Does.of_act_mute rfl (fun _ _ h => h) ?_
    rw [mbxSendDmwr_accepts hwin hbound h4 h32 hlen hacc hroom, Dev.chan_emit, Dev.inq_acceptCmd]
  case doorbell =>
    intro s fn ch hwin hlen hbound hacc hroom
    refine Does.of_act_mute rfl (fun _ _ h => h) ?_
    rw [mbxDoorbellWrite_accepts hwin hbound hlen hacc hroom]
    exact s.dev.inq_acceptCmd ..
  case head =>
    intro s fn ch n hwin hbound
    obtain ⟨o, ho⟩ := mbxCplHeadWrite_retires hwin hbound n
    refine Does.of_act_mute rfl (fun _ _ h => h) ?_
    rw [ho, Dev.chan_out, Dev.rd_out, Dev.chan_syncChan, Dev.chan_setChan]
    refine ⟨rfl, fun hn => ?_⟩
    rw [if_pos hn]
    exact ((Dev.Sends.refl _).syncChan.rd _ (by decide) ..).trans (Dev.rd_set_self s.dev rfl ch 0)
  case arm =>
    intro s fn ch hwin hbound hbusy
    refine Does.of_act_mute rfl (fun _ _ h => h) ?_
    rw [mbxEmptyArmWrite_busy hwin hbound hbusy]
    exact Dev.rd_set_self _ rfl ..
  case lock =>
    intro s hhub hd3
    refine Does.of_act_mute rfl (fun _ _ h => h) ?_
    rw [mbxCtlLockWrite_locks hhub hd3]
    exact s.dev.lockTable_locks
  case mctp =>
    intro s intf eid mtag ch ws hch hnew hidle hacc hroom hout
    refine Does.of_act_mute rfl (fun _ _ h => h) ?_
    rw [mctpCommandMessage_accepts hch hnew hidle hacc hroom hout]
    exact s.dev.inq_acceptCmd ..
  case pennant =>
    intro s pid ch st d1 htake hch hadm hnew hidle hacc hroom htag
    refine Does.of_act_mute rfl (fun _ _ h => h) ?_
    rw [cmdPennantReceived_accepts htake hch hadm hnew hidle hacc hroom htag, Dev.inq_acceptCmd, Dev.chan_setChan]

end Sys2Proof.Machine
end

section
/-! PROOF. Thidan's rounds (spec/15, R410, R415, R417, R429, R434 to R436; spec/17, R471; spec/20, R538, R555; spec/21,
R571): a packet taken and checked, a command begun, the end of a host transfer, and the resets of functions. -/

namespace Sys2Proof.Machine

/-! ### Taking (R410, R434) -/

/-- The journal entry that a packet of a channel gets. -/
def Dev.newEntry (d : Dev) (ch : Nat) (k : CmdPkt) : JEntry := { aseq := d.mgmt.nextAseq, chan := ch, pkt := k }

/-- The device that has journalled packet `k` of a channel, `q` being left in the channel's FIFO. -/
def Dev.journalled (d : Dev) (ch : Nat) (rest : List Nat) (k : CmdPkt) (q : List CmdPkt) : Dev :=
  let d' : Dev := { d with mgmt := { d.mgmt with
    round := rest, nextAseq := (d.mgmt.nextAseq + 1) % 2 ^ 32, journal := d.mgmt.journal ++ [d.newEntry ch k] } }
  let d' := d'.setChan ch { d.chan ch with inq := q, lastTake := some d.now }
  (((d'.count 0x13 ch 0 3).count 0x0E 0x100 0 0).syncChan ch).emptyMsg ch

theorem Dev.emptyMsg_mgmt (d : Dev) (ch : Nat) : (d.emptyMsg ch).mgmt = d.mgmt := by
  unfold Dev.emptyMsg
  split <;> rfl

theorem Dev.rd_emptyMsg (d : Dev) (ch : Nat) {f : Fld} (hf : R.MBX_IEN_EMPTY_ARM.id ≠ f.id) (i k : Nat) :
    (d.emptyMsg ch).rd f i k = d.rd f i k := by
  unfold Dev.emptyMsg
  split
  · exact Dev.rd_clr_other d hf ch 0 i k
  · rfl

section
variable (d : Dev) (ch : Nat) (rest : List Nat) (k : CmdPkt) (q : List CmdPkt)

theorem Dev.journalled_mgmt : (d.journalled ch rest k q).mgmt = { d.mgmt with
    round := rest, nextAseq := (d.mgmt.nextAseq + 1) % 2 ^ 32, journal := d.mgmt.journal ++ [d.newEntry ch k]
    chans := d.mgmt.chans.put ch { d.chan ch with inq := q, lastTake := some d.now } } := by
  unfold Dev.journalled
  rw [Dev.emptyMsg_mgmt, Dev.syncChan_mgmt]
  rfl

theorem Dev.chan_journalled : (d.journalled ch rest k q).chan ch =
    { d.chan ch with inq := q, lastTake := some d.now } := by
  unfold Dev.chan
  rw [Dev.journalled_mgmt]
  exact Tab.get_put_self ..

theorem Dev.rd_journalled {f : Fld} (hf : Unsent f) (ha : R.MBX_IEN_EMPTY_ARM.id ≠ f.id) (i n : Nat) :
    (d.journalled ch rest k q).rd f i n = d.rd f i n :=
  (Dev.rd_emptyMsg _ ch ha i n).trans ((Dev.Sends.refl _).syncChan.rd f hf i n)

theorem Dev.job?_journalled (h : d.job? d.mgmt.nextAseq = none) :
    (d.journalled ch rest k q).job? d.mgmt.nextAseq = some (d.newEntry ch k) := by
  unfold Dev.job? at h ⊢
  rw [Dev.journalled_mgmt, List.find?_append, h]
  simp [Dev.newEntry]

/-- The checks of a packet read the channel's binding and authentication, the phase of boot and the fault state. -/
theorem Dev.packetCheck_journalled (ws : List Nat) : (d.journalled ch rest k q).packetCheck ch ws = d.packetCheck ch ws := by
  have hrd {f : Fld} (hf : Unsent f) (ha : R.MBX_IEN_EMPTY_ARM.id ≠ f.id) := d.rd_journalled ch rest k q hf ha
  have hchan := d.chan_journalled ch rest k q
  have hA : (d.journalled ch rest k q).bindA ch = d.bindA ch := by
    simp only [Dev.bindA, hchan, hrd (f := R.MBX_CTAB_A_ENTRY_A) (by decide) (by decide)]
  have hB : (d.journalled ch rest k q).bindB ch = d.bindB ch := by
    simp only [Dev.bindB, hchan, hrd (f := R.MBX_CTAB_B_ENTRY_B) (by decide) (by decide)]
  have hboot : (d.journalled ch rest k q).bootPhase = d.bootPhase := hrd (by decide) (by decide) 0 0
  have hflt : (d.journalled ch rest k q).fltState = d.fltState := hrd (by decide) (by decide) 0 0
  simp only [Dev.packetCheck, Dev.chRole, Dev.chBurgee, hA, hB, hboot, hflt, hchan]
  rfl

end

/-- A packet that fails a check is answered with its status; one that passes them stays (R415). -/
def Dev.judged (d : Dev) (a : Nat) (r : Nat × Nat) : Dev := if r.1 = 0 then d else d.complete a r.1 [] r.2

theorem Dev.judged_ok (d : Dev) (a detail : Nat) : d.judged a (0, detail) = d := rfl

theorem Dev.judged_refused (d : Dev) (a : Nat) {st : Nat} (h : st ≠ 0) (detail : Nat) :
    d.judged a (st, detail) = d.complete a st [] detail := if_neg h

section
variable {d : Dev} {ch : Nat} {rest : List Nat} {k : CmdPkt} {q : List CmdPkt} (hup : d.mgmt.thdDown = false)
  (hroom : d.mgmt.journal.length < 256) (hacc : d.accepts = true) (hnext : d.nextTake = some (ch, rest))
  (hq : (d.chan ch).inq = k :: q)
include hup hroom hacc hnext hq

theorem commandTaken_judges :
    commandTaken d = (d.journalled ch rest k q).judged d.mgmt.nextAseq (d.packetCheck ch k.words) := by
  have hgo : ¬(d.mgmt.thdDown = true ∨ 256 ≤ d.mgmt.journal.length ∨ d.accepts = false) := by
    simp [hup, hacc, hroom]
  unfold commandTaken
  rw [if_neg hgo, ← d.packetCheck_journalled ch rest k q]
  simp only [hnext, hq]
  change (match (d.journalled ch rest k q).packetCheck ch k.words with
    | (0, _) => d.journalled ch rest k q
    | (st, detail) => (d.journalled ch rest k q).complete d.mgmt.nextAseq st [] detail) = _
  generalize d.journalled ch rest k q = e
  rcases e.packetCheck ch k.words with ⟨_ | st, detail⟩
  · rfl
  · rfl

end

/-! ### Beginning, and the end of a host transfer (R417, R435) -/

theorem Dev.mustWait_of_free {d : Dev} {aseq : Nat} {j : JEntry} (h : waitsForObjects j.op = false ∨
    (((d.earlier aseq).any fun e => e.objects.any fun x => j.objects.any fun y => sameObject x y) = false ∧
      j.objects.any (d.objFenced j) = false)) : d.mustWait aseq j = false := by
  unfold Dev.mustWait
  rcases h with h | ⟨hearlier, hfenced⟩
  · rw [h, Bool.false_and]
  · have hpass : ((d.earlier aseq).any fun e =>
        !(d.passesArmed j e) && e.objects.any fun x => j.objects.any fun y => sameObject x y) = false := by
      rw [List.any_eq_false] at hearlier ⊢
      exact fun e he => by simp [hearlier e he]
    rw [hpass, hfenced, Bool.or_self, Bool.and_false]

theorem commandBegin_begins {d : Dev} {aseq : Nat} {j : JEntry} (hj : d.job? aseq = some j) (hph : j.phase = .taken)
    (hup : d.mgmt.thdDown = false)
    (hroom : (d.mgmt.journal.filter fun j => j.phase = .begun || j.phase = .running).length < 64)
    (hfree : d.mustWait aseq j = false) :
    commandBegin aseq d = (d.modJob aseq fun x => { x with phase := .begun }).syncChan j.chan := by
  have hgo : ¬(j.phase ≠ .taken ∨ d.mgmt.thdDown = true ∨
      64 ≤ (d.mgmt.journal.filter fun j => j.phase = .begun || j.phase = .running).length ∨
      d.mustWait aseq j = true) := by
    rintro (h | h | h | h)
    · exact h hph
    · simp [hup] at h
    · omega
    · simp [hfree] at h
  unfold commandBegin
  simp only [hj]
  exact if_neg hgo

theorem hostTransferComplete_host {d : Dev} {aseq : Nat} {j : JEntry} (hj : d.job? aseq = some j) (hhost : j.host = true)
    (bytes : List Nat) : hostTransferComplete aseq true bytes d = d.complete aseq j.status j.res j.detail := by
  unfold hostTransferComplete
  simp only [hj, hhost, if_true]

/-! ### Resets of functions (R429, R555, R571) -/

/-- A record in the history queue leaves the rest of the management state alone. -/
theorem Dev.histPush_mgmt (d : Dev) (x : HEntry) :
    ∃ h q, (d.histPush x).mgmt = { d.mgmt with hist := h, eseq := q } := by
  unfold Dev.histPush
  dsimp only
  split
  · exact ⟨_, _, rfl⟩
  · by_cases hlen : d.mgmt.hist.length < 64 <;> simp only [hlen, if_true, if_false] <;> exact ⟨_, _, rfl⟩

/-- What a Function Level Reset of a channel's function keeps of the management state: the channels and the functions in
D3hot. -/
def Mgmt.bound (m : Mgmt) : Tab Nat Chan × List Nat := (m.chans, m.d3hot)

theorem Dev.bound_cmdLost (d : Dev) (ch tag src : Nat) : (d.cmdLost ch tag src).mgmt.bound = d.mgmt.bound := by
  obtain ⟨h, q, heq⟩ := (d.set R.MBX_ERR_LOST ch).histPush_mgmt _
  exact (congrArg Mgmt.bound heq :)

theorem Dev.bound_chanFlr (d : Dev) (ch : Nat) :
    (d.chanFlr ch).mgmt.bound = (d.setChan ch { d.chan ch with inq := [], cplq := [] }).mgmt.bound := by
  unfold Dev.chanFlr
  rw [Dev.syncChan_mgmt]
  exact Dev.each_keeps (fun e : Dev => e.mgmt.bound) _ _ fun e k => e.bound_cmdLost ..

theorem Dev.d3hot_chanFlr (d : Dev) (ch : Nat) : (d.chanFlr ch).mgmt.d3hot = d.mgmt.d3hot :=
  congrArg Prod.snd (d.bound_chanFlr ch)

theorem Dev.chan_chanFlr (d : Dev) (ch a : Nat) :
    (d.chanFlr ch).chan a = (d.setChan ch { d.chan ch with inq := [], cplq := [] }).chan a :=
  congrArg (fun x : Tab Nat Chan × List Nat => x.1.get a {}) (d.bound_chanFlr ch)

/-- A channel holds neither a packet that waits nor a completion. -/
def Dev.emptied (ch : Nat) (d : Dev) : Prop := (d.chan ch).inq = [] ∧ (d.chan ch).cplq = []

theorem Dev.emptied_chanFlr_self (d : Dev) (ch : Nat) : (d.chanFlr ch).emptied ch := by
  unfold Dev.emptied
  rw [Dev.chan_chanFlr, Dev.chan_setChan]
  exact ⟨rfl, rfl⟩

theorem Dev.emptied_chanFlr {d : Dev} {ch : Nat} (h : d.emptied ch) (a : Nat) : (d.chanFlr a).emptied ch := by
  by_cases ha : a = ch
  · exact ha ▸ d.emptied_chanFlr_self a
  · unfold Dev.emptied
    rw [Dev.chan_chanFlr, Dev.chan_setChan_other _ ha]
    exact h

theorem Dev.each_chanFlr (d : Dev) (l : List Nat) :
    (d.each l fun d ch => d.chanFlr ch).mgmt.d3hot = d.mgmt.d3hot ∧
      ∀ ch ∈ l, (d.each l fun d ch => d.chanFlr ch).emptied ch :=
  ⟨Dev.each_keeps (fun e : Dev => e.mgmt.d3hot) _ _ Dev.d3hot_chanFlr,
    fun _ hch => Dev.each_establishes (P := Dev.emptied) Dev.emptied_chanFlr_self
      (fun _ _ b h => Dev.emptied_chanFlr h b) d hch⟩

/-! ### The statement -/

/-- Settles O20: the packet taken stays in the journal when it passes its checks, a command that need not wait begins, and
each reset is one of the channels of its function, which leaves the other channels alone. -/
theorem thidanTakingAndBeginning : Obligations.ThidanTakingAndBeginning := by
  unfold Obligations.ThidanTakingAndBeginning
  refine ⟨?take, ?begin, ?transfer, ?flr, ?perst, ?d3hot⟩
  case take =>
    intro s ch rest k q hup hroom hacc hnext hq hok hfresh
    refine Does.of_act_mute rfl (fun _ _ h => h) ?_
    rw [commandTaken_judges hup hroom hacc hnext hq, hok, Dev.judged_ok, Dev.job?_journalled _ _ _ _ _ hfresh, Dev.chan_journalled, Dev.journalled_mgmt]
    exact ⟨rfl, rfl, rfl, rfl⟩
  case begin =>
    intro s aseq j hj hph hup hroom hfree
    refine Does.of_act_mute rfl (fun _ _ h => h) ?_
    rw [commandBegin_begins hj hph hup hroom (Dev.mustWait_of_free hfree), Dev.job?_congr (Dev.syncChan_mgmt ..)]
    exact congrArg (Option.map JEntry.phase) 
      (Dev.job?_modJob hj (f := fun x => { x with phase := .begun }) fun _ => rfl)
  case transfer =>
    intro s aseq bytes j hj hhost ho hl
    refine Does.of_act rfl (Dev.answered_platform _ ?_)
    rw [hostTransferComplete_host hj hhost]
    exact Dev.complete_pcie hj ho hl ..
  case flr =>
    intro s fn
    exact Does.of_act_mute rfl (fun _ _ h => h) (Dev.each_chanFlr ..)
  case perst =>
    intro s
    exact Does.of_act_mute rfl (fun _ _ h => h) (Dev.each_chanFlr ..)
  case d3hot =>
    intro s fn hout
    have henter : d3hotEntry fn s.dev = Dev.each _ _ _ := if_neg (by simpa using hout)
    refine Does.of_act_mute rfl (fun _ _ h => h) ?_
    rw [henter]
    exact Dev.each_chanFlr ..

end Sys2Proof.Machine
end

section
/-! PROOF. The permissions of channels (spec/15, R415, R422). -/

namespace Sys2Proof.Machine

/-- A channel may not give a command: its role may not, it has not authenticated, or the burgee is another's. -/
def Dev.forbids (d : Dev) (ch op burgee roles : Nat) : Prop :=
  bitOf roles (d.chRole ch) = false ∨ (d.chRole ch = 1 ∧ (d.chan ch).auth = false ∧ openOps.contains op = false) ∨
    (d.chRole ch = 0 ∧ burgee ≠ d.chBurgee ch)

/-- A packet's version and kind (R412). -/
theorem bits_version {w : Nat} (h : bits w 31 24 = 0x11) : bits w 31 28 = 1 ∧ bits w 27 24 = 1 := by
  simp only [bits, Nat.shiftRight_eq_div_pow] at h ⊢
  omega

theorem Dev.packetCheck_forbidden {d : Dev} {ch : Nat} {ws : List Nat} {roles : Nat} {lay : List Nat}
    (hver : bits (nth ws 0) 31 24 = 0x11) (hop : opInfo (bits (nth ws 0) 15 0) (nth ws 4) = some (roles, lay))
    (hzero : bits (nth ws 0) 23 21 = 0 ∧ bits (nth ws 2) 21 0 = 0 ∧ nth ws 3 = 0)
    (hlay : ((List.range 28).any fun i => nth ws (4 + i) &&& (fullW - nth lay i) != 0) = false)
    (hboot : d.bootPhase ≠ bpFailed)
    (hno : d.forbids ch (bits (nth ws 0) 15 0) (bits (nth ws 2) 31 23) roles) :
    d.packetCheck ch ws = (St.notPermitted, 5) := by
  obtain ⟨hhi, hlo⟩ := bits_version hver
  obtain ⟨h0, h2, h3⟩ := hzero
  have hno' : bitOf roles (d.chRole ch) = false ∨
      (d.chRole ch = 1 ∧ (d.chan ch).auth = false ∧ (!(openOps.contains (bits (nth ws 0) 15 0))) = true) ∨
      (d.chRole ch = 0 ∧ bits (nth ws 2) 31 23 ≠ d.chBurgee ch) := by
    rw [Bool.not_eq_true']
    exact hno
  unfold Dev.packetCheck
  simp only [hhi, hlo, hop, h0, h2, h3, hlay, hboot, ne_eq, not_true_eq_false, Bool.false_eq_true, or_self, if_false]
  exact if_pos hno'

/-- A command given through a PCIe mailbox that is answered leaves its channel with one more completion. -/
theorem Dev.chan_complete_pcie {d : Dev} {a : Nat} {j : JEntry} (h : d.job? a = some j) (ho : j.pkt.origin = .pcie)
    (hl : j.lost = false) (st detail : Nat) (res : List Nat) : (d.complete a st res detail).chan j.chan =
      { d.chan j.chan with cplq := (d.chan j.chan).cplq ++ [cplWords 0 j.op (j.w 1) st j.chan detail res] } := by
  unfold Dev.job? at h
  unfold Dev.complete
  simp only [h, hl, ho, Dev.deliver, Bool.false_eq_true, if_false]
  obtain ⟨o, hp⟩ := Dev.postCpl_eq
    (({ d with mgmt := { d.mgmt with journal := d.mgmt.journal.filter fun x => x.aseq ≠ a } }).count 0x13 j.chan 0
      (if st = 0 then 4 else 5)) j.chan (cplWords 0 (bits (nth j.pkt.words 0) 15 0) (nth j.pkt.words 1) st j.chan detail res)
  rw [Dev.chan_syncChan, hp, Dev.chan_out, Dev.chan_setChan]
  rfl

/-- Settles O56: the fifth check of R415 fails, and the packet taken is answered at once. -/
theorem permissionsOfChannels : Obligations.PermissionsOfChannels := by
  unfold Obligations.PermissionsOfChannels
  intro s ch op rest k q roles lay hup hroom hacc hnext hq hfresh ho hver hop hinfo hzero hlay hboot hno
  subst hop
  have hcheck := Dev.packetCheck_forbidden hver hinfo hzero hlay hboot hno
  have hjob := s.dev.job?_journalled ch rest k q hfresh
  have hinq := congrArg Chan.inq (s.dev.chan_journalled ch rest k q)
  refine Does.of_act_mute rfl (fun _ _ h => h) ?_
  rw [commandTaken_judges hup hroom hacc hnext hq, hcheck, Dev.judged_refused _ _ (by decide)]
  generalize s.dev.journalled ch rest k q = e at hjob hinq ⊢
  have hchan := Dev.chan_complete_pcie hjob ho rfl St.notPermitted 5 []
  refine ⟨Dev.job?_complete .., ?_, ?_⟩
  · exact (congrArg Chan.inq hchan).trans hinq
  · exact (congrArg (fun c : Chan => c.cplq.getLast?) hchan).trans (List.getLast?_concat ..)

end Sys2Proof.Machine
end

section
/-! PROOF. Firmware slots, staging sessions and the management interfaces (spec/20, R537 to R540, R556, R557). -/

namespace Sys2Proof.Machine

theorem Dev.Sends.sec {d e : Dev} (h : d.Sends e) : e.sec = d.sec := (congrArg Dev.sec h.still :)

theorem Dev.platform_sec (b d : Dev) : (b.platform d).sec = d.sec := ((Dev.Sends.refl d).platform b).sec

theorem Dev.syncSec_sec (d : Dev) : d.syncSec.sec = d.sec := rfl

theorem Dev.syncSec_mgmt (d : Dev) : d.syncSec.mgmt = d.mgmt := rfl

theorem Dev.rd_syncSec_staging (d : Dev) : d.syncSec.rd R.SEC_STAT_STAGING = b2n d.sec.staging.isSome := by
  unfold Dev.syncSec
  dsimp only
  rw [Dev.rd_wr_other _ (by decide), Dev.rd_wr_other _ (by decide), Dev.rd_wr_other _ (by decide), Dev.rd_wr_self,
    Dev.wr_sec, Dev.wr_sec]
  cases d.sec.staging <;> rfl

theorem Dev.rd_syncSec_debugOpen (d : Dev) (h : d.sec.debugOpen = true) : d.syncSec.rd R.SEC_STAT_DEBUG_OPEN = 1 := by
  unfold Dev.syncSec
  dsimp only
  iterate 5 rw [Dev.rd_wr_other _ (by decide)]
  rw [Dev.rd_wr_self, h, Bool.true_or]
  rfl

/-! ### Buffers in the host's memory (R417) -/

theorem Dev.brefOk_host {d : Dev} {ch : Nat} {b : BufRef} (hk : b.kind = 1) (hch : d.chIntf ch = 0) :
    d.brefOk ch b = true := by
  unfold Dev.brefOk
  simp [hk, hch]

/-- An input buffer in the host's memory whose bytes are here. -/
theorem Dev.bufIn_host {d : Dev} {j : JEntry} {b : BufRef} {bs : List Nat} (hk : b.kind = 1) (hch : d.chIntf j.chan = 0)
    (hbuf : j.buf = some bs) : d.bufIn j b = .ok (some (bs.take b.len)) := by
  unfold Dev.bufIn
  rw [if_neg (by simp [Dev.brefOk_host hk hch]), if_neg (by simp [hk]), if_pos hk, hbuf]
  rfl

/-! ### FW_STAGE and FW_ACTIVATE (R537, R539) -/

/-- The check that follows a piece: that of the whole slot with the last. -/
def lastCheck (j : JEntry) (c : FwCheck) : Option FwCheck := if bitOf (j.w 9) 0 then some c else none

theorem Dev.fwSlot_of_put {d : Dev} {i : Nat} {t : Tab Nat FwSlot} {x : FwSlot} (h : d.sec.slots = t.put i x) :
    d.fwSlot i = x := by
  unfold Dev.fwSlot
  rw [h, Tab.look_put_self]

/-- What the inactive slot holds after a piece, with the status of its check. -/
def Dev.staged (d : Dev) (off : Nat) (bs : List Nat) (last : Option FwCheck) : FwSlot × Nat :=
  let data := (d.fwSlot d.inactive).data.writeN off bs
  match last with
  | none => ({ data := data }, St.ok)
  | some c => if d.fwStatus c = St.ok then ({ data := data, ok := true, svn := c.svn, ver := c.ver }, d.fwStatus c)
    else ({}, d.fwStatus c)

theorem Dev.staged_status (d : Dev) (off : Nat) (bs : List Nat) (j : JEntry) (c : FwCheck) :
    (d.staged off bs (lastCheck j c)).2 = if bitOf (j.w 9) 0 then d.fwStatus c else St.ok := by
  by_cases hlast : bitOf (j.w 9) 0 = true
  · by_cases hst : d.fwStatus c = St.ok <;> simp [lastCheck, Dev.staged, hlast, hst]
  · simp [lastCheck, Dev.staged, hlast]

theorem Dev.staged_ok (d : Dev) (off : Nat) (bs : List Nat) (j : JEntry) (c : FwCheck) :
    (d.staged off bs (lastCheck j c)).1.ok = (bitOf (j.w 9) 0 && d.fwStatus c == St.ok) := by
  by_cases hlast : bitOf (j.w 9) 0 = true
  · by_cases hst : d.fwStatus c = St.ok <;> simp [lastCheck, Dev.staged, hlast, hst]
  · simp [lastCheck, Dev.staged, hlast]

theorem Dev.stage_eq (d : Dev) (pldm : Bool) (off : Nat) (bs : List Nat) (last : Option FwCheck) :
    d.stage pldm off bs last =
      ((d.modSec fun s => { s with slots := s.slots.put d.inactive (d.staged off bs last).1
                                   staging := some (pldm, d.now) }).syncSec, (d.staged off bs last).2) := by
  cases last <;> rfl

theorem fwStage_stages {d : Dev} {aseq : Nat} {c : FwCheck} {j : JEntry} {bs : List Nat} (hb : Begun d aseq 0x0805 j)
    (hk : (j.bref 4).kind = 1) (hch : d.chIntf j.chan = 0) (hbuf : j.buf = some bs) (hfree : d.stagedBy true = false)
    (hoff : j.w 8 % 4096 = 0) : fwStage aseq c d =
      ((d.began aseq).stage false (j.w 8) (bs.take (j.bref 4).len) (lastCheck j c)).1.complete aseq
        (d.staged (j.w 8) (bs.take (j.bref 4).len) (lastCheck j c)).2 := by
  have hfree' : ¬(d.began aseq).stagedBy true = true := by
    rw [show (d.began aseq).stagedBy true = false from hfree]
    decide
  have hj := hb.1
  unfold fwStage
  simp only [hj, Dev.bufIn_host hk hch hbuf]
  rw [Dev.cmd_of_begun hb, if_neg hfree', if_neg (by omega)]
  rfl

theorem fwActivate_activates {d : Dev} {aseq : Nat} {j : JEntry} (hb : Begun d aseq 0x0806 j)
    (hok : (d.fwSlot d.inactive).ok = true) (hstay : bitOf (j.w 4) 0 = false) : fwActivate aseq d =
      (((d.began aseq).modSec fun s => { s with next := some d.inactive, staging := none }).syncSec).complete aseq
        St.ok := by
  have hact : (d.began aseq).activate =
      some (((d.began aseq).modSec fun s => { s with next := some d.inactive, staging := none }).syncSec) := if_pos hok
  unfold fwActivate
  rw [Dev.cmd_of_begun hb]
  simp only [hact, hstay, Bool.false_eq_true, if_false]

theorem stagingSessionTimeout_ends {d : Dev} {b : Bool} {t : Nat} (hs : d.sec.staging = some (b, t))
    (ht : t + 60000000000 ≤ d.now) :
    stagingSessionTimeout d = (d.modSec fun s => { s with staging := none }).syncSec := by
  unfold stagingSessionTimeout
  simp only [hs]
  exact if_pos ht

/-! ### PLDM, MCTP control and JTAG (R556, R557) -/

/-- A PLDM message that is answered, not one that the boot ROM leaves. -/
theorem pldmMessage_heard {d : Dev} {m : PldmMsg} (hfuses : d.bootPhase ≠ bpFuses)
    (hheard : d.bootPhase ≠ bpFailed ∨ isUpdate m = true) :
    ¬(d.bootPhase = bpFuses ∨ (d.bootPhase = bpFailed ∧ isUpdate m = false)) := by
  rintro (h | ⟨h, hm⟩)
  · exact hfuses h
  · rcases hheard with h' | h'
    · exact h' h
    · rw [h'] at hm
      cases hm

/-- The instruction that a JTAG operation puts in force: a locked debug one is BYPASS. -/
def Dev.irOf (d : Dev) : JtagOp → Nat
  | .debug n => if d.debugUnlocked then 16 + n else 0
  | m => jtagNum m

theorem tapIr_jtagInstruction (m : JtagOp) (d : Dev) : (jtagInstruction m d).sec.tapIr = d.irOf m := by
  cases m with
  | unlock sig =>
    unfold jtagInstruction
    dsimp only
    split <;> rfl
  | debug n =>
    unfold jtagInstruction Dev.irOf
    dsimp only
    split <;> rfl
  | _ => rfl

theorem jtagInstruction_unlocks {d : Dev} (h : d.sec.debugChal.isSome = true) : jtagInstruction (.unlock true) d =
    (d.modSec fun s => { s with debugOpen := true, debugChal := none, tapIr := jtagNum (.unlock true) }).syncSec :=
  if_pos ⟨rfl, h⟩

/-! ### The statement -/

/-- Settles O32: past its checks each command or message comes down to one update of the secure state and its answer. -/
theorem firmwareSlotsAndStaging : Obligations.FirmwareSlotsAndStaging := by
  unfold Obligations.FirmwareSlotsAndStaging
  refine ⟨?stage, ?activate, ?timeout, ?receiver, ?request, ?sensor, ?control, ?ir, ?idcode, ?unlock⟩
  case stage =>
    intro s aseq c j bs hb hk hch hbuf hfree hoff
    have hstage := fwStage_stages (c := c) hb hk hch hbuf hfree hoff
    rw [Dev.staged_status] at hstage
    refine Does.completes rfl hb hstage (Dev.job?_congr (Dev.syncSec_mgmt _) _) fun d hd => ?_
    have hsec := hd.sec
    rw [Dev.stage_eq, Dev.syncSec_sec] at hsec
    have hslot : d.fwSlot s.dev.inactive = _ := Dev.fwSlot_of_put (congrArg Sec.slots hsec)
    rw [hslot]
    exact ⟨congrArg Sec.staging hsec, Dev.staged_ok ..⟩
  case activate =>
    intro s aseq j hb hok hstay
    refine Does.completes rfl hb (fwActivate_activates hb hok hstay) (Dev.job?_congr (Dev.syncSec_mgmt _) _)
      fun d hd => ?_
    have hsec := hd.sec
    rw [Dev.syncSec_sec] at hsec
    exact ⟨congrArg Sec.next hsec, congrArg Sec.staging hsec⟩
  case timeout =>
    intro s b t hs ht
    refine Does.of_act_mute rfl (fun _ _ h => h) ?_
    rw [stagingSessionTimeout_ends hs ht]
    exact ⟨rfl, Dev.rd_syncSec_staging _⟩
  case receiver =>
    intro s intf eid mtag e hfuses hfailed
    have hheard := pldmMessage_heard (m := .setEventReceiver e) hfuses (.inl hfailed)
    refine Does.of_act rfl ?_
    rw [show pldmMessage intf eid mtag (.setEventReceiver e) s.dev = _ from if_neg hheard]
    exact ⟨congrArg Sec.receiver (Dev.platform_sec ..), Dev.mem_out_platform (Dev.mem_out_emit ..)⟩
  case request =>
    intro s intf eid mtag hfuses hs
    have hheard := pldmMessage_heard (d := s.dev) (m := .requestUpdate) hfuses (.inr rfl)
    refine Does.of_act rfl ?_
    rw [show pldmMessage intf eid mtag .requestUpdate s.dev = _ from if_neg hheard]
    simp only [hs, Option.isSome_none, Bool.false_eq_true, if_false]
    exact ⟨congrArg Sec.staging (Dev.platform_sec ..), Dev.mem_out_platform (Dev.mem_out_emit ..)⟩
  case sensor =>
    intro s intf eid mtag i v hfuses hfailed hv
    have hheard := pldmMessage_heard (m := .sensor i) hfuses (.inl hfailed)
    refine Does.of_act rfl ?_
    rw [show pldmMessage intf eid mtag (.sensor i) s.dev = _ from if_neg hheard]
    simp only [hv]
    exact Dev.mem_out_platform (Dev.mem_out_emit ..)
  case control =>
    intro s intf eid mtag m hfuses
    refine Does.of_act rfl ⟨?_, ?_⟩
    · rintro e rfl h0 h255
      rw [show mctpControlMessage intf eid mtag (.setEid e) s.dev = _ from if_neg hfuses]
      simp only [h0, h255, or_self, if_false]
      refine ⟨?_, Dev.mem_out_platform (Dev.mem_out_emit ..)⟩
      rw [Dev.platform_sec]
      exact Tab.get_put_self ..
    · rintro rfl
      rw [show mctpControlMessage intf eid mtag .getEid s.dev = _ from if_neg hfuses]
      exact Dev.mem_out_platform (Dev.mem_out_emit ..)
  case ir =>
    intro s m
    refine Does.of_act_mute rfl (fun _ _ h => h) ((tapIr_jtagInstruction m s.dev).trans ?_)
    cases m <;> rfl
  case idcode =>
    intro s
    exact Does.of_act rfl (Dev.mem_out_platform (Dev.mem_out_emit ..))
  case unlock =>
    intro s h
    refine Does.of_act_mute rfl (fun _ _ h => h) ?_
    rw [jtagInstruction_unlocks h]
    exact ⟨rfl, rfl, Dev.rd_syncSec_debugOpen _ rfl⟩

end Sys2Proof.Machine
end

section
/-! PROOF. TEL_CFG (spec/19, R515 to R524, R532): counters read, snapshot sets, tags, histograms, samples and traces. -/

namespace Sys2Proof.Machine

/-! ### The frames of TEL_CFG (R518) -/

theorem Dev.telCmd_begun {d : Dev} {aseq roles : Nat} {j : JEntry} {ok : Nat → Bool} (hb : Begun d aseq 0x0701 j)
    (hok : ok (j.w 4 % 16) = true) (hrole : bitOf roles (d.chRole j.chan) = true) (f : JEntry → Dev → Dev) :
    d.telCmd aseq ok roles f = f j d := by
  obtain ⟨hj, -, hop, -, -⟩ := hb
  unfold Dev.telCmd
  simp only [hj, hop, hok, hrole, ne_eq, not_true_eq_false, Bool.true_eq_false, or_self, if_false]

theorem Dev.withIds_begun {d : Dev} {aseq n cnt : Nat} {j : JEntry} {bs : List Nat} (hb : Begun d aseq 0x0701 j)
    (hk : (j.bref n).kind = 1) (hch : d.chIntf j.chan = 0) (hbuf : j.buf = some bs)
    (hlen : 4 * cnt ≤ (bs.take (j.bref n).len).length) (f : List Nat → Dev → Dev) :
    d.withIds j n cnt f = f (leWords (bs.take (j.bref n).len) cnt) (d.began aseq) := by
  have ha : j.aseq = aseq := Dev.job?_aseq hb.1
  unfold Dev.withIds
  simp only [Dev.bufIn_host hk hch hbuf]
  rw [ha, Dev.cmd_of_begun hb, if_neg (by omega)]

/-! ### Output buffers (R417) -/

theorem Dev.Sends.modJob {d e : Dev} {a : Nat} {f : JEntry → JEntry} (h : d.Sends e) : d.Sends (e.modJob a f) :=
  h.same rfl rfl

/-- A command whose output has gone to the host waits for the end of the transfer. -/
def JEntry.onHost (j : JEntry) (st : Nat) (res : List Nat) (detail : Nat) : JEntry :=
  { j with host := true, status := st, res := res, detail := detail }

theorem Dev.bufOut_none {d : Dev} {j : JEntry} {b : BufRef} (hk : b.kind = 0) (bytes : List Nat) (st : Nat)
    (res : List Nat) (detail : Nat) :
    d.bufOut j b bytes st res detail = d.complete j.aseq st res detail := by
  simp [Dev.bufOut, Dev.brefOk, hk]

theorem Dev.bufOut_host {d : Dev} {j : JEntry} {b : BufRef} (hk : b.kind = 1) (hch : d.chIntf j.chan = 0)
    (bytes : List Nat) (st : Nat) (res : List Nat) (detail : Nat) : d.bufOut j b bytes st res detail =
      (d.emit (.host b.addr (bytes.take b.len))).modJob j.aseq fun x => x.onHost st res detail := by
  unfold Dev.bufOut
  dsimp only
  rw [if_neg (by simp [Dev.brefOk_host hk hch]), if_neg (by omega), if_pos hk]
  rfl

section
variable {c : Instr} {f : Dev → Dev} {s : State} {P : Dev → Prop} {aseq op : Nat} {j : JEntry} {e : Dev} {b : BufRef}
  {bytes res : List Nat}

/-- A command that ends with an output buffer: with none it is answered, and to the host's memory its bytes go out and
it goes on running. -/
theorem Does.outputs (hc : exec c s = act f s) (hb : Begun s.dev aseq op j) (hf : f s.dev = e.bufOut j b bytes St.ok res)
    (hjob : e.job? aseq = (s.dev.began aseq).job? aseq) (hch : e.chIntf j.chan = s.dev.chIntf j.chan)
    (hk : b.kind = 0 ∨ (b.kind = 1 ∧ s.dev.chIntf j.chan = 0)) (hP : ∀ d, e.Sends d → P d) :
    Does c s fun d => ((b.kind = 0 → Answered d j St.ok res) ∧
      (b.kind = 1 → Out.host b.addr (bytes.take b.len) ∈ d.out ∧ Running d j)) ∧ P d := by
  have ha : j.aseq = aseq := Dev.job?_aseq hb.1
  rcases hk with h0 | ⟨h1, hhost⟩
  · rw [Dev.bufOut_none h0, ha] at hf
    refine Does.imp (Does.completes hc hb hf hjob hP) fun d ⟨hans, hd⟩ => ⟨⟨fun _ => hans, fun h => ?_⟩, hd⟩
    omega
  · rw [Dev.bufOut_host h1 (hch.trans hhost), ha] at hf
    have hrun := hjob.trans (Dev.job?_began hb)
    have hout : Out.host b.addr (bytes.take b.len) ∈ (f s.dev).out := by
      rw [hf]
      exact Dev.mem_out_emit ..
    have hphase : ((f s.dev).job? aseq).map JEntry.phase = some .running := by
      rw [hf]
      exact congrArg (Option.map JEntry.phase)
        (Dev.job?_modJob (d := e.emit _) (f := fun x => x.onHost St.ok res 0) hrun fun _ => rfl)
    have hsends : e.Sends (f s.dev) := by
      rw [hf]
      exact (Dev.Sends.refl e).emit.modJob
    refine Does.of_act hc ⟨⟨fun h => ?_, fun _ => ⟨Dev.mem_out_platform hout, ?_⟩⟩, hP _ (hsends.platform _)⟩
    · omega
    · rw [Running, ha, Dev.job?_congr (Dev.platform_mgmt ..), hphase]

theorem Does.gives (hc : exec c s = act f s) (hb : Begun s.dev aseq op j) (hf : f s.dev = e.bufOut j b bytes St.ok res)
    (hjob : e.job? aseq = (s.dev.began aseq).job? aseq) (hch : e.chIntf j.chan = s.dev.chIntf j.chan)
    (hk : b.kind = 0 ∨ (b.kind = 1 ∧ s.dev.chIntf j.chan = 0)) :
    Does c s fun d => (b.kind = 0 → Answered d j St.ok res) ∧
      (b.kind = 1 → Out.host b.addr (bytes.take b.len) ∈ d.out ∧ Running d j) :=
  Does.imp (Does.outputs (P := fun _ => True) hc hb hf hjob hch hk fun _ _ => trivial) fun _ h => h.1

end

/-! ### Counters (R515, R517, R520) -/

/-- The device on which counters are read: a denied read is noted (R520). -/
theorem Dev.readCounters_fst (d : Dev) (ids : List Nat) (t : Option (Nat × Nat)) (n : Nat) :
    (d.readCounters ids t n).1 = d ∨ (d.readCounters ids t n).1 = d.set R.TEL_ERR_DENIED_SEEN := by
  unfold Dev.readCounters
  dsimp only
  split
  · exact .inr rfl
  · exact .inl rfl

theorem Dev.bindA_set_other (d : Dev) {f : Fld} (hf : f.id ≠ R.MBX_CTAB_A_ENTRY_A.id) (i k ch : Nat) :
    (d.set f i k).bindA ch = d.bindA ch := by
  unfold Dev.bindA
  rw [Dev.rd_set_other d hf]
  rfl

theorem Dev.readCounters_leaves (d : Dev) (ids : List Nat) (t : Option (Nat × Nat)) (n a ch : Nat) :
    (d.readCounters ids t n).1.job? a = d.job? a ∧ (d.readCounters ids t n).1.chIntf ch = d.chIntf ch := by
  rcases d.readCounters_fst ids t n with h | h
  · rw [h]
    exact ⟨rfl, rfl⟩
  · rw [h]
    exact ⟨rfl, congrArg (bits · 30 28) (d.bindA_set_other (by decide) 0 0 ch)⟩

theorem telRead_reads {d : Dev} {aseq : Nat} {j : JEntry} {bs : List Nat} (hb : Begun d aseq 0x0701 j)
    (hsub : j.w 4 % 16 = 0) (hrole : bitOf 15 (d.chRole j.chan) = true) (hpos : 0 < bits (j.w 5) 10 0)
    (hmax : bits (j.w 5) 10 0 ≤ 1024) (hk : (j.bref 6).kind = 1) (hch : d.chIntf j.chan = 0) (hbuf : j.buf = some bs)
    (hlen : 4 * bits (j.w 5) 10 0 ≤ (bs.take (j.bref 6).len).length) :
    telRead aseq d =
      ((d.began aseq).readCounters (leWords (bs.take (j.bref 6).len) (bits (j.w 5) 10 0)) (d.tenantOf j) d.now).1.bufOut j
        (j.bref 10) (((leWords (bs.take (j.bref 6).len) (bits (j.w 5) 10 0)).map fun id =>
          counterEntry id (d.readCounter id (d.tenantOf j) d.now)).flatMap fun e => e.flatMap (bytesLE 4)) St.ok := by
  have hgo : ¬(j.w 4 % 16 ≠ 0 ∨ bits (j.w 5) 10 0 = 0 ∨ 1024 < bits (j.w 5) 10 0) := by omega
  unfold telRead
  rw [Dev.telCmd_begun (roles := roleA) hb (by rw [hsub]; rfl) hrole]
  refine (if_neg hgo).trans ?_
  rw [Dev.withIds_begun hb hk hch hbuf hlen]
  rfl

/-! ### Snapshot sets (R519, R521) -/

theorem Dev.snap_setSnap (d : Dev) (i : Nat) (x : SnapSet) : (d.setSnap i x).snap i = x := Tab.get_put_self ..

theorem Dev.Sends.snap {d e : Dev} (h : d.Sends e) (i : Nat) : e.snap i = d.snap i :=
  (congrArg (fun d : Dev => d.snap i) h.still :)

/-- A set that is armed for a time, by a command's channel and for its tenant. -/
def Dev.armedSet (d : Dev) (j : JEntry) (ids : List Nat) : SnapSet :=
  { state := 1, ids := ids, t := j.w 11 * 2 ^ 32 + j.w 12, tenant := (d.tenantOf j).map Prod.fst, chan := j.chan }

theorem snapArm_arms {d : Dev} {aseq : Nat} {j : JEntry} {bs : List Nat} (hb : Begun d aseq 0x0701 j)
    (hsub : j.w 4 % 16 = 1) (hrole : bitOf 15 (d.chRole j.chan) = true) (hpos : 0 < bits (j.w 6) 8 0)
    (hmax : bits (j.w 6) 8 0 ≤ 256) (hk : (j.bref 7).kind = 1) (hch : d.chIntf j.chan = 0) (hbuf : j.buf = some bs)
    (hlen : 4 * bits (j.w 6) 8 0 ≤ (bs.take (j.bref 7).len).length) (hfree : (d.snap (j.w 5 % 4)).state = 0)
    (ht : d.now + 10000 ≤ j.w 11 * 2 ^ 32 + j.w 12) :
    snapArm aseq d = ((d.began aseq).setSnap (j.w 5 % 4)
      (d.armedSet j (leWords (bs.take (j.bref 7).len) (bits (j.w 6) 8 0)))).complete aseq St.ok := by
  have hgo : ¬(bits (j.w 6) 8 0 = 0 ∨ 256 < bits (j.w 6) 8 0) := by omega
  have hfree' : ¬((d.began aseq).snap (j.w 5 % 4)).state ≠ 0 := not_not.2 hfree
  have ht' : ¬j.w 11 * 2 ^ 32 + j.w 12 < (d.began aseq).now + 10000 := not_lt.2 ht
  unfold snapArm
  rw [Dev.telCmd_begun (roles := roleA) hb (by rw [hsub]; rfl) hrole]
  refine (if_neg hgo).trans ?_
  rw [Dev.withIds_begun hb hk hch hbuf hlen, if_neg hfree', if_neg ht']
  rfl

theorem snapshotTime_takes {d : Dev} {i : Nat} (hst : (d.snap i).state = 1) (ht : (d.snap i).t ≤ d.now) :
    (snapshotTime i d).snap i = { d.snap i with
      state := 2
      taken := (d.snap i).ids.map fun id =>
        counterEntry id (d.readCounter id ((d.snap i).tenant.map fun b => (b, (d.snap i).chan)) (d.snap i).t) } := by
  have hgo : ¬((d.snap i).state ≠ 1 ∨ d.now < (d.snap i).t) := by omega
  unfold snapshotTime
  dsimp only
  rw [if_neg hgo, Dev.snap_setSnap]
  rfl

/-- The device on which a set is read: the set is freed where the command says so. -/
def Dev.freedSet (d : Dev) (j : JEntry) : Dev := if bitOf (j.w 10) 0 then d.setSnap (j.w 5 % 4) {} else d

theorem Dev.snap_freedSet (d : Dev) (j : JEntry) :
    (d.freedSet j).snap (j.w 5 % 4) = if bitOf (j.w 10) 0 then {} else d.snap (j.w 5 % 4) := by
  unfold Dev.freedSet
  split
  · exact Dev.snap_setSnap ..
  · rfl

theorem Dev.freedSet_leaves (d : Dev) (j : JEntry) (a ch : Nat) :
    (d.freedSet j).job? a = d.job? a ∧ (d.freedSet j).chIntf ch = d.chIntf ch := by
  unfold Dev.freedSet
  split <;> exact ⟨rfl, rfl⟩

theorem snapRead_reads {d : Dev} {aseq : Nat} {j : JEntry} (hb : Begun d aseq 0x0701 j) (hsub : j.w 4 % 16 = 2)
    (hrole : bitOf 15 (d.chRole j.chan) = true) (hst : (d.snap (j.w 5 % 4)).state = 2) :
    snapRead aseq d = ((d.began aseq).freedSet j).bufOut j (j.bref 6)
      ((d.snap (j.w 5 % 4)).taken.flatMap fun e => e.flatMap (bytesLE 4)) St.ok [2] := by
  have hst' : ((d.began aseq).snap (j.w 5 % 4)).state = 2 := hst
  unfold snapRead
  rw [Dev.telCmd_begun (roles := roleA) hb (by rw [hsub]; rfl) hrole, Dev.cmd_of_begun hb]
  simp only [hst', if_true]
  rfl

/-! ### Tags, histograms and what is sampled (R522 to R524, R532, R533) -/

theorem tagSet_sets {d : Dev} {aseq : Nat} {j : JEntry} (hb : Begun d aseq 0x0701 j) (hsub : j.w 4 % 16 = 3)
    (hrole : bitOf 6 (d.chRole j.chan) = true) : ∃ e : Dev, tagSet aseq d = e.complete aseq St.ok ∧
      e.job? aseq = (d.began aseq).job? aseq ∧ e.tel.tagKey = j.w 6 * 2 ^ 32 + j.w 7 ∧
      e.rd R.TEL_TAGCFG_PKT_LOG2 = bits (j.w 5) 4 0 ∧ e.rd R.TEL_TAGCFG_INS_LOG2 = bits (j.w 5) 9 5 ∧
      (12 ≤ bits (j.w 5) 14 10 → bits (j.w 5) 14 10 ≤ 22 → e.rd R.TEL_TAGCFG_TRACE_LOG2 = bits (j.w 5) 14 10) := by
  have hfive {v hi lo : Nat} (h : hi + 1 - lo = 5) : bits v hi lo % 2 ^ 5 = bits v hi lo := by
    rw [bits, h, Nat.mod_mod]
  unfold tagSet
  rw [Dev.telCmd_begun (roles := roleOF) hb (by rw [hsub]; rfl) hrole, Dev.cmd_of_begun hb]
  refine ⟨_, rfl, rfl, rfl, ?_, ?_, fun h12 h22 => ?_⟩
  · exact (Dev.rd_wr_other _ (by decide) ..).trans ((Dev.rd_wr_other _ (by decide) ..).trans
      ((Dev.rd_wr_self ..).trans (hfive rfl)))
  · exact (Dev.rd_wr_other _ (by decide) ..).trans ((Dev.rd_wr_self ..).trans (hfive rfl))
  · refine (Dev.rd_wr_self ..).trans ?_
    rw [if_neg (by omega)]
    exact hfive rfl

theorem telHist_reads {d : Dev} {aseq : Nat} {j : JEntry} (hb : Begun d aseq 0x0701 j) (hsub : j.w 4 % 16 = 4)
    (hrole : bitOf 15 (d.chRole j.chan) = true) (hreach : d.cmdReach j (d.ctx (j.w 5 % 65536)).burgee = true)
    (hopen : (d.ctx (j.w 5 % 65536)).state = csOpen) (hroot : (d.ctx (j.w 5 % 65536)).root = true)
    (hlen : (d.ctx (j.w 5 % 65536)).hist.length = 64) : telHist aseq d =
      (d.began aseq).bufOut j (j.bref 6) ((d.ctx (j.w 5 % 65536)).hist.flatMap (bytesLE 4)) St.ok := by
  have htake : ((d.ctx (j.w 5 % 65536)).hist ++ List.replicate 64 0).take 64 = (d.ctx (j.w 5 % 65536)).hist :=
    List.take_left' hlen
  unfold telHist
  rw [Dev.telCmd_begun (roles := roleA) hb (by rw [hsub]; rfl) hrole, Dev.cmd_of_begun hb]
  have hfree : csOpen ≠ csFree := by decide
  have hretired : csOpen ≠ csRetired := by decide
  simp only [Dev.ctx_began, Dev.cmdReach_began, hreach, hopen, hroot, htake, hfree, hretired, Bool.true_eq_false, and_false,
    or_self, if_true, if_false]

theorem Dev.Sends.samplePorts {d e : Dev} (h : d.Sends e) : e.tel.samplePorts = d.tel.samplePorts :=
  (congrArg (fun d : Dev => d.tel.samplePorts) h.still :)

/-- The device that samples what a command names. -/
def Dev.sampling (d : Dev) (j : JEntry) : Dev :=
  { d with tel := { d.tel with
    samplePorts := (List.range 512).filter fun p => bitOf (j.w (5 + p / 32)) (p % 32)
    sampleAttach := bitOf (j.w 21) 0, sampleLog2 := bits (j.w 21) 12 8, sampleRing := [] } }

theorem Dev.sampling_mgmt (d : Dev) (j : JEntry) : (d.sampling j).mgmt = d.mgmt := by
  rw [Dev.sampling]

theorem Dev.samplePorts_sampling (d : Dev) (j : JEntry) :
    (d.sampling j).tel.samplePorts = (List.range 512).filter fun p => bitOf (j.w (5 + p / 32)) (p % 32) := by
  rw [Dev.sampling]

/-- A sample ring takes at most its whole size. -/
theorem sampleBytes_le (ports : List Nat) (att : Bool) (log2 q : Nat) :
    sampleBytes ports att log2 q ≤ 16 * 2 ^ log2 := by
  unfold sampleBytes
  split
  · exact le_refl _
  · exact Nat.zero_le _

theorem sampleSet_sets {d : Dev} {aseq : Nat} {j : JEntry} (hb : Begun d aseq 0x0701 j) (hsub : j.w 4 % 16 = 5)
    (hrole : bitOf 6 (d.chRole j.chan) = true) (h12 : 12 ≤ bits (j.w 21) 12 8) (h22 : bits (j.w 21) 12 8 ≤ 22)
    (hroom : ([0, 1, 2, 3].all fun q =>
      decide (d.buntUsed q none + 16 * 2 ^ bits (j.w 21) 12 8 ≤ d.buntArea q)) = true) :
    sampleSet aseq d = ((d.began aseq).sampling j).complete aseq St.ok := by
  have hfits (ports : List Nat) : ¬([0, 1, 2, 3].any fun q =>
      decide (d.buntArea q < d.buntUsed q none + sampleBytes ports (bitOf (j.w 21) 0) (bits (j.w 21) 12 8) q) &&
        sampleBytes ports (bitOf (j.w 21) 0) (bits (j.w 21) 12 8) q != 0) = true := by
    rw [List.any_eq_true]
    rintro ⟨q, hq, hover⟩
    have hle := of_decide_eq_true (List.all_eq_true.1 hroom q hq)
    have hlt := of_decide_eq_true (Bool.and_eq_true_iff.1 hover).1
    have := sampleBytes_le ports (bitOf (j.w 21) 0) (bits (j.w 21) 12 8) q
    omega
  unfold sampleSet
  rw [Dev.telCmd_begun (roles := roleOF) hb (by rw [hsub]; rfl) hrole, Dev.cmd_of_begun hb]
  refine (if_neg (by omega)).trans ?_
  exact if_neg (hfits _)

/-! ### The statement -/

/-- Settles O28: past its checks each subop comes down to one update of the telemetry and its answer, or to the bytes of an
output buffer. -/
theorem countersSnapshotsAndTags : Obligations.CountersSnapshotsAndTags := by
  unfold Obligations.CountersSnapshotsAndTags
  refine ⟨?read, ?arm, ?time, ?snap, ?tag, ?hist, ?sample, ?samples, ?traces⟩
  case read =>
    intro s aseq j bs hb hsub hrole hpos hmax hk hch hbuf hlen hout
    obtain ⟨hjob, hintf⟩ := (s.dev.began aseq).readCounters_leaves
      (leWords (bs.take (j.bref 6).len) (bits (j.w 5) 10 0)) (s.dev.tenantOf j) s.dev.now aseq j.chan
    exact Does.gives rfl hb (telRead_reads hb hsub hrole hpos hmax hk hch hbuf hlen) hjob hintf hout
  case arm =>
    intro s aseq j bs hb hsub hrole hpos hmax hk hch hbuf hlen hfree ht
    refine Does.completes rfl hb (snapArm_arms hb hsub hrole hpos hmax hk hch hbuf hlen hfree ht) rfl fun d hd => ?_
    rw [hd.snap, Dev.snap_setSnap]
    exact ⟨rfl, rfl, rfl⟩
  case time =>
    intro s i hst ht
    refine Does.of_act_mute rfl (fun _ _ h => h) ?_
    rw [snapshotTime_takes hst ht]
    exact ⟨rfl, rfl⟩
  case snap =>
    intro s aseq j hb hsub hrole hst hout
    obtain ⟨hjob, hintf⟩ := (s.dev.began aseq).freedSet_leaves j aseq j.chan
    exact Does.outputs rfl hb (snapRead_reads hb hsub hrole hst) hjob hintf hout fun d hd =>
      (hd.snap _).trans (Dev.snap_freedSet ..)
  case tag =>
    intro s aseq j hb hsub hrole
    obtain ⟨e, hset, hjob, hkey, hpkt, hins, htrace⟩ := tagSet_sets hb hsub hrole
    refine Does.completes rfl hb hset hjob fun d hd => ⟨?_, ?_, fun h12 h22 => ?_, ?_⟩
    · exact (hd.rd _ (by decide) ..).trans hpkt
    · exact (hd.rd _ (by decide) ..).trans hins
    · exact (hd.rd _ (by decide) ..).trans (htrace h12 h22)
    · exact (congrArg (fun d : Dev => d.tel.tagKey) hd.still :).trans hkey
  case hist =>
    intro s aseq j hb hsub hrole hreach hopen hroot hlen hout
    exact Does.gives rfl hb (telHist_reads hb hsub hrole hreach hopen hroot hlen) rfl rfl hout
  case sample =>
    intro s aseq j hb hsub hrole h12 h22 hroom
    refine Does.completes rfl hb (sampleSet_sets hb hsub hrole h12 h22 hroom)
      (Dev.job?_congr (Dev.sampling_mgmt ..) _) fun d hd => ⟨?_, ?_, ?_⟩
    · exact hd.samplePorts.trans (Dev.samplePorts_sampling ..)
    · exact (congrArg (fun d : Dev => d.tel.sampleAttach) hd.still :)
    · exact (congrArg (fun d : Dev => d.tel.sampleLog2) hd.still :)
  case samples =>
    intro s aseq j hb hsub hrole hout
    have hread : sampleRead aseq s.dev = Dev.bufOut _ j (j.bref 7) _ St.ok :=
      (Dev.telCmd_begun hb (by rw [hsub]; rfl) hrole _).trans (Dev.cmd_of_begun hb _)
    exact Does.gives rfl hb hread rfl rfl hout
  case traces =>
    intro s aseq j hb hsub hrole hout
    have hread : traceRead aseq s.dev = Dev.bufOut _ j (j.bref 7) _ St.ok :=
      (Dev.telCmd_begun hb (by rw [hsub]; rfl) hrole _).trans (Dev.cmd_of_begun hb _)
    exact Does.gives rfl hb hread rfl rfl hout

end Sys2Proof.Machine
end

section
/-! PROOF. What a fault event leaves alone (spec/17, R468, R470). -/

namespace Sys2Proof.Machine

/-- A device without the parts in which traffic stands, the timers of the fault state and the bunting rings: what the
noting of a fault leaves alone. -/
def Dev.calm (d : Dev) : Dev :=
  { d.still with
    mgmt := { d.still.mgmt with quietAt := 0, faultSince := 0 }
    tel := { d.still.tel with bunting := [] } }

theorem Dev.Sends.calm {d e : Dev} (h : d.Sends e) : e.calm = d.calm := (congrArg Dev.calm h.still :)

@[simp] theorem Dev.calm_wr (d : Dev) (f : Fld) (v i k : Nat) : (d.wr f v i k).calm = d.calm := rfl
@[simp] theorem Dev.calm_set (d : Dev) (f : Fld) (i k : Nat) : (d.set f i k).calm = d.calm := rfl
@[simp] theorem Dev.calm_bump (d : Dev) (f : Fld) (i k n : Nat) : (d.bump f i k n).calm = d.calm := rfl
@[simp] theorem Dev.calm_count (d : Dev) (b i g s n : Nat) : (d.count b i g s n).calm = d.calm := rfl
@[simp] theorem Dev.calm_restartQuiet (d : Dev) : d.restartQuiet.calm = d.calm := rfl

@[simp] theorem Dev.calm_histPush (d : Dev) (x : HEntry) : (d.histPush x).calm = d.calm :=
  (Dev.Sends.refl d).histPush.calm

@[simp] theorem Dev.calm_sendEvent (d : Dev) (code : Nat) (ws : List Nat) : (d.sendEvent code ws).calm = d.calm :=
  (Dev.Sends.refl d).sendEvent.calm

@[simp] theorem Dev.calm_buntTrigger (d : Dev) (p : Nat) (c : Bool) : (d.buntTrigger p c).calm = d.calm := by
  unfold Dev.buntTrigger
  split
  · rfl
  · split <;> rfl

@[simp] theorem Dev.calm_irq (d : Dev) (n : Nat) (c : Bool) : (d.irq n c).calm = d.calm := by
  unfold Dev.irq
  dsimp only
  split <;> rfl

@[simp] theorem Dev.calm_enterFault (d : Dev) (ev blk cause : Nat) : (d.enterFault ev blk cause).calm = d.calm := by
  unfold Dev.enterFault
  simp only [Dev.calm_sendEvent, Dev.calm_restartQuiet, Dev.calm_irq, Dev.calm_set, Dev.calm_wr]
  rfl

@[simp] theorem Dev.calm_faultEvent (d : Dev) (blk cause inst d0 d1 status : Nat) :
    (d.faultEvent blk cause inst d0 d1 status).calm = d.calm := by
  unfold Dev.faultEvent
  simp [apply_ite Dev.calm]

theorem Dev.faultEvent_time (d : Dev) (blk cause inst d0 d1 status : Nat) :
    (d.faultEvent blk cause inst d0 d1 status).time = d.time := (congrArg Dev.time (d.calm_faultEvent ..) :)

end Sys2Proof.Machine
end

section
/-! PROOF. Hoists (spec/16, R452, R454 to R458): arrivals, decisions, deadlines and releases. -/

namespace Sys2Proof.Machine

/-! ### Entries and instances -/

theorem Dev.Sends.time {d e : Dev} (h : d.Sends e) : e.time = d.time := (congrArg Dev.time h.still :)
theorem Dev.Sends.now {d e : Dev} (h : d.Sends e) : e.now = d.now := (congrArg Dev.now h.still :)
theorem Dev.Sends.armed {d e : Dev} (h : d.Sends e) : e.net.armed = d.net.armed :=
  (congrArg (fun d : Dev => d.net.armed) h.still :)

theorem Dev.hoist_of_time {d e : Dev} (h : e.time = d.time) (i : Nat) : e.hoist i = d.hoist i := by
  rw [Dev.hoist, h, Dev.hoist]

theorem Dev.inst_of_time {d e : Dev} (h : e.time = d.time) (i : Nat) : e.inst i = d.inst i := by
  rw [Dev.inst, h, Dev.inst]

theorem Dev.Sends.sendHoist {d e : Dev} {k : Packet} {p : Nat} (h : d.Sends e) : d.Sends (e.sendHoist k p) := by
  unfold Dev.sendHoist Dev.sendPort
  exact h.sendOut

theorem Dev.Sends.toChildren {d e : Dev} {x : HoistInst} {k : Packet} {skip : Option Nat} (h : d.Sends e) :
    d.Sends (e.toChildren x k skip) := by
  unfold Dev.toChildren
  exact h.each fun h => h.sendHoist

/-- No arrival is held for the next instance. -/
def HoistInst.noneHeld (x : HoistInst) : Prop := x.heldRanks = [] ∧ x.heldJoins = []

theorem Dev.hoist_setHoist (d : Dev) (i : Nat) (h : HoistEnt) : (d.setHoist i h).hoist i = h := Tab.get_put_self ..

theorem Dev.inst_count (d : Dev) (b i g s n m : Nat) : (d.count b i g s n).inst m = d.inst m := rfl

theorem Dev.hoist_advanceSeq (d : Dev) (i : Nat) :
    (d.advanceSeq i).hoist i = { d.hoist i with seq := ((d.hoist i).seq + 1) % seqMax } := by
  unfold Dev.advanceSeq
  simp only [Dev.hoist_count, Dev.hoist_setInst, Dev.hoist_setHoist]

theorem Dev.inst_advanceSeq {d : Dev} {i : Nat} (h : (d.inst i).noneHeld) : ((d.advanceSeq i).inst i).first = none := by
  obtain ⟨hr, hj⟩ := h
  unfold Dev.advanceSeq
  simp only [Dev.inst_count, Dev.inst_setInst, hr, hj, ne_eq, not_true_eq_false, or_self, if_false]

/-- An instance to which nothing has arrived is not decided. -/
theorem Dev.settle_idle {d : Dev} {i : Nat} (h : (d.inst i).first = none) (n : Nat) : Dev.settle n d i = d := by
  cases n with
  | zero => rfl
  | succ n => simp [Dev.settle, h]

/-! ### Arrivals (R456) -/

/-- A HOIST pennant of an entry in use, of its burgee and of a SEQ that the row takes, is handled. -/
theorem Dev.takeHoist_handled {d d1 : Dev} {pid op : Nat} {st : Stored} {seqOk : HoistEnt → Nat → Bool}
    (htake : d.takeHub pid (fun k => k.pclass = 1 && k.typ = 7 && k.opcode = op) = some (st, d1))
    (hv : (d1.hoist (st.pkt.arg5 % 1024)).v = true)
    (hseq : seqOk (d1.hoist (st.pkt.arg5 % 1024)) (st.pkt.arg5 / 1024) = true)
    (hb : st.pkt.burgee = (d1.hoist (st.pkt.arg5 % 1024)).burgee) (f : Nat → HoistEnt → Stored → Dev → Dev) :
    d.takeHoist pid op seqOk f = f (st.pkt.arg5 % 1024) (d1.hoist (st.pkt.arg5 % 1024)) st d1 := by
  unfold Dev.takeHoist
  simp only [htake, hv, hseq, hb, Bool.true_eq_false, or_self, ne_eq, not_true_eq_false, if_false]

theorem Dev.ranks_arrived_short {d : Dev} {i : Nat}
    (h : (d.inst i).ranks.length + (d.inst i).joins.length < (d.hoist i).nChild + (d.hoist i).nLocal) :
    ((d.arrived i).inst i).ranks = (d.inst i).ranks := by
  unfold Dev.arrived
  dsimp only
  split
  · rw [Dev.settle_short (by exact h)]
    rfl
  · rw [Dev.settle_short (by simpa using h), Dev.inst_setInst]

/-- An instance with one more rank arrived. -/
def HoistInst.arrive (x : HoistInst) (rank port : Nat) : HoistInst := { x with ranks := x.ranks ++ [(rank, port)] }

theorem hoistArrive_counts {d d1 : Dev} {pid : Nat} {st : Stored}
    (htake : d.takeHub pid (fun k => k.pclass = 1 && k.typ = 7 && k.opcode = 1) = some (st, d1))
    (hv : (d1.hoist (st.pkt.arg5 % 1024)).v = true) (hseq : st.pkt.arg5 / 1024 = (d1.hoist (st.pkt.arg5 % 1024)).seq)
    (hb : st.pkt.burgee = (d1.hoist (st.pkt.arg5 % 1024)).burgee)
    (hnew : ((d1.inst (st.pkt.arg5 % 1024)).ranks.any fun r => r.1 = st.pkt.arg6 / 2 ^ 22) = false) :
    hoistArrive pid d = (d1.setInst (st.pkt.arg5 % 1024)
      ((d1.inst (st.pkt.arg5 % 1024)).arrive (st.pkt.arg6 / 2 ^ 22) st.ing)).arrived (st.pkt.arg5 % 1024) := by
  unfold hoistArrive
  rw [Dev.takeHoist_handled htake hv (by simp [HoistEnt.near, hseq]) hb]
  simp only [hseq, hnew, if_true, Bool.false_eq_true, if_false]
  rfl

/-! ### Decisions (R457, R458) -/

theorem Dev.hoist_releases (d : Dev) (l : List HoistRel) (i : Nat) :
    ({ d with time := { d.time with releases := l } } : Dev).hoist i = d.hoist i := rfl

theorem Dev.inst_releases (d : Dev) (l : List HoistRel) (i : Nat) :
    ({ d with time := { d.time with releases := l } } : Dev).inst i = d.inst i := rfl

theorem Dev.advanceSeq_releases (d : Dev) (i : Nat) : (d.advanceSeq i).time.releases = d.time.releases := rfl

/-- A COMPLETE for a time to come waits for it among the releases. -/
theorem Dev.decideComplete_waits {d : Dev} {i trel : Nat} (hlate : d.now < trel) :
    ∃ e r, d.Sends e ∧ r.trel = trel ∧ d.decideComplete i trel =
      { e.advanceSeq i with time := { (e.advanceSeq i).time with releases := d.time.releases ++ [r] } } := by
  unfold Dev.decideComplete
  dsimp only
  generalize he : (d.count 0x11 i 0 1).toChildren (d.inst i) _ = e
  have hsends : d.Sends e := he ▸ (Dev.Sends.refl d).count.toChildren
  have hnow : ¬trel ≤ (e.advanceSeq i).now := by
    have : (e.advanceSeq i).now = d.now := hsends.now
    omega
  rw [if_neg hnow, Dev.advanceSeq_releases, hsends.time]
  exact ⟨e, _, hsends, rfl, rfl⟩

/-- A FAIL of an instance without local joins, with no drain under way, is its word to the children and the next SEQ. -/
theorem Dev.decideFail_plain {d : Dev} {i : Nat} (hjoins : (d.inst i).joins = []) (harmed : d.net.armed = none)
    (cause : Nat) (skip : Option Nat) : ∃ e, d.Sends e ∧ d.decideFail i cause skip = e.advanceSeq i := by
  unfold Dev.decideFail
  dsimp only
  generalize he : (d.count 0x11 i 0 2).toChildren (d.inst i) _ skip = e
  have hsends : d.Sends e := he ▸ (Dev.Sends.refl d).count.toChildren
  have hnone : e.unjoined i (d.hoist i).seq = none := by
    rw [Dev.unjoined, hsends.armed, harmed]
  rw [hnone, hjoins]
  exact ⟨e, hsends, rfl⟩

/-- The next SEQ of a hoist for whose next instance nothing is held is all that a failure leaves. -/
theorem Dev.seq_settle_advanceSeq {d e : Dev} {i : Nat} (ht : e.time = d.time) (h : (d.inst i).noneHeld) (n : Nat) :
    ((Dev.settle n (e.advanceSeq i) i).hoist i).seq = ((d.hoist i).seq + 1) % seqMax := by
  have hinst : e.inst i = d.inst i := Dev.inst_of_time ht i
  rw [Dev.settle_idle (Dev.inst_advanceSeq (hinst.symm ▸ h)), Dev.hoist_advanceSeq, Dev.hoist_of_time ht]

theorem Dev.seq_decideFail {d : Dev} {i : Nat} (hjoins : (d.inst i).joins = []) (harmed : d.net.armed = none)
    (h : (d.inst i).noneHeld) (n cause : Nat) :
    ((Dev.settle n (d.decideFail i cause) i).hoist i).seq = ((d.hoist i).seq + 1) % seqMax := by
  obtain ⟨e, hsends, heq⟩ := Dev.decideFail_plain hjoins harmed cause none
  rw [heq]
  exact Dev.seq_settle_advanceSeq hsends.time h n

theorem hoistDeadline_fails {d : Dev} {i : Nat} (hroot : (d.hoist i).root = true) (harmed : d.net.armed = none)
    (hfirst : (d.inst i).first.isSome = true) (hdue : (d.inst i).deadlineAt ≤ d.now) :
    hoistDeadline i d = Dev.settle 1 (d.decideFail i 0) i := by
  have hnone : d.unjoined i (d.hoist i).seq = none := by rw [Dev.unjoined, harmed]
  unfold hoistDeadline
  simp only [hnone, hfirst, hdue, hroot, and_self, if_true, Bool.false_eq_true, if_false]

/-- The device that has noted a cut-off. -/
def Dev.cutNoted (d : Dev) (i : Nat) : Dev :=
  let e := (d.faultEvent 0x11 0x01 i).set R.HUB_FTSTAT_CUT_OFF
  { e with time := { e.time with cutOffs := (e.time.cutOffs ++ [i]).eraseDups } }

theorem Dev.hoist_cutNoted (d : Dev) (i n : Nat) : (d.cutNoted i).hoist n = d.hoist n :=
  Dev.hoist_of_time (d.faultEvent_time 0x11 0x01 i 0 0 0) n

theorem Dev.inst_cutNoted (d : Dev) (i n : Nat) : (d.cutNoted i).inst n = d.inst n :=
  Dev.inst_of_time (d.faultEvent_time 0x11 0x01 i 0 0 0) n

theorem cutOff_cuts {d : Dev} {i t : Nat} (hroot : (d.hoist i).root = false) (hsent : (d.inst i).sentArrive = true)
    (hfirst : (d.inst i).first = some t) (hdue : t + 2 * ((d.inst i).deadlineAt - t) ≤ d.now)
    (hjoins : (d.inst i).joins = []) (hheld : (d.inst i).noneHeld) : cutOff i d = (d.cutNoted i).advanceSeq i := by
  have hidle : (((d.cutNoted i).advanceSeq i).inst i).first = none :=
    Dev.inst_advanceSeq ((d.inst_cutNoted i i).symm ▸ hheld)
  unfold cutOff
  simp only [hfirst, hsent, hroot, hdue, hjoins, and_self, if_true]
  exact Dev.settle_idle hidle 1

/-! ### Releases (R452, R458) -/

theorem Dev.releaseNow_steps {d : Dev} {r : HoistRel} (hjoins : r.joins = []) :
    (d.releaseNow r).time.releases = d.time.releases ∧
      (r.step.all fun b => (d.releaseNow r).time.steps.get b 0 = (d.time.steps.get b 0 + 1) % 2 ^ 64) = true := by
  have hlate : (if r.late then (d.set R.HUB_FTSTAT_LATE_REL).count 0x11 r.ent 0 3 else d).time = d.time := by
    split <;> rfl
  unfold Dev.releaseNow
  dsimp only
  generalize (if r.late then (d.set R.HUB_FTSTAT_LATE_REL).count 0x11 r.ent 0 3 else d) = e at hlate ⊢
  rw [hjoins, ← hlate]
  cases hstep : r.step with
  | none => exact ⟨rfl, rfl⟩
  | some b => exact ⟨rfl, decide_eq_true (Tab.get_put_self ..)⟩

/-! ### The statement -/

/-- Settles O22: past its checks each event comes down to one update of its entry or instance, or to a decision, after
which nothing is left to settle. -/
theorem hoistPennantsAndDeadlines : Obligations.HoistPennantsAndDeadlines := by
  unfold Obligations.HoistPennantsAndDeadlines
  refine ⟨?arrive, ?release, ?fail, ?time, ?deadline, ?cut⟩
  case arrive =>
    intro s pid st d1 htake hv hseq hb hnew hshort
    refine Does.of_act_mute rfl (fun _ _ h => h) ?_
    rw [hoistArrive_counts htake hv hseq hb hnew, Dev.ranks_arrived_short, Dev.inst_setInst]
    · rfl
    · rw [Dev.inst_setInst]
      simpa [HoistInst.arrive] using hshort
  case release =>
    intro s pid st d1 htake hv hroot hseq hb hranks hjoins hlate
    obtain ⟨e, r, hsends, htrel, heq⟩ := Dev.decideComplete_waits (i := st.pkt.arg5 % 1024) hlate
    have hheld : (e.inst (st.pkt.arg5 % 1024)).noneHeld := by
      rw [Dev.inst_of_time hsends.time]
      exact ⟨hranks, hjoins⟩
    have hrun : hoistReleaseReceived pid s.dev = d1.decideComplete (st.pkt.arg5 % 1024)
        (st.pkt.arg6 * 2 ^ 32 + st.pkt.arg7) := by
      refine (Dev.takeHoist_handled htake hv (by simp [hroot, hseq]) hb _).trans (Dev.settle_idle ?_ 1)
      rw [heq, Dev.inst_releases]
      exact Dev.inst_advanceSeq hheld
    refine Does.of_act_mute rfl (fun _ _ h => h) ?_
    rw [hrun, heq, Dev.hoist_releases, Dev.hoist_advanceSeq, Dev.hoist_of_time hsends.time]
    refine ⟨rfl, ?_⟩
    simp [htrel]
  case fail =>
    intro s pid st d1 htake hv hseq hb hparent harmed hjoins hranks hheld
    have hrun : hoistFailReceived pid s.dev = Dev.settle 1
        (d1.decideFail (st.pkt.arg5 % 1024) (st.pkt.arg6 % 256)) (st.pkt.arg5 % 1024) := by
      refine (Dev.takeHoist_handled htake hv (by simp [hseq]) hb _).trans ?_
      dsimp only
      rw [if_neg (not_not.2 hseq), if_pos hparent]
    refine Does.of_act_mute rfl (fun _ _ h => h) ?_
    rw [hrun]
    exact Dev.seq_decideFail hjoins harmed ⟨hranks, hheld⟩ ..
  case time =>
    intro s i r hfind hjoins
    refine Does.of_act_mute rfl (fun _ _ h => h) ?_
    unfold hoistReleaseTime
    simp only [hfind]
    exact Dev.releaseNow_steps hjoins
  case deadline =>
    intro s i hroot harmed hfirst hdue hjoins hranks hheld
    refine Does.of_act_mute rfl (fun _ _ h => h) ?_
    rw [hoistDeadline_fails hroot harmed hfirst hdue]
    exact Dev.seq_decideFail hjoins harmed ⟨hranks, hheld⟩ ..
  case cut =>
    intro s i t hroot hsent hfirst hdue hjoins hranks hheld
    refine Does.of_act_mute rfl (fun _ _ h => h) ?_
    rw [cutOff_cuts hroot hsent hfirst hdue hjoins ⟨hranks, hheld⟩, Dev.hoist_advanceSeq, Dev.hoist_cutNoted]
    exact ⟨rfl, Dev.rd_set_self (s.dev.faultEvent 0x11 0x01 i) rfl 0 0⟩

end Sys2Proof.Machine
end

section
/-! PROOF. The resets that run, and the start of a restart of Thidan, are the business of the operations that start and
end them (spec/17, R480, R484, R495): what a reset does to its scope leaves both as they are. -/

namespace Sys2Proof.Machine

/-- `e` has the running resets of `d`, the start of Thidan's restart and the time. -/
structure Dev.SameResets (d e : Dev) : Prop where
  resets : e.mgmt.resets = d.mgmt.resets
  restartAt : e.mgmt.restartAt = d.mgmt.restartAt
  now : e.now = d.now

/-- A tile reset fails the model that the tile holds. -/
theorem Dev.resetTile_model {d : Dev} {t c s : Nat} (hst : ¬(d.tileState t = tsOff ∨ d.tileState t = tsResetting))
    (hm : (d.tileCleared t c).modelOf t = some s) : d.resetTile t c = (d.tileCleared t c).failModel s := by
  unfold Dev.resetTile
  rw [if_neg hst]
  change (match (d.tileCleared t c).modelOf t with
    | some s => (d.tileCleared t c).failModel s
    | none => d.tileCleared t c) = _
  rw [hm]

namespace Dev.SameResets
variable {d e e' : Dev}

theorem refl (d : Dev) : d.SameResets d := ⟨rfl, rfl, rfl⟩

theorem trans (h : d.SameResets e) (h' : e.SameResets e') : d.SameResets e' :=
  ⟨h'.resets.trans h.resets, h'.restartAt.trans h.restartAt, h'.now.trans h.now⟩

theorem calm (h : d.SameResets e) (hc : e'.calm = e.calm) : d.SameResets e' :=
  h.trans ⟨(congrArg (fun d : Dev => d.mgmt.resets) hc :), (congrArg (fun d : Dev => d.mgmt.restartAt) hc :),
    (congrArg Dev.now hc :)⟩

theorem sends (h : d.SameResets e) (hs : e.Sends e') : d.SameResets e' := h.calm hs.calm

/-- An update of anything but the time and the management state. -/
theorem upd {freeCtr regs counters out net tel time sec red sram hbm ecc hstacks tiles models store}
    (h : d.SameResets e) : d.SameResets ⟨e.now, freeCtr, regs, counters, out, net, e.mgmt, tel, time, sec, red, sram, hbm,
      ecc, hstacks, tiles, models, store⟩ := ⟨h.resets, h.restartAt, h.now⟩

theorem mgmt (h : d.SameResets e) (hm : e'.mgmt = e.mgmt) (hnow : e'.now = e.now) : d.SameResets e' :=
  h.trans ⟨congrArg Mgmt.resets hm, congrArg Mgmt.restartAt hm, hnow⟩

theorem ite {c : Prop} [Decidable c] {a b : Dev} (ha : d.SameResets a) (hb : d.SameResets b) :
    d.SameResets (if c then a else b) := by
  split
  · exact ha
  · exact hb

theorem each {α : Type} {l : List α} {f : Dev → α → Dev} (h : d.SameResets e)
    (hf : ∀ {e : Dev} {a : α}, d.SameResets e → d.SameResets (f e a)) : d.SameResets (e.each l f) := by
  unfold Dev.each
  induction l generalizing e with
  | nil => exact h
  | cons a l ih => exact ih (hf h)

/-! ### Registers, counters and what is sent -/

theorem wr {f v i k} (h : d.SameResets e) : d.SameResets (e.wr f v i k) := h.upd
theorem set {f i k} (h : d.SameResets e) : d.SameResets (e.set f i k) := h.wr
theorem bump {f i k n} (h : d.SameResets e) : d.SameResets (e.bump f i k n) := h.wr
theorem wrSat {f v i k} (h : d.SameResets e) : d.SameResets (e.wrSat f v i k) := h.wr
theorem count {b i g s n} (h : d.SameResets e) : d.SameResets (e.count b i g s n) := h.upd
theorem record {q r} (h : d.SameResets e) : d.SameResets (e.record q r) := h.sends (Dev.Sends.refl e).record
theorem complete {a st res detail} (h : d.SameResets e) : d.SameResets (e.complete a st res detail) :=
  h.sends (Dev.Sends.refl e).complete
theorem failHolder {pid x r b i} (h : d.SameResets e) : d.SameResets (e.failHolder pid x r b i) :=
  h.sends (Dev.Sends.refl e).failHolder
theorem faultEvent {b c i d0 d1 st} (h : d.SameResets e) : d.SameResets (e.faultEvent b c i d0 d1 st) :=
  h.calm (e.calm_faultEvent ..)
theorem modJob {a f} (h : d.SameResets e) : d.SameResets (e.modJob a f) := h.sends (Dev.Sends.refl e).modJob
theorem modStore {f} (h : d.SameResets e) : d.SameResets (e.modStore f) := h.upd
theorem opOutcome {t c} (h : d.SameResets e) : d.SameResets (e.opOutcome t c) := h.upd
theorem sendAbort {p hops reason id origin burgee} (h : d.SameResets e) :
    d.SameResets (e.sendAbort p hops reason id origin burgee) := h.sends (Dev.Sends.refl e).sendHaly
theorem sendPause {p mask ptime} (h : d.SameResets e) : d.SameResets (e.sendPause p mask ptime) :=
  .wr (h.sends (Dev.Sends.refl e).sendHaly)

/-! ### Contexts aborted and cleared -/

theorem setCtx {i c} (h : d.SameResets e) : d.SameResets (e.setCtx i c) := h.upd
theorem syncEngine {i} (h : d.SameResets e) : d.SameResets (e.syncEngine i) := h.wr.wr
theorem freeCtx {i} (h : d.SameResets e) : d.SameResets (e.freeCtx i) := h.setCtx.syncEngine
theorem unbindCtx {i} (h : d.SameResets e) : d.SameResets (e.unbindCtx i) := h.modStore

theorem filterAbort {key} (h : d.SameResets e) : d.SameResets (e.filterAbort key) := by
  rw [Dev.filterAbort]
  exact ⟨h.resets, h.restartAt, h.now⟩

theorem originateAbort {id b r} (h : d.SameResets e) : d.SameResets (e.originateAbort id b r) :=
  h.filterAbort.count.each fun h => h.sendAbort

theorem neighbourRecs {i c via} (h : d.SameResets e) : d.SameResets (e.neighbourRecs i c via) := h.each fun h => h.record

theorem abortFault {i c} (h : d.SameResets e) : d.SameResets (e.abortFault i c) :=
  .ite h.faultEvent (.ite h.faultEvent (.ite h.faultEvent h))

theorem failInputs {i c} (h : d.SameResets e) : d.SameResets (e.failInputs i c) := by
  refine h.each fun {x pid} hx => ?_
  split
  · exact hx
  · split
    · exact hx.failHolder
    · exact hx

theorem combinedRecs {i c} (h : d.SameResets e) : d.SameResets (e.combinedRecs i c) :=
  h.each fun h => h.each fun h => h.record

theorem endToken {q t} (h : d.SameResets e) : d.SameResets (e.endToken q t) := by
  unfold Dev.endToken
  split
  · exact h
  · split
    · exact h
    · exact h.record.upd

theorem abortCtx {i cause via} (h : d.SameResets e) : d.SameResets (e.abortCtx i cause via) := by
  by_cases hst : (e.ctx i).state = csOpen ∨ (e.ctx i).state = csStub
  · have hrecs {x : Dev} (hx : d.SameResets x) : d.SameResets ((((x.abortFault i cause).failInputs i (e.ctx i)).combinedRecs
        i (e.ctx i)).neighbourRecs i (e.ctx i) via) := hx.abortFault.failInputs.combinedRecs.neighbourRecs
    rw [Dev.abortCtx_eq hst]
    exact .syncEngine (.endToken (.ite (.originateAbort (hrecs h.setCtx.set.count)) (hrecs h.setCtx.set.count)))
  · have hno : e.abortCtx i cause via = e := if_pos (by tauto)
    rwa [hno]

theorem killCtxs {p} (h : d.SameResets e) : d.SameResets (e.killCtxs p) :=
  h.each fun h => h.abortCtx.freeCtx.unbindCtx

/-! ### Attach points, triggers and tokens -/

theorem killHolder {pid x r} (h : d.SameResets e) : d.SameResets (e.killHolder pid x r) :=
  .failHolder (.sends h.upd (Dev.Sends.refl _).dropDesc)

theorem flushAttach {a r} (h : d.SameResets e) : d.SameResets (e.flushAttach a r) :=
  .each (h.trans ⟨rfl, rfl, rfl⟩) fun h => h.killHolder

theorem syncCol {q} (h : d.SameResets e) : d.SameResets (e.syncCol q) := h.wr.wr
theorem setTrig {t x} (h : d.SameResets e) : d.SameResets (e.setTrig t x) := h.upd.syncCol
theorem opFailRec {t c} (h : d.SameResets e) : d.SameResets (e.opFailRec t c) := h.set.record

/-- The operation in progress of a trigger ended with a failure. -/
theorem opKilled {t code} (h : d.SameResets e) : d.SameResets (match e.red.running.find? fun o => o.trig = t with
    | none => e
    | some o => ((({ e with red := { e.red with running := e.red.running.filter fun x => x.trig ≠ t } } : Dev).count
      0x09 (trigQuad t) 2 o.action).opFailRec t code)) := by
  split
  · exact h
  · exact .opFailRec (.count h.upd)

theorem killOp {t code state} (h : d.SameResets e) : d.SameResets (e.killOp t code state) :=
  .each (.ite h.opKilled.setTrig h.opKilled.setTrig) fun h => h.complete

theorem killTrigs {p} (h : d.SameResets e) : d.SameResets (e.killTrigs p) := h.each fun h => h.killOp
theorem clearBindings {p} (h : d.SameResets e) : d.SameResets (e.clearBindings p) := h.upd
theorem clearOps {p} (h : d.SameResets e) : d.SameResets (e.clearOps p) := h.upd

theorem dropPlaceholders {pid} (h : d.SameResets e) : d.SameResets (e.dropPlaceholders pid) :=
  h.sends (Dev.Sends.refl e).dropPlaceholders

theorem dropToken {q t} (h : d.SameResets e) : d.SameResets (e.dropToken q t) := h.upd.syncCol
theorem tokenRec {q k r} (h : d.SameResets e) : d.SameResets (e.tokenRec q k r) := .record (.ite h.set h)

theorem killTokens {r p} (h : d.SameResets e) : d.SameResets (e.killTokens r p) :=
  h.each fun h => h.tokenRec.dropPlaceholders.dropToken

/-! ### Hoists -/

theorem syncRteStat (h : d.SameResets e) : d.SameResets e.syncRteStat := by
  obtain ⟨r, hr⟩ := e.syncRteStat_regs
  exact hr ▸ h.upd

theorem cancelEdgePauses (h : d.SameResets e) : d.SameResets e.cancelEdgePauses := h.each fun h => h.sendPause

theorem commitEnd {a st sect detail} (h : d.SameResets e) : d.SameResets (e.commitEnd a st sect detail) :=
  .complete (.ite h.wr.wr.set.bump.count h.wr.wr.count)

theorem abandonSwitch (h : d.SameResets e) : d.SameResets e.abandonSwitch := by
  unfold Dev.abandonSwitch
  split
  · exact h
  · exact .commitEnd (.syncRteStat (h.upd.cancelEdgePauses.each fun h => h.set))

theorem joinFail {cause j} (h : d.SameResets e) : d.SameResets (e.joinFail cause j) := by
  cases j with
  | cmd => exact h.complete
  | lock => exact h.complete
  | act => exact h.opOutcome
  | drain => exact h.abandonSwitch

theorem advanceSeq {i} (h : d.SameResets e) : d.SameResets (e.advanceSeq i) := .count (.upd h.upd)

theorem decideFail {i cause skip} (h : d.SameResets e) : d.SameResets (e.decideFail i cause skip) :=
  have hjoins := (h.sends (Dev.Sends.refl e).count.toChildren).advanceSeq.each fun h => h.joinFail
  .ite hjoins.abandonSwitch hjoins

theorem killHoist {i} (h : d.SameResets e) : d.SameResets (e.killHoist i) :=
  .ite h (.decideFail (.ite h (h.sends (Dev.Sends.refl e).sendHoist)))

theorem killHoists {p} (h : d.SameResets e) : d.SameResets (e.killHoists p) := h.each fun h => h.killHoist

/-! ### Models -/

theorem setModel {s m} (h : d.SameResets e) : d.SameResets (e.setModel s m) := h.upd
theorem setSession {s i x} (h : d.SameResets e) : d.SameResets (e.setSession s i x) := h.setModel

theorem answer {s i tag op st made} (h : d.SameResets e) : d.SameResets (e.answer s i tag op st made) :=
  .count (h.setSession.sends (Dev.Sends.refl _).sendRsp)

theorem deliver256 {s i tag flags recs} (h : d.SameResets e) : d.SameResets (e.deliver256 s i tag flags recs).1 :=
  .count (h.setSession.sends (Dev.Sends.refl _).sendOut)

theorem endGen {s i st flags} (h : d.SameResets e) : d.SameResets (e.endGen s i st flags) := by
  unfold Dev.endGen
  dsimp only
  split
  · exact h
  · exact h.deliver256.setSession

theorem dropRequests {s i} (h : d.SameResets e) : d.SameResets (e.dropRequests s i) := by
  have happs {l : List AppendReq} : d.SameResets (e.each l fun d a => d.answer s i a.tag 2 St.serveSessionLost 0) :=
    h.each fun h => h.answer
  unfold Dev.dropRequests
  refine .setSession (.upd ?_)
  split
  · exact happs.answer
  · exact happs

theorem loseSession {s i} (h : d.SameResets e) : d.SameResets (e.loseSession s i) := by
  unfold Dev.loseSession
  dsimp only
  split
  · exact h
  · refine .setSession ?_
    split
    · exact .answer (.dropRequests (.ite h.set.endGen h.set))
    · exact .dropRequests (.ite h.set.endGen h.set)

theorem modelJob {s st res} (h : d.SameResets e) : d.SameResets (e.modelJob s st res) := by
  unfold Dev.modelJob
  split
  · exact h
  · exact .complete (.ite h.setModel h.setModel.set)

theorem freeReady {s} (h : d.SameResets e) : d.SameResets (e.freeReady s) := by
  unfold Dev.freeReady
  dsimp only
  split
  · exact h
  · exact h.setModel.upd

theorem dropIncoming {s i} (h : d.SameResets e) : d.SameResets (e.dropIncoming s i) :=
  .ite h h.freeReady.setModel.modelJob

theorem syncModels (h : d.SameResets e) : d.SameResets e.syncModels := h.mgmt e.syncModels_mgmt rfl

theorem failModel {s} (h : d.SameResets e) : d.SameResets (e.failModel s) := by
  have hlost : d.SameResets ((e.loseSessions s).freeReady s) := (h.each fun h => h.loseSession).freeReady
  unfold Dev.failModel
  dsimp only
  split
  · exact h
  · refine .syncModels (.modelJob (.set (.setModel ?_)))
    split
    · exact hlost.dropIncoming
    · exact hlost

theorem failModels {p} (h : d.SameResets e) : d.SameResets (e.failModels p) := h.each fun h => h.failModel

/-! ### Tiles -/

theorem jobStep {a} (h : d.SameResets e) : d.SameResets (e.jobStep a) := by
  unfold Dev.jobStep
  dsimp only
  split
  · exact .ite h.modJob.complete h.modJob
  · exact h.modJob

theorem setEcc {t x} (h : d.SameResets e) : d.SameResets (e.setEcc t x) := h.upd
theorem recordNew (h : d.SameResets e) : d.SameResets e.recordNew := .ite h (h.trans ⟨rfl, rfl, rfl⟩)

theorem remapLines {t} (h : d.SameResets e) : d.SameResets (e.remapLines t) :=
  h.setEcc.each fun h => .ite h.set h.setEcc.bump.recordNew

theorem endMarch {t} (h : d.SameResets e) : d.SameResets (e.endMarch t) := by
  unfold Dev.endMarch
  split
  · exact h
  · dsimp only
    split
    · exact h.setEcc.wr
    · exact h.setEcc.wr.jobStep

theorem launchEnds {l c} (h : d.SameResets e) : d.SameResets (e.launchEnds l c) := by
  obtain ⟨r, hr⟩ := e.launchEnds_frame l c
  exact hr ▸ h.upd

theorem tileResets {t c x} (h : d.SameResets e) : d.SameResets (e.tileResets t c x) := by
  have hparts : (e.tileResets t c x).mgmt = e.mgmt ∧ (e.tileResets t c x).now = e.now := by
    unfold Dev.tileResets
    simp only [Dev.setTileState, Dev.set, Dev.wrSat, Dev.wr_mgmt, Dev.setTile_mgmt, Dev.wr_now, Dev.setTile_now, and_self]
  exact h.mgmt hparts.1 hparts.2

theorem tileCleared {t c} (h : d.SameResets e) : d.SameResets (e.tileCleared t c) :=
  .remapLines (.setEcc (h.endMarch.tileResets.each fun h => h.launchEnds))

theorem resetTile {t c} (h : d.SameResets e) : d.SameResets (e.resetTile t c) := by
  by_cases hoff : e.tileState t = tsOff ∨ e.tileState t = tsResetting
  · have hno : e.resetTile t c = e := if_pos hoff
    rwa [hno]
  · by_cases hm : (e.tileCleared t c).modelOf t = none
    · rw [Dev.resetTile_noModel hoff hm]
      exact h.tileCleared
    · obtain ⟨s, hs⟩ := Option.ne_none_iff_exists'.1 hm
      rw [Dev.resetTile_model hoff hs]
      exact h.tileCleared.failModel

/-! ### The store -/

theorem delJob {id} (h : d.SameResets e) : d.SameResets (e.delJob id) := h.modStore

theorem jobFail {j st} (h : d.SameResets e) : d.SameResets (e.jobFail j st) := by
  unfold Dev.jobFail
  split
  · exact h.delJob.modJob
  · exact h.delJob.opOutcome
  · split
    · exact h.delJob
    · exact .sends h.delJob.record.set (Dev.Sends.refl _).release.retryOut
  all_goals exact h.modStore

theorem stopStore (h : d.SameResets e) : d.SameResets e.stopStore := by
  unfold Dev.stopStore
  extract_lets +onlyGivenNames _ _ _ _ d1
  have h1 : d.SameResets d1 := by
    unfold d1
    split
    · exact .complete (.modStore (.each (.modStore (h.each fun h => h.jobFail)) fun h => h.complete))
    · exact .each (.modStore (h.each fun h => h.jobFail)) fun h => h.complete
  split
  · exact h1.modStore.complete
  · exact h1

theorem dropPrograms (h : d.SameResets e) : d.SameResets e.dropPrograms := h.modStore.sends e.dropPrograms_sends

theorem syncStore (h : d.SameResets e) : d.SameResets e.syncStore := by
  obtain ⟨r, hr⟩ := e.syncStore_regs
  exact hr ▸ h.upd

/-! ### Scopes (R483 to R485) -/

theorem clearScope {level target} (h : d.SameResets e) : d.SameResets (e.clearScope level target) := by
  unfold Dev.clearScope
  refine .ite ?die (.ite ?partition (.ite ?cluster (.ite ?store (.ite ?compute h))))
  case die => exact h.flushAttach
  case partition => exact h.killCtxs.killTrigs.clearBindings.clearOps.killTokens.killHoists.failModels
  case cluster => exact h.killCtxs.flushAttach
  case store =>
    exact .ite h.stopStore.dropPrograms.modStore.syncStore h.stopStore.dropPrograms.modStore.wr.set.syncStore
  case compute =>
    exact .upd (.failModels (h.killCtxs.killTrigs.clearBindings.clearOps.killTokens.killHoists.each fun h =>
      .each (.upd (h.each fun h => h.flushAttach)) fun h => h.dropPlaceholders))

theorem cmdLost {ch tag src fab} (h : d.SameResets e) : d.SameResets (e.cmdLost ch tag src fab) :=
  h.sends (Dev.Sends.refl e).cmdLost

/-- A command lost in the flush of a DEVICE reset. -/
theorem flushLost {ch} {k : CmdPkt} (h : d.SameResets e) : d.SameResets (match k.origin with
    | .fabric _ src _ => e.cmdLost ch (nth k.words 1) src true
    | _ => e.cmdLost ch (nth k.words 1) 0) := by
  split
  · exact h.cmdLost
  · exact h.cmdLost

theorem dropJournal (h : d.SameResets e) : d.SameResets { e with mgmt := { e.mgmt with journal := [] } } :=
  ⟨h.resets, h.restartAt, h.now⟩

theorem flushDevice (h : d.SameResets e) : d.SameResets e.flushDevice := by
  unfold Dev.flushDevice
  exact dropJournal (.each (.each (h.clearScope.stopStore.each fun h => h.killHolder) fun h => h.flushLost)
    fun h => .ite h (.each (.sends h (Dev.Sends.refl _).setChan) fun h => h.flushLost))

theorem edgeAbort (h : d.SameResets e) : d.SameResets e.edgeAbort := h.each fun h => h.sendAbort
theorem markReset {level} (h : d.SameResets e) : d.SameResets (e.markReset level) := h.set.wr.count

theorem resetJob {a esc} (h : d.SameResets e) : d.SameResets (e.resetJob a esc) := by
  unfold Dev.resetJob
  dsimp only
  split
  · exact .ite h.modJob.complete h.modJob
  · exact h.modJob

end Dev.SameResets

/-! ### Resets started (R484, R495) -/

/-- A reset below DEVICE where none runs: its scope is reset and cleared. -/
theorem Dev.startReset_alone {d : Dev} (h : d.mgmt.resets = []) {level : Nat} (hlevel : level ≠ rlDevice)
    (target cause c : Nat) : ∃ r : RunReset, r.level = level ∧ r.target = target ∧
      d.startReset level target cause c [] =
        ((({ d with mgmt := { d.mgmt with resets := [r] } } : Dev).markReset level).each (d.scopeTiles level target)
          fun d t => d.resetTile t c).clearScope level target := by
  unfold Dev.startReset
  simp only [h, List.filter_nil, List.find?_nil, if_neg hlevel]
  exact ⟨_, rfl, rfl, rfl⟩

theorem Dev.resets_startReset {d : Dev} (h : d.mgmt.resets = []) {level : Nat} (hlevel : level ≠ rlDevice)
    (target cause c : Nat) :
    (d.startReset level target cause c []).mgmt.resets.map (fun r => (r.level, r.target)) = [(level, target)] := by
  obtain ⟨r, rfl, rfl, heq⟩ := Dev.startReset_alone h hlevel target cause c
  have hsame := (((Dev.SameResets.refl ({ d with mgmt := { d.mgmt with resets := [r] } } : Dev)).markReset
    (level := r.level)).each (l := d.scopeTiles r.level r.target) (f := fun d t => d.resetTile t c) fun h => h.resetTile).clearScope
      (level := r.level) (target := r.target)
  rw [heq, hsame.resets]
  rfl

theorem levelRank_le (l : Nat) : levelRank l ≤ 5 := by
  unfold levelRank
  split_ifs <;> decide

/-- Where no DEVICE reset runs, a forced one does not join another (R495). -/
theorem Dev.no_larger {d : Dev} (h : d.devReset = false) (p : RunReset → Bool) :
    ((d.mgmt.resets.filter p).find? fun r => decide (levelRank rlDevice < levelRank r.level)
      || (r.level = rlDevice && r.target = 0) || (r.level = rlDevice && decide (levelRank rlDevice = 5))) = none := by
  rw [List.find?_eq_none]
  intro r hr
  have hlevel : r.level ≠ rlDevice := by
    have := List.any_eq_false.1 h r (List.mem_of_mem_filter hr)
    simpa using this
  have hrank := levelRank_le r.level
  have hfive : levelRank rlDevice = 5 := by decide
  simp [hlevel, hfive]
  omega

/-- A forced DEVICE reset is added to the running ones that it does not release. -/
theorem Dev.startReset_device {d : Dev} (h : d.devReset = false) (cause : Nat) : ∃ rs, ∃ r : RunReset,
    r.level = rlDevice ∧ r.forced = true ∧
      ({ d with mgmt := { d.mgmt with resets := rs ++ [r] } } : Dev).SameResets
        (d.startReset rlDevice 0 cause 5 [] (forced := true)) := by
  unfold Dev.startReset
  dsimp only
  rw [Dev.no_larger h]
  simp only [if_true]
  refine ⟨_, _, ?_, ?_, .flushDevice (.each (.edgeAbort (.each (.count (.wr (.wr (.wr (.wr (.each (.markReset
    (.refl _)) fun h => h.resetTile)))))) fun h => h.sendPause)) fun h => h.resetJob)⟩
  · rfl
  · rfl

theorem Dev.forced_startReset {d : Dev} (h : d.devReset = false) (cause : Nat) :
    ((d.startReset rlDevice 0 cause 5 [] (forced := true)).mgmt.resets.any fun r => r.level = rlDevice && r.forced) =
      true := by
  obtain ⟨rs, r, hlevel, hforced, hsame⟩ := Dev.startReset_device h cause
  rw [hsame.resets]
  simp [hlevel, hforced]

theorem Dev.restartAt_startReset {d : Dev} (h : d.devReset = false) (cause : Nat) :
    (d.startReset rlDevice 0 cause 5 [] (forced := true)).mgmt.restartAt = d.mgmt.restartAt := by
  obtain ⟨rs, r, -, -, hsame⟩ := Dev.startReset_device h cause
  exact hsame.restartAt

theorem Dev.now_startReset {d : Dev} (h : d.devReset = false) (cause : Nat) :
    (d.startReset rlDevice 0 cause 5 [] (forced := true)).now = d.now := by
  obtain ⟨rs, r, -, -, hsame⟩ := Dev.startReset_device h cause
  exact hsame.now

end Sys2Proof.Machine
end

section
/-! PROOF. The fault state, its history, the watchdogs and the restarts of Thidan (spec/17, R470, R471, R475, R479 to
R481, R505; spec/15, R411). -/

namespace Sys2Proof.Machine

/-! ### The fault state (R470) -/

theorem Dev.Sends.stateEntry {d e : Dev} {c d0 : Nat} (h : d.Sends e) : d.Sends (e.stateEntry c d0) := h.histPush

theorem Dev.Sends.fltState {d e : Dev} (h : d.Sends e) : e.fltState = d.fltState := h.rd _ (by decide) ..

theorem Dev.Sends.recov {d e : Dev} (h : d.Sends e) : e.mgmt.recov = d.mgmt.recov :=
  (congrArg (fun d : Dev => d.mgmt.recov) h.still :)

theorem Dev.Sends.thdDown {d e : Dev} (h : d.Sends e) : e.mgmt.thdDown = d.mgmt.thdDown :=
  (congrArg (fun d : Dev => d.mgmt.thdDown) h.still :)

/-- The recoveries in the window, with one more now. -/
def Dev.recoveries (d : Dev) : List Nat :=
  (d.mgmt.recov.filter fun t => decide (d.now < t + d.struckWinNs)) ++ [d.now]

/-- A recovery noted (R470). -/
def Dev.recovered (d : Dev) : Dev :=
  let d' : Dev := { d with mgmt := { d.mgmt with recov := d.recoveries } }
  let d' := (d'.bump R.FLT_CNT1_RECOVERIES).wrSat R.FLT_STAT_WIN_RECOV d.recoveries.length
  (d'.stateEntry 1).wr R.FLT_STAT_QUIET_LEFT 0

theorem Dev.rd_recovered (d : Dev) {f : Fld} (hf : Unsent f) (hr : R.FLT_CNT1_RECOVERIES.id ≠ f.id)
    (hw : R.FLT_STAT_WIN_RECOV.id ≠ f.id) (hq : R.FLT_STAT_QUIET_LEFT.id ≠ f.id) (i k : Nat) :
    d.recovered.rd f i k = d.rd f i k :=
  (Dev.rd_wr_other _ hq ..).trans (((Dev.Sends.refl _).stateEntry.rd f hf i k).trans
    ((Dev.rd_wr_other _ hw ..).trans (Dev.rd_wr_other _ hr ..)))

theorem Dev.recov_recovered (d : Dev) : d.recovered.mgmt.recov = d.recoveries :=
  (Dev.Sends.refl _).stateEntry.recov

theorem quietTimerExpiry_recovers {d : Dev} (hflt : d.fltState = 1) (hquiet : d.mgmt.quietAt ≤ d.now)
    (hfew : d.recoveries.length ≤ d.rd R.FLT_CFG_STRUCK_N) : quietTimerExpiry d =
      (d.recovered.wr R.FLT_STAT_STATE 0).sendEvent 0x0011 [d.recovered.mgmt.eseq, 0x0F, 1] := by
  have hgo : ¬(d.fltState ≠ 1 ∨ d.now < d.mgmt.quietAt) := by omega
  have hmany : ¬d.recovered.rd R.FLT_CFG_STRUCK_N < d.recoveries.length := by
    rw [Dev.rd_recovered _ (by decide) (by decide) (by decide) (by decide)]
    omega
  unfold quietTimerExpiry
  rw [if_neg hgo]
  exact if_neg hmany

theorem Dev.fltState_irq (d : Dev) (n : Nat) : (d.irq n).fltState = d.fltState :=
  d.rd_irq_other (g := R.FLT_STAT_STATE) (by decide) n 0 0 false

theorem Dev.fltState_restartQuiet (d : Dev) : d.restartQuiet.fltState = d.fltState := Dev.rd_wr_other _ (by decide) ..

theorem Dev.fltState_latchStruck (d : Dev) : d.latchStruck.fltState = 2 := by
  unfold Dev.latchStruck
  rw [(Dev.Sends.refl _).histPush.sendEvent.fltState, Dev.fltState_irq]
  exact (Dev.rd_wr_other _ (by decide) ..).trans ((Dev.rd_set_other _ (by decide) ..).trans (Dev.rd_wr_self ..))

/-- FAULT entered again from STRUCK, by a command (R470). -/
def Dev.unstruck (d : Dev) : Dev :=
  let d' : Dev := { d with mgmt := { d.mgmt with faultSince := d.now } }
  (((d'.wr R.FLT_STAT_STATE 1).set R.FLT_STAT_FAULT_SEEN).irq d.irqMask).restartQuiet.stateEntry 3

theorem Dev.fltState_unstruck (d : Dev) : d.unstruck.fltState = 1 := by
  unfold Dev.unstruck
  rw [(Dev.Sends.refl _).stateEntry.fltState, Dev.fltState_restartQuiet, Dev.fltState_irq]
  exact (Dev.rd_set_other _ (by decide) ..).trans (Dev.rd_wr_self ..)

theorem Dev.irq_mgmt (d : Dev) (n : Nat) (c : Bool) : (d.irq n c).mgmt = d.mgmt := by
  unfold Dev.irq
  dsimp only
  split <;> rfl

theorem Dev.restartQuiet_journal (d : Dev) : d.restartQuiet.mgmt.journal = d.mgmt.journal := rfl
theorem Dev.restartQuiet_recov (d : Dev) : d.restartQuiet.mgmt.recov = d.mgmt.recov := rfl

theorem Dev.job?_unstruck (d : Dev) (a : Nat) : d.unstruck.job? a = d.job? a := by
  refine Dev.job?_of_journal ?_ a
  rw [Dev.unstruck, Dev.stateEntry, Dev.histPush_journal, Dev.restartQuiet_journal, Dev.irq_mgmt, Dev.set, Dev.wr_mgmt,
    Dev.wr_mgmt]

theorem Dev.recov_unstruck (d : Dev) : d.unstruck.mgmt.recov = d.mgmt.recov := by
  rw [Dev.unstruck, (Dev.Sends.refl _).stateEntry.recov, Dev.restartQuiet_recov, Dev.irq_mgmt, Dev.set, Dev.wr_mgmt,
    Dev.wr_mgmt]

/-- The device on which FLT_CLEAR has cleared the recoveries. -/
def Dev.unrecovered (d : Dev) : Dev := ({ d with mgmt := { d.mgmt with recov := [] } } : Dev).wr R.FLT_STAT_WIN_RECOV 0

theorem fltClear_clears {d : Dev} {aseq : Nat} {j : JEntry} (hb : Begun d aseq 0x0602 j) (hflt : d.fltState = 2) :
    fltClear aseq d = (d.began aseq).unrecovered.unstruck.complete aseq St.ok := by
  have hflt' : (d.began aseq).unrecovered.fltState = 2 := (Dev.rd_wr_other _ (by decide) ..).trans hflt
  unfold fltClear
  rw [Dev.cmd_of_begun hb]
  change Dev.complete (if (d.began aseq).unrecovered.fltState = 2 then (d.began aseq).unrecovered.unstruck
    else (d.began aseq).unrecovered) aseq St.ok = _
  rw [if_pos hflt']

/-! ### Watchdogs (R479) -/

theorem Dev.resets_watchdogEvent {d : Dev} (h : d.mgmt.resets = []) (b c i : Nat) :
    (d.watchdogEvent b c i).mgmt.resets = [] := (Dev.SameResets.refl d).count.faultEvent.resets.trans h

theorem Dev.tileState_watchdogEvent (d : Dev) (b c i t : Nat) : (d.watchdogEvent b c i).tileState t = d.tileState t :=
  (Dev.SameCtxs.refl (d.count 0x0F 0 3 b)).faultEvent.rd _ (by decide) ..

theorem Dev.models_watchdogEvent (d : Dev) (b c i : Nat) : (d.watchdogEvent b c i).models = d.models :=
  (congrArg Dev.models ((d.count 0x0F 0 3 b).calm_faultEvent b c i 0 0 0) :)

/-- The TILE reset of a tile that runs and that no model holds. -/
theorem Dev.tileState_startReset {d : Dev} {t : Nat} (h : d.mgmt.resets = []) (hst : d.tileState t = tsRunning)
    (hm : d.modelOf t = none) (cause c : Nat) : (d.startReset rlTile t cause c []).tileState t = tsResetting := by
  obtain ⟨r, hr⟩ := Dev.startReset_tile h t cause c
  rw [hr]
  generalize he : ({ d with mgmt := { d.mgmt with resets := [r] } } : Dev).markReset rlTile = e
  have hst' : e.tileState t = tsRunning := by
    rw [← he]
    exact (Dev.rd_wr_other _ (by decide) ..).trans ((Dev.rd_set_other _ (by decide) ..).trans hst)
  have hmodels : e.models = d.models := by
    rw [← he]
    rfl
  have hmark := Prod.mk.inj (e.resetMark_tileCleared t c)
  have hnone : (e.tileCleared t c).modelOf t = none := (Dev.modelOf_of_models (hmark.1.trans hmodels) t).trans hm
  rw [Dev.resetTile_noModel (by rw [hst']; decide) hnone]
  exact (Prod.mk.inj hmark.2).1

theorem watchdog_resets {d : Dev} {t : Nat} (hst : d.tileState t = tsRunning) (hprog : (d.tile t).prog.isSome = true) :
    watchdog t d = (d.watchdogEvent 0x0A 0x01 t).startReset rlTile t 2 3 [] := by
  have hgo : ¬(d.tileState t ≠ tsRunning ∨ (d.tile t).prog.isNone = true) := by
    rw [← Option.not_isSome, hprog]
    simp [hst]
  exact if_neg hgo

/-! ### Thidan's restarts (R411, R480) -/

theorem heartbeatLost_restarts {d : Dev} (hdev : d.devReset = false) (hnone : d.mgmt.restartAt = none)
    (hup : d.mgmt.thdDown = false) (hlate : d.mgmt.heartbeat + 1000000 * max 5 (d.rd R.FLT_WDCFG_THD_HB_MS) ≤ d.now) :
    (heartbeatLost d).mgmt.thdDown = true ∧ (heartbeatLost d).mgmt.restartAt = some d.now ∧
      (heartbeatLost d).rd R.THD_STAT_STATE = 3 := by
  have hgo : ¬(d.devReset = true ∨ d.mgmt.restartAt.isSome = true ∨ d.mgmt.thdDown = true ∨
      d.now < d.mgmt.heartbeat + 1000000 * max 5 (d.rd R.FLT_WDCFG_THD_HB_MS)) := by
    simp [hdev, hnone, hup, hlate]
  have hnow : (d.watchdogEvent 0x0E 0x01 0).now = d.now :=
    (congrArg Dev.now ((d.count 0x0F 0 3 0x0E).calm_faultEvent 0x0E 0x01 0 0 0 0) :)
  unfold heartbeatLost
  rw [if_neg hgo]
  refine ⟨rfl, congrArg some hnow, ?_⟩
  exact (Dev.rd_wr_other _ (by decide) ..).trans (Dev.rd_wr_self ..)

/-- The device on which Thidan runs again. -/
def Dev.thidanUp (d : Dev) : Dev := ({ d with mgmt := { d.mgmt with thdDown := false } } : Dev).wr R.THD_STAT_STATE 2

theorem thidanRestartComplete_settles {d : Dev} {j : JEntry} (hdown : d.mgmt.thdDown = true)
    (hone : (d.mgmt.journal.filter fun j => j.phase = .begun || j.phase = .running) = [j])
    (hrerun : rerunOps.contains j.op = false) :
    thidanRestartComplete d = d.thidanUp.complete j.aseq St.thdRestarted := by
  unfold thidanRestartComplete
  rw [if_neg (by simp [hdown])]
  dsimp only
  rw [hone]
  exact if_neg (by rw [hrerun]; decide)

theorem Dev.forceReset_ready {d : Dev} (h : d.bootPhase = bpReady) (cause : Nat) :
    d.forceReset cause = d.startReset rlDevice 0 cause 5 [] (forced := true) := if_pos h

/-- The device on which a restart of Thidan has failed. -/
def Dev.restartFailed (d : Dev) : Dev :=
  let d := d.faultEvent 0x0E 0x02 0
  { d with mgmt := { d.mgmt with restartAt := none, restarts := [] } }

theorem Dev.devReset_restartFailed {d : Dev} (h : d.devReset = false) : d.restartFailed.devReset = false := by
  have hres : d.restartFailed.mgmt.resets = d.mgmt.resets := ((Dev.SameResets.refl d).faultEvent).resets
  rw [Dev.devReset, hres]
  exact h

theorem Dev.bootPhase_restartFailed (d : Dev) : d.restartFailed.bootPhase = d.bootPhase :=
  (Dev.SameCtxs.refl d).faultEvent.rd _ (by decide) ..

theorem restartFail_forces {d : Dev} {t : Nat} (ht : d.mgmt.restartAt = some t) (hdev : d.devReset = false)
    (hlate : t + 500000000 ≤ d.now) (hready : d.bootPhase = bpReady) :
    restartFail d = d.restartFailed.startReset rlDevice 0 3 5 [] (forced := true) := by
  have hgo : ¬(d.devReset = true ∨ (d.now < t + 500000000 ∧ d.fourRestarts = false)) := by
    rintro (hreset | ⟨hearly, -⟩)
    · rw [hdev] at hreset
      cases hreset
    · omega
  unfold restartFail
  simp only [ht]
  rw [if_neg hgo]
  exact Dev.forceReset_ready (d.bootPhase_restartFailed.trans hready) 3

theorem hwWatchdog_forces {d : Dev} (hdev : d.devReset = false) (hheld : d.mgmt.boot.held = false)
    (hlate : d.mgmt.kick + 50000000 ≤ d.now) (hready : d.bootPhase = bpReady) :
    (hwWatchdog d).mgmt.hwLatch = true ∧ (hwWatchdog d).mgmt.kick = d.now ∧
      ((hwWatchdog d).mgmt.resets.any fun r => r.level = rlDevice && r.forced) = true := by
  have hgo : ¬(d.devReset = true ∨ d.mgmt.boot.held = true ∨ d.now < d.mgmt.kick + 50000000) := by
    rw [hdev, hheld]
    simpa using hlate
  have hready' : (d.count 0x0F 0 3 0x0F).bootPhase = bpReady := hready
  have hdev' : (d.count 0x0F 0 3 0x0F).devReset = false := hdev
  unfold hwWatchdog
  rw [if_neg hgo, Dev.forceReset_ready hready']
  exact ⟨rfl, Dev.now_startReset hdev' 4, Dev.forced_startReset hdev' 4⟩

/-- Settles O24: past its checks each event comes down to a few registers and timers of the fault state, or to a reset,
of which only the start (the list of running resets) is read. -/
theorem faultStateAndWatchdogs : Obligations.FaultStateAndWatchdogs := by
  unfold Obligations.FaultStateAndWatchdogs
  refine ⟨?history, ?quiet, ?struck, ?clear, ?tile, ?engine, ?seq, ?dispatch, ?ctrl, ?heartbeat, ?lost, ?restarted, ?failed,
    ?kick, ?hardware⟩
  case history =>
    intro s aseq j hb hkind
    refine Does.answers (e := s.dev.began aseq) rfl hb ?_ rfl
    unfold fltHistRead
    rw [Dev.cmd_of_begun hb, Dev.bufOut_none hkind, Dev.job?_aseq hb.1]
    rfl
  case quiet =>
    intro s hflt hquiet hfew
    refine Does.of_act rfl ?_
    rw [quietTimerExpiry_recovers hflt hquiet hfew]
    have hsends := (Dev.Sends.refl (s.dev.recovered.wr R.FLT_STAT_STATE 0)).sendEvent (code := 0x0011)
      (ws := [s.dev.recovered.mgmt.eseq, 0x0F, 1]) |>.platform s.dev
    exact ⟨hsends.fltState.trans (Dev.rd_wr_self ..), hsends.recov.trans s.dev.recov_recovered⟩
  case struck =>
    intro s hflt hwin
    refine Does.of_act_mute rfl (fun _ _ h => h) ?_
    rw [struckWindowExpiry, if_pos ⟨hflt, hwin⟩]
    exact s.dev.fltState_latchStruck
  case clear =>
    intro s aseq j hb hflt
    refine Does.completes rfl hb (fltClear_clears hb hflt) (Dev.job?_unstruck ..) fun d hd => ?_
    exact ⟨hd.fltState.trans (Dev.fltState_unstruck _), hd.recov.trans (Dev.recov_unstruck _)⟩
  case tile =>
    intro s t hst hprog hres hmodel
    have hres' := Dev.resets_watchdogEvent hres 0x0A 0x01 t
    refine Does.of_act_mute rfl (fun _ _ h => h) ?_
    rw [watchdog_resets hst hprog]
    refine ⟨Dev.tileState_startReset hres' ?_ ?_ .., Dev.resets_startReset hres' (by decide) ..⟩
    · rw [Dev.tileState_watchdogEvent, hst]
    · rw [Dev.modelOf_of_models (Dev.models_watchdogEvent ..), hmodel]
  case engine =>
    intro s e hbusy hres
    refine Does.of_act_mute rfl (fun _ _ h => h) ?_
    rw [engineHang, if_pos hbusy]
    exact Dev.resets_startReset (Dev.resets_watchdogEvent hres ..) (by decide) ..
  case seq =>
    intro s q hrun hres
    refine Does.of_act_mute rfl (fun _ _ h => h) ?_
    rw [seqHang, if_pos hrun]
    exact Dev.resets_startReset (Dev.resets_watchdogEvent hres ..) (by decide) ..
  case dispatch =>
    intro s q hwait hres
    refine Does.of_act_mute rfl (fun _ _ h => h) ?_
    rw [dispatchHang, if_pos hwait]
    exact Dev.resets_startReset (Dev.resets_watchdogEvent hres ..) (by decide) ..
  case ctrl =>
    intro s hbusy hres
    refine Does.of_act_mute rfl (fun _ _ h => h) ?_
    rw [ctrlHang, if_pos (.inr hbusy)]
    exact Dev.resets_startReset (Dev.resets_watchdogEvent hres ..) (by decide) ..
  case heartbeat =>
    intro s hup
    refine Does.of_act_mute rfl (fun _ _ h => h) ?_
    rw [thidanHeartbeat, hup]
    exact ⟨rfl, rfl⟩
  case lost =>
    intro s hdev hnone hup hlate
    exact Does.of_act_mute rfl (fun _ _ h => h) (heartbeatLost_restarts hdev hnone hup hlate)
  case restarted =>
    intro s j hdown hone hjob hrerun horigin hlost
    have hup : s.dev.thidanUp.job? j.aseq = some j := hjob
    refine Does.of_act rfl ?_
    rw [thidanRestartComplete_settles hdown hone hrerun]
    refine ⟨Dev.answered_platform _ (Dev.complete_pcie hup horigin hlost ..), ?_⟩
    exact ((Dev.Sends.refl s.dev.thidanUp).complete.platform s.dev).thdDown
  case failed =>
    intro s t ht hdev hlate hready
    have hdev' := Dev.devReset_restartFailed hdev
    refine Does.of_act_mute rfl (fun _ _ h => h) ?_
    rw [restartFail_forces ht hdev hlate hready]
    exact ⟨Dev.restartAt_startReset hdev' 3, Dev.forced_startReset hdev' 3⟩
  case kick =>
    intro s
    exact Does.of_act_mute rfl (fun _ _ h => h) rfl
  case hardware =>
    intro s hdev hheld hlate hready
    exact Does.of_act_mute rfl (fun _ _ h => h) (hwWatchdog_forces hdev hheld hlate hready)

end Sys2Proof.Machine
end
